-- ==== Sys2Proof/Word.lean ====
section
/-!
DEFINITION. The words of the module: bytes, 32-bit and 64-bit words, and the three conversions the whole
model uses. Multi-byte values are little-endian unless a definition says otherwise (R8, R9).
-/
namespace Sys2Proof

/-- One byte. -/
abbrev Byte := BitVec 8
/-- A 32-bit word: a register of a lamp, an SRF register, a word of a tile. -/
abbrev Word := BitVec 32
/-- A 64-bit word: an accumulator, a serial number, a TAI second. -/
abbrev Dword := BitVec 64

/-- The two's complement value of a word. -/
abbrev sval (w : Word) : Int := w.toInt
/-- The unsigned value of a word. -/
abbrev uval (w : Word) : Nat := w.toNat
/-- The word an integer wraps to, modulo 2³². -/
abbrev wrapW (z : Int) : Word := BitVec.ofInt 32 z

end Sys2Proof
end

