-- ==== Sys2Proof/Syntax/Types.lean ====
section
/-!
DEFINITION. The operand types of the commands: the predicate field of a Mitrane instruction, a program image.
-/
namespace Sys2Proof

/-- The field pq of an instruction (R164): it takes effect when p[P] XOR N = 1. -/
structure PQ where
  n : Bool
  p : Fin 8
  deriving DecidableEq, Repr

/-- The directions of SHI (R167). -/
inductive ShDir where
  | shl | shr | sra
  deriving DecidableEq, Repr

/-- An entry record of a program image (R194). -/
structure ImgEntry where
  id : Nat
  kind : Nat
  addr : Nat
  pages : Nat
  deriving DecidableEq, Repr

/-- A tile record of a program image with its payload's non-zero bytes (R194). -/
structure ImgTile where
  ident : Nat
  kind : Nat
  page : Nat
  flags : Nat
  payload : List (Nat × Byte)
  deriving DecidableEq, Repr

/-- An instance record (R194). -/
structure ImgInst where
  ident : Nat
  off : Nat
  type : Nat
  key : Word
  deriving DecidableEq, Repr

/-- A relocation record (R194). -/
structure ImgReloc where
  tile : Nat
  word : Nat
  deriving DecidableEq, Repr

/-- A program image as its header and body give it (R193, R194). -/
structure Image where
  kind : Nat
  pkey : Word
  digest : List Byte
  entries : List ImgEntry
  tiles : List ImgTile
  insts : List ImgInst
  relocs : List ImgReloc
  /-- the 96 bytes of its header and its signature block (R193, R454) -/
  head : List Byte
  block : List Byte
  deriving DecidableEq, Repr

/-- One ASDU of a sampled-value frame as the ingest reads it (R270, R272): whether its options and dataset types are
supported, svID, confRev, smpSynch, smpCnt, and for each dataset entry the INT32 value and the quality. -/
structure SvAsdu where
  format : Bool
  svid : List Byte
  confRev : Word
  synch : Nat
  cnt : Nat
  chans : List (Word × Word)
  deriving DecidableEq, Repr

/-- A frame received at a switch port: the bytes from the destination address to the last byte before the FCS, whether the
FCS is good and the PCS saw a code error, the receive stamp in TAI ns (R302), and the ASDUs of a sampled-value frame as
the ingest reads them. -/
structure RxFrame where
  port : Fin 40
  bytes : List Byte
  fcsOk : Bool
  codeErr : Bool
  t : Nat
  asdus : List SvAsdu
  deriving DecidableEq, Repr

/-- A frame received on a CAN bus (R328, R333, R342): identifier, IDE, RTR, format (0 CC, 1 FD, 2 XL), BRS, ESI, the SEC bit and
the fields of an XL frame, data, and the start-of-frame counter and absolute tick of its start. -/
structure CanFrame where
  ident : BitVec 29
  ide : Bool
  rtr : Bool
  fmt : Fin 3
  brs : Bool
  esi : Bool
  sec : Bool
  sdt : Byte
  vcid : Byte
  af : Word
  data : List Byte
  sof : Word
  sofTick : Word
  deriving DecidableEq, Repr

/-- An exchange record (R409) as a unit receives it; its CRC is good or not. -/
structure ExRec where
  src : Nat
  ttl : Nat
  kind : Nat
  flags : Nat
  tstamp : Word
  chan : Nat
  npoints : Nat
  ident : Word
  body : List Byte
  crcOk : Bool
  deriving DecidableEq, Repr

/-- A beacon (R396). -/
structure Beacon where
  delta : Nat
  hops : Nat
  tick : Nat
  root : Bool
  step : Bool
  utcValid : Bool
  leap61 : Bool
  leap59 : Bool
  holdover : Bool
  rtc : Bool
  up : Nat
  sec : Nat
  stepNs : Int
  stepAt : Word
  utcOfs : Nat
  epoch : Nat
  src : Nat
  chkOk : Bool
  deriving DecidableEq, Repr

/-- What a unit appends to an ENUM (R46, R406): serial number, stored address, the serial numbers and addresses stored for its
upstream and downstream ring-A neighbours, SLOT_ID and the straps. -/
structure EnumUnit where
  serial : Nat
  addr : Option Nat
  up : Option (Nat × Nat)
  down : Option (Nat × Nat)
  slot : Nat
  master : Bool
  witness : Bool
  deriving DecidableEq, Repr

/-- One unit of an ASSIGN (R406, R407): serial number, address, or none with the JOIN_ERR code, and ROLE. -/
structure AssignUnit where
  serial : Nat
  addr : Option Nat
  err : Nat
  role : Nat
  deriving DecidableEq, Repr

/-- An ASSIGN: the units in ring-A order, the effect tick, the takeover witness (R404), the buoy that serves as witness
(R6) and the shares (R411). -/
structure Assign where
  units : List AssignUnit
  eff : Nat
  takeover : Option Nat
  witness : Option Nat
  shares : List (Nat × Nat)
  deriving DecidableEq, Repr

/-- A management-lane packet (R414). -/
structure MgmtPkt where
  dst : Nat
  src : Nat
  type : Nat
  seq : Nat
  ttl : Nat
  payload : List Byte
  crcOk : Bool
  deriving DecidableEq, Repr

/-- How a transmission attempt ends (R334, R348): with success, lost arbitration, an error, or an ACK error. -/
inductive CanTxEnd where
  | sent | lost | error | noAck
  deriving DecidableEq, Repr

/-- A dataset's entry of an LSTATE record (R423). -/
structure LEntry where
  idx : Nat
  stNum : Nat
  sqNum : Nat
  interval : Nat
  left : Nat
  deriving DecidableEq, Repr

/-- A decision of the witness (R429, R431): code, cause, effect tick, and the pair's addresses. -/
structure Decision where
  low : Nat
  high : Nat
  code : Nat
  cause : Nat
  eff : Nat
  deriving DecidableEq, Repr

/-- The header of a lanyard record as a twin receives it (R423); its CRC is good or not. -/
structure LanRec where
  ident : Word
  gen : Word
  tstamp : Word
  seq : Word
  crcOk : Bool
  deriving DecidableEq, Repr

/-- A segment of a twin's configuration (R242 step 2): a partition's program image with the location and LINK of each tile
of its manifest and whether its signatures pass R196, or words of the schedule and grant banks by register address. -/
inductive CfgSeg where
  | program (part : Nat) (image : Image) (map : List (Nat × Nat)) (verified : Bool)
  | words (ws : List (Nat × Word))
  deriving DecidableEq, Repr

/-- How a Mooring client reaches the module (R527): its UDP address and port with the switch port its datagrams arrive on, or a
unit of the hawser. -/
structure MoorPath where
  hawser : Bool
  addr : Nat
  port : Nat
  sw : Nat
  deriving DecidableEq, Repr

/-- A certificate chain as the vault's parser gives it from its DER bytes (R531, R454): the keys its upper end verifies under and
the keys of its leaf (P-384 point of 97 bytes, then ML-DSA-65 key of 1,952), whether its signatures and form pass, the ROLE its leaf's
role attribute names, and the UTC seconds between which it is valid. -/
structure CertChain where
  root : List Byte
  leaf : List Byte
  valid : Bool
  attr : Option Nat
  notBefore : Nat
  notAfter : Nat
  deriving DecidableEq, Repr, Inhabited

/-- What a module's start reads at its pins and sensors (R45, R456): the three samples of the straps (bits 5–0 SLOT_ID, bit 6 MASTER, bit 7
WITNESS), the sensors active, and whether the restored safety configuration fails its recorded digest (R547). -/
structure StartIn where
  s1 : BitVec 8
  s2 : BitVec 8
  s3 : BitVec 8
  sensors : BitVec 5
  safeBad : Bool
  deriving DecidableEq, Repr

/-- A transceiver's identification (R38, R39): for fibre, rates, power drawn in mW. -/
structure Xcvr where
  fibre : Bool
  tenG : Bool
  oneG : Bool
  mW : Nat
  deriving DecidableEq, Repr

/-- What a landing reads from outside (R17, R84, R359, R396): the supply voltages in units of 0.2 V, the measured delay of each hawser link,
the power drawn at each SPE port, the last samples of SI0–SI15 and the read-back states of SQ0–SQ7. -/
structure LandIn where
  v24 : BitVec 8
  vfld : BitVec 8
  vso : BitVec 8
  hold : BitVec 8
  delays : List (Nat × Nat)
  watts : List (Nat × Nat)
  si : BitVec 16
  sq : BitVec 8
  deriving DecidableEq, Repr

/-- What the metrology die has measured in an interval of 100 ms (R466, R476): a phase below 161 V, Urms of VA, VB and VC, the
frequency, for each element P, Q, Urms and Irms (binary32), and the energy added to register r of element e, at 6 e + r. -/
structure MeasIn where
  nov : Bool
  u : List Word
  freq : Word
  elems : List (List Word)
  energy : List (Nat × Nat)
  deriving DecidableEq, Repr

end Sys2Proof
end

