-- ==== Sys2Proof/Syntax.lean ====
section
/-!
DEFINITION. The commands of the block: one constructor for each row of spec/opcode_table.json, in the table's order.
An operand is what the command carries from outside (which lamp, register, port or partition, the bytes of a frame);
everything else a command's effect depends on stands in the state.
-/
namespace Sys2Proof

/-- A command. Each constructor names its row's mnemonic and the rule of spec/ that defines it. -/
inductive Instr where
  /-- CAGE_MODULE_PRESENT (R39) -/
  | cageModulePresent (cage : Fin 8) (x : Xcvr)
  /-- TRANSCEIVER_REMOVED (R40) -/
  | transceiverRemoved (cage : Fin 8)
  /-- PROBE_VREF_CHANGE (R60) -/
  | probeVrefChange (up : Bool)
  /-- SEAT_DEBOUNCE_DONE (R48) -/
  | seatDebounceDone
  /-- NOT_SEATED_TIMEOUT (R49) -/
  | notSeatedTimeout
  /-- STRAP_CHANGED (R45) -/
  | strapChanged
  /-- EXTRACT_REQ_ASSERTED (R47) -/
  | extractReqAsserted
  /-- EXTRACT_REQ_RELEASED (R47) -/
  | extractReqReleased
  /-- EXTRACT_CONSENT (R51) -/
  | extractConsent
  /-- EXTRACT_REFUSED (R52) -/
  | extractRefused (partnerServing : Bool)
  /-- EXTRACT_CONSENT_TIMEOUT (R52) -/
  | extractConsentTimeout
  /-- EXTRACT_READY (R51) -/
  | extractReady
  /-- EXTRACT_REFUSED_LED_END (R52) -/
  | extractRefusedLedEnd
  /-- EXTRACT_UNPLANNED (R56) -/
  | extractUnplanned
  /-- WITNESS_EXTRACT_REQUEST (R53) -/
  | witnessExtractRequest (src : Fin 64) (both : Bool)
  /-- VFLD_CONNECT (R67) -/
  | vfldConnect
  /-- VFLD_LOW (R67) -/
  | vfldLow
  /-- VFLD_OV (R67) -/
  | vfldOv
  /-- VSO_CONNECT (R67) -/
  | vsoConnect
  /-- VSO_LOW (R67) -/
  | vsoLow
  /-- VSO_OV (R67) -/
  | vsoOv
  /-- V24_OV (R66) -/
  | v24Ov
  /-- PF_DIP (R71) -/
  | pfDip
  /-- DIP_RECOVERED (R71) -/
  | dipRecovered
  /-- PF_COMMIT (R71) -/
  | pfCommit (low : Bool)
  /-- PF_DOWN (R71) -/
  | pfDown
  /-- HOLD_OK_REACHED (R70) -/
  | holdOkReached (emptied : Bool)
  /-- RESET_RELEASE (R547) -/
  | resetRelease (inp : StartIn)
  /-- BOOT_TIMEOUT (R548) -/
  | bootTimeout
  /-- STANDALONE_START (R547) -/
  | standaloneStart
  /-- START_TICK (R546) -/
  | startTick
  /-- PLL_LOCK_LOSS (R87) -/
  | pllLockLoss
  /-- CLK_TICK (R87) -/
  | clkTick
  /-- LANDING (R92) -/
  | landing (inp : LandIn)
  /-- SLOT_ENTRY (R99) -/
  | slotEntry (l : Fin 64) (slot : Fin 16)
  /-- OVERRUN (R218) -/
  | overrun (l : Fin 64)
  /-- LAUNCH (R92) -/
  | launch
  /-- TRIP_REPEAT_DUE (R286) -/
  | tripRepeatDue (j : Fin 64)
  /-- STRETCHED_TICK (R91) -/
  | stretchedTick
  /-- SWAP (R103) -/
  | swap
  /-- CANCEL (R103) -/
  | cancel
  /-- SWAP_CHECK (R103) -/
  | swapCheck
  /-- SWAP_ACTIVATE (R103) -/
  | swapActivate
  /-- REGISTER_WRITE (R10) -/
  | registerWrite (a : BitVec 32) (w : Word)
  /-- READ_CLEAR (R10) -/
  | readClear (a : BitVec 32)
  /-- TS_ALLOC (R129) -/
  | tsAlloc (loc : Fin 4096) (link : Fin 64)
  /-- TS_FREE (R129) -/
  | tsFree (loc : Fin 4096)
  /-- BANK_STEP (R122) -/
  | bankStep (b : Fin 64)
  /-- REPAIR_SOURCE_DELIVERED (R125) -/
  | repairSourceDelivered (b : Fin 64) (tile : List (Nat × Byte))
  /-- REPAIR_SOURCE_TIMEOUT (R125) -/
  | repairSourceTimeout (b : Fin 64)
  /-- SCRUB (R123) -/
  | scrub
  /-- MBX_BIND (R557) -/
  | mbxBind (m : Fin 512) (w : Word)
  /-- TILE_OP_COMPLETE (R116) -/
  | tileOpComplete (l : Fin 64)
  /-- SPARE_COUNT_WRITE (R138) -/
  | spareCountWrite (v : Word)
  /-- SELFTEST_START (R238) -/
  | selftestStart (pos : Fin 64)
  /-- SELFTEST_PASS_DONE (R239) -/
  | selftestPassDone (pos : Fin 64) (ok : Bool)
  /-- LAMP_MIGRATION_START (R240) -/
  | lampMigrationStart (pos : Fin 64)
  /-- CODE_PAGE_COPY (R147) -/
  | codePageCopy (l : Fin 64) (page : Fin 16)
  /-- ALLOT (R154) -/
  | partAllot (part : Fin 128) (owner : Bool)
  /-- START (R154) -/
  | partStart (part : Fin 128) (owner : Bool)
  /-- STOP (R154) -/
  | partStop (part : Fin 128) (owner : Bool)
  /-- RESTART (R154) -/
  | partRestart (part : Fin 128) (owner : Bool)
  /-- END (R26) -/
  | endTenancy (part : Fin 128) (owner : Bool)
  /-- PARTITION_RUNNING (R154) -/
  | partitionRunning (part : Fin 128)
  /-- ZEROISATION_DONE (R26) -/
  | zeroisationDone (part : Fin 128)
  /-- EVT_ROUTE_WRITE (R158) -/
  | evtRouteWrite (n : Fin 512) (w : Word)
  /-- ILLEGAL_INSTRUCTION (R162) -/
  | illegalInstruction (l : Fin 64) (word : Word)
  /-- ADD (R167) -/
  | add (l : Fin 64) (q : PQ) (rd : Fin 32) (ra : Fin 32) (rb : Fin 32)
  /-- SUB (R167) -/
  | sub (l : Fin 64) (q : PQ) (rd : Fin 32) (ra : Fin 32) (rb : Fin 32)
  /-- AND (R167) -/
  | and (l : Fin 64) (q : PQ) (rd : Fin 32) (ra : Fin 32) (rb : Fin 32)
  /-- OR (R167) -/
  | or (l : Fin 64) (q : PQ) (rd : Fin 32) (ra : Fin 32) (rb : Fin 32)
  /-- XOR (R167) -/
  | xor (l : Fin 64) (q : PQ) (rd : Fin 32) (ra : Fin 32) (rb : Fin 32)
  /-- SHL (R167) -/
  | shl (l : Fin 64) (q : PQ) (rd : Fin 32) (ra : Fin 32) (rb : Fin 32)
  /-- SHR (R167) -/
  | shr (l : Fin 64) (q : PQ) (rd : Fin 32) (ra : Fin 32) (rb : Fin 32)
  /-- SRA (R167) -/
  | sra (l : Fin 64) (q : PQ) (rd : Fin 32) (ra : Fin 32) (rb : Fin 32)
  /-- MIN (R167) -/
  | min (l : Fin 64) (q : PQ) (rd : Fin 32) (ra : Fin 32) (rb : Fin 32)
  /-- MAX (R167) -/
  | max (l : Fin 64) (q : PQ) (rd : Fin 32) (ra : Fin 32) (rb : Fin 32)
  /-- MINU (R167) -/
  | minu (l : Fin 64) (q : PQ) (rd : Fin 32) (ra : Fin 32) (rb : Fin 32)
  /-- MAXU (R167) -/
  | maxu (l : Fin 64) (q : PQ) (rd : Fin 32) (ra : Fin 32) (rb : Fin 32)
  /-- ADDS (R167) -/
  | adds (l : Fin 64) (q : PQ) (rd : Fin 32) (ra : Fin 32) (rb : Fin 32)
  /-- SUBS (R167) -/
  | subs (l : Fin 64) (q : PQ) (rd : Fin 32) (ra : Fin 32) (rb : Fin 32)
  /-- ADDI (R167) -/
  | addi (l : Fin 64) (q : PQ) (rd : Fin 32) (ra : Fin 32) (imm : BitVec 12)
  /-- ANDI (R167) -/
  | andi (l : Fin 64) (q : PQ) (rd : Fin 32) (ra : Fin 32) (imm : BitVec 12)
  /-- ORI (R167) -/
  | ori (l : Fin 64) (q : PQ) (rd : Fin 32) (ra : Fin 32) (imm : BitVec 12)
  /-- XORI (R167) -/
  | xori (l : Fin 64) (q : PQ) (rd : Fin 32) (ra : Fin 32) (imm : BitVec 12)
  /-- SHI (R167) -/
  | shi (l : Fin 64) (q : PQ) (rd : Fin 32) (ra : Fin 32) (dir : ShDir) (amt : Fin 32)
  /-- MOVX (R167) -/
  | movx (l : Fin 64) (q : PQ) (rd : Fin 32) (imm : Word)
  /-- MUL (R167) -/
  | mul (l : Fin 64) (q : PQ) (rd : Fin 32) (ra : Fin 32) (rb : Fin 32)
  /-- MULH (R167) -/
  | mulh (l : Fin 64) (q : PQ) (rd : Fin 32) (ra : Fin 32) (rb : Fin 32)
  /-- MULHU (R167) -/
  | mulhu (l : Fin 64) (q : PQ) (rd : Fin 32) (ra : Fin 32) (rb : Fin 32)
  /-- DIV (R167) -/
  | div (l : Fin 64) (q : PQ) (rd : Fin 32) (ra : Fin 32) (rb : Fin 32)
  /-- DIVU (R167) -/
  | divu (l : Fin 64) (q : PQ) (rd : Fin 32) (ra : Fin 32) (rb : Fin 32)
  /-- REM (R167) -/
  | rem (l : Fin 64) (q : PQ) (rd : Fin 32) (ra : Fin 32) (rb : Fin 32)
  /-- REMU (R167) -/
  | remu (l : Fin 64) (q : PQ) (rd : Fin 32) (ra : Fin 32) (rb : Fin 32)
  /-- CMP_EQ (R168) -/
  | cmpEq (l : Fin 64) (q : PQ) (pd : Fin 8) (ra : Fin 32) (rb : Fin 32)
  /-- CMP_LT (R168) -/
  | cmpLt (l : Fin 64) (q : PQ) (pd : Fin 8) (ra : Fin 32) (rb : Fin 32)
  /-- CMP_LTU (R168) -/
  | cmpLtu (l : Fin 64) (q : PQ) (pd : Fin 8) (ra : Fin 32) (rb : Fin 32)
  /-- CMP_TST (R168) -/
  | cmpTst (l : Fin 64) (q : PQ) (pd : Fin 8) (ra : Fin 32) (rb : Fin 32)
  /-- CMPEQI (R168) -/
  | cmpeqi (l : Fin 64) (q : PQ) (pd : Fin 8) (ra : Fin 32) (imm : BitVec 12)
  /-- CMPLTI (R168) -/
  | cmplti (l : Fin 64) (q : PQ) (pd : Fin 8) (ra : Fin 32) (imm : BitVec 12)
  /-- CMPLTUI (R168) -/
  | cmpltui (l : Fin 64) (q : PQ) (pd : Fin 8) (ra : Fin 32) (imm : BitVec 12)
  /-- PAND (R168) -/
  | pand (l : Fin 64) (q : PQ) (pd : Fin 8) (pa : Fin 8) (pb : Fin 8)
  /-- POR (R168) -/
  | por (l : Fin 64) (q : PQ) (pd : Fin 8) (pa : Fin 8) (pb : Fin 8)
  /-- PXOR (R168) -/
  | pxor (l : Fin 64) (q : PQ) (pd : Fin 8) (pa : Fin 8) (pb : Fin 8)
  /-- PANDN (R168) -/
  | pandn (l : Fin 64) (q : PQ) (pd : Fin 8) (pa : Fin 8) (pb : Fin 8)
  /-- PGET (R168) -/
  | pget (l : Fin 64) (q : PQ) (pd : Fin 8) (ra : Fin 32) (b : Fin 32)
  /-- PPUT (R168) -/
  | pput (l : Fin 64) (q : PQ) (rd : Fin 32) (pa : Fin 8) (b : Fin 32)
  /-- POPC (R168) -/
  | popc (l : Fin 64) (q : PQ) (rd : Fin 32) (ra : Fin 32)
  /-- CLZ (R168) -/
  | clz (l : Fin 64) (q : PQ) (rd : Fin 32) (ra : Fin 32)
  /-- BFXU (R168) -/
  | bfxu (l : Fin 64) (q : PQ) (rd : Fin 32) (ra : Fin 32) (rb : Fin 32)
  /-- BFI (R168) -/
  | bfi (l : Fin 64) (q : PQ) (rd : Fin 32) (ra : Fin 32) (rb : Fin 32)
  /-- BR (R171) -/
  | br (l : Fin 64) (q : PQ) (off : BitVec 22)
  /-- LOOPI (R172) -/
  | loopi (l : Fin 64) (q : PQ) (count : BitVec 12) (body : BitVec 10)
  /-- LOOPR (R172) -/
  | loopr (l : Fin 64) (q : PQ) (rs : Fin 32) (body : BitVec 10) (ceil : Word)
  /-- LDW (R169) -/
  | ldw (l : Fin 64) (q : PQ) (rd : Fin 32) (ra : Fin 32) (off : BitVec 12)
  /-- LDH (R169) -/
  | ldh (l : Fin 64) (q : PQ) (rd : Fin 32) (ra : Fin 32) (off : BitVec 12)
  /-- LDHU (R169) -/
  | ldhu (l : Fin 64) (q : PQ) (rd : Fin 32) (ra : Fin 32) (off : BitVec 12)
  /-- LDB (R169) -/
  | ldb (l : Fin 64) (q : PQ) (rd : Fin 32) (ra : Fin 32) (off : BitVec 12)
  /-- LDBU (R169) -/
  | ldbu (l : Fin 64) (q : PQ) (rd : Fin 32) (ra : Fin 32) (off : BitVec 12)
  /-- STW (R169) -/
  | stw (l : Fin 64) (q : PQ) (rs : Fin 32) (ra : Fin 32) (off : BitVec 12)
  /-- STH (R169) -/
  | sth (l : Fin 64) (q : PQ) (rs : Fin 32) (ra : Fin 32) (off : BitVec 12)
  /-- STB (R169) -/
  | stb (l : Fin 64) (q : PQ) (rs : Fin 32) (ra : Fin 32) (off : BitVec 12)
  /-- TON (R175) -/
  | ton (l : Fin 64) (q : PQ) (pd : Fin 8) (ps : Fin 8) (ra : Fin 32) (rb : Fin 32)
  /-- TOF (R175) -/
  | tof (l : Fin 64) (q : PQ) (pd : Fin 8) (ps : Fin 8) (ra : Fin 32) (rb : Fin 32)
  /-- TP (R175) -/
  | tp (l : Fin 64) (q : PQ) (pd : Fin 8) (ps : Fin 8) (ra : Fin 32) (rb : Fin 32)
  /-- CTU (R175) -/
  | ctu (l : Fin 64) (q : PQ) (pd : Fin 8) (ps : Fin 8) (ra : Fin 32) (rb : Fin 32) (rp : Fin 8)
  /-- CTD (R175) -/
  | ctd (l : Fin 64) (q : PQ) (pd : Fin 8) (ps : Fin 8) (ra : Fin 32) (rb : Fin 32) (rp : Fin 8)
  /-- EDGEUP (R175) -/
  | edgeup (l : Fin 64) (q : PQ) (pd : Fin 8) (ps : Fin 8) (ra : Fin 32) (rb : Fin 32)
  /-- EDGEDN (R175) -/
  | edgedn (l : Fin 64) (q : PQ) (pd : Fin 8) (ps : Fin 8) (ra : Fin 32) (rb : Fin 32)
  /-- FADD (R177) -/
  | fadd (l : Fin 64) (q : PQ) (rd : Fin 32) (ra : Fin 32) (rb : Fin 32)
  /-- FSUB (R177) -/
  | fsub (l : Fin 64) (q : PQ) (rd : Fin 32) (ra : Fin 32) (rb : Fin 32)
  /-- FMUL (R177) -/
  | fmul (l : Fin 64) (q : PQ) (rd : Fin 32) (ra : Fin 32) (rb : Fin 32)
  /-- FDIV (R177) -/
  | fdiv (l : Fin 64) (q : PQ) (rd : Fin 32) (ra : Fin 32) (rb : Fin 32)
  /-- FSQRT (R177) -/
  | fsqrt (l : Fin 64) (q : PQ) (rd : Fin 32) (ra : Fin 32)
  /-- FMIN (R177) -/
  | fmin (l : Fin 64) (q : PQ) (rd : Fin 32) (ra : Fin 32) (rb : Fin 32)
  /-- FMAX (R177) -/
  | fmax (l : Fin 64) (q : PQ) (rd : Fin 32) (ra : Fin 32) (rb : Fin 32)
  /-- FABS (R177) -/
  | fabs (l : Fin 64) (q : PQ) (rd : Fin 32) (ra : Fin 32)
  /-- FNEG (R177) -/
  | fneg (l : Fin 64) (q : PQ) (rd : Fin 32) (ra : Fin 32)
  /-- FCVTIS (R177) -/
  | fcvtis (l : Fin 64) (q : PQ) (rd : Fin 32) (ra : Fin 32)
  /-- FCVTSI (R177) -/
  | fcvtsi (l : Fin 64) (q : PQ) (rd : Fin 32) (ra : Fin 32)
  /-- FCMP_EQ (R177) -/
  | fcmpEq (l : Fin 64) (q : PQ) (pd : Fin 8) (ra : Fin 32) (rb : Fin 32)
  /-- FCMP_LT (R177) -/
  | fcmpLt (l : Fin 64) (q : PQ) (pd : Fin 8) (ra : Fin 32) (rb : Fin 32)
  /-- FCMP_LE (R177) -/
  | fcmpLe (l : Fin 64) (q : PQ) (pd : Fin 8) (ra : Fin 32) (rb : Fin 32)
  /-- FCMP_UN (R177) -/
  | fcmpUn (l : Fin 64) (q : PQ) (pd : Fin 8) (ra : Fin 32) (rb : Fin 32)
  /-- MAC (R178) -/
  | mac (l : Fin 64) (q : PQ) (ac : Fin 4) (ra : Fin 32) (rb : Fin 32)
  /-- MACU (R178) -/
  | macu (l : Fin 64) (q : PQ) (ac : Fin 4) (ra : Fin 32) (rb : Fin 32)
  /-- MSU (R178) -/
  | msu (l : Fin 64) (q : PQ) (ac : Fin 4) (ra : Fin 32) (rb : Fin 32)
  /-- ACCLR (R178) -/
  | acclr (l : Fin 64) (q : PQ) (ac : Fin 4)
  /-- ACCWR (R178) -/
  | accwr (l : Fin 64) (q : PQ) (ac : Fin 4) (ra : Fin 32) (rb : Fin 32)
  /-- ACCRD (R178) -/
  | accrd (l : Fin 64) (q : PQ) (rd : Fin 32) (ac : Fin 4) (sh : Fin 32)
  /-- ACCRDH (R178) -/
  | accrdh (l : Fin 64) (q : PQ) (rd : Fin 32) (ac : Fin 4)
  /-- SDFT (R179) -/
  | sdft (l : Fin 64) (q : PQ) (ac : Fin 4) (ra : Fin 32) (rb : Fin 32) (n80 : Bool) (k : Fin 64)
  /-- SEQ0 (R179) -/
  | seq0 (l : Fin 64) (q : PQ) (ac : Fin 4)
  /-- SEQ1 (R179) -/
  | seq1 (l : Fin 64) (q : PQ) (ac : Fin 4)
  /-- SEQ2 (R179) -/
  | seq2 (l : Fin 64) (q : PQ) (ac : Fin 4)
  /-- CORDV (R178) -/
  | cordv (l : Fin 64) (q : PQ) (rd : Fin 32) (ra : Fin 32) (rb : Fin 32)
  /-- CORDR (R178) -/
  | cordr (l : Fin 64) (q : PQ) (rd : Fin 32) (ra : Fin 32)
  /-- ISQRT (R178) -/
  | isqrt (l : Fin 64) (q : PQ) (rd : Fin 32) (ra : Fin 32)
  /-- TLOAD (R116) -/
  | tload (l : Fin 64) (q : PQ) (pd : Fin 8) (w : Fin 8) (loc : Fin 4096)
  /-- TSTORE (R119) -/
  | tstore (l : Fin 64) (q : PQ) (pd : Fin 8) (w : Fin 8) (loc : Fin 4096)
  /-- TREL (R115) -/
  | trel (l : Fin 64) (q : PQ) (w : Fin 8)
  /-- MBX (R181) -/
  | mbx (l : Fin 64) (q : PQ) (pd : Fin 8) (w : Fin 8) (loc : Fin 4096)
  /-- FSEND (R182) -/
  | fsend (l : Fin 64) (q : PQ) (rd : Fin 32) (ra : Fin 32) (rb : Fin 32) (more : Bool) (sz : Fin 3) (hd : Fin 16)
  /-- FRECV (R182) -/
  | frecv (l : Fin 64) (q : PQ) (rd : Fin 32) (ra : Fin 32) (rb : Fin 32) (cont : Bool) (sz : Fin 3) (hd : Fin 16)
  /-- CSEND (R334) -/
  | csend (l : Fin 64) (q : PQ) (rd : Fin 32) (ra : Fin 32) (rb : Fin 32) (sz : Bool)
  /-- LOOPRD (R184) -/
  | looprd (l : Fin 64) (q : PQ) (rd : Fin 32) (ra : Fin 32) (fn : BitVec 7)
  /-- LOOPWR (R184) -/
  | loopwr (l : Fin 64) (q : PQ) (ra : Fin 32) (rb : Fin 32) (fn : BitVec 7)
  /-- KEYOP_ENC (R443) -/
  | keyopEnc (l : Fin 64) (q : PQ) (rd : Fin 32) (ra : Fin 32) (rb : Fin 32)
  /-- KEYOP_DEC (R443) -/
  | keyopDec (l : Fin 64) (q : PQ) (rd : Fin 32) (ra : Fin 32) (rb : Fin 32)
  /-- KEYOP_SIGN (R443) -/
  | keyopSign (l : Fin 64) (q : PQ) (rd : Fin 32) (ra : Fin 32) (rb : Fin 32)
  /-- KEYOP_VERIFY (R443) -/
  | keyopVerify (l : Fin 64) (q : PQ) (rd : Fin 32) (ra : Fin 32) (rb : Fin 32)
  /-- KEYOP_DERIVE (R442) -/
  | keyopDerive (l : Fin 64) (q : PQ) (rd : Fin 32) (ra : Fin 32) (rb : Fin 32)
  /-- KEYOP_WRAP (R443) -/
  | keyopWrap (l : Fin 64) (q : PQ) (rd : Fin 32) (ra : Fin 32) (rb : Fin 32)
  /-- KEYSTAGE (R445) -/
  | keystage (l : Fin 64) (q : PQ) (rd : Fin 32) (ra : Fin 32) (rb : Fin 32)
  /-- KEYVERIFY (R445) -/
  | keyverify (l : Fin 64) (q : PQ) (rd : Fin 32) (ra : Fin 32) (rb : Fin 32)
  /-- KEYCOMMIT (R445) -/
  | keycommit (l : Fin 64) (q : PQ) (rd : Fin 32) (ra : Fin 32) (rb : Fin 32)
  /-- RANDOM (R443) -/
  | random (l : Fin 64) (q : PQ) (rd : Fin 32) (ra : Fin 32) (rb : Fin 32)
  /-- SYSRD (R186) -/
  | sysrd (l : Fin 64) (q : PQ) (gx : Fin 32) (ra : Fin 32)
  /-- SYSWR (R186) -/
  | syswr (l : Fin 64) (q : PQ) (gx : Fin 32) (ra : Fin 32)
  /-- ENDSLOT (R100) -/
  | endslot (l : Fin 64) (q : PQ)
  /-- TRAP (R186) -/
  | trap (l : Fin 64) (q : PQ) (code : BitVec 8)
  /-- BELAY (R517) -/
  | belay (l : Fin 64) (q : PQ)
  /-- FETCH_FAULT (R145) -/
  | fetchFault (l : Fin 64)
  /-- ASYM_WINDOW_RUN (R444) -/
  | asymWindowRun (w : Fin 8)
  /-- CLU_COMPUTE (R250) -/
  | cluCompute (j : Fin 256)
  /-- CLU_STATE_FAULT (R266) -/
  | cluStateFault (j : Fin 256)
  /-- FRAME_RECEIVED (R294) -/
  | frameReceived (f : RxFrame)
  /-- FDB_AGE_OUT (R297) -/
  | fdbAgeOut (v : Fin 256) (mac : BitVec 48)
  /-- PRP_TABLE_AGE_OUT (R310) -/
  | prpTableAgeOut (node : Bool) (mac : BitVec 48)
  /-- PRP_SUPERVISION_SEND (R310) -/
  | prpSupervisionSend
  /-- PORT_TX_START (R306) -/
  | portTxStart (port : Fin 40) (c : Fin 83333) (t : Nat)
  /-- PORT_TX_DONE (R308) -/
  | portTxDone (port : Fin 40)
  /-- LINK_CHANGE (R354) -/
  | linkChange (port : Fin 40) (speed : Fin 4) (amp : Bool)
  /-- SHUTTER (R313) -/
  | shutter (port : Fin 40) (datagram : List Byte)
  /-- SHUTTER_APPLY (R314) -/
  | shutterApply
  /-- SW_QCFG_WRITE (R303) -/
  | swQcfgWrite (port : Fin 40) (qn : Fin 8) (w : Word)
  /-- SW_CELLS_WRITE (R292) -/
  | swCellsWrite (n : Fin 128) (w : Word)
  /-- OFFSET_MEASUREMENT (R321) -/
  | offsetMeasurement (beacon : Bool) (m : Int) (t : Nat)
  /-- TIME_ACQUIRED (R322) -/
  | timeAcquired (t : Nat) (f : Int)
  /-- ACQUIRE_TIMEOUT (R322) -/
  | acquireTimeout
  /-- TIME_LOSS (R322) -/
  | timeLoss
  /-- PTP_MASTER_SEND (R320) -/
  | ptpMasterSend (p : Fin 4)
  /-- LEAP_SECOND (R325) -/
  | leapSecond
  /-- TIME_CTRL_RESTEP (R326) -/
  | timeCtrlRestep
  /-- TIME_CTRL_CAPTURE (R317) -/
  | timeCtrlCapture
  /-- CAN_MODE_WRITE (R331) -/
  | canModeWrite (ch : Fin 16) (w : Word)
  /-- RECOVER (R347) -/
  | recover (ch : Fin 16)
  /-- CAN_INTEGRATED (R331) -/
  | canIntegrated (ch : Fin 16)
  /-- CAN_ERROR (R345) -/
  | canError (ch : Fin 16) (tx : Bool) (eight : Bool)
  /-- CAN_RECOVERED (R331) -/
  | canRecovered (ch : Fin 16)
  /-- CAN_FRAME_RECEIVED (R337) -/
  | canFrameReceived (ch : Fin 16) (f : CanFrame)
  /-- CAN_TX_END (R334) -/
  | canTxEnd (ch : Fin 16) (r : CanTxEnd)
  /-- CAN_PMAP_WRITE (R343) -/
  | canPmapWrite (ch : Fin 16) (m : Fin 28) (hi : Bool) (w : Word)
  /-- SPE_PWR_WRITE (R355) -/
  | spePwrWrite (n : Fin 32) (w : Word)
  /-- SPE_MAP_WRITE (R356) -/
  | speMapWrite (n : Fin 32) (sm : Bool) (w : Word)
  /-- PSE_ENABLE_CHANGE (R357) -/
  | pseEnableChange (n : Fin 32)
  /-- PSE_DETECT_RESULT (R357) -/
  | pseDetectResult (n : Fin 32) (ok : Bool)
  /-- PSE_CLASSIFIED (R357) -/
  | pseClassified (n : Fin 32) (cls : Fin 16) (power : Nat)
  /-- PSE_SHORT (R357) -/
  | pseShort (n : Fin 32)
  /-- PSE_OVERLOAD (R357) -/
  | pseOverload (n : Fin 32) (watts : Fin 256)
  /-- PSE_OPEN (R357) -/
  | pseOpen (n : Fin 32)
  /-- PSE_RETRY (R357) -/
  | pseRetry (n : Fin 32)
  /-- UART_FRAME_RECEIVED (R361) -/
  | uartFrameReceived (c : Fin 8) (chars : List Byte) (errs : Nat) (sof : Word) (sofTick : Word)
  /-- UART_FRAME_SEND (R362) -/
  | uartFrameSend (c : Fin 8) (late : Bool)
  /-- SI_FILTER_CHANGE (R366) -/
  | siFilterChange (fb : Bool) (n : Fin 16) (v : Bool)
  /-- TP_CHECK_WINDOW (R367) -/
  | tpCheckWindow (t : Fin 4) (zeros : BitVec 16)
  /-- SQ_READBACK_FAULT (R374) -/
  | sqReadbackFault (o : Fin 8)
  /-- SQ_SWITCH_OFF_TEST (R374) -/
  | sqSwitchOffTest (o : Fin 8) (opened : Bool)
  /-- SQ_OVERLOAD (R375) -/
  | sqOverload (o : Fin 8)
  /-- SAFE_WATCHDOG (R380) -/
  | safeWatchdog
  /-- SAFE_MONITOR_SELFTEST (R378) -/
  | safeMonitorSelftest (ok : Bool)
  /-- SAFE_ACK (R379) -/
  | safeAck (sess : BitVec 32) (cls : Fin 4) (idx : Fin 32)
  /-- APPLY (R388) -/
  | safeApply (sess : BitVec 32)
  /-- LOCK (R389) -/
  | safeLock (sess : BitVec 32)
  /-- SAFE_CFG_WRITE (R388) -/
  | safeCfgWrite (sess : BitVec 32) (a : BitVec 32) (w : Word)
  /-- SAFE_RX_TIMEOUT (R385) -/
  | safeRxTimeout (c : Fin 32)
  /-- FOG_EXPIRED (R387) -/
  | fogExpired (c : Fin 32)
  /-- SAFE_UNLOCK_EXPIRY (R389) -/
  | safeUnlockExpiry
  /-- LOCKOUT_EXPIRY (R389) -/
  | lockoutExpiry
  /-- HAWSER_LINK_DOWN (R417) -/
  | hawserLinkDown (h : Fin 4)
  /-- HAWSER_LINK_UP (R417) -/
  | hawserLinkUp (h : Fin 4) (nbr : Fin 64) (joined : Bool)
  /-- BEACON_RECEIVED (R398) -/
  | beaconReceived (h : Fin 4) (b : Beacon)
  /-- LIGHTHOUSE_DECISION (R401) -/
  | lighthouseDecision (others : List (Nat × Bool))
  /-- LH_CONFIRM (R403) -/
  | lhConfirm
  /-- LH_CONFIRM_REQUEST (R403) -/
  | lhConfirmRequest (src : Fin 64)
  /-- LH_TAKEOVER (R403) -/
  | lhTakeover (x : Nat)
  /-- LH_NO_CONFIRM (R403) -/
  | lhNoConfirm
  /-- ENUM (R406) -/
  | hawEnum
  /-- ENUM_RECEIVED (R406) -/
  | enumReceived (h : Fin 4) (units : List EnumUnit)
  /-- ENUM_COLLECTED (R407) -/
  | enumCollected (la : List EnumUnit) (lb : List EnumUnit)
  /-- ASSIGN_EFFECT (R406) -/
  | assignEffect (a : Assign)
  /-- EXCHANGE_RECORD_RECEIVED (R410) -/
  | exchangeRecordReceived (h : Fin 4) (r : ExRec)
  /-- HAW_BIND_WRITE (R408) -/
  | hawBindWrite (n : Fin 512) (subscription : Bool) (w : Word)
  /-- HAW_SHARE_WRITE (R411) -/
  | hawShareWrite (a : Fin 64) (w : Word)
  /-- MGMT_PACKET_RECEIVED (R414) -/
  | mgmtPacketReceived (h : Fin 4) (p : MgmtPkt)
  /-- LANYARD_TILE (R425) -/
  | lanyardTile (r : LanRec) (tile : List (Nat × Byte))
  /-- REPAIR_REQ (R426) -/
  | repairReq (r : LanRec)
  /-- REPAIR_ANS (R426) -/
  | repairAns (r : LanRec) (tile : List (Nat × Byte))
  /-- LANYARD_FORCE (R435) -/
  | lanyardForce (r : LanRec) (part : Fin 128) (set : Bool) (ident : Nat) (idx : Nat) (v : Word)
  /-- LSTATE (R436) -/
  | lstate (r : LanRec) (es : List LEntry)
  /-- CONFIG (R242) -/
  | twinConfig (r : LanRec) (seg : CfgSeg)
  /-- TWIN_JOIN_REQUEST (R242) -/
  | twinJoinRequest (asked : Bool)
  /-- TWIN_STANDBY (R242) -/
  | twinStandby (agrees : Bool) (node : BitVec 48)
  /-- WITNESS_DECISION_RECEIVED (R431) -/
  | witnessDecisionReceived (d : Decision)
  /-- TWIN_DECISION_EFFECT (R431) -/
  | twinDecisionEffect
  /-- PARTNER_SILENT (R553) -/
  | partnerSilent
  /-- PREPARE (R234) -/
  | multiPrepare (parts : List Nat)
  /-- READY (R234) -/
  | multiReady (addr : Fin 64)
  /-- GO (R234) -/
  | multiGo (x : Nat)
  /-- ACK (R234) -/
  | multiAck (addr : Fin 64)
  /-- MULTI_COMMIT (R234) -/
  | multiCommit
  /-- ABORT (R234) -/
  | multiAbort
  /-- MULTI_READY_TIMEOUT (R234) -/
  | multiReadyTimeout
  /-- MULTI_ACK_TIMEOUT (R234) -/
  | multiAckTimeout
  /-- MULTI_NO_COMMIT (R234) -/
  | multiNoCommit
  /-- MULTI_REPEAT (R234) -/
  | multiRepeat
  /-- MULTI_COLLECT_END (R234) -/
  | multiCollectEnd (cancelled : List Nat)
  /-- XCHG_STAGED (R226) -/
  | xchgStaged (part : Fin 128)
  /-- XCHG_TIMEOUT (R225) -/
  | xchgTimeout (part : Fin 128)
  /-- TAMPER (R460) -/
  | tamper (sensors : BitVec 5)
  /-- TAMPER_CELL_EVENT (R458) -/
  | tamperCellEvent (mesh : Bool) (light : Bool)
  /-- VAULT_CLOCK_CHECK (R462) -/
  | vaultClockCheck (count : Nat)
  /-- ENTROPY_FAIL (R448) -/
  | entropyFail
  /-- VAULT_DRV_WRITE (R442) -/
  | vaultDrvWrite (part : Fin 128) (w : Word)
  /-- LC_TRANSITION (R451) -/
  | lcTransition
  /-- CLAIM_CODE_EXPIRY (R542) -/
  | claimCodeExpiry (part : Fin 128)
  /-- MEAS (R477) -/
  | meas (crcOk : Bool)
  /-- LOG (R475) -/
  | metLog (crcOk : Bool)
  /-- IDENT (R475) -/
  | metIdent (crcOk : Bool)
  /-- CHG_RESULT (R475) -/
  | chgResult (crcOk : Bool)
  /-- TIME (R475) -/
  | metTime (sec : BitVec 64) (crcOk : Bool)
  /-- CHG_REQ (R470) -/
  | chgReq (crcOk : Bool)
  /-- TEST_SEL (R468) -/
  | testSel (crcOk : Bool)
  /-- LOG_REQ (R475) -/
  | logReq (crcOk : Bool)
  /-- METL_CHG_GO (R470) -/
  | metlChgGo (w : Word)
  /-- METL_TEST_WRITE (R468) -/
  | metlTestWrite (w : Word)
  /-- METL_ASSIGN_WRITE (R478) -/
  | metlAssignWrite (e : Fin 24) (w : Word)
  /-- MEAS_INTERVAL_END (R476) -/
  | measIntervalEnd (m : MeasIn)
  /-- COVER_OPEN (R471) -/
  | coverOpen
  /-- COVER_CLOSED (R471) -/
  | coverClosed
  /-- SWITCH_CHANGE (R471) -/
  | switchChange
  /-- SWITCH_LOCKED (R471) -/
  | switchLocked
  /-- METRO_SUPPLY_LOSS (R467) -/
  | metroSupplyLoss
  /-- METRO_HOURLY_STORE (R467) -/
  | metroHourlyStore
  /-- SW_FAULT (R473) -/
  | swFault
  /-- METL_LINK_DOWN (R481) -/
  | metlLinkDown
  /-- KEEP_STORE_REQUEST (R487) -/
  | keepStoreRequest (w : Word)
  /-- KEEP_CAPTURE (R488) -/
  | keepCapture (r : Fin 256)
  /-- KEEP_PAGE_WRITE_DONE (R494) -/
  | keepPageWriteDone (r : Fin 256) (ok : Bool)
  /-- KEEP_RING_WRITE (R483) -/
  | keepRingWrite (r : Fin 256) (k : Fin 3) (w : Word)
  /-- CONFIG_RECORD_WRITE (R545) -/
  | configRecordWrite
  /-- SET (R497) -/
  | rtcSet
  /-- CAPTURE (R498) -/
  | rtcCapture
  /-- TREC_CLR (R506) -/
  | trecClr
  /-- ARM (R500) -/
  | rtcArm
  /-- DISARM (R500) -/
  | rtcDisarm
  /-- RTC_ALARM (R500) -/
  | rtcAlarm
  /-- RTC_ROLLOVER (R496) -/
  | rtcRollover
  /-- BACKUP_SWITCH_TO_CELL (R501) -/
  | backupSwitchToCell
  /-- BACKUP_SWITCH_TO_MAIN (R501) -/
  | backupSwitchToMain
  /-- BACKUP_RELEASE (R501) -/
  | backupRelease
  /-- CELL_LOW (R501) -/
  | cellLow (mv : Fin 4096)
  /-- BK_LOST (R504) -/
  | bkLost
  /-- GLOBAL_WORD_READ (R516) -/
  | globalWordRead
  /-- FREE (R516) -/
  | errFree
  /-- CLR_OVF (R516) -/
  | errClrOvf
  /-- FREEZE_N (R517) -/
  | freezeN
  /-- FREEZE_COMPARATOR (R517) -/
  | freezeComparator
  /-- CONSENT_LAPSE (R519) -/
  | consentLapse (failed : Bool)
  /-- BYPASS (R523) -/
  | tapBypass
  /-- READID (R523) -/
  | tapReadId
  /-- ROADDR (R523) -/
  | tapRoAddr (a : BitVec 32)
  /-- ROREAD (R525) -/
  | tapRoRead
  /-- FRZRESET (R526) -/
  | tapFrzReset (b : Bool)
  /-- OPEN (R532) -/
  | moorOpen (path : MoorPath) (datagram : List Byte)
  /-- CONFIRM (R532) -/
  | moorConfirm (path : MoorPath) (datagram : List Byte)
  /-- SETUP_ABANDONED (R533) -/
  | setupAbandoned (sess : BitVec 32)
  /-- RECORD (R534) -/
  | moorRecord (path : MoorPath) (datagram : List Byte)
  /-- MOOR_RELAY (R528) -/
  | moorRelay (path : MoorPath) (datagram : List Byte)
  /-- RELAY_ENTRY_EXPIRY (R528) -/
  | relayEntryExpiry (path : MoorPath) (sess : BitVec 32)
  /-- REASSEMBLY_TIMEOUT (R530) -/
  | reassemblyTimeout (path : MoorPath) (sess : BitVec 32)
  /-- SESSION_IDLE_END (R535) -/
  | sessionIdleEnd (sess : BitVec 32)
  /-- SESSION_LIFETIME_END (R535) -/
  | sessionLifetimeEnd (sess : BitVec 32)
  /-- NOP (R538) -/
  | moorNop (sess : BitVec 32) (req : BitVec 16) (args : List Byte)
  /-- CLOSE (R538) -/
  | moorClose (sess : BitVec 32) (req : BitVec 16) (args : List Byte)
  /-- REG_READ (R538) -/
  | regRead (sess : BitVec 32) (req : BitVec 16) (args : List Byte)
  /-- REG_WRITE (R538) -/
  | regWrite (sess : BitVec 32) (req : BitVec 16) (args : List Byte)
  /-- IMG_BEGIN (R539) -/
  | imgBegin (sess : BitVec 32) (req : BitVec 16) (args : List Byte)
  /-- IMG_DATA (R539) -/
  | imgData (sess : BitVec 32) (req : BitVec 16) (args : List Byte)
  /-- IMG_END (R539) -/
  | imgEnd (sess : BitVec 32) (req : BitVec 16) (args : List Byte)
  /-- IMG_ABORT (R539) -/
  | imgAbort (sess : BitVec 32) (req : BitVec 16) (args : List Byte)
  /-- COLD_LOAD (R540) -/
  | coldLoad (sess : BitVec 32) (req : BitVec 16) (args : List Byte)
  /-- COLD_LOAD_PLACED (R540) -/
  | coldLoadPlaced (part : Fin 128)
  /-- XCHG_STAGE (R224) -/
  | xchgStage (sess : BitVec 32) (req : BitVec 16) (args : List Byte)
  /-- XCHG_ARM (R227) -/
  | xchgArm (sess : BitVec 32) (req : BitVec 16) (args : List Byte)
  /-- XCHG_DISARM (R227) -/
  | xchgDisarm (sess : BitVec 32) (req : BitVec 16) (args : List Byte)
  /-- XCHG_DISCARD (R226) -/
  | xchgDiscard (sess : BitVec 32) (req : BitVec 16) (args : List Byte)
  /-- XCHG_STATUS (R538) -/
  | xchgStatus (sess : BitVec 32) (req : BitVec 16) (args : List Byte)
  /-- XCHG_SAFETY_AUTH (R233) -/
  | xchgSafetyAuth (sess : BitVec 32) (req : BitVec 16) (args : List Byte)
  /-- MULTI_CHANGE (R234) -/
  | multiChange (sess : BitVec 32) (req : BitVec 16) (args : List Byte)
  /-- FORCE_SET (R215) -/
  | forceSet (sess : BitVec 32) (req : BitVec 16) (args : List Byte)
  /-- FORCE_CLEAR (R215) -/
  | forceClear (sess : BitVec 32) (req : BitVec 16) (args : List Byte)
  /-- FORCE_LIST (R538) -/
  | forceList (sess : BitVec 32) (req : BitVec 16) (args : List Byte)
  /-- PART_STATUS (R538) -/
  | partStatus (sess : BitVec 32) (req : BitVec 16) (args : List Byte)
  /-- TILE_READ (R538) -/
  | tileRead (sess : BitVec 32) (req : BitVec 16) (args : List Byte)
  /-- RSTORE (R487) -/
  | rstore (sess : BitVec 32) (req : BitVec 16) (args : List Byte)
  /-- ERR_READ (R514) -/
  | errRead (sess : BitVec 32) (req : BitVec 16) (args : List Byte)
  /-- ERR_CLEAR (R512) -/
  | errClear (sess : BitVec 32) (req : BitVec 16) (args : List Byte)
  /-- ERR_CFG (R513) -/
  | errCfg (sess : BitVec 32) (req : BitVec 16) (args : List Byte)
  /-- LOG_READ (R516) -/
  | logRead (sess : BitVec 32) (req : BitVec 16) (args : List Byte)
  /-- LOG_FREE (R516) -/
  | logFree (sess : BitVec 32) (req : BitVec 16) (args : List Byte)
  /-- TIME_RESTEP (R326) -/
  | timeRestep (sess : BitVec 32) (req : BitVec 16) (args : List Byte)
  /-- LAMP_SELFTEST (R238) -/
  | lampSelftest (sess : BitVec 32) (req : BitVec 16) (args : List Byte)
  /-- EXTRACT (R50) -/
  | moorExtract (sess : BitVec 32) (req : BitVec 16) (args : List Byte)
  /-- FREEZE_CONSENT (R541) -/
  | freezeConsent (sess : BitVec 32) (req : BitVec 16) (args : List Byte)
  /-- READOUT_CONSENT (R525) -/
  | readoutConsent (sess : BitVec 32) (req : BitVec 16) (args : List Byte)
  /-- KEY_STAGE (R446) -/
  | keyStage (sess : BitVec 32) (req : BitVec 16) (args : List Byte)
  /-- KEY_VERIFY (R446) -/
  | keyVerify (sess : BitVec 32) (req : BitVec 16) (args : List Byte)
  /-- KEY_COMMIT (R446) -/
  | keyCommit (sess : BitVec 32) (req : BitVec 16) (args : List Byte)
  /-- ATTEST (R455) -/
  | attest (sess : BitVec 32) (req : BitVec 16) (args : List Byte)
  /-- ANCHOR_REPLACE (R453) -/
  | anchorReplace (sess : BitVec 32) (req : BitVec 16) (args : List Byte)
  /-- OPEN_TENANCY (R542) -/
  | openTenancy (sess : BitVec 32) (req : BitVec 16) (args : List Byte)
  /-- TENANT_CLAIM (R542) -/
  | tenantClaim (sess : BitVec 32) (req : BitVec 16) (args : List Byte)
  /-- CLAIM (R542) -/
  | claimOwner (sess : BitVec 32) (req : BitVec 16) (args : List Byte)
  /-- PROVISION (R449) -/
  | provision (serial : BitVec 64) (mac : BitVec 48) (cert : List Byte) (keys : List Byte)
  /-- LC_FIELD (R449) -/
  | lcField (sess : BitVec 32) (req : BitVec 16) (args : List Byte)
  /-- LC_RETURN (R450) -/
  | lcReturn (sess : BitVec 32) (req : BitVec 16) (args : List Byte)
  /-- LC_DECOMMISSION (R449) -/
  | lcDecommission (sess : BitVec 32) (req : BitVec 16) (args : List Byte)
  /-- SAFE_UNLOCK (R389) -/
  | safeUnlock (sess : BitVec 32) (req : BitVec 16) (args : List Byte)
  /-- SAFE_PASSWORD (R389) -/
  | safePassword (sess : BitVec 32) (req : BitVec 16) (args : List Byte)
  /-- SAFE_LOG_READ (R390) -/
  | safeLogRead (sess : BitVec 32) (req : BitVec 16) (args : List Byte)
  /-- WITNESS_FREEZE_CONSENT_REQUEST (R432) -/
  | witnessFreezeConsentRequest (src : Fin 64)
  /-- FREEZE_CONSENT_ANSWER (R541) -/
  | freezeConsentAnswer (cause : Option (Fin 4))
  /-- FREEZE_CONSENT_TIMEOUT (R541) -/
  | freezeConsentTimeout
  /-- CAN_ARBITRATION_START (R335) -/
  | canArbitrationStart (ch : Fin 16) (sof : Word)
  /-- ENTROPY_RESTART (R448) -/
  | entropyRestart
  /-- METRO_START (R473) -/
  | metroStart
  /-- MULTI_REFUSED (R234) -/
  | multiRefused (addr : Fin 64) (cause : Nat)
  /-- PEER_DELAY_REQUEST (R319) -/
  | peerDelayRequest (p : Fin 4)
  deriving DecidableEq, Repr

end Sys2Proof
end

