-- ==== Sys2Proof/Machine/Regs.lean ====
section
/-!
DEFINITION. The system register file's registers, from the register tables that end the chapters of spec/ (R12,
R28): for each kind of register its name, its address (base, and stride and count of each index), which bits have
which access type (R10) and its reset word. A field whose table gives Strap, From KEEP, From OTP, Factory, Kept or
Cause for its reset has 0 here (DESIGN CHOICE, log entry 2), but ENG_LAMP_n.PHYS, which is n (R136), and
the backup domain, which starts as R504 gives it for a module powered for the first time.
-/
namespace Sys2Proof.Machine

/-- A field of a register: its lowest bit and its length. -/
structure Fld where
  lo : Nat
  len : Nat
  deriving DecidableEq, Repr

/-- A kind of register: `s1`, `c1` and `s2`, `c2` are the stride and count of its two indices (4 and 1 where it
has none); the masks say which bits are RW, RC, W1C and WO; every other bit is RO, RS or reserved. -/
structure RegRow where
  name : String
  base : Nat
  s1 : Nat
  c1 : Nat
  s2 : Nat
  c2 : Nat
  rw : Nat
  rc : Nat
  w1c : Nat
  wo : Nat
  reset : Nat
  deriving DecidableEq, Repr

/-- The registers of block TICK. -/
def regsTick : List RegRow := [
  ⟨"TICK_CTRL", 0x0, 0x4, 1, 0x4, 1, 0x0, 0x0, 0x0, 0x3, 0x0⟩,
  ⟨"TICK_STAT", 0x4, 0x4, 1, 0x4, 1, 0x0, 0x0, 0x0, 0x0, 0x0⟩,
  ⟨"TICK_NOW", 0x8, 0x4, 1, 0x4, 1, 0x0, 0x0, 0x0, 0x0, 0x0⟩,
  ⟨"TICK_SEC_LO", 0xC, 0x4, 1, 0x4, 1, 0x0, 0x0, 0x0, 0x0, 0x0⟩,
  ⟨"TICK_SEC_HI", 0x10, 0x4, 1, 0x4, 1, 0x0, 0x0, 0x0, 0x0, 0x0⟩,
  ⟨"TICK_LEN", 0x14, 0x4, 1, 0x4, 1, 0x0, 0x0, 0x0, 0x0, 0x0⟩,
  ⟨"TICK_LEN_RANGE", 0x18, 0x4, 1, 0x4, 1, 0x0, 0xFFFFFFFF, 0x0, 0x0, 0x0⟩,
  ⟨"TICK_STEP", 0x1C, 0x4, 1, 0x4, 1, 0x0, 0x0, 0x0, 0x0, 0x0⟩,
  ⟨"TICK_SWAP_AT", 0x20, 0x4, 1, 0x4, 1, 0x9FFFFFFF, 0x0, 0x0, 0x0, 0x0⟩,
  ⟨"TICK_SLOT_A", 0x1000, 0x4, 1024, 0x4, 1, 0xFF0FFFFF, 0x0, 0x0, 0x0, 0x0⟩,
  ⟨"TICK_SLOT_B", 0x9000, 0x4, 1024, 0x4, 1, 0xFF0FFFFF, 0x0, 0x0, 0x0, 0x0⟩,
  ⟨"TICK_TASK_PER_A", 0x2000, 0x8, 2048, 0x4, 1, 0xFFFFFFFF, 0x0, 0x0, 0x0, 0x0⟩,
  ⟨"TICK_TASK_PER_B", 0xA000, 0x8, 2048, 0x4, 1, 0xFFFFFFFF, 0x0, 0x0, 0x0, 0x0⟩,
  ⟨"TICK_TASK_BIND_A", 0x2004, 0x8, 2048, 0x4, 1, 0xF3FFF3FF, 0x0, 0x0, 0x0, 0x0⟩,
  ⟨"TICK_TASK_BIND_B", 0xA004, 0x8, 2048, 0x4, 1, 0xF3FFF3FF, 0x0, 0x0, 0x0, 0x0⟩]

/-- The registers of block TS. -/
def regsTs : List RegRow := [
  ⟨"TS_SCRUB_STAT", 0x10000, 0x4, 1, 0x4, 1, 0x0, 0x0, 0x0, 0x0, 0x0⟩,
  ⟨"TS_REPAIR_STAT", 0x10004, 0x4, 1, 0x4, 1, 0x0, 0x0, 0x0, 0x0, 0x0⟩,
  ⟨"TS_ALLOC_CMD", 0x10010, 0x4, 1, 0x4, 1, 0x0, 0x0, 0x0, 0xC003FFFF, 0x0⟩,
  ⟨"TS_ALLOC_ATTR", 0x10014, 0x4, 1, 0x4, 1, 0x7FF03F00, 0x0, 0x0, 0x0, 0x0⟩,
  ⟨"TS_ALLOC_ID", 0x10018, 0x4, 1, 0x4, 1, 0xFFFFFFFF, 0x0, 0x0, 0x0, 0x0⟩,
  ⟨"TS_ALLOC_STAT", 0x1001C, 0x4, 1, 0x4, 1, 0x0, 0x0, 0x0, 0x0, 0x0⟩,
  ⟨"TS_QUOTA", 0x10200, 0x4, 128, 0x4, 1, 0x1FFF0000, 0x0, 0x0, 0x0, 0x0⟩,
  ⟨"TS_MBX", 0x10800, 0x4, 512, 0x4, 1, 0x80FFFFFF, 0x0, 0x0, 0x0, 0x0⟩,
  ⟨"TS_BANK_STAT", 0x10400, 0x4, 64, 0x4, 1, 0x0, 0x0, 0x0, 0x0, 0x0⟩,
  ⟨"TS_DIR_CTL", 0x14000, 0x4, 4096, 0x4, 1, 0x0, 0x0, 0x0, 0x0, 0x0⟩,
  ⟨"TS_DIR_ID", 0x18000, 0x4, 4096, 0x4, 1, 0x0, 0x0, 0x0, 0x0, 0x0⟩,
  ⟨"TS_DIR_GEN", 0x1C000, 0x4, 4096, 0x4, 1, 0x0, 0x0, 0x0, 0x0, 0x0⟩]

/-- The registers of block ENG. -/
def regsEng : List RegRow := [
  ⟨"ENG_SPARE", 0x20000, 0x4, 1, 0x4, 1, 0xF, 0x0, 0x0, 0x0, 0x404⟩,
  ⟨"ENG_XBAR_STAT", 0x20004, 0x4, 1, 0x4, 1, 0x0, 0x0, 0x0, 0x0, 0x0⟩,
  ⟨"ENG_LAMP", 0x20100, 0x4, 64, 0x4, 1, 0x0, 0x0, 0x0, 0x0, 0x0⟩,
  ⟨"ENG_PART_CTRL", 0x20200, 0x4, 128, 0x4, 1, 0x0, 0x0, 0x0, 0x7, 0x0⟩,
  ⟨"ENG_PART_STAT", 0x20400, 0x4, 128, 0x4, 1, 0x0, 0xFF000000, 0x0, 0x0, 0x0⟩,
  ⟨"ENG_WD", 0x20600, 0x4, 128, 0x4, 1, 0xFFFF, 0x0, 0x0, 0x0, 0x0⟩,
  ⟨"ENG_CODE_PAGE", 0x21000, 0x4, 1024, 0x4, 1, 0xFF000000, 0x0, 0x0, 0x0, 0x0⟩,
  ⟨"ENG_EVT_ROUTE", 0x22000, 0x4, 512, 0x4, 1, 0xFFFF7F1F, 0x0, 0x0, 0x0, 0x0⟩,
  ⟨"ENG_XBAR_A", 0x24000, 0x4, 1024, 0x4, 1, 0xFFFFFFFF, 0x0, 0x0, 0x0, 0x0⟩,
  ⟨"ENG_XBAR_B", 0x25000, 0x4, 1024, 0x4, 1, 0xFFFFFFFF, 0x0, 0x0, 0x0, 0x0⟩,
  ⟨"ENG_EVT_MASK_A", 0x28000, 0x4, 2048, 0x4, 1, 0xFFFFFFFF, 0x0, 0x0, 0x0, 0x0⟩,
  ⟨"ENG_EVT_MASK_B", 0x2A000, 0x4, 2048, 0x4, 1, 0xFFFFFFFF, 0x0, 0x0, 0x0, 0x0⟩,
  ⟨"ENG_FIXUP", 0x20008, 0x4, 1, 0x4, 1, 0x0, 0x0, 0x0, 0x0, 0x0⟩,
  ⟨"ENG_SELFTEST", 0x2000C, 0x4, 1, 0x4, 1, 0x3F, 0x0, 0x0, 0x80000000, 0x0⟩,
  ⟨"ENG_MIGRATE", 0x20010, 0x4, 1, 0x4, 1, 0x0, 0x0, 0x0, 0x0, 0x0⟩,
  ⟨"ENG_XCHG_STAT", 0x20800, 0x4, 128, 0x4, 1, 0x0, 0x0, 0x0, 0x0, 0x0⟩,
  ⟨"ENG_XCHG_TICK", 0x20A00, 0x4, 128, 0x4, 1, 0x0, 0x0, 0x0, 0x0, 0x0⟩]

/-- The registers of block SW. -/
def regsSw : List RegRow := [
  ⟨"SW_PCFG", 0x30000, 0x400, 40, 0x4, 1, 0xE0700FFF, 0x0, 0x0, 0x0, 0x1⟩,
  ⟨"SW_PSTAT", 0x30004, 0x400, 40, 0x4, 1, 0x0, 0x0, 0x0, 0x0, 0x0⟩,
  ⟨"SW_TSQ", 0x30008, 0x400, 40, 0x4, 1, 0x0, 0x0, 0x0, 0x0, 0x0⟩,
  ⟨"SW_QCFG", 0x30020, 0x400, 40, 0x4, 8, 0xFFF0FFFF, 0x0, 0x0, 0x0, 0x0⟩,
  ⟨"SW_QTS", 0x30040, 0x400, 40, 0x4, 8, 0x800001FF, 0x0, 0x0, 0x0, 0x0⟩,
  ⟨"SW_CNT", 0x30100, 0x400, 40, 0x4, 40, 0x0, 0xFFFFFFFF, 0x0, 0x0, 0x0⟩,
  ⟨"SW_CELLS", 0x3C000, 0x4, 128, 0x4, 1, 0x1FFF0000, 0x0, 0x0, 0x0, 0x0⟩,
  ⟨"SW_POOL", 0x3C200, 0x4, 1, 0x4, 1, 0x0, 0x0, 0x0, 0x0, 0x1440⟩,
  ⟨"SW_PRP", 0x3C204, 0x4, 1, 0x4, 1, 0xF, 0x0, 0x0, 0x0, 0x0⟩,
  ⟨"SW_SHUT_STAT", 0x3C208, 0x4, 1, 0x4, 1, 0x0, 0x0, 0x0, 0x0, 0x0⟩,
  ⟨"SW_SHUT_CTR", 0x3C20C, 0x4, 1, 0x4, 1, 0x0, 0x0, 0x0, 0x0, 0x0⟩,
  ⟨"SW_MGMT_CFG", 0x3C210, 0x4, 1, 0x4, 1, 0xC0000FFF, 0x0, 0x0, 0x0, 0x1⟩,
  ⟨"SW_MGMT_IP4", 0x3C214, 0x4, 1, 0x4, 1, 0xFFFFFFFF, 0x0, 0x0, 0x0, 0x0⟩,
  ⟨"SW_MGMT_IP6", 0x3C218, 0x4, 4, 0x4, 1, 0xFFFFFFFF, 0x0, 0x0, 0x0, 0x0⟩,
  ⟨"SW_MAC_BASE_LO", 0x3C228, 0x4, 1, 0x4, 1, 0x0, 0x0, 0x0, 0x0, 0x0⟩,
  ⟨"SW_MAC_BASE_HI", 0x3C22C, 0x4, 1, 0x4, 1, 0x0, 0x0, 0x0, 0x0, 0x0⟩,
  ⟨"SW_RING", 0x3C400, 0x4, 512, 0x4, 1, 0xFFF00000, 0x0, 0x0, 0x0, 0x0⟩,
  ⟨"SW_FDB", 0x3CC00, 0x4, 128, 0x4, 1, 0x3FFF0000, 0x0, 0x0, 0x0, 0x0⟩,
  ⟨"SW_VLAN_CTL", 0x3D000, 0x10, 256, 0x4, 1, 0xFFDFFFFF, 0x0, 0x0, 0x0, 0x0⟩,
  ⟨"SW_VLAN_MEM", 0x3D004, 0x10, 256, 0x4, 1, 0xFFFFFFFF, 0x0, 0x0, 0x0, 0x0⟩,
  ⟨"SW_VLAN_UNT", 0x3D008, 0x10, 256, 0x4, 1, 0xFFFFFFFF, 0x0, 0x0, 0x0, 0x0⟩,
  ⟨"SW_VLAN_HI", 0x3D00C, 0x10, 256, 0x4, 1, 0xFFFF, 0x0, 0x0, 0x0, 0x0⟩,
  ⟨"SW_WAKE_CTL", 0x3E000, 0x20, 160, 0x4, 1, 0xFFFFFFFF, 0x0, 0x0, 0x0, 0x0⟩,
  ⟨"SW_WAKE_MASK_A", 0x3E004, 0x20, 160, 0x4, 1, 0xFFFFFFFF, 0x0, 0x0, 0x0, 0x0⟩,
  ⟨"SW_WAKE_MASK_B", 0x3E008, 0x20, 160, 0x4, 1, 0xFFFFFFFF, 0x0, 0x0, 0x0, 0x0⟩,
  ⟨"SW_WAKE_MASK_C", 0x3E00C, 0x20, 160, 0x4, 1, 0xFFFFFFFF, 0x0, 0x0, 0x0, 0x0⟩,
  ⟨"SW_WAKE_MASK_D", 0x3E010, 0x20, 160, 0x4, 1, 0xFFFFFFFF, 0x0, 0x0, 0x0, 0x0⟩]

/-- The registers of block TIME. -/
def regsTime : List RegRow := [
  ⟨"TIME_CTRL", 0x40000, 0x4, 1, 0x4, 1, 0x0, 0x0, 0x0, 0x3, 0x0⟩,
  ⟨"TIME_CFG", 0x40004, 0x4, 1, 0x4, 1, 0xFFFFF03, 0x0, 0x0, 0x0, 0x3240000⟩,
  ⟨"TIME_STAT", 0x40008, 0x4, 1, 0x4, 1, 0x0, 0x0, 0x0, 0x0, 0x0⟩,
  ⟨"TIME_SEC_LO", 0x4000C, 0x4, 1, 0x4, 1, 0x0, 0x0, 0x0, 0x0, 0x0⟩,
  ⟨"TIME_SEC_HI", 0x40010, 0x4, 1, 0x4, 1, 0x0, 0x0, 0x0, 0x0, 0x0⟩,
  ⟨"TIME_NS", 0x40014, 0x4, 1, 0x4, 1, 0x0, 0x0, 0x0, 0x0, 0x0⟩,
  ⟨"TIME_FRAC", 0x40018, 0x4, 1, 0x4, 1, 0x0, 0x0, 0x0, 0x0, 0x0⟩,
  ⟨"TIME_RATE", 0x4001C, 0x4, 1, 0x4, 1, 0x0, 0x0, 0x0, 0x0, 0x0⟩,
  ⟨"TIME_OFFSET", 0x40020, 0x4, 1, 0x4, 1, 0x0, 0x0, 0x0, 0x0, 0x0⟩,
  ⟨"TIME_PDELAY", 0x40024, 0x4, 1, 0x4, 1, 0x0, 0x0, 0x0, 0x0, 0x0⟩,
  ⟨"TIME_UTC", 0x40028, 0x4, 1, 0x4, 1, 0x0, 0x0, 0x0, 0x0, 0x0⟩,
  ⟨"TIME_HOLD", 0x4002C, 0x4, 1, 0x4, 1, 0x0, 0x0, 0x0, 0x0, 0x0⟩,
  ⟨"TIME_GM_LO", 0x40030, 0x4, 1, 0x4, 1, 0x0, 0x0, 0x0, 0x0, 0x0⟩,
  ⟨"TIME_GM_HI", 0x40034, 0x4, 1, 0x4, 1, 0x0, 0x0, 0x0, 0x0, 0x0⟩,
  ⟨"TIME_PORT", 0x40100, 0x4, 4, 0x4, 1, 0x3, 0xFF000000, 0x0, 0x0, 0x0⟩]

/-- The registers of block CAN. -/
def regsCan : List RegRow := [
  ⟨"CAN_CTRL", 0x50000, 0x1000, 16, 0x4, 1, 0x7F00FF7B, 0x0, 0x0, 0x4, 0x1008⟩,
  ⟨"CAN_STAT", 0x50004, 0x1000, 16, 0x4, 1, 0x0, 0xFF000000, 0x0, 0x0, 0x0⟩,
  ⟨"CAN_ERRC", 0x50008, 0x1000, 16, 0x4, 1, 0x0, 0x0, 0x0, 0x0, 0x0⟩,
  ⟨"CAN_BTN", 0x5000C, 0x1000, 16, 0x4, 1, 0xFFFFFFF8, 0x0, 0x0, 0x0, 0x4FE8100⟩,
  ⟨"CAN_BTD", 0x50010, 0x1000, 16, 0x4, 1, 0xFFFFFC7F, 0x0, 0x0, 0x0, 0x9E42410⟩,
  ⟨"CAN_BTX", 0x50014, 0x1000, 16, 0x4, 1, 0xFFFFFC7F, 0x0, 0x0, 0x0, 0x8A21406⟩,
  ⟨"CAN_TSEDGE", 0x50018, 0x1000, 16, 0x4, 1, 0x0, 0x0, 0x0, 0x0, 0x0⟩,
  ⟨"CAN_HPM_ID", 0x50040, 0x1000, 16, 0x10, 8, 0x1FFFFFFF, 0x0, 0x0, 0x0, 0x0⟩,
  ⟨"CAN_HPM_MASK", 0x50044, 0x1000, 16, 0x10, 8, 0x1FFFFFFF, 0x0, 0x0, 0x0, 0x0⟩,
  ⟨"CAN_HPM_CFG", 0x50048, 0x1000, 16, 0x10, 8, 0xFFFFFC00, 0x0, 0x0, 0x0, 0x0⟩,
  ⟨"CAN_MB_CFG", 0x50100, 0x1000, 16, 0x4, 64, 0xFFFFF000, 0x0, 0x0, 0x0, 0x0⟩,
  ⟨"CAN_MB_STAT", 0x50200, 0x1000, 16, 0x4, 72, 0x0, 0xFF, 0x0, 0x0, 0x0⟩,
  ⟨"CAN_PMAP_A", 0x50320, 0x1000, 16, 0x8, 28, 0xFFFFFFF8, 0x0, 0x0, 0x0, 0x0⟩,
  ⟨"CAN_PMAP_B", 0x50324, 0x1000, 16, 0x8, 28, 0xFFFFFFFF, 0x0, 0x0, 0x0, 0x0⟩,
  ⟨"CAN_FLT_A", 0x50400, 0x1000, 16, 0xC, 256, 0xFFFFFFFF, 0x0, 0x0, 0x0, 0x0⟩,
  ⟨"CAN_FLT_B", 0x50404, 0x1000, 16, 0xC, 256, 0x1FFFFFFF, 0x0, 0x0, 0x0, 0x0⟩,
  ⟨"CAN_FLT_C", 0x50408, 0x1000, 16, 0xC, 256, 0x3F, 0x0, 0x0, 0x0, 0x0⟩]

/-- The registers of block SPE. -/
def regsSpe : List RegRow := [
  ⟨"SPE_PCFG", 0x60000, 0x20, 32, 0x4, 1, 0xFF000007, 0x0, 0x0, 0x0, 0x7⟩,
  ⟨"SPE_PSTAT", 0x60004, 0x20, 32, 0x4, 1, 0x0, 0x0, 0x0, 0x0, 0x0⟩,
  ⟨"SPE_PWR", 0x60008, 0x20, 32, 0x4, 1, 0xC0FF003F, 0x0, 0x0, 0x0, 0xA00000⟩,
  ⟨"SPE_PMAP", 0x6000C, 0x20, 32, 0x4, 1, 0xFFFFFC00, 0x0, 0x0, 0x0, 0x0⟩,
  ⟨"SPE_SMAP", 0x60010, 0x20, 32, 0x4, 1, 0xFFFFFC00, 0x0, 0x0, 0x0, 0x0⟩,
  ⟨"SPE_PWR_TOTAL", 0x60400, 0x4, 1, 0x4, 1, 0x0, 0x0, 0x0, 0x0, 0x0⟩,
  ⟨"SPE_UCFG", 0x60800, 0x20, 8, 0x4, 1, 0xFE0FFFFF, 0x0, 0x0, 0x0, 0x10009C21⟩,
  ⟨"SPE_UBAUD", 0x60804, 0x20, 8, 0x4, 1, 0xFFFFFF, 0x0, 0x0, 0x0, 0x56CE⟩,
  ⟨"SPE_UBIND", 0x60808, 0x20, 8, 0x4, 1, 0xFFF001FF, 0x0, 0x0, 0x0, 0x0⟩,
  ⟨"SPE_USTAT", 0x6080C, 0x20, 8, 0x4, 1, 0x0, 0xFFFFFF00, 0x0, 0x0, 0x0⟩,
  ⟨"SPE_ULEN", 0x60810, 0x20, 8, 0x4, 1, 0xFFF, 0x0, 0x0, 0x0, 0x100⟩]

/-- The registers of block SAFE. -/
def regsSafe : List RegRow := [
  ⟨"SAFE_CTRL", 0x70000, 0x4, 1, 0x4, 1, 0x0, 0x0, 0x0, 0x3, 0x0⟩,
  ⟨"SAFE_STAT", 0x70004, 0x4, 1, 0x4, 1, 0x0, 0x0, 0x0, 0x0, 0x800⟩,
  ⟨"SAFE_CFG", 0x70008, 0x4, 1, 0x4, 1, 0x1FFF037F, 0x0, 0x0, 0x0, 0x1E00000⟩,
  ⟨"SAFE_IMG", 0x7000C, 0x4, 1, 0x4, 1, 0xFFF0FFF, 0x0, 0x0, 0x0, 0x0⟩,
  ⟨"SAFE_ACK", 0x70010, 0x4, 1, 0x4, 1, 0x0, 0x0, 0x0, 0x3001F, 0x0⟩,
  ⟨"SAFE_LOG_STAT", 0x70014, 0x4, 1, 0x4, 1, 0x0, 0x0, 0x0, 0x0, 0x0⟩,
  ⟨"SAFE_DIGEST", 0x70018, 0x4, 1, 0x4, 1, 0x0, 0x0, 0x0, 0x0, 0x0⟩,
  ⟨"SAFE_TP", 0x70020, 0x4, 4, 0x4, 1, 0x800F1FFF, 0x0, 0x0, 0x0, 0xA0030⟩,
  ⟨"SAFE_SI_CFG", 0x70100, 0x10, 16, 0x4, 1, 0xFFFFF07, 0x0, 0x0, 0x0, 0x1E00⟩,
  ⟨"SAFE_SI_CHAT", 0x70104, 0x10, 16, 0x4, 1, 0x1FFF00FF, 0x0, 0x0, 0x0, 0x12C00000⟩,
  ⟨"SAFE_SI_STAT", 0x70108, 0x10, 16, 0x4, 1, 0x0, 0x0, 0x0, 0x0, 0x0⟩,
  ⟨"SAFE_SQ_CFG", 0x70200, 0x10, 8, 0x4, 1, 0xC3FF000F, 0x0, 0x0, 0x0, 0x40640000⟩,
  ⟨"SAFE_SQ_STAT", 0x70204, 0x10, 8, 0x4, 1, 0x0, 0x0, 0x0, 0x0, 0x0⟩,
  ⟨"SAFE_TX_CFG", 0x70400, 0x10, 32, 0x4, 1, 0x9FFFFFFF, 0x0, 0x0, 0x0, 0x0⟩,
  ⟨"SAFE_TX_SIG", 0x70404, 0x10, 32, 0x4, 1, 0xFFFFFFFF, 0x0, 0x0, 0x0, 0x0⟩,
  ⟨"SAFE_RX_SIG", 0x70808, 0x10, 32, 0x4, 1, 0xFFFFFFFF, 0x0, 0x0, 0x0, 0x0⟩,
  ⟨"SAFE_RX_CFG", 0x70800, 0x10, 32, 0x4, 1, 0xBFFF0FFF, 0x0, 0x0, 0x0, 0x0⟩,
  ⟨"SAFE_RX_WD", 0x70804, 0x10, 32, 0x4, 1, 0x1FFF, 0x0, 0x0, 0x0, 0xC⟩,
  ⟨"SAFE_RX_STAT", 0x7080C, 0x10, 32, 0x4, 1, 0x0, 0xFF000000, 0x0, 0x0, 0x0⟩]

/-- The registers of block CLU. -/
def regsClu : List RegRow := [
  ⟨"CLU_STAT", 0x80000, 0x4, 1, 0x4, 1, 0x0, 0x0, 0x0, 0x0, 0x0⟩,
  ⟨"CLU_SLOT", 0x80400, 0x4, 256, 0x4, 1, 0xFF000000, 0x0, 0x0, 0x0, 0x0⟩]

/-- The registers of block SV. -/
def regsSv : List RegRow := [
  ⟨"SV_STAT", 0x90000, 0x4, 1, 0x4, 1, 0x0, 0x0, 0x0, 0x0, 0x8000⟩,
  ⟨"SV_STRM_CTRL", 0x91000, 0x20, 32, 0x4, 1, 0xFF0F0000, 0x0, 0x0, 0x0, 0x0⟩,
  ⟨"SV_STRM_ID", 0x91004, 0x20, 32, 0x4, 1, 0x0, 0x0, 0x0, 0x0, 0x0⟩,
  ⟨"SV_STRM_STAT", 0x91008, 0x20, 32, 0x4, 1, 0x0, 0x0, 0x0, 0x0, 0xC0000000⟩,
  ⟨"SV_STRM_ERRA", 0x9100C, 0x20, 32, 0x4, 1, 0x0, 0xFFFFFFFF, 0x0, 0x0, 0x0⟩,
  ⟨"SV_STRM_ERRB", 0x91010, 0x20, 32, 0x4, 1, 0x0, 0xFFFFFFFF, 0x0, 0x0, 0x0⟩,
  ⟨"SV_TRIP_CFG", 0x92000, 0x10, 64, 0x4, 1, 0xFF0F0000, 0x0, 0x0, 0x0, 0x0⟩,
  ⟨"SV_TRIP_ST", 0x92004, 0x10, 64, 0x4, 1, 0x0, 0x0, 0x0, 0x0, 0x0⟩,
  ⟨"SV_TRIP_SQ", 0x92008, 0x10, 64, 0x4, 1, 0x0, 0x0, 0x0, 0x0, 0x0⟩,
  ⟨"SV_TRIP_NEXT", 0x9200C, 0x10, 64, 0x4, 1, 0x0, 0x0, 0x0, 0x0, 0x0⟩]

/-- The registers of block HAW. -/
def regsHaw : List RegRow := [
  ⟨"HAW_CTRL", 0xA0000, 0x4, 1, 0x4, 1, 0x0, 0x0, 0x0, 0x1, 0x0⟩,
  ⟨"HAW_STAT", 0xA0004, 0x4, 1, 0x4, 1, 0x0, 0x0, 0x0, 0x0, 0x0⟩,
  ⟨"HAW_LINK", 0xA0010, 0x4, 4, 0x4, 1, 0xFF0000, 0x0, 0x0, 0x0, 0x0⟩,
  ⟨"HAW_BEACON", 0xA0020, 0x4, 1, 0x4, 1, 0x0, 0xFF000000, 0x0, 0x0, 0x0⟩,
  ⟨"HAW_PX_STAT", 0xA0024, 0x4, 1, 0x4, 1, 0x0, 0x0, 0x0, 0x0, 0x0⟩,
  ⟨"HAW_PX_SHARE", 0xA0100, 0x4, 64, 0x4, 1, 0x3FFF, 0x0, 0x0, 0x0, 0x0⟩,
  ⟨"HAW_PUB", 0xA1000, 0x4, 256, 0x4, 1, 0xFF000FFF, 0x0, 0x0, 0x0, 0x0⟩,
  ⟨"HAW_SUB_CTL", 0xA2000, 0x10, 512, 0x4, 1, 0xFF000FFF, 0x0, 0x0, 0x0, 0x0⟩,
  ⟨"HAW_SUB_SRC", 0xA2004, 0x10, 512, 0x4, 1, 0x3FFF07FF, 0x0, 0x0, 0x0, 0x0⟩,
  ⟨"HAW_SUB_ID", 0xA2008, 0x10, 512, 0x4, 1, 0xFFFFFFFF, 0x0, 0x0, 0x0, 0x0⟩,
  ⟨"HAW_SUB_STAT", 0xA200C, 0x10, 512, 0x4, 1, 0x0, 0xFFFFFF00, 0x0, 0x0, 0x2⟩]

/-- The registers of block TWIN. -/
def regsTwin : List RegRow := [
  ⟨"TWIN_CFG", 0xB0000, 0x4, 1, 0x4, 1, 0x800F003F, 0x0, 0x0, 0x0, 0x30000⟩,
  ⟨"TWIN_STAT", 0xB0004, 0x4, 1, 0x4, 1, 0x0, 0x0, 0x0, 0x0, 0x0⟩,
  ⟨"TWIN_PART", 0xB0008, 0x4, 4, 0x4, 1, 0xFFFFFFFF, 0x0, 0x0, 0x0, 0x0⟩,
  ⟨"TWIN_LANYARD", 0xB0018, 0x4, 1, 0x4, 1, 0x0, 0xFFFF0000, 0x0, 0x0, 0x0⟩,
  ⟨"TWIN_DIGEST", 0xB001C, 0x4, 1, 0x4, 1, 0x0, 0x0, 0x0, 0x0, 0x0⟩,
  ⟨"TWIN_NODE_LO", 0xB0020, 0x4, 1, 0x4, 1, 0x0, 0x0, 0x0, 0x0, 0x0⟩,
  ⟨"TWIN_NODE_HI", 0xB0024, 0x4, 1, 0x4, 1, 0x0, 0x0, 0x0, 0x0, 0x0⟩,
  ⟨"TWIN_WIT", 0xB0100, 0x4, 32, 0x4, 1, 0x0, 0x0, 0x0, 0x0, 0x0⟩]

/-- The registers of block VAULT. -/
def regsVault : List RegRow := [
  ⟨"VAULT_STAT", 0xC0000, 0x4, 1, 0x4, 1, 0x0, 0x0, 0x0, 0x0, 0x0⟩,
  ⟨"VAULT_TAMPER_CFG", 0xC0008, 0x4, 1, 0x4, 1, 0x7, 0x0, 0x0, 0x0, 0x0⟩,
  ⟨"VAULT_TAMPER_STAT", 0xC000C, 0x4, 1, 0x4, 1, 0x0, 0x0, 0x1F, 0x0, 0x0⟩,
  ⟨"VAULT_ASYM_WIN", 0xC0020, 0x4, 7, 0x4, 1, 0xFF000000, 0x0, 0x0, 0x0, 0x0⟩,
  ⟨"VAULT_SLOT", 0xC0100, 0x4, 64, 0x4, 1, 0xFF000000, 0x0, 0x0, 0x0, 0x0⟩,
  ⟨"VAULT_SLOT_USE", 0xC0200, 0x4, 64, 0x4, 1, 0x0, 0x0, 0x0, 0x0, 0x0⟩,
  ⟨"VAULT_DRV", 0xC0400, 0x4, 128, 0x4, 1, 0x1F, 0x0, 0x0, 0x0, 0x0⟩]

/-- The registers of block METL. -/
def regsMetl : List RegRow := [
  ⟨"METL_STAT", 0xD0000, 0x4, 1, 0x4, 1, 0x0, 0xFF00, 0x0, 0x0, 0x0⟩,
  ⟨"METL_ID", 0xD0004, 0x4, 4, 0x4, 1, 0x0, 0x0, 0x0, 0x0, 0x0⟩,
  ⟨"METL_CHKSUM", 0xD0014, 0x4, 1, 0x4, 1, 0x0, 0x0, 0x0, 0x0, 0x0⟩,
  ⟨"METL_EVCNT", 0xD0018, 0x4, 1, 0x4, 1, 0x0, 0x0, 0x0, 0x0, 0x0⟩,
  ⟨"METL_TEST", 0xD0020, 0x4, 1, 0x4, 1, 0x8000001F, 0x0, 0x0, 0x0, 0x0⟩,
  ⟨"METL_CHG_CMD", 0xD0030, 0x4, 1, 0x4, 1, 0x0, 0x0, 0x0, 0x8000FF00, 0x0⟩,
  ⟨"METL_CHG_VAL", 0xD0034, 0x4, 1, 0x4, 1, 0xFFFFFFFF, 0x0, 0x0, 0x0, 0x0⟩,
  ⟨"METL_CHG_STAT", 0xD0038, 0x4, 1, 0x4, 1, 0x0, 0x0, 0x0, 0x0, 0x0⟩,
  ⟨"METL_LOG_SEL", 0xD0040, 0x4, 1, 0x4, 1, 0x3FF, 0x0, 0x0, 0x0, 0x0⟩,
  ⟨"METL_LOG_WORD", 0xD0044, 0x4, 8, 0x4, 1, 0x0, 0x0, 0x0, 0x0, 0x0⟩,
  ⟨"METL_ASSIGN", 0xD0100, 0x4, 24, 0x4, 1, 0xFF0FFFFF, 0x0, 0x0, 0x0, 0x0⟩,
  ⟨"METL_EN_LO", 0xD1000, 0x40, 24, 0x8, 6, 0x0, 0x0, 0x0, 0x0, 0x0⟩,
  ⟨"METL_EN_HI", 0xD1004, 0x40, 24, 0x8, 6, 0x0, 0x0, 0x0, 0x0, 0x0⟩]

/-- The registers of block KEEP. -/
def regsKeep : List RegRow := [
  ⟨"KEEP_STAT", 0xE0000, 0x4, 1, 0x4, 1, 0x0, 0x0, 0x0, 0x0, 0x0⟩,
  ⟨"KEEP_BOOT", 0xE0004, 0x4, 1, 0x4, 1, 0x0, 0x0, 0x0, 0x0, 0x0⟩,
  ⟨"KEEP_CMD", 0xE0008, 0x4, 1, 0x4, 1, 0x0, 0x0, 0x0, 0x800000FF, 0x0⟩,
  ⟨"KEEP_RING_CFG", 0xE1000, 0x10, 256, 0x4, 1, 0xFFC1FFFF, 0x0, 0x0, 0x0, 0x0⟩,
  ⟨"KEEP_RING_ID", 0xE1004, 0x10, 256, 0x4, 1, 0xFFFFFFFF, 0x0, 0x0, 0x0, 0x0⟩,
  ⟨"KEEP_RING_GAP", 0xE1008, 0x10, 256, 0x4, 1, 0xFFFFFF, 0x0, 0x0, 0x0, 0x0⟩,
  ⟨"KEEP_RING_STAT", 0xE100C, 0x10, 256, 0x4, 1, 0x0, 0x0, 0x0, 0x0, 0x0⟩]

/-- The registers of block RTC. -/
def regsRtc : List RegRow := [
  ⟨"RTC_CTRL", 0xF0000, 0x4, 1, 0x4, 1, 0x0, 0x0, 0x0, 0x7, 0x0⟩,
  ⟨"RTC_STAT", 0xF0004, 0x4, 1, 0x4, 1, 0x0, 0x0, 0xE, 0x0, 0xE⟩,
  ⟨"RTC_TIME", 0xF0008, 0x4, 1, 0x4, 1, 0x0, 0x0, 0x0, 0x0, 0x6000000⟩,
  ⟨"RTC_SET_TIME", 0xF0010, 0x4, 1, 0x4, 1, 0x73F7F7F, 0x0, 0x0, 0x0, 0x0⟩,
  ⟨"RTC_TS_TIME", 0xF0018, 0x4, 1, 0x4, 1, 0x0, 0x0, 0x0, 0x0, 0x0⟩,
  ⟨"RTC_ALM_TIME", 0xF0028, 0x4, 1, 0x4, 1, 0x73F7F7F, 0x0, 0x0, 0x0, 0x0⟩,
  ⟨"RTC_DATE", 0xF000C, 0x4, 1, 0x4, 1, 0x0, 0x0, 0x0, 0x0, 0x20000101⟩,
  ⟨"RTC_SET_DATE", 0xF0014, 0x4, 1, 0x4, 1, 0xFFFF1F3F, 0x0, 0x0, 0x0, 0x0⟩,
  ⟨"RTC_TS_DATE", 0xF001C, 0x4, 1, 0x4, 1, 0x0, 0x0, 0x0, 0x0, 0x0⟩,
  ⟨"RTC_ALM_DATE", 0xF002C, 0x4, 1, 0x4, 1, 0xFFFF1F3F, 0x0, 0x0, 0x0, 0x0⟩,
  ⟨"RTC_TS_SUB", 0xF0020, 0x4, 1, 0x4, 1, 0x0, 0x0, 0x0, 0x0, 0x0⟩,
  ⟨"RTC_TS_REQ", 0xF0024, 0x4, 1, 0x4, 1, 0x0, 0x0, 0x0, 0x0, 0x0⟩,
  ⟨"RTC_ALM_CTRL", 0xF0030, 0x4, 1, 0x4, 1, 0x0, 0x0, 0x0, 0xC0000000, 0x0⟩,
  ⟨"RTC_TRIM", 0xF0034, 0x4, 1, 0x4, 1, 0x3FF, 0x0, 0x0, 0x0, 0x0⟩,
  ⟨"RTC_BKMEM", 0xF0040, 0x4, 16, 0x4, 1, 0xFFFFFFFF, 0x0, 0x0, 0x0, 0x0⟩,
  ⟨"RTC_TREC_CTL", 0xF0080, 0x4, 1, 0x4, 1, 0x0, 0x0, 0x0, 0x0, 0x0⟩,
  ⟨"RTC_TREC_FIRST_TIME", 0xF0084, 0x4, 1, 0x4, 1, 0x0, 0x0, 0x0, 0x0, 0x0⟩,
  ⟨"RTC_TREC_LAST_TIME", 0xF008C, 0x4, 1, 0x4, 1, 0x0, 0x0, 0x0, 0x0, 0x0⟩,
  ⟨"RTC_TREC_FIRST_DATE", 0xF0088, 0x4, 1, 0x4, 1, 0x0, 0x0, 0x0, 0x0, 0x0⟩,
  ⟨"RTC_TREC_LAST_DATE", 0xF0090, 0x4, 1, 0x4, 1, 0x0, 0x0, 0x0, 0x0, 0x0⟩,
  ⟨"RTC_TREC_CHK", 0xF0094, 0x4, 1, 0x4, 1, 0x0, 0x0, 0x0, 0x0, 0xF6B8⟩]

/-- The registers of block ERR. -/
def regsErr : List RegRow := [
  ⟨"ERR_GSTAT", 0x100000, 0x4, 1, 0x4, 1, 0x0, 0x0, 0x0, 0x0, 0x0⟩,
  ⟨"ERR_GCTRL", 0x100004, 0x4, 1, 0x4, 1, 0x0, 0x0, 0x0, 0x3, 0x0⟩,
  ⟨"ERR_GSEL", 0x100008, 0x4, 1, 0x4, 1, 0x3F, 0x0, 0x0, 0x0, 0x0⟩,
  ⟨"ERR_GWORD", 0x100010, 0x4, 8, 0x4, 1, 0x0, 0x0, 0x0, 0x0, 0x0⟩,
  ⟨"ERR_PQ_CFG", 0x100100, 0x4, 128, 0x4, 1, 0x0, 0x0, 0x0, 0x0, 0x0⟩,
  ⟨"ERR_PQ_STAT", 0x100300, 0x4, 128, 0x4, 1, 0x0, 0x0, 0x0, 0x0, 0x0⟩,
  ⟨"ERR_FRZ_CFG", 0x100600, 0x4, 1, 0x4, 1, 0xF, 0x0, 0x0, 0x0, 0x1⟩,
  ⟨"ERR_FRZ_TICK", 0x100604, 0x4, 1, 0x4, 1, 0xFFFFFFFF, 0x0, 0x0, 0x0, 0x0⟩,
  ⟨"ERR_FRZ_CYCLE", 0x100608, 0x4, 1, 0x4, 1, 0x1FFFF, 0x0, 0x0, 0x0, 0x0⟩,
  ⟨"ERR_FRZ_CLASS", 0x10060C, 0x4, 1, 0x4, 1, 0xFF06FFFE, 0x0, 0x0, 0x0, 0x80000000⟩,
  ⟨"ERR_FRZ_STAT", 0x100610, 0x4, 1, 0x4, 1, 0x0, 0x0, 0x0, 0x0, 0x0⟩,
  ⟨"ERR_LAST_FRZ", 0x100614, 0x4, 1, 0x4, 1, 0x0, 0x0, 0x0, 0x0, 0x0⟩,
  ⟨"ERR_LAST_FRZ_ABS", 0x100618, 0x4, 1, 0x4, 1, 0x0, 0x0, 0x0, 0x0, 0x0⟩,
  ⟨"ERR_CONSENT", 0x100500, 0x4, 4, 0x4, 1, 0x0, 0x0, 0x0, 0x0, 0x0⟩]

/-- The registers of block ID. -/
def regsId : List RegRow := [
  ⟨"ID_STRAP", 0x110100, 0x4, 1, 0x4, 1, 0x0, 0x0, 0x0, 0x0, 0x0⟩,
  ⟨"ID_EXTRACT", 0x110104, 0x4, 1, 0x4, 1, 0x0, 0x0, 0x0, 0x0, 0x0⟩,
  ⟨"ID_PWR_STAT", 0x110108, 0x4, 1, 0x4, 1, 0x0, 0x0, 0x0, 0x0, 0x0⟩,
  ⟨"ID_PWR_VOLT", 0x11010C, 0x4, 1, 0x4, 1, 0x0, 0x0, 0x0, 0x0, 0x0⟩,
  ⟨"ID_LC", 0x110000, 0x4, 1, 0x4, 1, 0x0, 0x0, 0x0, 0x0, 0x0⟩,
  ⟨"ID_BOOT", 0x110110, 0x4, 1, 0x4, 1, 0x0, 0x0, 0x0, 0x0, 0x1⟩,
  ⟨"ID_RESET", 0x110114, 0x4, 1, 0x4, 1, 0x0, 0x0, 0x0, 0x0, 0x0⟩]

/-- The registers of the block that holds an address (the table of SRF blocks before R28). -/
def regBlock (a : Nat) : List RegRow :=
  match a / 0x10000 with
  | 0 => regsTick
  | 1 => regsTs
  | 2 => regsEng
  | 3 => regsSw
  | 4 => regsTime
  | 5 => regsCan
  | 6 => regsSpe
  | 7 => regsSafe
  | 8 => regsClu
  | 9 => regsSv
  | 10 => regsHaw
  | 11 => regsTwin
  | 12 => regsVault
  | 13 => regsMetl
  | 14 => regsKeep
  | 15 => regsRtc
  | 16 => regsErr
  | 17 => regsId
  | _ => []

namespace R

abbrev ID_STRAP : Nat := 0x110100
abbrev ID_EXTRACT : Nat := 0x110104
abbrev ID_PWR_STAT : Nat := 0x110108
abbrev ID_PWR_VOLT : Nat := 0x11010C
abbrev TICK_CTRL : Nat := 0x0
abbrev TICK_STAT : Nat := 0x4
abbrev TICK_NOW : Nat := 0x8
abbrev TICK_SEC_LO : Nat := 0xC
abbrev TICK_SEC_HI : Nat := 0x10
abbrev TICK_LEN : Nat := 0x14
abbrev TICK_LEN_RANGE : Nat := 0x18
abbrev TICK_STEP : Nat := 0x1C
abbrev TICK_SWAP_AT : Nat := 0x20
abbrev TICK_SLOT_A (i : Nat) : Nat := 0x1000 + 0x4 * i
abbrev TICK_SLOT_B (i : Nat) : Nat := 0x9000 + 0x4 * i
abbrev TICK_TASK_PER_A (i : Nat) : Nat := 0x2000 + 0x8 * i
abbrev TICK_TASK_PER_B (i : Nat) : Nat := 0xA000 + 0x8 * i
abbrev TICK_TASK_BIND_A (i : Nat) : Nat := 0x2004 + 0x8 * i
abbrev TICK_TASK_BIND_B (i : Nat) : Nat := 0xA004 + 0x8 * i
abbrev TS_SCRUB_STAT : Nat := 0x10000
abbrev TS_REPAIR_STAT : Nat := 0x10004
abbrev TS_ALLOC_CMD : Nat := 0x10010
abbrev TS_ALLOC_ATTR : Nat := 0x10014
abbrev TS_ALLOC_ID : Nat := 0x10018
abbrev TS_ALLOC_STAT : Nat := 0x1001C
abbrev TS_QUOTA (i : Nat) : Nat := 0x10200 + 0x4 * i
abbrev TS_MBX (i : Nat) : Nat := 0x10800 + 0x4 * i
abbrev TS_BANK_STAT (i : Nat) : Nat := 0x10400 + 0x4 * i
abbrev TS_DIR_CTL (i : Nat) : Nat := 0x14000 + 0x4 * i
abbrev TS_DIR_ID (i : Nat) : Nat := 0x18000 + 0x4 * i
abbrev TS_DIR_GEN (i : Nat) : Nat := 0x1C000 + 0x4 * i
abbrev ENG_SPARE : Nat := 0x20000
abbrev ENG_XBAR_STAT : Nat := 0x20004
abbrev ENG_LAMP (i : Nat) : Nat := 0x20100 + 0x4 * i
abbrev ENG_PART_CTRL (i : Nat) : Nat := 0x20200 + 0x4 * i
abbrev ENG_PART_STAT (i : Nat) : Nat := 0x20400 + 0x4 * i
abbrev ENG_WD (i : Nat) : Nat := 0x20600 + 0x4 * i
abbrev ENG_CODE_PAGE (i : Nat) : Nat := 0x21000 + 0x4 * i
abbrev ENG_EVT_ROUTE (i : Nat) : Nat := 0x22000 + 0x4 * i
abbrev ENG_XBAR_A (i : Nat) : Nat := 0x24000 + 0x4 * i
abbrev ENG_XBAR_B (i : Nat) : Nat := 0x25000 + 0x4 * i
abbrev ENG_EVT_MASK_A (i : Nat) : Nat := 0x28000 + 0x4 * i
abbrev ENG_EVT_MASK_B (i : Nat) : Nat := 0x2A000 + 0x4 * i
abbrev ENG_FIXUP : Nat := 0x20008
abbrev ENG_SELFTEST : Nat := 0x2000C
abbrev ENG_MIGRATE : Nat := 0x20010
abbrev ENG_XCHG_STAT (i : Nat) : Nat := 0x20800 + 0x4 * i
abbrev ENG_XCHG_TICK (i : Nat) : Nat := 0x20A00 + 0x4 * i
abbrev CLU_STAT : Nat := 0x80000
abbrev CLU_SLOT (i : Nat) : Nat := 0x80400 + 0x4 * i
abbrev SV_STAT : Nat := 0x90000
abbrev SV_STRM_CTRL (i : Nat) : Nat := 0x91000 + 0x20 * i
abbrev SV_STRM_ID (i : Nat) : Nat := 0x91004 + 0x20 * i
abbrev SV_STRM_STAT (i : Nat) : Nat := 0x91008 + 0x20 * i
abbrev SV_STRM_ERRA (i : Nat) : Nat := 0x9100C + 0x20 * i
abbrev SV_STRM_ERRB (i : Nat) : Nat := 0x91010 + 0x20 * i
abbrev SV_TRIP_CFG (i : Nat) : Nat := 0x92000 + 0x10 * i
abbrev SV_TRIP_ST (i : Nat) : Nat := 0x92004 + 0x10 * i
abbrev SV_TRIP_SQ (i : Nat) : Nat := 0x92008 + 0x10 * i
abbrev SV_TRIP_NEXT (i : Nat) : Nat := 0x9200C + 0x10 * i
abbrev SW_PCFG (i : Nat) : Nat := 0x30000 + 0x400 * i
abbrev SW_PSTAT (i : Nat) : Nat := 0x30004 + 0x400 * i
abbrev SW_TSQ (i : Nat) : Nat := 0x30008 + 0x400 * i
abbrev SW_QCFG (i j : Nat) : Nat := 0x30020 + 0x400 * i + 0x4 * j
abbrev SW_QTS (i j : Nat) : Nat := 0x30040 + 0x400 * i + 0x4 * j
abbrev SW_CNT (i j : Nat) : Nat := 0x30100 + 0x400 * i + 0x4 * j
abbrev SW_CELLS (i : Nat) : Nat := 0x3C000 + 0x4 * i
abbrev SW_POOL : Nat := 0x3C200
abbrev SW_PRP : Nat := 0x3C204
abbrev SW_SHUT_STAT : Nat := 0x3C208
abbrev SW_SHUT_CTR : Nat := 0x3C20C
abbrev SW_MGMT_CFG : Nat := 0x3C210
abbrev SW_MGMT_IP4 : Nat := 0x3C214
abbrev SW_MGMT_IP6 (i : Nat) : Nat := 0x3C218 + 0x4 * i
abbrev SW_MAC_BASE_LO : Nat := 0x3C228
abbrev SW_MAC_BASE_HI : Nat := 0x3C22C
abbrev SW_RING (i : Nat) : Nat := 0x3C400 + 0x4 * i
abbrev SW_FDB (i : Nat) : Nat := 0x3CC00 + 0x4 * i
abbrev SW_VLAN_CTL (i : Nat) : Nat := 0x3D000 + 0x10 * i
abbrev SW_VLAN_MEM (i : Nat) : Nat := 0x3D004 + 0x10 * i
abbrev SW_VLAN_UNT (i : Nat) : Nat := 0x3D008 + 0x10 * i
abbrev SW_VLAN_HI (i : Nat) : Nat := 0x3D00C + 0x10 * i
abbrev SW_WAKE_CTL (i : Nat) : Nat := 0x3E000 + 0x20 * i
abbrev SW_WAKE_MASK_A (i : Nat) : Nat := 0x3E004 + 0x20 * i
abbrev SW_WAKE_MASK_B (i : Nat) : Nat := 0x3E008 + 0x20 * i
abbrev SW_WAKE_MASK_C (i : Nat) : Nat := 0x3E00C + 0x20 * i
abbrev SW_WAKE_MASK_D (i : Nat) : Nat := 0x3E010 + 0x20 * i
abbrev TIME_CTRL : Nat := 0x40000
abbrev TIME_CFG : Nat := 0x40004
abbrev TIME_STAT : Nat := 0x40008
abbrev TIME_SEC_LO : Nat := 0x4000C
abbrev TIME_SEC_HI : Nat := 0x40010
abbrev TIME_NS : Nat := 0x40014
abbrev TIME_FRAC : Nat := 0x40018
abbrev TIME_RATE : Nat := 0x4001C
abbrev TIME_OFFSET : Nat := 0x40020
abbrev TIME_PDELAY : Nat := 0x40024
abbrev TIME_UTC : Nat := 0x40028
abbrev TIME_HOLD : Nat := 0x4002C
abbrev TIME_GM_LO : Nat := 0x40030
abbrev TIME_GM_HI : Nat := 0x40034
abbrev TIME_PORT (i : Nat) : Nat := 0x40100 + 0x4 * i
abbrev CAN_CTRL (i : Nat) : Nat := 0x50000 + 0x1000 * i
abbrev CAN_STAT (i : Nat) : Nat := 0x50004 + 0x1000 * i
abbrev CAN_ERRC (i : Nat) : Nat := 0x50008 + 0x1000 * i
abbrev CAN_BTN (i : Nat) : Nat := 0x5000C + 0x1000 * i
abbrev CAN_BTD (i : Nat) : Nat := 0x50010 + 0x1000 * i
abbrev CAN_BTX (i : Nat) : Nat := 0x50014 + 0x1000 * i
abbrev CAN_TSEDGE (i : Nat) : Nat := 0x50018 + 0x1000 * i
abbrev CAN_HPM_ID (i j : Nat) : Nat := 0x50040 + 0x1000 * i + 0x10 * j
abbrev CAN_HPM_MASK (i j : Nat) : Nat := 0x50044 + 0x1000 * i + 0x10 * j
abbrev CAN_HPM_CFG (i j : Nat) : Nat := 0x50048 + 0x1000 * i + 0x10 * j
abbrev CAN_MB_CFG (i j : Nat) : Nat := 0x50100 + 0x1000 * i + 0x4 * j
abbrev CAN_MB_STAT (i j : Nat) : Nat := 0x50200 + 0x1000 * i + 0x4 * j
abbrev CAN_PMAP_A (i j : Nat) : Nat := 0x50320 + 0x1000 * i + 0x8 * j
abbrev CAN_PMAP_B (i j : Nat) : Nat := 0x50324 + 0x1000 * i + 0x8 * j
abbrev CAN_FLT_A (i j : Nat) : Nat := 0x50400 + 0x1000 * i + 0xC * j
abbrev CAN_FLT_B (i j : Nat) : Nat := 0x50404 + 0x1000 * i + 0xC * j
abbrev CAN_FLT_C (i j : Nat) : Nat := 0x50408 + 0x1000 * i + 0xC * j
abbrev SPE_PCFG (i : Nat) : Nat := 0x60000 + 0x20 * i
abbrev SPE_PSTAT (i : Nat) : Nat := 0x60004 + 0x20 * i
abbrev SPE_PWR (i : Nat) : Nat := 0x60008 + 0x20 * i
abbrev SPE_PMAP (i : Nat) : Nat := 0x6000C + 0x20 * i
abbrev SPE_SMAP (i : Nat) : Nat := 0x60010 + 0x20 * i
abbrev SPE_PWR_TOTAL : Nat := 0x60400
abbrev SPE_UCFG (i : Nat) : Nat := 0x60800 + 0x20 * i
abbrev SPE_UBAUD (i : Nat) : Nat := 0x60804 + 0x20 * i
abbrev SPE_UBIND (i : Nat) : Nat := 0x60808 + 0x20 * i
abbrev SPE_USTAT (i : Nat) : Nat := 0x6080C + 0x20 * i
abbrev SPE_ULEN (i : Nat) : Nat := 0x60810 + 0x20 * i
abbrev SAFE_CTRL : Nat := 0x70000
abbrev SAFE_STAT : Nat := 0x70004
abbrev SAFE_CFG : Nat := 0x70008
abbrev SAFE_IMG : Nat := 0x7000C
abbrev SAFE_ACK : Nat := 0x70010
abbrev SAFE_LOG_STAT : Nat := 0x70014
abbrev SAFE_DIGEST : Nat := 0x70018
abbrev SAFE_TP (i : Nat) : Nat := 0x70020 + 0x4 * i
abbrev SAFE_SI_CFG (i : Nat) : Nat := 0x70100 + 0x10 * i
abbrev SAFE_SI_CHAT (i : Nat) : Nat := 0x70104 + 0x10 * i
abbrev SAFE_SI_STAT (i : Nat) : Nat := 0x70108 + 0x10 * i
abbrev SAFE_SQ_CFG (i : Nat) : Nat := 0x70200 + 0x10 * i
abbrev SAFE_SQ_STAT (i : Nat) : Nat := 0x70204 + 0x10 * i
abbrev SAFE_TX_CFG (i : Nat) : Nat := 0x70400 + 0x10 * i
abbrev SAFE_TX_SIG (i : Nat) : Nat := 0x70404 + 0x10 * i
abbrev SAFE_RX_SIG (i : Nat) : Nat := 0x70808 + 0x10 * i
abbrev SAFE_RX_CFG (i : Nat) : Nat := 0x70800 + 0x10 * i
abbrev SAFE_RX_WD (i : Nat) : Nat := 0x70804 + 0x10 * i
abbrev SAFE_RX_STAT (i : Nat) : Nat := 0x7080C + 0x10 * i
abbrev HAW_CTRL : Nat := 0xA0000
abbrev HAW_STAT : Nat := 0xA0004
abbrev HAW_LINK (i : Nat) : Nat := 0xA0010 + 0x4 * i
abbrev HAW_BEACON : Nat := 0xA0020
abbrev HAW_PX_STAT : Nat := 0xA0024
abbrev HAW_PX_SHARE (i : Nat) : Nat := 0xA0100 + 0x4 * i
abbrev HAW_PUB (i : Nat) : Nat := 0xA1000 + 0x4 * i
abbrev HAW_SUB_CTL (i : Nat) : Nat := 0xA2000 + 0x10 * i
abbrev HAW_SUB_SRC (i : Nat) : Nat := 0xA2004 + 0x10 * i
abbrev HAW_SUB_ID (i : Nat) : Nat := 0xA2008 + 0x10 * i
abbrev HAW_SUB_STAT (i : Nat) : Nat := 0xA200C + 0x10 * i
abbrev TWIN_CFG : Nat := 0xB0000
abbrev TWIN_STAT : Nat := 0xB0004
abbrev TWIN_PART (i : Nat) : Nat := 0xB0008 + 0x4 * i
abbrev TWIN_LANYARD : Nat := 0xB0018
abbrev TWIN_DIGEST : Nat := 0xB001C
abbrev TWIN_NODE_LO : Nat := 0xB0020
abbrev TWIN_NODE_HI : Nat := 0xB0024
abbrev TWIN_WIT (i : Nat) : Nat := 0xB0100 + 0x4 * i
abbrev ID_LC : Nat := 0x110000
abbrev VAULT_STAT : Nat := 0xC0000
abbrev VAULT_TAMPER_CFG : Nat := 0xC0008
abbrev VAULT_TAMPER_STAT : Nat := 0xC000C
abbrev VAULT_ASYM_WIN (i : Nat) : Nat := 0xC0020 + 0x4 * i
abbrev VAULT_SLOT (i : Nat) : Nat := 0xC0100 + 0x4 * i
abbrev VAULT_SLOT_USE (i : Nat) : Nat := 0xC0200 + 0x4 * i
abbrev VAULT_DRV (i : Nat) : Nat := 0xC0400 + 0x4 * i
abbrev METL_STAT : Nat := 0xD0000
abbrev METL_ID (i : Nat) : Nat := 0xD0004 + 0x4 * i
abbrev METL_CHKSUM : Nat := 0xD0014
abbrev METL_EVCNT : Nat := 0xD0018
abbrev METL_TEST : Nat := 0xD0020
abbrev METL_CHG_CMD : Nat := 0xD0030
abbrev METL_CHG_VAL : Nat := 0xD0034
abbrev METL_CHG_STAT : Nat := 0xD0038
abbrev METL_LOG_SEL : Nat := 0xD0040
abbrev METL_LOG_WORD (i : Nat) : Nat := 0xD0044 + 0x4 * i
abbrev METL_ASSIGN (i : Nat) : Nat := 0xD0100 + 0x4 * i
abbrev METL_EN_LO (i j : Nat) : Nat := 0xD1000 + 0x40 * i + 0x8 * j
abbrev METL_EN_HI (i j : Nat) : Nat := 0xD1004 + 0x40 * i + 0x8 * j
abbrev KEEP_STAT : Nat := 0xE0000
abbrev KEEP_BOOT : Nat := 0xE0004
abbrev KEEP_CMD : Nat := 0xE0008
abbrev KEEP_RING_CFG (i : Nat) : Nat := 0xE1000 + 0x10 * i
abbrev KEEP_RING_ID (i : Nat) : Nat := 0xE1004 + 0x10 * i
abbrev KEEP_RING_GAP (i : Nat) : Nat := 0xE1008 + 0x10 * i
abbrev KEEP_RING_STAT (i : Nat) : Nat := 0xE100C + 0x10 * i
abbrev RTC_CTRL : Nat := 0xF0000
abbrev RTC_STAT : Nat := 0xF0004
abbrev RTC_TIME : Nat := 0xF0008
abbrev RTC_SET_TIME : Nat := 0xF0010
abbrev RTC_TS_TIME : Nat := 0xF0018
abbrev RTC_ALM_TIME : Nat := 0xF0028
abbrev RTC_DATE : Nat := 0xF000C
abbrev RTC_SET_DATE : Nat := 0xF0014
abbrev RTC_TS_DATE : Nat := 0xF001C
abbrev RTC_ALM_DATE : Nat := 0xF002C
abbrev RTC_TS_SUB : Nat := 0xF0020
abbrev RTC_TS_REQ : Nat := 0xF0024
abbrev RTC_ALM_CTRL : Nat := 0xF0030
abbrev RTC_TRIM : Nat := 0xF0034
abbrev RTC_BKMEM (i : Nat) : Nat := 0xF0040 + 0x4 * i
abbrev RTC_TREC_CTL : Nat := 0xF0080
abbrev RTC_TREC_FIRST_TIME : Nat := 0xF0084
abbrev RTC_TREC_LAST_TIME : Nat := 0xF008C
abbrev RTC_TREC_FIRST_DATE : Nat := 0xF0088
abbrev RTC_TREC_LAST_DATE : Nat := 0xF0090
abbrev RTC_TREC_CHK : Nat := 0xF0094
abbrev ERR_GSTAT : Nat := 0x100000
abbrev ERR_GCTRL : Nat := 0x100004
abbrev ERR_GSEL : Nat := 0x100008
abbrev ERR_GWORD (i : Nat) : Nat := 0x100010 + 0x4 * i
abbrev ERR_PQ_CFG (i : Nat) : Nat := 0x100100 + 0x4 * i
abbrev ERR_PQ_STAT (i : Nat) : Nat := 0x100300 + 0x4 * i
abbrev ERR_FRZ_CFG : Nat := 0x100600
abbrev ERR_FRZ_TICK : Nat := 0x100604
abbrev ERR_FRZ_CYCLE : Nat := 0x100608
abbrev ERR_FRZ_CLASS : Nat := 0x10060C
abbrev ERR_FRZ_STAT : Nat := 0x100610
abbrev ERR_LAST_FRZ : Nat := 0x100614
abbrev ERR_LAST_FRZ_ABS : Nat := 0x100618
abbrev ERR_CONSENT (i : Nat) : Nat := 0x100500 + 0x4 * i
abbrev ID_BOOT : Nat := 0x110110
abbrev ID_RESET : Nat := 0x110114

end R

namespace F

abbrev ID_STRAP_STRAP_FAULT : Fld := ⟨15, 1⟩
abbrev ID_STRAP_SEAT : Fld := ⟨14, 1⟩
abbrev ID_STRAP_EXTRACT_REQ : Fld := ⟨13, 1⟩
abbrev ID_STRAP_CHANGED : Fld := ⟨12, 1⟩
abbrev ID_STRAP_WITNESS : Fld := ⟨9, 1⟩
abbrev ID_STRAP_MASTER : Fld := ⟨8, 1⟩
abbrev ID_STRAP_SLOT_ID : Fld := ⟨0, 6⟩
abbrev ID_EXTRACT_TICKS : Fld := ⟨16, 16⟩
abbrev ID_EXTRACT_REFUSE_CAUSE : Fld := ⟨8, 4⟩
abbrev ID_EXTRACT_SOURCE : Fld := ⟨4, 2⟩
abbrev ID_EXTRACT_STATE : Fld := ⟨0, 4⟩
abbrev ID_PWR_STAT_DIPS : Fld := ⟨16, 16⟩
abbrev ID_PWR_STAT_VSO_OV : Fld := ⟨11, 1⟩
abbrev ID_PWR_STAT_VSO_LOW : Fld := ⟨10, 1⟩
abbrev ID_PWR_STAT_VFLD_OV : Fld := ⟨9, 1⟩
abbrev ID_PWR_STAT_VFLD_LOW : Fld := ⟨8, 1⟩
abbrev ID_PWR_STAT_HOLD_LOW : Fld := ⟨5, 1⟩
abbrev ID_PWR_STAT_HOLD_OK : Fld := ⟨4, 1⟩
abbrev ID_PWR_STAT_V24_OV : Fld := ⟨3, 1⟩
abbrev ID_PWR_STAT_DIP : Fld := ⟨2, 1⟩
abbrev ID_PWR_STAT_PF_STATE : Fld := ⟨0, 2⟩
abbrev ID_PWR_VOLT_HOLD : Fld := ⟨24, 8⟩
abbrev ID_PWR_VOLT_VSO : Fld := ⟨16, 8⟩
abbrev ID_PWR_VOLT_VFLD : Fld := ⟨8, 8⟩
abbrev ID_PWR_VOLT_V24 : Fld := ⟨0, 8⟩
abbrev TICK_CTRL_CANCEL : Fld := ⟨1, 1⟩
abbrev TICK_CTRL_SWAP : Fld := ⟨0, 1⟩
abbrev TICK_STAT_ERR_TAB : Fld := ⟨27, 1⟩
abbrev TICK_STAT_ERR_IDX : Fld := ⟨16, 11⟩
abbrev TICK_STAT_SWAP_ERR : Fld := ⟨8, 4⟩
abbrev TICK_STAT_SWAP_CHECKED : Fld := ⟨2, 1⟩
abbrev TICK_STAT_SWAP_PEND : Fld := ⟨1, 1⟩
abbrev TICK_STAT_ACTIVE : Fld := ⟨0, 1⟩
abbrev TICK_NOW_CYCLE : Fld := ⟨15, 17⟩
abbrev TICK_NOW_TICK : Fld := ⟨0, 13⟩
abbrev TICK_SEC_LO_SEC : Fld := ⟨0, 32⟩
abbrev TICK_SEC_HI_SEC : Fld := ⟨0, 32⟩
abbrev TICK_LEN_LAST : Fld := ⟨0, 17⟩
abbrev TICK_LEN_RANGE_MAX : Fld := ⟨16, 16⟩
abbrev TICK_LEN_RANGE_MIN : Fld := ⟨0, 16⟩
abbrev TICK_STEP_STEPS : Fld := ⟨0, 16⟩
abbrev TICK_SWAP_AT_AT_EN : Fld := ⟨31, 1⟩
abbrev TICK_SWAP_AT_AT_SEC : Fld := ⟨13, 16⟩
abbrev TICK_SWAP_AT_AT_TICK : Fld := ⟨0, 13⟩
abbrev TICK_SLOT_A_VALID : Fld := ⟨31, 1⟩
abbrev TICK_SLOT_A_PART : Fld := ⟨24, 7⟩
abbrev TICK_SLOT_A_LEN : Fld := ⟨10, 10⟩
abbrev TICK_SLOT_A_START : Fld := ⟨0, 10⟩
abbrev TICK_SLOT_B_VALID : Fld := ⟨31, 1⟩
abbrev TICK_SLOT_B_PART : Fld := ⟨24, 7⟩
abbrev TICK_SLOT_B_LEN : Fld := ⟨10, 10⟩
abbrev TICK_SLOT_B_START : Fld := ⟨0, 10⟩
abbrev TICK_TASK_PER_A_PHASE : Fld := ⟨16, 16⟩
abbrev TICK_TASK_PER_A_PERIOD : Fld := ⟨0, 16⟩
abbrev TICK_TASK_PER_B_PHASE : Fld := ⟨16, 16⟩
abbrev TICK_TASK_PER_B_PERIOD : Fld := ⟨0, 16⟩
abbrev TICK_TASK_BIND_A_VALID : Fld := ⟨31, 1⟩
abbrev TICK_TASK_BIND_A_KIND : Fld := ⟨28, 3⟩
abbrev TICK_TASK_BIND_A_ENTRY : Fld := ⟨12, 14⟩
abbrev TICK_TASK_BIND_A_SLOT : Fld := ⟨0, 10⟩
abbrev TICK_TASK_BIND_B_VALID : Fld := ⟨31, 1⟩
abbrev TICK_TASK_BIND_B_KIND : Fld := ⟨28, 3⟩
abbrev TICK_TASK_BIND_B_ENTRY : Fld := ⟨12, 14⟩
abbrev TICK_TASK_BIND_B_SLOT : Fld := ⟨0, 10⟩
abbrev TS_SCRUB_STAT_PASSES : Fld := ⟨16, 16⟩
abbrev TS_SCRUB_STAT_NEXT : Fld := ⟨0, 6⟩
abbrev TS_REPAIR_STAT_PENDING : Fld := ⟨16, 13⟩
abbrev TS_REPAIR_STAT_LOST : Fld := ⟨0, 16⟩
abbrev TS_ALLOC_CMD_OP : Fld := ⟨30, 2⟩
abbrev TS_ALLOC_CMD_LINK : Fld := ⟨12, 6⟩
abbrev TS_ALLOC_CMD_LOC : Fld := ⟨0, 12⟩
abbrev TS_ALLOC_ATTR_PART : Fld := ⟨24, 7⟩
abbrev TS_ALLOC_ATTR_KIND : Fld := ⟨20, 4⟩
abbrev TS_ALLOC_ATTR_FLAGS : Fld := ⟨8, 6⟩
abbrev TS_ALLOC_ID_IDENT : Fld := ⟨0, 32⟩
abbrev TS_ALLOC_STAT_RESULT : Fld := ⟨0, 4⟩
abbrev TS_QUOTA_LIMIT : Fld := ⟨16, 13⟩
abbrev TS_QUOTA_USED : Fld := ⟨0, 13⟩
abbrev TS_MBX_VALID : Fld := ⟨31, 1⟩
abbrev TS_MBX_IN : Fld := ⟨12, 12⟩
abbrev TS_MBX_OUT : Fld := ⟨0, 12⟩
abbrev TS_BANK_STAT_FAILS : Fld := ⟨24, 8⟩
abbrev TS_BANK_STAT_REPAIRED : Fld := ⟨16, 8⟩
abbrev TS_BANK_STAT_ECC : Fld := ⟨8, 8⟩
abbrev TS_BANK_STAT_LAST : Fld := ⟨0, 6⟩
abbrev TS_DIR_CTL_VALID : Fld := ⟨31, 1⟩
abbrev TS_DIR_CTL_OWNER : Fld := ⟨24, 7⟩
abbrev TS_DIR_CTL_KIND : Fld := ⟨20, 4⟩
abbrev TS_DIR_CTL_STATE : Fld := ⟨18, 2⟩
abbrev TS_DIR_CTL_ACT : Fld := ⟨16, 1⟩
abbrev TS_DIR_CTL_FLAGS : Fld := ⟨8, 6⟩
abbrev TS_DIR_CTL_LINK : Fld := ⟨0, 6⟩
abbrev TS_DIR_ID_IDENT : Fld := ⟨0, 32⟩
abbrev TS_DIR_GEN_GEN : Fld := ⟨0, 32⟩
abbrev ENG_SPARE_LOW : Fld := ⟨16, 1⟩
abbrev ENG_SPARE_HEALTHY : Fld := ⟨8, 4⟩
abbrev ENG_SPARE_COUNT : Fld := ⟨0, 4⟩
abbrev ENG_XBAR_STAT_FAIL : Fld := ⟨31, 1⟩
abbrev ENG_XBAR_STAT_CAUSE : Fld := ⟨16, 3⟩
abbrev ENG_XBAR_STAT_IDX : Fld := ⟨0, 10⟩
abbrev ENG_LAMP_FAILS : Fld := ⟨24, 8⟩
abbrev ENG_LAMP_STATE : Fld := ⟨16, 2⟩
abbrev ENG_LAMP_PHYS : Fld := ⟨0, 6⟩
abbrev ENG_PART_CTRL_CMD : Fld := ⟨0, 3⟩
abbrev ENG_PART_STAT_EVLOST : Fld := ⟨24, 8⟩
abbrev ENG_PART_STAT_OVR : Fld := ⟨16, 8⟩
abbrev ENG_PART_STAT_CAUSE : Fld := ⟨8, 4⟩
abbrev ENG_PART_STAT_STATE : Fld := ⟨0, 3⟩
abbrev ENG_WD_COUNT : Fld := ⟨16, 16⟩
abbrev ENG_WD_LIMIT : Fld := ⟨0, 16⟩
abbrev ENG_CODE_PAGE_VALID : Fld := ⟨31, 1⟩
abbrev ENG_CODE_PAGE_PART : Fld := ⟨24, 7⟩
abbrev ENG_CODE_PAGE_STATE : Fld := ⟨22, 2⟩
abbrev ENG_CODE_PAGE_LOC : Fld := ⟨0, 12⟩
abbrev ENG_EVT_ROUTE_VALID : Fld := ⟨31, 1⟩
abbrev ENG_EVT_ROUTE_TYPE : Fld := ⟨28, 3⟩
abbrev ENG_EVT_ROUTE_INDEX : Fld := ⟨16, 12⟩
abbrev ENG_EVT_ROUTE_PART : Fld := ⟨8, 7⟩
abbrev ENG_EVT_ROUTE_FLAG : Fld := ⟨0, 5⟩
abbrev ENG_XBAR_A_BANK : Fld := ⟨26, 6⟩
abbrev ENG_XBAR_A_LAMP : Fld := ⟨20, 6⟩
abbrev ENG_XBAR_A_LEN : Fld := ⟨10, 10⟩
abbrev ENG_XBAR_A_START : Fld := ⟨0, 10⟩
abbrev ENG_XBAR_B_BANK : Fld := ⟨26, 6⟩
abbrev ENG_XBAR_B_LAMP : Fld := ⟨20, 6⟩
abbrev ENG_XBAR_B_LEN : Fld := ⟨10, 10⟩
abbrev ENG_XBAR_B_START : Fld := ⟨0, 10⟩
abbrev ENG_EVT_MASK_A_MASK : Fld := ⟨0, 32⟩
abbrev ENG_EVT_MASK_B_MASK : Fld := ⟨0, 32⟩
abbrev ENG_FIXUP_USED : Fld := ⟨0, 12⟩
abbrev ENG_SELFTEST_START : Fld := ⟨31, 1⟩
abbrev ENG_SELFTEST_TRANSIENT : Fld := ⟨16, 8⟩
abbrev ENG_SELFTEST_RETIRED : Fld := ⟨8, 8⟩
abbrev ENG_SELFTEST_POS : Fld := ⟨0, 6⟩
abbrev ENG_MIGRATE_ACTIVE : Fld := ⟨31, 1⟩
abbrev ENG_MIGRATE_PAGES_LEFT : Fld := ⟨16, 8⟩
abbrev ENG_MIGRATE_SPARE : Fld := ⟨8, 6⟩
abbrev ENG_MIGRATE_POS : Fld := ⟨0, 6⟩
abbrev ENG_XCHG_STAT_STATE : Fld := ⟨28, 4⟩
abbrev ENG_XCHG_STAT_RESULT : Fld := ⟨24, 4⟩
abbrev ENG_XCHG_STAT_PAGES_LEFT : Fld := ⟨16, 8⟩
abbrev ENG_XCHG_STAT_COUNT : Fld := ⟨0, 16⟩
abbrev ENG_XCHG_TICK_ABS : Fld := ⟨0, 32⟩
abbrev CLU_STAT_UNCORR : Fld := ⟨24, 8⟩
abbrev CLU_STAT_CORR : Fld := ⟨16, 8⟩
abbrev CLU_STAT_BOUND : Fld := ⟨0, 9⟩
abbrev CLU_SLOT_VALID : Fld := ⟨31, 1⟩
abbrev CLU_SLOT_PART : Fld := ⟨24, 7⟩
abbrev CLU_SLOT_STATE : Fld := ⟨21, 3⟩
abbrev CLU_SLOT_REC : Fld := ⟨16, 4⟩
abbrev CLU_SLOT_LOC : Fld := ⟨0, 12⟩
abbrev SV_STAT_NOSYNC : Fld := ⟨15, 1⟩
abbrev SV_STAT_STEP_LEFT : Fld := ⟨0, 13⟩
abbrev SV_STRM_CTRL_VALID : Fld := ⟨31, 1⟩
abbrev SV_STRM_CTRL_PART : Fld := ⟨24, 7⟩
abbrev SV_STRM_CTRL_PORTS : Fld := ⟨16, 4⟩
abbrev SV_STRM_CTRL_LOC : Fld := ⟨0, 12⟩
abbrev SV_STRM_ID_APPID : Fld := ⟨16, 16⟩
abbrev SV_STRM_ID_NCH : Fld := ⟨8, 4⟩
abbrev SV_STRM_ID_NOASDU : Fld := ⟨4, 2⟩
abbrev SV_STRM_ID_SIM_MODE : Fld := ⟨0, 1⟩
abbrev SV_STRM_STAT_STATE : Fld := ⟨31, 1⟩
abbrev SV_STRM_STAT_CAUSE : Fld := ⟨28, 3⟩
abbrev SV_STRM_STAT_GOODRUN : Fld := ⟨13, 13⟩
abbrev SV_STRM_STAT_NEWEST : Fld := ⟨0, 13⟩
abbrev SV_STRM_ERRA_LATE : Fld := ⟨24, 8⟩
abbrev SV_STRM_ERRA_EARLY : Fld := ⟨16, 8⟩
abbrev SV_STRM_ERRA_FORMAT : Fld := ⟨8, 8⟩
abbrev SV_STRM_ERRA_CONFREV : Fld := ⟨0, 8⟩
abbrev SV_STRM_ERRB_MISSING : Fld := ⟨24, 8⟩
abbrev SV_STRM_ERRB_UNSYNC : Fld := ⟨16, 8⟩
abbrev SV_STRM_ERRB_SIMDROP : Fld := ⟨8, 8⟩
abbrev SV_STRM_ERRB_DUP : Fld := ⟨0, 8⟩
abbrev SV_TRIP_CFG_VALID : Fld := ⟨31, 1⟩
abbrev SV_TRIP_CFG_PART : Fld := ⟨24, 7⟩
abbrev SV_TRIP_CFG_PORTS : Fld := ⟨16, 4⟩
abbrev SV_TRIP_CFG_STATE : Fld := ⟨14, 2⟩
abbrev SV_TRIP_CFG_MUTED : Fld := ⟨13, 1⟩
abbrev SV_TRIP_CFG_LOC : Fld := ⟨0, 12⟩
abbrev SV_TRIP_ST_STNUM : Fld := ⟨0, 32⟩
abbrev SV_TRIP_SQ_SQNUM : Fld := ⟨0, 32⟩
abbrev SV_TRIP_NEXT_INTERVAL : Fld := ⟨0, 19⟩
abbrev SW_PCFG_ENABLE : Fld := ⟨31, 1⟩
abbrev SW_PCFG_SHUT_IN : Fld := ⟨30, 1⟩
abbrev SW_PCFG_SHUT_OUT : Fld := ⟨29, 1⟩
abbrev SW_PCFG_TRIP_GATE : Fld := ⟨28, 1⟩
abbrev SW_PCFG_DPCP : Fld := ⟨20, 3⟩
abbrev SW_PCFG_PVID : Fld := ⟨0, 12⟩
abbrev SW_PSTAT_LINK : Fld := ⟨31, 1⟩
abbrev SW_PSTAT_SPEED : Fld := ⟨28, 3⟩
abbrev SW_PSTAT_MGMT_IN : Fld := ⟨16, 8⟩
abbrev SW_PSTAT_MGMT_OUT : Fld := ⟨8, 8⟩
abbrev SW_TSQ_PTP_USED : Fld := ⟨8, 8⟩
abbrev SW_TSQ_GEN_USED : Fld := ⟨0, 8⟩
abbrev SW_QCFG_VALID : Fld := ⟨31, 1⟩
abbrev SW_QCFG_PART : Fld := ⟨24, 7⟩
abbrev SW_QCFG_HANDLE : Fld := ⟨20, 4⟩
abbrev SW_QCFG_RATE : Fld := ⟨0, 16⟩
abbrev SW_QTS_EN : Fld := ⟨31, 1⟩
abbrev SW_QTS_RING : Fld := ⟨0, 9⟩
abbrev SW_CNT_COUNT : Fld := ⟨0, 32⟩
abbrev SW_CELLS_LIMIT : Fld := ⟨16, 13⟩
abbrev SW_CELLS_USED : Fld := ⟨0, 13⟩
abbrev SW_POOL_ALLOTTED : Fld := ⟨16, 13⟩
abbrev SW_POOL_FREE : Fld := ⟨0, 13⟩
abbrev SW_PRP_NODES : Fld := ⟨8, 8⟩
abbrev SW_PRP_MODE_B23 : Fld := ⟨2, 2⟩
abbrev SW_PRP_MODE_B01 : Fld := ⟨0, 2⟩
abbrev SW_SHUT_STAT_OK : Fld := ⟨24, 8⟩
abbrev SW_SHUT_STAT_BAD : Fld := ⟨16, 8⟩
abbrev SW_SHUT_STAT_LAST : Fld := ⟨12, 4⟩
abbrev SW_SHUT_STAT_PORT : Fld := ⟨0, 6⟩
abbrev SW_SHUT_CTR_CTR : Fld := ⟨0, 32⟩
abbrev SW_MGMT_CFG_V4_EN : Fld := ⟨31, 1⟩
abbrev SW_MGMT_CFG_V6_EN : Fld := ⟨30, 1⟩
abbrev SW_MGMT_CFG_VID : Fld := ⟨0, 12⟩
abbrev SW_MGMT_IP4_ADDR : Fld := ⟨0, 32⟩
abbrev SW_MGMT_IP6_ADDR : Fld := ⟨0, 32⟩
abbrev SW_MAC_BASE_LO_ADDR : Fld := ⟨0, 32⟩
abbrev SW_MAC_BASE_HI_ADDR : Fld := ⟨0, 16⟩
abbrev SW_RING_VALID : Fld := ⟨31, 1⟩
abbrev SW_RING_PART : Fld := ⟨24, 7⟩
abbrev SW_RING_HANDLE : Fld := ⟨20, 4⟩
abbrev SW_RING_FRAMES : Fld := ⟨0, 11⟩
abbrev SW_FDB_LIMIT : Fld := ⟨16, 14⟩
abbrev SW_FDB_USED : Fld := ⟨0, 14⟩
abbrev SW_VLAN_CTL_VALID : Fld := ⟨31, 1⟩
abbrev SW_VLAN_CTL_PART : Fld := ⟨24, 7⟩
abbrev SW_VLAN_CTL_LEARN : Fld := ⟨23, 1⟩
abbrev SW_VLAN_CTL_RING_EN : Fld := ⟨22, 1⟩
abbrev SW_VLAN_CTL_RING : Fld := ⟨12, 9⟩
abbrev SW_VLAN_CTL_VID : Fld := ⟨0, 12⟩
abbrev SW_VLAN_MEM_MEM : Fld := ⟨0, 32⟩
abbrev SW_VLAN_UNT_UNT : Fld := ⟨0, 32⟩
abbrev SW_VLAN_HI_UNT : Fld := ⟨8, 8⟩
abbrev SW_VLAN_HI_MEM : Fld := ⟨0, 8⟩
abbrev SW_WAKE_CTL_VALID : Fld := ⟨31, 1⟩
abbrev SW_WAKE_CTL_PART : Fld := ⟨24, 7⟩
abbrev SW_WAKE_CTL_PORTS : Fld := ⟨16, 8⟩
abbrev SW_WAKE_CTL_CHECK : Fld := ⟨0, 16⟩
abbrev SW_WAKE_MASK_A_MASK : Fld := ⟨0, 32⟩
abbrev SW_WAKE_MASK_B_MASK : Fld := ⟨0, 32⟩
abbrev SW_WAKE_MASK_C_MASK : Fld := ⟨0, 32⟩
abbrev SW_WAKE_MASK_D_MASK : Fld := ⟨0, 32⟩
abbrev TIME_CTRL_RESTEP : Fld := ⟨1, 1⟩
abbrev TIME_CTRL_CAPTURE : Fld := ⟨0, 1⟩
abbrev TIME_CFG_ACQ_WAIT : Fld := ⟨20, 8⟩
abbrev TIME_CFG_TAU : Fld := ⟨16, 4⟩
abbrev TIME_CFG_DOMAIN : Fld := ⟨8, 8⟩
abbrev TIME_CFG_SRC : Fld := ⟨0, 2⟩
abbrev TIME_STAT_RESTEP_ERR : Fld := ⟨10, 2⟩
abbrev TIME_STAT_RESTEP_PEND : Fld := ⟨9, 1⟩
abbrev TIME_STAT_UTC_GUESS : Fld := ⟨8, 1⟩
abbrev TIME_STAT_OFS_LARGE : Fld := ⟨7, 1⟩
abbrev TIME_STAT_MASTER_SEEN : Fld := ⟨6, 1⟩
abbrev TIME_STAT_SRC_USED : Fld := ⟨5, 1⟩
abbrev TIME_STAT_STATE : Fld := ⟨0, 3⟩
abbrev TIME_SEC_LO_SEC : Fld := ⟨0, 32⟩
abbrev TIME_SEC_HI_SEC : Fld := ⟨0, 32⟩
abbrev TIME_NS_NS : Fld := ⟨0, 32⟩
abbrev TIME_FRAC_FRAC : Fld := ⟨0, 16⟩
abbrev TIME_RATE_RATE : Fld := ⟨0, 32⟩
abbrev TIME_OFFSET_OFS : Fld := ⟨0, 32⟩
abbrev TIME_PDELAY_DELAY : Fld := ⟨0, 32⟩
abbrev TIME_UTC_VALID : Fld := ⟨31, 1⟩
abbrev TIME_UTC_LEAP61 : Fld := ⟨30, 1⟩
abbrev TIME_UTC_LEAP59 : Fld := ⟨29, 1⟩
abbrev TIME_UTC_OFFSET : Fld := ⟨0, 16⟩
abbrev TIME_HOLD_HOLD_SEC : Fld := ⟨0, 32⟩
abbrev TIME_GM_LO_ID : Fld := ⟨0, 32⟩
abbrev TIME_GM_HI_ID : Fld := ⟨0, 32⟩
abbrev TIME_PORT_RX_PTP_BAD : Fld := ⟨24, 8⟩
abbrev TIME_PORT_PSTATE : Fld := ⟨4, 3⟩
abbrev TIME_PORT_MODE : Fld := ⟨0, 2⟩
abbrev CAN_CTRL_PART : Fld := ⟨24, 7⟩
abbrev CAN_CTRL_ALONE_N : Fld := ⟨8, 8⟩
abbrev CAN_CTRL_TERM : Fld := ⟨6, 1⟩
abbrev CAN_CTRL_XL_EN : Fld := ⟨5, 1⟩
abbrev CAN_CTRL_FD_EN : Fld := ⟨4, 1⟩
abbrev CAN_CTRL_AUTO_REC : Fld := ⟨3, 1⟩
abbrev CAN_CTRL_RECOVER : Fld := ⟨2, 1⟩
abbrev CAN_CTRL_MODE : Fld := ⟨0, 2⟩
abbrev CAN_STAT_NOMATCH : Fld := ⟨24, 8⟩
abbrev CAN_STAT_BOFF : Fld := ⟨16, 8⟩
abbrev CAN_STAT_ALONE : Fld := ⟨4, 1⟩
abbrev CAN_STAT_BUS : Fld := ⟨0, 3⟩
abbrev CAN_ERRC_ACKRUN : Fld := ⟨24, 8⟩
abbrev CAN_ERRC_REC : Fld := ⟨16, 8⟩
abbrev CAN_ERRC_TEC : Fld := ⟨0, 9⟩
abbrev CAN_BTN_BRP : Fld := ⟨25, 7⟩
abbrev CAN_BTN_TSEG1 : Fld := ⟨17, 8⟩
abbrev CAN_BTN_TSEG2 : Fld := ⟨10, 7⟩
abbrev CAN_BTN_SJW : Fld := ⟨3, 7⟩
abbrev CAN_BTD_BRP : Fld := ⟨27, 5⟩
abbrev CAN_BTD_TSEG1 : Fld := ⟨21, 6⟩
abbrev CAN_BTD_TSEG2 : Fld := ⟨16, 5⟩
abbrev CAN_BTD_SJW : Fld := ⟨11, 5⟩
abbrev CAN_BTD_TDC_EN : Fld := ⟨10, 1⟩
abbrev CAN_BTD_TDCO : Fld := ⟨0, 7⟩
abbrev CAN_BTX_BRP : Fld := ⟨27, 5⟩
abbrev CAN_BTX_TSEG1 : Fld := ⟨21, 6⟩
abbrev CAN_BTX_TSEG2 : Fld := ⟨16, 5⟩
abbrev CAN_BTX_SJW : Fld := ⟨11, 5⟩
abbrev CAN_BTX_TDC_EN : Fld := ⟨10, 1⟩
abbrev CAN_BTX_TDCO : Fld := ⟨0, 7⟩
abbrev CAN_TSEDGE_COUNT : Fld := ⟨0, 32⟩
abbrev CAN_HPM_ID_ID_ID_register_MASK_MASK_register : Fld := ⟨0, 29⟩
abbrev CAN_HPM_MASK_ID_ID_register_MASK_MASK_register : Fld := ⟨0, 29⟩
abbrev CAN_HPM_CFG_VALID : Fld := ⟨31, 1⟩
abbrev CAN_HPM_CFG_PART : Fld := ⟨24, 7⟩
abbrev CAN_HPM_CFG_IDE : Fld := ⟨23, 1⟩
abbrev CAN_HPM_CFG_FMT : Fld := ⟨20, 3⟩
abbrev CAN_HPM_CFG_RING_EN : Fld := ⟨19, 1⟩
abbrev CAN_HPM_CFG_RING : Fld := ⟨10, 9⟩
abbrev CAN_MB_CFG_VALID : Fld := ⟨31, 1⟩
abbrev CAN_MB_CFG_PART : Fld := ⟨24, 7⟩
abbrev CAN_MB_CFG_DIR : Fld := ⟨23, 1⟩
abbrev CAN_MB_CFG_SINGLE : Fld := ⟨22, 1⟩
abbrev CAN_MB_CFG_RING_EN : Fld := ⟨21, 1⟩
abbrev CAN_MB_CFG_RING : Fld := ⟨12, 9⟩
abbrev CAN_MB_STAT_STATE : Fld := ⟨28, 3⟩
abbrev CAN_MB_STAT_SHADOW : Fld := ⟨27, 1⟩
abbrev CAN_MB_STAT_COUNT : Fld := ⟨16, 8⟩
abbrev CAN_MB_STAT_RETRY : Fld := ⟨8, 8⟩
abbrev CAN_MB_STAT_REPL : Fld := ⟨0, 8⟩
abbrev CAN_PMAP_A_VALID : Fld := ⟨31, 1⟩
abbrev CAN_PMAP_A_SRC : Fld := ⟨24, 7⟩
abbrev CAN_PMAP_A_FIELD : Fld := ⟨21, 3⟩
abbrev CAN_PMAP_A_WIDTH : Fld := ⟨19, 2⟩
abbrev CAN_PMAP_A_ORDER : Fld := ⟨18, 1⟩
abbrev CAN_PMAP_A_SIGNED : Fld := ⟨17, 1⟩
abbrev CAN_PMAP_A_OFFSET : Fld := ⟨6, 11⟩
abbrev CAN_PMAP_A_BITPOS : Fld := ⟨3, 3⟩
abbrev CAN_PMAP_B_LOC : Fld := ⟨20, 12⟩
abbrev CAN_PMAP_B_INDEX : Fld := ⟨11, 9⟩
abbrev CAN_PMAP_B_FRESH : Fld := ⟨0, 11⟩
abbrev CAN_FLT_A_TYPE : Fld := ⟨30, 2⟩
abbrev CAN_FLT_A_IDE : Fld := ⟨29, 1⟩
abbrev CAN_FLT_A_ID1 : Fld := ⟨0, 29⟩
abbrev CAN_FLT_B_ID2 : Fld := ⟨0, 29⟩
abbrev CAN_FLT_C_BUF : Fld := ⟨0, 6⟩
abbrev SPE_PCFG_VALID : Fld := ⟨31, 1⟩
abbrev SPE_PCFG_PART : Fld := ⟨24, 7⟩
abbrev SPE_PCFG_AMP : Fld := ⟨1, 2⟩
abbrev SPE_PCFG_AN : Fld := ⟨0, 1⟩
abbrev SPE_PSTAT_FAULTS : Fld := ⟨24, 8⟩
abbrev SPE_PSTAT_WATTS : Fld := ⟨16, 8⟩
abbrev SPE_PSTAT_CLASS : Fld := ⟨12, 4⟩
abbrev SPE_PSTAT_CAUSE : Fld := ⟨8, 3⟩
abbrev SPE_PSTAT_PSTATE : Fld := ⟨2, 3⟩
abbrev SPE_PSTAT_AMP_USED : Fld := ⟨1, 1⟩
abbrev SPE_PSTAT_LINK : Fld := ⟨0, 1⟩
abbrev SPE_PWR_PWR_EN : Fld := ⟨31, 1⟩
abbrev SPE_PWR_CLASS_MODE : Fld := ⟨30, 1⟩
abbrev SPE_PWR_CLASS : Fld := ⟨20, 4⟩
abbrev SPE_PWR_RETRY : Fld := ⟨16, 4⟩
abbrev SPE_PWR_BUDGET : Fld := ⟨0, 6⟩
abbrev SPE_PMAP_PT_EN_PMAP_SM_EN_SMAP : Fld := ⟨31, 1⟩
abbrev SPE_PMAP_LOC : Fld := ⟨19, 12⟩
abbrev SPE_PMAP_INDEX : Fld := ⟨10, 9⟩
abbrev SPE_SMAP_PT_EN_PMAP_SM_EN_SMAP : Fld := ⟨31, 1⟩
abbrev SPE_SMAP_LOC : Fld := ⟨19, 12⟩
abbrev SPE_SMAP_INDEX : Fld := ⟨10, 9⟩
abbrev SPE_PWR_TOTAL_DRAWN : Fld := ⟨16, 10⟩
abbrev SPE_PWR_TOTAL_RESERVED : Fld := ⟨0, 10⟩
abbrev SPE_UCFG_ENABLE : Fld := ⟨31, 1⟩
abbrev SPE_UCFG_BIAS : Fld := ⟨30, 1⟩
abbrev SPE_UCFG_TERM : Fld := ⟨29, 1⟩
abbrev SPE_UCFG_DATA8 : Fld := ⟨28, 1⟩
abbrev SPE_UCFG_PARITY : Fld := ⟨26, 2⟩
abbrev SPE_UCFG_STOP2 : Fld := ⟨25, 1⟩
abbrev SPE_UCFG_GAP : Fld := ⟨10, 10⟩
abbrev SPE_UCFG_DE_LEAD : Fld := ⟨5, 5⟩
abbrev SPE_UCFG_DE_LAG : Fld := ⟨0, 5⟩
abbrev SPE_UBAUD_DIVI : Fld := ⟨4, 20⟩
abbrev SPE_UBAUD_DIVF : Fld := ⟨0, 4⟩
abbrev SPE_UBIND_VALID : Fld := ⟨31, 1⟩
abbrev SPE_UBIND_PART : Fld := ⟨24, 7⟩
abbrev SPE_UBIND_TXH : Fld := ⟨20, 4⟩
abbrev SPE_UBIND_RING : Fld := ⟨0, 9⟩
abbrev SPE_USTAT_TXDROP : Fld := ⟨24, 8⟩
abbrev SPE_USTAT_CHERR : Fld := ⟨16, 8⟩
abbrev SPE_USTAT_DEFER : Fld := ⟨8, 8⟩
abbrev SPE_ULEN_MAXLEN : Fld := ⟨0, 12⟩
abbrev SAFE_CTRL_LOCK : Fld := ⟨1, 1⟩
abbrev SAFE_CTRL_APPLY : Fld := ⟨0, 1⟩
abbrev SAFE_STAT_MISSES : Fld := ⟨24, 8⟩
abbrev SAFE_STAT_APPLY_ERR : Fld := ⟨16, 4⟩
abbrev SAFE_STAT_LOCKOUT : Fld := ⟨12, 1⟩
abbrev SAFE_STAT_NOPW : Fld := ⟨11, 1⟩
abbrev SAFE_STAT_UNLOCKED : Fld := ⟨10, 1⟩
abbrev SAFE_STAT_VSO_LOST : Fld := ⟨9, 1⟩
abbrev SAFE_STAT_FOG : Fld := ⟨8, 1⟩
abbrev SAFE_STAT_CAUSE : Fld := ⟨4, 4⟩
abbrev SAFE_STAT_STATE : Fld := ⟨0, 3⟩
abbrev SAFE_CFG_T_DEG : Fld := ⟨16, 13⟩
abbrev SAFE_CFG_SWD_TOL : Fld := ⟨8, 2⟩
abbrev SAFE_CFG_PART : Fld := ⟨0, 7⟩
abbrev SAFE_IMG_OUT_LOC : Fld := ⟨16, 12⟩
abbrev SAFE_IMG_IN_LOC : Fld := ⟨0, 12⟩
abbrev SAFE_ACK_CLASS : Fld := ⟨16, 2⟩
abbrev SAFE_ACK_INDEX : Fld := ⟨0, 5⟩
abbrev SAFE_LOG_STAT_OVERWRITTEN : Fld := ⟨16, 16⟩
abbrev SAFE_LOG_STAT_ENTRIES : Fld := ⟨0, 9⟩
abbrev SAFE_DIGEST_DIGEST : Fld := ⟨0, 32⟩
abbrev SAFE_TP_EN : Fld := ⟨31, 1⟩
abbrev SAFE_TP_GAP : Fld := ⟨16, 4⟩
abbrev SAFE_TP_PERIOD : Fld := ⟨0, 13⟩
abbrev SAFE_SI_CFG_DISC : Fld := ⟨18, 10⟩
abbrev SAFE_SI_CFG_MODE : Fld := ⟨16, 2⟩
abbrev SAFE_SI_CFG_FILTER : Fld := ⟨8, 8⟩
abbrev SAFE_SI_CFG_TP : Fld := ⟨0, 3⟩
abbrev SAFE_SI_CHAT_WIN : Fld := ⟨16, 13⟩
abbrev SAFE_SI_CHAT_K : Fld := ⟨0, 8⟩
abbrev SAFE_SI_STAT_DCNT : Fld := ⟨16, 13⟩
abbrev SAFE_SI_STAT_TRANS : Fld := ⟨8, 8⟩
abbrev SAFE_SI_STAT_FAULT : Fld := ⟨4, 3⟩
abbrev SAFE_SI_STAT_EFF : Fld := ⟨2, 1⟩
abbrev SAFE_SI_STAT_FILT : Fld := ⟨1, 1⟩
abbrev SAFE_SI_STAT_PIN : Fld := ⟨0, 1⟩
abbrev SAFE_SQ_CFG_EN : Fld := ⟨31, 1⟩
abbrev SAFE_SQ_CFG_TEST_EN : Fld := ⟨30, 1⟩
abbrev SAFE_SQ_CFG_T_EDM : Fld := ⟨16, 10⟩
abbrev SAFE_SQ_CFG_FB : Fld := ⟨0, 4⟩
abbrev SAFE_SQ_STAT_INTERLOCK : Fld := ⟨7, 1⟩
abbrev SAFE_SQ_STAT_FAULT : Fld := ⟨4, 3⟩
abbrev SAFE_SQ_STAT_FB : Fld := ⟨2, 1⟩
abbrev SAFE_SQ_STAT_PIN : Fld := ⟨1, 1⟩
abbrev SAFE_SQ_STAT_CMD : Fld := ⟨0, 1⟩
abbrev SAFE_TX_CFG_VALID : Fld := ⟨31, 1⟩
abbrev SAFE_TX_CFG_CONN : Fld := ⟨21, 8⟩
abbrev SAFE_TX_CFG_FIRST : Fld := ⟨12, 9⟩
abbrev SAFE_TX_CFG_LOC : Fld := ⟨0, 12⟩
abbrev SAFE_TX_SIG_SIG : Fld := ⟨0, 32⟩
abbrev SAFE_RX_SIG_SIG : Fld := ⟨0, 32⟩
abbrev SAFE_RX_CFG_VALID : Fld := ⟨31, 1⟩
abbrev SAFE_RX_CFG_SRC : Fld := ⟨24, 6⟩
abbrev SAFE_RX_CFG_CONN : Fld := ⟨16, 8⟩
abbrev SAFE_RX_CFG_LOC : Fld := ⟨0, 12⟩
abbrev SAFE_RX_WD_T_WD : Fld := ⟨0, 13⟩
abbrev SAFE_RX_STAT_DROP : Fld := ⟨24, 8⟩
abbrev SAFE_RX_STAT_FOG_MIN : Fld := ⟨4, 13⟩
abbrev SAFE_RX_STAT_STATE : Fld := ⟨0, 3⟩
abbrev HAW_CTRL_ENUM : Fld := ⟨0, 1⟩
abbrev HAW_STAT_EPOCH : Fld := ⟨24, 8⟩
abbrev HAW_STAT_UNITS : Fld := ⟨16, 7⟩
abbrev HAW_STAT_JOIN_ERR : Fld := ⟨9, 3⟩
abbrev HAW_STAT_ROLE : Fld := ⟨6, 3⟩
abbrev HAW_STAT_ADDR : Fld := ⟨0, 6⟩
abbrev HAW_LINK_UP : Fld := ⟨31, 1⟩
abbrev HAW_LINK_NBR : Fld := ⟨25, 6⟩
abbrev HAW_LINK_NBR_JOINED : Fld := ⟨24, 1⟩
abbrev HAW_LINK_ASYM : Fld := ⟨16, 8⟩
abbrev HAW_LINK_DELAY : Fld := ⟨0, 16⟩
abbrev HAW_BEACON_LOST : Fld := ⟨24, 8⟩
abbrev HAW_BEACON_HOPS : Fld := ⟨16, 8⟩
abbrev HAW_BEACON_UP : Fld := ⟨10, 6⟩
abbrev HAW_BEACON_ROOT : Fld := ⟨9, 1⟩
abbrev HAW_BEACON_SRC_RING : Fld := ⟨8, 1⟩
abbrev HAW_PX_STAT_SHARE : Fld := ⟨16, 14⟩
abbrev HAW_PX_STAT_USED : Fld := ⟨0, 14⟩
abbrev HAW_PX_SHARE_SHARE : Fld := ⟨0, 14⟩
abbrev HAW_PUB_VALID : Fld := ⟨31, 1⟩
abbrev HAW_PUB_PART : Fld := ⟨24, 7⟩
abbrev HAW_PUB_LOC : Fld := ⟨0, 12⟩
abbrev HAW_SUB_CTL_VALID : Fld := ⟨31, 1⟩
abbrev HAW_SUB_CTL_PART : Fld := ⟨24, 7⟩
abbrev HAW_SUB_CTL_LOC : Fld := ⟨0, 12⟩
abbrev HAW_SUB_SRC_SRC : Fld := ⟨24, 6⟩
abbrev HAW_SUB_SRC_CHAN : Fld := ⟨16, 8⟩
abbrev HAW_SUB_SRC_FRESH : Fld := ⟨0, 11⟩
abbrev HAW_SUB_ID_IDENT : Fld := ⟨0, 32⟩
abbrev HAW_SUB_STAT_MISS : Fld := ⟨24, 8⟩
abbrev HAW_SUB_STAT_SCHEMA : Fld := ⟨16, 8⟩
abbrev HAW_SUB_STAT_ONECOPY : Fld := ⟨8, 8⟩
abbrev HAW_SUB_STAT_QUAL : Fld := ⟨0, 2⟩
abbrev TWIN_CFG_EN : Fld := ⟨31, 1⟩
abbrev TWIN_CFG_DIV_N : Fld := ⟨16, 4⟩
abbrev TWIN_CFG_PARTNER : Fld := ⟨0, 6⟩
abbrev TWIN_STAT_LETTER : Fld := ⟨13, 1⟩
abbrev TWIN_STAT_FAULT : Fld := ⟨12, 1⟩
abbrev TWIN_STAT_WITNESS_OK : Fld := ⟨11, 1⟩
abbrev TWIN_STAT_PSTATE : Fld := ⟨8, 3⟩
abbrev TWIN_STAT_CAUSE : Fld := ⟨4, 3⟩
abbrev TWIN_STAT_STATE : Fld := ⟨0, 3⟩
abbrev TWIN_PART_MASK : Fld := ⟨0, 32⟩
abbrev TWIN_LANYARD_MIRROR_DIFF : Fld := ⟨24, 8⟩
abbrev TWIN_LANYARD_SEQ_OVER : Fld := ⟨16, 8⟩
abbrev TWIN_LANYARD_BACKLOG : Fld := ⟨0, 13⟩
abbrev TWIN_DIGEST_DIGEST : Fld := ⟨0, 32⟩
abbrev TWIN_NODE_LO_ADDR : Fld := ⟨0, 32⟩
abbrev TWIN_NODE_HI_ADDR : Fld := ⟨0, 16⟩
abbrev TWIN_WIT_VALID : Fld := ⟨31, 1⟩
abbrev TWIN_WIT_LOW : Fld := ⟨24, 6⟩
abbrev TWIN_WIT_HIGH : Fld := ⟨16, 6⟩
abbrev TWIN_WIT_DIVCNT : Fld := ⟨12, 4⟩
abbrev TWIN_WIT_LAST : Fld := ⟨8, 3⟩
abbrev TWIN_WIT_HSTATE : Fld := ⟨4, 3⟩
abbrev TWIN_WIT_LSTATE : Fld := ⟨0, 3⟩
abbrev ID_LC_ROOT_GEN : Fld := ⟨6, 2⟩
abbrev ID_LC_STATE : Fld := ⟨0, 3⟩
abbrev VAULT_STAT_ENTROPY_FAIL : Fld := ⟨15, 1⟩
abbrev VAULT_STAT_BK_NEW : Fld := ⟨14, 1⟩
abbrev VAULT_STAT_HALT : Fld := ⟨13, 1⟩
abbrev VAULT_STAT_ASYM_PEND : Fld := ⟨0, 8⟩
abbrev VAULT_TAMPER_CFG_TEMP_ACT : Fld := ⟨2, 1⟩
abbrev VAULT_TAMPER_CFG_GLITCH_ACT : Fld := ⟨1, 1⟩
abbrev VAULT_TAMPER_CFG_LIGHT_ACT : Fld := ⟨0, 1⟩
abbrev VAULT_TAMPER_STAT_EVENTS : Fld := ⟨16, 16⟩
abbrev VAULT_TAMPER_STAT_CLOCK : Fld := ⟨4, 1⟩
abbrev VAULT_TAMPER_STAT_GLITCH : Fld := ⟨3, 1⟩
abbrev VAULT_TAMPER_STAT_TEMP : Fld := ⟨2, 1⟩
abbrev VAULT_TAMPER_STAT_LIGHT : Fld := ⟨1, 1⟩
abbrev VAULT_TAMPER_STAT_MESH : Fld := ⟨0, 1⟩
abbrev VAULT_ASYM_WIN_VALID : Fld := ⟨31, 1⟩
abbrev VAULT_ASYM_WIN_PART : Fld := ⟨24, 7⟩
abbrev VAULT_SLOT_VALID : Fld := ⟨31, 1⟩
abbrev VAULT_SLOT_PART : Fld := ⟨24, 7⟩
abbrev VAULT_SLOT_VERIFIED : Fld := ⟨23, 1⟩
abbrev VAULT_SLOT_PTYPE : Fld := ⟨20, 3⟩
abbrev VAULT_SLOT_EXP_RESET : Fld := ⟨19, 1⟩
abbrev VAULT_SLOT_TYPE : Fld := ⟨16, 3⟩
abbrev VAULT_SLOT_USAGE : Fld := ⟨0, 6⟩
abbrev VAULT_SLOT_USE_USES : Fld := ⟨0, 24⟩
abbrev VAULT_DRV_USED : Fld := ⟨16, 5⟩
abbrev VAULT_DRV_LIMIT : Fld := ⟨0, 5⟩
abbrev METL_STAT_LINK : Fld := ⟨31, 1⟩
abbrev METL_STAT_SW_FAULT : Fld := ⟨30, 1⟩
abbrev METL_STAT_SWITCH : Fld := ⟨29, 1⟩
abbrev METL_STAT_COVER : Fld := ⟨28, 1⟩
abbrev METL_STAT_LOG_FULL : Fld := ⟨27, 1⟩
abbrev METL_STAT_NOV : Fld := ⟨26, 1⟩
abbrev METL_STAT_FRAMES_BAD : Fld := ⟨8, 8⟩
abbrev METL_ID_CHARS : Fld := ⟨0, 32⟩
abbrev METL_CHKSUM_SW_CHK : Fld := ⟨16, 16⟩
abbrev METL_CHKSUM_PAR_CHK : Fld := ⟨0, 16⟩
abbrev METL_EVCNT_COUNT : Fld := ⟨0, 32⟩
abbrev METL_TEST_EN : Fld := ⟨31, 1⟩
abbrev METL_TEST_ELEM : Fld := ⟨0, 5⟩
abbrev METL_CHG_CMD_GO : Fld := ⟨31, 1⟩
abbrev METL_CHG_CMD_PARAM : Fld := ⟨8, 8⟩
abbrev METL_CHG_VAL_VALUE : Fld := ⟨0, 32⟩
abbrev METL_CHG_STAT_RESULT : Fld := ⟨0, 4⟩
abbrev METL_LOG_SEL_ENTRIES : Fld := ⟨16, 10⟩
abbrev METL_LOG_SEL_FULL : Fld := ⟨15, 1⟩
abbrev METL_LOG_SEL_IDX : Fld := ⟨0, 10⟩
abbrev METL_LOG_WORD_WORD : Fld := ⟨0, 32⟩
abbrev METL_ASSIGN_VALID : Fld := ⟨31, 1⟩
abbrev METL_ASSIGN_PART : Fld := ⟨24, 7⟩
abbrev METL_ASSIGN_INDEX : Fld := ⟨12, 8⟩
abbrev METL_ASSIGN_LOC : Fld := ⟨0, 12⟩
abbrev METL_EN_LO_COUNT : Fld := ⟨0, 32⟩
abbrev METL_EN_HI_COUNT : Fld := ⟨0, 32⟩
abbrev KEEP_STAT_SPARES : Fld := ⟨24, 8⟩
abbrev KEEP_STAT_RETIRED : Fld := ⟨16, 8⟩
abbrev KEEP_STAT_SOF_RINGS : Fld := ⟨0, 9⟩
abbrev KEEP_BOOT_COUNT : Fld := ⟨0, 32⟩
abbrev KEEP_CMD_STORE : Fld := ⟨31, 1⟩
abbrev KEEP_CMD_RING : Fld := ⟨0, 8⟩
abbrev KEEP_RING_CFG_VALID : Fld := ⟨31, 1⟩
abbrev KEEP_RING_CFG_PART : Fld := ⟨24, 7⟩
abbrev KEEP_RING_CFG_SOF : Fld := ⟨23, 1⟩
abbrev KEEP_RING_CFG_MODE : Fld := ⟨22, 1⟩
abbrev KEEP_RING_CFG_SIZE : Fld := ⟨10, 7⟩
abbrev KEEP_RING_CFG_BASE : Fld := ⟨0, 10⟩
abbrev KEEP_RING_ID_IDENT : Fld := ⟨0, 32⟩
abbrev KEEP_RING_GAP_MIN_GAP : Fld := ⟨0, 24⟩
abbrev KEEP_RING_STAT_STATE : Fld := ⟨29, 3⟩
abbrev KEEP_RING_STAT_DIRTY : Fld := ⟨28, 1⟩
abbrev KEEP_RING_STAT_BUSY : Fld := ⟨27, 1⟩
abbrev KEEP_RING_STAT_LAST_ERR : Fld := ⟨24, 3⟩
abbrev KEEP_RING_STAT_CAUSE : Fld := ⟨22, 2⟩
abbrev KEEP_RING_STAT_NEWEST : Fld := ⟨16, 6⟩
abbrev KEEP_RING_STAT_STORES : Fld := ⟨0, 16⟩
abbrev RTC_CTRL_SET : Fld := ⟨2, 1⟩
abbrev RTC_CTRL_TREC_CLR : Fld := ⟨1, 1⟩
abbrev RTC_CTRL_CAPTURE : Fld := ⟨0, 1⟩
abbrev RTC_STAT_CELL : Fld := ⟨16, 12⟩
abbrev RTC_STAT_CELL_LOW : Fld := ⟨4, 1⟩
abbrev RTC_STAT_TREC_LOST : Fld := ⟨3, 1⟩
abbrev RTC_STAT_BKMEM_CLR : Fld := ⟨2, 1⟩
abbrev RTC_STAT_BK_LOST : Fld := ⟨1, 1⟩
abbrev RTC_STAT_VALID : Fld := ⟨0, 1⟩
abbrev RTC_TIME_WDAY : Fld := ⟨24, 3⟩
abbrev RTC_TIME_HOUR : Fld := ⟨16, 6⟩
abbrev RTC_TIME_MIN : Fld := ⟨8, 7⟩
abbrev RTC_TIME_SEC : Fld := ⟨0, 7⟩
abbrev RTC_SET_TIME_WDAY : Fld := ⟨24, 3⟩
abbrev RTC_SET_TIME_HOUR : Fld := ⟨16, 6⟩
abbrev RTC_SET_TIME_MIN : Fld := ⟨8, 7⟩
abbrev RTC_SET_TIME_SEC : Fld := ⟨0, 7⟩
abbrev RTC_TS_TIME_WDAY : Fld := ⟨24, 3⟩
abbrev RTC_TS_TIME_HOUR : Fld := ⟨16, 6⟩
abbrev RTC_TS_TIME_MIN : Fld := ⟨8, 7⟩
abbrev RTC_TS_TIME_SEC : Fld := ⟨0, 7⟩
abbrev RTC_ALM_TIME_WDAY : Fld := ⟨24, 3⟩
abbrev RTC_ALM_TIME_HOUR : Fld := ⟨16, 6⟩
abbrev RTC_ALM_TIME_MIN : Fld := ⟨8, 7⟩
abbrev RTC_ALM_TIME_SEC : Fld := ⟨0, 7⟩
abbrev RTC_DATE_YEAR : Fld := ⟨16, 16⟩
abbrev RTC_DATE_MONTH : Fld := ⟨8, 5⟩
abbrev RTC_DATE_DAY : Fld := ⟨0, 6⟩
abbrev RTC_SET_DATE_YEAR : Fld := ⟨16, 16⟩
abbrev RTC_SET_DATE_MONTH : Fld := ⟨8, 5⟩
abbrev RTC_SET_DATE_DAY : Fld := ⟨0, 6⟩
abbrev RTC_TS_DATE_YEAR : Fld := ⟨16, 16⟩
abbrev RTC_TS_DATE_MONTH : Fld := ⟨8, 5⟩
abbrev RTC_TS_DATE_DAY : Fld := ⟨0, 6⟩
abbrev RTC_ALM_DATE_YEAR : Fld := ⟨16, 16⟩
abbrev RTC_ALM_DATE_MONTH : Fld := ⟨8, 5⟩
abbrev RTC_ALM_DATE_DAY : Fld := ⟨0, 6⟩
abbrev RTC_TS_SUB_SUB : Fld := ⟨0, 15⟩
abbrev RTC_TS_REQ_CYCLE : Fld := ⟨15, 17⟩
abbrev RTC_TS_REQ_TICK : Fld := ⟨0, 13⟩
abbrev RTC_ALM_CTRL_ARM : Fld := ⟨31, 1⟩
abbrev RTC_ALM_CTRL_DISARM : Fld := ⟨30, 1⟩
abbrev RTC_ALM_CTRL_LATE : Fld := ⟨2, 1⟩
abbrev RTC_ALM_CTRL_FIRED : Fld := ⟨1, 1⟩
abbrev RTC_ALM_CTRL_ARMED : Fld := ⟨0, 1⟩
abbrev RTC_TRIM_CAL : Fld := ⟨0, 10⟩
abbrev RTC_BKMEM_DATA : Fld := ⟨0, 32⟩
abbrev RTC_TREC_CTL_COUNT : Fld := ⟨16, 16⟩
abbrev RTC_TREC_CTL_LAST_INV : Fld := ⟨14, 1⟩
abbrev RTC_TREC_CTL_LAST_SENS : Fld := ⟨8, 5⟩
abbrev RTC_TREC_CTL_FIRST_INV : Fld := ⟨6, 1⟩
abbrev RTC_TREC_CTL_FIRST_SENS : Fld := ⟨0, 5⟩
abbrev RTC_TREC_FIRST_TIME_WDAY : Fld := ⟨24, 3⟩
abbrev RTC_TREC_FIRST_TIME_HOUR : Fld := ⟨16, 6⟩
abbrev RTC_TREC_FIRST_TIME_MIN : Fld := ⟨8, 7⟩
abbrev RTC_TREC_FIRST_TIME_SEC : Fld := ⟨0, 7⟩
abbrev RTC_TREC_LAST_TIME_WDAY : Fld := ⟨24, 3⟩
abbrev RTC_TREC_LAST_TIME_HOUR : Fld := ⟨16, 6⟩
abbrev RTC_TREC_LAST_TIME_MIN : Fld := ⟨8, 7⟩
abbrev RTC_TREC_LAST_TIME_SEC : Fld := ⟨0, 7⟩
abbrev RTC_TREC_FIRST_DATE_YEAR : Fld := ⟨16, 16⟩
abbrev RTC_TREC_FIRST_DATE_MONTH : Fld := ⟨8, 5⟩
abbrev RTC_TREC_FIRST_DATE_DAY : Fld := ⟨0, 6⟩
abbrev RTC_TREC_LAST_DATE_YEAR : Fld := ⟨16, 16⟩
abbrev RTC_TREC_LAST_DATE_MONTH : Fld := ⟨8, 5⟩
abbrev RTC_TREC_LAST_DATE_DAY : Fld := ⟨0, 6⟩
abbrev RTC_TREC_CHK_CHK : Fld := ⟨0, 16⟩
abbrev ERR_GSTAT_LOST : Fld := ⟨24, 8⟩
abbrev ERR_GSTAT_OVF : Fld := ⟨23, 1⟩
abbrev ERR_GSTAT_UNREAD : Fld := ⟨8, 7⟩
abbrev ERR_GSTAT_HELD : Fld := ⟨0, 7⟩
abbrev ERR_GCTRL_CLR_OVF : Fld := ⟨1, 1⟩
abbrev ERR_GCTRL_FREE : Fld := ⟨0, 1⟩
abbrev ERR_GSEL_IDX : Fld := ⟨0, 6⟩
abbrev ERR_GWORD_WORD : Fld := ⟨0, 32⟩
abbrev ERR_PQ_CFG_INB_EN : Fld := ⟨31, 1⟩
abbrev ERR_PQ_CFG_HDL_EN : Fld := ⟨30, 1⟩
abbrev ERR_PQ_CFG_LOC : Fld := ⟨16, 12⟩
abbrev ERR_PQ_CFG_HANDLER_ID : Fld := ⟨0, 16⟩
abbrev ERR_PQ_STAT_LOST : Fld := ⟨24, 8⟩
abbrev ERR_PQ_STAT_OVF : Fld := ⟨23, 1⟩
abbrev ERR_PQ_STAT_SEQ : Fld := ⟨0, 16⟩
abbrev ERR_FRZ_CFG_BELAY_EN : Fld := ⟨3, 1⟩
abbrev ERR_FRZ_CFG_CLASS_EN : Fld := ⟨2, 1⟩
abbrev ERR_FRZ_CFG_CMP_EN : Fld := ⟨1, 1⟩
abbrev ERR_FRZ_CFG_PIN_EN : Fld := ⟨0, 1⟩
abbrev ERR_FRZ_TICK_ABS : Fld := ⟨0, 32⟩
abbrev ERR_FRZ_CYCLE_CYCLE : Fld := ⟨0, 17⟩
abbrev ERR_FRZ_CLASS_PART : Fld := ⟨24, 8⟩
abbrev ERR_FRZ_CLASS_MASK : Fld := ⟨0, 19⟩
abbrev ERR_FRZ_STAT_REFUSED : Fld := ⟨16, 16⟩
abbrev ERR_FRZ_STAT_RCAUSE : Fld := ⟨8, 2⟩
abbrev ERR_FRZ_STAT_CMP_MISSED : Fld := ⟨3, 1⟩
abbrev ERR_FRZ_STAT_CONSENT : Fld := ⟨2, 1⟩
abbrev ERR_FRZ_STAT_ALLOWED : Fld := ⟨1, 1⟩
abbrev ERR_LAST_FRZ_SOURCE : Fld := ⟨29, 3⟩
abbrev ERR_LAST_FRZ_CYCLE : Fld := ⟨0, 17⟩
abbrev ERR_LAST_FRZ_ABS_ABS : Fld := ⟨0, 32⟩
abbrev ERR_CONSENT_MASK : Fld := ⟨0, 32⟩
abbrev ID_BOOT_MS : Fld := ⟨16, 16⟩
abbrev ID_BOOT_TIMEOUTS : Fld := ⟨8, 4⟩
abbrev ID_BOOT_PHASE : Fld := ⟨0, 4⟩
abbrev ID_RESET_STARTS : Fld := ⟨16, 16⟩
abbrev ID_RESET_CAUSE : Fld := ⟨0, 3⟩

end F

end Sys2Proof.Machine
end

