-- ==== Sys2Proof/Machine/Tbl.lean ====
section
/-!
DEFINITION. Sparse tables: lists of (key, value) pairs with strictly rising keys. Memory, the SRF's store and every
numbered family of structures (lamps, partitions, ports …) is one. An unlisted key stands for a default that the
reader names.
-/
namespace Sys2Proof.Machine

/-- The value listed for a key. -/
def tget {α : Type} : List (Nat × α) → Nat → Option α
  | [], _ => none
  | (k, v) :: t, x => if k = x then some v else tget t x

/-- The value listed for a key, or the default. -/
def tgetD {α : Type} (t : List (Nat × α)) (x : Nat) (d : α) : α := (tget t x).getD d

/-- The table with a value listed for a key, kept in rising order. -/
def tput {α : Type} : List (Nat × α) → Nat → α → List (Nat × α)
  | [], x, a => [(x, a)]
  | (k, v) :: t, x, a =>
    if x < k then (x, a) :: (k, v) :: t else if x = k then (x, a) :: t else (k, v) :: tput t x a

/-- The table without a key. -/
def tdel {α : Type} (t : List (Nat × α)) (x : Nat) : List (Nat × α) := t.filter (fun e => e.1 != x)

/-- The keys of a table rise strictly. -/
def tsorted {α : Type} : List (Nat × α) → Bool
  | [] => true
  | [_] => true
  | (k, _) :: (k', v') :: t => k < k' && tsorted ((k', v') :: t)

/-- Writing a cell of a table whose unlisted keys read as `d k`: the default is never listed. -/
def dput {α : Type} [DecidableEq α] (d : Nat → α) (t : List (Nat × α)) (x : Nat) (a : α) : List (Nat × α) :=
  if a = d x then tdel t x else tput t x a

/-- Reading a cell of such a table. -/
def dget {α : Type} (d : Nat → α) (t : List (Nat × α)) (x : Nat) : α := tgetD t x (d x)

/-- The canonical form of such a table: keys rise strictly and no entry equals the default of its key. -/
def dcanon {α : Type} [DecidableEq α] (d : Nat → α) (t : List (Nat × α)) : Bool :=
  tsorted t && t.all (fun e => decide (e.2 ≠ d e.1))

/-- The cells of a block of `n` addresses from `a` that a list of values gives, less those equal to the default. -/
def blockCells {α : Type} [DecidableEq α] (d : Nat → α) : Nat → List α → List (Nat × α)
  | _, [] => []
  | a, v :: vs => if v = d a then blockCells d (a + 1) vs else (a, v) :: blockCells d (a + 1) vs

/-- Replaces the block of `vs.length` cells from `a`. -/
def bput {α : Type} [DecidableEq α] (d : Nat → α) (t : List (Nat × α)) (a : Nat) (vs : List α) : List (Nat × α) :=
  t.filter (fun e => decide (e.1 < a)) ++ blockCells d a vs ++ t.filter (fun e => decide (a + vs.length ≤ e.1))

/-- The values of `n` keys from `a`, of a table whose first key is `a` or later, with default `d k`. -/
def mergeFrom {α : Type} (d : Nat → α) : Nat → Nat → List (Nat × α) → List α
  | 0, _, _ => []
  | n + 1, a, [] => d a :: mergeFrom d n (a + 1) []
  | n + 1, a, (k, v) :: t => if k = a then v :: mergeFrom d n (a + 1) t else d a :: mergeFrom d n (a + 1) ((k, v) :: t)

/-- The `n` values from key `a` of a sparse block with default `z`. -/
def expand {α : Type} (z : α) (n a : Nat) (t : List (Nat × α)) : List α := mergeFrom (fun _ => z) n a t

/-- Reading `n` cells from `a`. -/
def dread {α : Type} (d : Nat → α) (t : List (Nat × α)) (a n : Nat) : List α :=
  mergeFrom d n a (t.filter (fun e => decide (a ≤ e.1)))

/-- The values of a list that differ from `z`, by index. -/
def sparse {α : Type} [DecidableEq α] (z : α) : Nat → List α → List (Nat × α) := blockCells (fun _ => z)

/-- Item `i` of a list replaced, the list kept if it has no item `i`. -/
def lset {α : Type} : List α → Nat → α → List α
  | [], _, _ => []
  | _ :: t, 0, a => a :: t
  | h :: t, i + 1, a => h :: lset t i a

/-- The distinct items of a list, first appearances kept. -/
def luniq : List Nat → List Nat
  | [] => []
  | h :: t => h :: (luniq t).filter (fun x => x != h)

end Sys2Proof.Machine
end

