-- ==== Sys2Proof/Machine/Bits.lean ====
section
/-!
DEFINITION. Bit fields, byte orders, saturating counters and the CRCs.
-/
namespace Sys2Proof.Machine

/-- The value of a field in a register word. -/
def Fld.get (f : Fld) (w : Word) : Nat := (w.toNat >>> f.lo) % 2 ^ f.len

/-- The mask of a field. -/
def Fld.mask (f : Fld) : Nat := (2 ^ f.len - 1) <<< f.lo

/-- The word with a field set to the low bits of a value. -/
def Fld.put (f : Fld) (w : Word) (v : Nat) : Word :=
  (w &&& ~~~ BitVec.ofNat 32 f.mask) ||| BitVec.ofNat 32 ((v % 2 ^ f.len) <<< f.lo)

/-- A bit of a number. -/
def bit (n i : Nat) : Bool := n.testBit i

/-- A number with one bit set or cleared. -/
def setBit (n i : Nat) (b : Bool) : Nat := if b then n ||| 2 ^ i else if n.testBit i then n - 2 ^ i else n

/-- 1 or 0. -/
def b2n (b : Bool) : Nat := if b then 1 else 0

/-- Adds up to a ceiling (R512, R564 and every counter that saturates). -/
def satAdd (a d top : Nat) : Nat := if top < a + d then top else a + d

/-- The little-endian value of bytes (R8). -/
def leNat : List Byte → Nat
  | [] => 0
  | b :: t => b.toNat + 256 * leNat t

/-- The `n` little-endian bytes of a value. -/
def leBytes : Nat → Nat → List Byte
  | 0, _ => []
  | n + 1, v => BitVec.ofNat 8 v :: leBytes n (v / 256)

/-- The big-endian value of bytes (R9). -/
def beNat (bs : List Byte) : Nat := leNat bs.reverse

/-- The `n` big-endian bytes of a value. -/
def beBytes (n v : Nat) : List Byte := (leBytes n v).reverse

/-- `n` bytes of a list from an offset, zero beyond its end. -/
def sub (bs : List Byte) (off n : Nat) : List Byte :=
  let t := (bs.drop off).take n
  t ++ List.replicate (n - t.length) 0

/-- The little-endian number in a list of bytes. -/
def leAt (bs : List Byte) (off n : Nat) : Nat := leNat (sub bs off n)

/-- The word of a number. -/
abbrev w32 (n : Nat) : Word := BitVec.ofNat 32 n

/-- One bit step of CRC-32C (R107). -/
def crcBit (c : Nat) : Nat := if c % 2 = 1 then (c / 2) ^^^ 0x82f63b78 else c / 2

/-- One byte of CRC-32C (R107). -/
def crcByte (c : Nat) (b : Nat) : Nat :=
  crcBit (crcBit (crcBit (crcBit (crcBit (crcBit (crcBit (crcBit (c ^^^ b))))))))

/-- The CRC register after bytes. -/
def crcRun : Nat → List Byte → Nat
  | c, [] => c
  | c, b :: t => crcRun (crcByte c b.toNat) t

/-- CRC-32C (R107). -/
def crc32c (bs : List Byte) : Nat := crcRun 0xffffffff bs ^^^ 0xffffffff

/-- One bit step of the CRC-16 of R311. -/
def crc16Bit (c : Nat) : Nat := if 0x8000 ≤ c then (2 * c ^^^ 0x11021) % 65536 else 2 * c

/-- One byte of the CRC-16 of R311. -/
def crc16Byte (c b : Nat) : Nat :=
  crc16Bit (crc16Bit (crc16Bit (crc16Bit (crc16Bit (crc16Bit (crc16Bit (crc16Bit (c ^^^ b * 256))))))))

/-- CRC-16 with polynomial 0x1021 from 0xFFFF, no reflection, no final XOR (R311). -/
def crc16 (bs : List Byte) : Nat := bs.foldl (fun c b => crc16Byte c b.toNat) 0xFFFF

end Sys2Proof.Machine
end

