-- ==== Sys2Proof/Machine/Alu.lean ====
section
/-!
DEFINITION. The arithmetic of the integer, compare and bit instructions (R167, R168) and of the scan, signal and
integer square root units, as functions of words and integers.
-/
namespace Sys2Proof.Machine

/-- An integer saturated to a signed 32-bit word. -/
def satW (z : Int) : Word :=
  if z < -2147483648 then 0x80000000 else if 2147483647 < z then 0x7fffffff else wrapW z

/-- Signed minimum and maximum. -/
def minS (a b : Word) : Word := if sval a ≤ sval b then a else b
def maxS (a b : Word) : Word := if sval a ≤ sval b then b else a
/-- Unsigned minimum and maximum. -/
def minU (a b : Word) : Word := if uval a ≤ uval b then a else b
def maxU (a b : Word) : Word := if uval a ≤ uval b then b else a

/-- Shifts by the low 5 bits of the amount. -/
def shlW (a b : Word) : Word := a <<< (b.toNat % 32)
def shrW (a b : Word) : Word := a >>> (b.toNat % 32)
def sraW (a b : Word) : Word := a.sshiftRight (b.toNat % 32)

/-- The high halves of products. -/
def mulhS (a b : Word) : Word := wrapW (sval a * sval b / 2 ^ 32)
def mulhU (a b : Word) : Word := w32 (uval a * uval b / 2 ^ 32)

/-- Signed quotient, truncated toward zero; divisor 0 gives 0, −2³¹ ÷ −1 gives −2³¹ (R167). -/
def divS (a b : Word) : Word := if b = 0 then 0 else wrapW (Int.tdiv (sval a) (sval b))
/-- Signed remainder with the sign of the dividend; divisor 0 gives the dividend. -/
def remS (a b : Word) : Word := if b = 0 then a else wrapW (Int.tmod (sval a) (sval b))
def divU (a b : Word) : Word := if b = 0 then 0 else w32 (uval a / uval b)
def remU (a b : Word) : Word := if b = 0 then a else w32 (uval a % uval b)

/-- Number of set bits. -/
def popc (a : Word) : Word := w32 ((List.range 32).countP (fun i => a.getLsbD i))
/-- Number of leading zeros, 32 for zero. -/
def clz (a : Word) : Word := if a = 0 then 32 else w32 (31 - Nat.log2 a.toNat)

/-- The position and width a bit-field instruction reads from gb (R168): width 0 means 32. -/
def bfPos (b : Word) : Nat := b.toNat % 32
def bfWidth (b : Word) : Nat := if (b.toNat / 256) % 32 = 0 then 32 else (b.toNat / 256) % 32
/-- BFXU. -/
def bfxu (a b : Word) : Word := w32 ((a.toNat >>> bfPos b) % 2 ^ bfWidth b)
/-- BFI: the field of `d` replaced by the low bits of `a`; bits beyond bit 31 are dropped. -/
def bfi (d a b : Word) : Word :=
  let m := w32 ((2 ^ bfWidth b - 1) <<< bfPos b)
  (d &&& ~~~ m) ||| (w32 ((a.toNat % 2 ^ bfWidth b) <<< bfPos b) &&& m)

/-- The largest r below 2^(bits) with r² ≤ n, found bit by bit. -/
def isqrtGo (n : Nat) : Nat → Nat → Nat
  | 0, r => r
  | b + 1, r => if (r + 2 ^ b) * (r + 2 ^ b) ≤ n then isqrtGo n b (r + 2 ^ b) else isqrtGo n b r

/-- Floor of the square root of a number below 2^(2·bits). -/
def isqrt (bits n : Nat) : Nat := isqrtGo n bits 0

/-- z / 2^k rounded to nearest, ties to even. -/
def roundShift (z : Int) (k : Nat) : Int :=
  let f := z / 2 ^ k
  let r := z % 2 ^ k
  if 2 * r < 2 ^ k then f else if 2 ^ k < 2 * r then f + 1 else if f % 2 = 0 then f else f + 1

/-- z / d rounded to nearest, ties to even, for d > 0. -/
def roundDiv (z d : Int) : Int :=
  let f := z / d
  let r := z % d
  if 2 * r < d then f else if d < 2 * r then f + 1 else if f % 2 = 0 then f else f + 1

end Sys2Proof.Machine
end

