-- ==== Sys2Proof/Config.lean ====
section
/-!
DEFINITION. What the spec leaves open: values it does not state, as constants with no body. Each takes the
number of the draw (the counter `free` of the state) or the operands it depends on; nothing can be proved about a
value of one of them, so every claim holds for all of them.
-/
namespace Sys2Proof.Config

/-- The CORE cycle within a tick at which an event the command stream does not place in its tick occurs, and the
cycle a lamp reads in LS_CYCLE (log entry 3). -/
opaque eventCycle : Nat → Nat

/-- Cosine and sine of CORDR, magnitude and angle of CORDV: the results' distance from the exact value, which
R178 only bounds (log entry 4). -/
opaque cordErr : Nat → Int

/-- Which of the locations it may take the module takes for a tile it places (log entry 9). -/
opaque placeChoice : Nat → Nat

/-- The authorisation digest of a safety swap over the digests of the armed safety images and the words of the pending
bank's safety entries; R233 does not state how they are laid out for hashing (log entry 10). -/
opaque authDigest : List Nat → List Nat → List Byte

/-- The prescaler count of the RTC at an instant the command stream does not place in its second (log entry 12). -/
opaque subSecond : Nat → Nat

/-- Nanoseconds from the tick edge, and the fraction of a nanosecond, at which the time counter is captured (log entry 13). -/
opaque captureNs : Nat → Nat

/-- The frequency estimate from the last two measurements, in ppt; R321 does not state how it is formed: from the rate in
force, both measurements in ns and the nanoseconds between them (log entry 14). -/
opaque freqEstimate : Int → Int → Int → Nat → Int

/-- The bucket of the forwarding database an address of a VLAN falls in; R297 does not state the hash (log entry 15). -/
opaque fdbBucket : Nat → Nat → Nat

/-- The CAN start-of-frame counter at the first tick edge: it runs from reset, and the time from reset to the first edge is
not stated (log entry 17). -/
opaque canEpoch : Nat

/-- What REC becomes on a reception while it is above 127; ISO 11898-1 sets it to a value between 119 and 127 (log entry 18). -/
opaque canRec : Nat → Nat

/-- The hash kept of the safety password: HMAC-SHA-384 iterated 10,000 times over the salt; R389 does not state how the
rounds are joined (log entry 19). -/
opaque pwHash : List Byte → List Byte → List Byte

/-- DELTA of a beacon: the time from the tick edge to the start of its block, in 0.1 ns (log entry 21). -/
opaque beaconDelta : Nat → Nat

/-- A byte of the vault's random bit generator: draw and index (log entry 22). -/
opaque randomByte : Nat → Nat → Byte

/-- A byte of the device root of a generation, from OTP (log entry 23). -/
opaque deviceRoot : Nat → Nat → Byte

/-- A signature with a P-384 (type 3) or ML-DSA-65 (type 5) private key: type, key, message, draw (log entry 24). -/
opaque asymSign : Nat → List Byte → List Byte → Nat → List Byte

/-- Whether a signature verifies with a P-384 (type 4) or ML-DSA-65 (type 6) public key: type, key, message, signature (log
entry 24). -/
opaque asymVerify : Nat → List Byte → List Byte → List Byte → Bool

/-- The public key of a private key of a type (log entry 24). -/
opaque publicKey : Nat → List Byte → List Byte

/-- The x-coordinate of the P-384 product of a private key and a point, none where the point is not valid (log entry 24). -/
opaque ecdh : List Byte → List Byte → Option (List Byte)

/-- ML-DSA-65 signing of a draw accepts none of its 48 rounds (R444; log entry 24). -/
opaque signGivesUp : Nat → Bool

/-- The code of an event the spec has logged without a name (log entry 31). -/
opaque unnamedEvent : Nat → Nat

/-- The chain that DER certificates give: X.509 parsing and its signature checks (log entry 24). -/
opaque certChain : List Byte → CertChain

/-- A word of the frame buffer as the TAP reads it: the spec does not state how stored frames lie in its cells (log entry 34). -/
opaque cellWord : Nat → Word

/-- The digest of a placement: locations by manifest index and ENG_CODE_PAGE entries; R455 does not state how they are laid out
for hashing (log entry 35). -/
opaque placeDigest : List Nat → List (Nat × Nat) → List Byte

/-- Bytes 216–263 of an attestation report: SAFE_DIGEST and the last authorisation digest, 52 bytes in a field of 48 (log
entry 36). -/
opaque safetyField : Nat → List Byte → List Byte

/-- The length of a tick in CORE cycles, which R90 and R91 bound without stating it cycle by cycle while the time counter runs at a rate
or steps (log entry 37). -/
opaque tickCycles : Nat → Nat

end Sys2Proof.Config
end

