-- ==== Sys2Proof/Machine/Events.lean ====
section
/-!
DEFINITION. The codes of the logged events: the CRC-32C (R107) of the event's name in ASCII (R509).
-/
namespace Sys2Proof.Machine.Ev

/-- The code of the event ACK_REFUSED. -/
abbrev ACK_REFUSED : Nat := 0x2292DCB9
/-- The code of the event ALLOT_BUSY. -/
abbrev ALLOT_BUSY : Nat := 0x1E074B08
/-- The code of the event BK_LOST. -/
abbrev BK_LOST : Nat := 0x51DDB756
/-- The code of the event BOOT. -/
abbrev BOOT : Nat := 0x59B36CE1
/-- The code of the event CAN_BT_BUSY. -/
abbrev CAN_BT_BUSY : Nat := 0xA9B6A08A
/-- The code of the event CAN_BT_INVALID. -/
abbrev CAN_BT_INVALID : Nat := 0xBFC151DB
/-- The code of the event CAN_MAP_REFUSED. -/
abbrev CAN_MAP_REFUSED : Nat := 0x08A3385D
/-- The code of the event CAN_MAP_STALE. -/
abbrev CAN_MAP_STALE : Nat := 0xB66C6626
/-- The code of the event CELL_LOW. -/
abbrev CELL_LOW : Nat := 0x6551E68F
/-- The code of the event CMD_REFUSED. -/
abbrev CMD_REFUSED : Nat := 0x80796675
/-- The code of the event DIP_RECOVERED. -/
abbrev DIP_RECOVERED : Nat := 0xE3FD560F
/-- The code of the event ENTROPY_FAIL. -/
abbrev ENTROPY_FAIL : Nat := 0x63F24B09
/-- The code of the event ENUM_IGNORED. -/
abbrev ENUM_IGNORED : Nat := 0x0A358291
/-- The code of the event ERR_CFG_REFUSED. -/
abbrev ERR_CFG_REFUSED : Nat := 0xA954133E
/-- The code of the event ERR_DELIVERY_HELD. -/
abbrev ERR_DELIVERY_HELD : Nat := 0xE521753C
/-- The code of the event EVT_ROUTE_REFUSED. -/
abbrev EVT_ROUTE_REFUSED : Nat := 0xB1C6A5D4
/-- The code of the event EXTRACT_UNPLANNED. -/
abbrev EXTRACT_UNPLANNED : Nat := 0x64D7A3B3
/-- The code of the event FORCE_CLEARED. -/
abbrev FORCE_CLEARED : Nat := 0x88A18E68
/-- The code of the event FORCE_DROPPED. -/
abbrev FORCE_DROPPED : Nat := 0x923C1C35
/-- The code of the event FORCE_LATE. -/
abbrev FORCE_LATE : Nat := 0x3607B7AE
/-- The code of the event FORCE_SET. -/
abbrev FORCE_SET : Nat := 0xDCA376EA
/-- The code of the event FREE_SEAL_REWRITTEN. -/
abbrev FREE_SEAL_REWRITTEN : Nat := 0xD9A998BB
/-- The code of the event HAW_BIND_REFUSED. -/
abbrev HAW_BIND_REFUSED : Nat := 0x3828D867
/-- The code of the event HAW_SHARE_OVER. -/
abbrev HAW_SHARE_OVER : Nat := 0x7D2F6E7E
/-- The code of the event IMAGE_REFUSED. -/
abbrev IMAGE_REFUSED : Nat := 0x3DD89B9A
/-- The code of the event INST_DISCARDED. -/
abbrev INST_DISCARDED : Nat := 0xC7F120D5
/-- The code of the event INST_TYPE_RESET. -/
abbrev INST_TYPE_RESET : Nat := 0xD2BC4226
/-- The code of the event KEEP_CONFLICT. -/
abbrev KEEP_CONFLICT : Nat := 0x4231A13D
/-- The code of the event KEEP_PAGE_RETIRED. -/
abbrev KEEP_PAGE_RETIRED : Nat := 0x15D4FEFD
/-- The code of the event KEEP_RING_MISMATCH. -/
abbrev KEEP_RING_MISMATCH : Nat := 0x07583937
/-- The code of the event KEEP_RING_REFUSED. -/
abbrev KEEP_RING_REFUSED : Nat := 0x8557B646
/-- The code of the event KEEP_RING_WORN. -/
abbrev KEEP_RING_WORN : Nat := 0x3EA349C7
/-- The code of the event KEEP_SOF_OVER. -/
abbrev KEEP_SOF_OVER : Nat := 0xC55AADBD
/-- The code of the event KEY_COMMIT_LOST. -/
abbrev KEY_COMMIT_LOST : Nat := 0x4D615FFB
/-- The code of the event LAMP_MIGRATED. -/
abbrev LAMP_MIGRATED : Nat := 0x87C16A0C
/-- The code of the event LH_DEPOSED. -/
abbrev LH_DEPOSED : Nat := 0xFDF01186
/-- The code of the event LH_NO_CONFIRM. -/
abbrev LH_NO_CONFIRM : Nat := 0x5551A29B
/-- The code of the event MASTER_EXTRA. -/
abbrev MASTER_EXTRA : Nat := 0x09F7EAB5
/-- The code of the event MBX_BIND_REFUSED. -/
abbrev MBX_BIND_REFUSED : Nat := 0xA6A9E580
/-- The code of the event METL_LINK_DOWN. -/
abbrev METL_LINK_DOWN : Nat := 0xB60EB11F
/-- The code of the event METL_LINK_UP. -/
abbrev METL_LINK_UP : Nat := 0xFF0E0D62
/-- The code of the event METL_MAP_REFUSED. -/
abbrev METL_MAP_REFUSED : Nat := 0x9A18DDAE
/-- The code of the event MOOR_REJECT. -/
abbrev MOOR_REJECT : Nat := 0x1ACB3345
/-- The code of the event MOOR_RELAY_FULL. -/
abbrev MOOR_RELAY_FULL : Nat := 0xCBA8CFD6
/-- The code of the event MOOR_SESSION_END. -/
abbrev MOOR_SESSION_END : Nat := 0xC004C12C
/-- The code of the event MOOR_SESSION_OPEN. -/
abbrev MOOR_SESSION_OPEN : Nat := 0x1183D94D
/-- The code of the event MOOR_SHUTTER_PATH. -/
abbrev MOOR_SHUTTER_PATH : Nat := 0xF02301CA
/-- The code of the event MULTI_DONE. -/
abbrev MULTI_DONE : Nat := 0xB477A47E
/-- The code of the event MULTI_NO_COMMIT. -/
abbrev MULTI_NO_COMMIT : Nat := 0xD0C95CCB
/-- The code of the event MULTI_REFUSED. -/
abbrev MULTI_REFUSED : Nat := 0xB794C921
/-- The code of the event MULTI_SPLIT. -/
abbrev MULTI_SPLIT : Nat := 0xA41377FC
/-- The code of the event NOT_JOINED. -/
abbrev NOT_JOINED : Nat := 0xE98948D4
/-- The code of the event PART0_CTRL_REFUSED. -/
abbrev PART0_CTRL_REFUSED : Nat := 0x87C66559
/-- The code of the event PF_DIP. -/
abbrev PF_DIP : Nat := 0xEAAD4A34
/-- The code of the event REPAIR_SUPERSEDED. -/
abbrev REPAIR_SUPERSEDED : Nat := 0xA3C1470B
/-- The code of the event RESTEP_REFUSED. -/
abbrev RESTEP_REFUSED : Nat := 0x609F142D
/-- The code of the event RETURN_TOKEN_REFUSED. -/
abbrev RETURN_TOKEN_REFUSED : Nat := 0xDD197F37
/-- The code of the event RING_BREAK. -/
abbrev RING_BREAK : Nat := 0x8B88A6B7
/-- The code of the event RING_REPAIRED. -/
abbrev RING_REPAIRED : Nat := 0x10ED0B23
/-- The code of the event RTC_ALARM. -/
abbrev RTC_ALARM : Nat := 0xF543E96D
/-- The code of the event RTC_BAD_VALUE. -/
abbrev RTC_BAD_VALUE : Nat := 0x6624E577
/-- The code of the event SAFE_CFG_BUSY. -/
abbrev SAFE_CFG_BUSY : Nat := 0x61E1630B
/-- The code of the event SAFE_ENTRY_ECC. -/
abbrev SAFE_ENTRY_ECC : Nat := 0x9E9433DD
/-- The code of the event SAFE_GLOBAL_FAULT. -/
abbrev SAFE_GLOBAL_FAULT : Nat := 0x19878FF3
/-- The code of the event SAFE_RESTORE_FAIL. -/
abbrev SAFE_RESTORE_FAIL : Nat := 0x0ECFEF15
/-- The code of the event SCHED_REFUSED. -/
abbrev SCHED_REFUSED : Nat := 0xA961A9E5
/-- The code of the event SCHED_WRITE_BLOCKED. -/
abbrev SCHED_WRITE_BLOCKED : Nat := 0xAB4096BC
/-- The code of the event SELFTEST_TRANSIENT. -/
abbrev SELFTEST_TRANSIENT : Nat := 0xA90FABBD
/-- The code of the event SHUTTER_RESULT. -/
abbrev SHUTTER_RESULT : Nat := 0xD6FC1486
/-- The code of the event SPARE_COUNT_REFUSED. -/
abbrev SPARE_COUNT_REFUSED : Nat := 0x15E51137
/-- The code of the event SPE_BUDGET_OVER. -/
abbrev SPE_BUDGET_OVER : Nat := 0x4CFEBAD0
/-- The code of the event SPE_FAULT. -/
abbrev SPE_FAULT : Nat := 0xE05D71D8
/-- The code of the event SPE_MAP_REFUSED. -/
abbrev SPE_MAP_REFUSED : Nat := 0xB8018F0E
/-- The code of the event SQ_OVERLOAD. -/
abbrev SQ_OVERLOAD : Nat := 0xF50F1304
/-- The code of the event STRAP_CHANGED. -/
abbrev STRAP_CHANGED : Nat := 0x868626F2
/-- The code of the event STRAP_CONFLICT. -/
abbrev STRAP_CONFLICT : Nat := 0xA05861D6
/-- The code of the event STRAP_UNSTABLE. -/
abbrev STRAP_UNSTABLE : Nat := 0x7A97BEC7
/-- The code of the event SV_BAD_PORTS. -/
abbrev SV_BAD_PORTS : Nat := 0x8B22A441
/-- The code of the event SWAP_AT_STEPPED. -/
abbrev SWAP_AT_STEPPED : Nat := 0x21933352
/-- The code of the event SWAP_BUSY. -/
abbrev SWAP_BUSY : Nat := 0x2E496EC7
/-- The code of the event SW_CELLS_OVER. -/
abbrev SW_CELLS_OVER : Nat := 0x08C9B2CB
/-- The code of the event SW_ENTRY_REFUSED. -/
abbrev SW_ENTRY_REFUSED : Nat := 0xBA9D19DA
/-- The code of the event SW_QCFG_REFUSED. -/
abbrev SW_QCFG_REFUSED : Nat := 0xC14FB8A9
/-- The code of the event TAMPER. -/
abbrev TAMPER : Nat := 0x7AF4EAB8
/-- The code of the event TAMPER_SLEEP. -/
abbrev TAMPER_SLEEP : Nat := 0xF53D2953
/-- The code of the event TICK_STEPPED. -/
abbrev TICK_STEPPED : Nat := 0xF411CE6C
/-- The code of the event TILE_LOST. -/
abbrev TILE_LOST : Nat := 0x08B3818F
/-- The code of the event TIME_OFS_LARGE. -/
abbrev TIME_OFS_LARGE : Nat := 0xBE74C663
/-- The code of the event TIME_RESTEPPED. -/
abbrev TIME_RESTEPPED : Nat := 0x851579A4
/-- The code of the event TREC_CLEARED. -/
abbrev TREC_CLEARED : Nat := 0xF680E5DF
/-- The code of the event TWIN_CFG_MISMATCH. -/
abbrev TWIN_CFG_MISMATCH : Nat := 0xE90D12EE
/-- The code of the event UNSUPPORTED_XCVR. -/
abbrev UNSUPPORTED_XCVR : Nat := 0x2D239A11
/-- The code of the event VAULT_DRV_OVER. -/
abbrev VAULT_DRV_OVER : Nat := 0xAF96F4D5
/-- The code of the event VFLD_LOW. -/
abbrev VFLD_LOW : Nat := 0xF4646EB8
/-- The code of the event VFLD_OV. -/
abbrev VFLD_OV : Nat := 0x19322009
/-- The code of the event VSO_LOW. -/
abbrev VSO_LOW : Nat := 0xD92D99B5
/-- The code of the event VSO_OV. -/
abbrev VSO_OV : Nat := 0xD075E994
/-- The code of the event WITNESS_IDLE. -/
abbrev WITNESS_IDLE : Nat := 0xC363386A

end Sys2Proof.Machine.Ev
end

