-- ==== Sys2Proof/Machine/State.lean ====
section
/-!
DEFINITION. The state of the module: every register, memory, queue, counter, mode and pin the spec gives it, as
plain data, the queue of waiting commands, and the state after reset. Registers stand in `srf`, the store of the
system register file; what a register table does not show (windows, queues, engines, counters between registers)
stands in one structure for each block.
-/
namespace Sys2Proof.Machine

/-- Faults of the model. No command of this block stops the machine with a fault: the spec answers every wrong
access with an error response and a record (R29, R144, R507), so this type has no constructor that is raised;
`unreachable` is raised by nobody and is safe. -/
inductive Fault where
  | unreachable
  deriving DecidableEq, Repr

/-- Refusals of the model. -/
inductive Refusal where
  /-- a command without a meaning, raised by the dispatcher alone; safe -/
  | notModelled (mnemonic : String)
  deriving DecidableEq, Repr

/-- The state of a data window (R115); BUSY is not stored: a window is BUSY while the lamp's tile unit holds an
operation that names it. -/
inductive WinState where
  | empty | valid | poison
  deriving DecidableEq, Repr

/-- One of a lamp's eight data windows (R115, R134). Its 4096 bytes stand in memory at the window's place in
the lamp's scratch. -/
structure Window where
  st : WinState
  /-- bit i: line i (64 bytes) is valid -/
  lines : BitVec 64
  /-- location of the last TLOAD or TSTORE -/
  loc : Nat
  restored : Bool
  /-- WSTAT_w.CAUSE -/
  cause : Nat
  /-- the first M-format access to the POISON window in this slot has been recorded (R117) -/
  told : Bool
  deriving DecidableEq, Repr

/-- The three operations of a tile unit. -/
inductive TileKind where
  | load | store | mbx
  deriving DecidableEq, Repr

/-- The tile operation a lamp's tile unit holds (R118, R180), with the partition that issued it, its instruction word
and its word address. -/
structure TileOp where
  kind : TileKind
  w : Fin 8
  loc : Fin 4096
  pd : Fin 8
  part : Nat
  safety : Bool
  word : Word
  pc : Nat
  deriving DecidableEq, Repr

/-- One nesting level of LOOPn (R172): the body's first word, the word after the body, and the runs left. -/
structure LoopLvl where
  first : Nat
  after : Nat
  remaining : Nat
  deriving DecidableEq, Repr

/-- The task running in a slot (R99, R144). -/
structure TaskCtx where
  part : Nat
  slot : Nat
  entry : Nat
  safety : Bool
  event : Bool
  /-- Δ of R175 -/
  delta : Nat
  first : Bool
  changed : Bool
  /-- this task entry is the partition's error handler (R515) -/
  handler : Bool
  deriving DecidableEq, Repr

/-- A frame under construction by FSEND with MORE (R182). -/
structure Chain where
  handle : Nat
  bytes : List Byte
  /-- its stored frame (R293) -/
  hold : Nat
  deriving DecidableEq, Repr

/-- A lamp position: its architectural registers (R141), windows, tile unit and slot context. -/
structure Lamp where
  g : Vector Word 32
  acc : Vector Dword 4
  p : Vector Bool 8
  pc : Nat
  loops : List LoopLvl
  win : Vector Window 8
  pend : Option TileOp
  task : Option TaskCtx
  /-- partition and slot that ran last on this lamp (R525), none since reset -/
  lastPart : Option Nat
  lastEntry : Nat
  chain : Option Chain
  deriving DecidableEq, Repr

/-- A safe entry of the commit unit for one output image (R206): the VALUE area as placed. -/
structure SafeEntry where
  /-- VALUE of point i, one word per point -/
  values : List Word
  /-- an uncorrectable SECDED error stands in the entry -/
  bad : Bool
  deriving DecidableEq, Repr

/-- The placed header of an image tile (R200). -/
structure ImgHdr where
  layout : Nat
  source : Nat
  npoints : Nat
  link : Nat
  /-- TYPE of point i of a WORD image (R202) -/
  types : List Nat
  deriving DecidableEq, Repr

/-- One effective output point (R207, R204): its value and the quality an ECHO image shows for it. -/
structure EffPoint where
  value : Word
  qual : Nat
  deriving DecidableEq, Repr

/-- An entry of a force table (R213); an entry in the table is ACTIVE. -/
structure Force where
  ident : Nat
  index : Nat
  value : Word
  deriving DecidableEq, Repr

/-- What a fix-up plan does to one 16-byte unit of a tile (R231). -/
inductive FixUnit where
  | zero | reset (key : Word) (chg : Bool)
  deriving DecidableEq, Repr

/-- A fix-up plan of a carried DATA tile (R231). -/
structure FixPlan where
  loc : Nat
  gen : Word
  units : List (Nat × FixUnit)
  deriving DecidableEq, Repr

/-- An error record (R507). ADDRESS and DETAIL are words, CYCLE is split at bit 17 (R555). -/
structure ErrRec where
  abs : Word
  tick : Nat
  part : Nat
  engine : Nat
  cycle : Nat
  cycleHi : Nat
  cls : Nat
  isGlobal : Bool
  handler : Bool
  masked : Bool
  seq : Nat
  address : Word
  detail : Dword
  deriving DecidableEq, Repr

/-- A record of the global log and whether it has been read (R516). -/
structure GRec where
  r : ErrRec
  read : Bool
  deriving DecidableEq, Repr

/-- A partition's error queue (R512). -/
structure ErrQueue where
  recs : List ErrRec
  /-- ERR_DELIVERY_HELD has been logged for the present absence of the inbox (R514) -/
  heldTold : Bool
  deriving DecidableEq, Repr

/-- A CSEND record staged until the launch (R182, R334): channel, buffer and the record's bytes. -/
structure CStage where
  chan : Nat
  buf : Nat
  bytes : List Byte
  deriving DecidableEq, Repr

/-- A frame closed by FSEND, waiting for the launch (R182, R304). -/
structure FStage where
  handle : Nat
  bytes : List Byte
  hold : Nat
  deriving DecidableEq, Repr

/-- The states an exchange of a partition's program can be in (ENG_XCHG_STAT). -/
inductive XchgSt where
  | none | staging | staged | armed | riding
  deriving DecidableEq, Repr

/-- A partition's placed program as far as the module keeps it: the parsed image (R193, R194) and the
location allotted to each manifest index (the placement map, R195). -/
structure Program where
  image : Image
  map : List Nat
  deriving DecidableEq, Repr

/-- A staged exchange (R224 to R227). -/
structure Xchg where
  prog : Program
  /-- manifest indices of class New -/
  news : List Nat
  /-- staged pages: code page index n of ENG_CODE_PAGE, location of the CODE tile, READY -/
  pages : List (Nat × Nat × Bool)
  /-- absolute tick of XCHG-STAGE, and the command that waits for its FINAL response: session and request -/
  since : Nat
  reply : Option (Nat × Nat)
  deriving DecidableEq, Repr

/-- A program image on its way over Mooring (R539): its header, the body bytes received, and the IMG-BEGIN or IMG-END
that waits for its FINAL response. -/
structure Transfer where
  head : List Byte
  sigs : List Byte
  body : List Byte
  verified : Bool
  reply : Option (Nat × Nat)
  deriving DecidableEq, Repr

/-- A reason a partition stops at the launch (ENG_PART_STAT.CAUSE), or the command that stops it. -/
inductive StopReq where
  | command | restart
  | overrun | watchdog | doubleFault | tileLost | codePage | lampFail
  deriving DecidableEq, Repr

/-- What a partition holds beside its registers in the SRF. -/
structure PartSt where
  /-- event flags pending and their snapshot of this tick's landing (R159) -/
  evPend : Word
  evSnap : Word
  /-- a task of the partition issued ENDSLOT in this tick (R219) -/
  ended : Bool
  /-- task entries that have run since the partition entered RUNNING, and since the last exchange (R144 LS_RUN) -/
  ran : List Nat
  ranNew : List Nat
  /-- an exchange has taken effect since the partition entered RUNNING (LS_RUN.CHANGED can show) -/
  xchgd : Bool
  /-- task entries whose tasks have all ended once since start-up (R550) -/
  endedEntries : List Nat
  /-- task entries that issued ENDSLOT in this tick (R380) -/
  endedNow : List Nat
  released : Bool
  /-- the partition has been released since the last reset (R551) -/
  served : Bool
  /-- output images stored since the partition entered RUNNING (R155) -/
  stored : List Nat
  /-- outboxes stored in this tick, in order (R132) -/
  outboxes : List Nat
  /-- safe entries by location (R206) and placed image headers by location (R200) -/
  safe : List (Nat × SafeEntry)
  hdrs : List (Nat × ImgHdr)
  /-- effective values of the last commit by location (R209) -/
  eff : List (Nat × List EffPoint)
  forces : List Force
  prog : Option Program
  /-- the image held for start-up and repair, in the image store (R124) -/
  held : Option Image
  /-- distribution has begun since placement (R205) -/
  distributing : Bool
  plans : List FixPlan
  xchg : Option Xchg
  /-- the images received by IMG-END and not yet placed or staged (R539) -/
  received : Option Image
  /-- image transfer in progress (R539) -/
  xfer : Option Transfer
  /-- locations of transfer tiles -/
  xferTiles : List Nat
  /-- effective safe values of output images an exchange removed, by identifier (R232) -/
  orphans : List (Nat × List EffPoint)
  /-- a cold load runs: the program its last tile write will place, the command that waits for its FINAL response, and whether it is placed (R540) -/
  coldLoad : Option (Program × Nat × Nat × Bool)
  errq : ErrQueue
  stopReq : Option StopReq
  /-- END has been given in this tick (R26) -/
  endReq : Bool
  /-- frames, CAN records, loop writes and trip captures of this tick (R218 step 3) -/
  frames : List FStage
  csends : List CStage
  loopw : List (Nat × Nat × Word)
  /-- trip captures of this tick: dataset and DATA (R284) -/
  trips : List (Nat × List Byte)
  /-- this partition's slots that start no more in this tick (R218 step 1) -/
  barred : Bool
  /-- a START has taken effect in this tick (R561) -/
  startNow : Bool
  deriving DecidableEq, Repr

/-- The tick grid (R88 to R91) and the swap in progress (R103). The tick number is `abs % 4800` and the TAI second
`abs / 4800` (R89). -/
structure TickSt where
  /-- tick edges are running -/
  running : Bool
  /-- absolute tick number of the current tick -/
  abs : Nat
  /-- ticks that have begun since reset, by which spans of ticks are measured (a step of time leaves it alone) -/
  count : Nat
  /-- CORE cycles from the first tick edge to cycle 0 of the current tick -/
  base : Nat
  /-- LAUNCH of the current tick has run -/
  launched : Bool
  /-- tick number of the new time scale that follows the stretched tick now running (R91) -/
  stepTo : Option Nat
  /-- TICK_LEN_RANGE has been cleared and no tick has set it since -/
  rangeClear : Bool
  /-- the tick in which the pending swap was requested, and its activation tick once checked -/
  swapAsked : Nat
  swapAt : Nat
  /-- the pending swap is a unit's part of a coordinated change (R234, R237) -/
  swapMulti : Bool
  /-- COUNT of ENG_SPARE and the target word as the check read them (R103, R138) -/
  swapSpares : Nat
  swapWord : Word
  /-- the swap carries a use of the safety authorisation (R233) -/
  swapAuth : Bool
  /-- the digest named by the last XCHG-SAFETY-AUTH, not yet used, and the tick it was given (R233) -/
  safetyAuth : Option (List Byte × Nat)
  /-- addresses of binding registers written in this tick, whose additions wait for the next landing (R153) -/
  fresh : List Nat
  /-- absolute tick numbers of the tick before this one and of the one before that, as each had when it began -/
  before1 : Nat
  before2 : Nat
  deriving DecidableEq, Repr

/-- The sources a location's content can be repaired from (R124). -/
inductive RepSrc where
  | twinCopy | image | partner | keepRec | zeroSeal
  deriving DecidableEq, Repr

/-- A bank's repair buffer (R124): awaiting a source's content for a location, or holding it. -/
structure RepBuf where
  loc : Nat
  src : RepSrc
  /-- absolute tick of the request -/
  asked : Nat
  /-- the content delivered: the non-default bytes of the 4096, by offset -/
  content : Option (List (Nat × Byte))
  deriving DecidableEq, Repr

/-- What waits for a step of a bank, beside repairs (R122, R129, R232, R540, R488, R538). -/
inductive StepCmd where
  /-- ALLOC or FREE of TS_ALLOC_CMD -/
  | alloc (loc link : Nat) (ctl ident : Word)
  | free (loc : Nat)
  /-- a location freed by a tenancy end, an exchange or a cold load -/
  | drop (loc part : Nat)
  /-- a tile of an image written for a placement: its directory word, identifier and payload -/
  | place (loc part : Nat) (ctl ident : Word) (payload : List (Nat × Byte))
  /-- Mooring TILE-READ (R538): session, request number, the partition that reads, location -/
  | readOut (sess req part loc : Nat)
  deriving DecidableEq, Repr

/-- The tile store's own state beside its bytes and its directory registers. -/
structure TileSt where
  /-- locations whose directory entry holds an uncorrectable error (R113) -/
  dirBad : List Nat
  /-- repair queue of each bank, head first (R124) -/
  repairQ : List (Nat × List Nat)
  repairBuf : List (Nat × RepBuf)
  /-- sources that have failed for a location in its present repair -/
  failed : List (Nat × List RepSrc)
  /-- twin copies out of the queue until their primary is OK or LOST (R560) -/
  waiting : List Nat
  /-- commands waiting for a bank's step, head first -/
  steps : List (Nat × List StepCmd)
  /-- CRC failures of TLOADs: physical lamp, tick, location (R239) -/
  crcFails : List (Nat × Nat × Nat)
  /-- those of them whose location the repair step found intact: physical lamp, tick -/
  crcIntact : List (Nat × Nat)
  /-- commands that join their bank's queue at this tick's launch: bank and command (R228) -/
  later : List (Nat × StepCmd)
  deriving DecidableEq, Repr

/-- A migration of an active position to a spare's physical lamp (R240). -/
structure Migration where
  pos : Nat
  spare : Nat
  retired : Nat
  fresh : Nat
  skipped : Nat
  deriving DecidableEq, Repr

/-- Engine positions: spares in force, self-test and migration (R138, R239, R240). -/
structure EngSt where
  /-- COUNT as applied at the last check (R138) -/
  count : Nat
  /-- code pages (index of ENG_CODE_PAGE) that placement has bound to a CODE tile: LOC set (R146, R561) -/
  bound : List Nat
  /-- positions with a self-test pass running (R238) -/
  passing : List Nat
  /-- positions whose last self-test pass failed and whose second pass has not ended (R239) -/
  suspect : List Nat
  /-- positions whose physical lamp is retired at this tick's launch -/
  retiring : List Nat
  /-- active positions whose lamp was retired and whose migration starts at the next tick -/
  moving : List Nat
  migration : Option Migration
  deriving DecidableEq, Repr

/-- What a computation of a loop slot has reached before its limits (R250), kept for the partner of an override pair
(R256). -/
structure CluPart where
  words : List Word
  set : Bool
  setErr : Bool
  mode : Nat
  handover : Bool
  pv : Word
  pvBad : Bool
  p : Word
  d : Word
  ff : Word
  i : Word
  di : Word
  uTry : Word
  deriving DecidableEq, Repr

/-- A loop slot's state memory (R258, R264, R266). -/
structure CluSlot where
  /-- the 64 record words, and as they stood at cycle 0 of this tick (R184) -/
  words : List Word
  shown : List Word
  /-- dead-time buffer, newest CV first, 64 entries -/
  dead : List Word
  /-- effective mode of the previous computation, and whether it was on hold -/
  lastMode : Nat
  lastHold : Bool
  /-- the record has been loaded and not computed since (R254, R265) -/
  fresh : Bool
  /-- CV of the sample that raised a HOLD alarm (R253) -/
  alarmCv : Word
  /-- PV point as distributed at the landing before the last: value and quality (R247) -/
  pvVal : Word
  pvQual : Nat
  /-- computed, or entered by LOOPWR, since the last landing (R264) -/
  dirty : Bool
  /-- this tick's computation where the slot is the first of an override pair (R256) -/
  part : Option CluPart
  deriving DecidableEq, Repr

/-- A sample of a stream: smpCnt, values and quality of its channels, S bit (R273). -/
structure SvSample where
  cnt : Nat
  vals : List Word
  chq : List Nat
  sim : Bool
  deriving DecidableEq, Repr

/-- The ingest's memory of a stream (R272 to R278). -/
structure SvStream where
  /-- alignment buffer -/
  held : List SvSample
  /-- samples accepted by the checks since the last snapshot -/
  arrived : List SvSample
  /-- an S = 1 frame has been accepted since SIM_MODE was last set -/
  simSeen : Bool
  /-- the ring of released entries by smpCnt mod 100: VALUE bytes and QUAL word -/
  ring : List (Nat × (List Word × Word))
  lastMissing : Bool
  deriving DecidableEq, Repr

/-- A trip dataset's launcher state (R282 to R286). -/
structure TripSt where
  /-- bytes 0–439 of the placed payload -/
  template : List Byte
  lastSent : List Byte
  idx : Nat
  /-- ticks until the next send is due -/
  left : Nat
  /-- instant of the last state change: absolute tick of the edge k + 1 -/
  changed : Nat
  /-- evaluated in this tick's launch (R285) -/
  done : Bool
  deriving DecidableEq, Repr

/-- The freeze record of the read-out map (R521, R524). -/
structure FreezeRec where
  source : Nat
  cycle : Nat
  abs : Word
  tick : Nat
  rtcTime : Word
  rtcDate : Word
  rtcPre : Nat
  rtcStat : Word
  rtcAlm : Word
  frzStat : Word
  deriving DecidableEq, Repr

/-- The global log and the freeze logic (R516 to R526). -/
structure ErrSt where
  glob : List GRec
  /-- records offered to the global log, modulo 2¹⁶ -/
  gseq : Nat
  frozen : Bool
  freeze : Option FreezeRec
  /-- tick at which freeze consent was granted (R519) -/
  consentAt : Nat
  /-- the witness has consented; CONSENT stands from the next landing (R541) -/
  consentDue : Bool
  /-- the read-out address of the TAP (R523) and the word its last command shifted out -/
  tapAddr : Word
  tapOut : BitVec 96
  deriving DecidableEq, Repr

/-- The configuration record of the image store (R545): the RW fields of the recorded blocks by register, the active SAFE
configuration with its SAFE_DIGEST, and the state and CAUSE of each partition. -/
structure CfgRec where
  regs : List (Nat × Word)
  safe : Option (List (Nat × Word) × Word)
  parts : List (Nat × (Nat × Nat))
  deriving DecidableEq, Repr

/-- A program in the image store (R545): its received image, its placement map and the ENG_CODE_PAGE entries it binds. -/
structure StoredImg where
  image : Image
  /-- location and LINK of each tile of the manifest -/
  map : List (Nat × Nat)
  pages : List Nat
  deriving DecidableEq, Repr

/-- Start-up, life cycle and power (chapters 2, 3, 19, 25). -/
structure BootSt where
  /-- power is down: the clocks have stopped (R71) -/
  down : Bool
  /-- the life-cycle state a transition now running leads to (R451) -/
  lcTo : Option Nat
  /-- VFLD_IN and VSO_IN are connected internally (R67) -/
  vfld : Bool
  vso : Bool
  /-- serial number -/
  serial : Dword
  /-- reset has been released (R547) -/
  released : Bool
  /-- the module runs standalone (R547 phase JOIN) -/
  standalone : Bool
  /-- the ASSIGN effect tick has been reached (R549) -/
  assigned : Bool
  /-- V24_IN has stood for 2 s without SEAT_SNS (R49) -/
  notSeated : Bool
  /-- the image store: configuration record, and the program of each placed partition (R545) -/
  cfg : Option CfgRec
  images : List (Nat × StoredImg)
  /-- partitions whose recorded state is STARTING or RUNNING and that have not received START (R549) -/
  toStart : List Nat
  /-- tenancies whose end has reached its launch: what they held goes at the next landing (R26) -/
  zero : List Nat
  /-- VREF_DBG is at or above 1.5 V (R60) -/
  vref : Bool
  /-- cages with a transceiver: permitted in its cage (R39) -/
  cages : List (Nat × Bool)
  /-- tick counts at which the extraction was recognised, safed and refused (R51, R52) -/
  exAt : Nat
  exSafed : Nat
  exRefused : Nat
  /-- the EXTRACT LED blinks fast after a refusal (R52) -/
  exBlink : Bool
  /-- tick count of the dip in progress (R71) -/
  dipAt : Nat
  /-- STRAP_CHANGED has been logged since the last reset (R45) -/
  strapTold : Bool
  /-- return keys in OTP, P-384 then ML-DSA-65 (R450), and the device identity certificate (R455) -/
  retKeys : List Byte
  cert : List Byte
  /-- tick count of the last frame of each cage's port (R63) -/
  act : List (Nat × Nat)
  deriving DecidableEq, Repr

/-- The pins the module drives. -/
structure PinSt where
  /-- safety outputs energised at the pin -/
  sq : List Nat
  /-- the clock-independent path holds every safety output off (R365) -/
  sqHeld : Bool
  /-- cages whose transmitter is enabled -/
  cageTx : List Nat
  /-- SPE ports with field power on the line -/
  pse : List Nat
  deriving DecidableEq, Repr

/-- The backup domain beside its registers (chapter 22). -/
structure RtcSt where
  /-- the register interface is locked out (R501, R502) -/
  locked : Bool
  /-- the domain runs on the cell -/
  onCell : Bool
  /-- the alarm fired while the main die was not running; RTC_ALARM is logged at the next start-up (R500) -/
  alarmDue : Bool
  /-- the backup-domain key BK is held (R439, R504) -/
  bk : Bool
  deriving DecidableEq, Repr

/-- A force command given by a twin, on its way to both (R435): effect tick, partition, SET or CLEAR. -/
structure TwinForce where
  eff : Nat
  part : Nat
  set : Bool
  ident : Nat
  index : Nat
  value : Word
  deriving DecidableEq, Repr

/-- A heartbeat (R427). -/
structure Heart where
  src : Nat
  tick : Nat
  state : Nat
  fault : Bool
  lanyardOk : Bool
  partner : Nat
  digest : Word
  joined : Word
  backlog : Nat
  deriving DecidableEq, Repr

/-- A pair a witness watches: the newest heartbeats of its twins and how long its conditions have held. -/
structure WitPair where
  low : Nat
  high : Nat
  hl : List Heart
  hh : List Heart
  missL : Nat
  missH : Nat
  div : Nat
  eq : Nat
  /-- member whose extraction has been granted (R53) -/
  granted : Option Nat
  /-- last decision code -/
  last : Nat
  deriving DecidableEq, Repr

/-- Twin pair (chapter 18). -/
structure TwinSt where
  /-- MIRROR tiles changed and not yet sent on the lanyard, in order of completion (R424) -/
  changed : List Nat
  /-- identifiers the partner asked for and not yet answered (R426) -/
  asked : List Nat
  /-- this module's lanyard record counter -/
  seq : Nat
  /-- SEQ of the partner's records received in this tick and the one before: the second copy is discarded (R422) -/
  seen : List Nat
  forces : List TwinForce
  lstate : Option (Nat × List LEntry)
  /-- decision that waits for its effect tick -/
  decided : Option Decision
  /-- tick until which FAULT stands for R425 or a RESTORED tile (R427) -/
  faultUntil : Nat
  /-- absolute tick at which this twin last became SERVING -/
  joined : Nat
  /-- tick of the last heartbeat of the partner and of the last record of the witness -/
  partnerAt : Option Nat
  witnessAt : Option Nat
  /-- step of R242 reached -/
  step : Nat
  /-- frames counted for SeqNr in this launch (R433) -/
  sent : Nat
  /-- bytes under the digest of this launch (R428) -/
  digest : List Byte
  /-- the trip datasets' part of it -/
  digTrip : List Byte
  pairs : List WitPair
  /-- decisions this witness publishes, with the tick of the first copy -/
  decisions : List (Nat × Decision)
  /-- trip captures of the last ticks: absolute tick, dataset, DATA (R436) -/
  caps : List (Nat × Nat × List Byte)
  deriving DecidableEq, Repr

/-- A record of the KEEP array (R485); `torn` marks a page whose CRC fails. -/
structure KeepRec where
  payload : List (Nat × Byte)
  owner : Nat
  cause : Nat
  ident : Nat
  seq : Word
  gen : Word
  abs : Word
  boot : Word
  torn : Bool
  deriving DecidableEq, Repr

/-- What CORE keeps of a partition ring (R487, R488, R491). -/
structure RingSt where
  /-- newest slot, none for an EMPTY ring, with its SEQ -/
  newest : Option Nat
  seq : Word
  conflict : Bool
  /-- highest slot holding the newest SEQ (R488) -/
  high : Nat
  /-- a request waits -/
  asked : Bool
  /-- count of ticks at the last capture -/
  capAt : Option Nat
  /-- KEEP_RING_MISMATCH has been logged -/
  told : Bool
  deriving DecidableEq, Repr

/-- A page write in progress. -/
structure KeepWrite where
  ring : Nat
  slot : Nat
  page : Nat
  rcd : KeepRec
  retried : Bool
  deriving DecidableEq, Repr

/-- Retained storage (chapter 21). -/
structure KeepSt where
  /-- pages that hold a record -/
  pages : List (Nat × KeepRec)
  rings : List (Nat × RingSt)
  /-- page writes in progress, in request order -/
  writes : List KeepWrite
  /-- pages replaced by a spare, and pages removed from their ring (R494) -/
  subst : List (Nat × Nat)
  removed : List Nat
  /-- spare pages that have failed -/
  spent : List Nat
  /-- RETAIN tiles that are dirty (R486) -/
  dirty : List Nat
  /-- system ring S0: the physical lamp and STATE of each position that differs from the first reset (R136, R139) -/
  s0 : List (Nat × (Nat × Nat))
  /-- lamp retirements not yet stored in ring S0 (R139) -/
  lampsDirty : Bool
  /-- S1: hawser address and role, serial numbers of the neighbours (R406) -/
  s1 : Option (Nat × Nat) × List Dword
  /-- S2: the UTC offset last recorded (R325) -/
  s2 : Option Nat
  /-- S3: last accepted shutter counter -/
  s3 : Word
  /-- S7: boot count -/
  s7 : Word
  deriving DecidableEq, Repr

/-- A message the module sent in the present tick, beside frames, CAN records and UART frames, which stand in their
queues. -/
inductive Msg where
  /-- management-lane packet: destination, what it says, its numbers -/
  | mgmt (dst kind : Nat) (body : List Nat)
  /-- Mooring response: session, request number, status, FINAL, data (R536) -/
  | reply (sess req status : Nat) (final : Bool) (data : List Byte)
  /-- a Mooring datagram: client, session, type, its bytes -/
  | datagram (dest : MoorPath) (sess type : Nat) (body : List Byte)
  /-- lanyard record (R423) -/
  | lanyard (type ident : Nat) (gen tstamp : Word) (seq : Nat) (body : List Nat)
  /-- CONFIG record of a twin join (R242) -/
  | config (seq : Nat) (seg : CfgSeg)
  /-- exchange record (R409) on a hawser port -/
  | exch (port : Nat) (r : ExRec)
  /-- beacon on a hawser port (R397) -/
  | beacon (port : Nat) (b : Beacon)
  /-- ENUM and ASSIGN on a hawser port, a management packet forwarded (R406, R414) -/
  | enum (port : Nat) (units : List EnumUnit)
  | assign (port : Nat) (a : Assign)
  | relay (port : Nat) (p : MgmtPkt)
  /-- UART frame: channel, characters (R362) -/
  | uart (chan : Nat) (chars : List Byte)
  /-- frame of the metrology link (R475) -/
  | metro (type : Nat) (args : List Nat)
  deriving DecidableEq, Repr

/-- Who a stored frame's cells are charged to (R292, R293, R312). -/
inductive CellOwner where
  | part (p : Nat)
  | laneIn (port : Nat)
  | laneOut (port : Nat)
  | trip (j : Nat)
  | time
  deriving DecidableEq, Repr

/-- The cells of one stored frame and how many destinations have still to finish with it (R293). -/
structure CellHold where
  owner : CellOwner
  cells : Nat
  refs : Nat
  deriving DecidableEq, Repr

/-- A transmit stamp asked for with FSEND (R308): ring, TAG, and whether no entry was free. -/
structure TsReq where
  ring : Nat
  tag : Word
  lost : Bool
  deriving DecidableEq, Repr

/-- What the time engine does when an event message it sent, or a Sync it forwards, begins at its port. -/
inductive PtpTx where
  /-- Sync of a master port: sequence number -/
  | sync (seq : Nat)
  /-- Pdelay_Req -/
  | req (seq : Nat)
  /-- Pdelay_Resp: sequence number and port identity of the request -/
  | resp (seq : Nat) (ident : List Byte)
  /-- a Sync forwarded by a transparent clock: receive stamp and ingress link delay in ns -/
  | through (rx : Nat) (delay : Int)
  deriving DecidableEq, Repr

/-- A frame in an egress queue, without its FCS: its stored frame (0: none), whether it is a segment (R307). -/
structure TxFrame where
  hold : Nat
  bytes : List Byte
  ts : Option TsReq
  seg : Bool
  ptp : Option PtpTx
  deriving DecidableEq, Repr

/-- Egress of a port (R303 to R306): launcher queue, management lane, the time engine's and PRP supervision's frames, partition
queues, credits in 1/1600 byte, the tick cycle credits stand at, and the frame being sent with its source (0–7 a
queue, 8 the lane, 9 the module's own). -/
structure SwPort where
  trip : List TxFrame
  lane : List TxFrame
  own : List TxFrame
  queues : List (Nat × List TxFrame)
  credit : List (Nat × Int)
  cyc : Nat
  sending : Option (TxFrame × Nat)
  /-- TAI nanosecond at which the frame being sent began -/
  stamp : Nat
  /-- the launch gate has deferred the next frame and TX_GATE_HOLD has counted it -/
  gateHeld : Bool
  deriving DecidableEq, Repr

/-- A frame or record of a receive ring with its receive header (R302, R309). -/
structure RingEnt where
  hold : Nat
  status : Nat
  port : Nat
  tci : Nat
  wake : Nat
  sec : Nat
  ns : Nat
  bytes : List Byte
  deriving DecidableEq, Repr

/-- A receive ring (R300): its frames, how many of them the landing snapshot still holds, and how many bytes of the
first have been copied by an unfinished FRECV (R182). -/
structure SwRing where
  ents : List RingEnt
  snap : Nat
  rest : Option Nat
  deriving DecidableEq, Repr

/-- A learned address (R297): VLAN entry, address, port, absolute tick of its last refresh. -/
structure FdbEnt where
  v : Nat
  mac : Nat
  port : Nat
  since : Nat
  deriving DecidableEq, Repr

/-- A source entry of the PRP drop table (R310): address, last refresh, sequence numbers of its window, newest first. -/
structure PrpSrc where
  mac : Nat
  since : Nat
  seqs : List Nat
  deriving DecidableEq, Repr

/-- The frame switch beside its registers (chapter 12). -/
structure SwSt where
  /-- number of the next stored frame -/
  next : Nat
  holds : List (Nat × CellHold)
  ports : List (Nat × SwPort)
  rings : List (Nat × SwRing)
  fdb : List FdbEnt
  /-- PRP node table: address and last refresh -/
  nodes : List (Nat × Nat)
  drop : List PrpSrc
  /-- PRP sequence counter of pair B0/B1 and of pair B2/B3 -/
  prpSeq : List (Nat × Nat)
  /-- applied shutters that wait for cycle 0: port, SHUT_IN, SHUT_OUT (R314) -/
  shut : List (Nat × (Bool × Bool))
  /-- SHUT_IN and SHUT_OUT as partition 0 wrote them, waiting for the landing (R314) -/
  shutW : List (Nat × (Bool × Bool))
  /-- general timestamp entries, by port, to free at the next landing; PTP entries likewise -/
  freeTs : List Nat
  freePtp : List Nat
  deriving DecidableEq, Repr

/-- An Announce held for the best master clock algorithm (R319): priority1, clock class, accuracy, variance,
priority2, grandmaster, steps removed, sender's port identity, UTC offset, flags, absolute tick of receipt. -/
structure AnnRec where
  prio1 : Nat
  cls : Nat
  acc : Nat
  var : Nat
  prio2 : Nat
  gm : Nat
  steps : Nat
  sender : Nat
  senderPort : Nat
  utc : Nat
  flags : Nat
  since : Nat
  /-- announces received from this sender -/
  count : Nat
  deriving DecidableEq, Repr

/-- The time engine's memory of a port (R319): newest Announce, peer delay exchange (request's sequence number and
stamp, response's receive stamp and remote receive stamp), measured link delay, next sequence numbers. -/
structure PtpPort where
  ann : Option AnnRec
  reqSeq : Nat
  t1 : Option Nat
  t4 : Option (Nat × Nat)
  delay : Option Int
  seq : Nat
  deriving DecidableEq, Repr

/-- The time engine beside its registers (chapter 13). -/
structure TimeSt where
  /-- absolute tick of the last offset measurement (R326) -/
  lastOfs : Option Nat
  /-- m of the last measurement, its TAI nanosecond and the frequency estimate in ppt (R321) -/
  m : Int
  mAt : Nat
  /-- consecutive measurements with |m| ≤ 1 µs, and with |m| > 10 µs -/
  good : Nat
  bad : Nat
  /-- the accepted step: ns and the tick whose cycle 40,960 applies it (R326) -/
  step : Option (Int × Nat)
  /-- absolute tick of the last time the RTC was set from the counter (R323) -/
  rtcSet : Option Nat
  /-- absolute tick at which the present HOLDOVER began (R322) -/
  holdAt : Option Nat
  ports : List (Nat × PtpPort)
  deriving DecidableEq, Repr


/-- A CAN message buffer beside CAN_MB_STAT (R334, R340): its record, its shadow, the stamp and tick of the last frame, the
count of ticks at which that frame completed, and whether it has held a frame since the channel left OFF. -/
structure CanBuf where
  rcd : List Byte
  shadow : List Byte
  stamp : Word
  stampTick : Word
  since : Nat
  got : Bool
  deriving DecidableEq, Repr

/-- A CAN channel beside its registers (R331, R334). -/
structure CanCh where
  bufs : List (Nat × CanBuf)
  /-- buffer in transmission -/
  active : Option Nat
  /-- its partition has left RUNNING: the attempt is the last (R336) -/
  noRetry : Bool
  /-- MODE written and RECOVER written, both waiting for the landing -/
  modeW : Option Nat
  recoverW : Bool
  /-- point maps whose CAN_MAP_STALE has been logged (R343) -/
  stale : List Nat
  deriving DecidableEq, Repr

/-- A port's field power beside its registers (R357): whether its enable was true when last looked at, and the count of
ticks at which its present state began. -/
structure SpePort where
  en : Bool
  since : Nat
  deriving DecidableEq, Repr

/-- The SPE ports and the RS-485 channels (chapter 15): released UART frames by channel, with their stored frames. -/
structure SpeSt where
  ports : List (Nat × SpePort)
  uart : List (Nat × List (Nat × List Byte))
  deriving DecidableEq, Repr


/-- A safety input beside its registers (R367, R370, R371): latched faults, the first latched first, the filtered
state at the last tick edge, whether it passed its last check window, and the counts of ticks of its filtered
transitions. -/
structure SafeIn where
  lat : List Nat
  edge : Bool
  winOk : Bool
  trans : List Nat
  deriving DecidableEq, Repr

/-- A safety output beside its registers (R373, R376): the level the monitor commands, and the ticks a feedback mismatch
has lasted. -/
structure SafeOut where
  drive : Bool
  edm : Nat
  deriving DecidableEq, Repr

/-- A receive connection (R384 to R387): last accepted COUNT, tick count of the last acceptance, DATA and VALID accepted,
consecutive COUNTs with both copies equal, tick count at which fog mode began, the latched DIFFER and FOG_EXPIRED, and
whether the last comparison differed. -/
structure SafeRx where
  last : Option Nat
  since : Nat
  data : Word
  valid : Word
  run : Nat
  fog : Option Nat
  differ : Bool
  expired : Bool
  split : Bool
  deriving DecidableEq, Repr

/-- An entry of the safety change log (R390). -/
structure SafeLogEnt where
  abs : Word
  kind : Nat
  value : Word
  cert : Word
  deriving DecidableEq, Repr

/-- The safety functions beside their registers (chapter 16). -/
structure SafeSt where
  /-- the active configuration: its register words, and the words an APPLY has passed, with the certificate hash of the session, until the
  next tick (R388) -/
  act : Option (List (Nat × Word))
  next : Option (List (Nat × Word) × Word)
  ins : List (Nat × SafeIn)
  /-- filtered FB inputs -/
  fb : Nat
  outs : List (Nat × SafeOut)
  rx : List (Nat × SafeRx)
  /-- telegrams visible at the next landing: ring and bytes -/
  inbox : List (Nat × List Byte)
  /-- COUNT of the last publication -/
  txCount : Nat
  /-- point 8 at the last commit, and a rising edge that acts at the next landing (R379) -/
  point8 : Bool
  ackDue : Bool
  /-- the monitor's last self-test failed; the last tick period was outside its limits -/
  monBad : Bool
  tickBad : Bool
  /-- consecutive misses by task entry (R380) -/
  miss : List (Nat × Nat)
  /-- session that unlocked the configuration, and when (R389) -/
  unlock : Option (Nat × Nat)
  fails : Nat
  lockedAt : Option Nat
  /-- device salt and password hash; no hash in NOPW -/
  salt : List Byte
  hash : List Byte
  log : List SafeLogEnt
  /-- the last authorisation digest given (R233, R455) -/
  lastAuth : List Byte
  deriving DecidableEq, Repr


/-- A Mooring session or set-up (R531 to R535): role and partition, READY, the low 32 bits of the SHA-384 of the leaf
certificate, claim mode, the keys of the chain's root and of its leaf, TH2, the record keys, the sender's SEQ and the SEQ
values accepted, newest first, the tick counts of ACCEPT or READY and of the last record, the commands without a FINAL
response (REQ, CMD), the datagrams of a message so far with the index of its last and the tick count of the newest, and the client. -/
structure Session where
  role : Nat
  part : Nat
  ready : Bool
  cert : Word
  claim : Bool
  root : List Byte
  leaf : List Byte
  th2 : List Byte
  kcm : List Byte
  kmc : List Byte
  seqOut : Nat
  seqIn : List Nat
  began : Nat
  heard : Nat
  openReqs : List (Nat × Nat)
  frags : List (Nat × List Byte)
  fragLast : Nat
  fragAt : Nat
  path : MoorPath
  deriving DecidableEq, Repr

/-- A command authenticated and not yet in effect (R537): session, request, code, arguments. -/
structure MoorCmd where
  sess : Nat
  req : Nat
  code : Nat
  args : List Byte
  deriving DecidableEq, Repr

/-- Work of the module's own window of the asymmetric engine (R444): the signatures of an image header (R454), an attestation
report with its values (R455), a trust anchor signed under the old one (R453), the installation of a claimed anchor (R542): partition,
session, request, and the bytes it works on. -/
inductive MoorWork where
  | image (part sess req : Nat)
  | attest (sess req : Nat) (report : List Byte)
  | anchor (part sess req : Nat) (args : List Byte)
  | claim (part sess req : Nat) (code : List Byte)
  deriving DecidableEq, Repr

/-- Mooring (chapter 24): sessions and set-ups by identifier, OPEN messages incomplete by client (datagrams by index, index of the
last, tick count of the newest), commands that wait for the landing, relay entries by client, session, unit and tick count (R528), a
FREEZE-CONSENT that waits for the witness: session, request, tick count (R541), and the work waiting for window 7. -/
structure MoorSt where
  sessions : List (Nat × Session)
  opens : List (MoorPath × (List (Nat × List Byte) × (Nat × Nat)))
  cmds : List MoorCmd
  relays : List (MoorPath × Nat × Nat × Nat)
  freeze : Option (Nat × Nat × Nat)
  work : List MoorWork
  deriving DecidableEq, Repr


/-- A hawser subscription's memory (R412): values of the last GOOD landing, its tick count, and the source's tick. -/
structure SubSt where
  vals : List Word
  good : Option Nat
  stamp : Word
  deriving DecidableEq, Repr

/-- The hawser rings beside their registers (chapter 17). -/
structure HawSt where
  /-- beacons accepted in this tick, with the ring each came on (0 A, 1 B) -/
  beacons : List (Nat × Beacon)
  /-- beacon of the selected source accepted last, and whether one was accepted in the tick before -/
  source : Option (Nat × Beacon)
  /-- highest EPOCH accepted -/
  top : Option Nat
  /-- tick counts: last accepted ROOT beacon, first link UP -/
  rootAt : Option Nat
  upAt : Option Nat
  heard : Bool
  /-- tick count at which the enumeration in progress began -/
  enumAt : Option Nat
  /-- stored in KEEP: own address, upstream and downstream neighbour -/
  addr : Option Nat
  up : Option (Nat × Nat)
  down : Option (Nat × Nat)
  /-- takeover witness named by the last ASSIGN (R404) -/
  takeover : Option Nat
  /-- tick count of the last LH_CONFIRM of this standby, until answered -/
  confirm : Option Nat
  /-- exchange records held for their landing, with their ring -/
  px : List (Nat × ExRec)
  subs : List (Nat × SubSt)
  /-- SRC and SEQ of management packets delivered, newest first -/
  seen : List (Nat × Nat)
  seq : Nat
  /-- address of the lighthouse in the last ASSIGN -/
  lh : Option Nat
  deriving DecidableEq, Repr

/-- A coordinated change at the lighthouse (R234): named addresses with their partitions, tick of the PREPARE, answers
READY and ACK, tick x, whether COMMIT has been sent, tick of the last message, and the MULTI-CHANGE that waits. -/
structure Change where
  units : List (Nat × List Nat)
  began : Nat
  ready : List Nat
  x : Option Nat
  acks : List Nat
  committed : Bool
  sentAt : Nat
  reply : Option (Nat × Nat)
  deriving DecidableEq, Repr

/-- A named unit's part: tick x of GO, COMMIT received. -/
structure ChangeUnit where
  parts : List Nat
  x : Option Nat
  committed : Bool
  deriving DecidableEq, Repr

/-- Coordinated change (R234 to R237). -/
structure MultiSt where
  change : Option Change
  unit : Option ChangeUnit
  deriving DecidableEq, Repr


/-- A key with its attributes (R440): TYPE 0 is EMPTY. -/
structure VKey where
  type : Nat
  usage : Nat
  uses : Nat
  expReset : Bool
  key : List Byte
  deriving DecidableEq, Repr

/-- A key slot (R440, R445): active and pending half, the pending half verified, a commit that waits for cycle 40,960. -/
structure VSlot where
  act : VKey
  pend : VKey
  verified : Bool
  commit : Option VKey
  deriving DecidableEq, Repr

/-- An asymmetric request that waits for its partition's window (R444): operation, handle, DEST, PARAM and USES of the request
block, label, input and the bytes at AUX, the REPLY inbox or the Mooring command that gets the result, and the tick of the
request. -/
structure AsymReq where
  op : Nat
  handle : Nat
  dest : Nat
  param : Nat
  uses : Nat
  label : List Byte
  input : List Byte
  aux : List Byte
  reply : Nat
  moor : Option (Nat × Nat)
  since : Nat
  deriving DecidableEq, Repr

/-- A claim code (R542): the code, the tick count at which it was given, wrong codes presented. -/
structure ClaimCode where
  code : List Byte
  since : Nat
  wrong : Nat
  deriving DecidableEq, Repr

/-- The key vault (chapter 19). -/
structure VaultSt where
  slots : List (Nat × VSlot)
  /-- derived entries: entry i of partition n at 16 n + i -/
  drv : List (Nat × VKey)
  /-- tenancy counters -/
  ten : List (Nat × Nat)
  asym : List (Nat × AsymReq)
  /-- results for REPLY inboxes: absolute tick of the ferry, location, status and output -/
  results : List (Nat × Nat × Nat × List Byte)
  /-- trust anchors by partition: P-384 key, then ML-DSA-65 key; the owner's is partition 0's -/
  anchors : List (Nat × List Byte)
  /-- backup-domain key -/
  bk : List Byte
  /-- persistent slots as their KEEP records hold them, and the slots whose record is to be rewritten -/
  kept : List (Nat × VKey)
  keepDue : List Nat
  codes : List (Nat × ClaimCode)
  /-- root generations whose kill fuse is blown -/
  killed : List Nat
  /-- a key has been unsealed since power-good (R457) -/
  unsealed : Bool
  deriving DecidableEq, Repr


/-- A frame on the metrology link (R474, R475): type, sender's frame counter, body. -/
structure LinkFrame where
  type : Nat
  seq : Nat
  body : List Byte
  deriving DecidableEq, Repr

/-- An audit log entry of the metrology die (R471), without its CRC. -/
structure MetEntry where
  evcnt : Nat
  kind : Nat
  param : Nat
  opsec : Nat
  tai : Nat
  old : Nat
  new : Nat
  chk : Nat
  deriving DecidableEq, Repr

/-- What the metrology die keeps in its non-volatile memory at a store (R467). -/
structure MetStore where
  regs : List (Nat × Nat)
  evcnt : Nat
  log : List MetEntry
  deriving DecidableEq, Repr

/-- The metrology die (chapter 20). -/
structure MetDie where
  /-- its supply is present -/
  on : Bool
  /-- legal parameters by index (R469), and as the running interval uses them (R470) -/
  params : List Nat
  force : List Nat
  /-- energy registers: register r of element e at 6 e + r (R466) -/
  regs : List (Nat × Nat)
  evcnt : Nat
  log : List MetEntry
  /-- seal switch at CHANGE; cover open -/
  change : Bool
  cover : Bool
  /-- 100 ms intervals operated; OPSEC is a tenth of it -/
  ops : Nat
  interval : Nat
  /-- last TAI second received -/
  tai : Nat
  /-- test output: element and enable, as selected and as in force (R468) -/
  sel : Nat × Bool
  test : Nat × Bool
  fault : Bool
  nov : Bool
  /-- SW_CHK fixed at manufacture, identifier, serial number -/
  chk : Nat
  ident : List Byte
  serial : List Byte
  /-- operating record: supply losses, requests refused, frames discarded -/
  losses : Nat
  refused : Nat
  bad : Nat
  /-- frame counter -/
  seq : Nat
  kept : MetStore
  deriving DecidableEq, Repr

/-- The metrology section and its link (chapter 20). -/
structure MetSt where
  die : MetDie
  /-- frames on their way to the main die and to the metrology die -/
  toMain : List LinkFrame
  toDie : List LinkFrame
  /-- frames complete on the main die, for the next landing (R477) -/
  arrived : List LinkFrame
  /-- the last MEAS body and the tick count of the landing it became visible at -/
  meas : Option (List Byte × Nat)
  /-- the main die's copy of the log (R475) -/
  copy : List (List Byte)
  /-- the main die's frame counter -/
  seq : Nat
  deriving DecidableEq, Repr


/-- The whole state of the module. -/
structure State where
  /-- commands waiting, first in, first out -/
  pending : List Instr
  /-- the draw number of the next free value (the model's own counter) -/
  free : Nat
  /-- the system register file: registers that differ from their reset word, by address -/
  srf : List (Nat × Word)
  /-- lamp scratch and tile store, at the addresses of the read-out map (R524) -/
  mem : List Host.Cell
  /-- tick grid and swap -/
  tick : TickSt
  /-- lamp positions; an unlisted one is as after slot entry, idle -/
  lamps : List (Nat × Lamp)
  /-- partitions; an unlisted one holds nothing -/
  parts : List (Nat × PartSt)
  /-- tile store -/
  tiles : TileSt
  /-- engine positions -/
  eng : EngSt
  /-- loop slots -/
  clu : List (Nat × CluSlot)
  /-- sampled-value streams -/
  sv : List (Nat × SvStream)
  /-- trip datasets -/
  trip : List (Nat × TripSt)
  /-- errors and freeze -/
  err : ErrSt
  /-- start-up, life cycle and power -/
  boot : BootSt
  /-- pins -/
  pins : PinSt
  /-- backup domain -/
  rtc : RtcSt
  /-- twin pair -/
  twin : TwinSt
  /-- retained storage -/
  keep : KeepSt
  /-- messages sent in the present tick -/
  out : List Msg
  /-- frame switch -/
  sw : SwSt
  /-- time engine -/
  time : TimeSt
  /-- CAN channels -/
  can : List (Nat × CanCh)
  /-- single-pair Ethernet and RS-485 -/
  spe : SpeSt
  /-- safety functions -/
  safe : SafeSt
  /-- Mooring -/
  moor : MoorSt
  /-- hawser rings -/
  haw : HawSt
  /-- coordinated change -/
  multi : MultiSt
  /-- key vault -/
  vault : VaultSt
  /-- metrology section -/
  met : MetSt
  deriving DecidableEq, Repr

/-- A window after slot entry (R115). -/
def Window.empty : Window := ⟨.empty, 0, 0, false, 0, false⟩

/-- A lamp as slot entry leaves it (R99), with no task; g0 reads 0 and p0 reads 1 always (R141). -/
def Lamp.reset : Lamp where
  g := Vector.replicate 32 0
  acc := Vector.replicate 4 0
  p := Vector.replicate 8 false
  pc := 0
  loops := []
  win := Vector.replicate 8 Window.empty
  pend := none
  task := none
  lastPart := none
  lastEntry := 0
  chain := none

/-- A partition that holds nothing. -/
def PartSt.reset : PartSt where
  evPend := 0
  evSnap := 0
  ended := false
  ran := []
  ranNew := []
  xchgd := false
  endedEntries := []
  endedNow := []
  released := false
  served := false
  stored := []
  outboxes := []
  safe := []
  hdrs := []
  eff := []
  forces := []
  prog := none
  held := none
  distributing := false
  plans := []
  xchg := none
  received := none
  xfer := none
  xferTiles := []
  orphans := []
  coldLoad := none
  errq := ⟨[], false⟩
  stopReq := none
  endReq := false
  frames := []
  csends := []
  loopw := []
  trips := []
  barred := false
  startNow := false

/-- The tick grid before the first edge. -/
def TickSt.reset : TickSt := ⟨false, 0, 0, 0, false, none, true, 0, 0, false, 4, 0, false, none, [], 0, 0⟩
def TileSt.reset : TileSt := ⟨[], [], [], [], [], [], [], [], []⟩
def EngSt.reset : EngSt := ⟨4, [], [], [], [], [], none⟩
def ErrSt.reset : ErrSt := ⟨[], 0, false, none, 0, false, 0, 0⟩

def BootSt.reset : BootSt where
  down := false
  lcTo := none
  vfld := false
  vso := false
  serial := 0
  released := false
  standalone := false
  assigned := false
  notSeated := false
  cfg := none
  images := []
  toStart := []
  zero := []
  vref := false
  cages := []
  exAt := 0
  exSafed := 0
  exRefused := 0
  exBlink := false
  dipAt := 0
  strapTold := false
  retKeys := []
  cert := []
  act := []

def PinSt.reset : PinSt := ⟨[], true, [], []⟩
def RtcSt.reset : RtcSt := ⟨false, false, false, false⟩

def CluSlot.reset : CluSlot := ⟨List.replicate 64 0, List.replicate 64 0, List.replicate 64 0, 0, false, false, 0, 0, 0, false, none⟩
def TripSt.reset : TripSt := ⟨[], [], 0, 0, 0, false⟩
def TwinSt.reset : TwinSt := ⟨[], [], 0, [], [], none, none, 0, 0, none, none, 0, 0, [], [], [], [], []⟩
def RingSt.reset : RingSt := ⟨none, 0, false, 0, false, none, false⟩
def KeepSt.reset : KeepSt := ⟨[], [], [], [], [], [], [], [], false, (none, []), none, 0, 0⟩


def SwPort.reset : SwPort := ⟨[], [], [], [], [], 0, none, 0, false⟩
def SwRing.reset : SwRing := ⟨[], 0, none⟩
/-- Stored frames are numbered from 1. -/
def SwSt.reset : SwSt := ⟨1, [], [], [], [], [], [], [], [], [], [], []⟩
def PtpPort.reset : PtpPort := ⟨none, 0, none, none, none, 0⟩
def TimeSt.reset : TimeSt := ⟨none, 0, 0, 0, 0, none, none, none, []⟩
def CanBuf.reset : CanBuf := ⟨[], [], 0, 0, 0, false⟩
def CanCh.reset : CanCh := ⟨[], none, false, none, false, []⟩
def SafeIn.reset : SafeIn := ⟨[], false, false, []⟩
def SafeOut.reset : SafeOut := ⟨false, 0⟩
def SafeRx.reset : SafeRx := ⟨none, 0, 0, 0, 0, none, false, false, false⟩
def SafeSt.reset : SafeSt := ⟨none, none, [], 0, [], [], [], 0, false, false, false, false, [], none, 0, none, List.replicate 16 0, [], [], []⟩
def MoorSt.reset : MoorSt := ⟨[], [], [], [], none, []⟩
def HawSt.reset : HawSt := ⟨[], none, none, none, none, false, none, none, none, none, none, none, [], [], [], 0, none⟩
def MultiSt.reset : MultiSt := ⟨none, none⟩
def VKey.empty : VKey := ⟨0, 0, 0, false, []⟩
def VSlot.reset : VSlot := ⟨VKey.empty, VKey.empty, false, none⟩
def VaultSt.reset : VaultSt := ⟨[], [], [], [], [], [], [], [], [], [], [], false⟩
/-- The metrology die of a module that has left the factory: single-phase elements of 1 A on VA at 50 Hz, registers and
log empty (log entry 27). -/
def MetDie.reset : MetDie where
  on := true
  params := List.replicate 8 0 ++ List.replicate 24 1 ++ List.replicate 48 0 ++ [50]
  force := List.replicate 8 0 ++ List.replicate 24 1 ++ List.replicate 48 0 ++ [50]
  regs := []
  evcnt := 0
  log := []
  change := false
  cover := false
  ops := 0
  interval := 0
  tai := 0
  sel := (0, false)
  test := (0, false)
  fault := false
  nov := false
  chk := 0
  ident := List.replicate 16 0
  serial := List.replicate 8 0
  losses := 0
  refused := 0
  bad := 0
  seq := 0
  kept := ⟨[], 0, []⟩
def MetSt.reset : MetSt := ⟨MetDie.reset, [], [], [], none, [], 0⟩
/-- The machine right after reset: no command waits, every register reads its reset word, no memory cell is
listed, and every structure stands as the spec gives it for reset (log entries 1 and 2). -/
def State.reset : State where
  pending := []
  free := 0
  srf := []
  mem := []
  tick := TickSt.reset
  lamps := []
  parts := []
  tiles := TileSt.reset
  eng := EngSt.reset
  clu := []
  sv := []
  trip := []
  err := ErrSt.reset
  boot := BootSt.reset
  pins := PinSt.reset
  rtc := RtcSt.reset
  twin := TwinSt.reset
  keep := KeepSt.reset
  out := []
  sw := SwSt.reset
  time := TimeSt.reset
  can := []
  spe := ⟨[], []⟩
  safe := SafeSt.reset
  moor := MoorSt.reset
  haw := HawSt.reset
  multi := MultiSt.reset
  vault := VaultSt.reset
  met := MetSt.reset

end Sys2Proof.Machine
end

