-- ==== Sys2Proof/Machine/Ops.lean ====
section
/-!
DEFINITION. The named operations every meaning is built from: registers of the SRF, bytes of memory, lamps and
partitions, free values, error records and the freeze trigger.
-/
namespace Sys2Proof.Machine

/-! ### Registers -/

/-- The address names a register of this kind. -/
def RegRow.has (r : RegRow) (a : Nat) : Bool :=
  r.base ≤ a && (a - r.base) / r.s1 < r.c1 && ((a - r.base) % r.s1) % r.s2 == 0 && ((a - r.base) % r.s1) / r.s2 < r.c2

/-- The register kind an address names, if any. -/
def findReg (a : Nat) : Option RegRow := (regBlock a).find? (fun r => r.has a)

/-- The word a register holds after reset: the table's, but for ENG_LAMP_n, whose PHYS is n and whose STATE is SPARE
in the spare range of COUNT 4 (R136, R138), SAFE_SI_CFG_i of even i, whose DISC is 10 beside FILTER 30, and VAULT_SLOT_63, whose VALID is 1. -/
def resetWord (a : Nat) : Word :=
  if 0x20100 ≤ a ∧ a < 0x20200 then w32 ((a - 0x20100) / 4 + if 0x201F0 ≤ a then 0x10000 else 0)
  else if 0x70100 ≤ a ∧ a < 0x70200 ∧ a % 0x20 = 0 then w32 (10 * 2 ^ 18 + 30 * 2 ^ 8)
  else if a = 0xC01FC then 0x80000000
  else match findReg a with
    | some r => w32 r.reset
    | none => 0

/-- The register's word. -/
def State.reg (s : State) (a : Nat) : Word := dget resetWord s.srf a

/-- The register's word replaced. -/
def State.setReg (s : State) (a : Nat) (w : Word) : State := { s with srf := dput resetWord s.srf a w }

/-- A field of a register. -/
def State.fld (s : State) (a : Nat) (f : Fld) : Nat := f.get (s.reg a)

/-- A one-bit field of a register. -/
def State.flag (s : State) (a : Nat) (f : Fld) : Bool := s.fld a f != 0

/-- A field of a register replaced by the low bits of a value. -/
def State.setFld (s : State) (a : Nat) (f : Fld) (v : Nat) : State := s.setReg a (f.put (s.reg a) v)

/-- A one-bit field of a register set or cleared. -/
def State.setFlag (s : State) (a : Nat) (f : Fld) (b : Bool) : State := s.setFld a f (b2n b)

/-- A counter field of a register grown by one, saturating at a ceiling. -/
def State.incFld (s : State) (a : Nat) (f : Fld) (top : Nat) : State := s.setFld a f (satAdd (s.fld a f) 1 top)

/-! ### Memory -/

/-- The byte of memory that nothing has written: a location of the tile store holds the free seal (R128), whose CRC
over zeros is 0xA732_586E; lamp scratch holds zero (log entry 5). -/
def memReset (a : Nat) : Byte :=
  if 0x600000 ≤ a ∧ a < 0x1600000 then
    match a % 0x1000 with
    | 0xFFC => 0x6E
    | 0xFFD => 0x58
    | 0xFFE => 0x32
    | 0xFFF => 0xA7
    | _ => 0
  else 0

/-- Memory in its canonical form. -/
def Memory.wf (m : List Host.Cell) : Bool := dcanon memReset m

/-- One byte of memory. -/
def State.byte (s : State) (a : Nat) : Byte := dget memReset s.mem a

/-- `n` bytes of memory. -/
def State.bytes (s : State) (a n : Nat) : List Byte := dread memReset s.mem a n

/-- Bytes of memory replaced. -/
def State.setBytes (s : State) (a : Nat) (bs : List Byte) : State := { s with mem := bput memReset s.mem a bs }

/-- The non-zero bytes of a block of memory, by offset. -/
def State.block (s : State) (a n : Nat) : List (Nat × Byte) := sparse 0 0 (s.bytes a n)

/-- Where window w of lamp n, code page k of lamp n, and location L stand in memory (R524). -/
def winAddr (n w : Nat) : Nat := 0x18000 * n + 0x10000 + 0x1000 * w
def pageAddr (n k : Nat) : Nat := 0x18000 * n + 0x1000 * k
def tileAddr (loc : Nat) : Nat := 0x600000 + 0x1000 * loc

/-! ### Time -/

/-- Tick number (R89). -/
def State.tickNo (s : State) : Nat := s.tick.abs % 4800
/-- TAI second of the current tick (R89). -/
def State.taiSec (s : State) : Nat := s.tick.abs / 4800
/-- Low 32 bits of the absolute tick number. -/
def State.absLo (s : State) : Word := w32 s.tick.abs

/-- The CORE cycle of an event the command stream does not place in its tick: a free value below the length of the
longest tick (R91), log entry 3. -/
def State.someCycle (s : State) : Nat := Config.eventCycle s.free % 83333

/-- The RTC's prescaler count at an instant the command stream does not place in its second, a free value (log
entry 12). -/
def State.somePre (s : State) : Nat := Config.subSecond s.free % 32768

/-- The next draw of free values. -/
def State.draw (s : State) : State := { s with free := s.free + 1 }

/-! ### Lamps and partitions -/

def State.lamp (s : State) (n : Nat) : Lamp := tgetD s.lamps n Lamp.reset
def State.setLamp (s : State) (n : Nat) (x : Lamp) : State := { s with lamps := tput s.lamps n x }
def State.modLamp (s : State) (n : Nat) (f : Lamp → Lamp) : State := s.setLamp n (f (s.lamp n))
def State.part (s : State) (p : Nat) : PartSt := tgetD s.parts p PartSt.reset
def State.setPart (s : State) (p : Nat) (x : PartSt) : State := { s with parts := tput s.parts p x }
def State.modPart (s : State) (p : Nat) (f : PartSt → PartSt) : State := s.setPart p (f (s.part p))

/-- Partition states (ENG_PART_STAT_n.STATE). -/
abbrev psFree : Nat := 0
abbrev psIdle : Nat := 1
abbrev psStarting : Nat := 2
abbrev psRunning : Nat := 3
abbrev psStopped : Nat := 4
abbrev psZeroising : Nat := 5

def State.pstate (s : State) (p : Nat) : Nat := s.fld (R.ENG_PART_STAT p) F.ENG_PART_STAT_STATE
def State.setPstate (s : State) (p v : Nat) : State := s.setFld (R.ENG_PART_STAT p) F.ENG_PART_STAT_STATE v
def State.running (s : State) (p : Nat) : Bool := s.pstate p == psRunning

/-- A change to a partition's bindings that takes a resource from it is allowed (R153): it is FREE, IDLE or
STOPPED. -/
def State.mayWithdraw (s : State) (p : Nat) : Bool :=
  s.pstate p == psFree || s.pstate p == psIdle || s.pstate p == psStopped

/-! ### Error records (R507 to R516) -/

/-- What a record says, before its destination's SEQ (R507). `cycle` is none where the command stream does not place
the event in its tick. -/
structure RecIn where
  cls : Nat
  part : Nat
  engine : Nat
  cycle : Option Nat
  cycleHi : Nat
  handler : Bool
  address : Word
  detail : Dword
  deriving DecidableEq, Repr

/-- The record a `RecIn` makes at the present tick. -/
def State.mkRec (s : State) (r : RecIn) (isGlobal : Bool) : ErrRec where
  abs := s.absLo
  tick := s.tickNo
  part := r.part
  engine := r.engine
  cycle := r.cycle.getD s.someCycle
  cycleHi := r.cycleHi
  cls := r.cls
  isGlobal := isGlobal
  handler := r.handler
  masked := false
  seq := 0
  address := r.address
  detail := r.detail

/-- Offers a record to a partition's queue (R511, R512). -/
def State.offerQueue (s : State) (p : Nat) (r : ErrRec) : State :=
  let a := R.ERR_PQ_STAT p
  let seq := (s.fld a F.ERR_PQ_STAT_SEQ + 1) % 65536
  let s := s.setFld a F.ERR_PQ_STAT_SEQ seq
  let q := (s.part p).errq
  if 16 ≤ q.recs.length then (s.setFlag a F.ERR_PQ_STAT_OVF true).incFld a F.ERR_PQ_STAT_LOST 255
  else s.modPart p (fun x => { x with errq := { q with recs := q.recs ++ [{ r with seq := seq }] } })

/-- The record as the global log holds it: masked where its partition is neither 0 nor 0xFF (R510). -/
def maskRec (r : ErrRec) : ErrRec :=
  if r.part = 0 ∨ r.part = 0xFF then r else { r with address := 0, detail := 0, masked := true }

/-- Offers a record to the global log, a LOG_LOST record first where records have been lost (R516). -/
def State.offerGlobal (s : State) (r : ErrRec) : State :=
  let a := R.ERR_GSTAT
  let lost := s.fld a F.ERR_GSTAT_LOST
  let seq := (s.err.gseq + 1) % 65536
  let e := s.err
  let held := e.glob.length
  if lost = 0 then
    if 64 ≤ held then
      ({ s with err := { e with gseq := seq } }.setFlag a F.ERR_GSTAT_OVF true).incFld a F.ERR_GSTAT_LOST 255
    else { s with err := { e with gseq := seq, glob := e.glob ++ [⟨{ maskRec r with seq := seq }, false⟩] } }
  else if 62 < held then
    ({ s with err := { e with gseq := seq } }.setFlag a F.ERR_GSTAT_OVF true).incFld a F.ERR_GSTAT_LOST 255
  else
    let ll : ErrRec := ⟨r.abs, r.tick, 0xFF, 0xFF, r.cycle, 0, 18, true, false, false, seq, 0, BitVec.ofNat 64 lost⟩
    let seq2 := (seq + 1) % 65536
    let both : List GRec := [⟨ll, false⟩, ⟨{ maskRec r with seq := seq2 }, false⟩]
    let s : State := { s with err := { e with gseq := seq2, glob := e.glob ++ both } }
    s.setFld a F.ERR_GSTAT_LOST 0

/-- Enters a record in the destinations named (R508), without the freeze source of R517. -/
def State.enter (s : State) (r : RecIn) (queue : Option Nat) (glob : Bool) : State :=
  let rec0 := s.mkRec r glob
  let s := if r.cycle.isNone then s.draw else s
  let s := match queue with
    | some p => s.offerQueue p rec0
    | none => s
  if glob then s.offerGlobal rec0 else s

/-! ### Freeze (R517 to R521) -/

/-- Freeze is allowed by life cycle and consent (R518). -/
def State.freezeLife (s : State) : Bool :=
  s.fld R.ID_LC F.ID_LC_STATE == 3 ||
    (s.fld R.ID_LC F.ID_LC_STATE == 2 && s.flag R.ERR_FRZ_STAT F.ERR_FRZ_STAT_CONSENT)

/-- Nothing that bars a freeze is going on (R518): power is NORMAL, no extraction is past REQUESTED, no life-cycle
transition runs. -/
def State.freezeIdle (s : State) : Bool :=
  s.fld R.ID_PWR_STAT F.ID_PWR_STAT_PF_STATE == 0 && s.fld R.ID_EXTRACT F.ID_EXTRACT_STATE ≤ 1 && s.boot.lcTo.isNone

/-- The module has stopped sending: from COMMIT of a power-fail (R71), from SAFING of an extraction (R51), and after an unplanned
withdrawal (R56). -/
def State.txStopped (s : State) : Bool :=
  let x := s.fld R.ID_EXTRACT F.ID_EXTRACT_STATE
  2 ≤ s.fld R.ID_PWR_STAT F.ID_PWR_STAT_PF_STATE || x == 3 || x == 4 || x == 6

/-- The clock-independent path (R365): every safety output is off. -/
def State.safetyOff (s : State) : State := { s with pins := { s.pins with sq := [], sqHeld := true } }

/-- Every J1, J2 and cage output at its reset state and field power removed (R521). -/
def State.outputsReset (s : State) : State :=
  { s.safetyOff with pins := { s.safetyOff.pins with cageTx := [], pse := [] } }

/-- A freeze trigger of source `src` (R517, R518, R520, R521): ignored while frozen; accepted where freeze is
allowed; otherwise recorded as FREEZE_REFUSED with its cause, in the global log and, for BELAY, the partition's
queue. -/
def State.freezeTrigger (s : State) (src : Nat) (cycle : Option Nat) (part engine : Nat) : State :=
  if s.err.frozen then s
  else if s.freezeLife && s.freezeIdle then
    let c := cycle.getD s.someCycle
    let s := if cycle.isNone then s.draw else s
    let s := (s.setFld R.ERR_LAST_FRZ F.ERR_LAST_FRZ_SOURCE src).setFld R.ERR_LAST_FRZ F.ERR_LAST_FRZ_CYCLE c
    let s := s.setReg R.ERR_LAST_FRZ_ABS s.absLo
    let fr : FreezeRec := ⟨src, c, s.absLo, s.tickNo, s.reg R.RTC_TIME, s.reg R.RTC_DATE, s.somePre,
      s.reg R.RTC_STAT, s.reg R.RTC_ALM_CTRL, s.reg R.ERR_FRZ_STAT⟩
    let s := s.outputsReset.draw
    { s with err := { s.err with frozen := true, freeze := some fr } }
  else
    let cause := if s.freezeLife then 2 else 1
    let s := (s.incFld R.ERR_FRZ_STAT F.ERR_FRZ_STAT_REFUSED 65535).setFld R.ERR_FRZ_STAT F.ERR_FRZ_STAT_RCAUSE cause
    s.enter ⟨16, part, engine, cycle, 0, false, 0, BitVec.ofNat 64 (src + 256 * cause)⟩
      (if src = 4 then some part else none) true

/-- Writes an error record: it enters its destinations, and fires the error-class freeze source where that is enabled
for its class and partition (R507, R517). -/
def State.log (s : State) (r : RecIn) (queue : Option Nat) (glob : Bool) : State :=
  let s := s.enter r queue glob
  let c := s.reg R.ERR_FRZ_CLASS
  let pf := F.ERR_FRZ_CLASS_PART.get c
  if s.flag R.ERR_FRZ_CFG F.ERR_FRZ_CFG_CLASS_EN && bit (F.ERR_FRZ_CLASS_MASK.get c) r.cls && r.cls != 16
      && (pf == 0x80 || pf == r.part) then s.freezeTrigger 3 r.cycle r.part r.engine
  else s

/-- The DETAIL of an EVENT record: its code and its value (R509, R555). -/
def evDetail (code : Nat) (v : Nat) : Dword := BitVec.ofNat 64 (code + 2 ^ 32 * (v % 2 ^ 32))

/-- Logs an event in the global log (R509, R555): `part` is 0xFF where no partition is concerned, `v` and `v2` its
first and second values. -/
def State.event (s : State) (code : Nat) (part : Nat := 0xFF) (v : Nat := 0) (v2 : Nat := 0)
    (cycle : Option Nat := none) : State :=
  s.log ⟨17, part, 0xFF, cycle, 0, false, w32 v2, evDetail code v⟩ none true

/-- Logs an event in a partition's own queue (R509). -/
def State.eventQ (s : State) (code : Nat) (part : Nat) (v : Nat := 0) (v2 : Nat := 0) (hi : Nat := 0)
    (cycle : Option Nat := none) : State :=
  s.log ⟨17, part, 0xFF, cycle, hi, false, w32 v2, evDetail code v⟩ (some part) false

/-- The CORE domain runs: the module is neither frozen (R521) nor down (R71, R72). -/
def State.coreOn (s : State) : Bool := !s.err.frozen && !s.boot.down

/-- What a meaning answers. -/
abbrev Out := Host.Outcome State Fault Refusal

/-- The outcome of a command of the CORE domain: its effect, or nothing while CORE is stopped. -/
def State.onCore (s : State) (f : State → State) : Out :=
  .next (if s.coreOn then f s else s)

end Sys2Proof.Machine
end

