-- ==== Sys2Proof/Machine/Sw.lean ====
section
/-!
DEFINITION. The frame switch's stores (chapter 12): frame cells and their quotas, receive rings, egress queues, PRP pairs,
transmit stamps, and the frame formats the switch reads and writes.
-/
namespace Sys2Proof.Machine

def State.swPort (s : State) (p : Nat) : SwPort := tgetD s.sw.ports p SwPort.reset
def State.setSwPort (s : State) (p : Nat) (x : SwPort) : State := { s with sw := { s.sw with ports := tput s.sw.ports p x } }
def State.swRing (s : State) (r : Nat) : SwRing := tgetD s.sw.rings r SwRing.reset
def State.setSwRing (s : State) (r : Nat) (x : SwRing) : State := { s with sw := { s.sw with rings := tput s.sw.rings r x } }

/-- A binding register stands in effect: it is not an addition that waits for the next landing (R153). -/
def State.inEffect (s : State) (a : Nat) : Bool := !s.tick.fresh.contains a

/-- The partition a register word binds, by its VALID and PART at bits 31 and 30:24. -/
def boundPart (w : Word) : Option Nat := if w.getLsbD 31 then some (w.toNat / 2 ^ 24 % 128) else none

/-- A frame received or sent at a cage's port, whose LED goes dark for 50 ms (R63). -/
def State.portActive (s : State) (port : Nat) : State :=
  if port < 8 then { s with boot := { s.boot with act := tput s.boot.act port s.tick.count } } else s

/-! ### Port counters (R315) -/

abbrev cRX_FRAMES : Nat := 0
abbrev cRX_OCTETS : Nat := 1
abbrev cRX_UCAST : Nat := 2
abbrev cRX_MCAST : Nat := 3
abbrev cRX_FCS_ERR : Nat := 4
abbrev cRX_RUNT : Nat := 5
abbrev cRX_OVERSIZE : Nat := 6
abbrev cRX_CODE_ERR : Nat := 7
abbrev cRX_PAUSE : Nat := 8
abbrev cRX_VLAN_DROP : Nat := 9
abbrev cRX_QUOTA_DROP : Nat := 10
abbrev cRX_TRUNC : Nat := 11
abbrev cRX_TRUNC_OCTETS : Nat := 12
abbrev cRX_SHUT_DROP : Nat := 13
abbrev cRX_RSVD : Nat := 14
abbrev cRX_PTP : Nat := 15
abbrev cRX_SV : Nat := 16
abbrev cMGMT_RX : Nat := 17
abbrev cMGMT_DROP : Nat := 18
abbrev cSHUT_OK : Nat := 19
abbrev cSHUT_BAD : Nat := 20
abbrev cPRP_DUP : Nat := 21
abbrev cPRP_WRONG_LAN : Nat := 22
abbrev cPRP_NO_RCT : Nat := 23
abbrev cPRP_UNTRACKED : Nat := 24
abbrev cWAKE_MATCH : Nat := 25
abbrev cFDB_LEARN_DROP : Nat := 26
abbrev cTX_FRAMES : Nat := 27
abbrev cTX_OCTETS : Nat := 28
abbrev cTX_UCAST : Nat := 29
abbrev cTX_MCAST : Nat := 30
abbrev cTX_TRIP : Nat := 31
abbrev cTX_MGMT : Nat := 32
abbrev cTX_SEG : Nat := 33
abbrev cTX_DISCARD : Nat := 34
abbrev cTX_VLAN_DROP : Nat := 35
abbrev cTX_GATE_HOLD : Nat := 36
abbrev cTS_TAKEN : Nat := 37
abbrev cTS_LOST : Nat := 38
abbrev cLINK_DOWN : Nat := 39

/-- Counter i of port p grows, saturating at 0xFFFF_FFFF (R315). -/
def State.swCount (s : State) (p i : Nat) (d : Nat := 1) : State :=
  s.setReg (R.SW_CNT p i) (w32 (satAdd (s.reg (R.SW_CNT p i)).toNat d 0xFFFFFFFF))

/-! ### Cells (R292, R293) -/

/-- Cells a frame of `n` bytes without FCS takes. -/
def cellsFor (n : Nat) : Nat := (n + 255) / 256

/-- Cells charged to an owner. -/
def State.cellsOf (s : State) (o : CellOwner) : Nat :=
  s.sw.holds.foldl (fun a e => if e.2.owner = o then a + e.2.cells else a) 0

/-- Cells charged to all partitions. -/
def State.cellsCharged (s : State) : Nat :=
  s.sw.holds.foldl (fun a e => match e.2.owner with | .part _ => a + e.2.cells | _ => a) 0

/-- The cells an owner may hold (R292, R312). -/
def State.cellLimit (s : State) : CellOwner → Nat
  | .part p => s.fld (R.SW_CELLS p) F.SW_CELLS_LIMIT
  | .laneIn _ => 48
  | .laneOut _ => 16
  | .trip _ => 6
  | .time => 64

/-- Cells an owner has left. -/
def State.cellsFree (s : State) (o : CellOwner) : Nat := s.cellLimit o - s.cellsOf o

/-- A stored frame entered: its number and the state. -/
def State.newHold (s : State) (o : CellOwner) (cells refs : Nat) : Nat × State :=
  let n := s.sw.next
  (n, { s with sw := { s.sw with next := n + 1, holds := tput s.sw.holds n ⟨o, cells, refs⟩ } })

/-- The stored frame changed, if there is one. -/
def State.modHold (s : State) (n : Nat) (f : CellHold → CellHold) : State := match tget s.sw.holds n with
  | some h => { s with sw := { s.sw with holds := tput s.sw.holds n (f h) } }
  | none => s

/-- A destination of the stored frame has finished with it (R293); frame 0 is none. -/
def State.unref (s : State) (n : Nat) : State := s.modHold n (fun h => { h with refs := h.refs - 1 })
/-- A further destination. -/
def State.addRef (s : State) (n : Nat) : State := s.modHold n (fun h => { h with refs := h.refs + 1 })
/-- Every destination has finished. -/
def State.dropHold (s : State) (n : Nat) : State := s.modHold n (fun h => { h with refs := 0 })

/-- The landing: cells of frames every destination has finished with return to their quota (R293). -/
def State.freeCells (s : State) : State :=
  { s with sw := { s.sw with holds := s.sw.holds.filter (fun e => e.2.refs != 0) } }

/-! ### Frame formats -/

/-- The frame carries an 802.1Q tag. -/
def tagged (b : List Byte) : Bool := beNat (sub b 12 2) == 0x8100
/-- Its TCI. -/
def tciOf (b : List Byte) : Nat := beNat (sub b 14 2)
/-- Offset of its Ethertype. -/
def etherOff (b : List Byte) : Nat := if tagged b then 16 else 12
def etherType (b : List Byte) : Nat := beNat (sub b (etherOff b) 2)
def dstMac (b : List Byte) : Nat := beNat (sub b 0 6)
def srcMac (b : List Byte) : Nat := beNat (sub b 6 6)
/-- The destination is a multicast or broadcast address. -/
def isGroup (b : List Byte) : Bool := ((b.headD 0).toNat) % 2 == 1
/-- The frame without its tag, and with a tag. -/
def untag (b : List Byte) : List Byte := if tagged b then b.take 12 ++ b.drop 16 else b
def retag (b : List Byte) (tci : Nat) : List Byte := (untag b).take 12 ++ [0x81, 0x00] ++ beBytes 2 tci ++ (untag b).drop 12
/-- Padding to 64 bytes, FCS included (R304). -/
def padFrame (b : List Byte) : List Byte := b ++ List.replicate (60 - b.length) 0

/-- The LSDU size a redundancy control trailer carries: the bytes after the Ethertype, trailer included. -/
def lsduSize (b : List Byte) : Nat := (b.length - etherOff b - 2 + 6) % 4096
/-- The frame with a redundancy control trailer (R310); one that would exceed 9,216 bytes goes without. -/
def addRct (b : List Byte) (seq lan : Nat) : List Byte :=
  let b := padFrame b
  if 9216 < b.length + 6 + 4 then b
  else b ++ beBytes 2 seq ++ beBytes 2 (lan * 4096 + lsduSize b) ++ [0x88, 0xFB]
/-- SeqNr and LanId of a valid trailer. -/
def rctOf (b : List Byte) : Option (Nat × Nat) :=
  let t := b.drop (b.length - 6)
  let w := beNat (sub t 2 2)
  if b.length < 20 then none
  else if beNat (sub t 4 2) = 0x88FB ∧ w % 4096 = lsduSize (b.take (b.length - 6)) then some (beNat (sub t 0 2), w / 4096)
  else none

/-! ### Ports and pairs (R290, R310) -/

/-- The mode of the pair a port belongs to: 0 OFF, 1 PRP, 2 SPLIT_A, 3 SPLIT_B; OFF for a port of no pair. -/
def State.pairMode (s : State) (p : Nat) : Nat :=
  if p < 2 then s.fld R.SW_PRP F.SW_PRP_MODE_B01 else if p < 4 then s.fld R.SW_PRP F.SW_PRP_MODE_B23 else 0

/-- The port that stands for p: the lower port of a pair in a mode other than OFF. -/
def State.logical (s : State) (p : Nat) : Nat := if s.pairMode p = 0 then p else p / 2 * 2

/-- The module's base MAC address, and the address of port p (R290). -/
def State.macBase (s : State) : Nat := (s.reg R.SW_MAC_BASE_HI).toNat % 2 ^ 16 * 2 ^ 32 + (s.reg R.SW_MAC_BASE_LO).toNat
def State.portMac (s : State) (p : Nat) : Nat := (s.macBase + s.logical p) % 2 ^ 48

/-- The ports of the switch that stand for themselves, rising. -/
def State.logicalPorts (s : State) : List Nat := (List.range 40).filter (fun p => s.logical p == p)

/-- Rate of a port in Mbit/s: its link's, the tunnel lane's on ports 4–7 (R290, R395), 0 with the link down. -/
def State.portRate (s : State) (p : Nat) : Nat :=
  if s.flag (R.SW_PSTAT p) F.SW_PSTAT_LINK then
    if 4 ≤ p ∧ p < 8 then 3598
    else match s.fld (R.SW_PSTAT p) F.SW_PSTAT_SPEED with
      | 1 => 10
      | 2 => 1000
      | 3 => 10000
      | _ => 0
  else 0

/-! ### VLANs and queues (R296, R298, R303) -/

/-- VLAN entry v names port p as a member, and as an untagged egress port. -/
def State.vlanMember (s : State) (v p : Nat) : Bool :=
  let p := s.logical p
  if p < 32 then (s.reg (R.SW_VLAN_MEM v)).getLsbD p else (s.reg (R.SW_VLAN_HI v)).getLsbD (p - 32)
def State.vlanUntagged (s : State) (v p : Nat) : Bool :=
  let p := s.logical p
  if p < 32 then (s.reg (R.SW_VLAN_UNT v)).getLsbD p else (s.reg (R.SW_VLAN_HI v)).getLsbD (p - 32 + 8)
/-- The entry of a VID. -/
def State.vlanOf (s : State) (vid : Nat) : Option Nat := (List.range 256).find? (fun v =>
  s.flag (R.SW_VLAN_CTL v) F.SW_VLAN_CTL_VALID && s.inEffect (R.SW_VLAN_CTL v) && s.fld (R.SW_VLAN_CTL v) F.SW_VLAN_CTL_VID == vid)
def State.vlanPart (s : State) (v : Nat) : Nat := s.fld (R.SW_VLAN_CTL v) F.SW_VLAN_CTL_PART

/-- The partition that owns queue q of a port (R303). -/
def State.queueOwner (s : State) (p q : Nat) : Option Nat :=
  let a := R.SW_QCFG (s.logical p) q
  if s.flag a F.SW_QCFG_VALID && s.inEffect a then some (s.fld a F.SW_QCFG_PART) else none

/-- The queue a partition names by a handle: port and queue. -/
def State.queueOf (s : State) (p h : Nat) : Option (Nat × Nat) :=
  let all := s.logicalPorts.flatMap (fun port => (List.range 8).map (fun q => (port, q)))
  all.find? (fun (e : Nat × Nat) => s.queueOwner e.1 e.2 == some p && s.fld (R.SW_QCFG e.1 e.2) F.SW_QCFG_HANDLE == h)

/-- The ring a partition names by a handle. -/
def State.ringByHandle (s : State) (p h : Nat) : Option Nat := (List.range 512).find? (fun r =>
  s.flag (R.SW_RING r) F.SW_RING_VALID && s.inEffect (R.SW_RING r) && s.fld (R.SW_RING r) F.SW_RING_PART == p &&
    s.fld (R.SW_RING r) F.SW_RING_HANDLE == h)

/-! ### Receive rings (R300, R301, R309) -/

/-- A frame or record enters a ring; one that finds the partition not RUNNING or 1,024 held is discarded for the ring and
counted at `port` (R300, R301). -/
def State.ringPush (s : State) (r : Nat) (e : RingEnt) : State :=
  let x := s.swRing r
  if !s.running (s.fld (R.SW_RING r) F.SW_RING_PART) || 1024 ≤ x.ents.length then
    (if e.port < 40 then s.swCount e.port cRX_QUOTA_DROP else s).unref e.hold
  else s.setSwRing r { x with ents := x.ents ++ [e] }

/-- The first entry of a ring is consumed (R182). -/
def State.ringPop (s : State) (r : Nat) : State := match (s.swRing r).ents with
  | e :: t => (s.setSwRing r ⟨t, (s.swRing r).snap - 1, none⟩).unref e.hold
  | [] => s

/-- The frames held in a ring are discarded. -/
def State.ringClear (s : State) (r : Nat) : State :=
  ((s.swRing r).ents.foldl (fun s e => s.unref e.hold) s).setSwRing r SwRing.reset

/-- The rings of a partition. -/
def State.ringsOf (s : State) (p : Nat) : List Nat := (s.sw.rings.map (fun e => e.1)).filter (fun r =>
  s.flag (R.SW_RING r) F.SW_RING_VALID && s.fld (R.SW_RING r) F.SW_RING_PART == p)

/-- The partition enters STARTING: the frames held in its rings are discarded (R301). -/
def State.ringsStart (s : State) (p : Nat) : State := (s.ringsOf p).foldl (fun s r => s.ringClear r) s

/-- The landing's snapshot of every ring (R17). -/
def State.ringSnap (s : State) : State :=
  { s with sw := { s.sw with rings := s.sw.rings.map (fun e => (e.1, { e.2 with snap := e.2.ents.length })) } }

/-! ### Transmit stamps (R308, R309) -/

/-- The record of a frame sent with TS (R309). -/
def State.tsRecord (s : State) (port : Nat) (f : TxFrame) (t : TsReq) (stamp : Nat) (lost : Bool) : State :=
  let tci := if tagged f.bytes then tciOf f.bytes else s.fld (R.SW_PCFG port) F.SW_PCFG_PVID
  let body := leBytes 4 t.tag.toNat ++ List.replicate 12 0
  let s := if t.lost then s else { s with sw := { s.sw with freeTs := s.sw.freeTs ++ [port] } }
  let s := if t.lost then s else s.swCount port (if lost then cTS_LOST else cTS_TAKEN)
  let gone := lost || t.lost
  s.ringPush t.ring ⟨0, 2 + 4 * b2n gone, port, tci, 0, if gone then 0 else stamp / 1000000000 % 2 ^ 32,
    if gone then 0 else stamp % 1000000000, body⟩

/-- The stamp entry for a frame that enters queue q of a port with TS (R308): none where TS is ignored. -/
def State.takeTs (s : State) (port q : Nat) (tag : Word) : Option TsReq × State :=
  let a := R.SW_QTS (s.logical port) q
  if port < 8 ∧ s.flag a F.SW_QTS_EN then
    let used := s.fld (R.SW_TSQ port) F.SW_TSQ_GEN_USED
    if used < 56 then
      (some ⟨s.fld a F.SW_QTS_RING, tag, false⟩, s.setFld (R.SW_TSQ port) F.SW_TSQ_GEN_USED (used + 1))
    else (some ⟨s.fld a F.SW_QTS_RING, tag, true⟩, s.swCount port cTS_LOST)
  else (none, s)

/-- Entries whose records the landing delivers are free again (R308). -/
def State.freeStamps (s : State) : State :=
  let s := s.sw.freeTs.foldl (fun s p => s.setFld (R.SW_TSQ p) F.SW_TSQ_GEN_USED (s.fld (R.SW_TSQ p) F.SW_TSQ_GEN_USED - 1)) s
  let s := s.sw.freePtp.foldl (fun s p => s.setFld (R.SW_TSQ p) F.SW_TSQ_PTP_USED (s.fld (R.SW_TSQ p) F.SW_TSQ_PTP_USED - 1)) s
  { s with sw := { s.sw with freeTs := [], freePtp := [] } }

/-- The switch at a landing: cells, stamp entries, ring snapshots, and the SHUT bits that partition 0 wrote (R293, R308,
R17, R314). -/
def State.swLanding (s : State) : State :=
  let s := s.freeCells.freeStamps.ringSnap
  let s := s.sw.shutW.foldl (fun (s : State) (e : Nat × (Bool × Bool)) =>
    (s.setFlag (R.SW_PCFG e.1) F.SW_PCFG_SHUT_IN e.2.1).setFlag (R.SW_PCFG e.1) F.SW_PCFG_SHUT_OUT e.2.2) s
  { s with sw := { s.sw with shutW := [] } }

/-! ### Egress (R305, R308, R310) -/

/-- A frame is discarded at egress and counted in TX_DISCARD; one sent with TS gives a TS_LOST record (R305, R308). -/
def State.txDiscard (s : State) (port : Nat) (f : TxFrame) : State :=
  let s := (s.swCount port cTX_DISCARD).unref f.hold
  let s := match f.ptp with
    | some (.through _ _) | none => s
    | some _ => { s with sw := { s.sw with freePtp := s.sw.freePtp ++ [port] } }
  match f.ts with
  | some t => s.tsRecord port f t 0 true
  | none => s

/-- Queue q of a port: 8 the management lane, 9 the module's own frames, 7 on ports 0–3 the launcher's. -/
def SwPort.queue (x : SwPort) (port q : Nat) : List TxFrame :=
  if q = 8 then x.lane else if q = 9 then x.own else if q = 7 ∧ port < 4 then x.trip else tgetD x.queues q []
def SwPort.setQueue (x : SwPort) (port q : Nat) (l : List TxFrame) : SwPort :=
  if q = 8 then { x with lane := l } else if q = 9 then { x with own := l }
  else if q = 7 ∧ port < 4 then { x with trip := l }
  else { x with queues := if l = [] then tdel x.queues q else tput x.queues q l }

/-- A frame enters a queue of a physical port. -/
def State.putTx (s : State) (port q : Nat) (f : TxFrame) : State :=
  let x := s.swPort port
  (s.setSwPort port (x.setQueue port q (x.queue port q ++ [f]))).addRef f.hold

/-- Twin states (TWIN_STAT.STATE). -/
abbrev twNONE : Nat := 0
abbrev twJOINING : Nat := 1
abbrev twSTANDBY : Nat := 2
abbrev twSERVING : Nat := 3
abbrev twSOLO : Nat := 4
abbrev twSILENCED : Nat := 5
def State.twinState (s : State) : Nat := s.fld R.TWIN_STAT F.TWIN_STAT_STATE

/-- The pair's node address (R433). -/
def State.nodeMac (s : State) : Nat := (s.reg R.TWIN_NODE_HI).toNat % 2 ^ 16 * 2 ^ 32 + (s.reg R.TWIN_NODE_LO).toNat

/-- The next SeqNr of a pair's own counter (R310). -/
def State.pairSeq (s : State) (port : Nat) : Nat × State :=
  let n := tgetD s.sw.prpSeq (port / 2) 0
  (n, { s with sw := { s.sw with prpSeq := tput s.sw.prpSeq (port / 2) ((n + 1) % 65536) } })

/-- The ports of a split pair a twin sends on (R310, R420, R421): its own LAN's, both in SOLO, none while it is muted. -/
def State.splitPorts (s : State) (port : Nat) : List Nat :=
  let lo := port / 2 * 2
  let own := if s.pairMode port = 2 then lo else lo + 1
  match s.twinState with
  | 4 => [lo, lo + 1]
  | 1 | 2 | 5 => []
  | _ => [own]

/-- LanId of a port of a pair. -/
def lanId (port : Nat) : Nat := if port % 2 = 0 then 0xA else 0xB

/-- A frame released by a queue's owner or by the launcher enters queue q of a logical port (R287, R305, R310, R433): in PRP
mode a copy on both ports of the pair with the pair's SeqNr; on a split pair with the twin's SeqNr and the pair's
node address, on the ports the twin sends on, and with its place in the digest (R428). -/
def State.release (s : State) (port q hold : Nat) (bytes : List Byte) (ts : Option Word) (seg : Bool) : State :=
  let lo := port / 2 * 2
  match s.pairMode port with
  | 0 =>
    let r := match ts with | some tag => s.takeTs port q tag | none => (none, s)
    r.2.putTx port q ⟨hold, padFrame bytes, r.1, seg, none⟩
  | 1 =>
    let n := s.pairSeq lo
    let r := match ts with | some tag => n.2.takeTs lo q tag | none => (none, n.2)
    (r.2.putTx lo q ⟨hold, addRct bytes n.1 0xA, r.1, seg, none⟩).putTx (lo + 1) q
      ⟨hold, addRct bytes n.1 0xB, none, seg, none⟩
  | _ =>
    let i := s.twin.sent
    let s := { s with twin := { s.twin with sent := i + 1 } }
    if 32 ≤ i then
      (s.incFld R.TWIN_LANYARD F.TWIN_LANYARD_SEQ_OVER 255).swCount lo cTX_DISCARD
    else
      let seq := (32 * (s.tick.abs % 2048) + i) % 65536
      let b := sub bytes 0 6 ++ beBytes 6 s.nodeMac ++ bytes.drop 12
      let dg := leBytes 2 seq ++ leBytes 4 (crc32c b)
      let s := { s with twin := { s.twin with digest := s.twin.digest ++ dg } }
      let outs := s.splitPorts lo
      outs.foldl (fun s p =>
        let r := match ts with | some tag => if outs.head? = some p then s.takeTs p q tag else (none, s) | none => (none, s)
        r.2.putTx p q ⟨hold, addRct b seq (lanId p), r.1, seg, none⟩) s

/-- A frame forwarded into queue q of a logical port (R298, R310). -/
def State.forward (s : State) (port q hold : Nat) (bytes : List Byte) : State :=
  let lo := port / 2 * 2
  let m := s.pairMode port
  if m = 0 then s.putTx port q ⟨hold, padFrame bytes, none, false, none⟩
  else
    let n := s.pairSeq lo
    let outs := if m = 1 then [lo, lo + 1] else n.2.splitPorts lo
    outs.foldl (fun s p => s.putTx p q ⟨hold, addRct bytes n.1 (lanId p), none, false, none⟩) n.2

/-- A frame as it leaves a port of VLAN entry v: untagged where the entry says so, else tagged (R296). -/
def State.egressForm (s : State) (v port : Nat) (b : List Byte) (tci : Nat) : List Byte :=
  if s.vlanUntagged v port then untag b else retag b tci

end Sys2Proof.Machine
end

