-- ==== Sys2Proof/Machine/Lamp.lean ====
section
/-!
DEFINITION. A lamp's registers, the words of its instructions, its exceptions, the end of a task, the stop of a
partition, and how an instruction is issued.
-/
namespace Sys2Proof.Machine

/-! ### Registers (R141) -/

/-- Register i of lamp l; g0 reads zero. -/
def State.g (s : State) (l : Nat) (i : Fin 32) : Word := if i = 0 then 0 else (s.lamp l).g[i]

/-- Register i written; a write of g0 is discarded. -/
def State.setG (s : State) (l : Nat) (i : Fin 32) (w : Word) : State :=
  if i = 0 then s else s.modLamp l (fun x => { x with g := x.g.set i w })

/-- Predicate i; p0 reads 1. -/
def State.pr (s : State) (l : Nat) (i : Fin 8) : Bool := if i = 0 then true else (s.lamp l).p[i]

/-- Predicate i written; a write of p0 is discarded. -/
def State.setP (s : State) (l : Nat) (i : Fin 8) (b : Bool) : State :=
  if i = 0 then s else s.modLamp l (fun x => { x with p := x.p.set i b })

def State.acc (s : State) (l : Nat) (i : Fin 4) : Dword := (s.lamp l).acc[i]
def State.setAcc (s : State) (l : Nat) (i : Fin 4) (v : Dword) : State :=
  s.modLamp l (fun x => { x with acc := x.acc.set i v })

def State.setWin (s : State) (l : Nat) (w : Fin 8) (x : Window) : State :=
  s.modLamp l (fun y => { y with win := y.win.set w x })

/-- The condition of a predicate field (R164). -/
def State.takes (s : State) (l : Nat) (q : PQ) : Bool := s.pr l q.p != q.n

/-! ### Instruction words (R163), for the records of exceptions -/

def pqBits (q : PQ) : Nat := q.p.val + 8 * b2n q.n
/-- Format A. -/
def wordA (op rd ra rb fn : Nat) (q : PQ) : Word :=
  w32 (op * 2 ^ 26 + rd * 2 ^ 21 + ra * 2 ^ 16 + rb * 2 ^ 11 + fn * 16 + pqBits q)
/-- Format A, scan layout. -/
def wordScan (op pd ps ra rb fn : Nat) (q : PQ) : Word :=
  w32 (op * 2 ^ 26 + pd * 2 ^ 23 + ps * 2 ^ 20 + ra * 2 ^ 15 + rb * 2 ^ 10 + fn * 16 + pqBits q)
/-- Formats I and M. -/
def wordI (op rd ra imm : Nat) (q : PQ) : Word :=
  w32 (op * 2 ^ 26 + rd * 2 ^ 21 + ra * 2 ^ 16 + imm * 16 + pqBits q)
/-- Format B of BR. -/
def wordBR (off : Nat) (q : PQ) : Word := w32 (0x10 * 2 ^ 26 + off * 16 + pqBits q)
/-- Format B of LOOPI. -/
def wordLoopI (count body : Nat) (q : PQ) : Word := w32 (0x11 * 2 ^ 26 + count * 2 ^ 14 + body * 16 + pqBits q)
/-- Format X, word 0. -/
def wordX (op rd f17 : Nat) (q : PQ) : Word := w32 (op * 2 ^ 26 + rd * 2 ^ 21 + f17 * 16 + pqBits q)
/-- Format T. -/
def wordT (pd w loc sub : Nat) (q : PQ) : Word :=
  w32 (0x28 * 2 ^ 26 + pd * 2 ^ 23 + w * 2 ^ 20 + loc * 2 ^ 8 + sub * 16 + pqBits q)
/-- Format S. -/
def wordS (gx ra sfn code : Nat) (q : PQ) : Word :=
  w32 (0x38 * 2 ^ 26 + gx * 2 ^ 21 + ra * 2 ^ 16 + sfn * 2 ^ 12 + code * 16 + pqBits q)

/-! ### Stopping a partition (R154, R218, R561) -/

/-- A lamp's task is abandoned: the lamp idles until the slot ends, and an open frame chain is discarded. An
operation in flight stays with the tile unit (R218 step 2). -/
def State.dropTask (s : State) (l : Nat) : State :=
  let s := match (s.lamp l).chain with
    | some c => s.dropHold c.hold
    | none => s
  s.modLamp l (fun x => { x with task := none, chain := none, loops := [] })

/-- The lamps on which a task of partition p runs. -/
def State.lampsOf (s : State) (p : Nat) : List Nat :=
  (s.lamps.filter (fun e => match e.2.task with | some t => t.part == p | none => false)).map (fun e => e.1)

/-- Every task of partition p is abandoned and no further slot of p starts in this tick (R218 step 1). -/
def State.abandonPart (s : State) (p : Nat) : State :=
  ((s.lampsOf p).foldl (fun t l => t.dropTask l) s).modPart p (fun x => { x with barred := true })

/-- The cause is a fault of R561. -/
def StopReq.isFault : StopReq → Bool
  | .command | .restart => false
  | _ => true

/-- A stop of partition p is established in this tick; it takes effect at the launch. A fault prevails over a
command (R561), a START or RESTART of the same tick being refused, and the first fault of a tick stands. -/
def State.askStop (s : State) (p : Nat) (c : StopReq) : State :=
  if s.pstate p == psStarting || s.pstate p == psRunning then
    let old := (s.part p).stopReq
    if (match old with | some o => o.isFault | none => false) then s
    else
      let refused := c.isFault && (old == some .restart || (s.part p).startNow)
      let s := s.modPart p (fun x => { x with stopReq := some c, startNow := if refused then false else x.startNow })
      if refused then s.event Ev.CMD_REFUSED p else s
  else s

/-- A partition stops for a fault within its own tasks: tasks abandoned, safe values at the launch (R218). -/
def State.faultStop (s : State) (p : Nat) (c : StopReq) : State := (s.askStop p c).abandonPart p

/-! ### Exceptions (R165, R507, R515) -/

/-- The DETAIL of an instruction's record (R508): the word, the byte that names the cause, the location. -/
def insDetail (word : Word) (b4 loc : Nat) : Dword :=
  BitVec.ofNat 64 (word.toNat + 2 ^ 32 * (b4 % 256) + 2 ^ 40 * (loc % 65536))

/-- An exception record of class `cls` of the task on lamp l, at a free cycle. One of classes 1 to 10 that the error
handler raises is a double fault (R515). -/
def State.raise (s : State) (l : Nat) (cls : Nat) (word : Word) (b4 loc : Nat) (addr : Nat) : State :=
  match (s.lamp l).task with
  | none => s
  | some t =>
    let r : RecIn := ⟨cls, t.part, l, none, 0, t.handler, w32 addr, insDetail word b4 loc⟩
    if t.handler && cls ≤ 10 then
      let s := s.log r (some t.part) true
      let d : RecIn := ⟨14, t.part, l, none, 0, false, 0, BitVec.ofNat 64 (cls + 256 * t.entry)⟩
      (s.log d (some t.part) true).faultStop t.part .doubleFault
    else s.log r (some t.part) false

/-- Class codes (R508). -/
abbrev cILL : Nat := 1
abbrev cPRIV : Nat := 2
abbrev cFETCH : Nat := 3
abbrev cADDR : Nat := 4
abbrev cALIGN : Nat := 5
abbrev cSEAL : Nat := 6
abbrev cBOUND : Nat := 7
abbrev cINST : Nat := 8
abbrev cMSG : Nat := 9
abbrev cOWN : Nat := 10
abbrev cTRAP : Nat := 11

/-- The task on lamp l ends for the rest of its slot; a frame chain still open is discarded and raises MSG with
status CHAIN (R182, R165). -/
def State.endTask (s : State) (l : Nat) (word : Word) : State :=
  let s := match (s.lamp l).chain with
    | some _ => s.raise l cMSG word 8 0 (s.lamp l).pc
    | none => s
  s.dropTask l

/-- An exception after which the task is abandoned as after ENDSLOT (ILL, PRIV, FETCH). -/
def State.kill (s : State) (l : Nat) (cls : Nat) (word : Word) (addr : Nat) : State :=
  (s.raise l cls word 0 0 addr).endTask l word

/-! ### Issue -/

/-- The PC moves past an instruction of `len` words. At the end of the innermost loop's body the level counts down
and the body starts again, or the level ends (R172). -/
def Lamp.advance (x : Lamp) (len : Nat) : Lamp :=
  let pc := x.pc + len
  match x.loops with
  | lv :: rest =>
    if pc = lv.after then
      if 1 < lv.remaining then { x with pc := lv.first, loops := { lv with remaining := lv.remaining - 1 } :: rest }
      else { x with pc := pc, loops := rest }
    else { x with pc := pc }
  | [] => { x with pc := pc }

/-- As `Lamp.advance`, while the lamp still runs a task. -/
def State.advance (s : State) (l : Nat) (len : Nat) : State :=
  if (s.lamp l).task.isSome then s.modLamp l (fun x => x.advance len) else s

/-- An instruction of `len` words whose last word would end the innermost loop's body. -/
def Lamp.atBodyEnd (x : Lamp) (len : Nat) : Bool :=
  match x.loops with
  | lv :: _ => x.pc + len == lv.after
  | [] => false

end Sys2Proof.Machine
end

