-- ==== Sys2Proof/Machine/Tiles.lean ====
section
/-!
DEFINITION. The tile store (chapter 5): directory, seals, load checks, whole-tile writes, the completion of a lamp's
tile operation, repair, allocation, scrubbing and mailbox pairings.
-/
namespace Sys2Proof.Machine

/-! ### Kinds, flags and places (R109, R110) -/

abbrev kFREE : Nat := 0
abbrev kCODE : Nat := 1
abbrev kDATA : Nat := 2
abbrev kIMAGE : Nat := 3
abbrev kMAILBOX : Nat := 4
abbrev kLOOP : Nat := 5
abbrev kRETAIN : Nat := 6
abbrev kSHADOW : Nat := 7
abbrev kTRIP : Nat := 8

abbrev fPRECIOUS : Nat := 0
abbrev fMIRROR : Nat := 1
abbrev fSOF : Nat := 2
abbrev fOUTPUT : Nat := 3
abbrev fOUTBOX : Nat := 4
abbrev fSAFETY : Nat := 5

/-- Causes of a failed load or store (R134). -/
abbrev wcOWNER : Nat := 1
abbrev wcKIND : Nat := 2
abbrev wcCRC : Nat := 3
abbrev wcFORMAT : Nat := 4
abbrev wcIDENT : Nat := 5
abbrev wcSTALE : Nat := 6
abbrev wcREPAIRING : Nat := 7

def State.dirValid (s : State) (loc : Nat) : Bool := s.flag (R.TS_DIR_CTL loc) F.TS_DIR_CTL_VALID
def State.dirOwner (s : State) (loc : Nat) : Nat := s.fld (R.TS_DIR_CTL loc) F.TS_DIR_CTL_OWNER
def State.dirKind (s : State) (loc : Nat) : Nat := s.fld (R.TS_DIR_CTL loc) F.TS_DIR_CTL_KIND
def State.dirState (s : State) (loc : Nat) : Nat := s.fld (R.TS_DIR_CTL loc) F.TS_DIR_CTL_STATE
def State.dirAct (s : State) (loc : Nat) : Bool := s.flag (R.TS_DIR_CTL loc) F.TS_DIR_CTL_ACT
def State.dirFlags (s : State) (loc : Nat) : Nat := s.fld (R.TS_DIR_CTL loc) F.TS_DIR_CTL_FLAGS
def State.dirFlag (s : State) (loc f : Nat) : Bool := bit (s.dirFlags loc) f
def State.dirIdent (s : State) (loc : Nat) : Nat := (s.reg (R.TS_DIR_ID loc)).toNat
def State.dirGen (s : State) (loc : Nat) : Word := s.reg (R.TS_DIR_GEN loc)

/-- The other location of a pair: LINK in the partner bank (R121, R129). -/
def State.linkLoc (s : State) (loc : Nat) : Nat :=
  64 * ((loc / 64 + 32) % 64) + s.fld (R.TS_DIR_CTL loc) F.TS_DIR_CTL_LINK

/-- The entry is an inbox: a MAILBOX tile with OUTBOX clear. -/
def State.isInbox (s : State) (loc : Nat) : Bool :=
  s.dirValid loc && s.dirKind loc == kMAILBOX && !s.dirFlag loc fOUTBOX

/-- The entry is the twin copy of a precious tile. -/
def State.isTwinCopy (s : State) (loc : Nat) : Bool :=
  s.dirValid loc && s.dirFlag loc fPRECIOUS && !s.dirAct loc

/-- The location a TLOAD of L reads: the active location of an inbox pair (R132), else L. -/
def State.activeLoc (s : State) (loc : Nat) : Nat :=
  if s.isInbox loc && !s.dirAct loc then s.linkLoc loc else loc

/-- The allocated locations, rising. -/
def State.allocated (s : State) : List Nat :=
  (s.srf.filter (fun e => 0x14000 ≤ e.1 && e.1 < 0x18000 && e.2.getLsbD 31)).map (fun e => (e.1 - 0x14000) / 4)

/-- The location allocated under an identifier that is not a twin copy or inactive inbox location. -/
def State.findIdent (s : State) (ident : Nat) : Option Nat :=
  s.allocated.find? (fun loc => s.dirIdent loc == ident && s.dirAct loc)

/-- The flags a kind permits (R110). -/
def flagsOk (kind flags : Nat) : Bool :=
  let out := bit flags fOUTPUT
  let pr := kind == kCODE || kind == kDATA || (kind == kIMAGE && out) || kind == kLOOP || kind == kRETAIN || kind == kTRIP
  (!bit flags fPRECIOUS || pr) &&
  (!bit flags fMIRROR || kind == kDATA || kind == kLOOP || kind == kRETAIN) &&
  (!bit flags fSOF || kind == kRETAIN) && (!out || kind == kIMAGE) && (!bit flags fOUTBOX || kind == kMAILBOX) &&
  (!bit flags fSAFETY || kind == kDATA || kind == kIMAGE || kind == kMAILBOX || kind == kRETAIN)

/-! ### Seals (R106 to R108, R128) -/

/-- The 32 bytes of a seal less its CRC. -/
def sealHead (owner kind flags : Nat) (ident : Nat) (gen pkey : Word) : List Byte :=
  leBytes 1 owner ++ leBytes 1 kind ++ leBytes 2 flags ++ leBytes 4 ident ++ leBytes 4 gen.toNat ++ leBytes 4 pkey.toNat
    ++ List.replicate 12 0

/-- A whole tile: a payload of 4064 bytes and its seal with the CRC (R106, R107). -/
def sealTile (payload : List Byte) (owner kind flags ident : Nat) (gen pkey : Word) : List Byte :=
  let b := sub payload 0 4064 ++ sealHead owner kind flags ident gen pkey
  b ++ leBytes 4 (crc32c b)

/-- The partition's program key (R108). -/
def State.pkey (s : State) (p : Nat) : Word := match (s.part p).prog with
  | some g => g.image.pkey
  | none => 0

/-- The first of checks 3 to 6 of R116 that a tile's bytes fail against a directory entry. -/
def checkBytes (b : List Byte) (owner kind flags ident : Nat) (gen : Word) : Option Nat :=
  if crc32c (b.take 4092) ≠ leAt b 4092 4 then some wcCRC
  else if leAt b 4080 12 ≠ 0 ∨ kTRIP < leAt b 4065 1 ∨ 127 < leAt b 4064 1 ∨ 128 ≤ leAt b 4066 2 then some wcFORMAT
  else if leAt b 4064 1 ≠ owner ∨ leAt b 4065 1 ≠ kind ∨ leAt b 4066 2 % 64 ≠ flags ∨ leAt b 4068 4 ≠ ident then
    some wcIDENT
  else if leAt b 4072 4 ≠ gen.toNat then some wcSTALE
  else none

/-- The free seal with its zero payload (R128). -/
def freeTile : List Byte := List.replicate 4092 0 ++ [0x6E, 0x58, 0x32, 0xA7]

/-- Checks 3 to 6 on a location (R116), or the byte for byte check of a free one (R123). -/
def State.sealFail (s : State) (loc : Nat) : Option Nat :=
  let b := s.bytes (tileAddr loc) 4096
  if s.tiles.dirBad.contains loc then some wcIDENT
  else if s.dirValid loc then checkBytes b (s.dirOwner loc) (s.dirKind loc) (s.dirFlags loc) (s.dirIdent loc) (s.dirGen loc)
  else if b = freeTile then none else some wcCRC

/-! ### Entering and leaving repair (R124, R127) -/

def State.bankQ (s : State) (b : Nat) : List Nat := tgetD s.tiles.repairQ b []
def State.setBankQ (s : State) (b : Nat) (q : List Nat) : State :=
  { s with tiles := { s.tiles with repairQ := tput s.tiles.repairQ b q } }
def State.steps (s : State) (b : Nat) : List StepCmd := tgetD s.tiles.steps b []
def State.setSteps (s : State) (b : Nat) (q : List StepCmd) : State :=
  { s with tiles := { s.tiles with steps := tput s.tiles.steps b q } }

/-- Something is bound to an input image by its SOURCE (R205, R200): SAFE's local image or receive connections, subscriptions, meter
elements, SPE ports; every point of a CAN image is written (R344), and an ECHO image has its output image. -/
def State.sourceBound (s : State) (loc source : Nat) : Bool :=
  let safe (a : Nat) (f : Fld) : Nat := f.get (dget resetWord (s.safe.act.getD []) a)
  match source with
  | 0 => s.safe.act.isSome && safe R.SAFE_IMG F.SAFE_IMG_IN_LOC == loc
  | 1 => (s.safe.act.isSome && (List.range 32).any (fun c =>
        safe (R.SAFE_RX_CFG c) F.SAFE_RX_CFG_VALID == 1 && safe (R.SAFE_RX_CFG c) F.SAFE_RX_CFG_LOC == loc)) ||
      (List.range 512).any (fun n => s.flag (R.HAW_SUB_CTL n) F.HAW_SUB_CTL_VALID && s.inEffect (R.HAW_SUB_CTL n) &&
        s.fld (R.HAW_SUB_CTL n) F.HAW_SUB_CTL_LOC == loc)
  | 2 | 3 => true
  | 4 => (List.range 24).any (fun e => (s.reg (R.METL_ASSIGN e)).getLsbD 31 && s.inEffect (R.METL_ASSIGN e) &&
      s.fld (R.METL_ASSIGN e) F.METL_ASSIGN_LOC == loc)
  | 5 => (List.range 32).any (fun n => (s.reg (R.SPE_SMAP n)).getLsbD 31 && s.inEffect (R.SPE_SMAP n) &&
      (s.reg (R.SPE_SMAP n)).toNat / 2 ^ 19 % 4096 == loc)
  | _ => false

/-- The input image is written at every landing (R205, R274): its partition distributes and its source is bound,
or it is the image of a sampled-value stream. -/
def State.distributed (s : State) (loc : Nat) : Bool :=
  s.dirKind loc == kIMAGE && !s.dirFlag loc fOUTPUT && (match tget (s.part (s.dirOwner loc)).hdrs loc with
    | some h => h.layout == 3 || ((s.part (s.dirOwner loc)).distributing && s.sourceBound loc h.source)
    | none => false)

/-- A location fails a check that starts repair (R124): it becomes REPAIRING and joins its bank's queue, unless
distribution will rewrite it. -/
def State.startRepair (s : State) (loc : Nat) : State :=
  if s.dirState loc == 1 then s
  else
    let b := loc / 64
    let s := (s.incFld (R.TS_BANK_STAT b) F.TS_BANK_STAT_FAILS 255).setFld (R.TS_BANK_STAT b) F.TS_BANK_STAT_LAST (loc % 64)
    let s := s.setFld (R.TS_DIR_CTL loc) F.TS_DIR_CTL_STATE 1
    let s := s.incFld R.TS_REPAIR_STAT F.TS_REPAIR_STAT_PENDING 4096
    if s.distributed loc then s else s.setBankQ b (s.bankQ b ++ [loc])

/-- A twin copy that waited for its primary joins the tail of its bank's queue (R560). -/
def State.rejoin (s : State) (loc : Nat) : State :=
  if s.tiles.waiting.contains loc then
    let s := { s with tiles := { s.tiles with waiting := s.tiles.waiting.filter (fun x => x != loc) } }
    s.setBankQ (loc / 64) (s.bankQ (loc / 64) ++ [loc])
  else s

/-- A location's repair ends with STATE OK. -/
def State.repairDone (s : State) (loc : Nat) : State :=
  let b := loc / 64
  let s := s.setBankQ b ((s.bankQ b).filter (fun x => x != loc))
  let s := s.setFld (R.TS_DIR_CTL loc) F.TS_DIR_CTL_STATE 0
  let s := s.setFld R.TS_REPAIR_STAT F.TS_REPAIR_STAT_PENDING (s.fld R.TS_REPAIR_STAT F.TS_REPAIR_STAT_PENDING - 1)
  let t := s.tiles
  let s := { s with tiles := { t with failed := tdel t.failed loc,
                                      dirBad := t.dirBad.filter (fun x => x != loc),
                                      repairBuf := t.repairBuf.filter (fun e => e.2.loc != loc),
                                      waiting := t.waiting.filter (fun x => x != loc) } }
  if s.dirFlag loc fPRECIOUS && s.dirAct loc then s.rejoin (s.linkLoc loc) else s

/-- A whole-tile write to a location under repair ends the repair (R127). -/
def State.supersede (s : State) (loc : Nat) : State :=
  if s.dirState loc == 1 then (s.repairDone loc).event Ev.REPAIR_SUPERSEDED (s.dirOwner loc) else s

/-! ### Whole-tile writes (R119, R121) -/

/-- The tile's bytes are written to a location and, for a primary of a precious tile, to its twin copy, with the
directory's generation (R119, R121). -/
def State.putTile (s : State) (loc : Nat) (b : List Byte) (gen : Word) : State :=
  let s := (s.setBytes (tileAddr loc) b).setReg (R.TS_DIR_GEN loc) gen
  if s.dirFlag loc fPRECIOUS && s.dirAct loc then
    let c := s.linkLoc loc
    let s := (s.setBytes (tileAddr c) b).setReg (R.TS_DIR_GEN c) gen
    if s.dirState c == 1 then s.repairDone c else s
  else s

/-- The module seals a location afresh with a payload (R108): GEN + 1, the owner's program key, RESTORED as given. -/
def State.sealWrite (s : State) (loc : Nat) (payload : List Byte) (restored : Bool) : State :=
  let gen := s.dirGen loc + 1
  let b := sealTile payload (s.dirOwner loc) (s.dirKind loc) (s.dirFlags loc + 64 * b2n restored) (s.dirIdent loc) gen
    (s.pkey (s.dirOwner loc))
  s.putTile loc b gen

/-- A whole-tile write by the module or a store, superseding a repair (R127). -/
def State.storeTile (s : State) (loc : Nat) (payload : List Byte) : State := (s.sealWrite loc payload false).supersede loc

/-- The payload of a location as stored. -/
def State.payload (s : State) (loc : Nat) : List Byte := s.bytes (tileAddr loc) 4064

/-! ### What a completed store is noted for -/

/-- The dataset a TRIP tile is bound to (R283), if any. -/
def State.tripOf (s : State) (loc : Nat) : Option Nat :=
  (List.range 64).find? (fun j => s.fld (R.SV_TRIP_CFG j) F.SV_TRIP_CFG_STATE != 0 &&
    s.fld (R.SV_TRIP_CFG j) F.SV_TRIP_CFG_LOC == loc)

/-- A completed store by a task: an output image counts as stored since RUNNING (R155), an outbox is ferried at the
next landing (R132), a bound TRIP tile is captured (R284), a MIRROR tile is changed for the lanyard (R424), a RETAIN
tile is dirty for its ring (R486), and fix-up plans of the tile are dropped (R231). -/
def State.noteStore (s : State) (loc : Nat) (payload : List Byte) : State :=
  let p := s.dirOwner loc
  let s := s.modPart p (fun x => { x with plans := x.plans.filter (fun f => f.loc != loc) })
  let s := if s.dirKind loc == kIMAGE then s.modPart p (fun x => { x with stored := luniq (x.stored ++ [loc]) }) else s
  let s := if s.dirKind loc == kMAILBOX then s.modPart p (fun x => { x with outboxes := luniq (x.outboxes ++ [loc]) }) else s
  let s := match s.tripOf loc with
    | some j =>
      let n := leAt (tgetD s.trip j TripSt.reset).template 22 2
      s.modPart p (fun x => { x with trips := tput x.trips j (sub payload 440 n) })
    | none => s
  let s := if s.dirFlag loc fMIRROR then
      { s with twin := { s.twin with changed := luniq (s.twin.changed ++ [loc]) } } else s
  if s.dirKind loc == kRETAIN then { s with keep := { s.keep with dirty := luniq (s.keep.dirty ++ [loc]) } } else s

/-- Partition p is twinned (R419). -/
def State.twinned (s : State) (p : Nat) : Bool :=
  s.flag R.TWIN_CFG F.TWIN_CFG_EN && p != 0 && (s.reg (R.TWIN_PART (p / 32))).getLsbD (p % 32)

/-! ### Tile operations of a lamp (R116 to R119, R180, R181) -/

/-- The kinds a TLOAD may load (R109). -/
def loadable (kind : Nat) : Bool := kind != kFREE && kind != kCODE && kind ≤ kTRIP

/-- The kinds and flags a TSTORE may store (R109). -/
def storable (kind flags : Nat) : Bool :=
  kind == kDATA || (kind == kIMAGE && bit flags fOUTPUT) || (kind == kMAILBOX && bit flags fOUTBOX) || kind == kRETAIN ||
    kind == kTRIP

/-- The cause of a failing TLOAD of a location by a task of partition p (R116): the directory's rows 1, 2 and 7
first, then the data's rows 3 to 6. -/
def State.loadCause (s : State) (loc p : Nat) (safety : Bool) : Option Nat :=
  if s.tiles.dirBad.contains loc then some wcIDENT
  else if !s.dirValid loc || s.dirOwner loc != p then some wcOWNER
  else if !loadable (s.dirKind loc) || (safety && !s.dirFlag loc fSAFETY) then some wcKIND
  else if s.dirState loc == 1 then some wcREPAIRING
  else s.sealFail loc

/-- The cause of a failing TSTORE or MBX (R111, R113, R119, R181). -/
def State.storeCause (s : State) (l : Nat) (o : TileOp) : Option Nat :=
  let loc := o.loc.val
  if s.tiles.dirBad.contains loc then some wcIDENT
  else if !s.dirValid loc || s.dirOwner loc != o.part then some wcOWNER
  else if !storable (s.dirKind loc) (s.dirFlags loc) || (o.kind == .mbx && s.dirKind loc != kMAILBOX) ||
      (o.safety != s.dirFlag loc fSAFETY) || (s.lamp l).win[o.w].st == .poison then some wcKIND
  else none

/-- A record of a tile operation, written with its partition even where its task has been abandoned (R218 step 2). -/
def State.raiseOp (s : State) (l : Nat) (o : TileOp) (cls b4 : Nat) : State :=
  match (s.lamp l).task with
  | some t =>
    if t.part = o.part then s.raise l cls o.word b4 (if cls = cSEAL then o.loc.val else 0) o.pc
    else s.log ⟨cls, o.part, l, none, 0, false, w32 o.pc, insDetail o.word b4 o.loc.val⟩ (some o.part) false
  | none => s.log ⟨cls, o.part, l, none, 0, false, w32 o.pc, insDetail o.word b4 o.loc.val⟩ (some o.part) false

/-- The bytes of window lines that are valid, the others zero (R115): `i` is the offset of the first byte. -/
def maskLines (lines : BitVec 64) : Nat → List Byte → List Byte
  | _, [] => []
  | i, b :: t => (if lines.getLsbD (i / 64) then b else 0) :: maskLines lines (i + 1) t

/-- `n` bytes of a window from an offset as an access sees them: an invalid line reads zero (R115). -/
def State.winBytes (s : State) (l : Nat) (w : Fin 8) (off n : Nat) : List Byte :=
  maskLines (s.lamp l).win[w].lines off (s.bytes (winAddr l w.val + off) n)

/-- The 4064 payload bytes of a window, invalid lines zero (R119). -/
def State.winPayload (s : State) (l : Nat) (w : Fin 8) : List Byte := s.winBytes l w 0 4064

/-- A fix-up plan applied to a tile's payload (R231). -/
def applyUnits (b : List Byte) : List (Nat × FixUnit) → List Byte
  | [] => b
  | (off, u) :: t =>
    let w := match u with
      | .zero => List.replicate 16 0
      | .reset key chg => leBytes 4 key.toNat ++ [0, if chg then 0x80 else 0] ++ List.replicate 10 0
    applyUnits (b.take off ++ w ++ b.drop (off + 16)) t

/-- The plans held for a location that still apply: those whose GEN is the directory's (R231). -/
def State.planUnits (s : State) (loc : Nat) : List (Nat × FixUnit) :=
  (((s.part (s.dirOwner loc)).plans.filter (fun f => f.loc == loc && f.gen == s.dirGen loc)).map (fun f => f.units)).flatten

/-- The content an MBX stores (R181): bytes 0–7 and 10–11 zero, the message, zero after it. -/
def mbxPayload (b : List Byte) (n : Nat) : List Byte :=
  List.replicate 8 0 ++ sub b 8 2 ++ [0, 0] ++ sub b 12 n ++ List.replicate (4052 - n) 0

/-- A tile operation completes (R116 step 3, R119 step 3, R181). -/
def State.opComplete (s : State) (l : Nat) (o : TileOp) : State :=
  let s := s.modLamp l (fun x => { x with pend := none })
  let wn := (s.lamp l).win[o.w]
  match o.kind with
  | .load =>
    let loc := s.activeLoc o.loc.val
    match s.loadCause loc o.part o.safety with
    | none =>
      let b := applyUnits (s.bytes (tileAddr loc) 4096) (s.planUnits loc)
      let s := s.setBytes (winAddr l o.w.val) b
      let s := if bit (leAt b 4066 2) 6 && s.twinned o.part then
          { s with twin := { s.twin with faultUntil := max s.twin.faultUntil (s.tick.count + 4800) } } else s
      (s.setWin l o.w ⟨.valid, BitVec.allOnes 64, o.loc.val, bit (leAt b 4066 2) 6, 0, false⟩).setP l o.pd true
    | some c =>
      let s := (s.setWin l o.w ⟨.poison, 0, o.loc.val, false, c, false⟩).setP l o.pd false
      let s := s.raiseOp l o cSEAL c
      let s := if c = wcCRC then
          { s with tiles := { s.tiles with crcFails :=
              s.tiles.crcFails ++ [(s.fld (R.ENG_LAMP l) F.ENG_LAMP_PHYS, s.tick.count, loc)] } } else s
      if 3 ≤ c && c ≤ 6 then s.startRepair loc else s
  | .store =>
    match s.storeCause l o with
    | none =>
      let b := s.winPayload l o.w
      let s := ((s.storeTile o.loc.val b).noteStore o.loc.val b).setWin l o.w { wn with loc := o.loc.val, cause := 0 }
      s.setP l o.pd true
    | some c =>
      let s := (s.setWin l o.w { wn with loc := o.loc.val, cause := c }).setP l o.pd false
      let s := s.raiseOp l o cSEAL c
      if c = wcIDENT then s.startRepair o.loc.val else s
  | .mbx =>
    let b := s.winPayload l o.w
    let n := leAt b 8 2
    match s.storeCause l o with
    | some c =>
      let s := (s.setWin l o.w { wn with loc := o.loc.val, cause := c }).setP l o.pd false
      let s := s.raiseOp l o cSEAL c
      if c = wcIDENT then s.startRepair o.loc.val else s
    | none =>
      if 4052 < n then (s.setP l o.pd false).raiseOp l o cMSG 2
      else
        let m := mbxPayload b n
        let s := ((s.storeTile o.loc.val m).noteStore o.loc.val m).setWin l o.w { wn with loc := o.loc.val, cause := 0 }
        s.setP l o.pd true

/-- The lamp's tile operation, if it has one, completes. Instructions that must wait for it under R118, R142, R170 and
R187 are issued after it (log entry 6). -/
def State.settle (s : State) (l : Nat) : State := match (s.lamp l).pend with
  | some o => s.opComplete l o
  | none => s

end Sys2Proof.Machine
end

