-- ==== Sys2Proof/Machine/Issue.lean ====
section
/-!
DEFINITION. The issue of one instruction on a lamp (R142, R164, R191): what every Mitrane meaning is written with.
-/
namespace Sys2Proof.Machine

/-- The tile unit's operation completes first where the instruction reads or writes the predicate it will write
(R142 rule 1). -/
def State.settleP (s : State) (l : Nat) (ps : List (Fin 8)) : State := match (s.lamp l).pend with
  | some o => if o.pd != 0 && ps.contains o.pd then s.opComplete l o else s
  | none => s

/-- Issues an instruction on lamp l. Without a running task there is none to issue for (log entry 7). In a safety task
an instruction outside Mitrane-S raises PRIV (R191). An instruction whose predicate is false changes nothing but the
PC (R142 rule 5); otherwise `body` is its effect. `ps` names the predicates it reads or writes beside its own. -/
def State.instr (s : State) (l : Nat) (q : PQ) (word : Word) (len : Nat) (inS : Bool) (ps : List (Fin 8))
    (body : TaskCtx → State → State) : State :=
  match (s.lamp l).task with
  | none => s
  | some t =>
    if t.safety && !inS then s.kill l cPRIV word (s.lamp l).pc
    else
      let s := s.settleP l (q.p :: ps)
      let s := if s.takes l q then body t s else s
      s.advance l len

/-- An instruction of Mitrane-S that raises nothing: `body` is its effect when it takes effect. -/
def State.plain (s : State) (l : Nat) (q : PQ) (ps : List (Fin 8)) (body : State → State) : State :=
  s.instr l q 0 1 true ps (fun _ s => body s)

/-- Writes a register with a value computed from two registers. -/
def State.alu2 (s : State) (l : Nat) (q : PQ) (rd ra rb : Fin 32) (f : Word → Word → Word) : State :=
  s.plain l q [] (fun s => s.setG l rd (f (s.g l ra) (s.g l rb)))

/-- Writes a register with a value computed from one register. -/
def State.alu1 (s : State) (l : Nat) (q : PQ) (rd ra : Fin 32) (f : Word → Word) : State :=
  s.plain l q [] (fun s => s.setG l rd (f (s.g l ra)))

/-- Writes a predicate with a comparison of two registers. -/
def State.cmp2 (s : State) (l : Nat) (q : PQ) (pd : Fin 8) (ra rb : Fin 32) (f : Word → Word → Bool) : State :=
  s.plain l q [pd] (fun s => s.setP l pd (f (s.g l ra) (s.g l rb)))

/-- Writes a predicate with a comparison of a register and a sign-extended immediate. -/
def State.cmpI (s : State) (l : Nat) (q : PQ) (pd : Fin 8) (ra : Fin 32) (imm : BitVec 12) (f : Word → Word → Bool) :
    State :=
  s.plain l q [pd] (fun s => s.setP l pd (f (s.g l ra) (imm.signExtend 32)))

/-- Writes a predicate with a combination of two predicates. -/
def State.predOp (s : State) (l : Nat) (q : PQ) (pd pa pb : Fin 8) (f : Bool → Bool → Bool) : State :=
  s.plain l q [pd, pa, pb] (fun s => s.setP l pd (f (s.pr l pa) (s.pr l pb)))

end Sys2Proof.Machine
end

