-- ==== Sys2Proof/Machine/Integer.lean ====
section
/-!
DEFINITION. Integer, multiply and divide instructions (R167).
-/
namespace Sys2Proof.Machine


/-- ADD: gd = ga + gb. -/
def execAdd (l : Fin 64) (q : PQ) (rd ra rb : Fin 32) (s : State) : Out :=
  s.onCore (fun s => s.alu2 l q rd ra rb (fun a b => a + b))

/-- SUB: gd = ga − gb. -/
def execSub (l : Fin 64) (q : PQ) (rd ra rb : Fin 32) (s : State) : Out :=
  s.onCore (fun s => s.alu2 l q rd ra rb (fun a b => a - b))

/-- AND. -/
def execAnd (l : Fin 64) (q : PQ) (rd ra rb : Fin 32) (s : State) : Out :=
  s.onCore (fun s => s.alu2 l q rd ra rb (fun a b => a &&& b))

/-- OR. -/
def execOr (l : Fin 64) (q : PQ) (rd ra rb : Fin 32) (s : State) : Out :=
  s.onCore (fun s => s.alu2 l q rd ra rb (fun a b => a ||| b))

/-- XOR. -/
def execXor (l : Fin 64) (q : PQ) (rd ra rb : Fin 32) (s : State) : Out :=
  s.onCore (fun s => s.alu2 l q rd ra rb (fun a b => a ^^^ b))

/-- SHL. -/
def execShl (l : Fin 64) (q : PQ) (rd ra rb : Fin 32) (s : State) : Out :=
  s.onCore (fun s => s.alu2 l q rd ra rb shlW)

/-- SHR. -/
def execShr (l : Fin 64) (q : PQ) (rd ra rb : Fin 32) (s : State) : Out :=
  s.onCore (fun s => s.alu2 l q rd ra rb shrW)

/-- SRA. -/
def execSra (l : Fin 64) (q : PQ) (rd ra rb : Fin 32) (s : State) : Out :=
  s.onCore (fun s => s.alu2 l q rd ra rb sraW)

/-- MIN, signed. -/
def execMin (l : Fin 64) (q : PQ) (rd ra rb : Fin 32) (s : State) : Out :=
  s.onCore (fun s => s.alu2 l q rd ra rb minS)

/-- MAX, signed. -/
def execMax (l : Fin 64) (q : PQ) (rd ra rb : Fin 32) (s : State) : Out :=
  s.onCore (fun s => s.alu2 l q rd ra rb maxS)

/-- MINU. -/
def execMinu (l : Fin 64) (q : PQ) (rd ra rb : Fin 32) (s : State) : Out :=
  s.onCore (fun s => s.alu2 l q rd ra rb minU)

/-- MAXU. -/
def execMaxu (l : Fin 64) (q : PQ) (rd ra rb : Fin 32) (s : State) : Out :=
  s.onCore (fun s => s.alu2 l q rd ra rb maxU)

/-- ADDS: signed sum, saturated. -/
def execAdds (l : Fin 64) (q : PQ) (rd ra rb : Fin 32) (s : State) : Out :=
  s.onCore (fun s => s.alu2 l q rd ra rb (fun a b => satW (sval a + sval b)))

/-- SUBS: signed difference, saturated. -/
def execSubs (l : Fin 64) (q : PQ) (rd ra rb : Fin 32) (s : State) : Out :=
  s.onCore (fun s => s.alu2 l q rd ra rb (fun a b => satW (sval a - sval b)))

/-- MUL: low 32 bits of the product. -/
def execMul (l : Fin 64) (q : PQ) (rd ra rb : Fin 32) (s : State) : Out :=
  s.onCore (fun s => s.alu2 l q rd ra rb (fun a b => a * b))

/-- MULH: high 32 bits, signed. -/
def execMulh (l : Fin 64) (q : PQ) (rd ra rb : Fin 32) (s : State) : Out :=
  s.onCore (fun s => s.alu2 l q rd ra rb mulhS)

/-- MULHU: high 32 bits, unsigned. -/
def execMulhu (l : Fin 64) (q : PQ) (rd ra rb : Fin 32) (s : State) : Out :=
  s.onCore (fun s => s.alu2 l q rd ra rb mulhU)

/-- DIV. -/
def execDiv (l : Fin 64) (q : PQ) (rd ra rb : Fin 32) (s : State) : Out :=
  s.onCore (fun s => s.alu2 l q rd ra rb divS)

/-- DIVU. -/
def execDivu (l : Fin 64) (q : PQ) (rd ra rb : Fin 32) (s : State) : Out :=
  s.onCore (fun s => s.alu2 l q rd ra rb divU)

/-- REM. -/
def execRem (l : Fin 64) (q : PQ) (rd ra rb : Fin 32) (s : State) : Out :=
  s.onCore (fun s => s.alu2 l q rd ra rb remS)

/-- REMU. -/
def execRemu (l : Fin 64) (q : PQ) (rd ra rb : Fin 32) (s : State) : Out :=
  s.onCore (fun s => s.alu2 l q rd ra rb remU)

/-- ADDI: imm12 sign-extended. -/
def execAddi (l : Fin 64) (q : PQ) (rd ra : Fin 32) (imm : BitVec 12) (s : State) : Out :=
  s.onCore (fun s => s.alu1 l q rd ra (fun a => a + imm.signExtend 32))

/-- ANDI: imm12 zero-extended. -/
def execAndi (l : Fin 64) (q : PQ) (rd ra : Fin 32) (imm : BitVec 12) (s : State) : Out :=
  s.onCore (fun s => s.alu1 l q rd ra (fun a => a &&& imm.zeroExtend 32))

/-- ORI. -/
def execOri (l : Fin 64) (q : PQ) (rd ra : Fin 32) (imm : BitVec 12) (s : State) : Out :=
  s.onCore (fun s => s.alu1 l q rd ra (fun a => a ||| imm.zeroExtend 32))

/-- XORI. -/
def execXori (l : Fin 64) (q : PQ) (rd ra : Fin 32) (imm : BitVec 12) (s : State) : Out :=
  s.onCore (fun s => s.alu1 l q rd ra (fun a => a ^^^ imm.zeroExtend 32))

/-- SHI: a shift by an immediate amount. -/
def execShi (l : Fin 64) (q : PQ) (rd ra : Fin 32) (dir : ShDir) (amt : Fin 32) (s : State) : Out :=
  s.onCore (fun s => s.alu1 l q rd ra (fun a => match dir with
    | .shl => shlW a (w32 amt.val)
    | .shr => shrW a (w32 amt.val)
    | .sra => sraW a (w32 amt.val)))

/-- MOVX: gd = imm32; a long form of two words. -/
def execMovx (l : Fin 64) (q : PQ) (rd : Fin 32) (imm : Word) (s : State) : Out :=
  s.onCore (fun s => s.instr l q (wordX 0x3C rd.val 0 q) 2 true [] (fun _ s => s.setG l rd imm))

end Sys2Proof.Machine
end

