-- ==== Sys2Proof/Machine/Compare.lean ====
section
/-!
DEFINITION. Compare, predicate and bit instructions (R168).
-/
namespace Sys2Proof.Machine

/-- CMP.EQ. -/
def execCmpEq (l : Fin 64) (q : PQ) (pd : Fin 8) (ra rb : Fin 32) (s : State) : Out :=
  s.onCore (fun s => s.cmp2 l q pd ra rb (fun a b => a == b))

/-- CMP.LT, signed. -/
def execCmpLt (l : Fin 64) (q : PQ) (pd : Fin 8) (ra rb : Fin 32) (s : State) : Out :=
  s.onCore (fun s => s.cmp2 l q pd ra rb (fun a b => decide (sval a < sval b)))

/-- CMP.LTU. -/
def execCmpLtu (l : Fin 64) (q : PQ) (pd : Fin 8) (ra rb : Fin 32) (s : State) : Out :=
  s.onCore (fun s => s.cmp2 l q pd ra rb (fun a b => decide (uval a < uval b)))

/-- CMP.TST: the AND is non-zero. -/
def execCmpTst (l : Fin 64) (q : PQ) (pd : Fin 8) (ra rb : Fin 32) (s : State) : Out :=
  s.onCore (fun s => s.cmp2 l q pd ra rb (fun a b => (a &&& b) != 0))

/-- CMPEQI. -/
def execCmpeqi (l : Fin 64) (q : PQ) (pd : Fin 8) (ra : Fin 32) (imm : BitVec 12) (s : State) : Out :=
  s.onCore (fun s => s.cmpI l q pd ra imm (fun a b => a == b))

/-- CMPLTI. -/
def execCmplti (l : Fin 64) (q : PQ) (pd : Fin 8) (ra : Fin 32) (imm : BitVec 12) (s : State) : Out :=
  s.onCore (fun s => s.cmpI l q pd ra imm (fun a b => decide (sval a < sval b)))

/-- CMPLTUI. -/
def execCmpltui (l : Fin 64) (q : PQ) (pd : Fin 8) (ra : Fin 32) (imm : BitVec 12) (s : State) : Out :=
  s.onCore (fun s => s.cmpI l q pd ra imm (fun a b => decide (uval a < uval b)))

/-- PAND. -/
def execPand (l : Fin 64) (q : PQ) (pd pa pb : Fin 8) (s : State) : Out :=
  s.onCore (fun s => s.predOp l q pd pa pb (fun a b => a && b))

/-- POR. -/
def execPor (l : Fin 64) (q : PQ) (pd pa pb : Fin 8) (s : State) : Out :=
  s.onCore (fun s => s.predOp l q pd pa pb (fun a b => a || b))

/-- PXOR. -/
def execPxor (l : Fin 64) (q : PQ) (pd pa pb : Fin 8) (s : State) : Out :=
  s.onCore (fun s => s.predOp l q pd pa pb (fun a b => a != b))

/-- PANDN: pa AND NOT pb. -/
def execPandn (l : Fin 64) (q : PQ) (pd pa pb : Fin 8) (s : State) : Out :=
  s.onCore (fun s => s.predOp l q pd pa pb (fun a b => a && !b))

/-- PGET: pd = bit b of ga. -/
def execPget (l : Fin 64) (q : PQ) (pd : Fin 8) (ra b : Fin 32) (s : State) : Out :=
  s.onCore (fun s => s.plain l q [pd] (fun s => s.setP l pd ((s.g l ra).getLsbD b.val)))

/-- PPUT: bit b of gd = pa, the other bits kept. -/
def execPput (l : Fin 64) (q : PQ) (rd : Fin 32) (pa : Fin 8) (b : Fin 32) (s : State) : Out :=
  s.onCore (fun s => s.plain l q [pa] (fun s =>
    s.setG l rd (w32 (setBit (s.g l rd).toNat b.val (s.pr l pa)))))

/-- POPC. -/
def execPopc (l : Fin 64) (q : PQ) (rd ra : Fin 32) (s : State) : Out :=
  s.onCore (fun s => s.alu1 l q rd ra popc)

/-- CLZ. -/
def execClz (l : Fin 64) (q : PQ) (rd ra : Fin 32) (s : State) : Out :=
  s.onCore (fun s => s.alu1 l q rd ra clz)

/-- BFXU. -/
def execBfxu (l : Fin 64) (q : PQ) (rd ra rb : Fin 32) (s : State) : Out :=
  s.onCore (fun s => s.alu2 l q rd ra rb bfxu)

/-- BFI: gd is also read. -/
def execBfi (l : Fin 64) (q : PQ) (rd ra rb : Fin 32) (s : State) : Out :=
  s.onCore (fun s => s.plain l q [] (fun s => s.setG l rd (bfi (s.g l rd) (s.g l ra) (s.g l rb))))

end Sys2Proof.Machine
end

