-- ==== Sys2Proof/Machine/Memory.lean ====
section
/-!
DEFINITION. Window memory, code scratch and the engine-local words (R115, R117, R134, R144, R169), and the
M-format instructions.
-/
namespace Sys2Proof.Machine

/-- The window an address lies in, if it lies in one (R144). -/
def winOf (a : Nat) : Option (Fin 8) :=
  if h : 0x10000 ≤ a ∧ a < 0x18000 then some ⟨(a - 0x10000) / 0x1000, by omega⟩ else none

/-- The tile unit's operation completes first where it names window w (R118, R170). -/
def State.settleW (s : State) (l : Nat) (w : Fin 8) : State := match (s.lamp l).pend with
  | some o => if o.w == w then s.opComplete l o else s
  | none => s

/-- Bytes written to a window (R115): the lines touched become valid, a line that was invalid holding zero elsewhere,
and an EMPTY window becomes VALID. The bytes lie in one line or in whole lines. -/
def State.winWrite (s : State) (l : Nat) (w : Fin 8) (off : Nat) (bs : List Byte) : State :=
  let x := (s.lamp l).win[w]
  let first := off / 64
  let last := (off + bs.length - 1) / 64
  let old := s.winBytes l w (64 * first) (64 * (last - first + 1))
  let new := old.take (off - 64 * first) ++ bs ++ old.drop (off - 64 * first + bs.length)
  let lines := x.lines ||| BitVec.ofNat 64 ((2 ^ (last - first + 1) - 1) * 2 ^ first)
  (s.setBytes (winAddr l w.val + 64 * first) new).setWin l w { x with st := .valid, lines := lines }

/-- An access to a POISON window: one record in a slot, and nothing else (R117). -/
def State.poisonHit (s : State) (l : Nat) (w : Fin 8) (word : Word) (a : Nat) : State :=
  let x := (s.lamp l).win[w]
  if x.told then s else (s.raise l cSEAL word x.cause x.loc a).setWin l w { x with told := true }

/-- Code page k of lamp l is allotted to partition p (R146). -/
def State.ownsPage (s : State) (l k p : Nat) : Bool :=
  s.flag (R.ENG_CODE_PAGE (16 * l + k)) F.ENG_CODE_PAGE_VALID && s.fld (R.ENG_CODE_PAGE (16 * l + k)) F.ENG_CODE_PAGE_PART == p

/-- The active bank's base offset for the tick and engine tables: bank A or B (TICK_STAT.ACTIVE). -/
def State.bankB (s : State) : Bool := s.flag R.TICK_STAT F.TICK_STAT_ACTIVE
def State.slotReg (s : State) (b : Bool) (n : Nat) : Word := s.reg (if b then R.TICK_SLOT_B n else R.TICK_SLOT_A n)
def State.perReg (s : State) (b : Bool) (n : Nat) : Word := s.reg (if b then R.TICK_TASK_PER_B n else R.TICK_TASK_PER_A n)
def State.bindReg (s : State) (b : Bool) (n : Nat) : Word := s.reg (if b then R.TICK_TASK_BIND_B n else R.TICK_TASK_BIND_A n)
def State.maskReg (s : State) (b : Bool) (n : Nat) : Word := s.reg (if b then R.ENG_EVT_MASK_B n else R.ENG_EVT_MASK_A n)
def State.xbarReg (s : State) (b : Bool) (n : Nat) : Word := s.reg (if b then R.ENG_XBAR_B n else R.ENG_XBAR_A n)

/-- LS_CYCLE: the cycle at which the load issues, a free value within the task's part of its slot (log entry 3). -/
def State.lsCycle (s : State) (l : Nat) (t : TaskCtx) : Nat :=
  let w := s.slotReg s.bankB (16 * l + t.slot)
  let start := 1024 + 64 * F.TICK_SLOT_A_START.get w + 16
  let n := 64 * F.TICK_SLOT_A_LEN.get w - 16
  if n = 0 then start else start + Config.eventCycle s.free % n

/-- The engine-local word at an offset from 0x0004_0000 (R134, R144). -/
def State.localWord (s : State) (l : Nat) (t : TaskCtx) (i : Nat) : Word :=
  match i with
  | 0 => w32 (l * 2 ^ 24 + t.slot * 2 ^ 16 + s.tickNo)
  | 1 => w32 (t.entry * 2 ^ 16 + t.part)
  | 2 => w32 (s.lsCycle l t)
  | 3 => s.absLo
  | 4 => (s.part t.part).evSnap
  | 5 => w32 (b2n t.first + 2 * b2n t.changed)
  | 6 => 0
  | 7 => 0
  | n =>
    let x := (s.lamp l).win[(n - 8) % 8]
    let busy := match (s.lamp l).pend with | some o => o.w.val == n - 8 | none => false
    let st := if busy then 3 else match x.st with | .empty => 0 | .valid => 1 | .poison => 2
    w32 (x.loc * 2 ^ 8 + b2n x.restored * 2 ^ 7 + x.cause * 2 ^ 4 + st)

/-- A load of `width` bytes at data address a: the value, zero where the access fails (R144, R165, R169). -/
def State.mLoad (s : State) (l : Nat) (t : TaskCtx) (word : Word) (a width : Nat) : Nat × State :=
  match winOf a with
  | some w =>
    let s := s.settleW l w
    if a % width ≠ 0 then (0, s.raise l cALIGN word 0 0 a)
    else if (s.lamp l).win[w].st == .poison then (0, s.poisonHit l w word a)
    else (leNat (s.winBytes l w (a % 0x1000) width), s)
  | none =>
    if 0x40000 ≤ a ∧ a < 0x40040 then
      if width ≠ 4 then (0, s.raise l cADDR word 0 0 a)
      else if a % 4 ≠ 0 then (0, s.raise l cALIGN word 0 0 a)
      else ((s.localWord l t ((a - 0x40000) / 4)).toNat, if (a - 0x40000) / 4 = 2 then s.draw else s)
    else if a < 0x10000 then
      if !s.ownsPage l (a / 0x1000) t.part then (0, s.raise l cADDR word 0 0 a)
      else if a % width ≠ 0 then (0, s.raise l cALIGN word 0 0 a)
      else if 0xFE0 ≤ a % 0x1000 then (0, s)
      else (leNat (s.bytes (pageAddr l 0 + a) width), s)
    else (0, s.raise l cADDR word 0 0 a)

/-- A store of the bytes `bs` at data address a (R144, R165, R169). -/
def State.mStore (s : State) (l : Nat) (word : Word) (a : Nat) (bs : List Byte) : State :=
  match winOf a with
  | some w =>
    let s := s.settleW l w
    if a % bs.length ≠ 0 then s.raise l cALIGN word 0 0 a
    else if (s.lamp l).win[w].st == .poison then s.poisonHit l w word a
    else s.winWrite l w (a % 0x1000) bs
  | none => s.raise l cADDR word 0 0 a

/-- The address of an M-format access: ga + off12. -/
def State.mAddr (s : State) (l : Nat) (ra : Fin 32) (off : BitVec 12) : Nat := (s.g l ra + off.signExtend 32).toNat

/-- A load instruction: `ext` makes the register's value of the bytes read. -/
def State.loadIns (s : State) (l : Nat) (q : PQ) (op : Nat) (rd ra : Fin 32) (off : BitVec 12) (width : Nat)
    (ext : Nat → Word) : State :=
  let word := wordI op rd.val ra.val off.toNat q
  s.instr l q word 1 true [] (fun t s =>
    let r := s.mLoad l t word (s.mAddr l ra off) width
    r.2.setG l rd (ext r.1))

/-- A store instruction of the low `width` bytes of rs. -/
def State.storeIns (s : State) (l : Nat) (q : PQ) (op : Nat) (rs ra : Fin 32) (off : BitVec 12) (width : Nat) : State :=
  let word := wordI op rs.val ra.val off.toNat q
  s.instr l q word 1 true [] (fun _ s => s.mStore l word (s.mAddr l ra off) (leBytes width (s.g l rs).toNat))

/-- LDW. -/
def execLdw (l : Fin 64) (q : PQ) (rd ra : Fin 32) (off : BitVec 12) (s : State) : Out :=
  s.onCore (fun s => s.loadIns l q 0x14 rd ra off 4 w32)

/-- LDH: sign-extended. -/
def execLdh (l : Fin 64) (q : PQ) (rd ra : Fin 32) (off : BitVec 12) (s : State) : Out :=
  s.onCore (fun s => s.loadIns l q 0x15 rd ra off 2 (fun v => (BitVec.ofNat 16 v).signExtend 32))

/-- LDHU. -/
def execLdhu (l : Fin 64) (q : PQ) (rd ra : Fin 32) (off : BitVec 12) (s : State) : Out :=
  s.onCore (fun s => s.loadIns l q 0x16 rd ra off 2 w32)

/-- LDB: sign-extended. -/
def execLdb (l : Fin 64) (q : PQ) (rd ra : Fin 32) (off : BitVec 12) (s : State) : Out :=
  s.onCore (fun s => s.loadIns l q 0x17 rd ra off 1 (fun v => (BitVec.ofNat 8 v).signExtend 32))

/-- LDBU. -/
def execLdbu (l : Fin 64) (q : PQ) (rd ra : Fin 32) (off : BitVec 12) (s : State) : Out :=
  s.onCore (fun s => s.loadIns l q 0x18 rd ra off 1 w32)

/-- STW. -/
def execStw (l : Fin 64) (q : PQ) (rs ra : Fin 32) (off : BitVec 12) (s : State) : Out :=
  s.onCore (fun s => s.storeIns l q 0x19 rs ra off 4)

/-- STH. -/
def execSth (l : Fin 64) (q : PQ) (rs ra : Fin 32) (off : BitVec 12) (s : State) : Out :=
  s.onCore (fun s => s.storeIns l q 0x1A rs ra off 2)

/-- STB. -/
def execStb (l : Fin 64) (q : PQ) (rs ra : Fin 32) (off : BitVec 12) (s : State) : Out :=
  s.onCore (fun s => s.storeIns l q 0x1B rs ra off 1)

end Sys2Proof.Machine
end

