-- ==== Sys2Proof/Machine/Branch.lean ====
section
/-!
DEFINITION. Branches and bounded loops (R171 to R173, R559), the words a lamp cannot execute (R145, R162).
-/
namespace Sys2Proof.Machine

/-- An instruction that may not be the last of a loop body (R173): there it raises ILL, whatever its predicate. -/
def State.notLast (s : State) (l : Nat) (word : Word) (len : Nat) (f : State → State) : State :=
  if (s.lamp l).task.isSome && (s.lamp l).atBodyEnd len then s.kill l cILL word (s.lamp l).pc else f s

/-- The inner body from `first` to `after` is nested as R173 asks: no level runs around the PC, or the body ends before
the outer body's last instruction. -/
def Lamp.nestsOk (x : Lamp) (after : Nat) : Bool := match x.loops with
  | lv :: _ => !(lv.first ≤ x.pc && x.pc < lv.after) || after < lv.after
  | [] => true

/-- The effect of a loop instruction of `len` words with a body of `body` words to be run `n` times (R172); `over`:
n is above the ceiling. A body length of 0 is illegal whatever the predicate. -/
def State.loopIns (s : State) (l : Nat) (q : PQ) (word : Word) (len body : Nat) (n : State → Nat) (ceil : Option Nat) :
    State :=
  s.notLast l word len (fun s =>
    match (s.lamp l).task with
    | none => s
    | some _ =>
      if body = 0 then s.kill l cILL word (s.lamp l).pc
      else
        let s := s.settleP l [q.p]
        let pc := (s.lamp l).pc
        let skip (s : State) : State := s.modLamp l (fun x => { x with pc := pc + len + body })
        if !s.takes l q || n s = 0 then skip s
        else if (match ceil with | some c => decide (c < n s) | none => false) then skip (s.raise l cBOUND word 0 0 pc)
        else if 4 ≤ (s.lamp l).loops.length || !(s.lamp l).nestsOk (pc + len + body) then s.kill l cILL word pc
        else s.modLamp l (fun x => { x with pc := pc + len, loops := ⟨pc + len, pc + len + body, n s⟩ :: x.loops }))

/-- BR: the PC moves forward by off22 past the next word; a target above 0x3FFF raises FETCH (R171). -/
def execBr (l : Fin 64) (q : PQ) (off : BitVec 22) (s : State) : Out :=
  s.onCore (fun s => s.notLast l (wordBR off.toNat q) 1 (fun s =>
    match (s.lamp l).task with
    | none => s
    | some _ =>
      let s := s.settleP l [q.p]
      let pc := (s.lamp l).pc
      let target := pc + 1 + off.toNat
      if !s.takes l q then s.advance l 1
      else if 0x3FFF < target then s.kill l cFETCH (wordBR off.toNat q) pc
      else s.modLamp l (fun x => { x with pc := target })))

/-- LOOPI. -/
def execLoopi (l : Fin 64) (q : PQ) (count : BitVec 12) (body : BitVec 10) (s : State) : Out :=
  s.onCore (fun s => s.loopIns l q (wordLoopI count.toNat body.toNat q) 1 body.toNat (fun _ => count.toNat) none)

/-- LOOPR: a long form; the count stands in rs, and a count above the ceiling raises BOUND and skips the body. -/
def execLoopr (l : Fin 64) (q : PQ) (rs : Fin 32) (body : BitVec 10) (ceil : Word) (s : State) : Out :=
  s.onCore (fun s => s.loopIns l q (wordX 0x12 rs.val (body.toNat * 2 ^ 7) q) 2 body.toNat
    (fun s => (s.g l rs).toNat) (some ceil.toNat))

/-- An illegal word (R162): ILL, and the task is abandoned for the rest of its slot. -/
def execIllegalInstruction (l : Fin 64) (word : Word) (s : State) : Out :=
  s.onCore (fun s => s.kill l cILL word (s.lamp l).pc)

/-- A fetch from a page the partition does not own, or from a page's tail (R145). -/
def execFetchFault (l : Fin 64) (s : State) : Out := s.onCore (fun s => s.kill l cFETCH 0 (s.lamp l).pc)

end Sys2Proof.Machine
end

