-- ==== Sys2Proof/Machine/Rtc.lean ====
section
/-!
DEFINITION. The real-time clock and the backup domain (R496 to R506).
-/
namespace Sys2Proof.Machine


/-- Two BCD digits, none where one is above 9. -/
def bcd2 (n : Nat) : Option Nat := if n % 16 ≤ 9 ∧ n / 16 ≤ 9 then some (n / 16 * 10 + n % 16) else none
/-- A number below 100 as two BCD digits. -/
def toBcd2 (n : Nat) : Nat := n / 10 * 16 + n % 10

def leapYear (y : Nat) : Bool := (y % 4 == 0 && y % 100 != 0) || y % 400 == 0
def monthLen (y m : Nat) : Nat := match m with
  | 4 | 6 | 9 | 11 => 30
  | 2 => if leapYear y then 29 else 28
  | _ => 31

/-- Days of a date since 1970-01-01 in the Gregorian calendar. -/
def dayNumber (y m d : Nat) : Nat :=
  let y' := if m ≤ 2 then y - 1 else y
  let yoe := y' % 400
  let doy := (153 * (if m ≤ 2 then m + 9 else m - 3) + 2) / 5 + d - 1
  y' / 400 * 146097 + yoe * 365 + yoe / 4 - yoe / 100 + doy - 719468

/-- Year, month and day of a day since 1970-01-01. -/
def civilDate (n : Nat) : Nat × Nat × Nat :=
  let z := n + 719468
  let doe := z % 146097
  let yoe := (doe - doe / 1460 + doe / 36524 - doe / 146096) / 365
  let doy := doe - (365 * yoe + yoe / 4 - yoe / 100)
  let mp := (5 * doy + 2) / 153
  let d := doy - (153 * mp + 2) / 5 + 1
  let m := if mp < 10 then mp + 3 else mp - 9
  (yoe + z / 146097 * 400 + b2n (decide (m ≤ 2)), m, d)

/-- Weekday of a day since 1970-01-01, a Thursday: 1 Monday to 7 Sunday (R496). -/
def weekday (n : Nat) : Nat := (n + 3) % 7 + 1

/-- Year, month, day, hour, minute and second of a time and a date word; none where they are no valid BCD, lie outside R496
or name a day that does not exist (R497). -/
def rtcFields (t d : Word) : Option (Nat × Nat × Nat × Nat × Nat × Nat) := do
  let y1 ← bcd2 (d.toNat / 2 ^ 24)
  let y2 ← bcd2 (d.toNat / 2 ^ 16 % 256)
  let mo ← bcd2 (d.toNat / 256 % 32)
  let da ← bcd2 (d.toNat % 64)
  let h ← bcd2 (t.toNat / 2 ^ 16 % 64)
  let mi ← bcd2 (t.toNat / 256 % 128)
  let se ← bcd2 (t.toNat % 128)
  let y := 100 * y1 + y2
  if 2000 ≤ y ∧ y ≤ 2399 ∧ 1 ≤ mo ∧ mo ≤ 12 ∧ 1 ≤ da ∧ da ≤ monthLen y mo ∧ h ≤ 23 ∧ mi ≤ 59 ∧ se ≤ 59 then
    some (y, mo, da, h, mi, se) else none

/-- UTC seconds since 1970 of a time and a date word. -/
def rtcSeconds (t d : Word) : Option Nat := (rtcFields t d).map (fun (y, mo, da, h, mi, se) =>
  dayNumber y mo da * 86400 + h * 3600 + mi * 60 + se)

/-- Time and date words of UTC seconds since 1970 (R496). -/
def rtcWords (n : Nat) : Word × Word :=
  let days := n / 86400
  let (y, m, d) := civilDate days
  let s := n % 86400
  (w32 (weekday days * 2 ^ 24 + toBcd2 (s / 3600) * 2 ^ 16 + toBcd2 (s / 60 % 60) * 256 + toBcd2 (s % 60)),
   w32 (toBcd2 (y / 100) * 2 ^ 24 + toBcd2 (y % 100) * 2 ^ 16 + toBcd2 m * 256 + toBcd2 d))

/-- First second of 2000 and of 2400. -/
abbrev rtcFirst : Nat := 946684800
abbrev rtcEnd : Nat := 13569465600

/-- The RTC's time in UTC seconds. -/
def State.rtcNow (s : State) : Nat := (rtcSeconds (s.reg R.RTC_TIME) (s.reg R.RTC_DATE)).getD rtcFirst

/-- Time and date as one number that grows with them: BCD keeps their order. -/
def rtcKey (t d : Word) : Nat := d.toNat * 2 ^ 32 + (t &&& 0x003F7F7F).toNat

/-- The alarm's test (R500): where it holds while ARMED is set, the alarm fires; RTC_ALARM is logged when the main die runs
and kept for the next start-up otherwise. -/
def State.rtcTest (s : State) : State :=
  let now := rtcKey (s.reg R.RTC_TIME) (s.reg R.RTC_DATE)
  let alm := rtcKey (s.reg R.RTC_ALM_TIME) (s.reg R.RTC_ALM_DATE)
  let c := R.RTC_ALM_CTRL
  if s.flag c F.RTC_ALM_CTRL_ARMED && alm ≤ now then
    let s := ((s.setFlag c F.RTC_ALM_CTRL_FIRED true).setFlag c F.RTC_ALM_CTRL_ARMED false).setFlag c F.RTC_ALM_CTRL_LATE (alm < now)
    if s.coreOn then s.event Ev.RTC_ALARM else { s with rtc := { s.rtc with alarmDue := true } }
  else s

/-- A time loaded into the RTC (R497), with its weekday; VALID becomes 1 and the alarm is tested. -/
def State.rtcLoad (s : State) (n : Nat) : State :=
  let w := rtcWords n
  (((s.setReg R.RTC_TIME w.1).setReg R.RTC_DATE w.2).setFlag R.RTC_STAT F.RTC_STAT_VALID true).rtcTest

/-- RTC_CTRL.SET (R497). -/
def State.rtcSetCmd (s : State) : State :=
  if s.rtc.locked then s
  else match rtcSeconds (s.reg R.RTC_SET_TIME) (s.reg R.RTC_SET_DATE) with
    | some n => s.rtcLoad n
    | none => s.event Ev.RTC_BAD_VALUE

/-- RTC_CTRL.CAPTURE (R498). -/
def State.rtcCaptureCmd (s : State) : State :=
  if s.rtc.locked then s
  else
    let req := s.someCycle * 2 ^ 15 + s.tickNo
    let s := ((s.setReg R.RTC_TS_TIME (s.reg R.RTC_TIME)).setReg R.RTC_TS_DATE (s.reg R.RTC_DATE)).setReg R.RTC_TS_SUB (w32 s.somePre)
    (s.setReg R.RTC_TS_REQ (w32 req)).draw

/-- The check value of the tamper record (R506). -/
def State.trecChk (s : State) : Nat :=
  crc16 ([R.RTC_TREC_CTL, R.RTC_TREC_FIRST_TIME, R.RTC_TREC_FIRST_DATE, R.RTC_TREC_LAST_TIME, R.RTC_TREC_LAST_DATE].flatMap
    (fun a => leBytes 4 (s.reg a).toNat))

/-- The tamper record emptied. -/
def State.trecEmpty (s : State) : State :=
  let s := [R.RTC_TREC_CTL, R.RTC_TREC_FIRST_TIME, R.RTC_TREC_FIRST_DATE, R.RTC_TREC_LAST_TIME, R.RTC_TREC_LAST_DATE].foldl
    (fun s a => s.setReg a 0) s
  s.setReg R.RTC_TREC_CHK (w32 s.trecChk)

/-- RTC_CTRL.TREC_CLR (R506). -/
def State.trecClr (s : State) : State := if s.rtc.locked then s else s.trecEmpty.event Ev.TREC_CLEARED

/-- A tamper event enters the record (R506). -/
def State.trecAdd (s : State) (sens : Nat) : State :=
  let c := R.RTC_TREC_CTL
  let inv := !s.flag R.RTC_STAT F.RTC_STAT_VALID
  let s := if s.fld c F.RTC_TREC_CTL_COUNT = 0 then
      (((s.setFld c F.RTC_TREC_CTL_FIRST_SENS sens).setFlag c F.RTC_TREC_CTL_FIRST_INV inv).setReg R.RTC_TREC_FIRST_TIME
        (s.reg R.RTC_TIME)).setReg R.RTC_TREC_FIRST_DATE (s.reg R.RTC_DATE)
    else s
  let s := (((s.setFld c F.RTC_TREC_CTL_LAST_SENS sens).setFlag c F.RTC_TREC_CTL_LAST_INV inv).setReg R.RTC_TREC_LAST_TIME
    (s.reg R.RTC_TIME)).setReg R.RTC_TREC_LAST_DATE (s.reg R.RTC_DATE)
  let s := s.incFld c F.RTC_TREC_CTL_COUNT 65535
  s.setReg R.RTC_TREC_CHK (w32 s.trecChk)

/-- RTC_ALM_CTRL.ARM and DISARM (R500). -/
def State.rtcArmCmd (s : State) : State :=
  if s.rtc.locked then s
  else
    let c := R.RTC_ALM_CTRL
    (((s.setFlag c F.RTC_ALM_CTRL_FIRED false).setFlag c F.RTC_ALM_CTRL_LATE false).setFlag c F.RTC_ALM_CTRL_ARMED true).rtcTest
def State.rtcDisarmCmd (s : State) : State :=
  if s.rtc.locked then s else s.setFlag R.RTC_ALM_CTRL F.RTC_ALM_CTRL_ARMED false

/-- SET. -/
def execRtcSet (s : State) : Out := s.onCore (fun s => s.rtcSetCmd)
/-- CAPTURE. -/
def execRtcCapture (s : State) : Out := s.onCore (fun s => s.rtcCaptureCmd)
/-- TREC_CLR. -/
def execTrecClr (s : State) : Out := s.onCore (fun s => s.trecClr)
/-- ARM. -/
def execRtcArm (s : State) : Out := s.onCore (fun s => s.rtcArmCmd)
/-- DISARM. -/
def execRtcDisarm (s : State) : Out := s.onCore (fun s => s.rtcDisarmCmd)

/-- The rollover after 2399-12-31 23:59:59 (R496). -/
def State.rtcRoll (s : State) : State :=
  let w := rtcWords rtcFirst
  ((s.setReg R.RTC_TIME w.1).setReg R.RTC_DATE w.2).setFlag R.RTC_STAT F.RTC_STAT_VALID false

/-- A seconds edge of the RTC: it counts one second, and the alarm is tested (R496, R500). -/
def State.rtcEdge (s : State) : State :=
  let n := s.rtcNow + 1
  if rtcEnd ≤ n then s.rtcRoll.rtcTest
  else
    let w := rtcWords n
    ((s.setReg R.RTC_TIME w.1).setReg R.RTC_DATE w.2).rtcTest

/-- RTC_ALARM: the seconds edge at which the armed alarm's time is reached (R500). -/
def execRtcAlarm (s : State) : Out := .next s.rtcTest

/-- RTC_ROLLOVER: the seconds edge after the last second of 2399 (R496). -/
def execRtcRollover (s : State) : Out := .next (if s.rtcNow + 1 = rtcEnd then s.rtcRoll.rtcTest else s)

/-! ### Supplies (R501, R504) -/

/-- BACKUP_SWITCH_TO_CELL: VDD_BK falls through the lockout and the switch threshold (R501). -/
def execBackupSwitchToCell (s : State) : Out := .next { s with rtc := { s.rtc with locked := true, onCell := true } }

/-- BACKUP_SWITCH_TO_MAIN (R501). -/
def execBackupSwitchToMain (s : State) : Out := .next { s with rtc := { s.rtc with onCell := false } }

/-- BACKUP_RELEASE: the interface unlocks 10 ms after the switch to main power (R501). -/
def execBackupRelease (s : State) : Out :=
  .next (if s.rtc.onCell then s else { s with rtc := { s.rtc with locked := false } })

/-- CELL_LOW: a measurement of the cell, in mV, below the threshold (R501). -/
def execCellLow (mv : Fin 4096) (s : State) : Out :=
  s.onCore (fun s =>
    ((s.setFld R.RTC_STAT F.RTC_STAT_CELL mv.val).setFlag R.RTC_STAT F.RTC_STAT_CELL_LOW true).event Ev.CELL_LOW)

/-- BK_LOST: the domain falls below 1.60 V on the cell and starts anew (R504). -/
def execBkLost (s : State) : Out :=
  .next (
    if !s.rtc.onCell then s
    else
      let s := s.rtcRoll
      let s := s.setReg R.RTC_ALM_CTRL 0
      let s := s.setFld R.RTC_TRIM F.RTC_TRIM_CAL 0
      let s := (List.range 16).foldl (fun s n => s.setReg (R.RTC_BKMEM n) 0) s
      let st := R.RTC_STAT
      let s := (s.setFlag st F.RTC_STAT_BK_LOST true).setFlag st F.RTC_STAT_BKMEM_CLR true
      let s := if (s.reg R.RTC_TREC_CHK).toNat = s.trecChk then s else (s.setFlag st F.RTC_STAT_TREC_LOST true).trecEmpty
      { s with rtc := { s.rtc with bk := false, alarmDue := false } })

end Sys2Proof.Machine
end

