-- ==== Sys2Proof/Machine/Scan.lean ====
section
/-!
DEFINITION. Scan-evaluated instructions (R174 to R176, R211, R212).
-/
namespace Sys2Proof.Machine

/-- An instance as R174 lays it out, less its key. -/
structure Inst where
  type : Nat
  inm : Bool
  q : Bool
  run : Bool
  chg : Bool
  /-- ET, or the bits of CV -/
  et : Nat
  pt : Nat
  deriving DecidableEq, Repr

/-- The instance in 16 bytes. -/
def Inst.read (b : List Byte) : Inst :=
  let st := leAt b 5 1
  ⟨leAt b 4 1, bit st 0, bit st 1, bit st 2, bit st 7, leAt b 8 4, leAt b 12 4⟩

/-- Bytes 4 to 15 of an instance; bytes 6–7 are zero. -/
def Inst.write (i : Inst) : List Byte :=
  leBytes 1 i.type ++ leBytes 1 (b2n i.inm + 2 * b2n i.q + 4 * b2n i.run + 128 * b2n i.chg) ++ [0, 0]
    ++ leBytes 4 i.et ++ leBytes 4 i.pt

/-- ET grown by Δ, saturating, at most the preset. -/
def etUp (et d pt : Nat) : Nat := min (satAdd et d 0xffffffff) pt

/-- A timer's, counter's or edge detector's evaluation: the instance with TYPE set, the input, Δ, the preset word, the
reset or load predicate; it gives the instance with ET or CV, Q and RUN new, and the result. -/
def evalTon (i : Inst) (inp : Bool) (d : Nat) : Inst × Bool :=
  if !inp then ({ i with et := 0, q := false }, false)
  else if !i.inm then ({ i with et := 0, q := i.pt == 0 }, i.pt == 0)
  else
    let e := etUp i.et d i.pt
    ({ i with et := e, q := decide (i.pt ≤ e) }, decide (i.pt ≤ e))

def evalTof (i : Inst) (inp : Bool) (d : Nat) : Inst × Bool :=
  if inp then ({ i with et := 0, q := true }, true)
  else if i.inm then ({ i with et := 0, q := decide (0 < i.pt) }, decide (0 < i.pt))
  else if i.q then
    let e := etUp i.et d i.pt
    ({ i with et := e, q := decide (e < i.pt) }, decide (e < i.pt))
  else (i, i.q)

def evalTp (i : Inst) (inp : Bool) (d : Nat) : Inst × Bool :=
  if i.run then
    let e := etUp i.et d i.pt
    if i.pt ≤ e then ({ i with et := e, run := false, q := false }, false) else ({ i with et := e }, i.q)
  else if inp && !i.inm && decide (0 < i.pt) then ({ i with et := 0, run := true, q := true }, true)
  else if !inp then ({ i with et := 0 }, i.q)
  else (i, i.q)

def evalCtu (i : Inst) (inp rst : Bool) (pv : Int) : Inst × Bool :=
  let cv := sval (w32 i.et)
  let cv := if rst then 0 else if inp && !i.inm && decide (cv < 2147483647) then cv + 1 else cv
  ({ i with et := (wrapW cv).toNat, q := decide (pv ≤ cv) }, decide (pv ≤ cv))

def evalCtd (i : Inst) (inp ld : Bool) (pv : Int) : Inst × Bool :=
  let cv := sval (w32 i.et)
  let cv := if ld then pv else if inp && !i.inm && decide (-2147483648 < cv) then cv - 1 else cv
  ({ i with et := (wrapW cv).toNat, q := decide (cv ≤ 0) }, decide (cv ≤ 0))

/-- Edge detectors give q to the predicate only (R175). -/
def evalUp (i : Inst) (inp : Bool) : Inst × Bool := (i, inp && !i.inm)
def evalDn (i : Inst) (inp : Bool) : Inst × Bool := (i, !inp && i.inm)

/-- The scan of an instance of type `type` (R175): TYPE 0 becomes the instruction's type with ET and state cleared and
the preset recorded; the evaluation; then INM and the preset. `none` where the instance is of another type. -/
def scanInst (i : Inst) (type : Nat) (inp : Bool) (preset : Nat) (ev : Inst → Inst × Bool) : Option (Inst × Bool) :=
  let i := if i.type = 0 then { i with type := type, inm := false, q := false, run := false, et := 0, pt := preset } else i
  if i.type ≠ type then none
  else
    let r := ev i
    some ({ r.1 with inm := inp, pt := preset }, r.2)

/-- A scan-evaluated instruction: pd takes the result; a wrong address or type raises its exception and gives pd = 0
(R165, R176). -/
def State.scanIns (s : State) (l : Nat) (q : PQ) (type : Nat) (pd ps rp : Fin 8) (ra rb : Fin 32)
    (ev : TaskCtx → State → Bool → Inst → Inst × Bool) : State :=
  let word := wordScan 0x1C pd.val ps.val ra.val rb.val (type + 8 * rp.val) q
  s.instr l q word 1 true [pd, ps, rp] (fun t s =>
    let a := (s.g l ra).toNat
    match winOf a with
    | none => (s.raise l cADDR word 0 0 a).setP l pd false
    | some w =>
      let s := s.settleW l w
      if a % 16 ≠ 0 then (s.raise l cALIGN word 0 0 a).setP l pd false
      else if (s.lamp l).win[w].st == .poison then (s.poisonHit l w word a).setP l pd false
      else
        let inp := s.pr l ps
        match scanInst (Inst.read (s.winBytes l w (a % 0x1000) 16)) type inp (s.g l rb).toNat (ev t s inp) with
        | none => (s.raise l cINST word 0 0 a).setP l pd false
        | some (i, r) => (s.winWrite l w (a % 0x1000 + 4) i.write).setP l pd r)

/-- TON. -/
def execTon (l : Fin 64) (q : PQ) (pd ps : Fin 8) (ra rb : Fin 32) (s : State) : Out :=
  s.onCore (fun s => s.scanIns l q 1 pd ps 0 ra rb (fun t _ inp i => evalTon i inp t.delta))

/-- TOF. -/
def execTof (l : Fin 64) (q : PQ) (pd ps : Fin 8) (ra rb : Fin 32) (s : State) : Out :=
  s.onCore (fun s => s.scanIns l q 2 pd ps 0 ra rb (fun t _ inp i => evalTof i inp t.delta))

/-- TP. -/
def execTp (l : Fin 64) (q : PQ) (pd ps : Fin 8) (ra rb : Fin 32) (s : State) : Out :=
  s.onCore (fun s => s.scanIns l q 3 pd ps 0 ra rb (fun t _ inp i => evalTp i inp t.delta))

/-- CTU: rp names the reset predicate, 0 none. -/
def execCtu (l : Fin 64) (q : PQ) (pd ps : Fin 8) (ra rb : Fin 32) (rp : Fin 8) (s : State) : Out :=
  s.onCore (fun s => s.scanIns l q 4 pd ps rp ra rb
    (fun _ s inp i => evalCtu i inp (rp != 0 && s.pr l rp) (sval (s.g l rb))))

/-- CTD: rp names the load predicate, 0 none. -/
def execCtd (l : Fin 64) (q : PQ) (pd ps : Fin 8) (ra rb : Fin 32) (rp : Fin 8) (s : State) : Out :=
  s.onCore (fun s => s.scanIns l q 5 pd ps rp ra rb
    (fun _ s inp i => evalCtd i inp (rp != 0 && s.pr l rp) (sval (s.g l rb))))

/-- EDGEUP. -/
def execEdgeup (l : Fin 64) (q : PQ) (pd ps : Fin 8) (ra rb : Fin 32) (s : State) : Out :=
  s.onCore (fun s => s.scanIns l q 6 pd ps 0 ra rb (fun _ _ inp i => evalUp i inp))

/-- EDGEDN. -/
def execEdgedn (l : Fin 64) (q : PQ) (pd ps : Fin 8) (ra rb : Fin 32) (s : State) : Out :=
  s.onCore (fun s => s.scanIns l q 7 pd ps 0 ra rb (fun _ _ inp i => evalDn i inp))

end Sys2Proof.Machine
end

