-- ==== Sys2Proof/Machine/Float.lean ====
section
/-!
DEFINITION. binary32 arithmetic under the rules of R177 (used by the float instructions and by the CLU, R246), and the
float instructions.
-/
namespace Sys2Proof.Machine

/-- A binary32 value as the instructions read it: subnormals are zero of the same sign (R177). A finite non-zero value
is m · 2^e. -/
inductive F32 where
  | nan
  | inf (neg : Bool)
  | zero (neg : Bool)
  | fin (neg : Bool) (m : Nat) (e : Int)
  deriving DecidableEq, Repr

/-- The canonical NaN. -/
abbrev fNaN : Word := 0x7FC00000
/-- A word of sign, exponent field and fraction. -/
def fPack (neg : Bool) (ex fr : Nat) : Word := w32 (b2n neg * 2 ^ 31 + ex * 2 ^ 23 + fr)

/-- The value a word holds. -/
def fRead (w : Word) : F32 :=
  let neg := w.getLsbD 31
  let ex : Nat := (w.toNat / 2 ^ 23) % 256
  let fr : Nat := w.toNat % 2 ^ 23
  if ex = 255 then if fr = 0 then .inf neg else .nan
  else if ex = 0 then .zero neg
  else .fin neg (2 ^ 23 + fr) ((ex : Int) - 150)

/-- A non-negative m · 2^e, plus a positive amount below 2^e where `more`, rounded to nearest even; a subnormal result
is zero of the same sign (R177). -/
def fRound (neg : Bool) (m : Nat) (e : Int) (more : Bool) : Word :=
  if m = 0 then fPack neg 0 0
  else
    let top := (Nat.log2 m : Int) + e - 23
    let q := if top < -149 then -149 else top
    let sh := q - e
    let r := if sh ≤ 0 then m <<< (-sh).toNat
      else
        let k := sh.toNat
        let f := m >>> k
        let rem := m % 2 ^ k
        if 2 * rem < 2 ^ k ∨ (2 * rem = 2 ^ k ∧ !more ∧ f % 2 = 0) then f else f + 1
    let (r, q) := if r = 2 ^ 24 then (2 ^ 23, q + 1) else (r, q)
    if r < 2 ^ 23 then fPack neg 0 0
    else
      let ex := (q + 150).toNat
      if 255 ≤ ex then fPack neg 255 0 else fPack neg ex (r - 2 ^ 23)

/-- The word of an integer multiple z · 2^e, rounded; zero is +0. -/
def fOfInt (z : Int) (e : Int) : Word := fRound (decide (z < 0)) z.natAbs e false

/-- The signed integer m of a finite value. -/
def fSig (neg : Bool) (m : Nat) : Int := if neg then -(m : Int) else m

def fNegW (w : Word) : Word := match fRead w with
  | .nan => fNaN
  | .inf n => fPack (!n) 255 0
  | .zero n => fPack (!n) 0 0
  | .fin n _ _ => fPack (!n) ((w.toNat / 2 ^ 23) % 256) (w.toNat % 2 ^ 23)

def fAbsW (w : Word) : Word := match fRead w with
  | .nan => fNaN
  | .inf _ => fPack false 255 0
  | .zero _ => fPack false 0 0
  | .fin _ _ _ => fPack false ((w.toNat / 2 ^ 23) % 256) (w.toNat % 2 ^ 23)

/-- The word with a subnormal read as zero and a NaN canonical. -/
def fFlush (w : Word) : Word := match fRead w with
  | .nan => fNaN
  | .zero n => fPack n 0 0
  | _ => w

def fAdd (a b : Word) : Word := match fRead a, fRead b with
  | .nan, _ => fNaN
  | _, .nan => fNaN
  | .inf n, .inf m => if n = m then fPack n 255 0 else fNaN
  | .inf n, _ => fPack n 255 0
  | _, .inf n => fPack n 255 0
  | .zero n, .zero m => fPack (n && m) 0 0
  | .zero _, .fin _ _ _ => b
  | .fin _ _ _, .zero _ => a
  | .fin n m e, .fin n' m' e' =>
    let lo := min e e'
    fOfInt (fSig n m * 2 ^ (e - lo).toNat + fSig n' m' * 2 ^ (e' - lo).toNat) lo

def fSub (a b : Word) : Word := fAdd a (fNegW b)

def fMul (a b : Word) : Word := match fRead a, fRead b with
  | .nan, _ => fNaN
  | _, .nan => fNaN
  | .inf _, .zero _ => fNaN
  | .zero _, .inf _ => fNaN
  | .inf n, .inf m => fPack (n != m) 255 0
  | .inf n, .fin m _ _ => fPack (n != m) 255 0
  | .fin n _ _, .inf m => fPack (n != m) 255 0
  | .zero n, .zero m => fPack (n != m) 0 0
  | .zero n, .fin m _ _ => fPack (n != m) 0 0
  | .fin n _ _, .zero m => fPack (n != m) 0 0
  | .fin n m e, .fin n' m' e' => fRound (n != n') (m * m') (e + e') false

def fDiv (a b : Word) : Word := match fRead a, fRead b with
  | .nan, _ => fNaN
  | _, .nan => fNaN
  | .inf _, .inf _ => fNaN
  | .zero _, .zero _ => fNaN
  | .inf n, .zero m => fPack (n != m) 255 0
  | .inf n, .fin m _ _ => fPack (n != m) 255 0
  | .fin n _ _, .inf m => fPack (n != m) 0 0
  | .zero n, .inf m => fPack (n != m) 0 0
  | .zero n, .fin m _ _ => fPack (n != m) 0 0
  | .fin n _ _, .zero m => fPack (n != m) 255 0
  | .fin n m e, .fin n' m' e' =>
    fRound (n != n') (m * 2 ^ 50 / m') (e - e' - 50) (decide ((m * 2 ^ 50) % m' ≠ 0))

def fSqrt (a : Word) : Word := match fRead a with
  | .nan => fNaN
  | .zero n => fPack n 0 0
  | .inf n => if n then fNaN else fPack false 255 0
  | .fin n m e =>
    if n then fNaN
    else
      let odd := e % 2 = 1
      let v := m * 2 ^ (if odd then 51 else 50)
      let e2 := (if odd then e - 51 else e - 50) / 2
      let r := isqrt 40 v
      fRound false r e2 (decide (r * r ≠ v))

/-- The order of two values that are not NaN, by their integers over a common exponent. -/
def fLtF : F32 → F32 → Bool
  | .nan, _ => false
  | _, .nan => false
  | .inf n, .inf m => n && !m
  | .inf n, _ => n
  | _, .inf m => !m
  | .zero _, .zero _ => false
  | .zero _, .fin m _ _ => !m
  | .fin n _ _, .zero _ => n
  | .fin n m e, .fin n' m' e' =>
    let lo := min e e'
    decide (fSig n m * 2 ^ (e - lo).toNat < fSig n' m' * 2 ^ (e' - lo).toNat)

def fIsNaN (a : Word) : Bool := fRead a == .nan
def fUn (a b : Word) : Bool := fIsNaN a || fIsNaN b
def fLt (a b : Word) : Bool := fLtF (fRead a) (fRead b)
def fLe (a b : Word) : Bool := !fUn a b && !fLtF (fRead b) (fRead a)
def fEq (a b : Word) : Bool := !fUn a b && !fLt a b && !fLt b a
/-- The value is neither infinite nor a NaN. -/
def fFinite (a : Word) : Bool := match fRead a with
  | .nan => false
  | .inf _ => false
  | _ => true

/-- The sign bit as read. -/
def fNeg? (a : Word) : Bool := match fRead a with
  | .nan => false
  | .inf n => n
  | .zero n => n
  | .fin n _ _ => n

/-- FMIN: the other operand of exactly one NaN; −0 below +0 (R177). -/
def fMin (a b : Word) : Word :=
  if fIsNaN a && fIsNaN b then fNaN else if fIsNaN a then fFlush b else if fIsNaN b then fFlush a
  else if fLt a b then fFlush a else if fLt b a then fFlush b else if fNeg? a then fFlush a else fFlush b

/-- FMAX. -/
def fMax (a b : Word) : Word :=
  if fIsNaN a && fIsNaN b then fNaN else if fIsNaN a then fFlush b else if fIsNaN b then fFlush a
  else if fLt b a then fFlush a else if fLt a b then fFlush b else if fNeg? a then fFlush b else fFlush a

/-- A finite value rounded to the nearest integer, ties to even. -/
def fToInt (neg : Bool) (m : Nat) (e : Int) : Int :=
  if 0 ≤ e then fSig neg m * 2 ^ e.toNat else roundShift (fSig neg m) (-e).toNat

/-- A value converted to an integer in [lo, hi], saturating; NaN gives 0 (R177, R249). -/
def fToRange (a : Word) (lo hi : Int) : Int := match fRead a with
  | .nan => 0
  | .inf n => if n then lo else hi
  | .zero _ => 0
  | .fin n m e => max lo (min hi (fToInt n m e))

/-- FCVTSI. -/
def fCvtSI (a : Word) : Word := wrapW (fToRange a (-2147483648) 2147483647)
/-- FCVTIS. -/
def fCvtIS (a : Word) : Word := fOfInt (sval a) 0

/-- A float instruction of two registers; none is in Mitrane-S (R191). -/
def State.fl2 (s : State) (l : Nat) (q : PQ) (fn : Nat) (rd ra rb : Fin 32) (f : Word → Word → Word) : State :=
  s.instr l q (wordA 0x20 rd.val ra.val rb.val fn q) 1 false [] (fun _ s => s.setG l rd (f (s.g l ra) (s.g l rb)))

/-- A float instruction of one register. -/
def State.fl1 (s : State) (l : Nat) (q : PQ) (fn : Nat) (rd ra : Fin 32) (f : Word → Word) : State :=
  s.instr l q (wordA 0x20 rd.val ra.val 0 fn q) 1 false [] (fun _ s => s.setG l rd (f (s.g l ra)))

/-- A float comparison. -/
def State.flCmp (s : State) (l : Nat) (q : PQ) (fn : Nat) (pd : Fin 8) (ra rb : Fin 32) (f : Word → Word → Bool) : State :=
  s.instr l q (wordA 0x21 pd.val ra.val rb.val fn q) 1 false [pd] (fun _ s => s.setP l pd (f (s.g l ra) (s.g l rb)))

/-- FADD. -/
def execFadd (l : Fin 64) (q : PQ) (rd ra rb : Fin 32) (s : State) : Out := s.onCore (fun s => s.fl2 l q 0 rd ra rb fAdd)

/-- FSUB. -/
def execFsub (l : Fin 64) (q : PQ) (rd ra rb : Fin 32) (s : State) : Out := s.onCore (fun s => s.fl2 l q 1 rd ra rb fSub)

/-- FMUL. -/
def execFmul (l : Fin 64) (q : PQ) (rd ra rb : Fin 32) (s : State) : Out := s.onCore (fun s => s.fl2 l q 2 rd ra rb fMul)

/-- FDIV. -/
def execFdiv (l : Fin 64) (q : PQ) (rd ra rb : Fin 32) (s : State) : Out := s.onCore (fun s => s.fl2 l q 3 rd ra rb fDiv)

/-- FMIN. -/
def execFmin (l : Fin 64) (q : PQ) (rd ra rb : Fin 32) (s : State) : Out := s.onCore (fun s => s.fl2 l q 5 rd ra rb fMin)

/-- FMAX. -/
def execFmax (l : Fin 64) (q : PQ) (rd ra rb : Fin 32) (s : State) : Out := s.onCore (fun s => s.fl2 l q 6 rd ra rb fMax)

/-- FSQRT. -/
def execFsqrt (l : Fin 64) (q : PQ) (rd ra : Fin 32) (s : State) : Out := s.onCore (fun s => s.fl1 l q 4 rd ra fSqrt)

/-- FABS. -/
def execFabs (l : Fin 64) (q : PQ) (rd ra : Fin 32) (s : State) : Out := s.onCore (fun s => s.fl1 l q 7 rd ra fAbsW)

/-- FNEG. -/
def execFneg (l : Fin 64) (q : PQ) (rd ra : Fin 32) (s : State) : Out := s.onCore (fun s => s.fl1 l q 8 rd ra fNegW)

/-- FCVTIS. -/
def execFcvtis (l : Fin 64) (q : PQ) (rd ra : Fin 32) (s : State) : Out := s.onCore (fun s => s.fl1 l q 9 rd ra fCvtIS)

/-- FCVTSI. -/
def execFcvtsi (l : Fin 64) (q : PQ) (rd ra : Fin 32) (s : State) : Out := s.onCore (fun s => s.fl1 l q 10 rd ra fCvtSI)

/-- FCMP.EQ. -/
def execFcmpEq (l : Fin 64) (q : PQ) (pd : Fin 8) (ra rb : Fin 32) (s : State) : Out := s.onCore (fun s => s.flCmp l q 0 pd ra rb fEq)

/-- FCMP.LT. -/
def execFcmpLt (l : Fin 64) (q : PQ) (pd : Fin 8) (ra rb : Fin 32) (s : State) : Out := s.onCore (fun s => s.flCmp l q 1 pd ra rb fLt)

/-- FCMP.LE. -/
def execFcmpLe (l : Fin 64) (q : PQ) (pd : Fin 8) (ra rb : Fin 32) (s : State) : Out := s.onCore (fun s => s.flCmp l q 2 pd ra rb fLe)

/-- FCMP.UN: unordered. -/
def execFcmpUn (l : Fin 64) (q : PQ) (pd : Fin 8) (ra rb : Fin 32) (s : State) : Out := s.onCore (fun s => s.flCmp l q 3 pd ra rb fUn)

end Sys2Proof.Machine
end

