-- ==== Sys2Proof/Machine/Signal.lean ====
section
/-!
DEFINITION. Signal instructions (R178, R179).
-/
namespace Sys2Proof.Machine

/-! ### Accumulators -/

/-- MAC, MACU, MSU: the accumulator and a product, modulo 2⁶⁴. -/
def State.mac (s : State) (l : Nat) (q : PQ) (ac : Fin 4) (ra rb : Fin 32) (f : Dword → Word → Word → Dword) : State :=
  s.plain l q [] (fun s => s.setAcc l ac (f (s.acc l ac) (s.g l ra) (s.g l rb)))

/-- MAC. -/
def execMac (l : Fin 64) (q : PQ) (ac : Fin 4) (ra rb : Fin 32) (s : State) : Out :=
  s.onCore (fun s => s.mac l q ac ra rb (fun a x y => a + BitVec.ofInt 64 (sval x * sval y)))

/-- MACU. -/
def execMacu (l : Fin 64) (q : PQ) (ac : Fin 4) (ra rb : Fin 32) (s : State) : Out :=
  s.onCore (fun s => s.mac l q ac ra rb (fun a x y => a + BitVec.ofNat 64 (uval x * uval y)))

/-- MSU. -/
def execMsu (l : Fin 64) (q : PQ) (ac : Fin 4) (ra rb : Fin 32) (s : State) : Out :=
  s.onCore (fun s => s.mac l q ac ra rb (fun a x y => a - BitVec.ofInt 64 (sval x * sval y)))

/-- ACCLR. -/
def execAcclr (l : Fin 64) (q : PQ) (ac : Fin 4) (s : State) : Out :=
  s.onCore (fun s => s.plain l q [] (fun s => s.setAcc l ac 0))

/-- ACCWR: a[63:32] = gb, a[31:0] = ga. -/
def execAccwr (l : Fin 64) (q : PQ) (ac : Fin 4) (ra rb : Fin 32) (s : State) : Out :=
  s.onCore (fun s => s.plain l q [] (fun s => s.setAcc l ac (s.g l rb ++ s.g l ra)))

/-- ACCRD: the accumulator shifted right arithmetically, saturated to 32 bits. -/
def execAccrd (l : Fin 64) (q : PQ) (rd : Fin 32) (ac : Fin 4) (sh : Fin 32) (s : State) : Out :=
  s.onCore (fun s => s.plain l q [] (fun s => s.setG l rd (satW ((s.acc l ac).toInt / 2 ^ sh.val))))

/-- ACCRDH: a[63:32]. -/
def execAccrdh (l : Fin 64) (q : PQ) (rd : Fin 32) (ac : Fin 4) (s : State) : Out :=
  s.onCore (fun s => s.plain l q [] (fun s => s.setG l rd ((s.acc l ac).extractLsb' 32 32)))

/-! ### Complex accumulators (R179) -/

/-- The real and imaginary part of an accumulator. -/
def accRe (a : Dword) : Int := sval (a.extractLsb' 32 32)
def accIm (a : Dword) : Int := sval (a.extractLsb' 0 32)
def accMk (re im : Word) : Dword := re ++ im

/-- cos(2πi/96) and cos(2πi/80) in Q1.30 for the first quarter of a turn. -/
def cos96 : List Int := [1073741824, 1071442860, 1064555814, 1053110176, 1037154959, 1016758484,
  992008094, 963009773, 929887697, 892783698, 851856663, 807281846,
  759250125, 707967178, 653652607, 596538995, 536870912, 474903865,
  410903207, 345142998, 277904834, 209476638, 140151432, 70226075,
  0]
def cos80 : List Int := [1073741824, 1070431836, 1060522280, 1044074252, 1021189159, 992008094,
  956710970, 915515405, 868675383, 816479688, 759250125, 697339532,
  631129609, 561028562, 487468587, 410903207, 331804471, 250660051,
  167970228, 84244813, 0]

/-- cos(2πk/N) in Q1.30 from its first quarter. -/
def cosQ (tab : List Int) (n k : Nat) : Int :=
  let k := k % n
  let k := if n < 2 * k then n - k else k
  if n < 4 * k then -(tab.getD (n / 2 - k) 0) else tab.getD k 0

def sdftCos (n80 : Bool) (k : Nat) : Int := if n80 then cosQ cos80 80 k else cosQ cos96 96 k
/-- sin(2πk/N) = cos(2π(k + 3N/4)/N). -/
def sdftSin (n80 : Bool) (k : Nat) : Int := if n80 then cosQ cos80 80 (k + 60) else cosQ cos96 96 (k + 72)

/-- A product sum shifted right by 30, rounded to nearest even and saturated. -/
def q30 (z : Int) : Word := satW (roundShift z 30)

/-- The bin update of SDFT. -/
def sdft (a : Dword) (new old : Word) (n80 : Bool) (k : Nat) : Dword :=
  let c := sdftCos n80 k
  let sn := sdftSin n80 k
  let re := accRe a + sval new - sval old
  let im := accIm a
  accMk (q30 (re * c - im * sn)) (q30 (re * sn + im * c))

/-- SDFT. -/
def execSdft (l : Fin 64) (q : PQ) (ac : Fin 4) (ra rb : Fin 32) (n80 : Bool) (k : Fin 64) (s : State) : Out :=
  s.onCore (fun s => s.plain l q [] (fun s => s.setAcc l ac (sdft (s.acc l ac) (s.g l ra) (s.g l rb) n80 k.val)))

/-- √3/2 in Q1.30. -/
abbrev qSqrt3h : Int := 929887697

/-- (a0 + u·a1 + v·a2) / 3 for u, v of real part `r` and imaginary parts ±`i`, in Q1.30: the exact sum divided by 3
and shifted right by 30 with one rounding (log entry 8). -/
def seqOf (a0 a1 a2 : Dword) (r i : Int) : Dword :=
  let re := accRe a0 * 2 ^ 30 + (accRe a1 * r - accIm a1 * i) + (accRe a2 * r + accIm a2 * i)
  let im := accIm a0 * 2 ^ 30 + (accRe a1 * i + accIm a1 * r) + (accIm a2 * r - accRe a2 * i)
  accMk (satW (roundDiv re (3 * 2 ^ 30))) (satW (roundDiv im (3 * 2 ^ 30)))

/-- A sequence component of a0, a1, a2 into the named accumulator. -/
def State.seq (s : State) (l : Nat) (q : PQ) (ac : Fin 4) (r i : Int) : State :=
  s.plain l q [] (fun s => s.setAcc l ac (seqOf (s.acc l 0) (s.acc l 1) (s.acc l 2) r i))

/-- SEQ0: zero sequence. -/
def execSeq0 (l : Fin 64) (q : PQ) (ac : Fin 4) (s : State) : Out := s.onCore (fun s => s.seq l q ac (2 ^ 30) 0)

/-- SEQ1: positive sequence, u = (−1/2, +√3/2) on a1 and its conjugate on a2. -/
def execSeq1 (l : Fin 64) (q : PQ) (ac : Fin 4) (s : State) : Out :=
  s.onCore (fun s => s.seq l q ac (-(2 ^ 29)) qSqrt3h)

/-- SEQ2: negative sequence. -/
def execSeq2 (l : Fin 64) (q : PQ) (ac : Fin 4) (s : State) : Out :=
  s.onCore (fun s => s.seq l q ac (-(2 ^ 29)) (-qSqrt3h))

/-! ### CORDIC and square root -/

/-- atan(2⁻ⁱ) in units of 2⁻⁶⁴ turn. -/
def atanTab : List Int := [2305843009213693952, 1361218612134873190, 719230530580881038, 365092647525521947,
  183254791493294829, 91716730292036216, 45869556482713130, 22936177926750895,
  11468263948075831, 5734153847876408, 2867079658191483, 1433540170878135,
  716770128161890, 358385069421298, 179192535378193, 89596267772540,
  44798133896700, 22399066949654, 11199533474990, 5599766737515,
  2799883368760, 1399941684380, 699970842190, 349985421095,
  174992710548, 87496355274, 43748177637, 21874088818,
  10937044409, 5468522205, 2734261102, 1367130551,
  683565276, 341782638, 170891319, 85445659,
  42722830, 21361415, 10680707, 5340354,
  2670177, 1335088, 667544, 333772,
  166886, 83443, 41722, 20861,
  10430, 5215, 2608, 1304]

/-- The CORDIC gain's inverse over the table, in units of 2⁻⁶². -/
abbrev cordK : Int := 2800459870029452954

/-- Rotation of (x, y) by the angle z over the table. -/
def cordRot : List Int → Nat → Int → Int → Int → Int × Int
  | [], _, x, y, _ => (x, y)
  | t :: ts, i, x, y, z =>
    if 0 ≤ z then cordRot ts (i + 1) (x - y / 2 ^ i) (y + x / 2 ^ i) (z - t)
    else cordRot ts (i + 1) (x + y / 2 ^ i) (y - x / 2 ^ i) (z + t)

/-- The angle of (x, y), x ≥ 0, over the table. -/
def cordVec : List Int → Nat → Int → Int → Int → Int
  | [], _, _, _, z => z
  | t :: ts, i, x, y, z =>
    if 0 ≤ y then cordVec ts (i + 1) (x + y / 2 ^ i) (y - x / 2 ^ i) (z + t)
    else cordVec ts (i + 1) (x - y / 2 ^ i) (y + x / 2 ^ i) (z - t)

/-- The angle of (x, y) in units of 2⁻⁶⁴ turn. -/
def angleRef (x y : Int) : Int :=
  let x' := x * 2 ^ 64
  let y' := y * 2 ^ 64
  if 0 ≤ x then cordVec atanTab 0 x' y' 0 else 2 ^ 63 + cordVec atanTab 0 (-x') (-y') 0

/-- Cosine and sine of an angle in units of 2⁻³² turn, in units of 2⁻⁶². -/
def cosSinRef (a : Word) : Int × Int :=
  let z : Int := ((a.toNat % 2 ^ 30 : Nat) : Int) * 2 ^ 32
  let r := cordRot atanTab 0 cordK 0 z
  match a.toNat / 2 ^ 30 with
  | 0 => r
  | 1 => (-r.2, r.1)
  | 2 => (-r.1, -r.2)
  | _ => (r.2, -r.1)

/-- An integer at most `b` from v / 2³², which one is free (log entry 4): one of the 2b + 1 around an integer, else one of the 2b on both
sides. -/
def within (b v : Int) (n : Nat) : Int :=
  let f := v / 2 ^ 32
  let r := v % 2 ^ 32
  let c := Config.cordErr n
  if r < 2 ^ 20 then f - b + c % (2 * b + 1)
  else if 2 ^ 32 - 2 ^ 20 < r then f + 1 - b + c % (2 * b + 1)
  else f - b + 1 + c % (2 * b)

/-- An integer at most 1 from the magnitude of (x, y), which one is free (log entry 4). -/
def magWithin (x y : Int) (n : Nat) : Int :=
  let v := x.natAbs * x.natAbs + y.natAbs * y.natAbs
  let r := isqrt 33 v
  if r * r = v then r - 1 + Config.cordErr n % 3 else r + Config.cordErr n % 2

/-- The register gd + 1 of an even gd. -/
def nextReg (rd : Fin 32) : Fin 32 := rd + 1

/-- CORDIC instructions need an even gd, else ILL (R165). -/
def State.cordic (s : State) (l : Nat) (q : PQ) (word : Word) (rd : Fin 32) (f : State → Word × Word) : State :=
  if (s.lamp l).task.isSome && rd.val % 2 = 1 then s.kill l cILL word (s.lamp l).pc
  else s.plain l q [] (fun s =>
    let r := f s
    (((s.setG l rd r.1).setG l (nextReg rd) r.2).draw).draw)

/-- CORDV: magnitude of (ga, gb) within 1 LSB and its angle within 4 units; (0, 0) gives 0, 0. -/
def execCordv (l : Fin 64) (q : PQ) (rd ra rb : Fin 32) (s : State) : Out :=
  s.onCore (fun s => s.cordic l q (wordA 0x26 rd.val ra.val rb.val 3 q) rd (fun s =>
    let x := sval (s.g l ra)
    let y := sval (s.g l rb)
    if x = 0 ∧ y = 0 then (0, 0)
    else (wrapW (magWithin x y s.free), wrapW (within 4 (angleRef x y) (s.free + 1)))))

/-- CORDR: cosine and sine of ga, in Q1.30 within 2 LSB. -/
def execCordr (l : Fin 64) (q : PQ) (rd ra : Fin 32) (s : State) : Out :=
  s.onCore (fun s => s.cordic l q (wordA 0x26 rd.val ra.val 0 4 q) rd (fun s =>
    let r := cosSinRef (s.g l ra)
    (wrapW (within 2 r.1 s.free), wrapW (within 2 r.2 (s.free + 1)))))

/-- ISQRT. -/
def execIsqrt (l : Fin 64) (q : PQ) (rd ra : Fin 32) (s : State) : Out :=
  s.onCore (fun s => s.alu1 l q rd ra (fun a => w32 (isqrt 16 a.toNat)))

end Sys2Proof.Machine
end

