-- ==== Sys2Proof/Machine/Engine.lean ====
section
/-!
DEFINITION. Engine positions and partitions (chapter 6, R218, R238 to R240): slots, code pages, partition commands,
event routes, self-test and migration; and the tile and task-ending instructions.
-/
namespace Sys2Proof.Machine

/-! ### The schedule's task entries -/

/-- The task entries of a bank that are valid, rising. -/
def State.validTasks (s : State) (b : Bool) : List Nat :=
  let base := if b then 0xA004 else 0x2004
  (s.srf.filter (fun e => base ≤ e.1 && e.1 < base + 0x4000 && (e.1 - base) % 8 == 0 && e.2.getLsbD 31)).map
    (fun e => (e.1 - base) / 8)

/-- The slot entries of a bank that are valid, rising. -/
def State.validSlots (s : State) (b : Bool) : List Nat :=
  let base := if b then 0x9000 else 0x1000
  (s.srf.filter (fun e => base ≤ e.1 && e.1 < base + 0x1000 && e.2.getLsbD 31)).map (fun e => (e.1 - base) / 4)

def State.slotPart (s : State) (b : Bool) (n : Nat) : Nat := F.TICK_SLOT_A_PART.get (s.slotReg b n)
def State.taskSlot (s : State) (b : Bool) (n : Nat) : Nat := F.TICK_TASK_BIND_A_SLOT.get (s.bindReg b n)
def State.taskKind (s : State) (b : Bool) (n : Nat) : Nat := F.TICK_TASK_BIND_A_KIND.get (s.bindReg b n)
def State.taskAddr (s : State) (b : Bool) (n : Nat) : Nat := F.TICK_TASK_BIND_A_ENTRY.get (s.bindReg b n)
def State.taskPeriod (s : State) (b : Bool) (n : Nat) : Nat := F.TICK_TASK_PER_A_PERIOD.get (s.perReg b n)
def State.taskPhase (s : State) (b : Bool) (n : Nat) : Nat := F.TICK_TASK_PER_A_PHASE.get (s.perReg b n)
/-- The partition a task entry runs for: its slot's. -/
def State.taskPart (s : State) (b : Bool) (n : Nat) : Nat := s.slotPart b (s.taskSlot b n)

/-- The task entry is due in the current tick (R96, R98, R160). -/
def State.due (s : State) (n : Nat) : Bool :=
  let b := s.bankB
  if s.taskKind b n == 1 then (s.maskReg b n &&& (s.part (s.taskPart b n)).evSnap) != 0
  else if s.taskPeriod b n = 0 then false
  else s.tick.abs % s.taskPeriod b n == s.taskPhase b n

/-- The declared entry record of a program at a word address (R157). -/
def imgEntryAt (i : Image) (addr : Nat) : Option ImgEntry := i.entries.find? (fun e => e.addr == addr)

/-- The state of a code page (ENG_CODE_PAGE_n.STATE). -/
def State.pageState (s : State) (n : Nat) : Nat := s.fld (R.ENG_CODE_PAGE n) F.ENG_CODE_PAGE_STATE
def State.setPage (s : State) (n v : Nat) : State := s.setFld (R.ENG_CODE_PAGE n) F.ENG_CODE_PAGE_STATE v

/-- A page the entry can reach on lamp l is not READY (R240 step 3). -/
def State.notReady (s : State) (l p addr : Nat) : Bool := match (s.part p).prog with
  | some g => match imgEntryAt g.image addr with
    | some e => (List.range 16).any (fun k => bit e.pages k && s.pageState (16 * l + k) != 2)
    | none => false
  | none => false

/-- The task entry is the partition's error handler (R515). -/
def State.isHandler (s : State) (p addr : Nat) : Bool :=
  s.flag (R.ERR_PQ_CFG p) F.ERR_PQ_CFG_HDL_EN &&
  (match (s.part p).prog with
    | some g => match imgEntryAt g.image addr with
      | some e => e.id == s.fld (R.ERR_PQ_CFG p) F.ERR_PQ_CFG_HANDLER_ID
      | none => false
    | none => false)

/-- The task on lamp l has overrun its slot (R100, R218): a record in the partition's queue and the global log, OVR
counted, and the partition stops. -/
def State.overrun (s : State) (l : Nat) : State := match (s.lamp l).task with
  | none => s
  | some t =>
    let s := s.log ⟨12, t.part, l, none, 0, false, 0, BitVec.ofNat 64 t.entry⟩ (some t.part) true
    let s := s.incFld (R.ENG_PART_STAT t.part) F.ENG_PART_STAT_OVR 255
    s.faultStop t.part .overrun

/-- OVERRUN (R218). -/
def execOverrun (l : Fin 64) (s : State) : Out := s.onCore (fun s => s.overrun l)

/-- The start of a slot (R99): an operation in flight completes, a task still running has overrun, the registers are
cleared and the windows empty. -/
def State.clearLamp (s : State) (l : Nat) : State :=
  ((s.settle l).overrun l).modLamp l (fun x => { Lamp.reset with lastPart := x.lastPart, lastEntry := x.lastEntry })

/-- The slot's task starts (R99, R144). -/
def State.startTask (s : State) (l p slot n : Nat) : State :=
  let b := s.bankB
  let x := s.part p
  let ev := s.taskKind b n == 1
  let t : TaskCtx := ⟨p, slot, n, s.taskKind b n == 2, ev, if ev then 1 else s.taskPeriod b n, !x.ran.contains n,
    x.xchgd && !x.ranNew.contains n, s.isHandler p (s.taskAddr b n)⟩
  let s := s.modPart p (fun x => { x with ran := luniq (x.ran ++ [n]), ranNew := luniq (x.ranNew ++ [n]) })
  s.modLamp l (fun y => { y with task := some t, pc := s.taskAddr b n, lastPart := some p, lastEntry := n })

/-- SLOT_ENTRY (R99, R160, R240): in a valid slot of a RUNNING partition the due task starts, unless a page it can
reach is not READY; such a slot counts as ended with ENDSLOT, and as skipped during a migration of the position. -/
def execSlotEntry (l : Fin 64) (slot : Fin 16) (s : State) : Out :=
  s.onCore (fun s =>
    let n := 16 * l.val + slot.val
    let b := s.bankB
    if !(s.slotReg b n).getLsbD 31 then s
    else
      let p := s.slotPart b n
      let s := s.clearLamp l
      if !s.running p || (s.part p).barred then s
      else match (s.validTasks b).find? (fun t => s.taskSlot b t == n && s.due t) with
        | none => s
        | some t =>
          if s.notReady l p (s.taskAddr b t) then
            let s := s.modPart p (fun x => { x with ended := true })
            match s.eng.migration with
            | some m =>
              if m.pos = l.val then { s with eng := { s.eng with migration := some { m with skipped := m.skipped + 1 } } } else s
            | none => s
          else s.startTask l p slot t)

/-! ### Tile instructions and the end of a task -/

/-- TLOAD, TSTORE, MBX (R180): the tile unit takes the operation when it is free. -/
def State.tileIns (s : State) (l : Nat) (q : PQ) (k : TileKind) (sb : Nat) (pd w : Fin 8) (loc : Fin 4096) : State :=
  let word := wordT pd.val w.val loc.val sb q
  s.instr l q word 1 true [pd] (fun t s =>
    let s := s.settle l
    let pc := (s.lamp l).pc
    s.modLamp l (fun x => { x with pend := some ⟨k, w, loc, pd, t.part, t.safety, word, pc⟩ }))

/-- TLOAD (R116). -/
def execTload (l : Fin 64) (q : PQ) (pd w : Fin 8) (loc : Fin 4096) (s : State) : Out :=
  s.onCore (fun s => s.tileIns l q .load 0 pd w loc)

/-- TSTORE (R119). -/
def execTstore (l : Fin 64) (q : PQ) (pd w : Fin 8) (loc : Fin 4096) (s : State) : Out :=
  s.onCore (fun s => s.tileIns l q .store 1 pd w loc)

/-- MBX (R181). -/
def execMbx (l : Fin 64) (q : PQ) (pd w : Fin 8) (loc : Fin 4096) (s : State) : Out :=
  s.onCore (fun s => s.tileIns l q .mbx 3 pd w loc)

/-- TREL: the window becomes EMPTY (R115). -/
def execTrel (l : Fin 64) (q : PQ) (w : Fin 8) (s : State) : Out :=
  s.onCore (fun s => s.plain l q [] (fun s =>
    let s := s.settleW l w
    let x := (s.lamp l).win[w]
    s.setWin l w { x with st := .empty, lines := 0, restored := false, cause := 0 }))

/-- TILE_OP_COMPLETE: the tile operation of lamp l completes (R116, R119). -/
def execTileOpComplete (l : Fin 64) (s : State) : Out := s.onCore (fun s => s.settle l)

/-- ENDSLOT (R100, R187, R219): issued when every earlier operation has completed; the task has ended with ENDSLOT. -/
def execEndslot (l : Fin 64) (q : PQ) (s : State) : Out :=
  s.onCore (fun s => s.notLast l (wordS 0 0 2 0 q) 1 (fun s => s.instr l q (wordS 0 0 2 0 q) 1 true [] (fun t s =>
    let s := s.settle l
    let s := s.modPart t.part (fun x =>
      { x with ended := true, endedEntries := luniq (x.endedEntries ++ [t.entry]),
               endedNow := luniq (x.endedNow ++ [t.entry]) })
    s.endTask l (wordS 0 0 2 0 q))))

/-- TRAP: the record, then as ENDSLOT, but the task has not ended with ENDSLOT (R186, R219). -/
def execTrap (l : Fin 64) (q : PQ) (code : BitVec 8) (s : State) : Out :=
  s.onCore (fun s => s.instr l q (wordS 0 0 3 code.toNat q) 1 true [] (fun _ s =>
    let s := s.settle l
    (s.raise l cTRAP (wordS 0 0 3 code.toNat q) code.toNat 0 (s.lamp l).pc).endTask l (wordS 0 0 3 code.toNat q)))

/-- BELAY: a freeze trigger where BELAY_EN is set; one refused lets the task continue (R186, R517, R518). -/
def execBelay (l : Fin 64) (q : PQ) (s : State) : Out :=
  s.onCore (fun s => s.instr l q (wordS 0 0 4 0 q) 1 false [] (fun t s =>
    if s.flag R.ERR_FRZ_CFG F.ERR_FRZ_CFG_BELAY_EN then s.freezeTrigger 4 none t.part l else s))

/-! ### Code pages (R146, R147, R240) -/

/-- Pages of position l bound to a CODE tile that are not READY. -/
def State.pagesLeft (s : State) (l : Nat) : List Nat :=
  s.eng.bound.filter (fun n => n / 16 == l && s.pageState n != 2)

/-- A migration whose position has every page READY ends (R240 step 4). -/
def State.migrationEnd (s : State) : State := match s.eng.migration with
  | none => s
  | some m =>
    let left := (s.pagesLeft m.pos).length
    let s := s.setFld R.ENG_MIGRATE F.ENG_MIGRATE_PAGES_LEFT left
    if left = 0 then
      let s : State := { s with eng := { s.eng with migration := none } }
      (s.setFlag R.ENG_MIGRATE F.ENG_MIGRATE_ACTIVE false).event Ev.LAMP_MIGRATED 0xFF
        (m.pos * 2 ^ 24 + m.retired * 2 ^ 16 + m.fresh * 2 ^ 8) m.skipped
    else s

/-- The cause of a failing copy from a CODE tile of partition p (R116, R147): the kind must be CODE. -/
def State.copyCause (s : State) (loc p : Nat) : Option Nat :=
  if s.tiles.dirBad.contains loc then some wcIDENT
  else if !s.dirValid loc || s.dirOwner loc != p then some wcOWNER
  else if s.dirKind loc != kCODE then some wcKIND
  else if s.dirState loc == 1 then some wcREPAIRING
  else s.sealFail loc

/-- The tile a page is copied from: a staged page's of an exchange being staged, or the bound one's while the partition
is STARTING or the position migrates. -/
def State.copySource (s : State) (l n p : Nat) : Option Nat :=
  let staged := match (s.part p).xchg with
    | some x => (x.pages.find? (fun e => e.1 == n)).map (fun e => e.2.1)
    | none => none
  match staged with
  | some loc => if s.dirValid loc then some loc else none
  | none =>
    let migr := match s.eng.migration with | some m => m.pos == l | none => false
    if s.eng.bound.contains n && (s.pstate p == psStarting || migr || s.pageState n == 3) then
      some (s.fld (R.ENG_CODE_PAGE n) F.ENG_CODE_PAGE_LOC)
    else none

/-- CODE_PAGE_COPY: a page is copied from its CODE tile with the load checks, becoming READY or BAD (R147, R226,
R240). -/
def execCodePageCopy (l : Fin 64) (page : Fin 16) (s : State) : Out :=
  s.onCore (fun s =>
    let n := 16 * l.val + page.val
    if !s.flag (R.ENG_CODE_PAGE n) F.ENG_CODE_PAGE_VALID then s
    else
      let p := s.fld (R.ENG_CODE_PAGE n) F.ENG_CODE_PAGE_PART
      match s.copySource l n p with
      | none => s
      | some loc =>
        match s.copyCause loc p with
        | some c => if 3 ≤ c && c ≤ 6 then (s.setPage n 3).startRepair loc else s.setPage n 3
        | none =>
          let b := s.payload loc ++ List.replicate 32 0
          let s := (s.setBytes (pageAddr l.val page.val) b).setPage n 2
          let s := match (s.part p).xchg with
            | some x =>
              let ps := x.pages.map (fun (e : Nat × Nat × Bool) => if e.1 = n then (e.1, e.2.1, true) else e)
              let s := s.modPart p (fun y => { y with xchg := some { x with pages := ps } })
              s.setFld (R.ENG_XCHG_STAT p) F.ENG_XCHG_STAT_PAGES_LEFT (ps.filter (fun (e : Nat × Nat × Bool) => !e.2.2)).length
            | none => s
          s.migrationEnd)

/-! ### Partition commands (R154, R156, R561) -/

/-- The code pages of partition p that placement has bound to a CODE tile. -/
def State.boundPages (s : State) (p : Nat) : List Nat :=
  s.eng.bound.filter (fun n => s.fld (R.ENG_CODE_PAGE n) F.ENG_CODE_PAGE_PART == p)

/-- The partition enters STARTING: its bound pages are to be copied (R154). -/
def State.toStarting (s : State) (p : Nat) : State :=
  (s.boundPages p).foldl (fun s n => s.setPage n 1)
    (((s.setPstate p psStarting).ringsStart p).modPart p (fun x => { x with startNow := true }))

/-- A command not listed for the partition's state (R154). -/
def State.cmdRefused (s : State) (p : Nat) : State := s.event Ev.CMD_REFUSED p

/-- A partition command written to ENG_PART_CTRL_p (R154): 1 ALLOT, 2 START, 3 STOP, 4 RESTART, 5 END. Those to
partition 0 are accepted from an OWNER session only, and partition 0 cannot be ended (R156). A START or RESTART in a
tick in which a stop for a fault is established is refused (R561). -/
def State.partCmd (s : State) (p cmd : Nat) (owner : Bool) : State :=
  let st := s.pstate p
  let fault : Bool := match (s.part p).stopReq with | some c => c.isFault | none => false
  if cmd = 0 ∨ 5 < cmd then s
  else if p = 0 && !owner then s.event Ev.PART0_CTRL_REFUSED 0 cmd
  else match cmd with
    | 1 => if st = psFree then s.setPstate p psIdle else s.cmdRefused p
    | 2 => if (st = psIdle ∨ st = psStopped) ∧ ¬ fault ∧ ¬ (s.part p).endReq then s.toStarting p else s.cmdRefused p
    | 3 => if st = psStarting ∨ st = psRunning then s.askStop p .command else s.cmdRefused p
    | 4 => if (st = psStarting ∨ st = psRunning) ∧ ¬ fault then s.askStop p .restart else s.cmdRefused p
    | _ => if p ≠ 0 ∧ (st = psIdle ∨ st = psStarting ∨ st = psRunning ∨ st = psStopped) then
        s.modPart p (fun x => { x with endReq := true }) else s.cmdRefused p

/-- ALLOT. -/
def execPartAllot (part : Fin 128) (owner : Bool) (s : State) : Out := s.onCore (fun s => s.partCmd part 1 owner)
/-- START. -/
def execPartStart (part : Fin 128) (owner : Bool) (s : State) : Out := s.onCore (fun s => s.partCmd part 2 owner)
/-- STOP. -/
def execPartStop (part : Fin 128) (owner : Bool) (s : State) : Out := s.onCore (fun s => s.partCmd part 3 owner)
/-- RESTART. -/
def execPartRestart (part : Fin 128) (owner : Bool) (s : State) : Out := s.onCore (fun s => s.partCmd part 4 owner)
/-- END. -/
def execEndTenancy (part : Fin 128) (owner : Bool) (s : State) : Out := s.onCore (fun s => s.partCmd part 5 owner)

/-- A partition may enter RUNNING: it is STARTING, its bound pages are all READY, and nothing stops it in this tick. -/
def State.mayRun (s : State) (p : Nat) : Bool :=
  s.pstate p == psStarting && (s.boundPages p).all (fun n => s.pageState n == 2) && (s.part p).stopReq.isNone

/-- The partition enters RUNNING (R154, R155). -/
def State.toRunning (s : State) (p : Nat) : State :=
  let s := (s.setPstate p psRunning).setFld (R.ENG_WD p) F.ENG_WD_COUNT 0
  s.modPart p (fun x => { x with stored := [], ran := [], ranNew := [], xchgd := false, endedEntries := [], released := false })

/-- PARTITION_RUNNING: a STARTING partition whose bound pages are all READY enters RUNNING (R154, R155, R561); a twinned one
of a twin that is JOINING waits for its step 5 (R552). -/
def execPartitionRunning (part : Fin 128) (s : State) : Out :=
  s.onCore (fun s =>
    let p := part.val
    if s.mayRun p && !(s.twinned p && s.fld R.TWIN_STAT F.TWIN_STAT_STATE == 1) then s.toRunning p else s)

/-! ### Events and routes (R158, R159) -/

/-- A route names the source. An inbox is named by either of its locations. -/
def State.routeHits (s : State) (w : Word) (type idx : Nat) : Bool :=
  let i := F.ENG_EVT_ROUTE_INDEX.get w
  F.ENG_EVT_ROUTE_VALID.get w == 1 && F.ENG_EVT_ROUTE_TYPE.get w == type &&
    (i == idx || (type == 3 && i == s.linkLoc idx))

/-- A source event sets the pending flag of every route to it that is in effect (R158, R159). -/
def State.fire (s : State) (type idx : Nat) : State :=
  let routes := s.srf.filter (fun e => 0x22000 ≤ e.1 && e.1 < 0x22800 && !s.tick.fresh.contains e.1 &&
    s.routeHits e.2 type idx)
  routes.foldl (fun s e => s.modPart (F.ENG_EVT_ROUTE_PART.get e.2)
    (fun x => { x with evPend := x.evPend ||| (1#32 <<< F.ENG_EVT_ROUTE_FLAG.get e.2) })) s

/-- The source exists and is allotted to the partition (R158). -/
def State.sourceOk (s : State) (type idx p : Nat) : Bool :=
  match type with
  | 1 => idx < 160 && s.flag (R.SW_WAKE_CTL idx) F.SW_WAKE_CTL_VALID && s.fld (R.SW_WAKE_CTL idx) F.SW_WAKE_CTL_PART == p
  | 2 => if idx < 128 then s.flag (R.CAN_HPM_CFG (idx / 8) (idx % 8)) F.CAN_HPM_CFG_VALID &&
      s.fld (R.CAN_HPM_CFG (idx / 8) (idx % 8)) F.CAN_HPM_CFG_PART == p
    else idx < 160 && s.fld (R.CAN_CTRL (idx % 16)) F.CAN_CTRL_PART == p
  | 3 => idx < 4096 && s.isInbox idx && s.dirOwner idx == p
  | 4 => idx < 256 && s.flag (R.CLU_SLOT idx) F.CLU_SLOT_VALID && s.fld (R.CLU_SLOT idx) F.CLU_SLOT_PART == p
  | 5 => idx < 32 && s.flag (R.SV_STRM_CTRL idx) F.SV_STRM_CTRL_VALID && s.fld (R.SV_STRM_CTRL idx) F.SV_STRM_CTRL_PART == p
  | 6 => idx < 32 && s.flag (R.SPE_PCFG idx) F.SPE_PCFG_VALID && s.fld (R.SPE_PCFG idx) F.SPE_PCFG_PART == p
  | _ => false

/-- A write that would withdraw or move the resource a register binds is allowed (R153): the register bound none, keeps
its partition, or its partition is FREE, IDLE or STOPPED. `old`, `new` are the bound partition before and after. -/
def State.rebindOk (s : State) (old new : Option Nat) : Bool := match old with
  | none => true
  | some p => new == some p || s.mayWithdraw p

/-- A binding register written: the word stands at once and an addition takes effect at the next landing (R153). -/
def State.bindWrite (s : State) (a : Nat) (w : Word) : State :=
  let s := s.setReg a w
  { s with tick := { s.tick with fresh := luniq (s.tick.fresh ++ [a]) } }

/-- ALLOT_BUSY with the register's address (R153). -/
def State.allotBusy (s : State) (p a : Nat) : State := s.event Ev.ALLOT_BUSY p a

/-- EVT_ROUTE_WRITE (R158). -/
def State.evtRouteWrite (s : State) (n : Nat) (w : Word) : State :=
  let a := R.ENG_EVT_ROUTE n
  let old := s.reg a
  let bound (x : Word) : Option Nat := if F.ENG_EVT_ROUTE_VALID.get x = 1 then some (F.ENG_EVT_ROUTE_PART.get x) else none
  let w := w &&& 0xFFFF7F1F
  if F.ENG_EVT_ROUTE_VALID.get w = 1 &&
      !s.sourceOk (F.ENG_EVT_ROUTE_TYPE.get w) (F.ENG_EVT_ROUTE_INDEX.get w) (F.ENG_EVT_ROUTE_PART.get w) then
    s.event Ev.EVT_ROUTE_REFUSED (F.ENG_EVT_ROUTE_PART.get w)
  else if old ≠ w && !(match bound old with | some p => s.mayWithdraw p | none => true) then
    s.allotBusy (F.ENG_EVT_ROUTE_PART.get old) a
  else s.bindWrite a w

/-- EVT_ROUTE_WRITE. -/
def execEvtRouteWrite (n : Fin 512) (w : Word) (s : State) : Out := s.onCore (fun s => s.evtRouteWrite n w)

/-! ### Spares, self-test, retirement and migration (R138 to R140, R238 to R240) -/

/-- SPARE_COUNT_WRITE: COUNT, refused outside 2–8; it applies from the next swap check (R138). -/
def State.spareCountWrite (s : State) (v : Word) : State :=
  let c := F.ENG_SPARE_COUNT.get v
  if 2 ≤ c ∧ c ≤ 8 then s.setFld R.ENG_SPARE F.ENG_SPARE_COUNT c
  else s.event Ev.SPARE_COUNT_REFUSED 0xFF v.toNat

/-- SPARE_COUNT_WRITE. -/
def execSpareCountWrite (v : Word) (s : State) : Out := s.onCore (fun s => s.spareCountWrite v)

/-- The state of a position: 0 ACTIVE, 1 SPARE, 2 RETIRED (R137). -/
def State.posState (s : State) (n : Nat) : Nat := s.fld (R.ENG_LAMP n) F.ENG_LAMP_STATE

/-- Positions in state SPARE, rising. -/
def State.healthySpares (s : State) : List Nat := (List.range 64).filter (fun n => s.posState n == 1)

/-- HEALTHY and LOW follow the positions (R140). -/
def State.spareStat (s : State) : State :=
  let h := s.healthySpares.length
  (s.setFld R.ENG_SPARE F.ENG_SPARE_HEALTHY h).setFlag R.ENG_SPARE F.ENG_SPARE_LOW (decide (h < s.eng.count))

/-- A COUNT in force: positions 64 − COUNT to 63 are SPARE unless RETIRED, the others ACTIVE unless RETIRED (R138). -/
def State.applySpares (s : State) (c : Nat) : State :=
  let s : State := { s with eng := { s.eng with count := c } }
  ((List.range 64).foldl (fun s n =>
    if s.posState n = 2 then s else s.setFld (R.ENG_LAMP n) F.ENG_LAMP_STATE (b2n (decide (64 - c ≤ n)))) s).spareStat

/-- A self-test pass starts on a position (R238). -/
def State.selftest (s : State) (pos : Nat) : State :=
  { s with eng := { s.eng with passing := luniq (s.eng.passing ++ [pos]) } }

/-- SELFTEST_START: ENG_SELFTEST.START with POS (R238). -/
def execSelftestStart (pos : Fin 64) (s : State) : Out :=
  s.onCore (fun s => (s.setFld R.ENG_SELFTEST F.ENG_SELFTEST_POS pos.val).selftest pos)

/-- The physical lamp of a position is to be retired at this tick's launch (R239). -/
def State.askRetire (s : State) (pos : Nat) : State :=
  { s with eng := { s.eng with retiring := luniq (s.eng.retiring ++ [pos]),
                               suspect := s.eng.suspect.filter (fun x => x != pos) } }

/-- SELFTEST_PASS_DONE (R238, R239): a failed pass is counted and a second one starts at once; a pass after a failed
one is a transient; a second failure retires the lamp. -/
def execSelftestPassDone (pos : Fin 64) (ok : Bool) (s : State) : Out :=
  s.onCore (fun s =>
    let n := pos.val
    let s : State := { s with eng := { s.eng with passing := s.eng.passing.filter (fun x => x != n) } }
    let sus := s.eng.suspect.contains n
    if ok then
      if sus then
        let s : State := { s with eng := { s.eng with suspect := s.eng.suspect.filter (fun x => x != n) } }
        (s.incFld R.ENG_SELFTEST F.ENG_SELFTEST_TRANSIENT 255).event Ev.SELFTEST_TRANSIENT
      else s
    else
      let s := s.incFld (R.ENG_LAMP n) F.ENG_LAMP_FAILS 255
      if sus then s.askRetire n
      else { s with eng := { s.eng with suspect := s.eng.suspect ++ [n], passing := s.eng.passing ++ [n] } })

/-- The partitions holding a slot of the active bank on a position. -/
def State.partsOn (s : State) (pos : Nat) : List Nat :=
  luniq (((s.validSlots s.bankB).filter (fun n => n / 16 == pos)).map (fun n => s.slotPart s.bankB n))

/-- The retirement of a position's physical lamp at the launch (R139, R239): a spare is retired in place; an active
position waits for its migration, or stops its partitions with LAMP_FAIL where no healthy spare is left. -/
def State.retire (s : State) (pos : Nat) : State :=
  let s := s.incFld R.ENG_SELFTEST F.ENG_SELFTEST_RETIRED 255
  let s : State := { s with keep := { s.keep with lampsDirty := true } }
  if s.posState pos = 1 then (s.setFld (R.ENG_LAMP pos) F.ENG_LAMP_STATE 2).spareStat
  else if s.healthySpares.isEmpty then (s.partsOn pos).foldl (fun s p => s.askStop p .lampFail) s
  else { s with eng := { s.eng with moving := luniq (s.eng.moving ++ [pos]) } }

/-- LAMP_MIGRATION_START: at the tick after retirement the lowest healthy spare's lamp serves the position (R139,
R240 step 1). -/
def execLampMigrationStart (pos : Fin 64) (s : State) : Out :=
  s.onCore (fun s =>
    let n := pos.val
    if !s.eng.moving.contains n || s.eng.migration.isSome then s
    else match s.healthySpares with
      | [] => s
      | sp :: _ =>
        let pn := s.fld (R.ENG_LAMP n) F.ENG_LAMP_PHYS
        let ps := s.fld (R.ENG_LAMP sp) F.ENG_LAMP_PHYS
        let fn := s.fld (R.ENG_LAMP n) F.ENG_LAMP_FAILS
        let fs := s.fld (R.ENG_LAMP sp) F.ENG_LAMP_FAILS
        let s := (s.setFld (R.ENG_LAMP n) F.ENG_LAMP_PHYS ps).setFld (R.ENG_LAMP n) F.ENG_LAMP_FAILS fs
        let s := (s.setFld (R.ENG_LAMP sp) F.ENG_LAMP_PHYS pn).setFld (R.ENG_LAMP sp) F.ENG_LAMP_FAILS fn
        let s := (s.setFld (R.ENG_LAMP sp) F.ENG_LAMP_STATE 2).spareStat
        let s := (s.eng.bound.filter (fun k => k / 16 == n)).foldl (fun s k => s.setPage k 1) s
        let s := ((s.setFlag R.ENG_MIGRATE F.ENG_MIGRATE_ACTIVE true).setFld R.ENG_MIGRATE F.ENG_MIGRATE_SPARE sp).setFld
          R.ENG_MIGRATE F.ENG_MIGRATE_POS n
        let s : State := { s with eng := { s.eng with moving := s.eng.moving.filter (fun x => x != n),
                                                      migration := some ⟨n, sp, pn, ps, 0⟩ } }
        s.migrationEnd)

end Sys2Proof.Machine
end

