-- ==== Sys2Proof/Machine/Images.lean ====
section
/-!
DEFINITION. Image tiles, forces, safe values and the commit (chapter 8), and the parsing and placement of a program
image (R193 to R196, R203).
-/
namespace Sys2Proof.Machine

/-! ### Points of an image payload (R200 to R202) -/

abbrev lyBIT : Nat := 1
abbrev lyWORD : Nat := 2
abbrev lySV : Nat := 3

/-- The image header in a payload, if it is one that placement accepts (R200). -/
def imgHdr (b : List Byte) (output : Bool) : Option ImgHdr :=
  let ly := leAt b 4 1
  let so := leAt b 5 1
  let np := leAt b 6 2
  let top := if ly = lyBIT then 512 else 253
  let ok := ((ly == lyBIT || ly == lyWORD) && 1 ≤ np && np ≤ top && (if output then so == 0 else so ≤ 5)) ||
    (ly == lySV && so == 6 && !output)
  if ok && leAt b 12 4 == 0 && (so == 3 || leAt b 8 4 == 0) then
    let types := if ly = lyWORD then (List.range np).map (fun i => leAt b (16 + 16 * i + 5) 1) else []
    if types.all (fun t => t ≤ 3) then some ⟨ly, so, np, leAt b 8 4, types⟩ else none
  else none

/-- VALUE of point i. -/
def ptValue (ly : Nat) (b : List Byte) (i : Nat) : Word :=
  if ly = lyBIT then w32 (leAt b (16 + i / 8) 1 / 2 ^ (i % 8) % 2) else w32 (leAt b (16 + 16 * i) 4)

/-- Quality of point i. -/
def ptQual (ly : Nat) (b : List Byte) (i : Nat) : Nat :=
  if ly = lyBIT then leAt b (80 + i / 4) 1 / 2 ^ (2 * (i % 4)) % 4 else leAt b (16 + 16 * i + 4) 1 % 4

/-- CHANGE of point i. -/
def ptChange (ly : Nat) (b : List Byte) (i : Nat) : Word :=
  if ly = lyBIT then w32 (leAt b (208 + 4 * i) 4) else w32 (leAt b (16 + 16 * i + 8) 4)

/-- SRCTIME of a WORD point. -/
def ptTime (ly : Nat) (b : List Byte) (i : Nat) : Word := if ly = lyBIT then 0 else w32 (leAt b (16 + 16 * i + 12) 4)

/-- What a source gives a point at a landing: value, quality and source time. -/
structure PtIn where
  value : Word
  qual : Nat
  time : Word
  deriving DecidableEq, Repr

/-- A point of the new snapshot: what the source gives, and CHANGE set to the landing's tick where the value or quality
differs from the snapshot before (R205). A point no source names keeps its content. -/
def ptNext (ly : Nat) (b : List Byte) (now : Word) (i : Nat) (x : Option PtIn) : PtIn × Word := match x with
  | none => (⟨ptValue ly b i, ptQual ly b i, ptTime ly b i⟩, ptChange ly b i)
  | some n => (n, if n.value = ptValue ly b i ∧ n.qual = ptQual ly b i then ptChange ly b i else now)

/-- Little-endian bytes whose groups of `w` bits hold the numbers of a list. -/
def packBits (w n : Nat) (vs : List Nat) : List Byte :=
  leBytes n (vs.foldr (fun v a => a * 2 ^ w + v % 2 ^ w) 0)

/-- The payload of an image with a new snapshot: header kept but for STAMP (R200, R205). `pts` gives every point. -/
def imgPayload (h : ImgHdr) (b : List Byte) (now : Word) (pts : List (PtIn × Word)) : List Byte :=
  let head := leBytes 4 now.toNat ++ sub b 4 12
  let body := if h.layout = lyBIT then
      packBits 1 64 (pts.map (fun p => p.1.value.toNat)) ++ packBits 2 128 (pts.map (fun p => p.1.qual)) ++
        (pts.map (fun p => leBytes 4 p.2.toNat)).flatten
    else ((List.range pts.length).map (fun i => match pts[i]? with
      | some p => leBytes 4 p.1.value.toNat ++ [BitVec.ofNat 8 p.1.qual, BitVec.ofNat 8 (h.types.getD i 0), 0, 0] ++
          leBytes 4 p.2.toNat ++ leBytes 4 p.1.time.toNat
      | none => [])).flatten
  sub (head ++ body) 0 4064

/-- VALUE area of a payload, point by point. -/
def ptValues (h : ImgHdr) (b : List Byte) : List Word := (List.range h.npoints).map (ptValue h.layout b)

/-! ### Forces (R213 to R217) -/

/-- The output image of partition p with an identifier, and its header. -/
def State.outImage (s : State) (p ident : Nat) : Option (Nat × ImgHdr) :=
  ((s.part p).hdrs.find? (fun e => s.dirIdent e.1 == ident && s.dirOwner e.1 == p && s.dirFlag e.1 fOUTPUT))

/-- The result code of a FORCE-SET of a point, none where it is accepted (R214). -/
def State.forceRefused (s : State) (p ident idx : Nat) : Option Nat :=
  match (s.part p).hdrs.find? (fun e => s.dirIdent e.1 == ident && s.dirOwner e.1 == p) with
  | none => some 3
  | some (loc, h) =>
    if !s.dirFlag loc fOUTPUT then some 1
    else if s.dirFlag loc fSAFETY then some 2
    else if h.npoints ≤ idx then some 3
    else
      let fs := (s.part p).forces
      if 64 ≤ fs.length && !fs.any (fun f => f.ident == ident && f.index == idx) then some 4 else none

/-- A force entered in the table: an entry of the same point has its value replaced (R214), logged in the partition's
queue (R215). -/
def State.forceSet (s : State) (p ident idx : Nat) (v : Word) : State :=
  let fs := (s.part p).forces
  let fs' := if fs.any (fun f => f.ident == ident && f.index == idx) then
      fs.map (fun f => if f.ident = ident ∧ f.index = idx then { f with value := v } else f)
    else fs ++ [⟨ident, idx, v⟩]
  (s.modPart p (fun x => { x with forces := fs' })).eventQ Ev.FORCE_SET p v.toNat ident (idx % 32768)

/-- A force cleared; identifier 0 clears every entry (R215, R538). -/
def State.forceClear (s : State) (p ident idx : Nat) : State :=
  let gone := (s.part p).forces.filter (fun f => ident == 0 || (f.ident == ident && f.index == idx))
  let s := s.modPart p (fun x => { x with forces := x.forces.filter (fun f => !(ident == 0 || (f.ident == ident && f.index == idx))) })
  gone.foldl (fun s f => s.eventQ Ev.FORCE_CLEARED p 0 f.ident (f.index % 32768)) s

/-- Forces that the program now placed does not cover are dropped (R217). -/
def State.dropForces (s : State) (p : Nat) : State :=
  let keep (f : Force) : Bool := match s.outImage p f.ident with
    | some (_, h) => f.index < h.npoints
    | none => false
  let gone := (s.part p).forces.filter (fun f => !keep f)
  let s := s.modPart p (fun x => { x with forces := x.forces.filter keep })
  gone.foldl (fun s f => s.eventQ Ev.FORCE_DROPPED p f.value.toNat f.ident (f.index % 32768)) s

/-! ### Commit (R206 to R209) -/

/-- The quality an ECHO image shows: 0 the program's value, 2 the safe value, 3 forced (R204). -/
abbrev qNORMAL : Nat := 0
abbrev qSAFE : Nat := 2
abbrev qSUBST : Nat := 3

/-- The value of a point's TYPE that a binary32 value converts to: the rules of FCVTSI, saturating at the type's range
(R249). -/
def floatPt (type : Nat) (f : Word) : Word := match type with
  | 0 => fCvtSI f
  | 1 => wrapW (fToRange f 0 4294967295)
  | 2 => f
  | _ => wrapW (fToRange f (-32768) 32767)

/-- The binary32 value of a point of a TYPE (log entry 11). -/
def ptFloat (type : Nat) (w : Word) : Word := match type with
  | 1 => fOfInt w.toNat 0
  | 2 => w
  | _ => fCvtIS w

def State.clus (s : State) (j : Nat) : CluSlot := tgetD s.clu j CluSlot.reset
def State.setClu (s : State) (j : Nat) (x : CluSlot) : State := { s with clu := tput s.clu j x }
def State.cluState (s : State) (j : Nat) : Nat := s.fld (R.CLU_SLOT j) F.CLU_SLOT_STATE
def State.cluPart (s : State) (j : Nat) : Nat := s.fld (R.CLU_SLOT j) F.CLU_SLOT_PART
/-- Word n of a loop slot's record. -/
def State.cluWord (s : State) (j n : Nat) : Word := (s.clus j).words.getD n 0
/-- Bits of word n of a loop slot's record. -/
def State.cluBits (s : State) (j n lo len : Nat) : Nat := (s.cluWord j n).toNat / 2 ^ lo % 2 ^ len

/-- The loop slot whose output is bound to a point of an output image (R249, R262). -/
def State.boundLoop (s : State) (p ident i : Nat) : Option Nat :=
  (s.clu.find? (fun e => 1 ≤ s.cluState e.1 && s.cluPart e.1 == p && s.cluBits e.1 22 2 1 == 1 &&
    (s.cluWord e.1 38).toNat == ident && s.cluBits e.1 37 16 8 == i)).map (fun e => e.1)

/-- A stored point as the commit takes it: a bound loop slot's CV in its place once computed (R249); none where the slot
is UNLOADED or FAULT and the point commits its safe value (R265, R266). -/
def State.loopPoint (s : State) (p ident i type : Nat) (v : Word) : Option Word := match s.boundLoop p ident i with
  | none => some v
  | some j =>
    if s.cluState j = 1 ∨ s.cluState j = 4 then none
    else if (s.clus j).fresh then some v
    else some (floatPt type (s.cluWord j 13))

/-- The effective points of one output image (R207), and whether the commit read failed its seal (R127). -/
def State.commitImage (s : State) (p loc : Nat) (h : ImgHdr) : List EffPoint × Bool :=
  let e := tgetD (s.part p).safe loc ⟨[], false⟩
  let safeVals := (List.range h.npoints).map (fun i => (⟨if e.bad then 0 else e.values.getD i 0, qSAFE⟩ : EffPoint))
  if e.bad then (safeVals, false)
  else if !s.running p || !(s.part p).stored.contains loc then (safeVals, false)
  else if s.dirState loc == 1 || (s.sealFail loc).isSome then (safeVals, true)
  else
    let b := s.payload loc
    ((List.range h.npoints).map (fun i =>
      match s.loopPoint p (s.dirIdent loc) i (h.types.getD i 0) (ptValue h.layout b i) with
      | none => (⟨e.values.getD i 0, qSAFE⟩ : EffPoint)
      | some v => match (s.part p).forces.find? (fun f => f.ident == s.dirIdent loc && f.index == i) with
        | some f => ⟨if h.layout = lyBIT then f.value &&& 1 else f.value, qSUBST⟩
        | none => ⟨v, qNORMAL⟩), false)

/-- The commit of partition p's output images: effective values recorded, a failed seal enters repair (R127), a failed
safe entry is logged (R206). -/
def State.commitPart (s : State) (p : Nat) : State :=
  ((s.part p).hdrs.filter (fun e => s.dirFlag e.1 fOUTPUT)).foldl (fun s e =>
    let r := s.commitImage p e.1 e.2
    let s := s.modPart p (fun x => { x with eff := tput x.eff e.1 r.1 })
    let s := if (tgetD (s.part p).safe e.1 ⟨[], false⟩).bad then s.event Ev.SAFE_ENTRY_ECC p (s.dirIdent e.1) else s
    if r.2 then s.startRepair e.1 else s) s

/-- What a destination of an output image receives of a point: its effective value at the last commit with its quality (R207), or the
safe value while the partition runs unreleased (R550). -/
def State.effPoint (s : State) (loc i : Nat) : Option EffPoint :=
  let p := s.dirOwner loc
  let e := (tgetD (s.part p).eff loc [])[i]?
  if s.running p && !(s.part p).released then
    e.map (fun _ => ⟨(tgetD (s.part p).safe loc ⟨[], false⟩).values.getD i 0, qSAFE⟩)
  else e

/-- What an ECHO point receives (R209): the effective value of the point it echoes at the last commit. -/
def State.echoPoint (s : State) (p : Nat) (h : ImgHdr) (i : Nat) : Option PtIn :=
  match s.outImage p h.link with
  | some (loc, _) => (s.effPoint loc i).map (fun e => ⟨e.value, e.qual, 0⟩)
  | none => none

/-! ### Program images (R193 to R196) -/

/-- The tile kinds that may stand in a manifest with their flags. -/
def manifestOk (t : ImgTile) : Bool := t.kind != kFREE && t.kind ≤ kTRIP && flagsOk t.kind t.flags

/-- Every item of a list is distinct. -/
def distinct : List Nat → Bool
  | [] => true
  | h :: t => !t.contains h && distinct t

/-- The parts of an image header the module reads (R193). -/
structure ImgHead where
  kind : Nat
  nEntry : Nat
  nTile : Nat
  nInst : Nat
  nReloc : Nat
  pkey : Word
  bodyLen : Nat
  digest : List Byte
  deriving DecidableEq, Repr

/-- The header of an image, where MAGIC, VERSION and ISA are right, the counts in range and the reserved bytes zero. -/
def imgHead (b : List Byte) : Option ImgHead :=
  if sub b 0 4 = [0x4D, 0x54, 0x52, 0x49] ∧ leAt b 4 2 = 1 ∧ leAt b 6 1 = 1 ∧ leAt b 7 1 ≤ 2 ∧ 1 ≤ leAt b 8 2 ∧
      leAt b 8 2 ≤ 2048 ∧ 1 ≤ leAt b 10 2 ∧ leAt b 10 2 ≤ 4096 ∧ leAt b 28 4 = 0 ∧ leAt b 80 16 = 0 ∧
      leAt b 20 4 = leAt b 32 4 then
    some ⟨leAt b 7 1, leAt b 8 2, leAt b 10 2, leAt b 12 4, leAt b 16 4, w32 (leAt b 20 4), leAt b 24 4, sub b 32 48⟩
  else none

/-- The image that a header and a body give, none where a condition of R196 refuses it. The digest of the body is
computed by the function given. -/
def parseImage (hash : List Byte → List Byte) (h : ImgHead) (body : List Byte) : Option Image :=
  let e0 := 16 * h.nEntry
  let t0 := e0 + 16 * h.nTile
  let i0 := t0 + 16 * h.nInst
  let entries := (List.range h.nEntry).map (fun k =>
    (⟨leAt body (16 * k) 2, leAt body (16 * k + 2) 1, leAt body (16 * k + 4) 2, leAt body (16 * k + 6) 2⟩ : ImgEntry))
  let tiles := (List.range h.nTile).map (fun k =>
    let o := e0 + 16 * k
    let off := leAt body (o + 8) 4
    (⟨leAt body o 4, leAt body (o + 4) 1, leAt body (o + 5) 1, leAt body (o + 6) 2,
      if off = 0 then [] else sparse 0 0 (sub body off 4064)⟩ : ImgTile))
  let offs := (List.range h.nTile).map (fun k => leAt body (e0 + 16 * k + 8) 4)
  let insts := (List.range h.nInst).map (fun k =>
    let o := t0 + 16 * k
    (⟨leAt body o 4, leAt body (o + 4) 2, leAt body (o + 6) 1, w32 (leAt body (o + 8) 4)⟩ : ImgInst))
  let relocs := (List.range h.nReloc).map (fun k =>
    let w := leAt body (i0 + 4 * k) 4
    (⟨w / 2 ^ 20, w % 1024⟩ : ImgReloc))
  let wordOk (r : ImgReloc) : Bool := match tiles[r.tile]? with
    | some t => t.kind == kCODE && r.word ≤ 1015 && leAt (expand 0 4064 0 t.payload) (4 * r.word) 4 / 2 ^ 26 == 0x28 &&
        leAt (expand 0 4064 0 t.payload) (4 * r.word) 4 / 2 ^ 8 % 4096 < h.nTile
    | none => false
  if body.length = h.bodyLen ∧ i0 + 4 * h.nReloc ≤ h.bodyLen ∧ hash body = h.digest ∧
      offs.all (fun o => o == 0 || o + 4064 ≤ h.bodyLen) ∧ distinct (tiles.map (fun t => t.ident)) ∧
      tiles.all (fun t => t.ident != 0 && manifestOk t && (t.kind != kCODE || t.page < 16)) ∧
      insts.all (fun i => i.off % 16 == 0 && i.off ≤ 4048 && tiles.any (fun t => t.ident == i.ident && t.kind == kDATA)) ∧
      entries.all (fun e => e.kind ≤ 2 && e.addr ≤ 0x3FFF) ∧ relocs.all wordOk then
    some ⟨h.kind, h.pkey, h.digest, entries, tiles, insts, relocs, [], []⟩
  else none

/-! ### Placement (R195, R203) -/

/-- The payload of manifest tile k as placed: relocated words of a CODE tile, fresh instances of a DATA tile (R195). -/
def placedPayload (i : Image) (map : List Nat) (k : Nat) : List Byte := match i.tiles[k]? with
  | none => []
  | some t =>
    let b := expand 0 4064 0 t.payload
    let b := (i.relocs.filter (fun r => r.tile == k)).foldl (fun b r =>
      let w := leAt b (4 * r.word) 4
      let loc := map.getD (w / 2 ^ 8 % 4096) 0
      b.take (4 * r.word) ++ leBytes 4 (w - w / 2 ^ 8 % 4096 * 2 ^ 8 + loc * 2 ^ 8) ++ b.drop (4 * r.word + 4)) b
    (i.insts.filter (fun n => n.ident == t.ident)).foldl (fun b n =>
      b.take n.off ++ leBytes 4 n.key.toNat ++ List.replicate 12 0 ++ b.drop (n.off + 16)) b

/-- Placement's checks of an image's IMAGE tiles (R200, R203, R209). -/
def imagesOk (i : Image) : Bool :=
  (i.tiles.all (fun t =>
    if t.kind != kIMAGE then true
    else
      let b := expand 0 4064 0 t.payload
      match imgHdr b (bit t.flags fOUTPUT) with
      | none => false
      | some h =>
        (!(bit t.flags fSAFETY && bit t.flags fOUTPUT) || (ptValues h b).all (fun v => v == 0)) &&
        (h.source != 3 || match i.tiles.find? (fun u => u.ident == h.link && u.kind == kIMAGE && bit u.flags fOUTPUT) with
          | some u => match imgHdr (expand 0 4064 0 u.payload) true with
            | some g => g.layout == h.layout && g.npoints == h.npoints
            | none => false
          | none => false)))

/-- The size in locations of a tile with these flags: two for a precious tile or an inbox (R130). -/
def tileCost (kind flags : Nat) : Nat := if bit flags fPRECIOUS || (kind == kMAILBOX && !bit flags fOUTBOX) then 2 else 1

/-- A waiting command will take a location. -/
def StepCmd.takes (loc : Nat) : StepCmd → Bool
  | .alloc l k ctl _ =>
    l == loc || (tileCost (F.TS_DIR_CTL_KIND.get ctl) (F.TS_DIR_CTL_FLAGS.get ctl) == 2 && 64 * ((l / 64 + 32) % 64) + k == loc)
  | .place l _ ctl _ _ =>
    l == loc || (tileCost (F.TS_DIR_CTL_KIND.get ctl) (F.TS_DIR_CTL_FLAGS.get ctl) == 2 &&
      64 * ((l / 64 + 32) % 64) + F.TS_DIR_CTL_LINK.get ctl == loc)
  | _ => false

/-- A location is free and nothing waits to take it. -/
def State.isFree (s : State) (loc : Nat) : Bool :=
  !s.dirValid loc && !s.tiles.steps.any (fun e => e.2.any (fun c => c.takes loc)) && !s.tiles.later.any (fun e => e.2.takes loc)

/-- Locations the module picks for the tiles of an image: any free ones, the partner bank's for a pair. The choice among
the free ones is not stated: a free value (log entry 9). -/
def State.pickLoc (s : State) (used : List Nat) (draw : Nat) (pair : Bool) : Option (Nat × Nat) :=
  let free (l : Nat) : Bool := s.isFree l && !used.contains l
  let cand := (List.range 4096).filter (fun l => free l &&
    (!pair || (List.range 64).any (fun i => free (64 * ((l / 64 + 32) % 64) + i))))
  match cand[Config.placeChoice draw % max cand.length 1]? with
  | none => none
  | some l =>
    let links := if pair then (List.range 64).filter (fun i => free (64 * ((l / 64 + 32) % 64) + i)) else [0]
    some (l, links.getD (Config.placeChoice (draw + 1) % max links.length 1) 0)

/-- The directory words of the two locations of a tile: primary, then the other of the pair. -/
def dirWord (owner kind flags link : Nat) (act : Bool) : Word :=
  w32 (2 ^ 31 + owner * 2 ^ 24 + kind * 2 ^ 20 + b2n act * 2 ^ 16 + flags * 2 ^ 8 + link)

/-- The record of an IMAGE tile the commit unit and distribution keep from its placed payload (R200, R206). -/
def State.keepImage (s : State) (p loc : Nat) (t : ImgTile) : State :=
  if t.kind != kIMAGE then s
  else
    let b := expand 0 4064 0 t.payload
    match imgHdr b (bit t.flags fOUTPUT) with
    | none => s
    | some h => s.modPart p (fun x =>
        { x with hdrs := tput x.hdrs loc h,
                 safe := if bit t.flags fOUTPUT then tput x.safe loc ⟨ptValues h b, false⟩ else x.safe })

/-- The code pages allotted to partition p that a CODE tile of page k serves, over all lamps (R146). -/
def State.pagesFor (s : State) (p k : Nat) : List Nat :=
  ((s.srf.filter (fun e => 0x21000 ≤ e.1 && e.1 < 0x22000 && e.2.getLsbD 31 && F.ENG_CODE_PAGE_PART.get e.2 == p)).map
    (fun e => (e.1 - 0x21000) / 4)).filter (fun n => n % 16 == k)

/-- The placed program enters the image store with its placement map and code page bindings (R545). -/
def State.storeImage (s : State) (p : Nat) : State := match (s.part p).prog with
  | none => s
  | some g =>
    let pages := s.eng.bound.filter (fun n => s.fld (R.ENG_CODE_PAGE n) F.ENG_CODE_PAGE_PART == p)
    let map := g.map.map (fun l => (l, s.fld (R.TS_DIR_CTL l) F.TS_DIR_CTL_LINK))
    { s with boot := { s.boot with images := tput s.boot.images p ⟨g.image, map, pages⟩ } }

/-- A program becomes the partition's placed program (R195): its images' headers and safe entries stand, its code pages
are bound, and nothing has been stored or distributed; the image store takes it. -/
def State.installProgram (s : State) (p : Nat) (g : Program) : State :=
  let old := s.boundPages p
  let s := old.foldl (fun s n => (s.setPage n 0).setFld (R.ENG_CODE_PAGE n) F.ENG_CODE_PAGE_LOC 0) s
  let s : State := { s with eng := { s.eng with bound := s.eng.bound.filter (fun n => !old.contains n) } }
  let s := s.modPart p (fun x =>
    { x with prog := some g, held := some g.image, hdrs := [], safe := [], eff := [], stored := [], plans := [],
             distributing := false, endedEntries := [] })
  let ks := (List.range g.image.tiles.length)
  State.storeImage (p := p) <| ks.foldl (fun s k => match g.image.tiles[k]? with
    | none => s
    | some t =>
      let loc := g.map.getD k 0
      let s := s.keepImage p loc t
      if t.kind = kCODE then
        let ns := s.pagesFor p t.page
        let s : State := { s with eng := { s.eng with bound := luniq (s.eng.bound ++ ns) } }
        ns.foldl (fun s n => (s.setFld (R.ENG_CODE_PAGE n) F.ENG_CODE_PAGE_LOC loc).setPage n 0) s
      else s) s

end Sys2Proof.Machine
end

