-- ==== Sys2Proof/Machine/TileSteps.lean ====
section
/-!
DEFINITION. The background of the tile store (R122 to R130, R557, R560): scrubbing, repair steps, allocation steps and
mailbox pairings.
-/
namespace Sys2Proof.Machine

/-- A message leaves in the present tick. -/
def State.send (s : State) (m : Msg) : State := { s with out := s.out ++ [m] }

/-! ### KEEP as a repair source (R492) -/

def State.ring (s : State) (r : Nat) : RingSt := tgetD s.keep.rings r RingSt.reset
def State.setRing (s : State) (r : Nat) (x : RingSt) : State := { s with keep := { s.keep with rings := tput s.keep.rings r x } }

/-- The valid bindings of partition rings, rising. -/
def State.boundRings (s : State) : List Nat :=
  (s.srf.filter (fun e => 0xE1000 ≤ e.1 && e.1 < 0xE2000 && e.1 % 16 == 0 && e.2.getLsbD 31)).map (fun e => (e.1 - 0xE1000) / 16)

/-- The page that serves a slot of a ring, spares in place of retired pages (R494). -/
def State.slotPage (s : State) (r slot : Nat) : Nat :=
  let p := s.fld (R.KEEP_RING_CFG r) F.KEEP_RING_CFG_BASE + slot
  (tget s.keep.subst p).getD p

/-- The record in a slot of a ring, where it is valid (R485). -/
def State.slotRec (s : State) (r slot : Nat) : Option KeepRec := match tget s.keep.pages (s.slotPage r slot) with
  | some k => if !k.torn && k.owner == s.fld (R.KEEP_RING_CFG r) F.KEEP_RING_CFG_PART &&
      k.ident == (s.reg (R.KEEP_RING_ID r)).toNat then some k else none
  | none => none

/-- The newest record of a ring. -/
def State.newestRec (s : State) (r : Nat) : Option KeepRec := match (s.ring r).newest with
  | some n => s.slotRec r n
  | none => none

/-- The ring bound to a RETAIN tile. -/
def State.ringOf (s : State) (part ident : Nat) : Option Nat :=
  s.boundRings.find? (fun r => s.fld (R.KEEP_RING_CFG r) F.KEEP_RING_CFG_PART == part && (s.reg (R.KEEP_RING_ID r)).toNat == ident)

/-! ### Repair (R124 to R126, R560) -/

/-- The source lies outside the die. -/
def RepSrc.external : RepSrc → Bool
  | .image | .partner | .keepRec => true
  | _ => false

/-- The sources of a primary's kind, in order (R124). -/
def State.sources (s : State) (loc : Nat) : List RepSrc :=
  let k := s.dirKind loc
  let twin := if s.dirFlag loc fPRECIOUS then [RepSrc.twinCopy] else []
  let mirror := if s.dirFlag loc fMIRROR then [RepSrc.partner] else []
  if k = kCODE ∨ k = kTRIP then twin ++ [.image]
  else if k = kDATA ∨ k = kLOOP then twin ++ mirror
  else if k = kIMAGE then if s.dirFlag loc fOUTPUT then twin else if s.distributed loc then [] else [.image]
  else if k = kMAILBOX then [.zeroSeal]
  else if k = kRETAIN then twin ++ mirror ++ [.keepRec]
  else if k = kSHADOW then [.partner, .zeroSeal]
  else []

/-- The next source to try; a twin copy under repair or lost counts as failed. -/
def State.nextSrc (s : State) (loc : Nat) : Option RepSrc :=
  (s.sources loc).find? (fun x => !(tgetD s.tiles.failed loc []).contains x &&
    (x != .twinCopy || s.dirState (s.linkLoc loc) == 0))

def State.repBuf (s : State) (b : Nat) : Option RepBuf := tget s.tiles.repairBuf b
def State.clearBuf (s : State) (b : Nat) : State := { s with tiles := { s.tiles with repairBuf := tdel s.tiles.repairBuf b } }

/-- The location is LOST (R126): its partition stops at this tick's launch. -/
def State.lose (s : State) (loc : Nat) : State :=
  let p := s.dirOwner loc
  let s := s.repairDone loc
  let s := (s.setFld (R.TS_DIR_CTL loc) F.TS_DIR_CTL_STATE 2).incFld R.TS_REPAIR_STAT F.TS_REPAIR_STAT_LOST 65535
  let s := s.event Ev.TILE_LOST p loc
  let code := s.dirKind loc == kCODE && (s.boundPages p).any (fun n =>
    s.fld (R.ENG_CODE_PAGE n) F.ENG_CODE_PAGE_LOC == loc && s.pageState n != 2)
  s.askStop p (if code then .codePage else .tileLost)

/-- A location whose last source has failed is LOST, and with a primary its waiting twin copy (R560). -/
def State.loseAll (s : State) (loc : Nat) : State :=
  let c := s.linkLoc loc
  let pair := s.dirFlag loc fPRECIOUS && s.dirAct loc && s.dirState c == 1 && s.tiles.waiting.contains c
  let s := if pair then
      { s with tiles := { s.tiles with waiting := s.tiles.waiting.filter (fun x => x != c) } } else s
  let s := s.lose loc
  if pair then s.lose c else s

/-- A source of a location has failed. -/
def State.failSrc (s : State) (loc : Nat) (x : RepSrc) : State :=
  let s : State := { s with tiles := { s.tiles with failed := tput s.tiles.failed loc (tgetD s.tiles.failed loc [] ++ [x]) } }
  if (s.nextSrc loc).isNone then s.loseAll loc else s

/-- A repair of a location has written it. -/
def State.repaired (s : State) (loc : Nat) : State :=
  (s.repairDone loc).incFld (R.TS_BANK_STAT (loc / 64)) F.TS_BANK_STAT_REPAIRED 255

/-- A source's tile as written: its seal with RESTORED set or clear and the CRC made anew (R110, R560). -/
def reseal (b : List Byte) (restored : Bool) : List Byte :=
  let f := leAt b 4066 2 % 64 + 64 * b2n restored
  let b := b.take 4066 ++ leBytes 2 f ++ (b.drop 4068).take 24
  b ++ leBytes 4 (crc32c b)

/-- The tile a source gives is good for a location: checks 3 to 5 of R116. -/
def State.sourceGood (s : State) (loc : Nat) (b : List Byte) : Bool :=
  (checkBytes b (s.dirOwner loc) (s.dirKind loc) (s.dirFlags loc) (s.dirIdent loc) (w32 (leAt b 4072 4))).isNone

/-- TLOADs that failed with CRC on a location now found intact; a second one of a physical lamp within 4800 ticks retires
the lamp (R239). -/
def State.foundIntact (s : State) (loc : Nat) : State :=
  let hits := s.tiles.crcFails.filter (fun e => e.2.2 == loc)
  let s : State := { s with tiles := { s.tiles with crcFails := s.tiles.crcFails.filter (fun e => e.2.2 != loc) } }
  hits.foldl (fun s e =>
    let again := s.tiles.crcIntact.any (fun i => i.1 == e.1 && e.2.1 < i.2 + 4800)
    let s : State := { s with tiles := { s.tiles with crcIntact := s.tiles.crcIntact ++ [(e.1, e.2.1)] } }
    if again then match (List.range 64).find? (fun n => s.fld (R.ENG_LAMP n) F.ENG_LAMP_PHYS == e.1) with
      | some n => s.askRetire n
      | none => s
    else s) s

/-- The external source of the first queued entry that waits for one is requested, where the bank's buffer is free
(R124). -/
def State.requestNext (s : State) (b : Nat) : State :=
  if (s.repBuf b).isSome then s
  else match (s.bankQ b).find? (fun l => !s.isTwinCopy l && (match s.nextSrc l with | some x => x.external | none => false)) with
    | none => s
    | some l => match s.nextSrc l with
      | none => s
      | some x =>
        let s : State := { s with tiles := { s.tiles with repairBuf := tput s.tiles.repairBuf b ⟨l, x, s.tick.count, none⟩ } }
        if x = .partner then s.send (.lanyard 1 (s.dirIdent l) (s.dirGen l) s.absLo 0 []) else s

/-- The buffered content is written to its location (R560). -/
def State.writeBuf (s : State) (b : Nat) (x : RepBuf) (c : List (Nat × Byte)) : State :=
  let s := s.clearBuf b
  if s.dirState x.loc != 1 then s
  else if (s.sealFail x.loc).isNone then (s.repairDone x.loc).foundIntact x.loc
  else
    let t := expand 0 4096 0 c
    match x.src with
    | .image => (s.sealWrite x.loc (t.take 4064) false).repaired x.loc
    | .keepRec =>
      let gen := w32 (leAt t 4072 4)
      let w := sealTile (t.take 4064) (s.dirOwner x.loc) (s.dirKind x.loc) (s.dirFlags x.loc + 64) (s.dirIdent x.loc) gen
        (s.pkey (s.dirOwner x.loc))
      ((s.putTile x.loc w gen).repaired x.loc)
    | _ =>
      if s.sourceGood x.loc t then
        let s := (s.putTile x.loc (reseal t true) (w32 (leAt t 4072 4))).repaired x.loc
        if s.dirKind x.loc == kRETAIN then { s with keep := { s.keep with dirty := luniq (s.keep.dirty ++ [x.loc]) } } else s
      else s.failSrc x.loc x.src

/-- The first entry of a queue that this step can serve: whether the step was used (R124, R560). -/
def State.serveQ (s : State) : List Nat → State × Bool
  | [] => (s, false)
  | loc :: rest =>
    if s.isTwinCopy loc then
      let pr := s.linkLoc loc
      let wait (s : State) : State :=
        let s := s.setBankQ (loc / 64) ((s.bankQ (loc / 64)).filter (fun x => x != loc))
        { s with tiles := { s.tiles with waiting := s.tiles.waiting ++ [loc] } }
      if s.dirState pr = 1 then (wait s).serveQ rest
      else if s.dirState pr = 2 then (s.lose loc).serveQ rest
      else if (s.sealFail loc).isNone then ((s.repairDone loc).foundIntact loc, true)
      else if (s.sealFail pr).isSome then (wait (s.startRepair pr), true)
      else
        let s := (s.setBytes (tileAddr loc) (s.bytes (tileAddr pr) 4096)).setReg (R.TS_DIR_GEN loc) (s.dirGen pr)
        (s.repaired loc, true)
    else match s.nextSrc loc with
      | none => (s.loseAll loc, true)
      | some .twinCopy =>
        if (s.sealFail loc).isNone then ((s.repairDone loc).foundIntact loc, true)
        else
          let t := s.bytes (tileAddr (s.linkLoc loc)) 4096
          if s.sourceGood loc t then
            (((s.setBytes (tileAddr loc) t).setReg (R.TS_DIR_GEN loc) (w32 (leAt t 4072 4))).repaired loc, true)
          else (s.failSrc loc .twinCopy, true)
      | some .zeroSeal =>
        if (s.sealFail loc).isNone then ((s.repairDone loc).foundIntact loc, true)
        else ((s.sealWrite loc [] true).repaired loc, true)
      | some _ => s.serveQ rest

/-! ### Allocation steps (R128 to R130) -/

/-- A location takes the free seal and loses its directory entry (R129). -/
def State.freeLoc (s : State) (loc : Nat) : State :=
  let s := if s.dirState loc == 1 then s.repairDone loc else s
  let s := s.setBytes (tileAddr loc) freeTile
  let s := ((s.setReg (R.TS_DIR_CTL loc) 0).setReg (R.TS_DIR_ID loc) 0).setReg (R.TS_DIR_GEN loc) 0
  (List.range 512).foldl (fun s m =>
    let w := s.reg (R.TS_MBX m)
    if w.getLsbD 31 && (F.TS_MBX_OUT.get w == loc || F.TS_MBX_IN.get w == loc) then s.setReg (R.TS_MBX m) 0 else s) s

/-- The tile at a location, and the other location of its pair, are freed; the quota is released. -/
def State.freeTileAt (s : State) (loc : Nat) : State :=
  if !s.dirValid loc then s
  else
    let cost := tileCost (s.dirKind loc) (s.dirFlags loc)
    let p := s.dirOwner loc
    let other := s.linkLoc loc
    let s := if cost = 2 then s.freeLoc other else s
    let s := s.freeLoc loc
    let a := R.TS_QUOTA p
    s.setFld a F.TS_QUOTA_USED (s.fld a F.TS_QUOTA_USED - cost)

/-- A tile is written at a location with GEN 0, and at LINK for a pair (R129). -/
def State.writeNew (s : State) (loc : Nat) (ctl ident : Word) (payload : List Byte) : State :=
  let p := F.TS_DIR_CTL_OWNER.get ctl
  let k := F.TS_DIR_CTL_KIND.get ctl
  let f := F.TS_DIR_CTL_FLAGS.get ctl
  let link := F.TS_DIR_CTL_LINK.get ctl
  let b := sealTile payload p k f ident.toNat 0 (s.pkey p)
  let put (s : State) (l : Nat) (w : Word) : State :=
    (((s.setBytes (tileAddr l) b).setReg (R.TS_DIR_CTL l) w).setReg (R.TS_DIR_ID l) ident).setReg (R.TS_DIR_GEN l) 0
  let cost := tileCost k f
  let s := put s loc (dirWord p k f (if cost = 2 then link else 0) true)
  let s := if cost = 2 then put s (64 * ((loc / 64 + 32) % 64) + link) (dirWord p k f (loc % 64) false) else s
  let a := R.TS_QUOTA p
  s.setFld a F.TS_QUOTA_USED (s.fld a F.TS_QUOTA_USED + cost)

/-- Results of TS_ALLOC_STAT. -/
abbrev arOK : Nat := 0
abbrev arPENDING : Nat := 1
abbrev arQUOTA : Nat := 2
abbrev arLOC_BUSY : Nat := 3
abbrev arBAD_ATTR : Nat := 4
abbrev arID_IN_USE : Nat := 5
abbrev arPART_RUNNING : Nat := 6
abbrev arNOT_ALLOC : Nat := 7

/-- The result of an ALLOC (R130). -/
def State.allocResult (s : State) (loc link : Nat) (ctl ident : Word) : Nat :=
  let p := F.TS_DIR_CTL_OWNER.get ctl
  let k := F.TS_DIR_CTL_KIND.get ctl
  let f := F.TS_DIR_CTL_FLAGS.get ctl
  let cost := tileCost k f
  let q := R.TS_QUOTA p
  if s.fld q F.TS_QUOTA_LIMIT < s.fld q F.TS_QUOTA_USED + cost then arQUOTA
  else if s.dirValid loc || (cost == 2 && s.dirValid (64 * ((loc / 64 + 32) % 64) + link)) then arLOC_BUSY
  else if k = kFREE ∨ kTRIP < k ∨ ¬ flagsOk k f then arBAD_ATTR
  else if ident = 0 || s.allocated.any (fun l => s.dirIdent l == ident.toNat) then arID_IN_USE
  else arOK

/-- What TS_ALLOC_STAT shows of a command. -/
def State.allocDone (s : State) (r : Nat) : State := s.setFld R.TS_ALLOC_STAT F.TS_ALLOC_STAT_RESULT r

/-- The command of a bank that its next allocation step runs: frees ahead of the writes of a placement, both ahead of
anything else (R26, R232, R540). -/
def nextStep (q : List StepCmd) : Option StepCmd :=
  let isDrop (c : StepCmd) : Bool := match c with | .drop _ _ => true | _ => false
  let isPlace (c : StepCmd) : Bool := match c with | .place _ _ _ _ _ => true | _ => false
  match q.find? isDrop with
  | some c => some c
  | none => match q.find? isPlace with
    | some c => some c
    | none => q.head?

/-- One waiting command of a bank runs (ALLOC_EXECUTE; R26, R232, R540, R538). -/
def State.runStep (s : State) (b : Nat) : State := match nextStep (s.steps b) with
  | none => s
  | some c =>
    let s := s.setSteps b ((s.steps b).erase c)
    match c with
    | .alloc loc link ctl ident =>
      let r := s.allocResult loc link ctl ident
      if r = arOK then (s.writeNew loc (F.TS_DIR_CTL_LINK.put ctl link) ident []).allocDone arOK else s.allocDone r
    | .free loc =>
      if !s.dirValid loc then s.allocDone arNOT_ALLOC
      else if s.running (s.dirOwner loc) then s.allocDone arPART_RUNNING
      else (s.freeTileAt loc).allocDone arOK
    | .drop loc p => if s.dirOwner loc = p then s.freeTileAt loc else s
    | .place loc _ ctl ident payload => s.writeNew loc ctl ident (expand 0 4064 0 payload)
    | .readOut sess req p loc =>
      if s.dirValid loc && s.dirOwner loc == p then s.send (.reply sess req 0 true (s.bytes (tileAddr loc) 4096))
      else s.send (.reply sess req 10 true [1])

/-- The bank's step falls in the present tick (R122). -/
def State.stepTick (s : State) (b : Nat) : Bool :=
  !s.tick.running || s.tick.abs % 4 == (if b < 32 then 1 else 3)

/-- BANK_STEP: a buffered repair first, then the first entry of the repair queue the step can serve, then a waiting
command (R122, R124, R129). -/
def execBankStep (b : Fin 64) (s : State) : Out :=
  s.onCore (fun s =>
    if !s.stepTick b then s
    else
      let s := match s.repBuf b with
        | some ⟨loc, src, asked, some c⟩ => s.writeBuf b ⟨loc, src, asked, some c⟩ c
        | _ =>
          let r := s.serveQ (s.bankQ b)
          if r.2 then r.1 else r.1.runStep b
      s.requestNext b)

/-- The tile a program image holds for a location (R124). -/
def State.imageTile (s : State) (loc : Nat) : Option (List Byte) := match (s.part (s.dirOwner loc)).prog with
  | none => none
  | some g => match g.map.findIdx? (fun l => l == loc) with
    | some k => some (placedPayload g.image g.map k)
    | none => none

/-- REPAIR_SOURCE_DELIVERED (R124, R125): the content waits in the buffer. The image store and KEEP give their own
content; the partner's is the tile delivered. -/
def State.deliver (s : State) (b : Nat) (tile : List (Nat × Byte)) : State := match s.repBuf b with
  | some ⟨loc, src, asked, none⟩ =>
    let c : Option (List (Nat × Byte)) := match src with
      | .image => (s.imageTile loc).map (fun p => sparse 0 0 p)
      | .keepRec => match s.ringOf (s.dirOwner loc) (s.dirIdent loc) with
        | some r => (s.newestRec r).map (fun k => sparse 0 0 (expand 0 4072 0 k.payload ++ leBytes 4 k.gen.toNat))
        | none => none
      | _ => some tile
    match c with
    | some t => { s with tiles := { s.tiles with repairBuf := tput s.tiles.repairBuf b ⟨loc, src, asked, some t⟩ } }
    | none => s
  | _ => s

/-- REPAIR_SOURCE_DELIVERED. -/
def execRepairSourceDelivered (b : Fin 64) (tile : List (Nat × Byte)) (s : State) : Out :=
  s.onCore (fun s => s.requestNext b |>.deliver b (tile.filter (fun e => e.1 < 4096)))

/-- Ticks within which an external source delivers (R125). -/
def RepSrc.bound : RepSrc → Nat
  | .image => 48
  | .partner => 8
  | .keepRec => 4
  | _ => 0

/-- REPAIR_SOURCE_TIMEOUT (R125, R126): a source that has not delivered within its bound has failed. -/
def execRepairSourceTimeout (b : Fin 64) (s : State) : Out :=
  s.onCore (fun s => match s.repBuf b with
    | some ⟨loc, src, asked, none⟩ =>
      if asked + src.bound ≤ s.tick.count then ((s.clearBuf b).failSrc loc src).requestNext b else s
    | _ => s)

/-! ### Scrubber (R123) -/

/-- One location is verified. -/
def State.scrubLoc (s : State) (loc : Nat) : State :=
  if s.dirState loc != 0 || (s.sealFail loc).isNone then s
  else if s.dirValid loc then (s.startRepair loc).requestNext (loc / 64)
  else
    let b := loc / 64
    let s := (s.incFld (R.TS_BANK_STAT b) F.TS_BANK_STAT_FAILS 255).setFld (R.TS_BANK_STAT b) F.TS_BANK_STAT_LAST (loc % 64)
    (s.setBytes (tileAddr loc) freeTile).event Ev.FREE_SEAL_REWRITTEN 0xFF loc

/-- SCRUB (R122, R123): in an even tick every bank verifies the next index. -/
def execScrub (s : State) : Out :=
  s.onCore (fun s =>
    if s.tick.running && s.tick.abs % 2 = 1 then s
    else
      let i := s.fld R.TS_SCRUB_STAT F.TS_SCRUB_STAT_NEXT
      let s := (List.range 64).foldl (fun s b => s.scrubLoc (64 * b + i)) s
      let s := if i = 63 then s.incFld R.TS_SCRUB_STAT F.TS_SCRUB_STAT_PASSES 65535 else s
      s.setFld R.TS_SCRUB_STAT F.TS_SCRUB_STAT_NEXT ((i + 1) % 64))

/-! ### Allocation commands and pairings -/

/-- A write of TS_ALLOC_CMD with OP not 0: discarded while a command is pending (TS_ALLOC_STAT). -/
def State.allocCmd (s : State) (c : StepCmd) (loc : Nat) : State :=
  if s.fld R.TS_ALLOC_STAT F.TS_ALLOC_STAT_RESULT = arPENDING then s
  else (s.allocDone arPENDING).setSteps (loc / 64) (s.steps (loc / 64) ++ [c])

/-- The directory word an ALLOC asks for, from TS_ALLOC_ATTR. -/
def State.allocCtl (s : State) : Word :=
  let a := s.reg R.TS_ALLOC_ATTR
  dirWord (F.TS_ALLOC_ATTR_PART.get a) (F.TS_ALLOC_ATTR_KIND.get a) (F.TS_ALLOC_ATTR_FLAGS.get a) 0 true

/-- TS_ALLOC (R129). -/
def execTsAlloc (loc : Fin 4096) (link : Fin 64) (s : State) : Out :=
  s.onCore (fun s => s.allocCmd (.alloc loc link s.allocCtl (s.reg R.TS_ALLOC_ID)) loc)

/-- TS_FREE (R129). -/
def execTsFree (loc : Fin 4096) (s : State) : Out := s.onCore (fun s => s.allocCmd (.free loc) loc)

/-- MBX_BIND (R557): a pairing written to TS_MBX_m. -/
def State.mbxBind (s : State) (m : Nat) (w : Word) : State :=
  let a := R.TS_MBX m
  let w := w &&& 0x80FFFFFF
  let o := F.TS_MBX_OUT.get w
  let i := F.TS_MBX_IN.get w
  let pair (l : Nat) : List Nat := [l, s.linkLoc l]
  let clash := (List.range 512).any (fun n =>
    let x := s.reg (R.TS_MBX n)
    n != m && x.getLsbD 31 && (F.TS_MBX_OUT.get x == o || (pair i).contains (F.TS_MBX_IN.get x)))
  if w.getLsbD 31 && (!(s.dirValid o && s.dirKind o == kMAILBOX && s.dirFlag o fOUTBOX) || !s.isInbox i || clash) then
    s.event Ev.MBX_BIND_REFUSED 0xFF a
  else
    let old := s.reg a
    let po := s.dirOwner (F.TS_MBX_OUT.get old)
    let pi := s.dirOwner (F.TS_MBX_IN.get old)
    if old.getLsbD 31 && old != w && !(s.mayWithdraw po && s.mayWithdraw pi) then
      s.allotBusy (if s.mayWithdraw po then pi else po) a
    else s.bindWrite a w

/-- MBX_BIND. -/
def execMbxBind (m : Fin 512) (w : Word) (s : State) : Out := s.onCore (fun s => s.mbxBind m w)

end Sys2Proof.Machine
end

