-- ==== Sys2Proof/Machine/Sched.lean ====
section
/-!
DEFINITION. The schedule banks (R103 to R105, R148, R149, R157) and the exchange of a partition's program (R223 to R233).
-/
namespace Sys2Proof.Machine

/-! ### Requests (R103) -/

abbrev swLATE : Nat := 10
abbrev swCANCELLED : Nat := 11
abbrev swSAFETY_AUTH : Nat := 12

/-- Exchange states (ENG_XCHG_STAT_n.STATE). -/
abbrev xsNONE : Nat := 0
abbrev xsSTAGING : Nat := 1
abbrev xsSTAGED : Nat := 2
abbrev xsARMED : Nat := 3
abbrev xsRIDING : Nat := 4

def State.xstate (s : State) (p : Nat) : Nat := s.fld (R.ENG_XCHG_STAT p) F.ENG_XCHG_STAT_STATE
def State.setXstate (s : State) (p v : Nat) : State := s.setFld (R.ENG_XCHG_STAT p) F.ENG_XCHG_STAT_STATE v

/-- The partitions in an exchange state. -/
def State.inXstate (s : State) (v : Nat) : List Nat := (List.range 128).filter (fun p => s.xstate p == v)

/-- TICK_STAT's result fields. -/
def State.swapResult (s : State) (err tab idx : Nat) : State :=
  ((s.setFld R.TICK_STAT F.TICK_STAT_SWAP_ERR err).setFld R.TICK_STAT F.TICK_STAT_ERR_TAB tab).setFld R.TICK_STAT
    F.TICK_STAT_ERR_IDX idx

/-- SWAP: a request, refused as SWAP_BUSY while one is pending (R103 step 2). -/
def State.swapRequest (s : State) (multi : Bool) : State :=
  if s.flag R.TICK_STAT F.TICK_STAT_SWAP_PEND then s.event Ev.SWAP_BUSY
  else
    let s := (s.setFlag R.TICK_STAT F.TICK_STAT_SWAP_PEND true).setFlag R.TICK_STAT F.TICK_STAT_SWAP_CHECKED false
    { s with tick := { s.tick with swapAsked := s.tick.count, swapMulti := multi } }

/-- Exchanges that rode on a swap that ends without activation are ARMED again (R229). -/
def State.unride (s : State) : State := (s.inXstate xsRIDING).foldl (fun s p => s.setXstate p xsARMED) s

/-- The pending request ends without activation. -/
def State.swapEnd (s : State) (err tab idx : Nat) : State :=
  ((s.swapResult err tab idx).setFlag R.TICK_STAT F.TICK_STAT_SWAP_PEND false).setFlag R.TICK_STAT
    F.TICK_STAT_SWAP_CHECKED false |>.unride

/-- CANCEL (R103 step 6). -/
def State.swapCancel (s : State) : State :=
  if s.flag R.TICK_STAT F.TICK_STAT_SWAP_PEND then s.swapEnd swCANCELLED 0 0 else s

/-- SWAP. -/
def execSwap (s : State) : Out := s.onCore (fun s => s.swapRequest false)
/-- CANCEL. -/
def execCancel (s : State) : Out := s.onCore (fun s => s.swapCancel)

/-! ### The check (R103 step 3) -/

/-- The tick a TICK_SWAP_AT word names, sought in the 65,536 seconds from the second of tick `t` (R104). -/
def swapTarget (w : Word) (t : Nat) : Option Nat :=
  let k := F.TICK_SWAP_AT_AT_TICK.get w
  let s0 := t / 4800
  let sec := s0 + (F.TICK_SWAP_AT_AT_SEC.get w + 65536 - s0 % 65536) % 65536
  if 4799 < k then none else if 4800 * sec + k < t then none else some (4800 * sec + k)

/-- The blocks [a, a + n) and [b, b + m) meet. -/
def meets (a n b m : Nat) : Bool := a < b + m && b < a + n

def slotStart (w : Word) : Nat := F.TICK_SLOT_A_START.get w
def slotLen (w : Word) : Nat := F.TICK_SLOT_A_LEN.get w

/-- A position that holds no slot under `c` spares (R137, R138). -/
def State.noSlots (s : State) (c n : Nat) : Bool := 64 - c ≤ n || s.posState n == 2

/-- SWAP_ERR of slot entry n of the pending bank, 0 where it breaks nothing; an overlap is reported at the later
entry of the pair. -/
def State.slotErr (s : State) (b : Bool) (c n : Nat) : Nat :=
  let w := s.slotReg b n
  let st := s.pstate (s.slotPart b n)
  if slotLen w < 4 ∨ 624 < slotStart w + slotLen w then 1
  else if (List.range (n % 16)).any (fun i =>
      let v := s.slotReg b (16 * (n / 16) + i)
      v.getLsbD 31 && meets (slotStart v) (slotLen v) (slotStart w) (slotLen w)) then 2
  else if s.noSlots c (n / 16) then 3
  else if st = psFree ∨ st = psZeroising then 4
  else 0

/-- The armed exchange of partition p rides on the pending swap; a twinned one only on a coordinated swap (R227, R237). -/
def State.rides (s : State) (p : Nat) : Bool := s.xstate p == xsARMED && (!s.twinned p || s.tick.swapMulti)

/-- The ENTRY a task entry of the pending bank has at activation, none where R157 or R227 refuses it. -/
def State.boundEntry (s : State) (b : Bool) (n : Nat) : Option Nat :=
  let p := s.taskPart b n
  let a := s.taskAddr b n
  match (s.part p).prog with
  | none => none
  | some g =>
    match (s.part p).xchg with
    | some x =>
      if s.rides p then
        let hit : Option ImgEntry := match imgEntryAt g.image a with
          | some e => x.prog.image.entries.find? (fun (f : ImgEntry) => f.id == e.id)
          | none => imgEntryAt x.prog.image a
        match hit with
        | some f => if f.kind = s.taskKind b n then some f.addr else none
        | none => none
      else (imgEntryAt g.image a).map (fun e => e.addr)
    | none => (imgEntryAt g.image a).map (fun e => e.addr)

/-- SWAP_ERR of task entry n of the pending bank, 0 where it breaks nothing (R96 to R98, R157). -/
def State.taskErr (s : State) (b : Bool) (before : List Nat) (n : Nat) : Nat :=
  let k := s.taskKind b n
  let per := s.taskPeriod b n
  let ph := s.taskPhase b n
  let same := before.filter (fun m => s.taskSlot b m == s.taskSlot b n)
  if 2 < k || !(s.slotReg b (s.taskSlot b n)).getLsbD 31 || (s.boundEntry b n).isNone then 5
  else if (if k = 1 then per ≠ 0 ∨ ph ≠ 0 else per ≤ ph) then 6
  else if k ≠ 1 && same.any (fun m => s.taskKind b m != 1 &&
      (let g := Nat.gcd per (s.taskPeriod b m); ph % g == s.taskPhase b m % g)) then 7
  else if same.any (fun m => k == 1 || s.taskKind b m == 1) then 8
  else if k = 2 ∧ (per < 2 ∨ 96 < per) then 9
  else 0

/-- The first task entry, in rising order, that breaks a condition. -/
def State.tasksErr (s : State) (b : Bool) : List Nat → List Nat → Option (Nat × Nat)
  | _, [] => none
  | before, n :: rest =>
    let e := s.taskErr b before n
    if e ≠ 0 then some (e, n) else s.tasksErr b (before ++ [n]) rest

/-- The grant entries of a bank that are in use, rising. -/
def State.grants (s : State) (b : Bool) : List Nat :=
  let base := if b then 0x25000 else 0x24000
  (s.srf.filter (fun e => base ≤ e.1 && e.1 < base + 0x1000 && F.ENG_XBAR_A_LEN.get e.2 != 0)).map (fun e => (e.1 - base) / 4)

/-- CAUSE of ENG_XBAR_STAT for grant n of the pending bank, 0 where it breaks nothing (R149). -/
def State.grantErr (s : State) (b : Bool) (c : Nat) (before : List Nat) (n : Nat) : Nat :=
  let w := s.xbarReg b n
  let bank := F.ENG_XBAR_A_BANK.get w
  let lamp := F.ENG_XBAR_A_LAMP.get w
  let st := F.ENG_XBAR_A_START.get w
  let len := F.ENG_XBAR_A_LEN.get w
  let hits (m : Nat) : Bool := meets (F.ENG_XBAR_A_START.get (s.xbarReg b m)) (F.ENG_XBAR_A_LEN.get (s.xbarReg b m)) st len
  if 624 < st + len then 1
  else if bank = lamp then 2
  else if s.noSlots c lamp then 3
  else if (List.range 16).any (fun i =>
      let v := s.slotReg b (16 * bank + i)
      v.getLsbD 31 && meets (slotStart v) (slotLen v) st len) then 4
  else if before.any (fun m => F.ENG_XBAR_A_BANK.get (s.xbarReg b m) == bank && hits m) then 5
  else if before.any (fun m => F.ENG_XBAR_A_LAMP.get (s.xbarReg b m) == lamp &&
      F.ENG_XBAR_A_BANK.get (s.xbarReg b m) != bank && hits m) then 6
  else 0

/-- The first grant, in rising order, that breaks a condition: its cause and number. -/
def State.grantsErr (s : State) (b : Bool) (c : Nat) : List Nat → List Nat → Option (Nat × Nat)
  | _, [] => none
  | before, n :: rest =>
    let e := s.grantErr b c before n
    if e ≠ 0 then some (e, n) else s.grantsErr b c (before ++ [n]) rest

/-- The words of a bank's safety task entries and of their slots (R104, R233). -/
def State.safetyWords (s : State) (b : Bool) : List Nat :=
  let ts := (s.validTasks b).filter (fun n => s.taskKind b n == 2)
  (ts.map (fun n => [s.taskSlot b n, (s.slotReg b (s.taskSlot b n)).toNat])).flatten ++
    (ts.map (fun n => [n, (s.perReg b n).toNat, (s.bindReg b n).toNat])).flatten

/-- Armed partitions whose running image is a safety image and whose exchange rides. -/
def State.safetyRiders (s : State) : List Nat := (List.range 128).filter (fun p =>
  (s.rides p || s.xstate p == xsRIDING) && (match (s.part p).xchg with | some x => x.prog.image.kind == 1 | none => false))

/-- The authorisation digest of the pending bank (R233). The order in which its parts are hashed is not stated: a free
function of them (log entry 10). -/
def State.authDigest (s : State) : List Byte :=
  Config.authDigest (s.safetyRiders.map (fun p => match (s.part p).xchg with
    | some x => beNat x.prog.image.digest
    | none => 0)) (s.safetyWords (!s.bankB))

/-- ENTRY of every task entry of an armed partition as R227 rewrites it. -/
def State.rewrite (s : State) (b : Bool) : State :=
  (s.validTasks b).foldl (fun s n =>
    if s.rides (s.taskPart b n) then match s.boundEntry b n with
      | some a => s.setFld (if b then R.TICK_TASK_BIND_B n else R.TICK_TASK_BIND_A n) F.TICK_TASK_BIND_A_ENTRY a
      | none => s
    else s) s

/-- SAFETY_AUTH: the swap needs an authorisation and has none that fits (R104, R233). -/
def State.authMissing (s : State) : Bool :=
  let needs := !s.safetyRiders.isEmpty || s.safetyWords s.bankB != s.safetyWords (!s.bankB)
  let has := match s.tick.safetyAuth with
    | some (d, t) => d == s.authDigest && s.tick.count < t + 2880000
    | none => false
  needs && !has

/-- What the check finds, in the order of R103 step 3: SWAP_ERR, ERR_TAB, ERR_IDX, and for a grant its cause and number.
`s` is the state with ENTRY rewritten. -/
def State.checkBank (s : State) (orig : State) : Option (Nat × Nat × Nat × Option (Nat × Nat)) :=
  let b := !s.bankB
  let c := s.fld R.ENG_SPARE F.ENG_SPARE_COUNT
  let at' := s.reg R.TICK_SWAP_AT
  if at'.getLsbD 31 && (swapTarget at' (s.tick.abs + 1)).isNone then some (swLATE, 0, 0, none)
  else match (s.validSlots b).find? (fun n => s.slotErr b c n != 0) with
    | some n => some (s.slotErr b c n, 0, n, none)
    | none => match orig.tasksErr b [] (s.validTasks b) with
      | some (e, n) => some (e, 1, n, none)
      | none => match s.grantsErr b c [] (s.grants b) with
        | some (e, n) => some (2, 0, 0, some (e, n))
        | none => if s.authMissing then some (swSAFETY_AUTH, 0, 0, none) else none

/-- ENG_XBAR_STAT after a check. -/
def State.xbarStat (s : State) (g : Option (Nat × Nat)) : State :=
  s.setReg R.ENG_XBAR_STAT (match g with
    | some (e, n) => w32 (2 ^ 31 + e * 2 ^ 16 + n)
    | none => 0)

/-- The check of a pending request (R103 steps 3 to 5, R104, R227). -/
def State.swapCheck (s : State) : State :=
  let t := s.rewrite (!s.bankB)
  match t.checkBank s with
  | some (e, tab, idx, g) => ((s.swapEnd e tab idx).xbarStat g).event Ev.SCHED_REFUSED
  | none =>
    let at' := t.reg R.TICK_SWAP_AT
    let x := if at'.getLsbD 31 then (swapTarget at' (t.tick.abs + 1)).getD (t.tick.abs + 1) else t.tick.abs + 1
    let auth := !t.safetyRiders.isEmpty || t.safetyWords t.bankB != t.safetyWords (!t.bankB)
    let ride := (List.range 128).filter (fun p => t.rides p)
    let t := ((t.swapResult 0 0 0).xbarStat none).setFlag R.TICK_STAT F.TICK_STAT_SWAP_CHECKED true
    let t := ride.foldl (fun s p => s.setXstate p xsRIDING) t
    { t with tick := { t.tick with swapAt := x, swapWord := at', swapSpares := t.fld R.ENG_SPARE F.ENG_SPARE_COUNT,
                                   swapAuth := auth, safetyAuth := if auth then none else t.tick.safetyAuth } }

/-- SWAP_CHECK (R103 step 3): in the tick after the request. -/
def execSwapCheck (s : State) : Out :=
  s.onCore (fun s =>
    if s.flag R.TICK_STAT F.TICK_STAT_SWAP_PEND && !s.flag R.TICK_STAT F.TICK_STAT_SWAP_CHECKED &&
        (!s.tick.running || s.tick.swapAsked < s.tick.count) then s.swapCheck
    else s)

/-! ### Staging (R224 to R226) -/

/-- Results of staging (ENG_XCHG_STAT_n.RESULT). -/
abbrev xrIMAGE : Nat := 1
abbrev xrKIND : Nat := 2
abbrev xrID_CONFLICT : Nat := 3
abbrev xrINST_MOVED : Nat := 4
abbrev xrPAGE_CLASH : Nat := 5
abbrev xrNO_PAGE : Nat := 6
abbrev xrQUOTA : Nat := 7
abbrev xrFIXUP_FULL : Nat := 8
abbrev xrBUSY : Nat := 9
abbrev xrTIMEOUT : Nat := 10
abbrev xrDISCARDED : Nat := 11
abbrev xrSTATE : Nat := 12

/-- The location of a tile the running program and a staged tile share, none where the tile is not carried (R224). -/
def State.carriedLoc (s : State) (p : Nat) (g : Program) (t : ImgTile) : Option Nat :=
  match s.findIdent t.ident with
  | none => none
  | some loc =>
    let same := s.dirOwner loc == p && g.map.contains loc && s.dirKind loc == t.kind && s.dirFlags loc == t.flags && t.kind != kCODE
    let img := if t.kind = kIMAGE then
        match tget (s.part p).hdrs loc, imgHdr (expand 0 4064 0 t.payload) (bit t.flags fOUTPUT) with
        | some h, some n => h.layout == n.layout && h.source == n.source
        | _, _ => false
      else true
    if same && img then some loc else none

/-- A tile of the staged image conflicts (R224). -/
def State.conflicts (s : State) (p : Nat) (g : Program) (t : ImgTile) : Bool :=
  (s.findIdent t.ident).isSome && (s.carriedLoc p g t).isNone

/-- The lamps on which a partition is allotted code pages. -/
def State.codeLamps (s : State) (p : Nat) : List Nat :=
  luniq (((s.srf.filter (fun e => 0x21000 ≤ e.1 && e.1 < 0x22000 && e.2.getLsbD 31 && F.ENG_CODE_PAGE_PART.get e.2 == p)).map
    (fun e => (e.1 - 0x21000) / 4)).map (fun n => n / 16))

/-- The units of a carried tile that an exchange changes (R230): offset and what becomes of it. -/
def fixUnits (run staged : List ImgInst) (ident : Nat) : List (Nat × FixUnit) :=
  let r := run.filter (fun i => i.ident == ident)
  let n := staged.filter (fun i => i.ident == ident)
  let new := n.filterMap (fun i => match r.find? (fun o => o.key == i.key) with
    | some o => if o.type = i.type then none else some (i.off, FixUnit.reset i.key true)
    | none => some (i.off, FixUnit.reset i.key false))
  let gone := r.filterMap (fun o =>
    if n.any (fun i => i.key == o.key || i.off == o.off) then none else some (o.off, FixUnit.zero))
  new ++ gone

/-- Entries of the fix-up table in use (ENG_FIXUP.USED): plans whose tile has not been written since. -/
def State.fixupUsed (s : State) : Nat :=
  ((s.parts.map (fun e => (e.2.plans.filter (fun f => f.gen == s.dirGen f.loc)).map
    (fun f => (luniq (f.units.map (fun u => u.1))).length))).flatten).foldl (· + ·) 0

/-- The result of staging an image for partition p, 0 where it is accepted (R225). -/
def State.stageResult (s : State) (p : Nat) (i : Image) : Nat := match (s.part p).prog with
  | none => xrSTATE
  | some g =>
    let st := s.pstate p
    let lamps := s.codeLamps p
    let codes := i.tiles.filter (fun t => t.kind == kCODE)
    let spots := (lamps.map (fun l => codes.map (fun t => 16 * l + t.page))).flatten
    let news := i.tiles.filter (fun t => (s.carriedLoc p g t).isNone)
    let cost := (news.map (fun t => tileCost t.kind t.flags)).foldl (· + ·) 0
    let carried := i.tiles.filter (fun t => t.kind == kDATA && (s.carriedLoc p g t).isSome)
    let fix := (carried.map (fun t => (fixUnits g.image.insts i.insts t.ident).length)).foldl (· + ·) 0
    let q := R.TS_QUOTA p
    if ¬ (st = psRunning ∨ st = psStopped) then xrSTATE
    else if (s.part p).xchg.isSome ∨ (0 < s.twin.step ∧ s.twin.step < 5) then xrBUSY
    else if ¬ imagesOk i then xrIMAGE
    else if i.kind ≠ g.image.kind then xrKIND
    else if i.tiles.any (fun t => s.conflicts p g t) then xrID_CONFLICT
    else if i.insts.any (fun n => g.image.insts.any (fun o => o.ident == n.ident && o.key == n.key && o.off != n.off)) then
      xrINST_MOVED
    else if spots.any (fun n => (s.boundPages p).contains n) then xrPAGE_CLASH
    else if spots.any (fun n => !s.flag (R.ENG_CODE_PAGE n) F.ENG_CODE_PAGE_VALID || s.fld (R.ENG_CODE_PAGE n) F.ENG_CODE_PAGE_PART != p) then
      xrNO_PAGE
    else if s.fld q F.TS_QUOTA_LIMIT + (s.part p).xferTiles.length < s.fld q F.TS_QUOTA_USED + cost then xrQUOTA
    else if 2048 < s.fixupUsed + fix then xrFIXUP_FULL
    else 0

/-- RESULT of a partition's exchange. -/
def State.setXres (s : State) (p v : Nat) : State := s.setFld (R.ENG_XCHG_STAT p) F.ENG_XCHG_STAT_RESULT v

/-- Transfer tiles of a partition are freed in allocation steps (R539). -/
def State.dropXfer (s : State) (p : Nat) : State :=
  let ls := (s.part p).xferTiles
  let s := s.modPart p (fun x => { x with xferTiles := [] })
  ls.foldl (fun s l =>
    let q := (s.steps (l / 64)).filter (fun c => match c with | .place m r _ _ _ => !(m == l && r == p) | _ => true)
    s.setSteps (l / 64) (if s.dirValid l then q ++ [.drop l p] else q)) s

/-- A location for a tile of an image that has none, and the draws it takes. -/
def State.allotOne (s : State) (have' : ImgTile → Option Nat) (t : ImgTile) (used : List Nat) (st : State) :
    Option (Nat × Nat) × List Nat × State :=
  match have' t with
  | some l => (some (l, 0), used, st)
  | none =>
    let pair := tileCost t.kind t.flags == 2
    match s.pickLoc used st.free pair with
    | none => (none, used, st)
    | some (l, k) => (some (l, k), used ++ (if pair then [l, 64 * ((l / 64 + 32) % 64) + k] else [l]), st.draw.draw)

/-- Locations for the tiles of a manifest, in order: for each the location and the LINK of its pair. -/
def State.allotTiles (s : State) (have' : ImgTile → Option Nat) : List ImgTile → List Nat → State →
    List (Option (Nat × Nat)) × State
  | [], _, st => ([], st)
  | t :: rest, used, st =>
    let o := s.allotOne have' t used st
    let r := s.allotTiles have' rest o.2.1 o.2.2
    (o.1 :: r.1, r.2)

/-- The writes of the tiles an image adds, in the allocation steps of their banks (R129, R540). -/
def State.placeNew (s : State) (p : Nat) (i : Image) (spots : List (Option (Nat × Nat))) (news : List Nat) : State :=
  let map := spots.map (fun x => match x with | some e => e.1 | none => 0)
  news.foldl (fun s k => match i.tiles[k]?, spots.getD k none with
    | some t, some (l, link) =>
      s.setSteps (l / 64) (s.steps (l / 64) ++
        [.place l p (dirWord p t.kind t.flags link true) (w32 t.ident) (sparse 0 0 (placedPayload i map k))])
    | _, _ => s) s

/-- XCHG-STAGE of a received image (R224 to R226): the result, and the state with the exchange STAGING where it is 0. -/
def State.xchgStage (s : State) (p : Nat) (reply : Option (Nat × Nat)) : Nat × State := match (s.part p).received with
  | none => (xrIMAGE, s.setXres p xrIMAGE)
  | some i =>
    let r := s.stageResult p i
    if r ≠ 0 then (r, s.setXres p r)
    else
      let g := (s.part p).prog.getD ⟨i, []⟩
      let a := s.allotTiles (fun t => s.carriedLoc p g t) i.tiles [] s
      let map := a.1.map (fun x => match x with | some e => e.1 | none => 0)
      let news := (List.range i.tiles.length).filter (fun k => match i.tiles[k]? with
        | some t => (s.carriedLoc p g t).isNone
        | none => false)
      let pages := ((List.range i.tiles.length).map (fun k => match i.tiles[k]? with
        | some t => if t.kind = kCODE then (s.codeLamps p).map (fun l => (16 * l + t.page, map.getD k 0, false)) else []
        | none => [])).flatten
      let s := a.2.placeNew p i a.1 news
      let s := s.modPart p (fun x => { x with received := none, xchg := some ⟨⟨i, map⟩, news, pages, s.tick.count, reply⟩ })
      let s := s.dropXfer p
      let s := pages.foldl (fun s e => s.setPage e.1 1) s
      (0, ((s.setXstate p xsSTAGING).setXres p 0).setFld (R.ENG_XCHG_STAT p) F.ENG_XCHG_STAT_PAGES_LEFT pages.length)

/-- An exchange ends without taking effect: its new tiles are freed and its staged pages emptied (R226). -/
def State.xchgDrop (s : State) (p res : Nat) : State := match (s.part p).xchg with
  | none => s
  | some x =>
    let locs := x.news.map (fun k => x.prog.map.getD k 0)
    let s := locs.foldl (fun s l =>
      let q := (s.steps (l / 64)).filter (fun c => match c with | .place m q _ _ _ => !(m == l && q == p) | _ => true)
      s.setSteps (l / 64) (if s.dirValid l then q ++ [.drop l p] else q)) s
    let s := x.pages.foldl (fun s e => s.setPage e.1 0) s
    let s := match x.reply with
      | some (sess, req) => s.send (.reply sess req 10 true [BitVec.ofNat 8 res])
      | none => s
    let s := (s.setXstate p xsNONE).setXres p res
    (s.setFld (R.ENG_XCHG_STAT p) F.ENG_XCHG_STAT_PAGES_LEFT 0).modPart p (fun y => { y with xchg := none })

/-- XCHG_STAGED: every staged page READY, STAGING becomes STAGED (R226). -/
def execXchgStaged (part : Fin 128) (s : State) : Out :=
  s.onCore (fun s => match (s.part part).xchg with
    | some x =>
      let p := part.val
      if s.xstate p = xsSTAGING && x.pages.all (fun (e : Nat × Nat × Bool) => e.2.2) then
        let s := s.setXstate p xsSTAGED
        match x.reply with
        | some (sess, req) =>
          (s.modPart p (fun y => { y with xchg := some { x with reply := none } })).send (.reply sess req 0 true [])
        | none => s
      else s
    | none => s)

/-- XCHG_TIMEOUT: staged pages not READY within 48,000 ticks refuse the staging (R225). -/
def execXchgTimeout (part : Fin 128) (s : State) : Out :=
  s.onCore (fun s => match (s.part part).xchg with
    | some x => if s.xstate part = xsSTAGING && x.since + 48000 ≤ s.tick.count then s.xchgDrop part xrTIMEOUT else s
    | none => s)

/-! ### The exchange at tick x (R228 to R232) -/

/-- The fix-up plans of a partition after an exchange from g to h: the older plan of a carried tile first (R231). -/
def State.newPlans (s : State) (g h : Program) : List FixPlan :=
  (List.range h.image.tiles.length).filterMap (fun k => match h.image.tiles[k]? with
    | none => none
    | some t =>
      let loc := h.map.getD k 0
      if t.kind = kDATA && g.map.contains loc then
        let us := s.planUnits loc ++ fixUnits g.image.insts h.image.insts t.ident
        if us.isEmpty then none else some ⟨loc, s.dirGen loc, us⟩
      else none)

/-- The records of R230 that an exchange logs in the partition's queue. -/
def State.logInsts (s : State) (p : Nat) (g h : Program) : State :=
  let s := (h.image.insts.filter (fun i => g.image.insts.any (fun o => o.ident == i.ident && o.key == i.key && o.type != i.type))).foldl
    (fun s _ => s.eventQ Ev.INST_TYPE_RESET p) s
  (g.image.insts.filter (fun o => !h.image.insts.any (fun i => i.ident == o.ident && i.key == o.key))).foldl
    (fun s _ => s.eventQ Ev.INST_DISCARDED p) s

/-- The staged program of partition p takes effect at tick x (R228, R230 to R232). -/
def State.exchange (s : State) (p : Nat) : State := match (s.part p).xchg, (s.part p).prog with
  | some x, some g =>
    let h := x.prog
    let plans := s.newPlans g h
    let s := s.logInsts p g h
    let gone := g.map.filter (fun l => !h.map.contains l)
    let orphans := gone.filterMap (fun l => (tget (s.part p).safe l).map (fun e =>
      (s.dirIdent l, e.values.map (fun v => (⟨v, qSAFE⟩ : EffPoint)))))
    let kept := (s.part p).stored.filter (fun l => h.map.contains l)
    let old := s.part p
    let s := s.installProgram p h
    let s := s.modPart p (fun y =>
      { y with stored := kept, plans := plans, xchg := none, xchgd := true, ranNew := [], distributing := old.distributing,
               endedEntries := old.endedEntries, eff := old.eff.filter (fun e => h.map.contains e.1),
               orphans := (old.orphans.filter (fun e => (s.findIdent e.1).isNone)) ++ orphans })
    let s := x.pages.foldl (fun s e => s.setPage e.1 2) s
    let s : State := { s with tiles := { s.tiles with later := s.tiles.later ++ gone.map (fun l => (l / 64, .drop l p)) } }
    let s := ((s.setXstate p xsNONE).setXres p 0).incFld (R.ENG_XCHG_STAT p) F.ENG_XCHG_STAT_COUNT 65535
    (s.setReg (R.ENG_XCHG_TICK p) s.absLo).dropForces p
  | _, _ => s

/-- The checked bank becomes active with every riding exchange (R103 step 4, R138, R148, R228). -/
def State.swapActivate (s : State) : State :=
  let s := s.setFlag R.TICK_STAT F.TICK_STAT_ACTIVE (!s.bankB)
  let s := (s.setFlag R.TICK_STAT F.TICK_STAT_SWAP_PEND false).setFlag R.TICK_STAT F.TICK_STAT_SWAP_CHECKED false
  let s := if s.tick.swapSpares = s.eng.count then s else s.applySpares s.tick.swapSpares
  (s.inXstate xsRIDING).foldl (fun s p => s.exchange p) s

end Sys2Proof.Machine
end

