-- ==== Sys2Proof/Machine/Clu.lean ====
section
/-!
DEFINITION. The Control Loop Unit (chapter 10): binding, loading and computing loop slots, LOOPRD and LOOPWR.
-/
namespace Sys2Proof.Machine

/-! ### Coefficient sets (R257) -/

/-- The words of a coefficient set: KP, KI, KD, TF, OUT_MIN, OUT_MAX, RATE_UP, RATE_DN, VMAX, AMAX, JMAX, BUMP,
HO_RATE. -/
def setWords (w : List Word) (b : Bool) : List Word := (w.drop (if b then 40 else 24)).take 13

/-- Coefficient k of a set. -/
def coef (w : List Word) (b : Bool) (k : Nat) : Word := (setWords w b).getD k 0

/-- The set may become active (R257). -/
def setValid (w : List Word) (b : Bool) : Bool :=
  (setWords w b).all fFinite && fLt (coef w b 4) (coef w b 5) &&
    [3, 6, 7, 8, 9, 10, 11].all (fun k => fLe 0 (coef w b k)) && fLt 0 (coef w b 12)

/-! ### Staged writes (R184, R262, R263) -/

/-- A float word that LOOPWR may write. -/
def floatWord (n : Nat) : Bool := (2 ≤ n && n ≤ 6) || (24 ≤ n && n ≤ 36) || (40 ≤ n && n ≤ 52) || (56 ≤ n && n ≤ 59) || n == 61

/-- A LOOPWR of word n is taken while set b is active (R263). -/
def loopwrOk (b : Bool) (n : Nat) (v : Word) : Bool :=
  let x := v.toNat
  if n = 0 then x % 8 ≤ 4 && x / 8 % 2 == 0 && x < 32
  else if n = 1 then x < 4
  else if n = 60 then x / 64 % 4 ≤ 1 && 1 ≤ x / 256 % 65536 && x < 2 ^ 24
  else if n = 62 then x / 2 ^ 17 % 2 ^ 14 == 0
  else if floatWord n then fFinite v && !(24 ≤ n && n ≤ 36 && !b) && !(40 ≤ n && n ≤ 52 && b)
  else false

/-- A staged write enters a slot's state memory at the commit (R184); a request for the other set clears SET_ERR. -/
def State.loopwr (s : State) (j n : Nat) (v : Word) : State :=
  let x := s.clus j
  let st := x.words.getD 8 0
  let b := st.getLsbD 4
  if loopwrOk b n v then
    let w := lset x.words n v
    let w := if n = 0 && v.getLsbD 4 != b then lset w 8 (st &&& 0xFFFF7FFF) else w
    s.setClu j { x with words := w, dirty := true }
  else s.setClu j { x with words := lset x.words 8 (st ||| 0x10000), dirty := true }

/-! ### Limits (R250) -/

/-- The level clamp. -/
def level (lo hi u : Word) : Word := fMin (fMax u lo) hi

/-- The rate limit, or the ramp in its place, from cv_prev. -/
def rateLim (dt up dn ho cv : Word) (ramp : Bool) (u : Word) : Word :=
  let a := if ramp then fMul ho dt else fMul dn dt
  let b := if ramp then fMul ho dt else fMul up dt
  let u := if !ramp && fEq dn 0 then u else fMax u (fSub cv a)
  if !ramp && fEq up 0 then u else fMin u (fAdd cv b)

/-- What the limiting steps give: CV, the integrator, and FROZEN, SAT_HI, SAT_LO, RATE, RAMP, NUM. -/
structure Limited where
  cv : Word
  i : Word
  frozen : Bool
  satHi : Bool
  satLo : Bool
  rate : Bool
  ramp : Bool
  num : Bool
  deriving DecidableEq, Repr

/-- The limiting, ramp and freeze steps of R250 on a u_try, under set `b` of record `w`. -/
def limitStep (w : List Word) (b : Bool) (dt cv : Word) (ramp handover : Bool) (i di u : Word) : Limited :=
  if !fFinite u then ⟨cv, i, false, false, false, false, ramp, true⟩
  else
    let lo := coef w b 4
    let hi := coef w b 5
    let lv := level lo hi
    let ramp := if handover then fLt (coef w b 11) (fAbsW (fSub (lv u) cv)) else ramp
    let rt := rateLim dt (coef w b 6) (coef w b 7) (coef w b 12) cv ramp
    let ul := rt (lv u)
    let frozen := (fLt 0 di && fLt ul u) || (fLt di 0 && fLt u ul)
    let i' := if frozen then i else fAdd i di
    let u' := if frozen then fSub u di else u
    let c := rt (lv u')
    ⟨c, i', frozen, fLt hi u, fLt u lo, !fEq c (lv u'), ramp && !fEq c (lv u'), false⟩

/-! ### Profile (R251) -/

def fSign (a : Word) : Word := if fLt 0 a then 0x3F800000 else if fLt a 0 then 0xBF800000 else 0

/-- One step of the profile generator: SP, SP_VEL, SP_ACC. -/
def profile (vmax amax jmax dt target sp vel acc : Word) : Word × Word × Word :=
  if fEq vmax 0 then (target, 0, 0)
  else
    let dist := fSub target sp
    let vlim := if fLt 0 amax then fMin vmax (fSqrt (fMul (fMul 0x40000000 amax) (fAbsW dist))) else vmax
    let ad := fDiv (fSub (fMul (fSign dist) vlim) vel) dt
    let ad := if fLt 0 amax then fMin (fMax ad (fNegW amax)) amax else ad
    let jd := fMul jmax dt
    let acc := if fLt 0 jmax then fAdd acc (fMin (fMax (fSub ad acc) (fMul (fNegW jmax) dt)) jd) else ad
    let vel := fMin (fMax (fAdd vel (fMul acc dt)) (fNegW vmax)) vmax
    let sp := fAdd sp (fMul vel dt)
    if fSign (fSub target sp) ≠ fSign dist ∨ fEq sp target then (target, 0, 0) else (sp, vel, acc)

/-! ### Binding of records (R261, R267) -/

/-- The records of an image's LOOP tiles in ordinal order: location and record index. -/
def State.loopRecs (s : State) (p : Nat) : List (Nat × Nat) := match (s.part p).prog with
  | none => []
  | some g => ((List.range g.image.tiles.length).map (fun k => match g.image.tiles[k]? with
    | some t => if t.kind = kLOOP then (List.range (leAt (expand 0 1 0 t.payload) 0 1)).map (fun r => (g.map.getD k 0, r)) else []
    | none => [])).flatten

/-- The loop slot bound to a record. -/
def State.slotOfRec (s : State) (p loc r : Nat) : Option Nat := (List.range 256).find? (fun j =>
  s.flag (R.CLU_SLOT j) F.CLU_SLOT_VALID && s.cluPart j == p && s.cluState j != 0 &&
    s.fld (R.CLU_SLOT j) F.CLU_SLOT_LOC == loc && s.fld (R.CLU_SLOT j) F.CLU_SLOT_REC == r)

/-- The loop slot of ordinal n of partition p's program. -/
def State.slotOfOrd (s : State) (p n : Nat) : Option Nat := match (s.loopRecs p)[n]? with
  | some (l, r) => s.slotOfRec p l r
  | none => none

/-- Slots of a partition bound to a location that its program no longer holds become UNBOUND; records without a slot take
the lowest free allotted ones (R267, R268). -/
def State.bindLoops (s : State) (p : Nat) : State :=
  let recs := s.loopRecs p
  let mine := (List.range 256).filter (fun j => s.flag (R.CLU_SLOT j) F.CLU_SLOT_VALID && s.cluPart j == p)
  let s := mine.foldl (fun s j =>
    if s.cluState j != 0 && !recs.contains (s.fld (R.CLU_SLOT j) F.CLU_SLOT_LOC, s.fld (R.CLU_SLOT j) F.CLU_SLOT_REC) then
      { s.setFld (R.CLU_SLOT j) F.CLU_SLOT_STATE 0 with clu := tdel s.clu j } else s) s
  recs.foldl (fun s e =>
    if (s.slotOfRec p e.1 e.2).isSome then s
    else match mine.find? (fun j => s.cluState j == 0) with
      | none => s
      | some j =>
        let a := R.CLU_SLOT j
        ((s.setFld a F.CLU_SLOT_LOC e.1).setFld a F.CLU_SLOT_REC e.2).setFld a F.CLU_SLOT_STATE 1 |>.setClu j CluSlot.reset) s

/-- Words of record r of a LOOP tile's payload. -/
def recWords (b : List Byte) (r : Nat) : List Word := (List.range 64).map (fun n => w32 (leAt b (16 + 256 * r + 4 * n) 4))

/-- Placement accepts the loop records of an image (R267), given how many slots are free for the records it adds. -/
def State.loopsOk (s : State) (p : Nat) (i : Image) (adds : ImgTile → Bool) : Bool :=
  let tiles := i.tiles.filter (fun t => t.kind == kLOOP)
  let all := (tiles.map (fun t => let b := expand 0 4064 0 t.payload
    (List.range (leAt b 0 1)).map (fun r => (recWords b r, adds t)))).flatten
  let recs := all.map (fun e => e.1)
  let bits (w : List Word) (n lo len : Nat) : Nat := (w.getD n 0).toNat / 2 ^ lo % 2 ^ len
  let per (w : List Word) : Nat := bits w 21 0 16
  let ph (w : List Word) : Nat := bits w 21 16 16
  let mine := (List.range 256).filter (fun j => s.flag (R.CLU_SLOT j) F.CLU_SLOT_VALID && s.cluPart j == p)
  let free := mine.filter (fun j => s.cluState j == 0 || !(tiles.any (fun t => !adds t &&
    s.findIdent t.ident == some (s.fld (R.CLU_SLOT j) F.CLU_SLOT_LOC))))
  let slots := free.take (all.filter (fun e => e.2)).length
  let added := (all.filter (fun e => e.2)).map (fun e => e.1)
  let word (ident idx : Nat) (out : Bool) : Bool := i.tiles.any (fun t => t.ident == ident && t.kind == kIMAGE &&
    bit t.flags fOUTPUT == out && !(out && bit t.flags fSAFETY) &&
    (match imgHdr (expand 0 4064 0 t.payload) out with | some h => h.layout == lyWORD && idx < h.npoints | none => false))
  let outer (w : List Word) : Option (List Word) := if bits w 22 5 1 = 1 then recs[bits w 22 8 8]? else none
  let chain (w : List Word) : Nat := (List.range recs.length).foldl (fun (a : Nat × Option (List Word)) _ => match a.2 with
    | some v => (a.1 + 1, outer v)
    | none => a) (0, some w) |>.1
  (tiles.all (fun t => 1 ≤ leAt (expand 0 4064 0 t.payload) 0 1 && leAt (expand 0 4064 0 t.payload) 0 1 ≤ 15)) &&
  slots.length == added.length &&
  recs.all (fun w => 1 ≤ per w && per w ≤ 4800 && ph w < per w && setValid w false &&
    (bits w 22 0 2 != 1 || word (w.getD 23 0).toNat (bits w 37 0 8) false) &&
    (bits w 22 2 1 == 0 || word (w.getD 38 0).toNat (bits w 37 16 8) true) &&
    (bits w 22 5 1 == 0 || (match outer w with
      | some o => per o % per w == 0 && per o / per w ≤ 64 && ph o % per w == ph w && chain w < recs.length
      | none => false))) &&
  (List.range added.length).all (fun k =>
    let w := added.getD k []
    let j := slots.getD k 0
    let other := if j % 2 = 0 then k + 1 else k - 1
    let o := added.getD other []
    bits w 22 3 2 == 0 || (bits w 22 3 2 ≤ 2 && (j % 2 == 0 || 0 < k) && slots.getD other 999 == (if j % 2 = 0 then j + 1 else j - 1) &&
      bits o 22 3 2 == bits w 22 3 2 && per o == per w && ph o == ph w))

/-! ### Loading (R265, R266) -/

/-- The safe value, in binary32, of the output point bound to a record, if one is. -/
def State.loopSafe (s : State) (p : Nat) (w : List Word) : Option Word :=
  if (w.getD 22 0).getLsbD 2 then match s.outImage p (w.getD 38 0).toNat with
    | some (loc, h) =>
      let i := (w.getD 37 0).toNat / 2 ^ 16 % 256
      some (ptFloat (h.types.getD i 0) ((tgetD (s.part p).safe loc ⟨[], false⟩).values.getD i 0))
    | none => none
  else none

/-- The CLU loads a slot's record from its LOOP tile at a landing (R265). -/
def State.loadLoop (s : State) (j : Nat) : State :=
  let a := R.CLU_SLOT j
  let loc := s.fld a F.CLU_SLOT_LOC
  let p := s.cluPart j
  let cause := if s.tiles.dirBad.contains loc then some wcIDENT
    else if !s.dirValid loc || s.dirOwner loc != p then some wcOWNER
    else if s.dirKind loc != kLOOP then some wcKIND
    else if s.dirState loc == 1 then some wcREPAIRING else s.sealFail loc
  match cause with
  | some c =>
    let s := s.setFld a F.CLU_SLOT_STATE 1
    if 3 ≤ c && c ≤ 6 then s.startRepair loc else s
  | none =>
    let w := recWords (s.payload loc) (s.fld a F.CLU_SLOT_REC)
    let w := match s.loopSafe p w with
      | some v => lset w 13 v
      | none => w
    (s.setClu j { CluSlot.reset with words := w, shown := w, fresh := true }).setFld a F.CLU_SLOT_STATE 2

/-- The landing's part for one slot: loaded, idle or kept (R265), and the PV point of the landing before kept (R247). -/
def State.landLoop (s : State) (j : Nat) : State :=
  let st := s.cluState j
  if st = 0 then s
  else
    let p := s.cluPart j
    let s := if s.running p then (if st = 2 then s else s.loadLoop j)
      else if st = 2 then s.setFld (R.CLU_SLOT j) F.CLU_SLOT_STATE 3 else s
    let x := s.clus j
    let src := s.cluBits j 22 0 2
    let pv : Word × Nat := if src = 1 then
        match (s.part p).hdrs.find? (fun e => s.dirIdent e.1 == (s.cluWord j 23).toNat && !s.dirFlag e.1 fOUTPUT) with
        | some (loc, h) =>
          let b := s.payload loc
          let i := s.cluBits j 37 0 8
          (ptFloat (h.types.getD i 0) (ptValue h.layout b i), ptQual h.layout b i)
        | none => (0, 2)
      else (0, 0)
    s.setClu j { x with shown := x.words, pvVal := pv.1, pvQual := pv.2, part := none }

/-- The CLU writes a LOOP tile with a slot computed or written since the landing before (R264). -/
def State.writeLoopTile (s : State) (loc : Nat) : State :=
  let p := s.dirOwner loc
  let b := s.payload loc
  let n := leAt b 0 1
  let recs := (List.range n).map (fun r => match s.slotOfRec p loc r with
    | some j => if s.cluState j = 2 then ((s.clus j).words.map (fun w => leBytes 4 w.toNat)).flatten else sub b (16 + 256 * r) 256
    | none => sub b (16 + 256 * r) 256)
  let t := sub (sub b 0 16 ++ recs.flatten) 0 4064
  (s.storeTile loc t).noteStore loc t

/-- LOOP_TILE_WRITE of a landing (R264). -/
def State.writeLoops (s : State) : State :=
  let dirty := (s.clu.filter (fun e => e.2.dirty && s.cluState e.1 == 2)).map (fun e => e.1)
  let locs := luniq (dirty.map (fun j => s.fld (R.CLU_SLOT j) F.CLU_SLOT_LOC))
  let s := locs.foldl (fun s loc => s.writeLoopTile loc) s
  dirty.foldl (fun s j => s.setClu j { s.clus j with dirty := false }) s

/-- CLU_STATE_FAULT (R266). -/
def execCluStateFault (j : Fin 256) (s : State) : Out :=
  s.onCore (fun s =>
    if s.cluState j = 2 then
      (s.setFld (R.CLU_SLOT j) F.CLU_SLOT_STATE 4).incFld R.CLU_STAT F.CLU_STAT_UNCORR 255
    else s)

/-! ### The computation (R247, R250 to R260) -/

/-- The sample time of a record (R246). -/
def sampleTime (per : Nat) : Word := fDiv (fOfInt per 0) (fOfInt 4800 0)

/-- The slot's effective mode and, in MANUAL and TRACK, its u_mode (R253, R255, R260). -/
def State.cluMode (s : State) (j : Nat) : Nat × Word :=
  let x := s.clus j
  let st := s.cluWord j 8
  let req := s.cluBits j 0 0 3
  let p := s.cluPart j
  let held := (st.getLsbD 12 && s.cluBits j 60 6 2 == 1) || (st.getLsbD 13 && s.cluBits j 62 16 1 == 1)
  let inner := (List.range 256).find? (fun k => s.cluState k == 2 && s.cluPart k == p && s.cluBits k 22 5 1 == 1 &&
    s.slotOfOrd p (s.cluBits k 22 8 8) == some j)
  if held then (0, x.alarmCv)
  else match inner with
    | some k =>
      if req = 1 ∧ s.cluBits k 8 0 3 ≠ 2 then (3, s.cluWord k 9)
      else (req, if req = 0 then s.cluWord j 3 else s.cluWord j 4)
    | none => (req, if req = 0 then s.cluWord j 3 else s.cluWord j 4)

/-- The steps of R250 up to u_try, none where the sample is on hold (R252). -/
def State.cluFront (s : State) (j : Nat) : Option CluPart :=
  let x := s.clus j
  let w := x.words
  let dt := sampleTime (s.cluBits j 21 0 16)
  let st := s.cluWord j 8
  let old := st.getLsbD 4
  let want := (s.cluWord j 0).getLsbD 4
  let swap := want != old && setValid w want
  let set := if swap then want else old
  let err := st.getLsbD 15 || (want != old && !swap)
  let pv := if s.cluBits j 22 0 2 = 1 then x.pvVal else s.cluWord j 6
  let q := if s.cluBits j 22 0 2 = 1 then x.pvQual else 0
  if q = 2 ∨ ¬ fFinite pv then none
  else
    let c := coef w set
    let m := s.cluMode j
    let target := if m.1 = 2 ∧ s.cluBits j 22 5 1 = 1 then
        match s.slotOfOrd (s.cluPart j) (s.cluBits j 22 8 8) with
        | some o => s.cluWord o 13
        | none => s.cluWord j 2
      else s.cluWord j 2
    let pr := profile (c 8) (c 9) (c 10) dt target (s.cluWord j 9) (s.cluWord j 10) (s.cluWord j 11)
    let sp := pr.1
    let e := fSub sp pv
    let dpv0 := s.cluWord j 15
    let dpv := fAdd dpv0 (fMul (fDiv dt (fAdd (c 3) dt)) (fSub (fDiv (fSub pv (s.cluWord j 19)) dt) dpv0))
    let d := fMul (fNegW (c 2)) dpv
    let p := fMul (c 0) e
    let ff := s.cluWord j 5
    let cv := s.cluWord j 13
    let hand := m.1 != x.lastMode || swap || x.lastHold || x.fresh
    let pid := m.1 != 0 && m.1 != 3
    let back (u : Word) : Word := fSub (fSub (fSub u p) d) ff
    let i := if pid then (if hand then back cv else s.cluWord j 14) else back m.2
    let di := if pid then fMul (fMul (c 1) e) dt else 0
    let u := if pid then fAdd (fAdd (fAdd (fAdd p i) di) d) ff else m.2
    let w := lset (lset (lset (lset w 9 sp) 10 pr.2.1) 11 pr.2.2) 15 dpv
    some ⟨w, set, err, m.1, hand, pv, q == 1, p, d, ff, i, di, u⟩

/-- Supervision and publication of a computation (R258 to R260): `l` what the limits gave, `sel` STATUS.SEL; `hold` the
sample is on hold. -/
def State.cluFinish (s : State) (j : Nat) (c : CluPart) (l : Limited) (sel hold : Bool) : State :=
  let x := s.clus j
  let w := c.words
  let per := s.cluBits j 21 0 16
  let dt := sampleTime per
  let st := s.cluWord j 8
  let cmd := s.cluWord j 1
  let cv := l.cv
  let reset := !hold && (cmd.getLsbD 1 || x.fresh)
  let ym0 := if reset then c.pv else w.getD 16 0
  let dead0 := if reset then List.replicate 64 cv else x.dead
  let pc0 := if reset then 0 else (w.getD 18 0).toNat % 65536
  let fc0 := (w.getD 18 0).toNat / 65536
  let thresh := w.getD 59 0
  let resid := fSub c.pv ym0
  let beyond := fLt 0 thresh && fLt thresh (fAbsW resid)
  let pc := if hold then pc0 else if beyond then satAdd pc0 1 65535
    else if fEq thresh 0 || fLe (fAbsW resid) thresh then 0 else pc0
  let sup := (w.getD 60 0).toNat
  let alm := st.getLsbD 12 || (!hold && sup / 256 % 65536 ≤ pc)
  let dead := if hold then dead0 else (cv :: dead0).take 64
  let ud := dead.getD (sup % 64) 0
  let tm := w.getD 57 0
  let ym := if hold then ym0 else
    fAdd ym0 (fMul (fDiv dt (fAdd tm dt)) (fSub (fAdd (fMul (w.getD 56 0) ud) (w.getD 58 0)) ym0))
  let fe := (w.getD 62 0).toNat
  let feOn := (w.getD 62 0).getLsbD 31
  let fc := if !feOn then fc0
    else if fLt (w.getD 61 0) (fAbsW (fSub (w.getD 9 0) c.pv)) then satAdd fc0 per 65535 else 0
  let falm := st.getLsbD 13 || (feOn && fe % 65536 ≤ fc)
  let ack := cmd.getLsbD 0
  let alm' := alm && !(ack && pc == 0)
  let falm' := falm && !(ack && fc == 0)
  let raised := (alm && !st.getLsbD 12) || (falm && !st.getLsbD 13)
  let keep (b : Bool) (k : Nat) : Bool := if hold then st.getLsbD k else b
  let mode := if hold then st.toNat % 8 else c.mode
  let stat := mode + 2 ^ 4 * b2n c.set + 2 ^ 5 * b2n (keep l.ramp 5) + 2 ^ 6 * b2n (keep l.frozen 6) +
    2 ^ 7 * b2n (keep l.satHi 7) + 2 ^ 8 * b2n (keep l.satLo 8) + 2 ^ 9 * b2n (keep l.rate 9) + 2 ^ 10 * b2n sel +
    2 ^ 11 * b2n hold + 2 ^ 12 * b2n alm' + 2 ^ 13 * b2n falm' + 2 ^ 14 * b2n (hold || c.pvBad) + 2 ^ 15 * b2n c.setErr +
    2 ^ 16 * b2n (st.getLsbD 16) + 2 ^ 17 * b2n (keep l.num 17)
  let ups : List (Nat × Word) := [(1, 0), (8, w32 stat), (12, c.pv), (13, cv), (14, l.i), (16, ym),
    (17, if hold then w.getD 17 0 else resid), (18, w32 (pc + 65536 * fc)), (19, c.pv), (20, s.absLo)]
  let w' := ups.foldl (fun w e => lset w e.1 e.2) w
  let s := s.setClu j { x with words := w', dead := dead, lastMode := mode, lastHold := hold, fresh := x.fresh && hold,
                               alarmCv := if raised then cv else x.alarmCv, dirty := true, part := none }
  if raised then s.fire 4 j else s

/-- A slot that runs alone. -/
def State.cluAlone (s : State) (j : Nat) (c : CluPart) : State :=
  let dt := sampleTime (s.cluBits j 21 0 16)
  let l := limitStep c.words c.set dt (s.cluWord j 13) ((s.cluWord j 8).getLsbD 5) c.handover c.i c.di c.uTry
  s.cluFinish j c l false false

/-- The second slot of an override pair selects, limits under the first slot's set, and both publish (R256). -/
def State.cluPair (s : State) (j : Nat) (a b : CluPart) : State :=
  let dt := sampleTime (s.cluBits j 21 0 16)
  let max := s.cluBits j 22 3 2 == 2
  let sel := if max then fLt a.uTry b.uTry else fLt b.uTry a.uTry
  let c := if sel then b else a
  let changed := sel != (s.cluWord j 8).getLsbD 10
  let cv := s.cluWord j 13
  let i := if changed then fSub (fSub (fSub cv c.p) c.d) c.ff else c.i
  let u := if changed then fAdd (fAdd (fAdd (fAdd c.p i) c.di) c.d) c.ff else c.uTry
  let l := limitStep a.words a.set dt cv ((s.cluWord j 8).getLsbD 5) (a.handover || b.handover || changed) i c.di u
  let track (o : CluPart) : Limited := { l with i := fSub (fSub (fSub l.cv o.p) o.d) o.ff }
  let s := s.cluFinish j a (if sel then track a else l) sel false
  s.cluFinish (j + 1) b (if sel then l else track b) sel false

/-- Both slots of the pair of slot j are in OVERRIDE (R256). -/
def State.paired (s : State) (j : Nat) : Bool :=
  let k := if j % 2 = 0 then j + 1 else j - 1
  s.cluBits j 22 3 2 != 0 && s.cluState k == 2 && (s.cluMode j).1 == 4 && (s.cluMode k).1 == 4

/-- CLU_COMPUTE: slot j, where it is due in this tick (R245, R246, R250). -/
def State.cluCompute (s : State) (j : Nat) : State :=
  let per := s.cluBits j 21 0 16
  if s.cluState j ≠ 2 ∨ per = 0 ∨ s.tick.abs % per ≠ s.cluBits j 21 16 16 then s
  else match s.cluFront j with
    | none =>
      let st := s.cluWord j 8
      let want := (s.cluWord j 0).getLsbD 4
      let old := st.getLsbD 4
      let swap := want != old && setValid (s.clus j).words want
      let pv := if s.cluBits j 22 0 2 = 1 then (s.clus j).pvVal else s.cluWord j 6
      let c : CluPart := ⟨(s.clus j).words, if swap then want else old, st.getLsbD 15 || (want != old && !swap), 0, false, pv,
        true, 0, 0, 0, s.cluWord j 14, 0, 0⟩
      s.cluFinish j c ⟨s.cluWord j 13, s.cluWord j 14, false, false, false, false, false, false⟩ (st.getLsbD 10) true
    | some c =>
      if s.paired j then
        if j % 2 = 0 then s.setClu j { s.clus j with part := some c }
        else match (s.clus (j - 1)).part with
          | some a => s.cluPair (j - 1) a c
          | none => s.cluAlone j c
      else s.cluAlone j c

/-- CLU_COMPUTE. -/
def execCluCompute (j : Fin 256) (s : State) : Out := s.onCore (fun s => s.cluCompute j)

/-! ### LOOPRD and LOOPWR (R184) -/

/-- The slot is allotted to the partition. -/
def State.ownsLoop (s : State) (j p : Nat) : Bool :=
  j < 256 && s.flag (R.CLU_SLOT j) F.CLU_SLOT_VALID && s.cluPart j == p

/-- LOOPRD: the field as it stood at cycle 0 of the tick; an index of 64 or above reads 0 (R184, R263). -/
def execLooprd (l : Fin 64) (q : PQ) (rd ra : Fin 32) (fn : BitVec 7) (s : State) : Out :=
  s.onCore (fun s =>
    let word := wordA 0x30 rd.val ra.val 0 fn.toNat q
    s.instr l q word 1 false [] (fun t s =>
      let j := (s.g l ra).toNat
      if s.ownsLoop j t.part then s.setG l rd ((s.clus j).shown.getD fn.toNat 0)
      else (s.raise l cOWN word 0 0 (s.lamp l).pc).setG l rd 0))

/-- LOOPWR: the write is staged for the commit (R184). -/
def execLoopwr (l : Fin 64) (q : PQ) (ra rb : Fin 32) (fn : BitVec 7) (s : State) : Out :=
  s.onCore (fun s =>
    let word := wordA 0x31 0 ra.val rb.val fn.toNat q
    s.instr l q word 1 false [] (fun t s =>
      let j := (s.g l ra).toNat
      if s.ownsLoop j t.part then s.modPart t.part (fun x => { x with loopw := x.loopw ++ [(j, fn.toNat, s.g l rb)] })
      else s.raise l cOWN word 0 0 (s.lamp l).pc))

end Sys2Proof.Machine
end

