-- ==== Sys2Proof/Machine/Sv.lean ====
section
/-!
DEFINITION. Sampled-value ingest (R270 to R281): binding, the checks of an ASDU, alignment, release and stream state.
-/
namespace Sys2Proof.Machine

def SvStream.reset : SvStream := ⟨[], [], false, [], false⟩
def State.stream (s : State) (n : Nat) : SvStream := tgetD s.sv n SvStream.reset
def State.setStream (s : State) (n : Nat) (x : SvStream) : State := { s with sv := tput s.sv n x }
/-- The stream has an SV image bound. -/
def State.streamBound (s : State) (n : Nat) : Bool := (tget s.sv n).isSome

/-! ### Binding (R271, R276, R278) -/

/-- The streams, or datasets, allotted to a partition, rising: control registers `a i` for i below n, with their VALID and
PART at bits 31 and 30:24. -/
def State.allottedTo (s : State) (a : Nat → Nat) (n p : Nat) : List Nat :=
  (List.range n).filter (fun i => (s.reg (a i)).getLsbD 31 && (s.reg (a i)).toNat / 2 ^ 24 % 128 == p)

/-- The locations of a program's tiles of a kind that a test picks, in manifest order. -/
def progTiles (g : Program) (f : ImgTile → Bool) : List (Nat × ImgTile) :=
  (List.range g.image.tiles.length).filterMap (fun k => match g.image.tiles[k]? with
    | some t => if f t then some (g.map.getD k 0, t) else none
    | none => none)

/-- The tile is an SV image. -/
def isSvImage (t : ImgTile) : Bool := t.kind == kIMAGE && leAt (expand 0 16 0 t.payload) 4 1 == lySV

/-- The program of partition p has its SV images bound to its streams (R271); an image that keeps its location keeps its
stream (R289). -/
def State.bindStreams (s : State) (p : Nat) : State := match (s.part p).prog with
  | none => s
  | some g =>
    let imgs := progTiles g isSvImage
    let mine := s.allottedTo R.SV_STRM_CTRL 32 p
    let s := mine.foldl (fun s n =>
      if s.streamBound n && !imgs.any (fun e => e.1 == s.fld (R.SV_STRM_CTRL n) F.SV_STRM_CTRL_LOC) then
        { s with sv := tdel s.sv n } else s) s
    imgs.foldl (fun s e =>
      match mine.find? (fun n => s.streamBound n && s.fld (R.SV_STRM_CTRL n) F.SV_STRM_CTRL_LOC == e.1) with
      | some n => s.setStream n { s.stream n with simSeen := false }
      | none => match mine.find? (fun n => !s.streamBound n) with
        | none => s
        | some n =>
          let b := expand 0 64 0 e.2.payload
          let idw := leAt b 16 2 * 2 ^ 16 + leAt b 32 1 * 2 ^ 8 + leAt b 33 1 * 2 ^ 4 + leAt b 34 1 % 2
          let s := (s.setFld (R.SV_STRM_CTRL n) F.SV_STRM_CTRL_LOC e.1).setReg (R.SV_STRM_ID n) (w32 idw)
          (s.setReg (R.SV_STRM_STAT n) (w32 (2 ^ 31 + 4 * 2 ^ 28))).setStream n SvStream.reset) s

/-- Placement accepts the SV images of an image as far as partition p's streams go (R271). -/
def State.streamsOk (s : State) (p : Nat) (i : Image) : Bool :=
  (i.tiles.filter isSvImage).length ≤ (s.allottedTo R.SV_STRM_CTRL 32 p).length

/-- Bytes 0–63 of the placed payload of a stream's image: its parameters (R276). -/
def State.svParams (s : State) (n : Nat) : List Byte :=
  let loc := s.fld (R.SV_STRM_CTRL n) F.SV_STRM_CTRL_LOC
  match s.imageTile loc with
  | some b => sub b 0 64
  | none => List.replicate 64 0

/-! ### The checks of an ASDU (R272) -/

/-- A saturating RC counter of a stream grows. -/
def State.svCount (s : State) (a : Nat) (f : Fld) : State := s.incFld a f 255

/-- The stream a received frame belongs to: ingress port, destination and APPID (R271). -/
def State.streamOf (s : State) (port : Nat) (dst : List Byte) (appid : Nat) : Option Nat :=
  (List.range 32).find? (fun n => s.streamBound n && bit (s.fld (R.SV_STRM_CTRL n) F.SV_STRM_CTRL_PORTS) port &&
    sub (s.svParams n) 18 6 == dst && leAt (s.svParams n) 16 2 == appid)

/-- Quality of a channel kept in an entry (R277): validity in bits 1:0 (0 good, 1 invalid, 2 reserved, 3 questionable),
test in bit 11 of the IEC 61850 quality. -/
def chq (q : Word) : Nat :=
  let v := q.toNat % 4
  if v = 1 ∨ v = 2 then 2 else if q.getLsbD 11 then 3 else if v = 3 then 1 else 0

/-- Checks 1 to 4 of one ASDU; what passes waits for the next snapshot (R272). -/
def State.svAsdu (s : State) (n : Nat) (sim : Bool) (x : SvAsdu) : State :=
  let b := s.svParams n
  let nch := leAt b 32 1
  let mode := (leAt b 34 1) % 2 == 1
  let st := s.stream n
  if !x.format || x.chans.length < nch || crc32c x.svid != leAt b 28 4 || 4799 < x.cnt then
    s.svCount (R.SV_STRM_ERRA n) F.SV_STRM_ERRA_FORMAT
  else if (!mode && sim) || (mode && !sim && st.simSeen) then s.svCount (R.SV_STRM_ERRB n) F.SV_STRM_ERRB_SIMDROP
  else if x.confRev.toNat ≠ leAt b 24 4 then s.svCount (R.SV_STRM_ERRA n) F.SV_STRM_ERRA_CONFREV
  else if x.synch ≠ 2 then s.svCount (R.SV_STRM_ERRB n) F.SV_STRM_ERRB_UNSYNC
  else
    let smp : SvSample := ⟨x.cnt, (x.chans.take nch).map (fun c => c.1), (x.chans.take nch).map (fun c => chq c.2), sim⟩
    s.setStream n { st with arrived := st.arrived ++ [smp], simSeen := st.simSeen || sim }

/-- A matched frame: its one or two ASDUs are checked each on its own; any other number is FORMAT (R270). -/
def State.svFrame (s : State) (n : Nat) (sim : Bool) (xs : List SvAsdu) : State :=
  if xs.length = 1 ∨ xs.length = 2 then xs.foldl (fun s x => s.svAsdu n sim x) s
  else s.svCount (R.SV_STRM_ERRA n) F.SV_STRM_ERRA_FORMAT

/-! ### Alignment and release (R273 to R280) -/

/-- SV_ALIGN: the samples of the snapshot of tick m are held, or counted LATE, EARLY or DUP (R272, R273). -/
def State.svAlign (s : State) (n : Nat) : State :=
  let st := s.stream n
  let s := s.setStream n { st with arrived := [] }
  st.arrived.foldl (fun s x =>
    let d := (s.tickNo + 4800 - x.cnt) % 4800
    let t := s.stream n
    if d = 0 ∨ 2401 ≤ d then s.svCount (R.SV_STRM_ERRA n) F.SV_STRM_ERRA_EARLY
    else if 4 ≤ d then s.svCount (R.SV_STRM_ERRA n) F.SV_STRM_ERRA_LATE
    else if t.held.any (fun h => h.cnt == x.cnt) then s.svCount (R.SV_STRM_ERRB n) F.SV_STRM_ERRB_DUP
    else s.setStream n { t with held := t.held ++ [x] }) s

abbrev scMISSING : Nat := 1
abbrev scSTEP : Nat := 2
abbrev scNOSYNC : Nat := 3

/-- STATE, CAUSE and GOODRUN of a stream set; a change of STATE fires its event (R279). -/
def State.svState (s : State) (n : Nat) (inv : Bool) (cause run : Nat) : State :=
  let a := R.SV_STRM_STAT n
  let old := s.flag a F.SV_STRM_STAT_STATE
  let s := ((s.setFlag a F.SV_STRM_STAT_STATE inv).setFld a F.SV_STRM_STAT_CAUSE cause).setFld a F.SV_STRM_STAT_GOODRUN run
  if old != inv then s.fire 5 n else s

/-- The stream's state after the release of a sample (R278, R280). -/
def State.svNext (s : State) (n : Nat) (present : Bool) : State :=
  let a := R.SV_STRM_STAT n
  let inv := s.flag a F.SV_STRM_STAT_STATE
  let cause := s.fld a F.SV_STRM_STAT_CAUSE
  let run := s.fld a F.SV_STRM_STAT_GOODRUN
  let nosync := s.flag R.SV_STAT F.SV_STAT_NOSYNC
  let up := if nosync then 0 else satAdd run 1 4800
  let last := (s.stream n).lastMissing
  let s := if inv then
      if present then
        if up = 4800 ∧ s.fld R.SV_STAT F.SV_STAT_STEP_LEFT = 0 ∧ ¬ nosync then s.svState n false 0 up
        else s.svState n true cause up
      else s.svState n true cause 0
    else if present then s.svState n false cause up
    else if last then s.svState n true scMISSING 0
    else s
  s.setStream n { s.stream n with lastMissing := !present }

/-- The SV image's payload after a release (R276). -/
def State.svPayload (s : State) (n : Nat) : List Byte :=
  let a := R.SV_STRM_STAT n
  let st := s.stream n
  let hold := s.fld R.TIME_STAT F.TIME_STAT_STATE == 4
  let simact := match (st.ring.find? (fun e => e.1 == s.fld a F.SV_STRM_STAT_NEWEST % 100)) with
    | some e => e.2.2.getLsbD 18
    | none => false
  let head := leBytes 4 s.absLo.toNat ++ sub (s.svParams n) 4 44
  let stat := leBytes 2 (s.fld a F.SV_STRM_STAT_NEWEST) ++ leBytes 1 (s.fld a F.SV_STRM_STAT_STATE) ++
    leBytes 1 (s.fld a F.SV_STRM_STAT_CAUSE) ++ leBytes 2 (s.fld a F.SV_STRM_STAT_GOODRUN) ++
    leBytes 1 (b2n simact + 2 * b2n hold) ++ List.replicate 9 0
  let vals := (List.range 100).map (fun k => match tget st.ring k with
    | some e => (List.range 8).map (fun c => leBytes 4 (e.1.getD c 0).toNat) |>.flatten
    | none => List.replicate 32 0)
  let quals := (List.range 100).map (fun k => match tget st.ring k with
    | some e => leBytes 4 e.2.toNat
    | none => List.replicate 4 0)
  sub (head ++ stat ++ vals.flatten ++ quals.flatten) 0 4064

/-- SV_RELEASE of one stream at the landing of the tick (R274, R275, R278). -/
def State.svRelease (s : State) (n : Nat) : State :=
  let cnt := (s.tickNo + 4797) % 4800
  let st := s.stream n
  let nch := leAt (s.svParams n) 32 1
  let hit := st.held.find? (fun h => h.cnt == cnt)
  let entry : List Word × Word := match hit with
    | some h =>
      let q := (List.range 8).foldl (fun q c => q + (if c < nch then h.chq.getD c 2 else 2) * 4 ^ c) 0
      (h.vals, w32 (cnt * 2 ^ 19 + b2n h.sim * 2 ^ 18 + q))
    | none => ([], w32 (cnt * 2 ^ 19 + 2 ^ 16 + 0xAAAA))
  let s := s.setStream n { st with held := st.held.filter (fun h => h.cnt != cnt), ring := tput st.ring (cnt % 100) entry }
  let s := s.setFld (R.SV_STRM_STAT n) F.SV_STRM_STAT_NEWEST cnt
  let s := if hit.isNone then s.svCount (R.SV_STRM_ERRB n) F.SV_STRM_ERRB_MISSING else s
  let s := s.svNext n hit.isSome
  s.storeTile (s.fld (R.SV_STRM_CTRL n) F.SV_STRM_CTRL_LOC) (s.svPayload n)

/-- The streams with an image. -/
def State.streams (s : State) : List Nat := s.sv.map (fun e => e.1)

/-- The snapshot's part of a landing for the ingest (R273). -/
def State.svSnapshot (s : State) : State := s.streams.foldl (fun s n => s.svAlign n) s

/-- The release phase of a landing for the ingest (R274, R280). -/
def State.svReleaseAll (s : State) : State :=
  let left := s.fld R.SV_STAT F.SV_STAT_STEP_LEFT
  s.streams.foldl (fun s n => s.svRelease n) (s.setFld R.SV_STAT F.SV_STAT_STEP_LEFT (left - 1))

/-- A stretched tick: alignment buffers emptied, GOODRUN 0, CAUSE STEP, the step window opened (R278, R280). -/
def State.svStep (s : State) : State :=
  let s := s.setFld R.SV_STAT F.SV_STAT_STEP_LEFT 4800
  s.streams.foldl (fun s n => (s.setStream n { s.stream n with held := [], arrived := [] }).svState n true scSTEP 0) s

/-- Time runs from the RTC with no master seen: every stream INVALID (R278, R280). -/
def State.svNosync (s : State) : State :=
  let s := s.setFlag R.SV_STAT F.SV_STAT_NOSYNC true
  s.streams.foldl (fun s n => s.svState n true scNOSYNC 0) s

end Sys2Proof.Machine
end

