-- ==== Sys2Proof/Machine/Time.lean ====
section
/-!
DEFINITION. Network time (R316 to R327): the counter, the servo, the time states, PTP on ports 0–3, the UTC offset and
the restep.
-/
namespace Sys2Proof.Machine

/-- Time states (TIME_STAT.STATE). -/
abbrev tsACQUIRE : Nat := 0
abbrev tsRTC : Nat := 1
abbrev tsLOCKING : Nat := 2
abbrev tsLOCKED : Nat := 3
abbrev tsHOLDOVER : Nat := 4
def State.timeState (s : State) : Nat := s.fld R.TIME_STAT F.TIME_STAT_STATE

/-- The source in use (R318): true for BEACON. -/
def State.beaconSource (s : State) : Bool := match s.fld R.TIME_CFG F.TIME_CFG_SRC with
  | 1 => false
  | 2 => true
  | _ => !s.flag R.ID_STRAP F.ID_STRAP_MASTER

def State.ptpPort (s : State) (p : Nat) : PtpPort := tgetD s.time.ports p PtpPort.reset
def State.setPtpPort (s : State) (p : Nat) (x : PtpPort) : State :=
  { s with time := { s.time with ports := tput s.time.ports p x } }

/-! ### Capture (R317) -/

/-- CAPTURE: the counter at an instant within the present tick; where in the tick is a free value (log entry 13). -/
def State.timeCapture (s : State) : State :=
  let lo := s.tickNo * 1000000000 / 4800
  let hi := (s.tickNo + 1) * 1000000000 / 4800
  let v := Config.captureNs s.free
  let s := ((s.setReg R.TIME_SEC_LO (w32 s.taiSec)).setReg R.TIME_SEC_HI (w32 (s.taiSec / 2 ^ 32))).setReg R.TIME_NS
    (w32 (lo + v % (hi - lo)))
  (s.setReg R.TIME_FRAC (w32 (v / (hi - lo) % 65536))).draw

/-- TIME_CTRL_CAPTURE. -/
def execTimeCtrlCapture (s : State) : Out := s.onCore (fun s => s.timeCapture)

/-! ### PTP messages (R319, R320) -/

/-- The module's clock identity: the base MAC address with FF-FE in its middle (log entry 16). -/
def State.clockId (s : State) : Nat := s.macBase / 2 ^ 24 * 2 ^ 40 + 0xFFFE * 2 ^ 24 + s.macBase % 2 ^ 24
/-- Port identity of port p, 10 bytes. -/
def State.portIdent (s : State) (p : Nat) : List Byte := beBytes 8 s.clockId ++ beBytes 2 (p + 1)

/-- A PTP message of `type` sent at port p: Ethernet header, common header with flags, correction, sequence number and
interval, and body. -/
def State.ptpFrame (s : State) (p type flags seq : Nat) (corr : Nat) (body : List Byte) : List Byte :=
  let peer := type == 2 || type == 3 || type == 0xA
  let dst := if peer then 0x0180C200000E else 0x011B19000000
  let ctl := match type with | 0 => 0 | 8 => 2 | _ => 5
  let intv := if type = 3 ∨ type = 0xA then 0x7F else 0
  beBytes 6 dst ++ beBytes 6 ((s.macBase + p) % 2 ^ 48) ++ [0x88, 0xF7] ++
    [BitVec.ofNat 8 type, 2] ++ beBytes 2 (34 + body.length) ++ [BitVec.ofNat 8 (s.fld R.TIME_CFG F.TIME_CFG_DOMAIN), 0] ++
    beBytes 2 flags ++ beBytes 8 corr ++ List.replicate 4 0 ++ s.portIdent p ++ beBytes 2 seq ++
    [BitVec.ofNat 8 ctl, BitVec.ofNat 8 intv] ++ body

/-- A timestamp of PTP: 48-bit seconds and 32-bit nanoseconds of a TAI nanosecond. -/
def ptpStamp (t : Nat) : List Byte := beBytes 6 (t / 1000000000) ++ beBytes 4 (t % 1000000000)
def stampAt (b : List Byte) (off : Nat) : Nat := beNat (sub b off 6) * 1000000000 + beNat (sub b (off + 6) 4)

/-- The time engine sends a frame at port p; its cells come from the engine's own 64 (R292), and an event message takes
one of the port's 8 reserved stamp entries, of which no more than 8 are ever in flight (R308). -/
def State.ptpSend (s : State) (p : Nat) (bytes : List Byte) (ev : Option PtpTx) : State :=
  let event := match ev with | some (.through _ _) | none => false | some _ => true
  let n := cellsFor bytes.length
  let used := s.fld (R.SW_TSQ p) F.SW_TSQ_PTP_USED
  if s.cellsFree .time < n || (event && 8 ≤ used) then s
  else
    let s := if event then s.setFld (R.SW_TSQ p) F.SW_TSQ_PTP_USED (used + 1) else s
    let h := s.newHold .time n 0
    h.2.putTx p 9 ⟨h.1, padFrame bytes, none, false, ev⟩

/-- The module's state allows a port in MASTER state to send (R320). -/
def State.mastersSend (s : State) : Bool :=
  s.timeState == tsLOCKING || s.timeState == tsLOCKED || s.timeState == tsHOLDOVER

/-- An Announce held is older than announceReceiptTimeout, 3 s (R322). -/
def State.annOld (s : State) (a : AnnRec) : Bool := a.since + 14400 ≤ s.tick.count

/-- The order of the default best master clock algorithm (R319, log entry 16): a is better than b. -/
def annBetter (a b : AnnRec) : Bool :=
  let key (x : AnnRec) : List Nat := if a.gm = b.gm then [x.steps, x.sender, x.senderPort]
    else [x.prio1, x.cls, x.acc, x.var, x.prio2, x.gm]
  let rec less : List Nat → List Nat → Bool
    | x :: xs, y :: ys => x < y || (x == y && less xs ys)
    | _, _ => false
  less (key a) (key b)

/-- The PTP port that has the best Announce in force, with it. -/
def State.bestAnn (s : State) : Option (Nat × AnnRec) :=
  (List.range 4).foldl (fun (b : Option (Nat × AnnRec)) p =>
    if s.fld (R.TIME_PORT p) F.TIME_PORT_MODE ≠ 1 then b
    else match (s.ptpPort p).ann, b with
      | some a, none => if s.annOld a then b else some (p, a)
      | some a, some x => if s.annOld a || !annBetter a x.2 then b else some (p, a)
      | none, _ => b) none

/-- PSTATE of every port after the algorithm (R319, R320). -/
def State.ptpStates (s : State) : State :=
  let best := s.bestAnn
  (List.range 4).foldl (fun (s : State) p =>
    let a := R.TIME_PORT p
    let st : Nat := match s.fld a F.TIME_PORT_MODE with
      | 1 => match best with
        | none => if s.beaconSource && s.mastersSend then 2
                  else if s.timeState == tsHOLDOVER && s.fld a F.TIME_PORT_PSTATE == 2 then 2 else 1
        | some (q, x) =>
          if q = p then (if s.timeState == tsLOCKED then 5 else 4)
          else match (s.ptpPort p).ann with
            | some y => if !s.annOld y && y.gm == x.gm then 3 else 2
            | none => 2
      | 2 => 6
      | _ => 0
    s.setFld a F.TIME_PORT_PSTATE st) s

/-- A UTC offset and pending leap taken from the source (R325), recorded in KEEP when it changes. -/
def State.setUtc (s : State) (offset : Nat) (leap61 leap59 : Bool) : State :=
  let a := R.TIME_UTC
  let s := (((s.setFlag a F.TIME_UTC_VALID true).setFld a F.TIME_UTC_OFFSET offset).setFlag a F.TIME_UTC_LEAP61 leap61).setFlag a
    F.TIME_UTC_LEAP59 leap59
  { s with keep := { s.keep with s2 := some (offset % 65536) } }

/-- An Announce received at an ENABLED port. -/
def State.ptpAnnounce (s : State) (p : Nat) (m : List Byte) : State :=
  let n8 (o : Nat) : Nat := beNat (sub m o 1)
  let sender := beNat (sub m 20 8)
  let sport := beNat (sub m 28 2)
  let fl := n8 7
  let cnt := match (s.ptpPort p).ann with
    | some a => if a.sender = sender then a.count + 1 else 1
    | none => 1
  let x : AnnRec := ⟨n8 47, n8 48, n8 49, beNat (sub m 50 2), n8 52, beNat (sub m 53 8), beNat (sub m 61 2), sender, sport,
    beNat (sub m 44 2), fl, s.tick.count, cnt⟩
  let keep := match (s.ptpPort p).ann with
    | some a => s.annOld a || a.sender == sender || annBetter x a
    | none => true
  let s := if keep then s.setPtpPort p { s.ptpPort p with ann := some x } else s
  let s := s.ptpStates
  match s.bestAnn with
  | some (q, b) =>
    if q = p ∧ keep ∧ ¬ s.beaconSource then
      let s := (s.setReg R.TIME_GM_LO (w32 b.gm)).setReg R.TIME_GM_HI (w32 (b.gm / 2 ^ 32))
      let s := match (s.ptpPort p).delay with
        | some d => s.setReg R.TIME_PDELAY (wrapW d)
        | none => s
      if bit b.flags 2 then s.setUtc b.utc (bit b.flags 0) (bit b.flags 1) else s
    else s
  | none => s

/-- A message that uses an option outside the table (R319). -/
def State.ptpBad (s : State) (p : Nat) : State := s.incFld (R.TIME_PORT p) F.TIME_PORT_RX_PTP_BAD 255

/-- A PTP message received at port p at TAI nanosecond `t` (R319): `b` is the frame. -/
def State.ptpMessage (s : State) (p : Nat) (b : List Byte) (t : Nat) : State :=
  let m := b.drop (etherOff b + 2)
  let n8 (o : Nat) : Nat := beNat (sub m o 1)
  let type := n8 0 % 16
  let peer := type == 2 || type == 3 || type == 0xA
  let dst := dstMac b
  let flags := beNat (sub m 6 2)
  let seq := beNat (sub m 30 2)
  let timed := type == 0 || type == 8 || type == 0xB
  if n8 1 % 16 ≠ 2 || n8 4 ≠ s.fld R.TIME_CFG F.TIME_CFG_DOMAIN || bit flags 10 ||
      dst ≠ (if peer then 0x0180C200000E else 0x011B19000000) || (timed && n8 33 ≠ 0) then s.ptpBad p
  else
    let x := s.ptpPort p
    match type with
    | 2 =>
      s.ptpSend p (s.ptpFrame p 3 0x0200 seq 0 (ptpStamp t ++ sub m 20 10)) (some (.resp seq (sub m 20 10)))
    | 3 =>
      if seq = x.reqSeq ∧ sub m 44 10 = s.portIdent p then s.setPtpPort p { x with t4 := some (t, stampAt m 34) } else s
    | 0xA =>
      if seq = x.reqSeq ∧ sub m 44 10 = s.portIdent p then match x.t1, x.t4 with
        | some t1, some (t4, t2) =>
          let d : Int := (((t4 : Int) - t1) - ((stampAt m 34 : Int) - t2)) / 2
          let s := s.setPtpPort p { x with delay := some d, t1 := none, t4 := none }
          match s.bestAnn with
          | some (q, _) => if q = p ∧ ¬ s.beaconSource then s.setReg R.TIME_PDELAY (wrapW d) else s
          | none => s
        | _, _ => s
      else s
    | 0xB => if s.fld (R.TIME_PORT p) F.TIME_PORT_MODE = 1 then s.ptpAnnounce p m else s
    | 0 | 8 =>
      if s.fld (R.TIME_PORT p) F.TIME_PORT_MODE = 2 then
        let others := (List.range 4).filter (fun q => q != p && s.fld (R.TIME_PORT q) F.TIME_PORT_MODE == 2)
        let ev : Option PtpTx := if type = 0 then some (.through t (x.delay.getD 0)) else none
        others.foldl (fun s q => s.ptpSend q b ev) s
      else s
    | 0xD => s
    | _ => s.ptpBad p

/-- A frame of the time engine begins at port p at TAI nanosecond `t`: the bytes that leave, and what follows (R319,
R320): a Follow_Up, a Pdelay_Resp_Follow_Up, the request's stamp; a forwarded Sync has the residence time and the ingress
link delay added to its correctionField. -/
def State.ptpBegin (s : State) (p : Nat) (b : List Byte) (ev : PtpTx) (t : Nat) : List Byte × State := match ev with
  | .sync seq => (b, s.ptpSend p (s.ptpFrame p 8 0 seq 0 (ptpStamp t)) none)
  | .req seq => (b, if seq = (s.ptpPort p).reqSeq then s.setPtpPort p { s.ptpPort p with t1 := some t } else s)
  | .resp seq ident => (b, s.ptpSend p (s.ptpFrame p 0xA 0 seq 0 (ptpStamp t ++ ident)) none)
  | .through rx d =>
    let o := etherOff b + 2 + 8
    let c : Int := (BitVec.ofNat 64 (beNat (sub b o 8))).toInt + ((t : Int) - rx + d) * 65536
    (b.take o ++ beBytes 8 (BitVec.ofInt 64 c).toNat ++ b.drop (o + 8), s)

/-- PTP_MASTER_SEND: a port in MASTER state sends Announce and Sync; the Follow_Up goes when the Sync's stamp is known
(R320). -/
def State.ptpMaster (s : State) (p : Nat) : State :=
  if s.fld (R.TIME_PORT p) F.TIME_PORT_PSTATE ≠ 2 || !s.mastersSend then s
  else
    let x := s.ptpPort p
    let hold := s.tick.count - s.time.holdAt.getD s.tick.count
    let par : AnnRec := match s.bestAnn with
      | some (_, a) => a
      | none => ⟨128, 248, 0xFE, 0xFFFF, 128, (s.reg R.TIME_GM_HI).toNat * 2 ^ 32 + (s.reg R.TIME_GM_LO).toNat, 0, 0, 0, 0, 0, 0, 0⟩
    let cls := if s.timeState = tsHOLDOVER then (if hold ≤ 3600 * 4800 then 7 else 187) else par.cls
    let u := s.reg R.TIME_UTC
    let fl := b2n (F.TIME_UTC_LEAP61.get u == 1) + 2 * b2n (F.TIME_UTC_LEAP59.get u == 1) + 4 * b2n (F.TIME_UTC_VALID.get u == 1) + 8
    let body := List.replicate 10 0 ++ beBytes 2 (F.TIME_UTC_OFFSET.get u) ++ [0] ++ beBytes 1 par.prio1 ++ beBytes 1 cls ++
      beBytes 1 par.acc ++ beBytes 2 par.var ++ beBytes 1 par.prio2 ++ beBytes 8 par.gm ++ beBytes 2 (par.steps + 1) ++ [0x20]
    let s := s.setPtpPort p { x with seq := (x.seq + 1) % 65536 }
    let s := s.ptpSend p (s.ptpFrame p 0xB fl x.seq 0 body) none
    s.ptpSend p (s.ptpFrame p 0 0x0200 x.seq 0 (List.replicate 10 0)) (some (.sync x.seq))

/-- PTP_MASTER_SEND. -/
def execPtpMasterSend (p : Fin 4) (s : State) : Out := s.onCore (fun s => s.ptpMaster p)

/-- PEER_DELAY_REQUEST: a PTP-enabled port sends a Pdelay_Req (R319). -/
def State.peerDelay (s : State) (p : Nat) : State :=
  let m := s.fld (R.TIME_PORT p) F.TIME_PORT_MODE
  if m = 1 ∨ m = 2 then
    let x := s.ptpPort p
    let n := (x.reqSeq + 1) % 65536
    let s := s.setPtpPort p { x with reqSeq := n, t1 := none, t4 := none }
    s.ptpSend p (s.ptpFrame p 2 0 n 0 (List.replicate 20 0)) (some (.req n))
  else s

/-- PEER_DELAY_REQUEST. -/
def execPeerDelayRequest (p : Fin 4) (s : State) : Out := s.onCore (fun s => s.peerDelay p)

/-! ### Servo and states (R321, R322) -/

/-- The rate clamped to ±100 ppm (R316, R321). -/
def clampRate (r : Int) : Int := max (-100000000) (min r 100000000)

def State.setTimeState (s : State) (v : Nat) : State := s.setFld R.TIME_STAT F.TIME_STAT_STATE v

/-- The RTC's seconds set from the counter where the two differ by 1 s or more, at most once in 60 s (R323): `sec` is the
counter's TAI second. -/
def State.rtcSync (s : State) (sec : Nat) : State :=
  let st := s.timeState
  let utc : Int := (sec : Int) - (BitVec.ofNat 16 (s.fld R.TIME_UTC F.TIME_UTC_OFFSET)).toInt
  let may := match s.time.rtcSet with
    | some k => k + 288000 ≤ s.tick.count
    | none => true
  if (st == tsLOCKING || st == tsLOCKED) && may && utc ≠ (s.rtcNow : Int) && !s.rtc.locked && 0 ≤ utc then
    let s : State := { s with time := { s.time with rtcSet := some s.tick.count } }
    s.rtcLoad utc.toNat
  else s

/-- OFFSET_MEASUREMENT: an offset m in ns of the source in use, measured at TAI nanosecond `t` of the counter (R318, R321,
R322). In ACQUIRE the first offset is TIME_ACQUIRED instead. -/
def State.offsetMeasured (s : State) (beacon : Bool) (m : Int) (t : Nat) : State :=
  let st := s.timeState
  if beacon != s.beaconSource || st = tsACQUIRE || tsHOLDOVER < st then s
  else
    let rate := sval (s.reg R.TIME_RATE)
    let f := match s.time.lastOfs with
      | some _ => Config.freqEstimate rate s.time.m m (t - s.time.mAt)
      | none => rate
    let tau := s.fld R.TIME_CFG F.TIME_CFG_TAU
    let new := clampRate (f + m * 1000 / 2 ^ (tau % 8))
    let near := decide (m.natAbs ≤ 1000)
    let far := decide (10000 < m.natAbs)
    let big := decide (1000000 < m.natAbs)
    let good := if near then s.time.good + 1 else 0
    let bad := if far then s.time.bad + 1 else 0
    let s := (s.setReg R.TIME_RATE (wrapW new)).setReg R.TIME_OFFSET (wrapW (max (-2147483648) (min m 2147483647)))
    let s := (s.setFlag R.TIME_STAT F.TIME_STAT_MASTER_SEEN true).setFlag R.TIME_STAT F.TIME_STAT_SRC_USED beacon
    let s := s.setFlag R.TIME_STAT F.TIME_STAT_OFS_LARGE big
    let s := if big then s.event Ev.TIME_OFS_LARGE else s
    let s := if st = tsRTC then s.setFlag R.SV_STAT F.SV_STAT_NOSYNC false else s
    let st' := if st = tsRTC ∨ st = tsHOLDOVER then tsLOCKING
      else if st = tsLOCKING ∧ 16 ≤ good then tsLOCKED
      else if st = tsLOCKED ∧ 4 ≤ bad then tsLOCKING else st
    let s : State := { s with time := { s.time with
      lastOfs := some s.tick.count, m := m, mAt := t, good := good, bad := bad } }
    ((s.setTimeState st').ptpStates).rtcSync (t / 1000000000)

/-- OFFSET_MEASUREMENT. -/
def execOffsetMeasurement (beacon : Bool) (m : Int) (t : Nat) (s : State) : Out :=
  s.onCore (fun s => s.offsetMeasured beacon m t)

/-- The tick grid starts from a counter at TAI nanosecond `t`: the first edge is the next instant of R88, which the next
landing takes (R322, R547). -/
def State.startGrid (s : State) (t : Nat) : State :=
  { s with tick := { s.tick with running := true, abs := t * 4800 / 1000000000, launched := true } }

/-- TIME_ACQUIRED: the first offset in ACQUIRE; the counter steps once, to the source time `t` in TAI ns, and RATE is the
frequency estimate (R322). Once an extraction has ended start-up (R50) no grid starts. -/
def State.timeAcquired (s : State) (t : Nat) (f : Int) : State :=
  if s.timeState ≠ tsACQUIRE || s.tick.running || 13 ≤ s.fld R.ID_BOOT F.ID_BOOT_PHASE || s.txStopped then s
  else
    let s := (s.setReg R.TIME_RATE (wrapW (clampRate f))).setFlag R.TIME_STAT F.TIME_STAT_MASTER_SEEN true
    let s := (s.setFlag R.TIME_STAT F.TIME_STAT_SRC_USED s.beaconSource).setFlag R.SV_STAT F.SV_STAT_NOSYNC false
    let s : State := { s with time := { s.time with lastOfs := some s.tick.count, m := 0, mAt := t, good := 0, bad := 0 } }
    (((s.setTimeState tsLOCKING).startGrid t).ptpStates).rtcSync (t / 1000000000)

/-- TIME_ACQUIRED. -/
def execTimeAcquired (t : Nat) (f : Int) (s : State) : Out := s.onCore (fun s => s.timeAcquired t f)

/-- ACQUIRE_TIMEOUT: no offset within ACQ_WAIT; the counter starts from the RTC (R322, R323). -/
def State.acquireTimeout (s : State) : State :=
  if s.timeState ≠ tsACQUIRE || s.tick.running || 13 ≤ s.fld R.ID_BOOT F.ID_BOOT_PHASE || s.txStopped then s
  else
    let guess := s.keep.s2.isNone || s.flag R.RTC_STAT F.RTC_STAT_BK_LOST
    let off := if guess then 37 else s.keep.s2.getD 37
    let s := (s.setFld R.TIME_UTC F.TIME_UTC_OFFSET off).setFlag R.TIME_STAT F.TIME_STAT_UTC_GUESS guess
    let tai := ((s.rtcNow : Int) + (BitVec.ofNat 16 off).toInt).toNat
    let s := (s.setReg R.TIME_RATE 0).setTimeState tsRTC
    (s.startGrid (tai * 1000000000)).svNosync

/-- ACQUIRE_TIMEOUT. -/
def execAcquireTimeout (s : State) : Out := s.onCore (fun s => s.acquireTimeout)

/-- TIME_LOSS: the source is lost; HOLDOVER at the held rate (R322, R324). -/
def State.timeLoss (s : State) : State :=
  if s.timeState = tsLOCKING ∨ s.timeState = tsLOCKED then
    let s := (s.setTimeState tsHOLDOVER).setReg R.TIME_HOLD 0
    let s : State := { s with time := { s.time with holdAt := some s.tick.count, good := 0, bad := 0 } }
    s.ptpStates
  else s

/-- TIME_LOSS. -/
def execTimeLoss (s : State) : Out := s.onCore (fun s => s.timeLoss)

/-- HOLD_SEC at a landing: whole seconds of the present HOLDOVER (R322). -/
def State.holdSec (s : State) : State :=
  if s.timeState = tsHOLDOVER then match s.time.holdAt with
    | some k => s.setReg R.TIME_HOLD (w32 (min ((s.tick.count - k) / 4800) 0xFFFFFFFF))
    | none => s
  else s

/-! ### UTC offset and restep (R325, R326) -/

/-- LEAP_SECOND: the pending leap changes the offset at the end of the UTC day (R325). -/
def State.leapSecond (s : State) : State :=
  let a := R.TIME_UTC
  let up := s.flag a F.TIME_UTC_LEAP61
  let dn := s.flag a F.TIME_UTC_LEAP59
  if up || dn then
    let o := s.fld a F.TIME_UTC_OFFSET
    let o := if up then o + 1 else o + 65535
    let s := ((s.setFld a F.TIME_UTC_OFFSET o).setFlag a F.TIME_UTC_LEAP61 false).setFlag a F.TIME_UTC_LEAP59 false
    { s with keep := { s.keep with s2 := some (o % 65536) } }
  else s

/-- LEAP_SECOND. -/
def execLeapSecond (s : State) : Out := s.onCore (fun s => s.leapSecond)

/-- A request of TIME-RESTEP (R326): whether it is accepted, and the state. -/
def State.restep (s : State) : Bool × State :=
  let st := s.timeState
  let fresh : Bool := match s.time.lastOfs with
    | some k => s.tick.count ≤ k + 4800
    | none => false
  if s.flag R.TIME_STAT F.TIME_STAT_RESTEP_PEND then
    (false, (s.setFld R.TIME_STAT F.TIME_STAT_RESTEP_ERR 2).event Ev.RESTEP_REFUSED)
  else if (st = tsLOCKING ∨ st = tsLOCKED ∨ st = tsHOLDOVER) ∧ fresh then
    let s := (s.setFld R.TIME_STAT F.TIME_STAT_RESTEP_ERR 0).setFlag R.TIME_STAT F.TIME_STAT_RESTEP_PEND true
    (true, { s with time := { s.time with step := some (s.time.m, s.tick.abs + 1) } })
  else (false, (s.setFld R.TIME_STAT F.TIME_STAT_RESTEP_ERR 1).event Ev.RESTEP_REFUSED)

/-- TIME_CTRL_RESTEP: partition 0 writes TIME_CTRL.RESTEP (R326). -/
def execTimeCtrlRestep (s : State) : Out := s.onCore (fun s => s.restep.2)

end Sys2Proof.Machine
end

