-- ==== Sys2Proof/Machine/Switch.lean ====
section
/-!
DEFINITION. The frame switch at work (R294 to R315): reception, learning, wake patterns, the management lane's own answers,
FSEND and FRECV, release, the egress scheduler, and the writes of its registers that have rows of their own.
-/
namespace Sys2Proof.Machine

/-! ### Checksums -/

/-- Bytes of a list replaced from an offset. -/
def putAt (b : List Byte) (off : Nat) (v : List Byte) : List Byte := b.take off ++ v ++ b.drop (off + v.length)

/-- The sum of big-endian 16-bit words. -/
def sum16 : List Byte → Nat
  | a :: b :: t => a.toNat * 256 + b.toNat + sum16 t
  | [a] => a.toNat * 256
  | [] => 0

/-- The Internet checksum of bytes. -/
def ipSum (b : List Byte) : Nat :=
  let s := sum16 b
  let s := s % 65536 + s / 65536
  let s := s % 65536 + s / 65536
  let s := s % 65536 + s / 65536
  65535 - s % 65536

/-- The pseudo-header of a TCP or UDP segment of `n` bytes in the IP packet at `o`. -/
def pseudo (b : List Byte) (o n : Nat) : List Byte :=
  if (sub b o 1).headD 0 >>> 4 = 4 then sub b (o + 12) 8 ++ [0, (sub b (o + 9) 1).headD 0] ++ beBytes 2 n
  else sub b (o + 8) 32 ++ beBytes 4 n ++ [0, 0, 0, (sub b (o + 6) 1).headD 0]

/-- IP version and L4 protocol of the packet at `l3`, where it is IPv4 or IPv6 carrying TCP or UDP. -/
def ipProto (b : List Byte) (l3 : Nat) : Option (Nat × Nat) :=
  let v := (((sub b l3 1).headD 0) >>> 4).toNat
  let p := if v = 4 then ((sub b (l3 + 9) 1).headD 0).toNat else ((sub b (l3 + 6) 1).headD 0).toNat
  if (v = 4 ∨ v = 6) ∧ (p = 6 ∨ p = 17) then some (v, p) else none

/-- IPv4 header checksum and L4 checksum inserted (R304, R307). A UDP checksum of 0 of an IPv4 datagram is kept where
`keep` says so. -/
def insertSums (b : List Byte) (l3 l4 : Nat) (keep : Bool) : List Byte := match ipProto b l3 with
  | none => b
  | some (v, p) =>
    let b := if v = 4 then
        let h := putAt b (l3 + 10) [0, 0]
        putAt h (l3 + 10) (beBytes 2 (ipSum (sub h l3 (l4 - l3))))
      else b
    let at' := if p = 6 then l4 + 16 else l4 + 6
    if p = 17 ∧ v = 4 ∧ keep ∧ beNat (sub b at' 2) = 0 then b
    else
      let z := putAt b at' [0, 0]
      let c := ipSum (pseudo z l3 (z.length - l4) ++ z.drop l4)
      putAt z at' (beBytes 2 (if p = 17 ∧ c = 0 then 65535 else c))

/-! ### Release of FSEND frames (R304, R305, R307) -/

/-- Segment i of `n` of a send with SEG: H header bytes with the updates of R307, then its payload. -/
def segment (b : List Byte) (l3 l4 hlen mss i n : Nat) (v p : Nat) : List Byte :=
  let data := ((b.drop hlen).drop (i * mss)).take mss
  let h := b.take hlen
  let h := if v = 4 then
      let h := putAt h (l3 + 2) (beBytes 2 (hlen - l3 + data.length))
      putAt h (l3 + 4) (beBytes 2 (beNat (sub h (l3 + 4) 2) + i))
    else putAt h (l3 + 4) (beBytes 2 (hlen - l3 - 40 + data.length))
  let h := if p = 6 then
      let fl := ((sub h (l4 + 13) 1).headD 0)
      let fl := if i + 1 = n then fl else fl &&& 0xF6
      let fl := if i = 0 then fl else fl &&& 0x7F
      putAt (putAt h (l4 + 4) (beBytes 4 (beNat (sub h (l4 + 4) 4) + i * mss))) (l4 + 13) [fl]
    else putAt h (l4 + 4) (beBytes 2 (8 + data.length))
  insertSums (h ++ data) l3 l4 true

/-- The RS-485 channel whose transmit queue a partition names by a handle (R362). -/
def State.uartOf (s : State) (p h : Nat) : Option Nat := (List.range 8).find? (fun c =>
  let a := R.SPE_UBIND c
  s.flag a F.SPE_UBIND_VALID && s.inEffect a && s.fld a F.SPE_UBIND_PART == p && s.fld a F.SPE_UBIND_TXH == h)

/-- A UART frame released at the launch: one with a non-zero send header or not 1–4096 data bytes is discarded and counted
in TXDROP (R362). -/
def State.uartRelease (s : State) (p : Nat) (f : FStage) : State := match s.uartOf p f.handle with
  | none => s.unref f.hold
  | some c =>
    let b := f.bytes.drop 16
    if (f.bytes.take 16).any (fun x => x != 0) || b.length = 0 || 4096 < b.length then
      (s.incFld (R.SPE_USTAT c) F.SPE_USTAT_TXDROP 255).unref f.hold
    else { s with spe := { s.spe with uart := tput s.spe.uart c (tgetD s.spe.uart c [] ++ [(f.hold, b)]) } }

/-- One closed frame of partition p released at the launch (R304, R307). -/
def State.releaseFrame (s : State) (p : Nat) (f : FStage) : State := match s.queueOf p f.handle with
  | none => s.uartRelease p f
  | some (port, q) =>
    let n8 (o : Nat) : Nat := ((sub f.bytes o 1).headD 0).toNat
    let b := f.bytes.drop 16
    let tci := if tagged b then tciOf b
      else s.fld (R.SW_PCFG port) F.SW_PCFG_DPCP * 8192 + s.fld (R.SW_PCFG port) F.SW_PCFG_PVID
    let tci := if tci % 4096 = 0 then tci + s.fld (R.SW_PCFG port) F.SW_PCFG_PVID else tci
    let ts : Option Word := if bit (n8 0) 0 then some (w32 (leAt f.bytes 8 4)) else none
    let (mss, l3, l4) := (leAt f.bytes 2 2, n8 4, n8 5)
    let s := match s.vlanOf (tci % 4096) with
      | none => s.swCount port cTX_VLAN_DROP
      | some v =>
        if s.vlanPart v ≠ p || !s.vlanMember v port then s.swCount port cTX_VLAN_DROP
        else if bit (n8 0) 1 then
          let hlen := l4 + n8 6
          match ipProto b l3 with
          | none => s.swCount port cTX_DISCARD
          | some (ver, pr) =>
            if mss = 0 ∨ 9216 < hlen + mss + 4 then s.swCount port cTX_DISCARD
            else
              let n := (b.length - hlen + mss - 1) / mss
              (List.range n).foldl (fun s i =>
                s.release port q f.hold (s.egressForm v port (segment b l3 l4 hlen mss i n ver pr) tci)
                  (if i = 0 then ts else none) true) s
        else if b.length < 12 ∨ 9212 < b.length then s.swCount port cTX_DISCARD
        else
          let b := if bit (n8 0) 2 then insertSums b l3 l4 false else b
          s.release port q f.hold (s.egressForm v port b tci) ts false
    s.unref f.hold

/-- The distinct numbers of a list in rising order. -/
def rising : Nat → List Nat → List Nat
  | 0, _ => []
  | n + 1, l => match l.min? with
    | some k => k :: rising n (l.filter (fun x => x != k))
    | none => []

/-- The frames the partitions ps closed in this tick, released in ascending queue number, each queue's in FSEND order (R305,
R433). -/
def State.releaseFrames (s : State) (ps : List Nat) : State :=
  let fs : List (Nat × FStage) := (ps.map (fun p => ((s.part p).frames).map (fun f => (p, f)))).flatten
  let s := ps.foldl (fun (s : State) p => s.modPart p (fun x => { x with frames := [] })) s
  let key (e : Nat × FStage) : Nat := match s.queueOf e.1 e.2.handle with
    | some (port, q) => port * 8 + q
    | none => 1000
  let ks := luniq (fs.map key)
  (rising ks.length ks).foldl (fun (s : State) k =>
    (fs.filter (fun e => key e == k)).foldl (fun (s : State) e => s.releaseFrame e.1 e.2) s) s

/-- The partition leaves RUNNING at a launch: the frames of its queues that have not begun and those of this tick are
discarded and counted in TX_DISCARD (R305, R218). -/
def State.discardFrames (s : State) (p : Nat) : State :=
  let fs := (s.part p).frames
  let s := s.modPart p (fun x => { x with frames := [] })
  let s := fs.foldl (fun (s : State) f =>
    let s := match s.queueOf p f.handle with
      | some (port, _) => s.swCount port cTX_DISCARD
      | none => s
    s.unref f.hold) s
  let s := (List.range 8).foldl (fun (s : State) c =>
    if boundPart (s.reg (R.SPE_UBIND c)) = some p then
      let l := tgetD s.spe.uart c []
      let s := l.foldl (fun (s : State) e => (s.incFld (R.SPE_USTAT c) F.SPE_USTAT_TXDROP 255).unref e.1) s
      { s with spe := { s.spe with uart := tdel s.spe.uart c } }
    else s) s
  (s.sw.ports.map (fun e => e.1)).foldl (fun (s : State) port =>
    (List.range 8).foldl (fun (s : State) q =>
      if s.queueOwner port q = some p ∧ ¬ (q = 7 ∧ port < 4) then
        let x := s.swPort port
        let l := x.queue port q
        l.foldl (fun s f => s.txDiscard port f) (s.setSwPort port (x.setQueue port q []))
      else s) s) s

/-! ### FSEND and FRECV (R182, R183) -/

/-- Bytes of a size class. -/
def sizeClass (sz : Nat) : Nat := match sz with | 0 => 256 | 1 => 1024 | _ => 4096

/-- rd of a messaging instruction: STATUS and bytes (R183). -/
def msgResult (status n : Nat) : Word := w32 (status * 2 ^ 24 + n)

/-- A messaging failure of class MSG with its status. -/
def State.msgFail (s : State) (l : Nat) (rd : Fin 32) (word : Word) (status : Nat) : State :=
  (s.raise l cMSG word status 0 (s.lamp l).pc).setG l rd (msgResult status 0)

/-- The window a messaging range lies in (R182), settled, and how the instruction goes on: a range that leaves its window
gives ADDR, a POISON window gives WINDOW (R117), a length above the size class gives LEN. -/
def State.msgWindow (s : State) (l : Nat) (rd ra : Fin 32) (word : Word) (size len : Nat)
    (tooLong : State → State) (body : Fin 8 → Nat → State → State) : State :=
  let a := (s.g l ra).toNat
  match winOf a with
  | none => (s.raise l cADDR word 0 0 a).setG l rd (msgResult 9 0)
  | some w =>
    if 4096 < a % 4096 + size then (s.raise l cADDR word 0 0 a).setG l rd (msgResult 9 0)
    else
      let s := s.settleW l w
      if (s.lamp l).win[w].st == .poison then (s.poisonHit l w word a).setG l rd (msgResult 4 0)
      else if size < len then (tooLong s).msgFail l rd word 2
      else body w (a % 4096) s

/-- The open frame of a lamp is discarded. -/
def State.dropChain (s : State) (l : Nat) : State := match (s.lamp l).chain with
  | some c => (s.dropHold c.hold).modLamp l (fun x => { x with chain := none })
  | none => s

/-- FSEND (R182, R183, R293, R304): the frame's cells are charged as it grows; its 16-byte send header takes none. -/
def State.fsend (s : State) (l : Nat) (t : TaskCtx) (rd ra rb : Fin 32) (word : Word) (more : Bool) (size h : Nat) : State :=
  let len := (s.g l rb).toNat
  s.msgWindow l rd ra word size len (fun s => s.dropChain l) (fun w off s =>
    if (s.queueOf t.part h).isNone && (s.uartOf t.part h).isNone then s.msgFail l rd word 3
    else
      let open' := (s.lamp l).chain
      let other := match open' with | some c => c.handle != h | none => false
      if other then s.msgFail l rd word 8
      else
        let old := match open' with | some c => c.bytes | none => []
        let total := old.length + len
        if 65535 < total then (s.dropChain l).msgFail l rd word 2
        else
          let cells := cellsFor (total - 16)
          let had := match open' with
            | some c => match tget s.sw.holds c.hold with | some x => x.cells | none => 0
            | none => 0
          if s.cellsFree (.part t.part) < cells - had then s.msgFail l rd word 1
          else
            let r := match open' with
              | some c => (c.hold, s.modHold c.hold (fun x => { x with cells := cells }))
              | none => s.newHold (.part t.part) cells 1
            let bytes := old ++ s.winBytes l w off len
            let s := if more then r.2.modLamp l (fun x => { x with chain := some ⟨h, bytes, r.1⟩ })
              else (r.2.modLamp l (fun x => { x with chain := none })).modPart t.part
                (fun x => { x with frames := x.frames ++ [⟨h, bytes, r.1⟩] })
            s.setG l rd (msgResult 0 len))

/-- A size class of 3 is a reserved encoding (R165, R182). -/
def State.msgIns (s : State) (l : Nat) (q : PQ) (word : Word) (sz : Nat) (body : TaskCtx → State → State) : State :=
  s.instr l q word 1 false [] (fun t s => if sz = 3 then s.kill l cILL word (s.lamp l).pc else body t s)

/-- FSEND. -/
def execFsend (l : Fin 64) (q : PQ) (rd ra rb : Fin 32) (more : Bool) (sz : Fin 3) (hd : Fin 16) (s : State) : Out :=
  s.onCore (fun s =>
    let word := wordA 0x2C rd.val ra.val rb.val (b2n more * 64 + sz.val * 16 + hd.val) q
    s.msgIns l q word sz.val (fun t s => s.fsend l t rd ra rb word more (sizeClass sz.val) hd.val))

/-- FRECV (R182, R183, R302). -/
def State.frecv (s : State) (l : Nat) (t : TaskCtx) (rd ra rb : Fin 32) (word : Word) (cont : Bool) (size h : Nat) : State :=
  let len := (s.g l rb).toNat
  s.msgWindow l rd ra word size len id (fun w off s => match s.ringByHandle t.part h with
    | none => s.msgFail l rd word 3
    | some r =>
      let x := s.swRing r
      if cont && x.rest.isNone then s.msgFail l rd word 8
      else
        let s := if !cont && x.rest.isSome then s.ringPop r else s
        let x := s.swRing r
        match x.ents with
        | [] => s.setG l rd (msgResult 5 0)
        | e :: _ =>
          if x.snap = 0 then s.setG l rd (msgResult 5 0)
          else
            let done := x.rest.getD 0
            let all := leBytes 2 e.bytes.length ++ [BitVec.ofNat 8 e.status, BitVec.ofNat 8 e.port] ++ leBytes 2 e.tci ++
              [BitVec.ofNat 8 e.wake, 0] ++ leBytes 4 e.sec ++ leBytes 4 e.ns ++ e.bytes
            let bs := (all.drop done).take len
            let s := if bs.length = 0 then s else s.winWrite l w off bs
            let fin := decide (done + bs.length = all.length)
            let s := if fin then s.ringPop r else s.setSwRing r { s.swRing r with rest := some (done + bs.length) }
            s.setG l rd (msgResult (if !fin then 6 else if bit e.status 0 then 7 else 0) bs.length))

/-- FRECV. -/
def execFrecv (l : Fin 64) (q : PQ) (rd ra rb : Fin 32) (cont : Bool) (sz : Fin 3) (hd : Fin 16) (s : State) : Out :=
  s.onCore (fun s =>
    let word := wordA 0x2D rd.val ra.val rb.val (b2n cont * 64 + sz.val * 16 + hd.val) q
    s.msgIns l q word sz.val (fun t s => s.frecv l t rd ra rb word cont (sizeClass sz.val) hd.val))

/-! ### Reception (R294 to R301, R310 to R312) -/

/-- Stage C1: the counter a bad frame is counted in. -/
def rxBad (f : RxFrame) : Option Nat :=
  if !f.fcsOk then some cRX_FCS_ERR else if f.codeErr then some cRX_CODE_ERR
  else if f.bytes.length + 4 < 64 then some cRX_RUNT else if 9216 < f.bytes.length + 4 then some cRX_OVERSIZE else none

/-- A frame that passes C1 is counted (R315). -/
def State.rxGood (s : State) (f : RxFrame) : State :=
  let p := f.port.val
  ((s.swCount p cRX_FRAMES).swCount p cRX_OCTETS f.bytes.length).swCount p (if isGroup f.bytes then cRX_MCAST else cRX_UCAST)

/-- Stage C1 for a frame that leaves the stages early: `g` is what follows for a good one. -/
def State.rxCheck (s : State) (f : RxFrame) (g : State → State) : State := match rxBad f with
  | some c => s.swCount f.port.val c
  | none => g (s.rxGood f)

/-- What the classifier of the management lane finds (R312). -/
inductive MgmtKind where
  | mooring | arp | solicit
  deriving DecidableEq, Repr

/-- Stage H2 (R312). -/
def State.mgmtKind (s : State) (b : List Byte) (vid : Nat) : Option MgmtKind :=
  let o := etherOff b + 2
  let n8 (i : Nat) : Nat := ((sub b (o + i) 1).headD 0).toNat
  let n16 (i : Nat) : Nat := beNat (sub b (o + i) 2)
  let ip4 := (s.reg R.SW_MGMT_IP4).toNat
  let ip6 := (List.range 4).foldl (fun a n => a * 2 ^ 32 + (s.reg (R.SW_MGMT_IP6 n)).toNat) 0
  if vid ≠ s.fld R.SW_MGMT_CFG F.SW_MGMT_CFG_VID then none
  else match etherType b with
    | 0x0800 =>
      if s.flag R.SW_MGMT_CFG F.SW_MGMT_CFG_V4_EN && beNat (sub b (o + 16) 4) == ip4 && n8 9 == 17 && n16 6 % 16384 == 0 &&
        n16 (n8 0 % 16 * 4 + 2) == 50310 then some .mooring else none
    | 0x86DD =>
      if s.flag R.SW_MGMT_CFG F.SW_MGMT_CFG_V6_EN && beNat (sub b (o + 24) 16) == ip6 && n8 6 == 17 && n16 42 == 50310 then
        some .mooring
      else if n8 6 = 58 ∧ n8 40 = 135 ∧ beNat (sub b (o + 48) 16) = ip6 then some .solicit else none
    | 0x0806 => if n16 6 = 1 ∧ beNat (sub b (o + 24) 4) = ip4 then some .arp else none
    | _ => none

/-- A frame enters the management egress lane of a port (R312); one that finds it full is counted in MGMT_DROP. -/
def State.laneSend (s : State) (port : Nat) (b : List Byte) : State :=
  let n := cellsFor b.length
  if s.cellsFree (.laneOut port) < n then s.swCount port cMGMT_DROP
  else
    let h := s.newHold (.laneOut port) n 0
    h.2.putTx port 8 ⟨h.1, padFrame b, none, false, none⟩

/-- The switch's own answer to an ARP request or a neighbour solicitation (R312), in the form its port sends. -/
def State.laneAnswer (s : State) (port v tci : Nat) (b : List Byte) (k : MgmtKind) : State :=
  let o := etherOff b + 2
  let mac := beBytes 6 ((s.macBase + port) % 2 ^ 48)
  match k with
  | .mooring => s
  | .arp =>
    let body := [0x08, 0x06, 0, 1, 0x08, 0, 6, 4, 0, 2] ++ mac ++ sub b (o + 24) 4 ++ sub b (o + 8) 10
    s.laneSend port (s.egressForm v port (sub b 6 6 ++ mac ++ body) tci)
  | .solicit =>
    let target := sub b (o + 48) 16
    let icmp := [136, 0, 0, 0, 0x60, 0, 0, 0] ++ target ++ [2, 1] ++ mac
    let ip := [0x60, 0, 0, 0, 0, 32, 58, 255] ++ target ++ sub b (o + 8) 16
    let c := ipSum (target ++ sub b (o + 8) 16 ++ [0, 0, 0, 32, 0, 0, 0, 58] ++ icmp)
    s.laneSend port (s.egressForm v port (sub b 6 6 ++ mac ++ [0x86, 0xDD] ++ ip ++ putAt icmp 2 (beBytes 2 c)) tci)

/-- Stage C2 (R310): the frame without its trailer, or none for a duplicate. -/
def State.prpReceive (s : State) (p : Nat) (b : List Byte) : Option (List Byte) × State :=
  if s.pairMode p = 0 then (some b, s)
  else match rctOf b with
    | none => (some b, s.swCount p cPRP_NO_RCT)
    | some (seq, lan) =>
      let inner := b.take (b.length - 6)
      if lan ≠ lanId p then (some inner, s.swCount p cPRP_WRONG_LAN)
      else
        let mac := srcMac b
        match s.sw.drop.find? (fun e => e.mac == mac) with
        | some e =>
          if e.seqs.contains seq then (none, s.swCount p cPRP_DUP)
          else
            let e' : PrpSrc := ⟨mac, s.tick.count, (seq :: e.seqs).take 128⟩
            (some inner, { s with sw := { s.sw with drop := s.sw.drop.map (fun x => if x.mac == mac then e' else x) } })
        | none =>
          if 256 ≤ s.sw.drop.length then (some inner, s.swCount p cPRP_UNTRACKED)
          else (some inner, { s with sw := { s.sw with drop := s.sw.drop ++ [⟨mac, s.tick.count, [seq]⟩] } })

/-- Learned entries a partition's VLANs hold (R297). -/
def State.fdbUsed (s : State) (p : Nat) : Nat := (s.sw.fdb.filter (fun e => s.vlanPart e.v == p)).length

/-- Stage C3: learning (R297). -/
def State.learn (s : State) (v port : Nat) (b : List Byte) : State :=
  let mac := srcMac b
  let lp := s.logical port
  if !s.flag (R.SW_VLAN_CTL v) F.SW_VLAN_CTL_LEARN || (sub b 6 1).headD 0 &&& 1 = 1 then s
  else if s.sw.fdb.any (fun e => e.v == v && e.mac == mac) then
    { s with sw := { s.sw with fdb := s.sw.fdb.map (fun e =>
      if e.v == v && e.mac == mac then ⟨v, mac, lp, s.tick.count⟩ else e) } }
  else
    let p := s.vlanPart v
    let bucket := Config.fdbBucket v mac % 1024
    let full := 8 ≤ (s.sw.fdb.filter (fun e => Config.fdbBucket e.v e.mac % 1024 == bucket)).length
    if s.fld (R.SW_FDB p) F.SW_FDB_LIMIT ≤ s.fdbUsed p || full then s.swCount port cFDB_LEARN_DROP
    else { s with sw := { s.sw with fdb := s.sw.fdb ++ [⟨v, mac, lp, s.tick.count⟩] } }

/-- The mask of a wake pattern, bit j for byte j. -/
def State.wakeMask (s : State) (n : Nat) : Nat :=
  (s.reg (R.SW_WAKE_MASK_A n)).toNat + (s.reg (R.SW_WAKE_MASK_B n)).toNat * 2 ^ 32 +
    (s.reg (R.SW_WAKE_MASK_C n)).toNat * 2 ^ 64 + (s.reg (R.SW_WAKE_MASK_D n)).toNat * 2 ^ 96

/-- Pattern n matches a frame of VLAN entry v received at port p (R311). -/
def State.wakeMatch (s : State) (n p v : Nat) (b : List Byte) : Bool :=
  let c := s.reg (R.SW_WAKE_CTL n)
  let m := s.wakeMask n
  let at' := (List.range 128).filter (fun j => bit m j)
  F.SW_WAKE_CTL_VALID.get c == 1 && s.inEffect (R.SW_WAKE_CTL n) && bit (F.SW_WAKE_CTL_PORTS.get c) (p % 8) &&
    F.SW_WAKE_CTL_PART.get c == s.vlanPart v && m != 0 && at'.all (fun j => j < b.length) &&
    crc16 (at'.map (fun j => b.getD j 0)) == F.SW_WAKE_CTL_CHECK.get c

/-- The egress queue of a forwarded frame (R298). -/
def State.forwardQueue (s : State) (port pcp owner : Nat) : Option Nat :=
  let q := if port < 4 ∧ pcp = 7 then 6 else pcp
  if s.queueOwner port q = some owner then some q else (List.range 8).find? (fun q => s.queueOwner port q == some owner)

/-- Destinations of a frame of VLAN entry v (R296): egress ports, and whether the ring is one. -/
def State.destinations (s : State) (v p : Nat) (b : List Byte) : List Nat × Bool :=
  let dst := dstMac b
  let ring := s.flag (R.SW_VLAN_CTL v) F.SW_VLAN_CTL_RING_EN
  let lp := s.logical p
  let reserved := decide (0x0180C2000000 ≤ dst ∧ dst ≤ 0x0180C200000F)
  if reserved then ([], ring)
  else if !isGroup b && (List.range 40).any (fun q => s.portMac q == dst) then ([], ring)
  else
    let known := if isGroup b then none else s.sw.fdb.find? (fun e => e.v == v && e.mac == dst)
    match known with
    | some e => (if e.port = lp || !s.vlanMember v e.port then [] else [e.port], false)
    | none => (s.logicalPorts.filter (fun q => q != lp && s.vlanMember v q), ring)

/-- Stage C4 (R295 to R298, R302): the frame enters its egress queues and its ring. `hold` counts one use more than its
destinations until the end. -/
def State.rxDeliver (s : State) (v tci hold : Nat) (f : RxFrame) (b : List Byte) (outs : List Nat) (ring : Bool)
    (status wake : Nat) : State :=
  let owner := s.vlanPart v
  let s := outs.foldl (fun (s : State) q => match s.forwardQueue q (tci / 8192) owner with
    | none => s.swCount q cTX_DISCARD
    | some k => s.forward q k hold (s.egressForm v q b tci)) s
  let s := if ring then
      (s.addRef hold).ringPush (s.fld (R.SW_VLAN_CTL v) F.SW_VLAN_CTL_RING)
        ⟨hold, status, f.port.val, tci, wake, f.t / 1000000000 % 2 ^ 32, f.t % 1000000000, b⟩
    else s
  s.unref hold

/-- A PRP supervision frame enters the node table (R310). -/
def State.nodeSeen (s : State) (mac : Nat) : State :=
  if s.sw.nodes.any (fun e => e.1 == mac) then
    { s with sw := { s.sw with nodes := s.sw.nodes.map (fun e => if e.1 == mac then (mac, s.tick.count) else e) } }
  else if 256 ≤ s.sw.nodes.length then s
  else { s with sw := { s.sw with nodes := s.sw.nodes ++ [(mac, s.tick.count)] } }

/-- Stages H7 to C4 (R294 to R300). The acting lighthouse forwards no frame of H1 or H3 to a hawser port (R416). -/
def State.rxForward (s : State) (f : RxFrame) (v tci : Nat) : State :=
  let p := f.port.val
  let b := f.bytes
  let owner := s.vlanPart v
  let (outs, ring) := s.destinations v p b
  let outs := if (p == 5 || p == 7) && s.fld R.HAW_STAT F.HAW_STAT_ROLE == 2 then outs.filter (fun q => q < 4 || 7 < q) else outs
  let nodest := outs.isEmpty && !ring
  let free := s.cellsFree (.part owner)
  let prp := if s.pairMode p = 0 then 0 else 16
  if !nodest && free = 0 then s.swCount p cRX_QUOTA_DROP
  else if !nodest && free < cellsFor b.length && free * 256 < 9212 then
    let kept := b.take (free * 256)
    let s := (s.swCount p cRX_TRUNC).swCount p cRX_TRUNC_OCTETS (b.length - kept.length)
    let h := s.newHold (.part owner) free 1
    h.2.rxDeliver v tci h.1 f kept [] ring (1 + prp) 0
  else match rxBad f with
    | some c => s.swCount p c
    | none =>
      let s := s.rxGood f
      let r := s.prpReceive p b
      match r.1 with
      | none => r.2
      | some inner =>
        let s := r.2.learn v p b
        let hits := (List.range 32).filter (fun i => s.wakeMatch (32 * (p / 8) + i) p v b)
        let s := if hits.isEmpty then s else s.swCount p cWAKE_MATCH
        let s := hits.foldl (fun s i => s.fire 1 (32 * (p / 8) + i)) s
        if nodest then s
        else
          let h := s.newHold (.part owner) (cellsFor b.length) 1
          h.2.rxDeliver v tci h.1 f inner outs ring (prp + if hits.isEmpty then 0 else 8) (hits.headD 0)

/-- FRAME_RECEIVED: a frame received at a port passes the ingress stages (R294). -/
def State.frameReceived (s : State) (f : RxFrame) : State :=
  let p := f.port.val
  let b := f.bytes
  let pc := R.SW_PCFG p
  let lpc := R.SW_PCFG (s.logical p)
  if !s.flag pc F.SW_PCFG_ENABLE || !s.flag (R.SW_PSTAT p) F.SW_PSTAT_LINK then s
  else if dstMac b = 0x0180C2000001 ∧ beNat (sub b 12 2) = 0x8808 then s.rxCheck f (fun s => s.swCount p cRX_PAUSE)
  else
    let tci := if tagged b then tciOf b else s.fld lpc F.SW_PCFG_DPCP * 8192 + s.fld lpc F.SW_PCFG_PVID
    let tci := if tci % 4096 = 0 then tci + s.fld lpc F.SW_PCFG_PVID else tci
    match s.vlanOf (tci % 4096) with
    | none => s.swCount p cRX_VLAN_DROP
    | some v =>
      if !s.vlanMember v p then s.swCount p cRX_VLAN_DROP
      else match s.mgmtKind b (tci % 4096) with
        | some k =>
          let n := cellsFor b.length
          if s.cellsFree (.laneIn p) < n then s.swCount p cMGMT_DROP
          else s.rxCheck f (fun s => (((s.swCount p cMGMT_RX).newHold (.laneIn p) n 0).2).laneAnswer p v tci b k)
        | none =>
          let dst := dstMac b
          if s.flag pc F.SW_PCFG_SHUT_IN then s.swCount p cRX_SHUT_DROP
          else if p < 4 ∧ etherType b = 0x88F7 ∧ s.fld (R.TIME_PORT p) F.TIME_PORT_MODE ≠ 0 then
            s.rxCheck f (fun s => (s.swCount p cRX_PTP).ptpMessage p b f.t)
          else
            let o := etherOff b + 2
            let sv := if etherType b = 0x88BA then s.streamOf p (sub b 0 6) (beNat (sub b o 2)) else none
            match sv with
            | some n => s.rxCheck f (fun s =>
                let r := s.prpReceive p b
                match r.1 with
                | none => r.2
                | some _ => (r.2.swCount p cRX_SV).svFrame n (((sub b (o + 4) 1).headD 0).toNat / 128 == 1) f.asdus)
            | none =>
              if s.pairMode p ≠ 0 ∧ etherType b = 0x88FB ∧ dst = 0x01154E000100 then s.rxCheck f (fun s => s.nodeSeen (srcMac b))
              else
                let s := if 0x0180C2000000 ≤ dst ∧ dst ≤ 0x0180C200000F then s.swCount p cRX_RSVD else s
                s.rxForward f v tci

/-- FRAME_RECEIVED. -/
def execFrameReceived (f : RxFrame) (s : State) : Out := s.onCore (fun s => (s.portActive f.port.val).frameReceived f)

/-- FDB_AGE_OUT: an entry not refreshed for 1,440,000 ticks is removed (R297). -/
def execFdbAgeOut (v : Fin 256) (mac : BitVec 48) (s : State) : Out :=
  s.onCore (fun s => { s with sw := { s.sw with fdb := s.sw.fdb.filter (fun e =>
    !(e.v == v.val && e.mac == mac.toNat && e.since + 1440000 ≤ s.tick.count)) } })

/-- PRP_TABLE_AGE_OUT: a node not refreshed for 288,000 ticks, or a drop-table entry not refreshed for 1,920, is removed
(R310). -/
def execPrpTableAgeOut (node : Bool) (mac : BitVec 48) (s : State) : Out :=
  s.onCore (fun s =>
    if node then { s with sw := { s.sw with nodes := s.sw.nodes.filter (fun e =>
      !(e.1 == mac.toNat && e.2 + 288000 ≤ s.tick.count)) } }
    else { s with sw := { s.sw with drop := s.sw.drop.filter (fun e =>
      !(e.mac == mac.toNat && e.since + 1920 ≤ s.tick.count)) } })

/-- PRP_SUPERVISION_SEND: on every pair in a mode other than OFF (R310, R433). -/
def State.supervise (s : State) : State :=
  [0, 2].foldl (fun (s : State) lo =>
    if s.pairMode lo = 0 then s
    else
      let mac := beBytes 6 (if s.pairMode lo = 1 then s.portMac lo else s.nodeMac)
      let sup := (if s.pairMode lo = 1 then s.tick.count / 9600 else s.tick.abs / 9600) % 65536
      let b := beBytes 6 0x01154E000100 ++ mac ++ [0x88, 0xFB, 0x00, 0x01] ++ beBytes 2 sup ++ [20, 6] ++ mac
      s.forward lo 9 0 b) s

/-- PRP_SUPERVISION_SEND. -/
def execPrpSupervisionSend (s : State) : Out := s.onCore (fun s => s.supervise)

/-! ### Egress (R305, R306, R288) -/

/-- The CORE cycle, counted from the first tick edge. -/
def State.coreCycle (s : State) (c : Nat) : Nat := s.tick.base + c

/-- Credits of a port's queues advanced to a cycle (R306), in 1/1600 byte. -/
def State.swCredit (s : State) (port c : Nat) : State :=
  let x := s.swPort port
  let now := s.coreCycle c
  let d := now - x.cyc
  let cr := (List.range 8).foldl (fun (cr : List (Nat × Int)) q =>
    let rate := if (s.queueOwner port q).isSome then s.fld (R.SW_QCFG (s.logical port) q) F.SW_QCFG_RATE else 0
    tput cr q (min (tgetD cr q 0 + Int.ofNat (rate * d)) (9232 * 1600))) x.credit
  s.setSwPort port { x with credit := cr, cyc := now }

/-- The launch gate holds a frame of `n` bytes back at cycle c (R288, R306). -/
def State.gate (s : State) (port c n : Nat) : Bool :=
  let rate := s.portRate port
  s.flag (R.SW_PCFG port) F.SW_PCFG_TRIP_GATE && 41088 * rate < c * rate + (n + 24) * 1600 &&
    !(s.tick.launched && (s.swPort port).trip.isEmpty)

/-- The frame a free port sends at cycle c: its queue (R306). The module's own frames go before the management lane. -/
def State.pickTx (s : State) (port c : Nat) : Option Nat :=
  let x := s.swPort port
  let ready (q : Nat) : Bool := match x.queue port q with
    | f :: _ => !s.gate port c f.bytes.length
    | [] => false
  let qs := ((List.range 8).filter (fun q => !(q == 7 && port < 4))).reverse
  if port < 4 ∧ x.trip ≠ [] then some 7
  else if ready 9 then some 9
  else if ready 8 then some 8
  else match qs.find? (fun q => ready q && 0 ≤ tgetD x.credit q 0) with
    | some q => some q
    | none => qs.find? ready

/-- Frames that reach the head of a queue while the link is down or SHUT_OUT is set are discarded (R305); the management
egress lane is exempt (R314). -/
def State.purgeTx (s : State) (port : Nat) : State :=
  if s.flag (R.SW_PSTAT port) F.SW_PSTAT_LINK && !s.flag (R.SW_PCFG port) F.SW_PCFG_SHUT_OUT then s
  else [0, 1, 2, 3, 4, 5, 6, 7, 9].foldl (fun (s : State) q =>
    let x := s.swPort port
    let l := x.queue port q
    if l.isEmpty then s else l.foldl (fun s f => s.txDiscard port f) (s.setSwPort port (x.setQueue port q []))) s

/-- PORT_TX_START: a port that can begin a frame at tick cycle c chooses one (R306); `t` is the stamp in TAI ns. -/
def State.txStart (s : State) (port c t : Nat) : State :=
  if (s.swPort port).sending.isSome || s.txStopped then s
  else
    let s := (s.purgeTx port).swCredit port c
    if s.portRate port = 0 || !s.flag (R.SW_PCFG port) F.SW_PCFG_ENABLE then s
    else
      let x := s.swPort port
      match s.pickTx port c with
      | none =>
        if !x.gateHeld && [0, 1, 2, 3, 4, 5, 6, 7, 8, 9].any (fun q => !(x.queue port q).isEmpty) then
          (s.setSwPort port { x with gateHeld := true }).swCount port cTX_GATE_HOLD
        else s
      | some q => match x.queue port q with
        | [] => s
        | f :: rest =>
          let cr := tgetD x.credit q 0
          let paid := if q < 8 && !(q == 7 && port < 4) && 0 ≤ cr then tput x.credit q (cr - ((f.bytes.length + 24) * 1600 : Nat))
            else x.credit
          let s := s.setSwPort port { x.setQueue port q rest with credit := paid, gateHeld := false }
          let r := match f.ptp with
            | some ev => s.ptpBegin port f.bytes ev t
            | none => (f.bytes, s)
          (r.2.setSwPort port { r.2.swPort port with sending := some ({ f with bytes := r.1 }, q), stamp := t }).portActive port

/-- PORT_TX_START. -/
def execPortTxStart (port : Fin 40) (c : Fin 83333) (t : Nat) (s : State) : Out := s.onCore (fun s => s.txStart port c t)

/-- PORT_TX_DONE: a frame's last bit has left (R293, R308, R315). -/
def State.txDone (s : State) (port : Nat) : State := match (s.swPort port).sending with
  | none => s
  | some (f, q) =>
    let x := s.swPort port
    let s := s.setSwPort port { x with sending := none }
    let s := (s.swCount port cTX_FRAMES).swCount port cTX_OCTETS f.bytes.length
    let s := s.swCount port (if isGroup f.bytes then cTX_MCAST else cTX_UCAST)
    let s := if q = 7 ∧ port < 4 then s.swCount port cTX_TRIP else s
    let s := if q = 8 then s.swCount port cTX_MGMT else s
    let s := if f.seg then s.swCount port cTX_SEG else s
    let s := s.unref f.hold
    let s := match f.ptp with
      | some (.through _ _) | none => s
      | some _ => { s.swCount port cTS_TAKEN with sw := { s.sw with freePtp := s.sw.freePtp ++ [port] } }
    match f.ts with
    | some r => s.tsRecord port f r x.stamp false
    | none => s

/-- PORT_TX_DONE. -/
def execPortTxDone (port : Fin 40) (s : State) : Out := s.onCore (fun s => s.txDone port)

/-! ### Queue, cell and entry writes (R292, R303, R419) -/

/-- Partition p is twinned (R419). -/
def State.isTwinned (s : State) (p : Nat) : Bool := p != 0 && (s.reg (R.TWIN_PART (p / 32))).getLsbD (p % 32)

/-- 90 % of a port's rate, in Mbit/s (R303): a port whose link is down counts at its highest rate. -/
def State.rateCap (s : State) (port : Nat) : Nat :=
  if 8 ≤ port then 9 else if 4 ≤ port then 3598 * 9 / 10 else if s.portRate port = 1000 then 900 else 9000

/-- SW_QCFG_WRITE: queue q of a port (R303, R419, R153). -/
def State.qcfgWrite (s : State) (port q : Nat) (w : Word) : State :=
  let a := R.SW_QCFG port q
  let w := w &&& 0xFFF0FFFF
  let old := s.reg a
  let p := F.SW_QCFG_PART.get w
  let h := F.SW_QCFG_HANDLE.get w
  let all := (List.range 40).flatMap (fun port => (List.range 8).map (fun q => R.SW_QCFG port q))
  let clash := all.any (fun b => b != a && boundPart (s.reg b) == some p && F.SW_QCFG_HANDLE.get (s.reg b) == h)
  let sum := (List.range 8).foldl (fun n k => if k ≠ q && (boundPart (s.reg (R.SW_QCFG port k))).isSome then
    n + F.SW_QCFG_RATE.get (s.reg (R.SW_QCFG port k)) else n) (F.SW_QCFG_RATE.get w)
  if w.getLsbD 31 && (clash || s.rateCap port < sum || (q == 7 && port < 4) || (2 ≤ s.pairMode port && !s.isTwinned p)) then
    s.event Ev.SW_QCFG_REFUSED 0xFF a
  else if !s.rebindOk (boundPart old) (boundPart w) ||
      ((boundPart old).isSome && boundPart old == boundPart w && F.SW_QCFG_HANDLE.get old != h &&
        !s.mayWithdraw p) then s.allotBusy ((boundPart old).getD 0xFF) a
  else s.bindWrite a w

/-- SW_QCFG_WRITE. -/
def execSwQcfgWrite (port : Fin 40) (q : Fin 8) (w : Word) (s : State) : Out := s.onCore (fun s => s.qcfgWrite port q w)

/-- SW_CELLS_WRITE: the cell LIMIT of partition n (R292); lowering it withdraws cells (R153). -/
def State.cellsWrite (s : State) (n : Nat) (w : Word) : State :=
  let a := R.SW_CELLS n
  let v := F.SW_CELLS_LIMIT.get w
  let old := s.fld a F.SW_CELLS_LIMIT
  let sum := (List.range 128).foldl (fun t k => t + if k = n then v else s.fld (R.SW_CELLS k) F.SW_CELLS_LIMIT) 0
  if old < v ∧ 5184 < sum then s.event Ev.SW_CELLS_OVER
  else if v < old && !s.mayWithdraw n then s.allotBusy n a
  else s.setFld a F.SW_CELLS_LIMIT v

/-- SW_CELLS_WRITE. -/
def execSwCellsWrite (n : Fin 128) (w : Word) (s : State) : Out := s.onCore (fun s => s.cellsWrite n w)

/-- A write of a VLAN, ring or wake entry (R153 and the text before SW_PCFG): one whose ring, VID or handle clashes with
another entry, or whose ring is not owned by its PART, is discarded and logged. -/
def State.swEntryWrite (s : State) (a : Nat) (w : Word) (bad : Bool) : State :=
  let old := s.reg a
  if w.getLsbD 31 && bad then s.event Ev.SW_ENTRY_REFUSED
  else if old ≠ w && !(match boundPart old with | some p => s.mayWithdraw p | none => true) then
    s.allotBusy ((boundPart old).getD 0xFF) a
  else s.bindWrite a w

/-- A VLAN entry's control word. -/
def State.vlanWrite (s : State) (v : Nat) (w : Word) : State :=
  let w := w &&& 0xFFDFFFFF
  let vid := F.SW_VLAN_CTL_VID.get w
  let r := F.SW_VLAN_CTL_RING.get w
  let clash := (List.range 256).any (fun k => k != v && s.flag (R.SW_VLAN_CTL k) F.SW_VLAN_CTL_VALID &&
    s.fld (R.SW_VLAN_CTL k) F.SW_VLAN_CTL_VID == vid)
  let ring := F.SW_VLAN_CTL_RING_EN.get w == 1 && boundPart (s.reg (R.SW_RING r)) != some (F.SW_VLAN_CTL_PART.get w)
  s.swEntryWrite (R.SW_VLAN_CTL v) w (clash || vid == 0 || vid == 4095 || ring)

/-- A ring's word. -/
def State.ringWrite (s : State) (r : Nat) (w : Word) : State :=
  let w := w &&& 0xFFF00000
  let clash := (List.range 512).any (fun k => k != r && boundPart (s.reg (R.SW_RING k)) == boundPart w &&
    F.SW_RING_HANDLE.get (s.reg (R.SW_RING k)) == F.SW_RING_HANDLE.get w)
  s.swEntryWrite (R.SW_RING r) w clash

/-- A wake pattern's control word. -/
def State.wakeWrite (s : State) (n : Nat) (w : Word) : State := s.swEntryWrite (R.SW_WAKE_CTL n) w false

/-- A queue's SW_QTS word: the ring must be of the queue's partition (R308). -/
def State.qtsWrite (s : State) (port q : Nat) (w : Word) : State :=
  let w := w &&& 0x800001FF
  let r := F.SW_QTS_RING.get w
  if w.getLsbD 31 && boundPart (s.reg (R.SW_RING r)) != boundPart (s.reg (R.SW_QCFG port q)) then s.event Ev.SW_ENTRY_REFUSED
  else s.setReg (R.SW_QTS port q) w

/-- A write of SW_PCFG: SHUT_IN and SHUT_OUT take effect at the next landing (R314). -/
def State.pcfgWrite (s : State) (port : Nat) (w : Word) : State :=
  let a := R.SW_PCFG port
  let old := s.reg a
  let s := s.setReg a ((old &&& 0x70000000#32) ||| (w &&& 0x80700FFF))
  let both := (w.getLsbD 30, w.getLsbD 29)
  if both = (old.getLsbD 30, old.getLsbD 29) then { s with sw := { s.sw with shutW := tdel s.sw.shutW port } }
  else { s with sw := { s.sw with shutW := tput s.sw.shutW port both } }

/-- SHUTTER_APPLY: the applied shutters take effect at cycle 0, and prevail over partition 0's writes (R314). -/
def State.shutterApply (s : State) : State :=
  let l := s.sw.shut
  let s : State := { s with sw := { s.sw with shut := [], shutW := s.sw.shutW.filter (fun e => (tget l e.1).isNone) } }
  l.foldl (fun (s : State) (e : Nat × (Bool × Bool)) =>
    (s.setFlag (R.SW_PCFG e.1) F.SW_PCFG_SHUT_IN e.2.1).setFlag (R.SW_PCFG e.1) F.SW_PCFG_SHUT_OUT e.2.2) s

/-- SHUTTER_APPLY. -/
def execShutterApply (s : State) : Out := s.onCore (fun s => s.shutterApply)

end Sys2Proof.Machine
end

