-- ==== Sys2Proof/Machine/Trip.lean ====
section
/-!
DEFINITION. Trip datasets (R282 to R289): binding, evaluation at the launch, the GOOSE frame.
-/
namespace Sys2Proof.Machine

def State.tripSt (s : State) (j : Nat) : TripSt := tgetD s.trip j TripSt.reset
def State.setTrip (s : State) (j : Nat) (x : TripSt) : State := { s with trip := tput s.trip j x }

/-- States of a dataset (SV_TRIP_CFG.STATE). -/
abbrev tdUNBOUND : Nat := 0
abbrev tdSILENT : Nat := 1
abbrev tdSENDING : Nat := 2
def State.tripState (s : State) (j : Nat) : Nat := s.fld (R.SV_TRIP_CFG j) F.SV_TRIP_CFG_STATE
def State.setTripState (s : State) (j v : Nat) : State := s.setFld (R.SV_TRIP_CFG j) F.SV_TRIP_CFG_STATE v

/-! ### Placement (R282, R283) -/

/-- A TRIP tile's fields lie in their ranges (R282). -/
def tripTileOk (t : ImgTile) : Bool :=
  let b := expand 0 4064 0 t.payload
  let within (off n lo hi : Nat) : Bool := lo ≤ leAt b off n && leAt b off n ≤ hi
  bit t.flags fPRECIOUS && !bit (leAt b 6 2) 12 && leAt b 10 1 < 4 && within 16 4 48 288000 && within 20 2 1 1024 &&
    within 22 2 2 1024 && within 24 1 1 129 && within 25 1 1 129 && within 26 1 1 129

/-- Placement accepts the TRIP tiles of an image (R283). -/
def State.tripsOk (s : State) (p : Nat) (i : Image) : Bool :=
  let ts := i.tiles.filter (fun t => t.kind == kTRIP)
  ts.all tripTileOk && ts.length ≤ (s.allottedTo R.SV_TRIP_CFG 64 p).length

/-- A dataset bound to a TRIP tile: template loaded, stNum 0, SILENT (R285). -/
def State.bindTrip (s : State) (j loc : Nat) (template : List Byte) : State :=
  let s := (s.setFld (R.SV_TRIP_CFG j) F.SV_TRIP_CFG_LOC loc).setTripState j tdSILENT
  let s := ((s.setReg (R.SV_TRIP_ST j) 0).setReg (R.SV_TRIP_SQ j) 0).setReg (R.SV_TRIP_NEXT j) 0
  s.setTrip j ⟨template, [], 0, 0, 0, false⟩

/-- A dataset without its tile (R285). -/
def State.unbindTrip (s : State) (j : Nat) : State :=
  let s := (s.setFld (R.SV_TRIP_CFG j) F.SV_TRIP_CFG_LOC 0).setTripState j tdUNBOUND
  let s := ((s.setReg (R.SV_TRIP_ST j) 0).setReg (R.SV_TRIP_SQ j) 0).setReg (R.SV_TRIP_NEXT j) 0
  { s with trip := tdel s.trip j }

/-- The TRIP tiles of partition p's program bound to its datasets by ordinal (R271, R283). A tile that keeps its location keeps
its dataset; one whose template fields change starts again SILENT (R285). -/
def State.bindTrips (s : State) (p : Nat) : State :=
  let tiles := match (s.part p).prog with
    | some g => progTiles g (fun t => t.kind == kTRIP)
    | none => []
  let mine := s.allottedTo R.SV_TRIP_CFG 64 p
  let bound (s : State) (j : Nat) : Bool := s.tripState j != tdUNBOUND
  let s := mine.foldl (fun s j =>
    if bound s j && !tiles.any (fun e => e.1 == s.fld (R.SV_TRIP_CFG j) F.SV_TRIP_CFG_LOC) then s.unbindTrip j else s) s
  tiles.foldl (fun s e =>
    let template := (expand 0 4064 0 e.2.payload).take 440
    match mine.find? (fun j => bound s j && s.fld (R.SV_TRIP_CFG j) F.SV_TRIP_CFG_LOC == e.1) with
    | some j => if (s.tripSt j).template = template then s else s.bindTrip j e.1 template
    | none => match mine.find? (fun j => !bound s j) with
      | some j => s.bindTrip j e.1 template
      | none => s) s

/-! ### The frame (R286, R287) -/

/-- BER length octets. -/
def berLen (n : Nat) : List Byte :=
  if n < 128 then beBytes 1 n else if n < 256 then [0x81] ++ beBytes 1 n else [0x82] ++ beBytes 2 n
/-- A BER element. -/
def ber (tag : Nat) (v : List Byte) : List Byte := beBytes 1 tag ++ berLen v.length ++ v
/-- The content of a minimal INTEGER that is not negative. -/
def berInt (n : Nat) : List Byte :=
  if n < 2 ^ 7 then beBytes 1 n else if n < 2 ^ 15 then beBytes 2 n else if n < 2 ^ 23 then beBytes 3 n
  else if n < 2 ^ 31 then beBytes 4 n else beBytes 5 n

/-- Time quality of a send (R286; LOCKING counts as HOLDOVER of more than 3600 s). -/
def State.goosQuality (s : State) : Nat := match s.timeState with
  | 3 => 0x94
  | 4 => if s.tick.count - s.time.holdAt.getD 0 ≤ 3600 * 4800 then 0x94 else 0x8A
  | 2 => 0x8A
  | _ => 0x3F

/-- The field t: UTC of the edge of absolute tick `a`, with its quality (R286). -/
def State.goosTime (s : State) (a : Nat) : List Byte :=
  let off := (BitVec.ofNat 16 (s.fld R.TIME_UTC F.TIME_UTC_OFFSET)).toInt
  beBytes 4 (((a / 4800 : Nat) : Int) - off).toNat ++ beBytes 3 (a % 4800 * 2 ^ 24 / 4800) ++ beBytes 1 s.goosQuality

/-- timeAllowedtoLive of an interval in ticks, ms (R286). -/
def ttlMs (i : Nat) : Nat := (5 * i + 11) / 12

/-- The GOOSE frame of dataset j with numbers st and sq and interval `i`, from port `port` (R287). -/
def State.goosFrame (s : State) (j port st sq i : Nat) : List Byte :=
  let x := s.tripSt j
  let t := x.template
  let str (lenOff off : Nat) : List Byte := (t.drop off).take (leAt t lenOff 1)
  let flag (k : Nat) : List Byte := if bit (leAt t 10 1) k then [0x01] else [0x00]
  let pdu := ber 0x80 (str 24 32) ++ ber 0x81 (berInt (ttlMs i)) ++ ber 0x82 (str 25 168) ++ ber 0x83 (str 26 304) ++
    ber 0x84 (s.goosTime x.changed) ++ ber 0x85 (berInt st) ++ ber 0x86 (berInt sq) ++ ber 0x87 (flag 0) ++
    ber 0x88 (berInt (leAt t 12 4)) ++ ber 0x89 (flag 1) ++ ber 0x8A (berInt (leAt t 20 2)) ++ ber 0xAB x.lastSent
  let apdu := ber 0x61 pdu
  sub t 0 6 ++ beBytes 6 (s.portMac port) ++ [0x81, 0x00] ++ beBytes 2 (leAt t 6 2) ++ [0x88, 0xB8] ++ beBytes 2 (leAt t 8 2) ++
    beBytes 2 (8 + apdu.length) ++ (if bit (leAt t 10 1) 0 then [0x80, 0] else [0, 0]) ++ [0, 0] ++ apdu

/-- The logical ports a dataset is bound to (R283): one for a pair in a PRP mode. -/
def State.tripPorts (s : State) (j : Nat) : List Nat :=
  luniq (((List.range 4).filter (fun p => bit (s.fld (R.SV_TRIP_CFG j) F.SV_TRIP_CFG_PORTS) p)).map s.logical)

/-- Dataset j is bound to a split pair of a twin that sends nothing (R289, R421). -/
def State.tripMuted (s : State) (j : Nat) : Bool :=
  (s.tripPorts j).any (fun p => 2 ≤ s.pairMode p && (s.splitPorts p).isEmpty)

/-- A send of dataset j with its present numbers and interval index (R286, R287). -/
def State.tripSend (s : State) (j : Nat) : State :=
  let x := s.tripSt j
  let hb := leAt x.template 16 4
  let i := min (2 ^ (min x.idx 20)) hb
  let st := (s.reg (R.SV_TRIP_ST j)).toNat
  let sq := (s.reg (R.SV_TRIP_SQ j)).toNat
  let s := (s.setFld (R.SV_TRIP_NEXT j) F.SV_TRIP_NEXT_INTERVAL i).setTrip j { x with left := i }
  let s := { s with twin := { s.twin with digTrip := s.twin.digTrip ++ leBytes 1 j ++ leBytes 4 st ++ leBytes 4 sq } }
  (s.tripPorts j).foldl (fun s p =>
    let b := s.goosFrame j p st sq i
    let n := cellsFor b.length
    if s.cellsFree (.trip j) < n then s.swCount p cTX_DISCARD
    else
      let h := s.newHold (.trip j) n 0
      h.2.release p 7 h.1 b none false) s

/-- A number that wraps from 4,294,967,295 to 1 (R286). -/
def wrapNum (n : Nat) : Nat := if n = 0xFFFFFFFF then 1 else n + 1

/-- The launcher's evaluation of dataset j at the commit of the present tick, once in a tick (R285): `running` says that its
partition stays RUNNING at this launch. -/
def State.tripEval (s : State) (j : Nat) : State :=
  let p := s.fld (R.SV_TRIP_CFG j) F.SV_TRIP_CFG_PART
  let x := s.tripSt j
  let st := s.tripState j
  if st = tdUNBOUND || x.done then s
  else
    let s := s.setFlag (R.SV_TRIP_CFG j) F.SV_TRIP_CFG_MUTED (s.tripMuted j)
    let cap := tget (s.part p).trips j
    let left := x.left - 1
    let s := s.setTrip j { x with done := true, left := left }
    let change (d : List Byte) (s : State) : State :=
      let s := (s.setReg (R.SV_TRIP_ST j) (w32 (wrapNum (s.reg (R.SV_TRIP_ST j)).toNat))).setReg (R.SV_TRIP_SQ j) 0
      let s := s.setTripState j tdSENDING
      (s.setTrip j { s.tripSt j with lastSent := d, idx := 0, changed := s.tick.stepTo.getD (s.tick.abs + 1) }).tripSend j
    if !s.running p || (s.part p).stopReq.isSome || (s.part p).endReq then s.setTripState j tdSILENT
    else match cap with
      | some d =>
        if st = tdSILENT ∨ d ≠ x.lastSent then change d s
        else if left = 0 then
          let s := s.setReg (R.SV_TRIP_SQ j) (w32 (wrapNum (s.reg (R.SV_TRIP_SQ j)).toNat))
          (s.setTrip j { s.tripSt j with idx := x.idx + 1 }).tripSend j
        else s
      | none =>
        if st = tdSENDING ∧ left = 0 then
          let s := s.setReg (R.SV_TRIP_SQ j) (w32 (wrapNum (s.reg (R.SV_TRIP_SQ j)).toNat))
          (s.setTrip j { s.tripSt j with idx := x.idx + 1 }).tripSend j
        else s

/-- Every dataset evaluated, in order, and the captures of the tick used (R284, R285). -/
def State.tripLaunch (s : State) : State :=
  let s := (s.trip.map (fun e => e.1)).foldl (fun s j => s.tripEval j) s
  (s.parts.map (fun e => e.1)).foldl (fun s p => s.modPart p (fun x => { x with trips := [] })) s

/-- The landing: datasets are evaluated again at the next launch. -/
def State.tripLanding (s : State) : State := { s with trip := s.trip.map (fun e => (e.1, { e.2 with done := false })) }

/-- TRIP_REPEAT_DUE: dataset j's interval has expired; it is evaluated for this tick's launch, which sends it again with
sqNum + 1 unless a change captured in the tick takes its place (R285, R286). -/
def execTripRepeatDue (j : Fin 64) (s : State) : Out :=
  s.onCore (fun s => if s.tripState j = tdSENDING && (s.tripSt j).left ≤ 1 then s.tripEval j else s)

/-- Ports that carry a trip dataset (SW_PCFG.TRIP_GATE, R288). -/
def State.tripGates (s : State) : State :=
  (List.range 4).foldl (fun s p => s.setFlag (R.SW_PCFG p) F.SW_PCFG_TRIP_GATE
    ((List.range 64).any (fun j => s.flag (R.SV_TRIP_CFG j) F.SV_TRIP_CFG_VALID &&
      bit (s.fld (R.SV_TRIP_CFG j) F.SV_TRIP_CFG_PORTS) p))) s

/-- A write of SV_TRIP_CFG_j (R283, R153). -/
def State.tripCfgWrite (s : State) (j : Nat) (w : Word) : State :=
  let a := R.SV_TRIP_CFG j
  let old := s.reg a
  let ports := F.SV_TRIP_CFG_PORTS.get w
  let new := (old &&& 0x0000EFFF#32) ||| (w &&& 0xFF0F0000)
  if !([1, 2, 4, 8, 3, 12].contains ports) then s.event Ev.SV_BAD_PORTS
  else if old ≠ new && !(match boundPart old with | some p => s.mayWithdraw p | none => true) then
    s.allotBusy ((boundPart old).getD 0xFF) a
  else (s.bindWrite a new).tripGates

end Sys2Proof.Machine
end

