-- ==== Sys2Proof/Machine/Can.lean ====
section
/-!
DEFINITION. CAN channels (R328 to R352): bit timing, bus states, transmit and receive buffers, acceptance, point maps.
-/
namespace Sys2Proof.Machine

def State.canCh (s : State) (c : Nat) : CanCh := tgetD s.can c CanCh.reset
def State.setCanCh (s : State) (c : Nat) (x : CanCh) : State := { s with can := tput s.can c x }
def State.canBuf (s : State) (c b : Nat) : CanBuf := tgetD (s.canCh c).bufs b CanBuf.reset
def State.setCanBuf (s : State) (c b : Nat) (x : CanBuf) : State :=
  s.setCanCh c { s.canCh c with bufs := tput (s.canCh c).bufs b x }

/-- Buffer states (CAN_MB_STAT.STATE). -/
abbrev mbEMPTY : Nat := 0
abbrev mbPENDING : Nat := 1
abbrev mbACTIVE : Nat := 2
abbrev mbHELD : Nat := 3
abbrev mbSENT : Nat := 4
abbrev mbNOT_SENT : Nat := 5
abbrev mbABORTED : Nat := 6
abbrev mbFULL : Nat := 7
def State.mbState (s : State) (c b : Nat) : Nat := s.fld (R.CAN_MB_STAT c b) F.CAN_MB_STAT_STATE
def State.setMb (s : State) (c b v : Nat) : State := s.setFld (R.CAN_MB_STAT c b) F.CAN_MB_STAT_STATE v

/-- Bus states (CAN_STAT.BUS). -/
abbrev busOFF : Nat := 0
abbrev busINTEGRATING : Nat := 1
abbrev busACTIVE : Nat := 2
abbrev busPASSIVE : Nat := 3
abbrev busBUS_OFF : Nat := 4
abbrev busRECOVERING : Nat := 5
def State.bus (s : State) (c : Nat) : Nat := s.fld (R.CAN_STAT c) F.CAN_STAT_BUS
def State.setBus (s : State) (c v : Nat) : State := s.setFld (R.CAN_STAT c) F.CAN_STAT_BUS v
def State.canMode (s : State) (c : Nat) : Nat := s.fld (R.CAN_CTRL c) F.CAN_CTRL_MODE

/-- A transmit buffer, its partition, and whether it is single-shot. -/
def State.txBuf (s : State) (c b p : Nat) : Bool :=
  let a := R.CAN_MB_CFG c b
  b < 64 && c < 16 && s.flag a F.CAN_MB_CFG_VALID && s.inEffect a && s.flag a F.CAN_MB_CFG_DIR && s.fld a F.CAN_MB_CFG_PART == p

/-- Every transmit buffer of a channel in a state goes to another. -/
def State.mbAll (s : State) (c : Nat) (frm dst : Nat) : State :=
  (List.range 64).foldl (fun s b => if s.mbState c b = frm then s.setMb c b dst else s) s

/-! ### Bit timing and modes (R329 to R331) -/

/-- A phase's timing is valid (R330): at least 8 tq, a rate not above `top` bit/s. -/
def phaseOk (brp t1 t2 top : Nat) : Bool := 8 ≤ 1 + t1 + t2 && 0 < brp && 160000000 ≤ top * (brp * (1 + t1 + t2))

/-- The bit timing allows the channel to leave OFF (R330). -/
def State.timingOk (s : State) (c : Nat) : Bool :=
  let n := s.reg (R.CAN_BTN c)
  let d := s.reg (R.CAN_BTD c)
  let x := s.reg (R.CAN_BTX c)
  F.CAN_BTN_SJW.get n ≤ F.CAN_BTN_TSEG2.get n && F.CAN_BTD_SJW.get d ≤ F.CAN_BTD_TSEG2.get d &&
    F.CAN_BTX_SJW.get x ≤ F.CAN_BTX_TSEG2.get x &&
    phaseOk (F.CAN_BTN_BRP.get n) (F.CAN_BTN_TSEG1.get n) (F.CAN_BTN_TSEG2.get n) 1000000 &&
    (!s.flag (R.CAN_CTRL c) F.CAN_CTRL_FD_EN ||
      phaseOk (F.CAN_BTD_BRP.get d) (F.CAN_BTD_TSEG1.get d) (F.CAN_BTD_TSEG2.get d) 8000000) &&
    (!s.flag (R.CAN_CTRL c) F.CAN_CTRL_XL_EN ||
      phaseOk (F.CAN_BTX_BRP.get x) (F.CAN_BTX_TSEG1.get x) (F.CAN_BTX_TSEG2.get x) 20000000)

/-- A write of CAN_CTRL (R330, R331, R347, R348): the fields but MODE stand at once; MODE and RECOVER wait for the
landing. -/
def State.canCtrlWrite (s : State) (c : Nat) (w : Word) : State :=
  let a := R.CAN_CTRL c
  let old := s.reg a
  let w' := if F.CAN_CTRL_ALONE_N.get w = 0 then F.CAN_CTRL_ALONE_N.put w (F.CAN_CTRL_ALONE_N.get old) else w
  let s := s.setReg a ((w' &&& 0x7F00FF78) ||| (old &&& 3))
  let m := F.CAN_CTRL_MODE.get w
  let x := s.canCh c
  let s := if m ≠ 0 && s.canMode c = 0 && !s.timingOk c then s.event Ev.CAN_BT_INVALID
    else s.setCanCh c { x with modeW := some m }
  if F.CAN_CTRL_RECOVER.get w = 1 then s.setCanCh c { s.canCh c with recoverW := true } else s

/-- CAN_MODE_WRITE. -/
def execCanModeWrite (ch : Fin 16) (w : Word) (s : State) : Out := s.onCore (fun s => s.canCtrlWrite ch w)

/-- RECOVER: written to a channel in BUS_OFF; its counting starts at the landing (R347). -/
def execRecover (ch : Fin 16) (s : State) : Out :=
  s.onCore (fun s => s.setCanCh ch { s.canCh ch with recoverW := true })

/-- A write of a bit timing register (R330). -/
def State.canBtWrite (s : State) (c a : Nat) (w : Word) : State :=
  if s.canMode c = 0 ∧ (s.canCh c).modeW.getD 0 = 0 then s.setReg a w else s.event Ev.CAN_BT_BUSY

/-- A MODE that takes effect at a landing (R331). -/
def State.canModeLand (s : State) (c m : Nat) : State :=
  let old := s.canMode c
  let s := s.setFld (R.CAN_CTRL c) F.CAN_CTRL_MODE m
  let s := if m = 0 ∧ s.bus c ≠ busOFF then
      let s := ((s.mbAll c mbPENDING mbHELD).mbAll c mbACTIVE mbHELD).setBus c busOFF
      s.setCanCh c { s.canCh c with active := none, noRetry := false }
    else if m ≠ 0 ∧ s.bus c = busOFF then
      let s := (s.setFld (R.CAN_ERRC c) F.CAN_ERRC_TEC 0).setFld (R.CAN_ERRC c) F.CAN_ERRC_REC 0
      let x := s.canCh c
      (s.setBus c busINTEGRATING).setCanCh c { x with bufs := x.bufs.map (fun e => (e.1, { e.2 with got := false })) }
    else s
  if m = 2 then s.mbAll c mbPENDING mbHELD
  else if old = 2 ∧ m ≠ 0 ∧ (s.bus c = busACTIVE ∨ s.bus c = busPASSIVE) then s.mbAll c mbHELD mbPENDING
  else s

/-- RECOVERING starts from BUS_OFF (R331). -/
def State.canRecover (s : State) (c : Nat) : State := if s.bus c = busBUS_OFF then s.setBus c busRECOVERING else s

/-- CAN_INTEGRATED: eleven recessive bits (R331); buffers HELD by OFF go back to PENDING. -/
def State.canIntegrated (s : State) (c : Nat) : State :=
  if s.bus c ≠ busINTEGRATING then s
  else
    let s := s.setBus c busACTIVE
    if s.canMode c = 2 then s else s.mbAll c mbHELD mbPENDING

/-- CAN_INTEGRATED. -/
def execCanIntegrated (ch : Fin 16) (s : State) : Out := s.onCore (fun s => s.canIntegrated ch)

/-- CAN_RECOVERED: the 128th sequence (R331, R347, R351). -/
def State.canRecovered (s : State) (c : Nat) : State :=
  if s.bus c ≠ busRECOVERING then s
  else
    let s := (s.setFld (R.CAN_ERRC c) F.CAN_ERRC_TEC 0).setFld (R.CAN_ERRC c) F.CAN_ERRC_REC 0
    let s := s.setBus c busACTIVE
    let s := if s.canMode c = 2 then s else s.mbAll c mbHELD mbPENDING
    s.fire 2 (144 + c)

/-- CAN_RECOVERED. -/
def execCanRecovered (ch : Fin 16) (s : State) : Out := s.onCore (fun s => s.canRecovered ch)

/-- Entry to BUS_OFF (R331, R347): PENDING and ACTIVE buffers become HELD, the shadow of the ACTIVE one replacing its frame;
the BUSOFF event fires, and recovery starts where AUTO_REC says so. -/
def State.canBusOff (s : State) (c : Nat) : State :=
  let s := match (s.canCh c).active with
    | some b =>
      let x := s.canBuf c b
      let s := if s.flag (R.CAN_MB_STAT c b) F.CAN_MB_STAT_SHADOW then
          ((s.setCanBuf c b { x with rcd := x.shadow, shadow := [] }).setFlag (R.CAN_MB_STAT c b) F.CAN_MB_STAT_SHADOW false).incFld
            (R.CAN_MB_STAT c b) F.CAN_MB_STAT_REPL 255
        else s
      s.setMb c b (if (s.canCh c).noRetry then mbABORTED else mbHELD)
    | none => s
  let s := s.setCanCh c { s.canCh c with active := none, noRetry := false }
  let s := (s.mbAll c mbPENDING mbHELD).setBus c busBUS_OFF
  let s := (s.incFld (R.CAN_STAT c) F.CAN_STAT_BOFF 255).fire 2 (144 + c)
  if s.flag (R.CAN_CTRL c) F.CAN_CTRL_AUTO_REC then s.canRecover c else s

/-- The bus state that the error counters give (R331). -/
def State.canConfine (s : State) (c : Nat) : State :=
  let t := s.fld (R.CAN_ERRC c) F.CAN_ERRC_TEC
  let r := s.fld (R.CAN_ERRC c) F.CAN_ERRC_REC
  if s.bus c ≠ busACTIVE ∧ s.bus c ≠ busPASSIVE then s
  else if 255 < t then s.canBusOff c
  else s.setBus c (if 127 < t ∨ 127 < r then busPASSIVE else busACTIVE)

/-- CAN_ERROR: an error changes TEC (`tx`) or REC by 8 (`eight`) or 1 (R345, ISO 11898-1); in RESTRICTED the counters do
not change (R331). -/
def State.canError (s : State) (c : Nat) (tx eight : Bool) : State :=
  if s.bus c ≠ busACTIVE ∧ s.bus c ≠ busPASSIVE then s
  else
    let d := if eight then 8 else 1
    let a := R.CAN_ERRC c
    let s := if s.canMode c = 3 then s
      else if tx then s.setFld a F.CAN_ERRC_TEC (satAdd (s.fld a F.CAN_ERRC_TEC) d 511)
      else s.setFld a F.CAN_ERRC_REC (satAdd (s.fld a F.CAN_ERRC_REC) d 255)
    s.canConfine c

/-- CAN_ERROR. -/
def execCanError (ch : Fin 16) (tx eight : Bool) (s : State) : Out := s.onCore (fun s => s.canError ch tx eight)

/-! ### Transmit buffers (R332 to R336, R346 to R349) -/

/-- The data length a record's format permits (R328). -/
def canLenOk (fmt n : Nat) : Bool := match fmt with
  | 0 => n ≤ 8
  | 1 => n ≤ 8 || [12, 16, 20, 24, 32, 48, 64].contains n
  | _ => 1 ≤ n && n ≤ 2048

/-- A record's head is one that CSEND accepts on channel c (R333). -/
def State.canRecordOk (s : State) (c : Nat) (h : List Byte) : Bool :=
  let id := leAt h 0 4
  let f := leAt h 4 1
  let fmt := f % 4
  let ide := bit id 29
  canLenOk fmt (leAt h 6 2) && fmt ≤ 2 && (fmt != 1 || s.flag (R.CAN_CTRL c) F.CAN_CTRL_FD_EN) &&
    (fmt != 2 || s.flag (R.CAN_CTRL c) F.CAN_CTRL_XL_EN) && !bit id 31 && (!bit id 30 || fmt == 0) && (!ide || fmt != 2) &&
    (ide || id % 2 ^ 29 < 2048) && (f == fmt || (f == 16 + fmt && fmt == 1)) && leAt h 5 1 == 0 && leAt h 10 2 == 0 &&
    (fmt == 2 || (leAt h 8 2 == 0 && leAt h 12 4 == 0))

/-- CSEND (R182, R183, R332 to R334). -/
def State.csend (s : State) (l : Nat) (t : TaskCtx) (rd ra rb : Fin 32) (word : Word) (size : Nat) : State :=
  s.msgWindow l rd ra word size 0 id (fun w off s =>
    let h := (s.g l rb).toNat
    let c := h / 64
    let b := h % 64
    if !s.txBuf c b t.part then s.msgFail l rd word 3
    else
      let head := s.winBytes l w off 16
      let n := 16 + leAt head 6 2
      if size < n || !s.canRecordOk c head then s.msgFail l rd word 2
      else
        let rcd := s.winBytes l w off n
        let others (x : PartSt) : List CStage := x.csends.filter (fun e => !(e.chan == c && e.buf == b))
        (s.modPart t.part (fun x => { x with csends := others x ++ [⟨c, b, rcd⟩] })).setG l rd (msgResult 0 0))

/-- CSEND. -/
def execCsend (l : Fin 64) (q : PQ) (rd ra rb : Fin 32) (sz : Bool) (s : State) : Out :=
  s.onCore (fun s =>
    let word := wordA 0x2E rd.val ra.val rb.val (b2n sz * 16) q
    s.msgIns l q word 0 (fun t s => s.csend l t rd ra rb word (if sz then 2064 else 80)))

/-- A staged record enters its buffer at the launch (R334). -/
def State.canEnter (s : State) (e : CStage) : State :=
  let c := e.chan
  let b := e.buf
  let a := R.CAN_MB_STAT c b
  let x := s.canBuf c b
  match s.mbState c b with
  | 1 | 3 => (s.setCanBuf c b { x with rcd := e.bytes }).incFld a F.CAN_MB_STAT_REPL 255
  | 2 =>
    let s := if s.flag a F.CAN_MB_STAT_SHADOW then s.incFld a F.CAN_MB_STAT_REPL 255 else s
    (s.setCanBuf c b { x with shadow := e.bytes }).setFlag a F.CAN_MB_STAT_SHADOW true
  | _ =>
    let s := (s.setCanBuf c b { x with rcd := e.bytes }).setFld a F.CAN_MB_STAT_RETRY 0
    s.setMb c b (if s.canMode c = 2 then mbHELD else mbPENDING)

/-- The records a partition staged in this tick enter their buffers (R334). -/
def State.canRelease (s : State) (p : Nat) : State :=
  let es := (s.part p).csends
  es.foldl (fun s e => if s.txBuf e.chan e.buf p then s.canEnter e else s) (s.modPart p (fun x => { x with csends := [] }))

/-- A partition leaves RUNNING at the launch (R336). -/
def State.canStop (s : State) (p : Nat) : State :=
  let s := s.modPart p (fun x => { x with csends := [] })
  (s.can.map (fun e => e.1)).foldl (fun s c => (List.range 64).foldl (fun s b =>
    if s.txBuf c b p then match s.mbState c b with
      | 1 | 3 => s.setMb c b mbABORTED
      | 2 => s.setCanCh c { s.canCh c with noRetry := true }
      | _ => s
    else s) s) s

/-- The arbitration order of R335 as a number: the identifier's bits from the base identifier down, with IDE after the base
identifier; an XL frame's identifier is its priority identifier. -/
def canRank (rcd : List Byte) : Nat :=
  let id := leAt rcd 0 4
  let n := id % 2 ^ 29
  if bit id 29 then n / 2 ^ 18 * 2 ^ 19 + 2 ^ 18 + n % 2 ^ 18 else n % 2048 * 2 ^ 19

/-- The buffer the controller offers (R335). -/
def State.canWinner (s : State) (c : Nat) : Option Nat :=
  (List.range 64).foldl (fun (best : Option Nat) b =>
    if s.mbState c b ≠ mbPENDING then best
    else match best with
      | none => some b
      | some k => if canRank (s.canBuf c b).rcd < canRank (s.canBuf c k).rcd then some b else best) none

/-- CAN_ARBITRATION_START: with the bus free, the first PENDING buffer in the order of R335 becomes ACTIVE; `sof` is the
start-of-frame counter (R335, R342, R346). -/
def State.canStart (s : State) (c : Nat) (sof : Word) : State :=
  if (s.bus c ≠ busACTIVE ∧ s.bus c ≠ busPASSIVE) || s.canMode c ≠ 1 || (s.canCh c).active.isSome then s
  else match s.canWinner c with
    | none => s
    | some b =>
      let s := (s.setMb c b mbACTIVE).incFld (R.CAN_MB_STAT c b) F.CAN_MB_STAT_RETRY 255
      let s := s.setCanBuf c b { s.canBuf c b with stamp := sof, stampTick := s.absLo }
      s.setCanCh c { s.canCh c with active := some b, noRetry := false }

/-- CAN_ARBITRATION_START. -/
def execCanArbitrationStart (ch : Fin 16) (sof : Word) (s : State) : Out := s.onCore (fun s => s.canStart ch sof)

/-- CAN_TX_END: an attempt succeeds, loses arbitration or fails (R334, R336, R348, R349). -/
def State.canTxEnd (s : State) (c : Nat) (r : CanTxEnd) : State := match (s.canCh c).active with
  | none => s
  | some b =>
    let a := R.CAN_MB_STAT c b
    let last := (s.canCh c).noRetry
    let x := s.canBuf c b
    let shadow := s.flag a F.CAN_MB_STAT_SHADOW
    let single := s.flag (R.CAN_MB_CFG c b) F.CAN_MB_CFG_SINGLE
    let s := s.setCanCh c { s.canCh c with active := none, noRetry := false }
    let again := if s.canMode c = 1 then mbPENDING else mbHELD
    let fromShadow (s : State) : State :=
      ((s.setCanBuf c b { x with rcd := x.shadow, shadow := [] }).setFlag a F.CAN_MB_STAT_SHADOW false).setMb c b again
    let e := R.CAN_ERRC c
    match r with
    | .sent =>
      let s := (s.setFld e F.CAN_ERRC_TEC (s.fld e F.CAN_ERRC_TEC - 1)).setFld e F.CAN_ERRC_ACKRUN 0
      let s := (s.setFlag (R.CAN_STAT c) F.CAN_STAT_ALONE false).canConfine c
      if shadow && !last then (fromShadow s).setFld a F.CAN_MB_STAT_RETRY 0 else s.setMb c b mbSENT
    | _ =>
      let s := if r = .noAck then
          let n := satAdd (s.fld e F.CAN_ERRC_ACKRUN) 1 255
          let s := s.setFld e F.CAN_ERRC_ACKRUN n
          if s.fld (R.CAN_CTRL c) F.CAN_CTRL_ALONE_N ≤ n && !s.flag (R.CAN_STAT c) F.CAN_STAT_ALONE then
            (s.setFlag (R.CAN_STAT c) F.CAN_STAT_ALONE true).fire 2 (128 + c)
          else s
        else s
      if last then (s.setFlag a F.CAN_MB_STAT_SHADOW false).setMb c b mbABORTED
      else if single then
        if shadow then (fromShadow s).setFld a F.CAN_MB_STAT_RETRY 0 else s.setMb c b mbNOT_SENT
      else if shadow then (fromShadow s).incFld a F.CAN_MB_STAT_REPL 255
      else s.setMb c b again

/-- CAN_TX_END. -/
def execCanTxEnd (ch : Fin 16) (r : CanTxEnd) (s : State) : Out := s.onCore (fun s => s.canTxEnd ch r)

/-! ### Acceptance (R337 to R342) -/

/-- The record of a received frame (R333). -/
def canRecord (f : CanFrame) : List Byte :=
  leBytes 4 (f.ident.toNat + b2n f.ide * 2 ^ 29 + b2n f.rtr * 2 ^ 30) ++
    [BitVec.ofNat 8 (f.fmt.val + 16 * b2n f.brs + 32 * b2n f.esi), 0] ++ leBytes 2 f.data.length ++ [f.sdt, f.vcid, 0, 0] ++
    leBytes 4 f.af.toNat ++ f.data

/-- The identifier as the filters see it (R338). -/
def canIdent (f : CanFrame) : Nat := if f.fmt.val = 2 then f.ident.toNat % 2048 else f.ident.toNat
def canIde (f : CanFrame) : Bool := f.ide && f.fmt.val != 2

/-- High-priority entry e matches (R339). -/
def State.hpmMatch (s : State) (c e : Nat) (f : CanFrame) : Bool :=
  let g := R.CAN_HPM_CFG c e
  let m := (s.reg (R.CAN_HPM_MASK c e)).toNat
  s.flag g F.CAN_HPM_CFG_VALID && s.inEffect g && (s.flag g F.CAN_HPM_CFG_IDE == canIde f) &&
    bit (s.fld g F.CAN_HPM_CFG_FMT) f.fmt.val && canIdent f &&& m == (s.reg (R.CAN_HPM_ID c e)).toNat &&& m

/-- Filter element e matches; its buffer is an allotted receive buffer (R338). -/
def State.fltMatch (s : State) (c e : Nat) (f : CanFrame) : Bool :=
  let a := s.reg (R.CAN_FLT_A c e)
  let id2 := (s.reg (R.CAN_FLT_B c e)).toNat
  let id1 := F.CAN_FLT_A_ID1.get a
  let g := R.CAN_MB_CFG c (s.fld (R.CAN_FLT_C c e) F.CAN_FLT_C_BUF)
  let i := canIdent f
  (F.CAN_FLT_A_IDE.get a == b2n (canIde f)) && s.flag g F.CAN_MB_CFG_VALID && s.inEffect g && !s.flag g F.CAN_MB_CFG_DIR &&
    match F.CAN_FLT_A_TYPE.get a with
    | 1 => id1 ≤ i && i ≤ id2
    | 2 => i == id1 || i == id2
    | 3 => i &&& id2 == id1 &&& id2
    | _ => false

/-- Receive buffer b (64 + e for an entry) accepts a frame (R340, R341). -/
def State.canAccept (s : State) (c b : Nat) (f : CanFrame) : State :=
  let a := R.CAN_MB_STAT c b
  let n := s.fld a F.CAN_MB_STAT_COUNT
  let s := if 0 < n then s.incFld a F.CAN_MB_STAT_REPL 255 else s
  let s := (s.setFld a F.CAN_MB_STAT_COUNT (satAdd n 1 255)).setMb c b mbFULL
  let rcd := canRecord f
  let s := s.setCanBuf c b ⟨rcd, [], f.sof, f.sofTick, s.tick.count, true⟩
  let g := s.reg (if 64 ≤ b then R.CAN_HPM_CFG c (b - 64) else R.CAN_MB_CFG c b)
  let en := if 64 ≤ b then F.CAN_HPM_CFG_RING_EN.get g else F.CAN_MB_CFG_RING_EN.get g
  let r := if 64 ≤ b then F.CAN_HPM_CFG_RING.get g else F.CAN_MB_CFG_RING.get g
  let p := F.CAN_MB_CFG_PART.get g
  if en = 1 ∧ boundPart (s.reg (R.SW_RING r)) = some p then
    let need := cellsFor (32 + f.data.length)
    let free := s.cellsFree (.part p)
    if free = 0 then s
    else
      let cells := min need free
      let short := decide (free < need)
      let bytes := if short then rcd.take (256 * cells - 16) else rcd
      let h := s.newHold (.part p) cells 1
      h.2.ringPush r ⟨h.1, b2n short, 64 + c, 0, 0, f.sofTick.toNat, f.sof.toNat, bytes⟩
  else s

/-- CAN_FRAME_RECEIVED: a valid frame is matched against the entries and the filters and stored (R337 to R341). An XL frame
with SEC = 1 matches nothing (R328). A frame of a format that is not enabled is not received. -/
def State.canReceive (s : State) (c : Nat) (f : CanFrame) : State :=
  let en := match f.fmt.val with
    | 0 => true
    | 1 => s.flag (R.CAN_CTRL c) F.CAN_CTRL_FD_EN
    | _ => s.flag (R.CAN_CTRL c) F.CAN_CTRL_XL_EN
  if (s.bus c ≠ busACTIVE ∧ s.bus c ≠ busPASSIVE) || !en || !canLenOk f.fmt.val f.data.length then s
  else
    let e := R.CAN_ERRC c
    let r := s.fld e F.CAN_ERRC_REC
    let s := if s.canMode c = 3 then s
      else if 127 < r then (s.setFld e F.CAN_ERRC_REC (119 + Config.canRec s.free % 9)).draw
      else s.setFld e F.CAN_ERRC_REC (r - 1)
    let s := s.canConfine c
    let miss (s : State) : State := s.incFld (R.CAN_STAT c) F.CAN_STAT_NOMATCH 255
    if f.fmt.val = 2 ∧ f.sec then miss s
    else match (List.range 8).find? (fun k => s.hpmMatch c k f) with
      | some k => (s.canAccept c (64 + k) f).fire 2 (8 * c + k)
      | none => match (List.range 256).find? (fun k => s.fltMatch c k f) with
        | some k => s.canAccept c (s.fld (R.CAN_FLT_C c k) F.CAN_FLT_C_BUF) f
        | none => miss s

/-- CAN_FRAME_RECEIVED. -/
def execCanFrameReceived (ch : Fin 16) (f : CanFrame) (s : State) : Out := s.onCore (fun s => s.canReceive ch f)

/-! ### Points (R343, R344, R350) -/

/-- The partition of a source buffer, with whether it transmits (R343). -/
def State.canSrc (s : State) (c b : Nat) : Option (Nat × Bool) :=
  if b < 64 then
    let g := s.reg (R.CAN_MB_CFG c b)
    if g.getLsbD 31 then some (F.CAN_MB_CFG_PART.get g, F.CAN_MB_CFG_DIR.get g == 1) else none
  else if b < 72 then
    let g := s.reg (R.CAN_HPM_CFG c (b - 64))
    if g.getLsbD 31 then some (F.CAN_HPM_CFG_PART.get g, false) else none
  else none

/-- The header of the input image of a source that partition p has placed at a location. -/
def State.inputImage (s : State) (p loc source : Nat) : Option ImgHdr :=
  if s.dirValid loc && s.dirKind loc == kIMAGE && !s.dirFlag loc fOUTPUT && s.dirOwner loc == p then
    match tget (s.part p).hdrs loc with
    | some h => if h.source = source then some h else none
    | none => none
  else none

/-- A point map is one that a write accepts (R343). -/
def State.pmapOk (s : State) (c : Nat) (a b : Word) : Bool :=
  let fl := F.CAN_PMAP_A_FIELD.get a
  match s.canSrc c (F.CAN_PMAP_A_SRC.get a) with
  | none => false
  | some (p, tx) => match s.inputImage p (F.CAN_PMAP_B_LOC.get b) 2 with
    | none => false
    | some h =>
      F.CAN_PMAP_B_INDEX.get b < h.npoints && ((F.CAN_PMAP_A_WIDTH.get a == 0) == (h.layout == lyBIT)) && fl ≤ 5 &&
        !(fl ≤ 3 && tx)

/-- CAN_PMAP_WRITE: word A or word B (`hi`) of map m (R343). -/
def State.pmapWrite (s : State) (c m : Nat) (hi : Bool) (w : Word) : State :=
  let a := if hi then s.reg (R.CAN_PMAP_A c m) else w &&& 0xFFFFFFF8
  let b := if hi then w else s.reg (R.CAN_PMAP_B c m)
  if a.getLsbD 31 && !s.pmapOk c a b then s.event Ev.CAN_MAP_REFUSED
  else
    let s := s.bindWrite (if hi then R.CAN_PMAP_B c m else R.CAN_PMAP_A c m) (if hi then b else a)
    s.setCanCh c { s.canCh c with stale := (s.canCh c).stale.filter (fun k => k != m) }

/-- CAN_PMAP_WRITE. -/
def execCanPmapWrite (ch : Fin 16) (m : Fin 28) (hi : Bool) (w : Word) (s : State) : Out :=
  s.onCore (fun s => s.pmapWrite ch m hi w)

/-- After an exchange of partition p: each map whose location no longer holds such an image is logged once (R343). -/
def State.canMapsStale (s : State) : State :=
  (List.range 16).foldl (fun s c => (List.range 28).foldl (fun s m =>
    let a := s.reg (R.CAN_PMAP_A c m)
    if a.getLsbD 31 && !s.pmapOk c a (s.reg (R.CAN_PMAP_B c m)) && !(s.canCh c).stale.contains m then
      (s.event Ev.CAN_MAP_STALE 0xFF (R.CAN_PMAP_A c m)).setCanCh c { s.canCh c with stale := (s.canCh c).stale ++ [m] }
    else s) s) s

/-- The bytes of a DATA field, as a number in the map's byte order; beyond LEN they read zero. -/
def canData (rcd : List Byte) (a : Word) : Word :=
  let off := 16 + F.CAN_PMAP_A_OFFSET.get a
  match F.CAN_PMAP_A_WIDTH.get a with
  | 0 => w32 (leAt rcd off 1 / 2 ^ F.CAN_PMAP_A_BITPOS.get a % 2)
  | w =>
    let n := 2 ^ (w - 1)
    let v := if F.CAN_PMAP_A_ORDER.get a = 1 then beNat (sub rcd off n) else leAt rcd off n
    if F.CAN_PMAP_A_SIGNED.get a = 1 ∧ w < 3 then
      (if w = 1 then (BitVec.ofNat 8 v).signExtend 32 else (BitVec.ofNat 16 v).signExtend 32)
    else w32 v

/-- What a map gives its point at a landing (R343, R344). -/
def State.canPoint (s : State) (c : Nat) (a b : Word) : PtIn :=
  let k := F.CAN_PMAP_A_SRC.get a
  let x := s.canBuf c k
  let st := s.reg (R.CAN_MB_STAT c k)
  let v : Word := match F.CAN_PMAP_A_FIELD.get a with
    | 0 => canData x.rcd a
    | 1 => w32 (leAt x.rcd 0 4)
    | 2 => w32 (leAt x.rcd 6 2)
    | 3 => w32 (F.CAN_MB_STAT_COUNT.get st)
    | 4 => w32 ((s.reg (R.CAN_STAT c)).toNat % 32)
    | _ => w32 (F.CAN_MB_STAT_STATE.get st)
  let fresh := F.CAN_PMAP_B_FRESH.get b
  if 4 ≤ F.CAN_PMAP_A_FIELD.get a then ⟨v, qNORMAL, x.stamp⟩
  else if !x.got || s.bus c = busOFF || s.bus c = busBUS_OFF then ⟨0, qSAFE, x.stamp⟩
  else if fresh ≠ 0 ∧ x.since + fresh < s.tick.count then ⟨v, 1, x.stamp⟩
  else ⟨v, qNORMAL, x.stamp⟩

/-- What distribution gives point i of the SOURCE 2 image at a location (R343, R344). -/
def State.canSource (s : State) (loc i : Nat) : PtIn :=
  let hits := (List.range 16).filterMap (fun c => ((List.range 28).find? (fun m =>
    let b := s.reg (R.CAN_PMAP_B c m)
    (s.reg (R.CAN_PMAP_A c m)).getLsbD 31 && s.inEffect (R.CAN_PMAP_A c m) && F.CAN_PMAP_B_LOC.get b == loc &&
      F.CAN_PMAP_B_INDEX.get b == i && s.pmapOk c (s.reg (R.CAN_PMAP_A c m)) b)).map (fun m => (c, m)))
  match hits.head? with
  | some (c, m) => s.canPoint c (s.reg (R.CAN_PMAP_A c m)) (s.reg (R.CAN_PMAP_B c m))
  | none => ⟨0, qSAFE, 0⟩

/-- The landing's snapshot is distributed; COUNT starts again (R340). -/
def State.canSnap (s : State) : State :=
  s.can.foldl (fun s e => e.2.bufs.foldl (fun s b => s.setFld (R.CAN_MB_STAT e.1 b.1) F.CAN_MB_STAT_COUNT 0) s) s

/-- MODE and RECOVER take effect at a landing, and CAN_TSEDGE takes the counter at cycle 0 (R331, R342, R347). -/
def State.canLanding (s : State) : State :=
  let edge := w32 (Config.canEpoch + s.tick.base / 20)
  let s := (List.range 16).foldl (fun s c => s.setReg (R.CAN_TSEDGE c) edge) s
  (s.can.map (fun e => e.1)).foldl (fun s c =>
    let x := s.canCh c
    let s := s.setCanCh c { x with modeW := none, recoverW := false }
    let s := match x.modeW with
      | some m => s.canModeLand c m
      | none => s
    if x.recoverW then s.canRecover c else s) s

/-- A write of a message buffer's or an entry's allotment (R332, R339, R153); a buffer whose allotment changes is empty. -/
def State.canAllotWrite (s : State) (c b a : Nat) (w : Word) : State :=
  let old := s.reg a
  if old ≠ w && !(match boundPart old with | some p => s.mayWithdraw p | none => true) then
    s.allotBusy ((boundPart old).getD 0xFF) a
  else
    let same := boundPart old = boundPart w ∧ old.getLsbD 23 = w.getLsbD 23
    let s := if same then s else (s.setCanBuf c b CanBuf.reset).setReg (R.CAN_MB_STAT c b) 0
    s.bindWrite a w

end Sys2Proof.Machine
end

