-- ==== Sys2Proof/Machine/Aes.lean ====
section
/-!
DEFINITION. AES-256 (FIPS 197), GCM with a 96-bit IV and a 128-bit tag (SP 800-38D) and CMAC (SP 800-38B), the block
cipher algorithms of R447.
-/
namespace Sys2Proof.Machine

/-- A byte times x in GF(2⁸). -/
def xtime (b : Byte) : Byte := (b <<< 1) ^^^ (if b.msb then 0x1B else 0)

/-- The product of two bytes in GF(2⁸), over n bits of the second. -/
def gfMul : Nat → Byte → Byte → Byte
  | 0, _, _ => 0
  | n + 1, a, b => (if b.getLsbD 0 then a else 0) ^^^ gfMul n (xtime a) (b >>> 1)

/-- The product of b², b⁴, …, n factors: for n = 7 it is b²⁵⁴, the inverse. -/
def gfInv : Nat → Byte → Byte
  | 0, _ => 1
  | n + 1, b => let q := gfMul 8 b b; gfMul 8 q (gfInv n q)

/-- SubBytes of one byte. -/
def sbox (b : Byte) : Byte :=
  let x := gfInv 7 b
  x ^^^ x.rotateLeft 1 ^^^ x.rotateLeft 2 ^^^ x.rotateLeft 3 ^^^ x.rotateLeft 4 ^^^ 0x63

/-- Two byte strings added. -/
def xorB (a b : List Byte) : List Byte := List.zipWith (· ^^^ ·) a b

/-- The key schedule: the newest eight words first, grown by one word. `i` counts words. -/
def keyGrow (i : Nat) (rcon : Byte) (ws : List (List Byte)) : List (List Byte) :=
  let t := ws.getD 0 []
  let t := if i % 8 = 0 then match (t.rotateLeft 1).map sbox with
      | h :: r => (h ^^^ rcon) :: r
      | [] => []
    else if i % 8 = 4 then t.map sbox else t
  xorB (ws.getD 7 []) t :: ws

/-- Words i … of the schedule, n of them. -/
def keyWords : Nat → Nat → Byte → List (List Byte) → List (List Byte)
  | 0, _, _, ws => ws
  | n + 1, i, rcon, ws => keyWords n (i + 1) (if i % 8 = 0 then xtime rcon else rcon) (keyGrow i rcon ws)

/-- The list cut into pieces of m bytes, n of them. -/
def pieces (m : Nat) : Nat → List Byte → List (List Byte)
  | 0, _ => []
  | n + 1, b => sub b 0 m :: pieces m n (b.drop m)

/-- The fifteen round keys of a 32-byte key. -/
def roundKeys (key : List Byte) : List (List Byte) :=
  pieces 16 15 ((keyWords 52 8 1 (pieces 4 8 key).reverse).reverse.flatten)

/-- ShiftRows of a block held column by column. -/
def shiftRows (b : List Byte) : List Byte := (List.range 16).map (fun i => b.getD ((i + 4 * (i % 4)) % 16) 0)

/-- MixColumns of one column. -/
def mixCol (c : List Byte) : List Byte :=
  let g (i : Nat) : Byte := c.getD (i % 4) 0
  (List.range 4).map (fun i => xtime (g i) ^^^ (xtime (g (i + 1)) ^^^ g (i + 1)) ^^^ g (i + 2) ^^^ g (i + 3))

/-- The rounds: every round key but the last with MixColumns. -/
def aesRounds : List (List Byte) → List Byte → List Byte
  | [], b => b
  | [k], b => xorB (shiftRows (b.map sbox)) k
  | k :: ks, b => aesRounds ks (xorB (((pieces 4 4 (shiftRows (b.map sbox))).map mixCol).flatten) k)

/-- AES-256 of one block under round keys. -/
def aesBlock (ks : List (List Byte)) (b : List Byte) : List Byte := match ks with
  | k :: r => aesRounds r (xorB (sub b 0 16) k)
  | [] => b

/-- The product in GF(2¹²⁸) of GCM, over n bits of x from its most significant. -/
def ghMul : Nat → BitVec 128 → BitVec 128 → BitVec 128 → BitVec 128
  | 0, _, _, z => z
  | n + 1, x, v, z =>
    ghMul n (x <<< 1) ((v >>> 1) ^^^ (if v.getLsbD 0 then 0xE1000000000000000000000000000000 else 0))
      (if x.msb then z ^^^ v else z)

/-- GHASH of blocks. -/
def ghash (h : BitVec 128) (blocks : List (List Byte)) : BitVec 128 :=
  blocks.foldl (fun y b => ghMul 128 (y ^^^ BitVec.ofNat 128 (beNat b)) h 0) 0

/-- The 16-byte blocks of a string, the last padded with zeros. -/
def blocks16 (b : List Byte) : List (List Byte) := pieces 16 ((b.length + 15) / 16) b

/-- Counter mode from counter c. -/
def ctrBlocks (ks : List (List Byte)) (iv : List Byte) : Nat → List (List Byte) → List Byte
  | _, [] => []
  | c, b :: t => xorB b (aesBlock ks (sub iv 0 12 ++ beBytes 4 c)) ++ ctrBlocks ks iv (c + 1) t

/-- The GCM keystream over data. -/
def gcmCrypt (ks : List (List Byte)) (iv data : List Byte) : List Byte := (ctrBlocks ks iv 2 (blocks16 data)).take data.length

/-- The GCM tag of a ciphertext with additional data. -/
def gcmTag (ks : List (List Byte)) (iv aad ct : List Byte) : List Byte :=
  let h := BitVec.ofNat 128 (beNat (aesBlock ks (List.replicate 16 0)))
  let s := ghash h (blocks16 aad ++ blocks16 ct ++ [beBytes 8 (8 * aad.length) ++ beBytes 8 (8 * ct.length)])
  xorB (beBytes 16 s.toNat) (aesBlock ks (sub iv 0 12 ++ [0, 0, 0, 1]))

/-- AES-256-GCM encryption: ciphertext and tag. -/
def gcmEnc (key iv aad pt : List Byte) : List Byte × List Byte :=
  let ks := roundKeys key
  let ct := gcmCrypt ks iv pt
  (ct, gcmTag ks iv aad ct)

/-- AES-256-GCM decryption: none where the tag fails. -/
def gcmDec (key iv aad ct tag : List Byte) : Option (List Byte) :=
  let ks := roundKeys key
  if gcmTag ks iv aad ct = tag then some (gcmCrypt ks iv ct) else none

/-- A block doubled, for the subkeys of CMAC. -/
def dbl128 (x : BitVec 128) : BitVec 128 := (x <<< 1) ^^^ (if x.msb then 0x87 else 0)

/-- The chained blocks of CMAC: the last is masked with a subkey. -/
def cmacBlocks (ks : List (List Byte)) (k1 k2 : List Byte) : List Byte → List (List Byte) → Nat → List Byte
  | y, [], _ => y
  | y, [b], n =>
    let last := if n = 16 then xorB b k1 else xorB (sub (b.take n ++ [0x80]) 0 16) k2
    aesBlock ks (xorB y last)
  | y, b :: t, n => cmacBlocks ks k1 k2 (aesBlock ks (xorB y b)) t n

/-- AES-256-CMAC of a message that is not empty. -/
def cmac (key msg : List Byte) : List Byte :=
  let ks := roundKeys key
  let k1 := dbl128 (BitVec.ofNat 128 (beNat (aesBlock ks (List.replicate 16 0))))
  let n := if msg.length % 16 = 0 then 16 else msg.length % 16
  cmacBlocks ks (beBytes 16 k1.toNat) (beBytes 16 (dbl128 k1).toNat) (List.replicate 16 0) (blocks16 msg) n

end Sys2Proof.Machine
end

