-- ==== Sys2Proof/Machine/Safe.lean ====
section
/-!
DEFINITION. The safety functions (chapter 16): inputs, test pulses, pairs and chatter, outputs, global faults,
acknowledgement, the safe cycle, remote telegrams, configuration, password and change log.
-/
namespace Sys2Proof.Machine

def State.safeIn (s : State) (i : Nat) : SafeIn := tgetD s.safe.ins i SafeIn.reset
def State.setSafeIn (s : State) (i : Nat) (x : SafeIn) : State := { s with safe := { s.safe with ins := tput s.safe.ins i x } }
def State.safeOut (s : State) (o : Nat) : SafeOut := tgetD s.safe.outs o SafeOut.reset
def State.setSafeOut (s : State) (o : Nat) (x : SafeOut) : State := { s with safe := { s.safe with outs := tput s.safe.outs o x } }
def State.safeRx (s : State) (c : Nat) : SafeRx := tgetD s.safe.rx c SafeRx.reset
def State.setSafeRx (s : State) (c : Nat) (x : SafeRx) : State := { s with safe := { s.safe with rx := tput s.safe.rx c x } }

/-! ### Configuration (R388) -/

/-- The bits of a SAFE register that are RW: none of DISC and MODE at an odd input (R369). -/
def safeMask (a : Nat) : Nat :=
  if 0x70100 ≤ a ∧ a < 0x70200 ∧ a % 0x20 = 0x10 then 0xFF07
  else match findReg a with
    | some r => r.rw
    | none => 0

/-- The SAFE registers that hold an RW field, ascending. -/
def safeAddrs : List Nat := ((List.range 0x400).map (fun i => 0x70000 + 4 * i)).filter (fun a => safeMask a != 0)

/-- The configuration as the registers hold it. -/
def State.safeRegs (s : State) : List (Nat × Word) :=
  s.srf.filter (fun e => 0x70000 ≤ e.1 && e.1 < 0x71000 && safeMask e.1 != 0)

/-- A field of a configuration. -/
def cfgFld (c : List (Nat × Word)) (a : Nat) (f : Fld) : Nat := f.get (dget resetWord c a)
def cfgFlag (c : List (Nat × Word)) (a : Nat) (f : Fld) : Bool := cfgFld c a f != 0

/-- SAFE_DIGEST of a configuration. -/
def safeDigest (c : List (Nat × Word)) : Nat :=
  crc32c ((safeAddrs.map (fun a => leBytes 4 ((dget resetWord c a).toNat &&& safeMask a))).flatten)

/-- The active configuration; empty in NOCONFIG. -/
def State.safeCfg (s : State) : List (Nat × Word) := s.safe.act.getD []

/-- The safety partition (R364): of the active configuration, else as the register names it. -/
def State.safePart (s : State) : Nat := cfgFld (s.safe.act.getD s.safeRegs) R.SAFE_CFG F.SAFE_CFG_PART

/-- The safety partition is STARTING or RUNNING. -/
def State.safeBusy (s : State) : Bool := s.pstate s.safePart == psStarting || s.pstate s.safePart == psRunning

/-- The session has unlocked the configuration (R389). -/
def State.safeUnlocked (s : State) : Bool := s.safe.unlock.isSome

/-- The low 32 bits of the SHA-384 of a session's certificate. -/
def State.certOf (s : State) (sess : Nat) : Word := match tget s.moor.sessions sess with
  | some x => x.cert
  | none => 0

/-- Kinds of the change log (R390). Their codes are the order of R390 (log entry 20). -/
abbrev slAPPLIED : Nat := 0
abbrev slAUTH : Nat := 1
abbrev slSWAP : Nat := 2
abbrev slPASSWORD_SET : Nat := 3
abbrev slUNLOCK_FAILED : Nat := 4
abbrev slLOCKOUT : Nat := 5
abbrev slACK : Nat := 6
abbrev slACK_REFUSED : Nat := 7

/-- An entry of the change log; a full log overwrites its oldest (R390). -/
def State.safeLog (s : State) (kind : Nat) (v cert : Word) : State :=
  let e : SafeLogEnt := ⟨s.absLo, kind, v, cert⟩
  let full : Bool := 256 ≤ s.safe.log.length
  let l := (if full then s.safe.log.drop 1 else s.safe.log) ++ [e]
  let s : State := { s with safe := { s.safe with log := l } }
  let s := if full then s.incFld R.SAFE_LOG_STAT F.SAFE_LOG_STAT_OVERWRITTEN 65535 else s
  s.setFld R.SAFE_LOG_STAT F.SAFE_LOG_STAT_ENTRIES l.length

/-- An allocated image of partition p at a location that meets R372, R383 or R386: SAFETY, the direction, LAYOUT BIT, the
source, and its points. -/
def State.safeImg (s : State) (p loc : Nat) (out : Bool) (source n : Nat) (exact' : Bool) : Bool :=
  s.dirValid loc && s.dirOwner loc == p && s.dirKind loc == kIMAGE && s.dirFlag loc fSAFETY && s.dirFlag loc fOUTPUT == out &&
    (match tget (s.part p).hdrs loc with
      | some h => h.layout == lyBIT && h.source == source && (if exact' then h.npoints == n else n ≤ h.npoints)
      | none => false)

/-- The images a configuration names are as they must be. -/
def State.safeImagesOk (s : State) (c : List (Nat × Word)) : Bool :=
  let p := cfgFld c R.SAFE_CFG F.SAFE_CFG_PART
  s.safeImg p (cfgFld c R.SAFE_IMG F.SAFE_IMG_IN_LOC) false 0 48 false &&
    s.safeImg p (cfgFld c R.SAFE_IMG F.SAFE_IMG_OUT_LOC) true 0 9 false &&
    (List.range 32).all (fun i =>
      (!cfgFlag c (R.SAFE_TX_CFG i) F.SAFE_TX_CFG_VALID ||
        s.safeImg p (cfgFld c (R.SAFE_TX_CFG i) F.SAFE_TX_CFG_LOC) true 0 1 false) &&
      (!cfgFlag c (R.SAFE_RX_CFG i) F.SAFE_RX_CFG_VALID ||
        s.safeImg p (cfgFld c (R.SAFE_RX_CFG i) F.SAFE_RX_CFG_LOC) false 1 32 true))

/-- `lo ≤ n ≤ hi`. -/
def inRange (lo n hi : Nat) : Bool := lo ≤ n && n ≤ hi

/-- Every field of a configuration lies in its range. -/
def safeRangeOk (c : List (Nat × Word)) : Bool :=
  inRange 1 (cfgFld c R.SAFE_CFG F.SAFE_CFG_T_DEG) 4320 &&
  (List.range 4).all (fun t => inRange 10 (cfgFld c (R.SAFE_TP t) F.SAFE_TP_GAP) 15 &&
    inRange 4 (cfgFld c (R.SAFE_TP t) F.SAFE_TP_PERIOD) 4800) &&
  (List.range 16).all (fun i =>
    inRange 2 (cfgFld c (R.SAFE_SI_CFG i) F.SAFE_SI_CFG_FILTER) 255 && cfgFld c (R.SAFE_SI_CFG i) F.SAFE_SI_CFG_TP ≤ 4 &&
    (i % 2 == 1 || (inRange 1 (cfgFld c (R.SAFE_SI_CFG i) F.SAFE_SI_CFG_DISC) 1000 &&
      cfgFld c (R.SAFE_SI_CFG i) F.SAFE_SI_CFG_MODE != 3)) &&
    inRange 1 (cfgFld c (R.SAFE_SI_CHAT i) F.SAFE_SI_CHAT_WIN) 4800 && cfgFld c (R.SAFE_SI_CHAT i) F.SAFE_SI_CHAT_K != 1) &&
  (List.range 8).all (fun o => inRange 10 (cfgFld c (R.SAFE_SQ_CFG o) F.SAFE_SQ_CFG_T_EDM) 500 &&
    cfgFld c (R.SAFE_SQ_CFG o) F.SAFE_SQ_CFG_FB ≤ 8) &&
  (List.range 32).all (fun i => inRange 3 (cfgFld c (R.SAFE_RX_WD i) F.SAFE_RX_WD_T_WD) 4800)

/-- The check and, if it passes, the hand-over of the configuration to the next tick (R388). `cert` is the session's. -/
def State.safeCheck (s : State) (cert : Word) : State :=
  let c := s.safeRegs
  let e := if !safeRangeOk c then 4 else if !s.safeImagesOk c then 3 else 0
  let s := s.setFld R.SAFE_STAT F.SAFE_STAT_APPLY_ERR e
  if e = 0 then { s with safe := { s.safe with next := some (c, cert) } } else s

/-- APPLY by a SAFETY session: LOCKED without an unlock, BUSY while the safety partition is STARTING or RUNNING. -/
def State.safeApply (s : State) (sess : Nat) : State :=
  if !s.safeUnlocked then s.setFld R.SAFE_STAT F.SAFE_STAT_APPLY_ERR 2
  else if s.safeBusy then s.setFld R.SAFE_STAT F.SAFE_STAT_APPLY_ERR 1
  else s.safeCheck (s.certOf sess)

/-- LOCK ends the unlock (R389). -/
def State.safeLock (s : State) : State := { s with safe := { s.safe with unlock := none } }

/-- A SAFETY write to an RW field of the SAFE block (R388); `false` where it is discarded. -/
def State.safeCfgWrite (s : State) (a : Nat) (w : Word) : State :=
  if !s.safeUnlocked || s.safeBusy then s.event Ev.SAFE_CFG_BUSY
  else
    let m := w32 (safeMask a)
    s.setReg a ((s.reg a &&& ~~~ m) ||| (w &&& m))

/-- APPLY. -/
def execSafeApply (sess : BitVec 32) (s : State) : Out := s.onCore (fun s => s.safeApply sess.toNat)
/-- LOCK. -/
def execSafeLock (_sess : BitVec 32) (s : State) : Out := s.onCore (fun s => s.safeLock)
/-- SAFE_CFG_WRITE. -/
def execSafeCfgWrite (_sess a : BitVec 32) (w : Word) (s : State) : Out :=
  s.onCore (fun s => if safeMask a.toNat = 0 then s else s.safeCfgWrite a.toNat w)

/-- The configuration becomes active at cycle 0: every fault and count starts from its reset state (R388). -/
def State.safeActivate (s : State) : State := match s.safe.next with
  | none => s
  | some (c, cert) =>
    let fresh := (List.range 16).map (fun i => (i, { SafeIn.reset with edge := (s.safeIn i).edge }))
    let st := { s.safe with act := some c, next := none, ins := fresh, outs := [], rx := [], miss := [], point8 := false, ackDue := false }
    let s : State := { s with safe := st, pins := { s.pins with sq := [] } }
    let s := ((s.setFld R.SAFE_STAT F.SAFE_STAT_CAUSE 0).setFld R.SAFE_STAT F.SAFE_STAT_MISSES 0).setReg R.SAFE_DIGEST (w32 (safeDigest c))
    let s := (List.range 16).foldl (fun (s : State) i =>
      ((s.setFld (R.SAFE_SI_STAT i) F.SAFE_SI_STAT_FAULT 0).setFld (R.SAFE_SI_STAT i) F.SAFE_SI_STAT_DCNT 0).setFld (R.SAFE_SI_STAT i)
        F.SAFE_SI_STAT_TRANS 0) s
    let s := (List.range 8).foldl (fun (s : State) o => s.setReg (R.SAFE_SQ_STAT o) 0) s
    let s := (List.range 32).foldl (fun (s : State) k => s.setReg (R.SAFE_RX_STAT k)
      (F.SAFE_RX_STAT_STATE.put 0 (b2n (cfgFlag c (R.SAFE_RX_CFG k) F.SAFE_RX_CFG_VALID)))) s
    s.safeLog slAPPLIED (w32 (safeDigest c)) cert

/-! ### Global faults (R365, R378) -/

abbrev gfWATCHDOG : Nat := 1
abbrev gfCLK_TICK : Nat := 2
abbrev gfSTUCK_ON : Nat := 3
abbrev gfIMAGE : Nat := 4
abbrev gfMONITOR : Nat := 5

def State.safeCause (s : State) : Nat := s.fld R.SAFE_STAT F.SAFE_STAT_CAUSE

/-- Every safety output is switched off. -/
def State.safeAllOff (s : State) : State :=
  { s with safe := { s.safe with outs := s.safe.outs.map (fun e => (e.1, { e.2 with drive := false })) },
           pins := { s.pins with sq := [] } }

/-- A global fault: the clock-independent path switches the outputs off and the fault is logged. A later cause while one
is latched keeps the first. -/
def State.safeGlobal (s : State) (cause : Nat) : State :=
  if s.safe.act.isNone || s.safeCause != 0 then s
  else ((s.setFld R.SAFE_STAT F.SAFE_STAT_CAUSE cause).safeAllOff).event Ev.SAFE_GLOBAL_FAULT 0xFF cause

/-! ### Inputs (R366 to R371) -/

abbrev siSTUCK : Nat := 1
abbrev siCROSS : Nat := 2
abbrev siDISCREPANCY : Nat := 3
abbrev siCHATTER : Nat := 4

def State.siFilt (s : State) (i : Nat) : Bool := s.flag (R.SAFE_SI_STAT i) F.SAFE_SI_STAT_FILT

/-- A latched fault of the input, or DISCREPANCY of its pair (R371). -/
def State.siBad (s : State) (i : Nat) : Bool :=
  !(s.safeIn i).lat.isEmpty || (s.safeIn (i / 2 * 2)).lat.contains siDISCREPANCY

/-- FAULT and EFF of an input's status register. -/
def State.siShow (s : State) (i : Nat) : State :=
  let s := s.setFld (R.SAFE_SI_STAT i) F.SAFE_SI_STAT_FAULT ((s.safeIn i).lat.headD 0)
  s.setFlag (R.SAFE_SI_STAT i) F.SAFE_SI_STAT_EFF (s.siFilt i && !s.siBad i)

/-- A fault of an input is latched. -/
def State.siFault (s : State) (i code : Nat) : State :=
  let x := s.safeIn i
  if x.lat.contains code then s
  else ((s.setSafeIn i { x with lat := x.lat ++ [code], winOk := if code ≤ 2 then false else x.winOk }).siShow i).siShow (i + 1 - 2 * (i % 2))

/-- A fault of an input is released. -/
def State.siFree (s : State) (i code : Nat) : State :=
  let x := s.safeIn i
  ((s.setSafeIn i { x with lat := x.lat.filter (fun f => f != code) }).siShow i).siShow (i + 1 - 2 * (i % 2))

/-- SI_FILTER_CHANGE (R366): the filtered state of SI i, or of FB i, changes. A transition of an SI is counted in
its tick. -/
def State.siChange (s : State) (fb : Bool) (i : Nat) (v : Bool) : State :=
  if fb then (if i < 8 then { s with safe := { s.safe with fb := setBit s.safe.fb i v } } else s)
  else if s.siFilt i = v then s
  else
    let x := s.safeIn i
    let s := (s.setFlag (R.SAFE_SI_STAT i) F.SAFE_SI_STAT_FILT v).setFlag (R.SAFE_SI_STAT i) F.SAFE_SI_STAT_PIN v
    (s.setSafeIn i { x with trans := s.tick.count :: x.trans }).siShow i

/-- SI_FILTER_CHANGE. -/
def execSiFilterChange (fb : Bool) (i : Fin 16) (v : Bool) (s : State) : Out := s.onCore (fun s => s.siChange fb i.val v)

/-- The check window of TPt ends (R367, R377): bit i of `zeros` says that a sample of SI i in it read 0. Inputs with test pulses
whose filtered state is active are checked. -/
def State.tpWindow (s : State) (t zeros : Nat) : State :=
  if s.safe.act.isNone || !s.boot.vso || !cfgFlag s.safeCfg (R.SAFE_TP t) F.SAFE_TP_EN then s
  else (List.range 16).foldl (fun (s : State) i =>
    let tp := cfgFld s.safeCfg (R.SAFE_SI_CFG i) F.SAFE_SI_CFG_TP
    if tp = 0 || !s.siFilt i then s
    else
      let pass := bit zeros i == (tp == t + 1)
      let s := s.setSafeIn i { s.safeIn i with winOk := pass }
      if pass then s else s.siFault i (if tp = t + 1 then siSTUCK else siCROSS)) s

/-- TP_CHECK_WINDOW. -/
def execTpCheckWindow (t : Fin 4) (zeros : BitVec 16) (s : State) : Out := s.onCore (fun s => s.tpWindow t.val zeros.toNat)

/-- Ticks of a time in ms, rounded up (R369, R376). -/
def msTicks (n : Nat) : Nat := (24 * n + 4) / 5

/-- CHATTER at a tick edge (R370). -/
def State.siChatter (s : State) (i : Nat) : State :=
  let win := cfgFld s.safeCfg (R.SAFE_SI_CHAT i) F.SAFE_SI_CHAT_WIN
  let k := cfgFld s.safeCfg (R.SAFE_SI_CHAT i) F.SAFE_SI_CHAT_K
  let x := s.safeIn i
  let tr := x.trans.filter (fun c => s.tick.count ≤ c + win)
  let n := tr.length
  let s := (s.setSafeIn i { x with trans := tr }).setFld (R.SAFE_SI_STAT i) F.SAFE_SI_STAT_TRANS (min n 255)
  if k ≠ 0 ∧ k < n then s.siFault i siCHATTER
  else if x.lat.contains siCHATTER && !s.siFilt i && n == 0 then s.siFree i siCHATTER
  else s

/-- The state of channel i in its pair: its filtered state, inactive under CHATTER (R370). -/
def State.siBase (s : State) (i : Nat) : Bool := s.siFilt i && !(s.safeIn i).lat.contains siCHATTER

def State.pairCfg (s : State) (p : Nat) : Nat := cfgFld s.safeCfg (R.SAFE_SI_CFG (2 * p)) F.SAFE_SI_CFG_MODE

/-- The discrepancy rules of pair p at a tick edge (R369). -/
def State.siPair (s : State) (p : Nat) : State :=
  let i := 2 * p
  let a := s.siBase i
  let b := if s.pairCfg p = 1 then s.siBase (i + 1) else !s.siBase (i + 1)
  let n := msTicks (cfgFld s.safeCfg (R.SAFE_SI_CFG i) F.SAFE_SI_CFG_DISC)
  if s.pairCfg p = 0 then s.setFld (R.SAFE_SI_STAT i) F.SAFE_SI_STAT_DCNT 0
  else if a != b then
    let d := min (s.fld (R.SAFE_SI_STAT i) F.SAFE_SI_STAT_DCNT + 1) 8191
    let s := s.setFld (R.SAFE_SI_STAT i) F.SAFE_SI_STAT_DCNT d
    if n < d then s.siFault i siDISCREPANCY else s
  else
    let s := s.setFld (R.SAFE_SI_STAT i) F.SAFE_SI_STAT_DCNT 0
    if !a then s.siFree i siDISCREPANCY else s

/-- The pair point is active (R369, R371). -/
def State.pairOn (s : State) (p : Nat) : Bool :=
  let b := s.siFilt (2 * p + 1)
  s.pairCfg p != 0 && s.siFilt (2 * p) && (if s.pairCfg p = 1 then b else !b) && !s.siBad (2 * p) && !s.siBad (2 * p + 1)

/-! ### Outputs (R373 to R377) -/

abbrev sqREADBACK : Nat := 1
abbrev sqOVERLOAD : Nat := 2
abbrev sqEDM : Nat := 3

def State.sqFault (s : State) (o : Nat) : Nat := s.fld (R.SAFE_SQ_STAT o) F.SAFE_SQ_STAT_FAULT

/-- The level the monitor commands of output o, and with it the pin. -/
def State.sqDrive (s : State) (o : Nat) (b : Bool) : State :=
  let s := s.setSafeOut o { s.safeOut o with drive := b }
  let l := s.pins.sq.filter (fun n => n != o)
  { s with pins := { s.pins with sq := if b then l ++ [o] else l } }

/-- A fault of output o: the first one stands, and the output is commanded off. -/
def State.sqFail (s : State) (o code : Nat) : State :=
  if s.sqFault o = 0 then (s.setFld (R.SAFE_SQ_STAT o) F.SAFE_SQ_STAT_FAULT code).sqDrive o false else s

/-- SQ_READBACK_FAULT (R374, R377): the pin has differed from the command for 500 µs, with VSO_IN connected. -/
def State.sqReadback (s : State) (o : Nat) : State :=
  if s.safe.act.isNone || !s.boot.vso then s
  else
    let on := (s.safeOut o).drive
    let s := s.setFlag (R.SAFE_SQ_STAT o) F.SAFE_SQ_STAT_PIN (!on)
    if on then s.sqFail o sqREADBACK else s.safeGlobal gfSTUCK_ON

/-- SQ_READBACK_FAULT. -/
def execSqReadbackFault (o : Fin 8) (s : State) : Out := s.onCore (fun s => s.sqReadback o.val)

/-- SQ_SWITCH_OFF_TEST (R374): output o is tested in its tick while it is energised; a pin that did not open is STUCK_ON. -/
def State.sqTest (s : State) (o : Nat) (opened : Bool) : State :=
  if s.safe.act.isSome && s.boot.vso && cfgFlag s.safeCfg (R.SAFE_SQ_CFG o) F.SAFE_SQ_CFG_TEST_EN && (s.safeOut o).drive &&
      s.tickNo == 600 * o + 300 && !opened then s.safeGlobal gfSTUCK_ON
  else s

/-- SQ_SWITCH_OFF_TEST. -/
def execSqSwitchOffTest (o : Fin 8) (opened : Bool) (s : State) : Out := s.onCore (fun s => s.sqTest o.val opened)

/-- SQ_OVERLOAD (R375, R78): the output switches off and the overload is logged. -/
def State.sqOverload (s : State) (o : Nat) : State :=
  if s.safe.act.isNone || !s.boot.vso then s else (s.sqFail o sqOVERLOAD).event Ev.SQ_OVERLOAD 0xFF o

/-- SQ_OVERLOAD. -/
def execSqOverload (o : Fin 8) (s : State) : Out := s.onCore (fun s => s.sqOverload o.val)

/-- The feedback of output o contradicts its command (R376). -/
def State.edmBad (s : State) (o : Nat) : Bool :=
  let fb := cfgFld s.safeCfg (R.SAFE_SQ_CFG o) F.SAFE_SQ_CFG_FB
  fb != 0 && bit s.safe.fb (fb - 1) == (s.safeOut o).drive

/-- EDM of output o at a tick edge (R376), suspended without VSO_IN (R377). -/
def State.sqEdm (s : State) (o : Nat) : State :=
  if !s.boot.vso then s.setSafeOut o { s.safeOut o with edm := 0 }
  else
    let n := if s.edmBad o then (s.safeOut o).edm + 1 else 0
    let s := s.setSafeOut o { s.safeOut o with edm := n }
    if msTicks (cfgFld s.safeCfg (R.SAFE_SQ_CFG o) F.SAFE_SQ_CFG_T_EDM) < n then s.sqFail o sqEDM else s

def State.sqLocked (s : State) (o : Nat) : Bool := s.flag (R.SAFE_SQ_STAT o) F.SAFE_SQ_STAT_INTERLOCK

/-- Output o is available (R372). -/
def State.sqReady (s : State) (o : Nat) : Bool :=
  s.safe.act.isSome && cfgFlag s.safeCfg (R.SAFE_SQ_CFG o) F.SAFE_SQ_CFG_EN && s.sqFault o == 0 && !s.sqLocked o && s.boot.vso &&
    s.safeCause == 0 && !s.pins.sqHeld

/-- The outputs follow their commands at a tick edge (R373). -/
def State.sqEdge (s : State) : State :=
  (List.range 8).foldl (fun (s : State) o =>
    s.sqDrive o (s.sqReady o && s.flag (R.SAFE_SQ_STAT o) F.SAFE_SQ_STAT_CMD)) s

/-- Every output carries the interlock (R377). -/
def State.sqLockAll (s : State) : State :=
  (List.range 8).foldl (fun (s : State) o => s.setFlag (R.SAFE_SQ_STAT o) F.SAFE_SQ_STAT_INTERLOCK true) s

/-- VSO_IN has been disconnected (R67, R377). -/
def State.vsoOff (s : State) : State :=
  let s : State := { s with boot := { s.boot with vso := false } }
  (s.setFlag R.SAFE_STAT F.SAFE_STAT_VSO_LOST true).safeAllOff

/-- VSO_IN is connected (R67); the release of VSO_LOST leaves every output its interlock (R377). -/
def State.vsoOn (s : State) : State :=
  let s : State := { s with boot := { s.boot with vso := true } }
  if s.flag R.SAFE_STAT F.SAFE_STAT_VSO_LOST then (s.setFlag R.SAFE_STAT F.SAFE_STAT_VSO_LOST false).sqLockAll else s

/-! ### Acknowledgement (R379, R371, R387) -/

/-- The cause of the latched global fault remains. -/
def State.causeRemains (s : State) : Bool :=
  let c := s.safeCause
  if c = gfWATCHDOG then s.safe.miss.any (fun e => cfgFld s.safeCfg R.SAFE_CFG F.SAFE_CFG_SWD_TOL < e.2)
  else if c = gfCLK_TICK then s.safe.tickBad
  else if c = gfSTUCK_ON then (List.range 8).any (fun o => s.flag (R.SAFE_SQ_STAT o) F.SAFE_SQ_STAT_PIN && !(s.safeOut o).drive)
  else if c = gfIMAGE then !s.safeImagesOk s.safeCfg
  else s.safe.monBad

/-- The value of an ACK or ACK_REFUSED entry: class and index, as in SAFE_ACK. -/
def ackValue (cls idx : Nat) : Word := w32 (cls * 65536 + idx)

def State.ackDone (s : State) (cls idx : Nat) (cert : Word) : State := s.safeLog slACK (ackValue cls idx) cert
def State.ackRefused (s : State) (cls idx : Nat) (cert : Word) : State :=
  (s.safeLog slACK_REFUSED (ackValue cls idx) cert).event Ev.ACK_REFUSED

/-- STATE of a receive connection from what is latched and accepted (R385 to R387). -/
def State.rxShow (s : State) (c : Nat) : State :=
  let x := s.safeRx c
  let a := R.SAFE_RX_STAT c
  let wd := cfgFld s.safeCfg (R.SAFE_RX_WD c) F.SAFE_RX_WD_T_WD
  let v := if !cfgFlag s.safeCfg (R.SAFE_RX_CFG c) F.SAFE_RX_CFG_VALID then 0
    else if x.differ then 5 else if x.expired then 6 else if x.last.isNone then 1
    else if s.fld a F.SAFE_RX_STAT_STATE = 4 ∧ wd ≤ s.tick.count - x.since then 4
    else if x.fog.isSome then 3 else 2
  let s := s.setFld a F.SAFE_RX_STAT_STATE v
  s.setFld a F.SAFE_RX_STAT_FOG_MIN (match x.fog with
    | some t => min ((s.tick.count - t) / 288000) 4320
    | none => 0)

/-- An acknowledgement of one target. -/
def State.safeAck1 (s : State) (cls idx : Nat) (cert : Word) : State :=
  if s.safe.act.isNone then s
  else match cls with
  | 0 =>
    if s.safeCause = 0 then s
    else if !s.running s.safePart || s.causeRemains then s.ackRefused 0 idx cert
    else ((s.setFld R.SAFE_STAT F.SAFE_STAT_CAUSE 0).sqLockAll).ackDone 0 idx cert
  | 1 =>
    let x := s.safeIn idx
    if idx < 16 && (x.lat.contains siSTUCK || x.lat.contains siCROSS) then
      if x.edge && !x.winOk then s.ackRefused 1 idx cert
      else ((s.siFree idx siSTUCK).siFree idx siCROSS).ackDone 1 idx cert
    else s
  | 2 =>
    if idx < 8 && s.sqFault idx != 0 then
      let f := s.sqFault idx
      let pin := s.flag (R.SAFE_SQ_STAT idx) F.SAFE_SQ_STAT_PIN
      if (f == sqREADBACK && pin != (s.safeOut idx).drive) || (f == sqEDM && s.edmBad idx) then s.ackRefused 2 idx cert
      else
        let s := (s.setFld (R.SAFE_SQ_STAT idx) F.SAFE_SQ_STAT_FAULT 0).setFlag (R.SAFE_SQ_STAT idx) F.SAFE_SQ_STAT_INTERLOCK true
        (s.setSafeOut idx { s.safeOut idx with edm := 0 }).ackDone 2 idx cert
    else s
  | _ =>
    let x := s.safeRx idx
    if x.differ || x.expired then
      let remains := (x.differ && x.split) || (x.expired && decide (x.run < 16))
      let y := { x with differ := x.differ && x.split, expired := x.expired && decide (x.run < 16) }
      let s := (s.setSafeRx idx y).rxShow idx
      if remains then s.ackRefused 3 idx cert else s.ackDone 3 idx cert
    else s

/-- An acknowledgement of every target (R379, point 8). -/
def State.safeAckAll (s : State) : State :=
  let s := s.safeAck1 0 0 0
  let s := (List.range 16).foldl (fun (s : State) i => s.safeAck1 1 i 0) s
  let s := (List.range 8).foldl (fun (s : State) o => s.safeAck1 2 o 0) s
  (List.range 32).foldl (fun (s : State) c => s.safeAck1 3 c 0) s

/-- SAFE_ACK by a SAFETY session. -/
def execSafeAck (sess : BitVec 32) (cls : Fin 4) (idx : Fin 32) (s : State) : Out :=
  s.onCore (fun s => s.safeAck1 cls.val idx.val (s.certOf sess.toNat))

/-! ### Commit, safe cycle and watchdog (R373, R379, R380) -/

/-- The effective value of a point of an output image at the last commit. -/
def State.effBit (s : State) (loc i : Nat) : Bool := match s.effPoint loc i with
  | some e => e.value.getLsbD 0
  | none => false

/-- SAFE takes the commit: commands, the release of interlocks, a rising edge of point 8, and the misses of the due
safety entries. -/
def State.safeCommit (s : State) : State :=
  if s.safe.act.isNone then s
  else
    let loc := cfgFld s.safeCfg R.SAFE_IMG F.SAFE_IMG_OUT_LOC
    let p := s.safePart
    let s := (List.range 8).foldl (fun (s : State) o =>
      let c := s.effBit loc o
      let s := s.setFlag (R.SAFE_SQ_STAT o) F.SAFE_SQ_STAT_CMD c
      if !c && s.sqFault o == 0 then s.setFlag (R.SAFE_SQ_STAT o) F.SAFE_SQ_STAT_INTERLOCK false else s) s
    let ack := s.effBit loc 8
    let s : State := { s with safe := { s.safe with ackDue := s.safe.ackDue || (ack && !s.safe.point8), point8 := ack } }
    if s.running p then
      let due := (s.validTasks s.bankB).filter (fun n => s.taskKind s.bankB n == 2 && s.taskPart s.bankB n == p && s.due n)
      let ended := (s.part p).endedNow
      let miss := due.map (fun n => (n, if ended.contains n then 0 else tgetD s.safe.miss n 0 + 1))
      let tab := miss.foldl (fun (t : List (Nat × Nat)) e => tput t e.1 e.2) s.safe.miss
      let top := miss.foldl (fun (m : Nat) e => max m e.2) 0
      let s : State := { s with safe := { s.safe with miss := tab } }
      s.setFld R.SAFE_STAT F.SAFE_STAT_MISSES (min top 255)
    else
      let s : State := { s with safe := { s.safe with miss := [] } }
      s.setFld R.SAFE_STAT F.SAFE_STAT_MISSES 0

/-- SAFE_WATCHDOG (R380): more than SWD_TOL consecutive misses of a safety entry while the partition is RUNNING. -/
def execSafeWatchdog (s : State) : Out :=
  s.onCore (fun s =>
    if s.running s.safePart && s.safe.miss.any (fun e => decide (cfgFld s.safeCfg R.SAFE_CFG F.SAFE_CFG_SWD_TOL < e.2)) then
      s.safeGlobal gfWATCHDOG
    else s)

/-- SAFE_MONITOR_SELFTEST (R378). -/
def execSafeMonitorSelftest (ok : Bool) (s : State) : Out :=
  s.onCore (fun s =>
    let s : State := { s with safe := { s.safe with monBad := !ok } }
    if ok then s else s.safeGlobal gfMONITOR)

/-! ### Telegrams (R382 to R387) -/

/-- One bit step of the safety CRC. -/
def safeCrcBit (c : Nat) : Nat := if c % 2 = 1 then (c / 2) ^^^ 0xC8DF352F else c / 2
/-- One byte of the safety CRC. -/
def safeCrcByte (c b : Nat) : Nat :=
  safeCrcBit (safeCrcBit (safeCrcBit (safeCrcBit (safeCrcBit (safeCrcBit (safeCrcBit (safeCrcBit (c ^^^ b))))))))
/-- The safety CRC (R382): polynomial 0xF4AC_FB13 reflected. -/
def safeCrc (bs : List Byte) : Nat := bs.foldl (fun c b => safeCrcByte c b.toNat) 0xFFFFFFFF ^^^ 0xFFFFFFFF

/-- The telegram of transmit connection c (R382, R383). -/
def State.telegram (s : State) (c : Nat) : List Byte :=
  let k := s.safeCfg
  let loc := cfgFld k (R.SAFE_TX_CFG c) F.SAFE_TX_CFG_LOC
  let first := cfgFld k (R.SAFE_TX_CFG c) F.SAFE_TX_CFG_FIRST
  let quiet := s.safeCause != 0 || !s.running s.safePart
  let n := match tget (s.part s.safePart).hdrs loc with
    | some h => h.npoints
    | none => 0
  let bits (f : Nat → Bool) : Nat := (List.range 32).foldl (fun v i => if f i then setBit v i true else v) 0
  let data := if quiet then 0 else bits (fun i => decide (first + i < n) && s.effBit loc (first + i))
  let valid := if quiet then 0 else bits (fun i => decide (first + i < n))
  let b := beBytes 1 (s.fld R.HAW_STAT F.HAW_STAT_ADDR) ++ beBytes 1 (b2n (s.safeCause != 0)) ++
    beBytes 1 (cfgFld k (R.SAFE_TX_CFG c) F.SAFE_TX_CFG_CONN) ++ [0] ++ beBytes 2 s.safe.txCount ++ beBytes 4 s.absLo.toNat ++
    beBytes 4 data ++ beBytes 4 valid
  b ++ beBytes 4 (safeCrc (b ++ beBytes 4 (cfgFld k (R.SAFE_TX_SIG c) F.SAFE_TX_SIG_SIG)))

/-- The telegrams of a launch, by rising connection; COUNT grows by one each tick. -/
def State.telegrams (s : State) : List (List Byte) × State :=
  if s.safe.act.isNone then ([], s)
  else
    let s : State := { s with safe := { s.safe with txCount := (s.safe.txCount + 1) % 65536 } }
    ((List.range 32).filter (fun c => cfgFlag s.safeCfg (R.SAFE_TX_CFG c) F.SAFE_TX_CFG_VALID) |>.map (fun c => s.telegram c), s)

/-- A copy that has passed the checks of R384: ring, COUNT, FLAGS, DATA, VALID. -/
structure RxCopy where
  ring : Nat
  count : Nat
  flags : Nat
  data : Word
  valid : Word
  deriving DecidableEq, Repr

/-- A copy addressed to connection c by SRC and CONN. -/
def State.rxNamed (s : State) (c : Nat) (b : List Byte) : Bool :=
  beNat (sub b 0 1) == cfgFld s.safeCfg (R.SAFE_RX_CFG c) F.SAFE_RX_CFG_SRC &&
    beNat (sub b 2 1) == cfgFld s.safeCfg (R.SAFE_RX_CFG c) F.SAFE_RX_CFG_CONN

/-- The checks of R384 on one copy at connection c; the tick two landings before this one had TSTAMP's number. The first copy
a connection accepts has no COUNT to follow. -/
def State.rxCopy (s : State) (c : Nat) (e : Nat × List Byte) : Option RxCopy :=
  let b := e.2
  let count := beNat (sub b 4 2)
  let wd := cfgFld s.safeCfg (R.SAFE_RX_WD c) F.SAFE_RX_WD_T_WD
  let step : Bool := match (s.safeRx c).last with
    | none => true
    | some l => inRange 1 ((count + 65536 - l) % 65536) wd
  let crc := safeCrc (sub b 0 18 ++ beBytes 4 (cfgFld s.safeCfg (R.SAFE_RX_SIG c) F.SAFE_RX_SIG_SIG)) == beNat (sub b 18 4)
  if b.length = 22 ∧ crc ∧ s.rxNamed c b ∧ step ∧ beNat (sub b 6 4) = s.tick.before2 % 2 ^ 32 then
    some ⟨e.1, count, beNat (sub b 1 1), w32 (beNat (sub b 10 4)), w32 (beNat (sub b 14 4))⟩
  else none

/-- The newest COUNT among the copies of a landing. -/
def newestCount (last : Option Nat) (cs : List RxCopy) : Nat :=
  let l := last.getD 0
  cs.foldl (fun m (x : RxCopy) => if (m + 65536 - l) % 65536 < (x.count + 65536 - l) % 65536 then x.count else m) ((cs.map (fun x => x.count)).headD 0)

/-- Connection c at a landing (R384, R387). -/
def State.rxLand (s : State) (c : Nat) : State :=
  if !cfgFlag s.safeCfg (R.SAFE_RX_CFG c) F.SAFE_RX_CFG_VALID then s
  else
    let named := s.safe.inbox.filter (fun e => s.rxNamed c e.2 && beNat (sub e.2 6 4) != s.tick.before1 % 2 ^ 32)
    let good := named.filterMap (fun e => s.rxCopy c e)
    let s := s.setFld (R.SAFE_RX_STAT c) F.SAFE_RX_STAT_DROP
      (satAdd (s.fld (R.SAFE_RX_STAT c) F.SAFE_RX_STAT_DROP) (named.length - good.length) 255)
    let x := s.safeRx c
    let n := newestCount x.last good
    let a := good.find? (fun (y : RxCopy) => y.count == n && y.ring == 0)
    let b := good.find? (fun (y : RxCopy) => y.count == n && y.ring == 1)
    let next := x.last == some ((n + 65535) % 65536)
    let s := match a, b with
      | none, none => s
      | some u, some v =>
        if u.data = v.data ∧ u.valid = v.valid ∧ u.flags = v.flags then
          let run := if next then x.run + 1 else 1
          s.setSafeRx c { x with last := some n, since := s.tick.count, data := u.data, valid := u.valid, run := run,
                                 fog := if 16 ≤ run then none else x.fog, split := false }
        else s.setSafeRx c { x with last := some n, run := 0, differ := true, split := true }
      | some u, none | none, some u =>
        s.setSafeRx c { x with last := some n, since := s.tick.count, data := u.data, valid := u.valid, run := 0,
                               fog := some (x.fog.getD s.tick.count), split := false }
    s.rxShow c

/-- SAFE_RX_TIMEOUT (R385): no copy accepted for T_wd ticks. -/
def execSafeRxTimeout (c : Fin 32) (s : State) : Out :=
  s.onCore (fun s =>
    let x := s.safeRx c.val
    let st := s.fld (R.SAFE_RX_STAT c.val) F.SAFE_RX_STAT_STATE
    if (st == 2 || st == 3) && decide (x.since + cfgFld s.safeCfg (R.SAFE_RX_WD c.val) F.SAFE_RX_WD_T_WD ≤ s.tick.count) then
      s.setFld (R.SAFE_RX_STAT c.val) F.SAFE_RX_STAT_STATE 4
    else s)

/-- FOG_EXPIRED (R387): fog mode has lasted T_deg minutes. -/
def execFogExpired (c : Fin 32) (s : State) : Out :=
  s.onCore (fun s =>
    let x := s.safeRx c.val
    match x.fog with
    | some t =>
      if t + 288000 * cfgFld s.safeCfg R.SAFE_CFG F.SAFE_CFG_T_DEG ≤ s.tick.count then
        (s.setSafeRx c.val { x with expired := true }).rxShow c.val
      else s
    | none => s)

/-- A connection carries DATA (R386): it is OK or in fog mode. -/
def State.rxLive (s : State) (c : Nat) : Bool :=
  let st := s.fld (R.SAFE_RX_STAT c) F.SAFE_RX_STAT_STATE
  st == 2 || st == 3

/-- The receive connection whose image stands at a location. -/
def State.rxOf (s : State) (loc : Nat) : Option Nat :=
  if s.safe.act.isNone then none
  else (List.range 32).find? (fun c => cfgFlag s.safeCfg (R.SAFE_RX_CFG c) F.SAFE_RX_CFG_VALID &&
    cfgFld s.safeCfg (R.SAFE_RX_CFG c) F.SAFE_RX_CFG_LOC == loc)

/-- Point i of a receive image (R386). -/
def State.rxPoint (s : State) (c i : Nat) : PtIn :=
  let x := s.safeRx c
  if s.rxLive c && x.valid.getLsbD i then ⟨w32 (b2n (x.data.getLsbD i)), 0, s.absLo⟩ else ⟨0, 2, s.absLo⟩

/-! ### The tick edge and the local input image -/

/-- Point i of the local input image (R372, R371). -/
def State.safePoint (s : State) (i : Nat) : PtIn :=
  let pt (v : Bool) (q : Nat) : PtIn := ⟨w32 (b2n v), q, s.absLo⟩
  if i < 16 then (if s.siBad i then pt false 2 else pt (s.siFilt i) 0)
  else if i < 24 then pt (bit s.safe.fb (i - 16)) 0
  else if i < 32 then
    let p := i - 24
    if s.pairCfg p != 0 && (s.siBad (2 * p) || s.siBad (2 * p + 1)) then pt false 2 else pt (s.pairOn p) 0
  else if i < 40 then pt (s.flag (R.SAFE_SQ_STAT (i - 32)) F.SAFE_SQ_STAT_PIN) 0
  else if i < 48 then pt (s.sqReady (i - 40)) 0
  else pt false 2

/-- SAFE at a tick edge: the configuration handed over becomes active, inputs and pairs are judged, EDM and images are
checked, the outputs follow the last commit, the telegrams are compared and an acknowledgement of point 8 acts. `si`
and `sq` are the pins of the inputs and outputs at the edge. -/
def State.safeEdge (s : State) (si sq : Nat) : State :=
  let s := s.safeActivate
  if s.safe.act.isNone then { s with safe := { s.safe with inbox := [] } }
  else
    let s := (List.range 16).foldl (fun (s : State) i =>
      let s := s.setFlag (R.SAFE_SI_STAT i) F.SAFE_SI_STAT_PIN (bit si i)
      s.siChatter i) s
    let s := (List.range 8).foldl (fun (s : State) p => s.siPair p) s
    let s := (List.range 16).foldl (fun (s : State) i =>
      (s.setSafeIn i { s.safeIn i with edge := s.siFilt i }).siShow i) s
    let s := (List.range 8).foldl (fun (s : State) o =>
      let fb := cfgFld s.safeCfg (R.SAFE_SQ_CFG o) F.SAFE_SQ_CFG_FB
      let s := s.setFlag (R.SAFE_SQ_STAT o) F.SAFE_SQ_STAT_PIN (bit sq o)
      let s := s.setFlag (R.SAFE_SQ_STAT o) F.SAFE_SQ_STAT_FB (fb != 0 && bit s.safe.fb (fb - 1))
      s.sqEdm o) s
    let s := if s.safeImagesOk s.safeCfg then s else s.safeGlobal gfIMAGE
    let s := s.sqEdge
    let s := (List.range 32).foldl (fun (s : State) c => s.rxLand c) s
    let s : State := { s with safe := { s.safe with inbox := s.safe.inbox.filter (fun e => beNat (sub e.2 6 4) == s.tick.before1 % 2 ^ 32) } }
    if s.safe.ackDue then
      let s : State := { s with safe := { s.safe with ackDue := false } }
      s.safeAckAll
    else s

/-- A read of SAFE_STAT shows UNLOCKED, FOG and STATE as they stand (R380, R387, R389). -/
def State.safeStat (s : State) (w : Word) : Word :=
  let st := if s.safe.act.isNone then 0 else if s.safeCause ≠ 0 then 3 else if s.running s.safePart then 2 else 1
  let fog := s.safe.rx.any (fun e => e.2.fog.isSome)
  F.SAFE_STAT_STATE.put (F.SAFE_STAT_FOG.put (F.SAFE_STAT_UNLOCKED.put w (b2n s.safeUnlocked)) (b2n fog)) st

/-! ### Password (R389) -/

/-- A password of 12 to 64 printable ASCII characters. -/
def passwordOk (b : List Byte) : Bool := inRange 12 b.length 64 && b.all (fun c => inRange 0x20 c.toNat 0x7E)

/-- The presented password is the one set. -/
def State.passwordFits (s : State) (b : List Byte) : Bool := s.safe.hash == Config.pwHash s.safe.salt b

/-- A failed presentation: the fifth in a row sets LOCKOUT. -/
def State.presentFailed (s : State) (cert : Word) : State :=
  let n := s.safe.fails + 1
  let s : State := { s with safe := { s.safe with fails := n } }
  let s := s.safeLog slUNLOCK_FAILED 0 cert
  if 5 ≤ n then
    let s : State := { s with safe := { s.safe with fails := 0, lockedAt := some s.tick.count } }
    (s.setFlag R.SAFE_STAT F.SAFE_STAT_LOCKOUT true).safeLog slLOCKOUT 0 cert
  else s

def State.nopw (s : State) : Bool := s.flag R.SAFE_STAT F.SAFE_STAT_NOPW

/-- A password is set. -/
def State.setPassword (s : State) (b : List Byte) (cert : Word) : State :=
  let s : State := { s with safe := { s.safe with hash := Config.pwHash s.safe.salt b, fails := 0 } }
  (s.setFlag R.SAFE_STAT F.SAFE_STAT_NOPW false).safeLog slPASSWORD_SET 0 cert

/-- SAFE-UNLOCK: the status of its response (R536) and the state. -/
def State.safeUnlock (s : State) (sess : Nat) (b : List Byte) : Nat × State :=
  if s.nopw || s.safe.lockedAt.isSome then (3, s)
  else if s.passwordFits b then
    (0, { s with safe := { s.safe with unlock := some (sess, s.tick.count), fails := 0 } })
  else (7, s.presentFailed (s.certOf sess))

/-- SAFE-PASSWORD: sets the first password in NOPW with an empty old one, else changes it. -/
def State.safePassword (s : State) (sess : Nat) (old new' : List Byte) : Nat × State :=
  if s.safe.lockedAt.isSome then (3, s)
  else if !passwordOk new' then (4, s)
  else if s.nopw then (if old.isEmpty then (0, s.setPassword new' (s.certOf sess)) else (7, s))
  else if s.passwordFits old then (0, s.setPassword new' (s.certOf sess))
  else (7, s.presentFailed (s.certOf sess))

/-- SAFE_UNLOCK_EXPIRY (R389). -/
def execSafeUnlockExpiry (s : State) : Out :=
  s.onCore (fun s => match s.safe.unlock with
    | some (_, t) => if t + 2880000 ≤ s.tick.count then s.safeLock else s
    | none => s)

/-- LOCKOUT_EXPIRY (R389). -/
def execLockoutExpiry (s : State) : Out :=
  s.onCore (fun s => match s.safe.lockedAt with
    | some t =>
      if t + 2880000 ≤ s.tick.count then
        let s : State := { s with safe := { s.safe with lockedAt := none } }
        s.setFlag R.SAFE_STAT F.SAFE_STAT_LOCKOUT false
      else s
    | none => s)

end Sys2Proof.Machine
end

