-- ==== Sys2Proof/Machine/Hawser.lean ====
section
/-!
DEFINITION. The hawser rings (chapter 17): links, beacons, lighthouse and standby, addresses, point exchange and the
management lane.
-/
namespace Sys2Proof.Machine

/-! ### Roles -/

abbrev hrNOT_JOINED : Nat := 0
abbrev hrBUOY : Nat := 1
abbrev hrLIGHTHOUSE : Nat := 2
abbrev hrSTANDBY : Nat := 3

def State.hawRole (s : State) : Nat := s.fld R.HAW_STAT F.HAW_STAT_ROLE
def State.hawAddr (s : State) : Nat := s.fld R.HAW_STAT F.HAW_STAT_ADDR
def State.lighthouse (s : State) : Bool := s.hawRole == hrLIGHTHOUSE
/-- The unit has joined the ring: it holds its role and address of an ASSIGN, or is the lighthouse (R401, R406). -/
def State.joined (s : State) : Bool := s.hawRole != hrNOT_JOINED && (s.boot.assigned || s.lighthouse)
def State.mastStrap (s : State) : Bool := s.flag R.ID_STRAP F.ID_STRAP_MASTER
/-- WITNESS is ignored on a module with both straps set (R5). -/
def State.witStrap (s : State) : Bool := s.flag R.ID_STRAP F.ID_STRAP_WITNESS && !s.mastStrap

def State.setHaw (s : State) (f : HawSt → HawSt) : State := { s with haw := f s.haw }

/-- A management-lane packet goes out on both rings (R401, R406): its destination, what it says and its numbers. -/
def State.manage (s : State) (dst kind : Nat) (body : List Nat) : State :=
  (s.send (.mgmt dst kind body)).setHaw (fun h => { h with seq := (h.seq + 1) % 65536 })

/-- TYPE codes of the management lane (R414). -/
abbrev mtCHANGE : Nat := 3
abbrev mtLH_CONFIRM : Nat := 4
abbrev mtTWIN : Nat := 5

/-! ### Enumeration (R406, R407) -/

/-- This unit's entry of an ENUM. -/
def State.enumSelf (s : State) : EnumUnit :=
  ⟨s.boot.serial.toNat, s.haw.addr, s.haw.up, s.haw.down, s.fld R.ID_STRAP F.ID_STRAP_SLOT_ID, s.mastStrap, s.witStrap⟩

/-- The lighthouse sends ENUM on both rings. -/
def State.enumerate (s : State) : State :=
  if s.lighthouse then
    let s := (s.send (.enum 4 [s.enumSelf])).send (.enum 6 [s.enumSelf])
    s.setHaw (fun h => { h with enumAt := some s.tick.count })
  else s

/-- ENUM: ignored and logged on a buoy. -/
def execHawEnum (s : State) : Out :=
  s.onCore (fun s => if s.lighthouse then s.enumerate else s.event Ev.ENUM_IGNORED)

/-- The port by which a lane leaves that came in on H1 (ring A) or H3 (ring B). -/
def nextPort (h : Nat) : Nat := if h = 1 then 4 else 6

/-- ENUM_RECEIVED: a unit appends itself and passes the ENUM on. -/
def execEnumReceived (h : Fin 4) (units : List EnumUnit) (s : State) : Out :=
  s.onCore (fun s =>
    if (h.val = 1 ∨ h.val = 3) ∧ ¬ s.lighthouse then s.send (.enum (nextPort h.val) (units ++ [s.enumSelf])) else s)

/-- The two lists merged by serial number in ring-A order; list B runs the other way round. -/
def mergeUnits (a b : List EnumUnit) : List EnumUnit :=
  a ++ (b.reverse.filter (fun u => !a.any (fun v => v.serial == u.serial)))

/-- The unit before and after position i of a ring. -/
def ringAt (l : List EnumUnit) (i d : Nat) : Option EnumUnit := l[(i + d) % l.length]?

/-- Unit i is established: a stored neighbour is a current one (R407 step 1). -/
def established (l : List EnumUnit) (i : Nat) : Bool := match l[i]? with
  | none => false
  | some u =>
    let now := ([ringAt l i (l.length - 1), ringAt l i 1].filterMap (fun x => x)).map (fun v => v.serial)
    let kept := ([u.up, u.down].filterMap (fun x => x)).map (fun e => e.1)
    u.addr.isSome && kept.any (fun n => now.contains n)

/-- The address a neighbour stored for position i under a serial number no listed unit carries (R407 step 2). -/
def inherited (l : List EnumUnit) (i : Nat) : Option Nat :=
  let gone (e : Option (Nat × Nat)) : Option Nat := match e with
    | some (n, a) => if l.any (fun u => u.serial == n) then none else some a
    | none => none
  let before := (ringAt l i (l.length - 1)).bind (fun u => gone u.down)
  let after := (ringAt l i 1).bind (fun u => gone u.up)
  match before with
  | some a => some a
  | none => after

/-- Step 1 and step 2 take an address, or fail with ADDR_CONFLICT where it is held. -/
def takeAddr (t : List (Nat × Option Nat)) (i a : Nat) : List (Nat × Option Nat) :=
  if t.any (fun e => e.2 == some a) then t ++ [(i, none)] else t ++ [(i, some a)]

/-- The addresses decided under R407, by position: a number, or none with JOIN_ERR 1 (ADDR_CONFLICT) or 2
(ADDR_EXHAUSTED). -/
def decideAddrs (l : List EnumUnit) : List (Nat × (Option Nat × Nat)) :=
  let n := l.length
  let one := (List.range n).foldl (fun (t : List (Nat × Option Nat)) i =>
    if established l i then (match (l[i]?).bind (fun u => u.addr) with | some a => takeAddr t i a | none => t) else t) []
  let two := (List.range n).foldl (fun (t : List (Nat × Option Nat)) i =>
    if t.any (fun e => e.1 == i) then t
    else match inherited l i with
      | some a => takeAddr t i a
      | none => t) one
  let three := (List.range n).foldl (fun (t : List (Nat × (Option Nat × Nat))) i =>
    if t.any (fun e => e.1 == i) then t
    else match (List.range 64).find? (fun a => !t.any (fun e => e.2.1 == some a)) with
      | some a => t ++ [(i, (some a, 0))]
      | none => t ++ [(i, (none, 2))]) (two.map (fun e => (e.1, (e.2, if e.2.isSome then 0 else 1))))
  three

/-- The lowest address of a list. -/
def lowest (l : List Nat) : Option Nat := (List.range 64).find? (fun a => l.contains a)

/-- The ASSIGN the lighthouse decides (R404, R406, R407, R411). The first MASTER-strapped unit after the lighthouse in ring-A
order is the standby. -/
def State.decideAssign (s : State) (l : List EnumUnit) : Assign :=
  let dec := decideAddrs l
  let masters := (List.range l.length).filter (fun i => match l[i]? with
    | some u => u.master && u.serial != s.boot.serial.toNat && (tgetD dec i (none, 0)).1.isSome
    | none => false)
  let unit (i : Nat) (u : EnumUnit) : AssignUnit :=
    let d := (dec.find? (fun e => e.1 == i)).elim (none, 0) (fun e => e.2)
    let role := if d.1.isNone then hrNOT_JOINED else if u.serial = s.boot.serial.toNat then hrLIGHTHOUSE
      else if masters.head? = some i then hrSTANDBY else hrBUOY
    ⟨u.serial, d.1, d.2, role⟩
  let us := (List.range l.length).filterMap (fun i => (l[i]?).map (unit i))
  let own := ((us.find? (fun u => u.serial == s.boot.serial.toNat)).bind (fun u => u.addr)).getD s.hawAddr
  let pair := if s.flag R.TWIN_CFG F.TWIN_CFG_EN then [own, s.fld R.TWIN_CFG F.TWIN_CFG_PARTNER] else []
  let buoys := us.filter (fun u => u.role == hrBUOY)
  let addrs (p : AssignUnit → Bool) : List Nat := (buoys.filter p).filterMap (fun u => u.addr)
  let strapped := addrs (fun u => l.any (fun v => v.serial == u.serial && v.witness))
  let wit := lowest (strapped.filter (fun a => !pair.contains a))
  let take := match wit with
    | some a => some a
    | none => lowest ((addrs (fun _ => true)).filter (fun a => !pair.contains a))
  ⟨us, s.tick.abs + 48, take, wit, (List.range 64).map (fun a => (a, s.fld (R.HAW_PX_SHARE a) F.HAW_PX_SHARE_SHARE))⟩

/-- ENUM_COLLECTED: the lighthouse decides and sends ASSIGN on both rings. `la` and `lb` are the lists of ring A and
ring B, the lighthouse first. -/
def execEnumCollected (la lb : List EnumUnit) (s : State) : Out :=
  s.onCore (fun s =>
    if s.lighthouse && s.haw.enumAt.isSome then
      let a := s.decideAssign (mergeUnits la lb)
      ((s.send (.assign 4 a)).send (.assign 6 a)).setHaw (fun h => { h with enumAt := none })
    else s)

/-- The stored neighbour at distance d in an ASSIGN. -/
def assignAt (a : Assign) (i d : Nat) : Option (Nat × Nat) :=
  (a.units[(i + d) % a.units.length]?).bind (fun u => u.addr.map (fun x => (u.serial, x)))

/-- ASSIGN takes effect at this unit (R406, R407, R401, R6, R411). -/
def State.assignEffect (s : State) (a : Assign) : State :=
  match (List.range a.units.length).find? (fun i => (a.units[i]?).elim false (fun u => u.serial == s.boot.serial.toNat)) with
  | none => s
  | some i => match a.units[i]? with
    | none => s
    | some u =>
      let s : State := { s.setFld R.HAW_STAT F.HAW_STAT_UNITS a.units.length with boot := { s.boot with assigned := true } }
      let s := s.setHaw (fun h => { h with
        takeover := a.takeover, lh := (a.units.find? (fun v => v.role == hrLIGHTHOUSE)).bind (fun v => v.addr) })
      match u.addr with
      | none =>
        let s := (s.setFld R.HAW_STAT F.HAW_STAT_ROLE hrNOT_JOINED).setFld R.HAW_STAT F.HAW_STAT_JOIN_ERR u.err
        s.event Ev.NOT_JOINED 0xFF u.err
      | some x =>
        let was := s.hawRole
        let s := ((s.setFld R.HAW_STAT F.HAW_STAT_ROLE u.role).setFld R.HAW_STAT F.HAW_STAT_ADDR x).setFld R.HAW_STAT
          F.HAW_STAT_JOIN_ERR 0
        let s := s.setFld R.HAW_PX_STAT F.HAW_PX_STAT_SHARE (tgetD a.shares x 0)
        let s := s.setHaw (fun h => { h with addr := some x, up := assignAt a i (a.units.length - 1), down := assignAt a i 1 })
        let s : State := { s with keep := { s.keep with s1 := (some (x, u.role), []) } }
        let s := if s.mastStrap ∧ u.role = hrBUOY ∧ was ≠ hrBUOY then s.event Ev.MASTER_EXTRA else s
        if s.witStrap ∧ u.role = hrBUOY ∧ a.witness ≠ some x then s.event Ev.WITNESS_IDLE else s

/-- ASSIGN_EFFECT. -/
def execAssignEffect (a : Assign) (s : State) : Out := s.onCore (fun s => s.assignEffect a)

/-! ### Links (R417) -/

/-- HAWSER_LINK_DOWN. -/
def execHawserLinkDown (h : Fin 4) (s : State) : Out :=
  s.onCore (fun s =>
    if s.flag (R.HAW_LINK h.val) F.HAW_LINK_UP then
      (s.setFlag (R.HAW_LINK h.val) F.HAW_LINK_UP false).event Ev.RING_BREAK 0xFF (4 + h.val)
    else s)

/-- HAWSER_LINK_UP: the neighbour's address and whether it is joined come with its markers; the lighthouse enumerates. -/
def execHawserLinkUp (h : Fin 4) (nbr : Fin 64) (joined : Bool) (s : State) : Out :=
  s.onCore (fun s =>
    if s.flag (R.HAW_LINK h.val) F.HAW_LINK_UP then s
    else
      let s := ((s.setFlag (R.HAW_LINK h.val) F.HAW_LINK_UP true).setFld (R.HAW_LINK h.val) F.HAW_LINK_NBR nbr.val).setFlag
        (R.HAW_LINK h.val) F.HAW_LINK_NBR_JOINED joined
      let s := s.setHaw (fun x => { x with upAt := some (x.upAt.getD s.tick.count) })
      (s.event Ev.RING_REPAIRED 0xFF (4 + h.val)).enumerate)

/-! ### Beacons (R397 to R400) -/

/-- A beacon passes the checks of R398. -/
def State.beaconOk (s : State) (b : Beacon) : Bool :=
  b.chkOk && b.hops < 64 && !(s.joined && b.up == s.hawAddr) &&
    (match s.haw.top with
      | some e => (b.epoch + 256 - e) % 256 < 128
      | none => true)

/-- A full absolute tick number from its low 32 bits, the nearest at or after now. -/
def State.absFrom (s : State) (w : Word) : Nat := s.tick.abs + (w - s.absLo).toNat

/-- A step notice in the beacons (R327, R400): a unit on BEACON time takes the same step, once. -/
def State.stepNotice (s : State) (b : Beacon) : State :=
  if b.step ∧ s.beaconSource ∧ ¬ s.lighthouse ∧ s.time.step.isNone ∧
      (s.timeState = tsLOCKING ∨ s.timeState = tsLOCKED) then
    let s : State := { s with time := { s.time with step := some (b.stepNs, s.absFrom b.stepAt) } }
    s.setFlag R.TIME_STAT F.TIME_STAT_RESTEP_PEND true
  else s

/-- The UTC offset and leap flags of the beacons, on BEACON time (R325). -/
def State.beaconUtc (s : State) (b : Beacon) : State :=
  let a := R.TIME_UTC
  if b.utcValid ∧ s.beaconSource ∧ ¬ s.lighthouse ∧ (s.fld a F.TIME_UTC_OFFSET ≠ b.utcOfs % 65536 ∨ !s.flag a F.TIME_UTC_VALID ∨
      s.flag a F.TIME_UTC_LEAP61 ≠ b.leap61 ∨ s.flag a F.TIME_UTC_LEAP59 ≠ b.leap59) then
    s.setUtc b.utcOfs b.leap61 b.leap59
  else s

/-- A beacon received on H1 (ring A) or H3 (ring B) (R398, R401, R403). A candidate that accepts one with ROOT within 4800 ticks of
its first link coming up becomes standby; it joins with the ASSIGN that follows. -/
def State.beacon (s : State) (h : Nat) (b : Beacon) : State :=
  if (h ≠ 1 ∧ h ≠ 3) ∨ !s.beaconOk b then s
  else
    let s := s.setHaw (fun x => { x with beacons := x.beacons ++ [((h - 1) / 2, b)], top := some b.epoch })
    let soon : Bool := match s.haw.upAt with
      | some t => s.tick.count ≤ t + 4800
      | none => false
    let s := if b.root then s.setHaw (fun x => { x with rootAt := some s.tick.count }) else s
    let s := if b.root && s.mastStrap && !s.boot.assigned && s.hawRole == hrNOT_JOINED && soon then
        s.setFld R.HAW_STAT F.HAW_STAT_ROLE hrSTANDBY
      else s
    let own := s.fld R.HAW_STAT F.HAW_STAT_EPOCH
    let s := if b.root ∧ s.lighthouse ∧ (b.epoch + 256 - own) % 256 ≠ 0 ∧ (b.epoch + 256 - own) % 256 < 128 then
        (s.setFld R.HAW_STAT F.HAW_STAT_ROLE hrSTANDBY).event Ev.LH_DEPOSED
      else s
    (s.stepNotice b).beaconUtc b

/-- BEACON_RECEIVED. -/
def execBeaconReceived (h : Fin 4) (b : Beacon) (s : State) : Out := s.onCore (fun s => s.beacon h.val b)

/-- The beacon selected among those accepted in a tick: the lowest HOPS, ring A winning a tie. -/
def bestBeacon (l : List (Nat × Beacon)) : Option (Nat × Beacon) :=
  l.foldl (fun (m : Option (Nat × Beacon)) e => match m with
    | none => some e
    | some x => if e.2.hops < x.2.hops ∨ (e.2.hops = x.2.hops ∧ e.1 < x.1) then some e else m) none

/-- The beacons of the last tick at the landing (R398): the source, HAW_BEACON and, on a buoy, EPOCH. -/
def State.beaconLand (s : State) : State :=
  match bestBeacon s.haw.beacons with
  | none =>
    (s.incFld R.HAW_BEACON F.HAW_BEACON_LOST 255).setHaw (fun h => { h with heard := false, beacons := [] })
  | some (r, b) =>
    let a := R.HAW_BEACON
    let s := (((s.setFld a F.HAW_BEACON_HOPS b.hops).setFld a F.HAW_BEACON_UP b.src).setFlag a F.HAW_BEACON_ROOT b.root).setFld a
      F.HAW_BEACON_SRC_RING r
    let s := if s.lighthouse then s else s.setFld R.HAW_STAT F.HAW_STAT_EPOCH b.epoch
    s.setHaw (fun h => { h with source := some (r, b), heard := true, beacons := [] })

/-- The beacon this unit sends at its tick edge (R397). DELTA is a free value (log entry 21). -/
def State.ownBeacon (s : State) : Beacon :=
  let lh := s.lighthouse
  let src := s.haw.source.map (fun e => e.2)
  let u := R.TIME_UTC
  { delta := Config.beaconDelta s.free
    hops := if lh then 0 else (src.elim 63 (fun b => b.hops)) + 1
    tick := s.tickNo
    root := lh || (s.haw.heard && src.elim false (fun b => b.root))
    step := s.time.step.isSome
    utcValid := s.flag u F.TIME_UTC_VALID
    leap61 := s.flag u F.TIME_UTC_LEAP61
    leap59 := s.flag u F.TIME_UTC_LEAP59
    holdover := s.timeState == tsHOLDOVER
    rtc := s.timeState == tsRTC
    up := if lh then 0xFF else src.elim 0xFF (fun b => b.src)
    sec := s.taiSec
    stepNs := s.time.step.elim 0 (fun e => e.1)
    stepAt := s.time.step.elim 0 (fun e => w32 e.2)
    utcOfs := s.fld u F.TIME_UTC_OFFSET
    epoch := if lh then s.fld R.HAW_STAT F.HAW_STAT_EPOCH else src.elim 0 (fun b => b.epoch)
    src := s.hawAddr
    chkOk := true }

/-- Every joined unit sends a beacon on H0 and H2. -/
def State.beaconSend (s : State) : State :=
  if s.joined then ((s.send (.beacon 4 s.ownBeacon)).send (.beacon 6 s.ownBeacon)).draw else s

/-- The link delays measured in a tick (R396): half round trips in ns, by link; ASYM corrects in units of 0.1 ns. -/
def State.linkDelays (s : State) (ds : List (Nat × Nat)) : State :=
  ds.foldl (fun (s : State) e =>
    if 4 ≤ e.1 then s
    else
      let asym := (BitVec.ofNat 8 (s.fld (R.HAW_LINK e.1) F.HAW_LINK_ASYM)).toInt
      s.setFld (R.HAW_LINK e.1) F.HAW_LINK_DELAY ((e.2 : Int) + asym / 10).toNat) s

/-! ### Lighthouse and standby (R401 to R405) -/

/-- The unit becomes lighthouse and enumerates. -/
def State.becomeLighthouse (s : State) : State := (s.setFld R.HAW_STAT F.HAW_STAT_ROLE hrLIGHTHOUSE).enumerate

/-- A candidate precedes another (R401): it holds address 0 in KEEP, or has the lower serial number. -/
def precedes (a b : Nat × Bool) : Bool := if a.2 != b.2 then a.2 else a.1 < b.1

/-- LIGHTHOUSE_DECISION: a candidate that accepted no ROOT beacon within 4800 ticks of its first link coming up decides with
the other candidates, given by serial number and whether they hold address 0. The second becomes standby, a later one a
buoy. -/
def execLighthouseDecision (others : List (Nat × Bool)) (s : State) : Out :=
  s.onCore (fun s =>
    let late : Bool := match s.haw.upAt with
      | some t => t + 4800 ≤ s.tick.count
      | none => false
    if s.mastStrap && !s.lighthouse && s.hawRole != hrSTANDBY && late && s.haw.rootAt.isNone then
      let me := (s.boot.serial.toNat, s.haw.addr == some 0)
      match (others.filter (fun o => precedes o me)).length with
      | 0 => s.becomeLighthouse
      | 1 => s.setFld R.HAW_STAT F.HAW_STAT_ROLE hrSTANDBY
      | _ => s.event Ev.MASTER_EXTRA
    else s)

/-- Ticks since the last accepted ROOT beacon are at least n. -/
def State.rootSilent (s : State) (n : Nat) : Bool := match s.haw.rootAt with
  | some t => t + n ≤ s.tick.count
  | none => n ≤ s.tick.count

/-- LH_CONFIRM: the standby asks the takeover witness after 48 ticks without ROOT, and again every 480 ticks. -/
def execLhConfirm (s : State) : Out :=
  s.onCore (fun s =>
    let again : Bool := match s.haw.confirm with
      | some t => t + 480 ≤ s.tick.count
      | none => true
    match s.haw.takeover with
    | some w =>
      if s.hawRole = hrSTANDBY ∧ s.rootSilent 48 ∧ again then
        (s.manage w mtLH_CONFIRM []).setHaw (fun h => { h with confirm := some s.tick.count })
      else s
    | none => s)

/-- LH_CONFIRM_REQUEST: the takeover witness confirms only if it too has accepted no ROOT beacon for 48 ticks; it names the tick 48
ticks later. -/
def execLhConfirmRequest (src : Fin 64) (s : State) : Out :=
  s.onCore (fun s =>
    if s.haw.takeover = some s.hawAddr ∧ s.joined ∧ s.rootSilent 48 then s.manage src.val mtLH_CONFIRM [s.tick.abs + 48] else s)

/-- LH_TAKEOVER: at the tick x of the confirmation the standby acts as lighthouse with EPOCH + 1. -/
def execLhTakeover (x : Nat) (s : State) : Out :=
  s.onCore (fun s =>
    if s.hawRole = hrSTANDBY ∧ s.haw.confirm.isSome ∧ x ≤ s.tick.abs then
      let e := (s.haw.top.getD (s.fld R.HAW_STAT F.HAW_STAT_EPOCH) + 1) % 256
      let s := (s.setFld R.HAW_STAT F.HAW_STAT_EPOCH e).setHaw (fun h => { h with confirm := none, top := some e })
      s.becomeLighthouse
    else s)

/-- LH_NO_CONFIRM: no confirmation within 96 ticks. -/
def execLhNoConfirm (s : State) : Out :=
  s.onCore (fun s => match s.haw.confirm with
    | some t => if s.hawRole = hrSTANDBY ∧ t + 96 ≤ s.tick.count then s.event Ev.LH_NO_CONFIRM else s
    | none => s)

/-! ### Point exchange (R408 to R413) -/

/-- Bytes of the record of an image (R409), padded to a multiple of 8, in units of 8 bytes. -/
def recordUnits (h : ImgHdr) : Nat :=
  (16 + (if h.layout = lyBIT then (h.npoints + 7) / 8 else 4 * h.npoints) + 4 + 7) / 8

/-- An output image of partition p that a publication may bind. -/
def State.pubImage (s : State) (p loc : Nat) : Option ImgHdr :=
  if s.dirValid loc && s.dirKind loc == kIMAGE && s.dirFlag loc fOUTPUT && s.dirOwner loc == p then
    match tget (s.part p).hdrs loc with
    | some h => if h.layout = lyBIT ∨ h.layout = lyWORD then some h else none
    | none => none
  else none

/-- The record units a publication register's word costs. -/
def State.pubCost (s : State) (w : Word) : Nat :=
  if F.HAW_PUB_VALID.get w = 1 then (match s.pubImage (F.HAW_PUB_PART.get w) (F.HAW_PUB_LOC.get w) with
    | some h => recordUnits h
    | none => 0)
  else 0

/-- USED: bound record bytes, a twin's heartbeat counting 5 units (R411, R427). -/
def State.pubUsed (s : State) : Nat :=
  (List.range 256).foldl (fun n c => n + s.pubCost (s.reg (R.HAW_PUB c))) (if s.flag R.TWIN_CFG F.TWIN_CFG_EN then 5 else 0)

/-- HAW_BIND_WRITE (R408, R153): a write of HAW_PUB_n or of HAW_SUB_CTL_n. -/
def State.hawBind (s : State) (n : Nat) (subscription : Bool) (w : Word) : State :=
  let a := if subscription then R.HAW_SUB_CTL n else R.HAW_PUB (n % 256)
  let w := w &&& 0xFF000FFF
  let old := s.reg a
  let p := F.HAW_PUB_PART.get w
  let loc := F.HAW_PUB_LOC.get w
  let bad : Bool := F.HAW_PUB_VALID.get w == 1 &&
    (if subscription then (match s.inputImage p loc 1 with
        | some h => !(h.layout == lyBIT || h.layout == lyWORD)
        | none => true)
     else (s.pubImage p loc).isNone ||
       decide (s.fld R.HAW_PX_STAT F.HAW_PX_STAT_SHARE < s.pubUsed - s.pubCost old + s.pubCost w))
  if !subscription && 256 ≤ n then s
  else if bad then s.event Ev.HAW_BIND_REFUSED
  else if old ≠ w && !s.rebindOk (boundPart old) (boundPart w) then s.allotBusy (F.HAW_PUB_PART.get old) a
  else s.bindWrite a w

/-- HAW_BIND_WRITE. -/
def execHawBindWrite (n : Fin 512) (subscription : Bool) (w : Word) (s : State) : Out :=
  s.onCore (fun s => s.hawBind n.val subscription w)

/-- HAW_SHARE_WRITE (R411). -/
def State.hawShare (s : State) (a : Nat) (w : Word) : State :=
  let sum := (List.range 64).foldl (fun n b => n + (if b = a then F.HAW_PX_SHARE_SHARE.get w else s.fld (R.HAW_PX_SHARE b) F.HAW_PX_SHARE_SHARE)) 0
  if 9000 < sum then s.event Ev.HAW_SHARE_OVER else s.setFld (R.HAW_PX_SHARE a) F.HAW_PX_SHARE_SHARE (F.HAW_PX_SHARE_SHARE.get w)

/-- HAW_SHARE_WRITE. -/
def execHawShareWrite (a : Fin 64) (w : Word) (s : State) : Out := s.onCore (fun s => s.hawShare a.val w)

/-- This unit is the lower or the upper twin of its pair: its ORIGIN bit (R409, R434). -/
def State.origin (s : State) : Nat := b2n (decide (s.fld R.TWIN_CFG F.TWIN_CFG_PARTNER < s.hawAddr))

/-- The pair address: the lower of the two (R418). -/
def State.pairAddr (s : State) : Nat := min s.hawAddr (s.fld R.TWIN_CFG F.TWIN_CFG_PARTNER)

/-- The VALUE bytes of a record: bits packed, words most significant byte first (R9, R409). -/
def recordBody (h : ImgHdr) (pts : List EffPoint) : List Byte :=
  let vs := (List.range h.npoints).map (fun i => (pts[i]?).elim 0 (fun (e : EffPoint) => e.value.toNat))
  if h.layout = lyBIT then packBits 1 ((h.npoints + 7) / 8) vs else (vs.map (fun v => beBytes 4 v)).flatten

/-- Partition p is held in the twin pair of this module (R419). -/
def State.isTwin (s : State) (p : Nat) : Bool :=
  s.flag R.TWIN_CFG F.TWIN_CFG_EN && p != 0 && (s.reg (R.TWIN_PART (p / 32))).getLsbD (p % 32)

/-- The exchange record of publication channel c at a launch, if it is sent (R409, R421, R434, R551). -/
def State.pubRecord (s : State) (c : Nat) : Option ExRec :=
  let w := s.reg (R.HAW_PUB c)
  let p := F.HAW_PUB_PART.get w
  let loc := F.HAW_PUB_LOC.get w
  let x := s.part p
  let twin := s.isTwin p
  if F.HAW_PUB_VALID.get w = 0 ∨ !s.inEffect (R.HAW_PUB c) ∨ !x.served ∨ (s.running p ∧ !x.released) ∨
      (twin ∧ s.twinState ≠ twSERVING ∧ s.twinState ≠ twSOLO) then none
  else match s.pubImage p loc with
    | none => none
    | some h =>
      if s.dirState loc ≠ 0 then none
      else some {
        src := if twin then s.pairAddr else s.hawAddr
        ttl := s.fld R.HAW_STAT F.HAW_STAT_UNITS - 1
        kind := if h.layout = lyBIT then 0 else 1
        flags := b2n (!s.running p) + 2 * (if twin then s.origin else 0)
        tstamp := s.absLo
        chan := c
        npoints := h.npoints
        ident := w32 (s.dirIdent loc)
        body := recordBody h (tgetD x.eff loc [])
        crcOk := true }

/-- A record goes out on H0 and H2. -/
def State.sendRec (s : State) (r : ExRec) : State := (s.send (.exch 4 r)).send (.exch 6 r)

/-- A record of KIND 2 to 4. -/
def State.kindRec (s : State) (kind : Nat) (body : List Byte) : ExRec where
  src := s.hawAddr
  ttl := s.fld R.HAW_STAT F.HAW_STAT_UNITS - 1
  kind := kind
  flags := 0
  tstamp := s.absLo
  chan := 0
  npoints := 0
  ident := 0
  body := body
  crcOk := true

/-- The publish phase (R409, R413): one record for each channel, and each telegram as copy A and copy B. -/
def State.publish (s : State) : State :=
  if !s.joined then s.telegrams.2
  else
    let s := (List.range 256).foldl (fun (s : State) c => match s.pubRecord c with
      | some r => s.sendRec r
      | none => s) s
    let (ts, s) := s.telegrams
    ts.foldl (fun (s : State) b => s.sendRec (s.kindRec 2 b)) s

/-- A twin discards a record only if it carries the pair address with its own ORIGIN (R434). -/
def State.ownRecord (s : State) (r : ExRec) : Bool :=
  if s.flag R.TWIN_CFG F.TWIN_CFG_EN && r.src == s.pairAddr && decide (r.kind ≤ 1) then r.flags / 2 % 2 == s.origin
  else r.src == s.hawAddr

/-- EXCHANGE_RECORD_RECEIVED (R410, R413): kept for its landing and forwarded while TTL lasts. -/
def State.exchRecord (s : State) (h : Nat) (r : ExRec) : State :=
  if h ≠ 1 ∧ h ≠ 3 then s
  else if s.ownRecord r then s
  else
    let s := if 2 ≤ r.ttl then s.send (.exch (nextPort h) { r with ttl := r.ttl - 1 }) else s
    if !r.crcOk then s
    else if r.kind = 2 then { s with safe := { s.safe with inbox := s.safe.inbox ++ [((h - 1) / 2, r.body)] } }
    else s.setHaw (fun x => { x with px := x.px ++ [((h - 1) / 2, r)] })

/-- EXCHANGE_RECORD_RECEIVED. -/
def execExchangeRecordReceived (h : Fin 4) (r : ExRec) (s : State) : Out := s.onCore (fun s => s.exchRecord h.val r)

def State.subSt (s : State) (n : Nat) : SubSt := tgetD s.haw.subs n ⟨[], none, 0⟩

/-- The values of a record's points, as many as NPOINTS. -/
def recordVals (r : ExRec) : List Word :=
  (List.range r.npoints).map (fun i =>
    if r.kind = 0 then w32 (b2n (((sub r.body (i / 8) 1).headD 0).getLsbD (i % 8))) else w32 (beNat (sub r.body (4 * i) 4)))

/-- A subscription that does not renew its points: STALE for FRESH ticks after the last GOOD landing, then INVALID. -/
def State.subMiss (s : State) (n : Nat) : State :=
  let fresh := s.fld (R.HAW_SUB_SRC n) F.HAW_SUB_SRC_FRESH
  let stale : Bool := match (s.subSt n).good with
    | some t => decide (s.tick.count ≤ t + fresh)
    | none => false
  s.setFld (R.HAW_SUB_STAT n) F.HAW_SUB_STAT_QUAL (if stale then 1 else 2)

/-- Subscription n at a landing (R412). -/
def State.subLand (s : State) (n : Nat) : State :=
  let c := R.HAW_SUB_CTL n
  let a := R.HAW_SUB_STAT n
  if !s.flag c F.HAW_SUB_CTL_VALID || !s.inEffect c then s
  else match s.inputImage (s.fld c F.HAW_SUB_CTL_PART) (s.fld c F.HAW_SUB_CTL_LOC) 1 with
    | none => s.setFld a F.HAW_SUB_STAT_QUAL 2
    | some h =>
      let kind := if h.layout = lyBIT then 0 else 1
      let mine := s.haw.px.filter (fun e => decide (e.2.tstamp = w32 s.tick.before2 ∧ e.2.kind = kind) &&
        e.2.src == s.fld (R.HAW_SUB_SRC n) F.HAW_SUB_SRC_SRC && e.2.chan == s.fld (R.HAW_SUB_SRC n) F.HAW_SUB_SRC_CHAN)
      let fits := mine.filter (fun e => decide (e.2.ident = s.reg (R.HAW_SUB_ID n)) && e.2.npoints == h.npoints)
      match fits.head? with
      | some (_, r) =>
        let s := if fits.all (fun e => e.1 == 0) || fits.all (fun e => e.1 == 1) then s.incFld a F.HAW_SUB_STAT_ONECOPY 255 else s
        if r.flags % 2 = 1 then
          (s.setFld a F.HAW_SUB_STAT_QUAL 2).setHaw (fun x => { x with subs := tput x.subs n { s.subSt n with stamp := r.tstamp } })
        else
          (s.setFld a F.HAW_SUB_STAT_QUAL 0).setHaw (fun x => { x with
            subs := tput x.subs n ⟨recordVals r, some s.tick.count, r.tstamp⟩ })
      | none =>
        let s := s.incFld a F.HAW_SUB_STAT_MISS 255
        if mine.isEmpty then s.subMiss n
        else (s.incFld a F.HAW_SUB_STAT_SCHEMA 255).setFld a F.HAW_SUB_STAT_QUAL 2

/-- Every subscription at a landing; records of the tick before last and earlier are done with. -/
def State.exchangeLand (s : State) : State :=
  let s := (List.range 512).foldl (fun (s : State) n => s.subLand n) s
  s.setHaw (fun h => { h with px := h.px.filter (fun e => decide (e.2.tstamp = w32 s.tick.before1)) })

/-- The subscription that feeds the image at a location. -/
def State.subOf (s : State) (loc : Nat) : Option Nat := (List.range 512).find? (fun n =>
  s.flag (R.HAW_SUB_CTL n) F.HAW_SUB_CTL_VALID && s.fld (R.HAW_SUB_CTL n) F.HAW_SUB_CTL_LOC == loc && s.inEffect (R.HAW_SUB_CTL n))

/-- Point i of a subscribed image. -/
def State.subPoint (s : State) (n i : Nat) : PtIn :=
  let q := s.fld (R.HAW_SUB_STAT n) F.HAW_SUB_STAT_QUAL
  let x := s.subSt n
  if q = 2 then ⟨0, 2, x.stamp⟩ else ⟨x.vals.getD i 0, q, x.stamp⟩

/-! ### Management lane (R414, R544) -/

/-- MGMT_PACKET_RECEIVED: forwarded hop by hop and delivered once by SRC and SEQ; the second copy is sought among the last 64 packets
delivered. A delivered Mooring datagram of TYPE SHUTTER is discarded and logged. -/
def State.mgmt (s : State) (h : Nat) (p : MgmtPkt) : State :=
  if (h ≠ 1 ∧ h ≠ 3) ∨ !p.crcOk ∨ (s.joined ∧ p.src = s.hawAddr) then s
  else
    let own : Bool := s.joined && p.dst == s.hawAddr
    let s := if !own && 2 ≤ p.ttl then s.send (.relay (nextPort h) { p with ttl := p.ttl - 1 }) else s
    if !(own || p.dst == 0xFF) || s.haw.seen.contains (p.src, p.seq) then s
    else
      let s := s.setHaw (fun x => { x with seen := ((p.src, p.seq) :: x.seen).take 64 })
      if p.type = 0 ∧ beNat (sub p.payload 0 2) = 0x4D4F ∧ beNat (sub p.payload 3 1) = 6 then s.event Ev.MOOR_SHUTTER_PATH else s

/-- MGMT_PACKET_RECEIVED. -/
def execMgmtPacketReceived (h : Fin 4) (p : MgmtPkt) (s : State) : Out := s.onCore (fun s => s.mgmt h.val p)

end Sys2Proof.Machine
end

