-- ==== Sys2Proof/Machine/Multi.lean ====
section
/-!
DEFINITION. The coordinated change over the hawser rings (R234 to R237): the lighthouse's side and a named unit's.
-/
namespace Sys2Proof.Machine

def State.setMulti (s : State) (f : MultiSt → MultiSt) : State := { s with multi := f s.multi }

/-- What a CHANGE packet says; the codes are the model's own, the spec gives none. -/
abbrev chPREPARE : Nat := 0
abbrev chREADY : Nat := 1
abbrev chREFUSED : Nat := 2
abbrev chGO : Nat := 3
abbrev chACK : Nat := 4
abbrev chCOMMIT : Nat := 5
abbrev chABORT : Nat := 6
abbrev chDONE : Nat := 7
abbrev chCANCELLED : Nat := 8

/-- A Mooring response leaves (R536). -/
def State.reply (s : State) (sess req status : Nat) (final : Bool) (data : List Byte) : State :=
  s.send (.reply sess req status final data)

/-- A change message to each unit named. -/
def State.tellUnits (s : State) (us : List Nat) (body : List Nat) : State :=
  us.foldl (fun (s : State) a => s.manage a mtCHANGE body) s

/-- This unit's answer to the lighthouse, the source of the beacons it follows or, at the lighthouse, itself. -/
def State.tellLighthouse (s : State) (body : List Nat) : State := s.manage 0xFF mtCHANGE body

/-- The FINAL response of MULTI-CHANGE (R538) and the end of the change. -/
def State.changeEnd (s : State) (c : Change) (code : Nat) (data : List Nat) : State :=
  let s := match c.reply with
    | some (sess, req) => s.reply sess req 0 true ((code :: data).map (fun n => BitVec.ofNat 8 n))
    | none => s
  s.setMulti (fun m => { m with change := none })

/-- MULTI-CHANGE starts at the lighthouse (R234, R235): PREPARE goes to every unit named. -/
def State.changeStart (s : State) (units : List (Nat × List Nat)) (reply : Option (Nat × Nat)) : State :=
  let s := units.foldl (fun (s : State) e => s.manage e.1 mtCHANGE (chPREPARE :: e.2)) s
  s.setMulti (fun m => { m with change := some ⟨units, s.tick.abs, [], none, [], false, s.tick.abs, reply⟩ })

/-- Cancelling a unit's part (R103 step 6, R234 step 3): it reports CANCELLED. -/
def State.changeCancel (s : State) : State :=
  let s := if s.tick.swapMulti then s.swapCancel else s
  (s.tellLighthouse [chCANCELLED]).setMulti (fun m => { m with unit := none })

/-- PREPARE at a named unit: the pending bank is checked as by R103 step 3, without activating it, with its partitions
ARMED. -/
def State.prepare (s : State) (parts : List Nat) : State :=
  let t : State := ({ s with tick := { s.tick with swapMulti := true } } : State).setReg R.TICK_SWAP_AT 0
  let bad := if s.flag R.TICK_STAT F.TICK_STAT_SWAP_PEND || parts.any (fun p => s.xstate p != xsARMED) then some 0
    else match (t.rewrite (!t.bankB)).checkBank t with
      | some (e, _, _, _) => some e
      | none => none
  match bad with
  | some e => s.tellLighthouse [chREFUSED, e]
  | none => (s.tellLighthouse [chREADY]).setMulti (fun m => { m with unit := some ⟨parts, none, false⟩ })

/-- PREPARE. -/
def execMultiPrepare (parts : List Nat) (s : State) : Out := s.onCore (fun s => s.prepare parts)

/-- READY received at the lighthouse: after the last, x is chosen and GO sent. -/
def State.changeReady (s : State) (a : Nat) : State := match s.multi.change with
  | none => s
  | some c =>
    if c.x.isSome || !c.units.any (fun e => e.1 == a) then s
    else
      let c := { c with ready := luniq (c.ready ++ [a]) }
      if c.units.all (fun e => c.ready.contains e.1) then
        let x := s.tick.abs + 480
        let s := s.tellUnits (c.units.map (fun e => e.1)) [chGO, x]
        s.setMulti (fun m => { m with change := some { c with x := some x, sentAt := s.tick.abs } })
      else s.setMulti (fun m => { m with change := some c })

/-- READY. -/
def execMultiReady (addr : Fin 64) (s : State) : Out := s.onCore (fun s => s.changeReady addr.val)

/-- MULTI_REFUSED: a unit refuses; the change ends. -/
def execMultiRefused (addr : Fin 64) (_cause : Nat) (s : State) : Out :=
  s.onCore (fun s => match s.multi.change with
    | some c => if c.x.isNone && c.units.any (fun e => e.1 == addr.val) then (s.event Ev.MULTI_REFUSED).changeEnd c 2 [] else s
    | none => s)

/-- GO at a unit: it requests the swap at x itself. -/
def State.changeGo (s : State) (x : Nat) : State := match s.multi.unit with
  | none => s
  | some u =>
    if u.x.isSome then s
    else
      let at' := F.TICK_SWAP_AT_AT_TICK.put (F.TICK_SWAP_AT_AT_SEC.put (w32 (2 ^ 31)) (x / 4800 % 65536)) (x % 4800)
      let s := s.setReg R.TICK_SWAP_AT at'
      (s.swapRequest true).setMulti (fun m => { m with unit := some { u with x := some x } })

/-- GO. -/
def execMultiGo (x : Nat) (s : State) : Out := s.onCore (fun s => s.changeGo x)

/-- The unit's ACK once SWAP_CHECKED is set (R234 step 2), at the launch that follows the check. -/
def State.changeAck (s : State) : State := match s.multi.unit with
  | some u =>
    if u.x.isSome && s.tick.swapMulti && s.flag R.TICK_STAT F.TICK_STAT_SWAP_CHECKED && !u.committed then s.tellLighthouse [chACK] else s
  | none => s

/-- ACK received at the lighthouse: after the last, COMMIT is sent. -/
def State.changeAcked (s : State) (a : Nat) : State := match s.multi.change with
  | none => s
  | some c => match c.x with
    | none => s
    | some x =>
      if c.committed || !c.units.any (fun e => e.1 == a) || decide (x < s.tick.abs + 240) then s
      else
        let c := { c with acks := luniq (c.acks ++ [a]) }
        if c.units.all (fun e => c.acks.contains e.1) then
          let s := s.tellUnits (c.units.map (fun e => e.1)) [chCOMMIT]
          s.setMulti (fun m => { m with change := some { c with committed := true, sentAt := s.tick.abs } })
        else s.setMulti (fun m => { m with change := some c })

/-- ACK. -/
def execMultiAck (addr : Fin 64) (s : State) : Out := s.onCore (fun s => s.changeAcked addr.val)

/-- MULTI_COMMIT at a unit. -/
def execMultiCommit (s : State) : Out :=
  s.onCore (fun s => s.setMulti (fun m => { m with unit := m.unit.map (fun u => { u with committed := u.committed || u.x.isSome }) }))

/-- ABORT at a unit. -/
def execMultiAbort (s : State) : Out :=
  s.onCore (fun s => match s.multi.unit with
    | some u => if u.committed then s else s.changeCancel
    | none => s)

/-- MULTI_READY_TIMEOUT: a READY is missing at k + 96. -/
def execMultiReadyTimeout (s : State) : Out :=
  s.onCore (fun s => match s.multi.change with
    | some c => if c.x.isNone && decide (c.began + 96 ≤ s.tick.abs) then (s.event Ev.MULTI_REFUSED).changeEnd c 2 [] else s
    | none => s)

/-- MULTI_ACK_TIMEOUT: an ACK is missing at x − 240; ABORT is sent. -/
def execMultiAckTimeout (s : State) : Out :=
  s.onCore (fun s => match s.multi.change with
    | some c => match c.x with
      | some x =>
        if !c.committed && decide (x ≤ s.tick.abs + 240) && c.sentAt != 0 then
          let s := s.tellUnits (c.units.map (fun e => e.1)) [chABORT]
          s.setMulti (fun m => { m with change := some { c with sentAt := 0 } })
        else s
      | none => s
    | none => s)

/-- MULTI_NO_COMMIT: a unit without COMMIT at x − 48 cancels. -/
def execMultiNoCommit (s : State) : Out :=
  s.onCore (fun s => match s.multi.unit with
    | some u => match u.x with
      | some x => if !u.committed && decide (x ≤ s.tick.abs + 48) then (s.event Ev.MULTI_NO_COMMIT).changeCancel else s
      | none => s
    | none => s)

/-- MULTI_REPEAT: an unanswered message is repeated every 48 ticks. -/
def execMultiRepeat (s : State) : Out :=
  s.onCore (fun s => match s.multi.change with
    | some c =>
      if s.tick.abs < c.sentAt + 48 || c.sentAt == 0 then s
      else
        let s : State := match c.x with
          | none => (c.units.filter (fun e => !c.ready.contains e.1)).foldl (fun (s : State) (e : Nat × List Nat) => s.manage e.1 mtCHANGE (chPREPARE :: e.2)) s
          | some x =>
            let us := (c.units.map (fun e => e.1)).filter (fun a => !c.acks.contains a)
            if c.committed then s else s.tellUnits us [chGO, x]
        s.setMulti (fun m => { m with change := some { c with sentAt := s.tick.abs } })
    | none => s)

/-- The 64-bit mask of a list of addresses. -/
def addrMask (l : List Nat) : Nat := l.foldl (fun m a => setBit m a true) 0

/-- MULTI_COLLECT_END: 96 ticks after x the lighthouse logs MULTI_DONE, or MULTI_SPLIT naming the units that cancelled. -/
def execMultiCollectEnd (cancelled : List Nat) (s : State) : Out :=
  s.onCore (fun s => match s.multi.change with
    | some c => match c.x with
      | some x =>
        if s.tick.abs < x + 96 then s
        else
          let bad := (c.units.map (fun e => e.1)).filter (fun a => cancelled.contains a)
          if bad.isEmpty then (s.event Ev.MULTI_DONE).changeEnd c 0 []
          else (s.event Ev.MULTI_SPLIT 0xFF (addrMask bad % 2 ^ 32) (addrMask bad / 2 ^ 32)).changeEnd c 1 bad
      | none => s
    | none => s)

/-- At x the unit's bank has become active: it reports DONE (R234 step 5). -/
def State.changeDone (s : State) : State := match s.multi.unit with
  | some _ => (s.tellLighthouse [chDONE]).setMulti (fun m => { m with unit := none })
  | none => s

end Sys2Proof.Machine
end

