-- ==== Sys2Proof/Machine/Twin.lean ====
section
/-!
DEFINITION. Twin pairs (chapter 18, R242, R243, R552, R553): the lanyard, heartbeats and digests, the witness and its
decisions, joining a serving twin.
-/
namespace Sys2Proof.Machine

/-! ### The pair (R418 to R421) -/

def State.setTwin (s : State) (f : TwinSt → TwinSt) : State := { s with twin := f s.twin }
def State.twinOn (s : State) : Bool := s.flag R.TWIN_CFG F.TWIN_CFG_EN
def State.partner (s : State) : Nat := s.fld R.TWIN_CFG F.TWIN_CFG_PARTNER
def State.setTwinState (s : State) (v : Nat) : State := s.setFld R.TWIN_STAT F.TWIN_STAT_STATE v

/-- The twinned partitions, rising. -/
def State.twinParts (s : State) : List Nat := (List.range 128).filter (fun p => s.twinned p)

/-- The split pairs of ports, by lower port. -/
def State.splitPairs (s : State) : List Nat := [0, 2].filter (fun p => 2 ≤ s.pairMode p)

/-- What this module can see of R418: the partner is another unit and a ring neighbour, and every split pair has the same
letter here. -/
def State.pairingOk (s : State) : Bool :=
  s.partner != s.hawAddr &&
  (List.range 4).any (fun h => s.flag (R.HAW_LINK h) F.HAW_LINK_UP && s.fld (R.HAW_LINK h) F.HAW_LINK_NBR == s.partner) &&
  !s.splitPairs.isEmpty && s.splitPairs.all (fun p => s.pairMode p == s.pairMode (s.splitPairs.headD 0))

/-- This module is twin A: it has SPLIT_A. -/
def State.twinA (s : State) : Bool := s.splitPairs.any (fun p => s.pairMode p == 2)

/-- A lanyard link to the partner is up (R422). -/
def State.lanyardOk (s : State) : Bool :=
  (List.range 4).any (fun h => s.flag (R.HAW_LINK h) F.HAW_LINK_UP && s.fld (R.HAW_LINK h) F.HAW_LINK_NBR == s.partner)

/-- A write of TWIN_CFG: DIV_N 0 is discarded; R153 holds for every twinned partition. With EN set, unmet pairing
conditions keep the pair in JOINING and are logged (R418). -/
def State.twinCfgWrite (s : State) (w : Word) : State :=
  let w := w &&& 0x800F003F
  let old := s.reg R.TWIN_CFG
  if F.TWIN_CFG_DIV_N.get w = 0 then s
  else if old ≠ w && s.twinParts.any (fun p => !s.mayWithdraw p) then
    s.allotBusy ((s.twinParts.find? (fun p => !s.mayWithdraw p)).getD 0xFF) R.TWIN_CFG
  else
    let s := s.setReg R.TWIN_CFG w
    if !s.twinOn then s.setTwinState twNONE
    else if s.pairingOk then s
    else s.event Ev.TWIN_CFG_MISMATCH

/-- A write of TWIN_PART_n (R419, R153): bit 0 of TWIN_PART_0 reads 0. -/
def State.twinPartWrite (s : State) (n : Nat) (w : Word) : State :=
  let a := R.TWIN_PART n
  let w := if n = 0 then w &&& 0xFFFFFFFE else w
  let x := s.reg a ^^^ w
  match (List.range 32).find? (fun i => x.getLsbD i && !s.mayWithdraw (32 * n + i)) with
  | some i => s.allotBusy (32 * n + i) a
  | none => s.setReg a w

/-! ### The lanyard (R422 to R426, R435, R436) -/

/-- A record leaves on the lanyard lanes of both links (R422, R423). -/
def State.lanyard (s : State) (type ident : Nat) (gen tstamp : Word) (body : List Nat) : State :=
  let q := s.twin.seq
  (s.send (.lanyard type ident gen tstamp q body)).setTwin (fun t => { t with seq := (q + 1) % 2 ^ 32 })

/-- The absolute tick number nearest to now whose low 32 bits are given. -/
def State.absNear (s : State) (w : Word) : Nat :=
  let d := (w - s.absLo).toNat
  if d < 2 ^ 31 then s.tick.abs + d else s.tick.abs + d - 2 ^ 32

/-- A lanyard record is taken once: its CRC is good and its SEQ is not among the last 64 taken (R422). -/
def State.lanyardTake (s : State) (r : LanRec) (f : State → State) : State :=
  if !s.twinOn || !r.crcOk || s.twin.seen.contains r.seq.toNat then s
  else f (s.setTwin (fun t => { t with seen := (r.seq.toNat :: t.seen).take 64 }))

/-- The primary of an identifier: the allocated location that is no MIRROR-SHADOW tile. -/
def State.primaryOf (s : State) (ident : Nat) : Option Nat :=
  s.allocated.find? (fun l => s.dirIdent l == ident && s.dirAct l && s.dirKind l != kSHADOW)

/-- The MIRROR-SHADOW tile of an identifier. -/
def State.shadowOf (s : State) (ident : Nat) : Option Nat :=
  s.allocated.find? (fun l => s.dirIdent l == ident && s.dirKind l == kSHADOW)

/-- g1 is newer than g2 by serial-number arithmetic (R425). -/
def newer (g1 g2 : Word) : Bool := let d := (g1 - g2).toNat; decide (1 ≤ d ∧ d ≤ 2 ^ 31 - 1)

/-- The seal of a mirrored tile passes: CRC and form, its IDENT and GEN those of the record (R425). -/
def mirrorGood (b : List Byte) (r : LanRec) : Bool :=
  (checkBytes b (leAt b 4064 1) (leAt b 4065 1) (leAt b 4066 2 % 64) r.ident.toNat r.gen).isNone

/-- A mirrored tile is written to its shadow under the shadow's own seal, with the record's GEN; it supersedes a repair
(R425, R127). -/
def State.shadowWrite (s : State) (loc : Nat) (b : List Byte) (gen : Word) : State :=
  let t := sealTile (b.take 4064) (s.dirOwner loc) (s.dirKind loc) (s.dirFlags loc) (s.dirIdent loc) gen (s.pkey (s.dirOwner loc))
  (s.putTile loc t gen).supersede loc

/-- A TILE record (R425): newer content goes to the shadow; the same GEN over another payload in the own primary is a
MIRROR_DIFF. -/
def State.lanyardTile (s : State) (r : LanRec) (b : List Byte) : State :=
  let stale : Bool := match s.shadowOf r.ident.toNat with
    | some l => !newer r.gen (s.dirGen l)
    | none => false
  if !mirrorGood b r || stale then s
  else
    let s := match s.shadowOf r.ident.toNat with
      | some l => s.shadowWrite l b r.gen
      | none => s
    match s.primaryOf r.ident.toNat with
    | some l =>
      if s.dirGen l = r.gen ∧ s.payload l ≠ b.take 4064 then
        (s.incFld R.TWIN_LANYARD F.TWIN_LANYARD_MIRROR_DIFF 255).setTwin (fun t =>
          { t with faultUntil := max t.faultUntil (s.tick.count + 4800) })
      else s
    | none => s

/-- LANYARD_TILE. -/
def execLanyardTile (r : LanRec) (tile : List (Nat × Byte)) (s : State) : Out :=
  s.onCore (fun s => s.lanyardTake r (fun s => s.lanyardTile r (expand 0 4096 0 tile)))

/-- This twin answers repair requests for an identifier: it is not SILENCED and its primary is VALID (R426). -/
def State.canAnswer (s : State) (ident : Nat) : Bool := s.twinState != twSILENCED && (match s.primaryOf ident with
  | some l => s.dirState l == 0
  | none => false)

/-- REPAIR_REQ: the answer leaves at the publish phase ahead of the TILE backlog (R424, R426). -/
def execRepairReq (r : LanRec) (s : State) : Out :=
  s.onCore (fun s => s.lanyardTake r (fun s =>
    if s.canAnswer r.ident.toNat then s.setTwin (fun t => { t with asked := luniq (t.asked ++ [r.ident.toNat]) }) else s))

/-- A partner's tile as the source of a location: a shadow takes it under its own kind and flags (R426). -/
def State.asSource (s : State) (loc : Nat) (b : List Byte) : List Byte :=
  if s.dirKind loc = kSHADOW then
    sealTile (b.take 4064) (s.dirOwner loc) kSHADOW (s.dirFlags loc) (s.dirIdent loc) (w32 (leAt b 4072 4)) (w32 (leAt b 4076 4))
  else b

/-- A repair answer waits in every repair buffer that asked the partner for its identifier (R426, R124). -/
def State.repairAns (s : State) (r : LanRec) (b : List Byte) : State :=
  s.tiles.repairBuf.foldl (fun (s : State) (e : Nat × RepBuf) =>
    if e.2.src = .partner ∧ e.2.content.isNone ∧ s.dirIdent e.2.loc = r.ident.toNat then
      s.deliver e.1 (sparse 0 0 (s.asSource e.2.loc b))
    else s) s

/-- REPAIR_ANS. -/
def execRepairAns (r : LanRec) (tile : List (Nat × Byte)) (s : State) : Out :=
  s.onCore (fun s => s.lanyardTake r (fun s => s.repairAns r (expand 0 4096 0 tile)))

/-- LANYARD_FORCE: entered at the landing of its effect tick, TSTAMP; a record that comes after that landing is entered at the next
one and logged (R435). -/
def execLanyardForce (r : LanRec) (part : Fin 128) (set : Bool) (ident idx : Nat) (v : Word) (s : State) : Out :=
  s.onCore (fun s => s.lanyardTake r (fun s =>
    let e := s.absNear r.tstamp
    let late := decide (e ≤ s.tick.abs)
    let f : TwinForce := ⟨if late then s.tick.abs + 1 else e, part.val, set, ident, idx, v⟩
    let s := s.setTwin (fun t => { t with forces := t.forces ++ [f] })
    if late then s.event Ev.FORCE_LATE part.val else s))

/-- A force command of a twinned partition authenticated in tick t (R435): entered here at the landing of t + 4 and sent to the
partner. -/
def State.twinForce (s : State) (p : Nat) (set : Bool) (ident idx : Nat) (v : Word) : State :=
  let e := s.tick.abs + 4
  let s := s.setTwin (fun t => { t with forces := t.forces ++ [⟨e, p, set, ident, idx, v⟩] })
  s.lanyard 3 0 0 (w32 e) [p, b2n set, ident, idx, v.toNat]

/-- The forces whose effect tick has come are entered (R435). -/
def State.forcesLand (s : State) : State :=
  let due := s.twin.forces.filter (fun f => decide (f.eff ≤ s.tick.abs))
  let s := s.setTwin (fun t => { t with forces := t.forces.filter (fun f => !decide (f.eff ≤ s.tick.abs)) })
  due.foldl (fun (s : State) (f : TwinForce) =>
    if f.set then (if (s.forceRefused f.part f.ident f.index).isNone then s.forceSet f.part f.ident f.index f.value else s)
    else s.forceClear f.part f.ident f.index) s

/-- LSTATE: a STANDBY twin keeps the record for the next commit (R436). -/
def execLstate (r : LanRec) (es : List LEntry) (s : State) : Out :=
  s.onCore (fun s => s.lanyardTake r (fun s =>
    if s.twinState = twSTANDBY then s.setTwin (fun t => { t with lstate := some (s.absNear r.tstamp, es) }) else s))

/-- A dataset takes the numbers of an LSTATE entry. -/
def State.adopt (s : State) (e : LEntry) : State :=
  let s := (s.setReg (R.SV_TRIP_ST e.idx) (w32 e.stNum)).setReg (R.SV_TRIP_SQ e.idx) (w32 e.sqNum)
  s.setTrip e.idx { s.tripSt e.idx with idx := e.interval, left := e.left }

/-- The table of R285 applied to this twin's own capture of a dataset in an earlier tick, nothing sent. -/
def State.replay (s : State) (u j : Nat) : State :=
  let p := s.fld (R.SV_TRIP_CFG j) F.SV_TRIP_CFG_PART
  let cap := (s.twin.caps.find? (fun e => e.1 == u && e.2.1 == j)).map (fun e => e.2.2)
  let now := (s.part p).trips
  let old := s.tripSt j
  let s1 := s.modPart p (fun x => { x with trips := match cap with | some d => [(j, d)] | none => [] })
  let s2 := (s1.setTrip j { old with done := false }).tripEval j
  let s3 := s2.modPart p (fun x => { x with trips := now })
  let y := s3.tripSt j
  let s4 := s3.setTrip j { y with done := old.done, changed := if y.lastSent = old.lastSent then y.changed else u + 1 }
  { s4 with twin := s.twin, out := s.out, sw := s.sw }

/-- The commit of the first tick after an LSTATE record has come (R436): its states adopted, and the captures of the ticks after its tick
applied to them. -/
def State.lstateApply (s : State) : State := match s.twin.lstate with
  | none => s
  | some (t, es) =>
    let s := s.setTwin (fun x => { x with lstate := none })
    if s.twinState ≠ twSTANDBY then s
    else es.foldl (fun (s : State) (e : LEntry) =>
      (List.range (min 16 (s.tick.abs - t - 1))).foldl (fun (s : State) i => s.replay (t + 1 + i) e.idx) (s.adopt e)) s

/-- The captures of this tick's commit are kept for R436, sixteen ticks long. -/
def State.keepCaps (s : State) : State :=
  if s.twinState ≠ twSTANDBY then s
  else
    let now := (s.parts.map (fun e => e.2.trips.map (fun c => (s.tick.abs, c.1, c.2)))).flatten
    s.setTwin (fun t => { t with caps := (t.caps.filter (fun e => decide (s.tick.abs < e.1 + 16))) ++ now })

/-- The entries of an LSTATE record: one for each bound dataset (R423). -/
def State.lstateNow (s : State) : List Nat :=
  ((s.trip.filter (fun e => s.tripState e.1 != tdUNBOUND)).map (fun e =>
    [e.1, (s.reg (R.SV_TRIP_ST e.1)).toNat, (s.reg (R.SV_TRIP_SQ e.1)).toNat, e.2.idx, e.2.left])).flatten

/-- The publish phase's part for the lanyard (R424, R426, R436, R127): at most 12 REPAIR_ANS and TILE records, answers first; an LSTATE
record while the partner is STANDBY. -/
def State.lanyardSend (s : State) : State :=
  if !s.twinOn then s.setTwin (fun t => { t with changed := [], asked := [] })
  else
    let ans := (s.twin.asked.filter (fun i => s.canAnswer i))
    let s := s.setTwin (fun t => { t with asked := ans.drop 12 })
    let s := (ans.take 12).foldl (fun (s : State) i => match s.primaryOf i with
      | some l => s.lanyard 2 i (s.dirGen l) s.absLo ((s.bytes (tileAddr l) 4096).map (fun b => b.toNat))
      | none => s) s
    let room := 12 - (ans.take 12).length
    let want := s.twin.changed.filter (fun l => s.dirValid l && s.dirFlag l fMIRROR && s.twinned (s.dirOwner l))
    let now := want.take room
    let s := s.setTwin (fun t => { t with changed := want.drop room })
    let s := now.foldl (fun (s : State) l =>
      if s.dirState l ≠ 0 then s.setTwin (fun t => { t with changed := t.changed ++ [l] })
      else if (s.sealFail l).isSome then (s.startRepair l).setTwin (fun t => { t with changed := t.changed ++ [l] })
      else s.lanyard 0 (s.dirIdent l) (s.dirGen l) s.absLo ((s.bytes (tileAddr l) 4096).map (fun b => b.toNat))) s
    let s := if s.fld R.TWIN_STAT F.TWIN_STAT_PSTATE = twSTANDBY ∧ (s.twinState = twSERVING ∨ s.twinState = twSOLO) then
        s.lanyard 4 0 0 s.absLo s.lstateNow else s
    s.setFld R.TWIN_LANYARD F.TWIN_LANYARD_BACKLOG s.twin.changed.length

/-! ### Heartbeat and digest (R427, R428) -/

/-- FAULT: a stream of a twinned partition is INVALID, a migration runs, a RESTORED tile has been loaded within 4800 ticks, or R425
requires it. -/
def State.twinFault (s : State) : Bool :=
  (List.range 32).any (fun i => s.flag (R.SV_STRM_CTRL i) F.SV_STRM_CTRL_VALID && s.twinned (s.fld (R.SV_STRM_CTRL i) F.SV_STRM_CTRL_PART) &&
    !s.flag (R.SV_STRM_STAT i) F.SV_STRM_STAT_STATE) ||
  s.eng.migration.isSome || decide (s.tick.count < s.twin.faultUntil)

/-- The VALUE area of an output image with its effective values. -/
def valueArea (h : ImgHdr) (pts : List EffPoint) : List Byte :=
  let vs := (List.range h.npoints).map (fun i => (pts[i]?).elim 0 (fun (e : EffPoint) => e.value.toNat))
  if h.layout = lyBIT then packBits 1 64 vs else (vs.map (fun v => leBytes 4 v)).flatten

/-- DIGEST of a launch (R428). -/
def State.digestOf (s : State) : Word :=
  let imgs := (s.twinParts.map (fun p => (((s.part p).hdrs.filter (fun e => s.dirFlag e.1 fOUTPUT)).map (fun e =>
    valueArea e.2 (tgetD (s.part p).eff e.1 []))).flatten)).flatten
  w32 (crc32c (imgs ++ s.twin.digTrip ++ s.twin.digest))

/-- HEARTBEAT_PUBLISH (R427). -/
def State.heartbeat (s : State) : State :=
  let d := s.digestOf
  let fault := s.twinFault
  let s := s.setTwin (fun t => { t with sent := 0, digest := [], digTrip := [] })
  if !s.twinOn then s
  else
    let s := (s.setReg R.TWIN_DIGEST d).setFlag R.TWIN_STAT F.TWIN_STAT_FAULT fault
    if !s.joined then s
    else
      let body := leBytes 1 s.twinState ++ leBytes 1 (b2n fault + 2 * b2n s.lanyardOk) ++ leBytes 1 s.partner ++ [0] ++ beBytes 4 d.toNat ++
        beBytes 4 s.twin.joined ++ beBytes 4 (s.fld R.TWIN_LANYARD F.TWIN_LANYARD_BACKLOG)
      s.sendRec (s.kindRec 3 body)

/-- The heartbeat a record of KIND 3 carries. -/
def heartOf (r : ExRec) : Heart :=
  let b := r.body
  ⟨r.src, r.tstamp.toNat, leAt b 0 1, bit (leAt b 1 1) 0, bit (leAt b 1 1) 1, leAt b 2 1, w32 (beNat (sub b 4 4)), w32 (beNat (sub b 8 4)),
    beNat (sub b 12 4)⟩

/-- The heartbeats due at this landing: those of the tick before last, one copy of each unit's (R427, R429). -/
def State.hearts (s : State) : List Heart :=
  (s.haw.px.filter (fun e => decide (e.2.kind = 3 ∧ e.2.tstamp = w32 s.tick.before2))).foldl
    (fun (l : List Heart) e => if l.any (fun h => h.src == e.2.src) then l else l ++ [heartOf e.2]) []

/-! ### Joining (R242, R243, R420, R552) -/

/-- An exchange is staged or armed here. -/
def State.exchanging (s : State) : Bool := s.parts.any (fun e => e.2.xchg.isSome)

/-- The program of a partition as a CONFIG segment carries it: image and placement map. -/
def State.segOf (s : State) (p : Nat) : Option CfgSeg := match (s.part p).prog with
  | none => none
  | some g => some (.program p g.image (g.map.map (fun l => (l, s.fld (R.TS_DIR_CTL l) F.TS_DIR_CTL_LINK))) true)

/-- The address belongs to a schedule bank or a grant bank. -/
def bankAddr (a : Nat) : Bool :=
  (0x1000 ≤ a && a < 0x6000) || (0x9000 ≤ a && a < 0xE000) || (0x24000 ≤ a && a < 0x26000)

/-- Steps 2 and 4 at the serving twin: every program with its map, both schedule banks and both grant banks, then every MIRROR
tile in full. -/
def State.joinServe (s : State) : State :=
  let segs := (List.range 128).filterMap (fun p => s.segOf p)
  let words := s.srf.filter (fun e => bankAddr e.1)
  let s := (segs ++ [CfgSeg.words words]).foldl (fun (s : State) g =>
    (s.send (.config s.twin.seq g)).setTwin (fun t => { t with seq := (t.seq + 1) % 2 ^ 32 })) s
  let mirrors := s.allocated.filter (fun l => s.dirFlag l fMIRROR && s.dirAct l && s.twinned (s.dirOwner l))
  s.setTwin (fun t => { t with step := 4, changed := luniq (t.changed ++ mirrors) })

/-- Step 1: the request waits while this twin holds a staged or armed exchange (R243); step 6 stands for waiting. -/
def State.joinRequest (s : State) (asked : Bool) : State :=
  if s.exchanging then s.setTwin (fun t => { t with step := 6 })
  else if asked then s.joinServe
  else (s.manage s.partner mtTWIN [0]).setTwin (fun t => { t with step := 1 })

/-- This twin answers a join request: it serves, or both join at the same start-up and it is twin A (R420). -/
def State.serves (s : State) : Bool :=
  s.twinState == twSERVING || s.twinState == twSOLO || (s.twinState == twJOINING && s.twinA)

/-- TWIN_JOIN_REQUEST: `asked` at the twin that receives the request, else at the newcomer that makes it. -/
def execTwinJoinRequest (asked : Bool) (s : State) : Out :=
  s.onCore (fun s =>
    if !s.twinOn then s
    else if asked then (if s.serves then s.joinRequest true else s)
    else if s.twinState = twJOINING then s.joinRequest false else s)

/-- A waiting join goes on once the exchange has gone (R243). -/
def State.joinLand (s : State) : State :=
  if s.twin.step = 6 ∧ ¬ s.exchanging then s.joinRequest s.serves else s

/-- Step 3: an image of the partner placed at the same locations and code pages in place of what its partition holds. -/
def State.joinPlace (s : State) (p : Nat) (i : Image) (map : List (Nat × Nat)) : State :=
  let s := (s.allocated.filter (fun l => s.dirOwner l == p && s.dirAct l)).foldl (fun (s : State) l => s.freeTileAt l) s
  let locs := map.map (fun e => e.1)
  let s := (List.range i.tiles.length).foldl (fun (s : State) k => match i.tiles[k]?, map[k]? with
    | some t, some (l, link) =>
      s.writeNew l (dirWord p t.kind t.flags link true) (w32 t.ident) (placedPayload i locs k)
    | _, _ => s) s
  let s := (((s.installProgram p ⟨i, locs⟩).bindLoops p).bindStreams p).bindTrips p
  if s.twinned p then s.toStarting p else s

/-- CONFIG: a segment received by the newcomer (R242 steps 2 and 3). An image that fails R196 or placement's checks is not
placed. -/
def State.joinConfig (s : State) (g : CfgSeg) : State :=
  if s.twinState ≠ twJOINING then s
  else match g with
    | .program p i map ok =>
      if p < 128 ∧ s.twinned p ∧ ok ∧ imagesOk i ∧ map.length = i.tiles.length then
        ((if s.pstate p = psFree then s.setPstate p psIdle else s).joinPlace p i map).setTwin (fun t => { t with step := 3 })
      else s
    | .words ws =>
      (ws.filter (fun e => bankAddr e.1)).foldl (fun (s : State) e => s.setReg e.1 e.2) s

/-- CONFIG. -/
def execTwinConfig (r : LanRec) (seg : CfgSeg) (s : State) : Out :=
  s.onCore (fun s => s.lanyardTake r (fun s => s.joinConfig seg))

/-- The pair's letter and node address (R418, R433): twin A's address for the lower port of the pair; twin B has it from its
partner. -/
def State.setNode (s : State) (node : Nat) : State :=
  let mac := if s.twinA then s.portMac (s.splitPairs.headD 0) else node
  ((s.setReg R.TWIN_NODE_LO (w32 mac)).setReg R.TWIN_NODE_HI (w32 (mac / 2 ^ 32 % 2 ^ 16))).setFlag R.TWIN_STAT F.TWIN_STAT_LETTER (!s.twinA)

/-- The twin becomes STANDBY, and its twinned partitions whose pages are ready enter RUNNING (R242 step 5, R552). -/
def State.standby (s : State) : State :=
  let s := (s.setTwinState twSTANDBY).setTwin (fun t => { t with step := 0 })
  s.twinParts.foldl (fun (s : State) p => if s.mayRun p then s.toRunning p else s) s

/-- TWIN_STANDBY: step 5. `agrees`: the partner names this unit, its letter on each pair is the other one and its TWIN_PART masks are
the same (R418); `node`: twin A's node address. -/
def execTwinStandby (agrees : Bool) (node : BitVec 48) (s : State) : Out :=
  s.onCore (fun s =>
    if !s.twinOn || s.twinState ≠ twJOINING then s
    else if !agrees || !s.pairingOk then s.event Ev.TWIN_CFG_MISMATCH
    else (s.setNode node.toNat).standby)

/-- The landing's part for the twin itself: the partner's heartbeat, the witness's record, and NONE to JOINING where the partner is seen
(R420). -/
def State.twinLand (s : State) : State :=
  if !s.twinOn then s
  else
    let wit := s.haw.px.any (fun e => decide (e.2.kind = 4 ∧ e.2.tstamp = w32 s.tick.before2))
    let s := if wit then s.setTwin (fun t => { t with witnessAt := some s.tick.count }) else s
    let s := s.setFlag R.TWIN_STAT F.TWIN_STAT_WITNESS_OK (match s.twin.witnessAt with
      | some t => decide (s.tick.count ≤ t + 48)
      | none => false)
    match s.hearts.find? (fun h => h.src == s.partner) with
    | none => s
    | some h =>
      let s := (s.setFld R.TWIN_STAT F.TWIN_STAT_PSTATE h.state).setTwin (fun t => { t with partnerAt := some s.tick.count })
      let s := if s.twinState = twNONE then s.setTwinState twJOINING else s
      if s.twin.step = 4 ∧ s.twinState ≠ twJOINING ∧ h.state = twSTANDBY then s.setTwin (fun t => { t with step := 0 }) else s

/-! ### Decisions at a twin (R420, R431, R553) -/

/-- The decision names this pair. -/
def State.ourPair (s : State) (d : Decision) : Bool :=
  s.twinOn && d.low == s.pairAddr && d.high == max s.hawAddr s.partner

/-- A code speaks to the lower or the upper twin: SILENCE 1 and 2, SOLO 3 and 4, ADMIT 5, 6 and 7. -/
def State.names (s : State) (d : Decision) : Bool :=
  if s.origin = 0 then d.code == 1 || d.code == 3 || d.code == 5 || d.code == 7
  else d.code == 2 || d.code == 4 || d.code == 6 || d.code == 7

/-- A twin sees a decision (R431): SILENCE naming it acts at once, SOLO and ADMIT wait for their effect tick. -/
def State.seeDecision (s : State) (d : Decision) : State :=
  let st := s.twinState
  if !s.ourPair d then s
  else if (d.code = 1 ∨ d.code = 2) ∧ s.names d ∧ (st = twSERVING ∨ st = twSOLO ∨ st = twSTANDBY) then
    ((s.setTwinState twSILENCED).setFld R.TWIN_STAT F.TWIN_STAT_CAUSE d.cause).setTwin (fun t => { t with decided := none })
  else if (s.names d ∧ ((d.code ∈ [3, 4] ∧ (st = twSERVING ∨ st = twSTANDBY)) ∨ (5 ≤ d.code ∧ st = twSTANDBY))) ∨
      (!s.names d ∧ (d.code = 5 ∨ d.code = 6) ∧ st = twSOLO) then
    s.setTwin (fun t => { t with decided := some (t.decided.getD d) })
  else s

/-- WITNESS_DECISION_RECEIVED. -/
def execWitnessDecisionReceived (d : Decision) (s : State) : Out := s.onCore (fun s => s.seeDecision d)

/-- The twinned partitions of an admitted twin are released (R552). -/
def State.admitParts (s : State) : State :=
  s.twinParts.foldl (fun (s : State) p => if s.running p then s.modPart p (fun x => { x with released := true, served := true }) else s) s

/-- The decision that waits takes effect (R420, R431, R553). -/
def State.decisionEffect (s : State) (d : Decision) : State :=
  let st := s.twinState
  let s := s.setTwin (fun t => { t with decided := none })
  let serving (s : State) : State := (s.setTwinState twSERVING).setTwin (fun t => { t with joined := s.tick.abs })
  if d.code = 3 ∨ d.code = 4 then
    if st = twSERVING then s.setTwinState twSOLO
    else if st = twSTANDBY then (s.setTwinState twSOLO).admitParts
    else s
  else if st = twSTANDBY then (serving s).admitParts
  else if st = twSOLO then serving s
  else s

/-- TWIN_DECISION_EFFECT: at the launch of effect tick e, or at once after it. -/
def execTwinDecisionEffect (s : State) : Out :=
  s.onCore (fun s => match s.twin.decided with
    | some d => if s.absNear (w32 d.eff) ≤ s.tick.abs then s.decisionEffect d else s
    | none => s)

/-- The decisions a record of KIND 4 carries (R431). -/
def decisionsOf (b : List Byte) : List Decision :=
  (List.range (b.length / 8)).map (fun i =>
    ⟨leAt b (8 * i) 1, leAt b (8 * i + 1) 1, leAt b (8 * i + 2) 1, leAt b (8 * i + 3) 1, beNat (sub b (8 * i + 4) 4)⟩)

/-- The landing shows a twin the witness's record of the tick before last. -/
def State.decisionsLand (s : State) : State :=
  if !s.twinOn then s
  else
    let rs := s.haw.px.filter (fun e => decide (e.2.kind = 4 ∧ e.2.tstamp = w32 s.tick.before2))
    rs.foldl (fun (s : State) (e : Nat × ExRec) => (decisionsOf e.2.body).foldl (fun (s : State) d => s.seeDecision d) s) s

/-! ### The witness (R4, R6, R429 to R432, R53, R553) -/

/-- This unit witnesses a pair: as lighthouse every pair it is no member of, as the serving strapped buoy the lighthouse's pair. -/
def State.witnesses (s : State) (low high : Nat) : Bool :=
  s.joined && low != s.hawAddr && high != s.hawAddr &&
    (s.lighthouse || (s.witStrap && s.haw.takeover == some s.hawAddr &&
      (match s.haw.lh with | some a => a == low || a == high | none => false)))

/-- The pairs named by the heartbeats of this landing join those watched. -/
def State.watch (s : State) : List WitPair :=
  s.hearts.foldl (fun (l : List WitPair) h =>
    let lo := min h.src h.partner
    let hi := max h.src h.partner
    if lo = hi ∨ !s.witnesses lo hi ∨ l.any (fun p => p.low == lo && p.high == hi) ∨ 32 ≤ l.length then l
    else l ++ [⟨lo, hi, [], [], 0, 0, 0, 0, none, 0⟩]) (s.twin.pairs.filter (fun p => s.witnesses p.low p.high))

/-- A twin's last heartbeat shows it SERVING, SOLO or STANDBY. -/
def acting (h : List Heart) : Bool := h.any (fun x => x.state == twSTANDBY || x.state == twSERVING || x.state == twSOLO)
def stateOf (h : List Heart) : Nat := match h with | x :: _ => x.state | [] => 0
def faultOf (h : List Heart) : Bool := match h with | x :: _ => x.fault | [] => false

/-- R430: the twin to silence on a divergence is the lower one. -/
def silenceLow (a b : Heart) : Bool :=
  if a.fault ≠ b.fault then a.fault else if a.joined ≠ b.joined then newer a.joined b.joined else false

/-- A pair's heartbeats of this landing counted (R429). -/
def State.pairCount (s : State) (p : WitPair) : WitPair :=
  let l := s.hearts.find? (fun h => h.src == p.low)
  let h := s.hearts.find? (fun h => h.src == p.high)
  let same : Bool := match l, h with | some a, some b => a.digest == b.digest | _, _ => false
  let both : Bool := match l, h with | some a, some b => acting [a] && acting [b] | _, _ => false
  let gone (g : Option Nat) (x : Option Heart) (a : Nat) : Option Nat := match x with
    | some y => if g = some a ∧ y.state = twJOINING then none else g
    | none => g
  { p with
    hl := (match l with | some a => [a] | none => p.hl), hh := (match h with | some b => [b] | none => p.hh),
    missL := if l.isSome then 0 else p.missL + 1, missH := if h.isSome then 0 else p.missH + 1,
    div := if both && !same then p.div + 1 else 0, eq := if both && same then p.eq + 1 else 0,
    granted := gone (gone p.granted l p.low) h p.high }

/-- The decisions a pair's counts call for: code and cause (R429, R430; causes 1 HEARTBEAT, 2 DIVERGE). -/
def State.pairDecides (s : State) (p : WitPair) : List (Nat × Nat) :=
  let n := s.fld R.TWIN_CFG F.TWIN_CFG_DIV_N
  let solo (code : Nat) (h : List Heart) : List (Nat × Nat) := if stateOf h = twSERVING then [(code, 0)] else []
  let open' := !s.twin.decisions.any (fun e => e.2.low == p.low && e.2.high == p.high)
  if p.missL = 3 ∧ acting p.hl then (1, 1) :: (if p.missH = 0 then solo 4 p.hh else [])
  else if p.missH = 3 ∧ acting p.hh then (2, 1) :: (if p.missL = 0 then solo 3 p.hl else [])
  else if p.div = n then match p.hl, p.hh with
    | a :: _, b :: _ => if silenceLow a b then (1, 2) :: solo 4 p.hh else (2, 2) :: solo 3 p.hl
    | _, _ => []
  else if 4800 ≤ p.eq ∧ open' then
    let a := stateOf p.hl
    let b := stateOf p.hh
    if a = twSTANDBY ∧ b = twSTANDBY then [(7, 0)]
    else if a = twSTANDBY ∧ (b = twSERVING ∨ b = twSOLO) ∧ !faultOf p.hl then [(5, 0)]
    else if b = twSTANDBY ∧ (a = twSERVING ∨ a = twSOLO) ∧ !faultOf p.hh then [(6, 0)]
    else []
  else []

/-- TWIN_WIT_p shows a watched pair. -/
def State.showPair (s : State) (i : Nat) (p : WitPair) : State :=
  s.setReg (R.TWIN_WIT i) (w32 (2 ^ 31 + p.low * 2 ^ 24 + p.high * 2 ^ 16 + min p.div 15 * 2 ^ 12 + p.last * 2 ^ 8 +
    stateOf p.hh * 2 ^ 4 + stateOf p.hl))

/-- Every watched pair is shown, the other TWIN_WIT registers empty. -/
def State.showPairs (s : State) : State :=
  (List.range 32).foldl (fun (s : State) i => match s.twin.pairs[i]? with
    | some p => s.showPair i p
    | none => s.setReg (R.TWIN_WIT i) 0) s

/-- A decision enters those published, with effect tick w + 3 (R431). -/
def State.enterDecision (s : State) (i : Nat) (code cause : Nat) : State := match s.twin.pairs[i]? with
  | none => s
  | some p =>
    s.setTwin (fun t => { t with
      decisions := t.decisions ++ [(s.tick.count, ⟨p.low, p.high, code, cause, s.tick.abs + 3⟩)],
      pairs := lset t.pairs i { p with last := code } })

/-- WITNESS_DECISION of a landing (R429): the pairs are rebuilt from the heartbeats, counted and decided. -/
def State.witnessLand (s : State) : State :=
  if !s.joined then s.setTwin (fun t => { t with pairs := [], decisions := [] })
  else
    let ps := s.watch.map (fun p => s.pairCount p)
    let s := s.setTwin (fun t => { t with pairs := ps, decisions := t.decisions.filter (fun e => decide (s.tick.count < e.1 + 48)) })
    let s := (List.range ps.length).foldl (fun (s : State) i => match s.twin.pairs[i]? with
      | some p => (s.pairDecides p).foldl (fun (s : State) d => s.enterDecision i d.1 d.2) s
      | none => s) s
    s.showPairs

/-- This unit is the acting witness of a pair. -/
def State.isWitness (s : State) : Bool :=
  s.joined && (s.lighthouse || (s.witStrap && s.haw.takeover == some s.hawAddr))

/-- The record of decisions of a launch (R431), each entry for 48 ticks. -/
def State.decisionsPublish (s : State) : State :=
  if !s.isWitness then s
  else
    let live := s.twin.decisions.filter (fun e => decide (s.tick.count < e.1 + 48))
    s.sendRec (s.kindRec 4 ((live.map (fun e => leBytes 1 e.2.low ++ leBytes 1 e.2.high ++ leBytes 1 e.2.code ++ leBytes 1 e.2.cause ++
      beBytes 4 e.2.eff)).flatten))

/-- PARTNER_SILENT. At the witness: a STANDBY twin with FAULT clear whose partner has sent no heartbeat for 4800 ticks is admitted to serve
alone (R553). At a twin that is JOINING: no heartbeat of its partner for 4800 ticks, so it starts its twinned partitions from its own
image store and stands by (R552). -/
def State.partnerSilent (s : State) : State :=
  let alone (n : Nat) (h : List Heart) : Bool := decide (4800 ≤ n) && stateOf h == twSTANDBY && !faultOf h
  let s := (List.range s.twin.pairs.length).foldl (fun (s : State) i => match s.twin.pairs[i]? with
    | some p =>
      if s.twin.decisions.any (fun e => e.2.low == p.low && e.2.high == p.high) then s
      else if alone p.missH p.hl && p.missL == 0 then s.enterDecision i 3 0
      else if alone p.missL p.hh && p.missH == 0 then s.enterDecision i 4 0
      else s
    | none => s) s
  let silent : Bool := match s.twin.partnerAt with
    | some t => decide (t + 4800 ≤ s.tick.count)
    | none => decide (4800 ≤ s.tick.count)
  if s.twinOn && (s.twinState == twJOINING || s.twinState == twNONE) && s.joined && silent then
    let s := s.twinParts.foldl (fun (s : State) p =>
      if s.pstate p = psIdle ∧ (s.part p).prog.isSome then s.toStarting p else s) s
    s.standby
  else s

/-- PARTNER_SILENT. -/
def execPartnerSilent (s : State) : Out := s.onCore (fun s => s.partnerSilent)

/-- The pair a unit is in, among those watched here, with its number. -/
def State.pairNo (s : State) (a : Nat) : Option (Nat × WitPair) :=
  (List.range s.twin.pairs.length).findSome? (fun i => match s.twin.pairs[i]? with
    | some p => if p.low = a ∨ p.high = a then some (i, p) else none
    | none => none)

/-- The witness's answer to a member over the management lane: what it was asked (1 extraction, 2 freeze), granted, cause. -/
def State.answer (s : State) (a what : Nat) (cause : Option Nat) : State :=
  s.manage a mtTWIN (what :: match cause with | none => [1] | some c => [0, c])

/-- The cause for which an extraction of member `a` is refused (R52, R53), none where it is granted. -/
def State.extractCause (s : State) (p : WitPair) (a : Nat) (both : Bool) : Option Nat :=
  let other := if a = p.low then p.hh else p.hl
  let ok := (stateOf other == twSERVING || stateOf other == twSOLO) && !faultOf other
  if !ok || (both && a != p.low) || (p.granted.isSome && p.granted != some a) then some 1
  else if p.div ≠ 0 ∨ s.twin.decisions.any (fun e => e.2.low == p.low && e.2.high == p.high) ∨
      stateOf p.hl = twJOINING ∨ stateOf p.hh = twJOINING ∨
      (match s.multi.change with
        | some c => c.units.any (fun u => u.1 == p.low || u.1 == p.high)
        | none => false) = true then some 3
  else none

/-- WITNESS_EXTRACT_REQUEST from member `src`; `both`: the other member asks for the same tick (R53). A witness that has lost a
twin's heartbeats ignores it (R431). -/
def execWitnessExtractRequest (src : Fin 64) (both : Bool) (s : State) : Out :=
  s.onCore (fun s => match s.pairNo src.val with
    | none => s
    | some (i, p) =>
      if p.missL ≠ 0 ∨ p.missH ≠ 0 then s
      else match s.extractCause p src.val both with
        | some c => s.answer src.val 1 (some c)
        | none => (s.setTwin (fun t => { t with pairs := lset t.pairs i { p with granted := some src.val } })).answer src.val 1 none)

/-- The cause for which a freeze of member `a` gets no consent (R432, R541), none where it does. -/
def freezeCause (p : WitPair) (a : Nat) : Option Nat :=
  let own := if a = p.low then p.hl else p.hh
  let other := if a = p.low then p.hh else p.hl
  if ¬ (stateOf own = twSTANDBY ∨ stateOf own = twSILENCED) then some 2
  else if (stateOf other = twSERVING ∨ stateOf other = twSOLO) ∧ !faultOf other then none
  else some 3

/-- WITNESS_FREEZE_CONSENT_REQUEST (R432, R541). -/
def execWitnessFreezeConsentRequest (src : Fin 64) (s : State) : Out :=
  s.onCore (fun s => match s.pairNo src.val with
    | none => if s.isWitness then s.answer src.val 2 (some 1) else s
    | some (_, p) => s.answer src.val 2 (freezeCause p src.val))

end Sys2Proof.Machine
end

