-- ==== Sys2Proof/Machine/Vault.lean ====
section
/-!
DEFINITION. The key vault (R437 to R448, R456 to R462): roots and derivation, slots and derived entries, KEYOP, asymmetric
windows, tamper; and the shutter check (R313, R543).
-/
namespace Sys2Proof.Machine

/-! ### Keys and registers (R440 to R442) -/

abbrev ktEMPTY : Nat := 0
abbrev ktAES : Nat := 1
abbrev ktHMAC : Nat := 2
abbrev ktP384 : Nat := 3
abbrev ktP384_PUB : Nat := 4
abbrev ktMLDSA : Nat := 5
abbrev ktMLDSA_PUB : Nat := 6

/-- USAGE bits. -/
abbrev kuENC : Nat := 0
abbrev kuDEC : Nat := 1
abbrev kuSIGN : Nat := 2
abbrev kuVERIFY : Nat := 3
abbrev kuDERIVE : Nat := 4
abbrev kuWRAP : Nat := 5

/-- Status codes of a KEYOP (R443). -/
abbrev vsOK : Nat := 0
abbrev vsAUTH_FAIL : Nat := 1
abbrev vsEXHAUSTED : Nat := 2
abbrev vsEMPTY : Nat := 3
abbrev vsLEN : Nat := 4
abbrev vsQUEUED : Nat := 5
abbrev vsNO_WINDOW : Nat := 6
abbrev vsBUSY : Nat := 7
abbrev vsTAMPER : Nat := 8
abbrev vsNOT_STAGED : Nat := 9
abbrev vsVERIFY_MISMATCH : Nat := 10
abbrev vsRETRY : Nat := 11
abbrev vsSTATE : Nat := 12

/-- USES that are unlimited (R440). -/
abbrev usesFree : Nat := 0xFFFFFF

def State.setVault (s : State) (f : VaultSt → VaultSt) : State := { s with vault := f s.vault }
def State.slot (s : State) (n : Nat) : VSlot := tgetD s.vault.slots n VSlot.reset

/-- A slot's registers follow it. -/
def State.showSlot (s : State) (n : Nat) : State :=
  let x := s.slot n
  let a := R.VAULT_SLOT n
  let s := (s.setFlag a F.VAULT_SLOT_VERIFIED x.verified).setFld a F.VAULT_SLOT_PTYPE x.pend.type
  let s := ((s.setFlag a F.VAULT_SLOT_EXP_RESET x.act.expReset).setFld a F.VAULT_SLOT_TYPE x.act.type).setFld a F.VAULT_SLOT_USAGE x.act.usage
  s.setFld (R.VAULT_SLOT_USE n) F.VAULT_SLOT_USE_USES x.act.uses

def State.setSlot (s : State) (n : Nat) (x : VSlot) : State :=
  (s.setVault (fun v => { v with slots := tput v.slots n x })).showSlot n

/-- VAULT_DRV_n.USED follows the derived entries of partition p. -/
def State.showDrv (s : State) (p : Nat) : State :=
  s.setFld (R.VAULT_DRV p) F.VAULT_DRV_USED (s.vault.drv.filter (fun e => e.1 / 16 == p)).length

/-- Entry i of partition p's derived entries. -/
def State.setDrv (s : State) (p i : Nat) (k : VKey) : State :=
  (s.setVault (fun v => { v with drv := tput v.drv (16 * p + i) k })).showDrv p

/-- Partition that owns a slot (R440): slot 63 is partition 0's. -/
def State.slotOwner (s : State) (n : Nat) : Option Nat :=
  if n = 63 then some 0
  else if s.flag (R.VAULT_SLOT n) F.VAULT_SLOT_VALID then some (s.fld (R.VAULT_SLOT n) F.VAULT_SLOT_PART) else none

/-- `n` bytes of the random bit generator, and the state with the draw taken. -/
def State.random (s : State) (n : Nat) : List Byte × State := ((List.range n).map (Config.randomByte s.free), s.draw)

/-- Random operations work: the entropy tests have not failed (R448). -/
def State.entropyOk (s : State) : Bool := !s.flag R.VAULT_STAT F.VAULT_STAT_ENTROPY_FAIL

/-! ### Derivation (R438, R439, R452) -/

/-- ASCII of a label. -/
def ascii (t : String) : List Byte := t.toList.map (fun c => BitVec.ofNat 8 c.toNat)

/-- Blocks i … of the counter-mode KDF, n of them. -/
def kdfBlocks (key label context : List Byte) (bits : Nat) : Nat → Nat → List Byte
  | 0, _ => []
  | n + 1, i => hmac384 key (beBytes 4 i ++ label ++ [0] ++ context ++ beBytes 4 bits) ++ kdfBlocks key label context bits n (i + 1)

/-- The KDF of R438: `n` bytes of output. -/
def kdf (key label context : List Byte) (n : Nat) : List Byte :=
  (kdfBlocks key label context (8 * n) ((n + 47) / 48) 1).take n

def State.rootGen (s : State) : Nat := s.fld R.ID_LC F.ID_LC_ROOT_GEN
def State.lcState (s : State) : Nat := s.fld R.ID_LC F.ID_LC_STATE

/-- The root in use: the current generation's, or the test root in RETURN (R452). -/
def State.root (s : State) : List Byte :=
  if s.lcState = 3 then (sha384 (beBytes 8 s.boot.serial.toNat ++ ascii "LZF TEST ROOT")).take 32
  else (List.range 32).map (Config.deviceRoot s.rootGen)

/-- The device identity's P-384 and ML-DSA-65 private keys. -/
def State.identityKey (s : State) : List Byte := kdf s.root (ascii "LZF IDENT") [BitVec.ofNat 8 s.rootGen] 56
/-- KP_p. -/
def State.partRoot (s : State) (p : Nat) : List Byte :=
  kdf s.root (ascii "LZF PART") ([BitVec.ofNat 8 p] ++ beBytes 4 (tgetD s.vault.ten p 0) ++ [BitVec.ofNat 8 s.rootGen]) 48

/-! ### Handles (R442) -/

/-- What a handle names. -/
inductive KeyRef where
  | slot (n : Nat)
  | drv (i : Nat)
  | root
  deriving DecidableEq, Repr

/-- The key a handle names, if partition p owns it. -/
def State.keyRef (s : State) (p h : Nat) : Option KeyRef :=
  if h < 64 then (if s.slotOwner h = some p then some (.slot h) else none)
  else if 0x4000 ≤ h ∧ h < 0x4010 then
    (if h - 0x4000 < s.fld (R.VAULT_DRV p) F.VAULT_DRV_LIMIT then some (.drv (h - 0x4000)) else none)
  else if h = 0x8000 then some .root else none

/-- The key itself; KP_p counts as every usage but serves as a DERIVE parent only. -/
def State.keyAt (s : State) (p : Nat) : KeyRef → VKey
  | .slot n => (s.slot n).act
  | .drv i => tgetD s.vault.drv (16 * p + i) VKey.empty
  | .root => ⟨ktHMAC, 0x3F, usesFree, false, s.partRoot p⟩

/-- An operation may use the key a handle names (R440, R441): KP_p only as a parent, slot 63 never. -/
def mayUse (k : VKey) (u : Nat) : KeyRef → Bool
  | .slot n => n != 63 && bit k.usage u
  | .drv _ => bit k.usage u
  | .root => u == kuDERIVE

/-- One use of a slot key counted (R441). -/
def State.useKey (s : State) (r : KeyRef) : State := match r with
  | .slot n =>
    let x := s.slot n
    if x.act.uses = usesFree then s else s.setSlot n { x with act := { x.act with uses := x.act.uses - 1 } }
  | _ => s

/-- The USAGE bits meaningful for a TYPE (R440). -/
def usageMask (type : Nat) : Nat := match type with
  | 1 => 0x33
  | 2 => 0x1C
  | 3 => 0x14
  | 4 => 0x08
  | 5 => 0x04
  | 6 => 0x08
  | _ => 0

/-- TYPE and USAGE may be staged into a slot: slot 63 takes an AES-256 key for VERIFY only (R440, R544). -/
def stageOk (n type usage : Nat) : Bool :=
  if n = 63 then type == ktAES && usage == 2 ^ kuVERIFY
  else 1 ≤ type && type ≤ 6 && usage &&& usageMask type == usage && usage < 64

/-- KEYSTAGE's effect: the pending half is replaced and no longer verified (R445). -/
def State.stage (s : State) (n : Nat) (k : VKey) : State := s.setSlot n { s.slot n with pend := k, verified := false }

/-- KEYVERIFY of a pending half (R445). -/
def State.verifyKey (s : State) (n : Nat) (input expected : List Byte) : Nat × State :=
  let x := s.slot n
  let k := x.pend
  if k.type = ktEMPTY then (vsNOT_STAGED, s)
  else
    let ok := if k.type ≤ ktHMAC then (hmac384 k.key (sub input 0 16)).take 16 == sub expected 0 16
      else sha384 (if k.type = ktP384 ∨ k.type = ktMLDSA then Config.publicKey k.type k.key else k.key) == sub expected 0 48
    if ok then (vsOK, s.setSlot n { x with verified := true }) else (vsVERIFY_MISMATCH, s)

/-- KEYCOMMIT: a verified pending half waits for cycle 40,960 (R445). -/
def State.commitKey (s : State) (n : Nat) : Nat × State :=
  let x := s.slot n
  if x.verified then (vsOK, s.setSlot n { x with commit := some x.pend }) else (vsNOT_STAGED, s)

/-- The commits of the tick take effect at cycle 40,960; the old keys are gone, and each slot's KEEP record is to be
rewritten. A commit to slot 63 resets SW_SHUT_CTR (R445, R446). -/
def State.commitKeys (s : State) : State :=
  (s.vault.slots.filter (fun e => e.2.commit.isSome)).foldl (fun (s : State) (e : Nat × VSlot) => match e.2.commit with
    | none => s
    | some k =>
      let same := e.2.pend == k
      let s := s.setSlot e.1 ⟨k, if same then VKey.empty else e.2.pend, if same then false else e.2.verified, none⟩
      let s := s.setVault (fun v => { v with keepDue := luniq (v.keepDue ++ [e.1]) })
      if e.1 = 63 then { s.setReg R.SW_SHUT_CTR 0 with keep := { s.keep with s3 := 0 } } else s) s

/-- The KEEP records of committed slots are rewritten, within 4 ticks of the commit (R445): here at the next landing. -/
def State.keepKeys (s : State) : State :=
  let due := s.vault.keepDue
  let s := s.setVault (fun v => { v with keepDue := [] })
  due.foldl (fun (s : State) n =>
    let k := (s.slot n).act
    s.setVault (fun v => { v with kept := if k.expReset then tdel v.kept n else tput v.kept n k })) s

/-! ### Derived keys and staging -/

/-- The attributes PARAM gives: USAGE, EXP_RESET, TYPE (R443). -/
def paramKey (param uses : Nat) (key : List Byte) : VKey := ⟨param / 256 % 8, param % 64, uses % 2 ^ 24, bit param 6, key⟩

/-- The bytes of a symmetric key of a type. -/
def keyLen (type : Nat) : Nat := if type = ktHMAC then 48 else 32

/-- DERIVE writes its key to a derived entry or stages it into a slot of partition p (R442). The USAGE must be a subset of the
parent's; the status otherwise is STATE. -/
def State.deriveTo (s : State) (p dest param uses : Nat) (parent : VKey) (label : List Byte) : Nat × State :=
  let t := param / 256 % 8
  let u := param % 64
  let k := paramKey param uses (kdf parent.key label [BitVec.ofNat 8 p] (keyLen t))
  if (t ≠ ktAES ∧ t ≠ ktHMAC) ∨ u &&& parent.usage ≠ u ∨ u &&& usageMask t ≠ u then (vsSTATE, s)
  else match s.keyRef p dest with
    | some (.drv i) => (vsOK, s.setDrv p i { k with uses := usesFree })
    | some (.slot n) => if stageOk n t u then (vsOK, s.stage n k) else (vsSTATE, s)
    | _ => (vsSTATE, s)

/-! ### KEYOP (R185, R443) -/

/-- The request block. -/
structure KeyReq where
  inOff : Nat
  inLen : Nat
  outOff : Nat
  outCap : Nat
  aadOff : Nat
  aadLen : Nat
  auxOff : Nat
  sz : Nat
  src : Nat
  dest : Nat
  param : Nat
  uses : Nat
  reply : Nat
  deriving DecidableEq, Repr

def keyReq (b : List Byte) : KeyReq :=
  ⟨leAt b 0 2, leAt b 2 2, leAt b 4 2, leAt b 6 2, leAt b 8 2, leAt b 10 2, leAt b 12 2, leAt b 14 1, leAt b 15 1, leAt b 16 2, leAt b 18 2,
    leAt b 20 4, leAt b 24 4 % 4096⟩

/-- Operations (R185). -/
abbrev koENC : Nat := 0
abbrev koDEC : Nat := 1
abbrev koSIGN : Nat := 2
abbrev koVERIFY : Nat := 3
abbrev koDERIVE : Nat := 4
abbrev koWRAP : Nat := 5
abbrev koSTAGE : Nat := 6
abbrev koCHECK : Nat := 7
abbrev koCOMMIT : Nat := 8
abbrev koRANDOM : Nat := 9

/-- Largest IN_LEN of a size class. -/
def keySize (sz : Nat) : Nat := match sz with | 0 => 256 | 1 => 1024 | _ => 4000

/-- Bytes an operation reads at AUX: IV, then the tag for DEC; a label; an expected value; a signature (log entry 25). -/
def auxLen (fn type : Nat) : Nat := match fn with
  | 0 => 12
  | 1 => 28
  | 3 => if type = ktP384_PUB then 96 else if type = ktMLDSA_PUB then 3309 else 16
  | 4 => 32
  | 5 => 12
  | 6 => 12
  | 7 => if type ≤ ktHMAC then 16 else 48
  | _ => 0

/-- Output bytes an operation needs room for. -/
def outLen (fn type inLen : Nat) : Nat := match fn with
  | 0 => inLen + 16
  | 1 => inLen
  | 2 => if type = ktHMAC then 48 else 0
  | 5 => 60
  | _ => 0

/-- A range of the window. -/
def inWindow (off n : Nat) : Bool := off + n ≤ 4096

/-- The request's lengths fit operation and window (R443). -/
def KeyReq.fits (r : KeyReq) (fn type : Nat) : Bool :=
  r.sz ≤ 2 && inWindow r.inOff r.inLen && inWindow r.outOff r.outCap && inWindow r.aadOff r.aadLen && r.aadLen ≤ 256 &&
  inWindow r.auxOff (auxLen fn type) && outLen fn type r.inLen ≤ r.outCap &&
  (if fn ≤ koVERIFY then r.inLen ≤ keySize r.sz else if fn = koRANDOM then 1 ≤ r.outCap && r.outCap ≤ 256
   else if fn = koCHECK then r.inLen == 16 else if fn = koSTAGE && r.src == 1 then r.inLen == 60 else true)

/-- The operation runs on the asymmetric engine (R444). -/
def isAsym (fn type param src : Nat) : Bool :=
  ((fn == koSIGN || fn == koDERIVE) && (type == ktP384 || type == ktMLDSA)) ||
  (fn == koVERIFY && (type == ktP384_PUB || type == ktMLDSA_PUB)) ||
  (fn == koSTAGE && src == 0 && (param / 256 % 8 == ktP384 || param / 256 % 8 == ktMLDSA))

/-- Windows allotted to partition p. -/
def State.hasWindow (s : State) (p : Nat) : Bool := (List.range 7).any (fun w =>
  s.flag (R.VAULT_ASYM_WIN w) F.VAULT_ASYM_WIN_VALID && s.fld (R.VAULT_ASYM_WIN w) F.VAULT_ASYM_WIN_PART == p)

/-- VAULT_STAT.ASYM_PEND follows the requests pending. -/
def State.showAsym (s : State) : State := s.setFld R.VAULT_STAT F.VAULT_STAT_ASYM_PEND s.vault.asym.length

/-- A request is queued for partition p's window (R444). -/
def State.queueAsym (s : State) (p : Nat) (q : AsymReq) : Nat × State :=
  if q.moor.isNone && !(s.isInbox q.reply && s.dirOwner q.reply == p) then (vsLEN, s)
  else if !s.hasWindow p then (vsNO_WINDOW, s)
  else if (tget s.vault.asym p).isSome then (vsBUSY, s)
  else (vsQUEUED, (s.setVault (fun v => { v with asym := tput v.asym p q })).showAsym)

/-- A fresh key staged by GENERATE, none where the entropy source has failed (R448). -/
def State.generate (s : State) (n param uses : Nat) : Nat × State :=
  let t := param / 256 % 8
  if !s.entropyOk || !stageOk n t (param % 64) then (vsSTATE, s)
  else
    let r := s.random (if t = ktP384 then 48 else keyLen t)
    (vsOK, r.2.stage n (paramKey param uses r.1))

/-- A blob of WRAP opened and staged. -/
def State.unwrap (s : State) (n param uses : Nat) (wk : VKey) (blob : List Byte) : Nat × State :=
  if param / 256 % 8 ≠ ktAES ∨ !stageOk n ktAES (param % 64) then (vsSTATE, s)
  else match gcmDec wk.key (blob.take 12) [] ((blob.drop 12).take 32) (blob.drop 44) with
    | some k => (vsOK, s.stage n (paramKey param uses k))
    | none => (vsAUTH_FAIL, s)

/-- What a synchronous operation on the key `k` named by `h` gives: status, output and state. `rd` reads a range of the window. -/
def State.keySync (s : State) (p fn : Nat) (h : KeyRef) (k : VKey) (q : KeyReq) (rd : Nat → Nat → List Byte) : Nat × List Byte × State :=
  let inp := rd q.inOff q.inLen
  let aad := rd q.aadOff q.aadLen
  let aux := rd q.auxOff (auxLen fn k.type)
  let none' (r : Nat × State) : Nat × List Byte × State := (r.1, [], r.2)
  match fn with
  | 0 => let e := gcmEnc k.key aux aad inp; (vsOK, e.1 ++ e.2, s)
  | 1 => match gcmDec k.key (aux.take 12) aad inp (aux.drop 12) with
    | some d => (vsOK, d, s)
    | none => (vsAUTH_FAIL, [], s)
  | 2 => (vsOK, hmac384 k.key inp, s)
  | 3 => (if (hmac384 k.key inp).take 16 = aux then vsOK else vsAUTH_FAIL, [], s)
  | 4 => none' (s.deriveTo p q.dest q.param q.uses k aux)
  | 5 => match s.keyRef p q.dest with
    | some (.slot n) =>
      if !s.entropyOk || !stageOk n ktAES (q.param % 64) then (vsSTATE, [], s)
      else
        let r := s.random 32
        let e := gcmEnc k.key aux [] r.1
        (vsOK, aux ++ e.1 ++ e.2, r.2.stage n { paramKey q.param q.uses r.1 with type := ktAES })
    | _ => (vsSTATE, [], s)
  | 6 => match s.keyRef p q.dest with
    | some (.slot n) => none' (if q.src = 1 then s.unwrap n q.param q.uses k inp else s.generate n q.param q.uses)
    | _ => (vsSTATE, [], s)
  | 7 => match h with
    | .slot n => none' (s.verifyKey n inp (rd q.auxOff (auxLen fn (s.slot n).pend.type)))
    | _ => (vsSTATE, [], s)
  | 8 => match h with
    | .slot n => none' (s.commitKey n)
    | _ => (vsSTATE, [], s)
  | _ => if s.entropyOk then (let r := s.random q.outCap; (vsOK, r.1, r.2)) else (vsSTATE, [], s)

/-- The USAGE bit of an operation that uses a key: KEYSTAGE uses one for UNWRAP only. -/
def keyUse (fn src : Nat) : Option Nat := match fn with
  | 0 => some kuENC
  | 1 => some kuDEC
  | 2 => some kuSIGN
  | 3 => some kuVERIFY
  | 4 => some kuDERIVE
  | 5 => some kuWRAP
  | 6 => if src = 1 then some kuWRAP else none
  | _ => none

/-- The handles of a request are partition p's: rb where the operation uses or names a key, DEST where it writes one. -/
def State.ownsKeys (s : State) (p fn : Nat) (q : KeyReq) (rb : Nat) : Bool :=
  (fn == koRANDOM || (fn == koSTAGE && q.src != 1) || (s.keyRef p rb).isSome) &&
  (if fn == koDERIVE || fn == koWRAP || fn == koSTAGE then (s.keyRef p q.dest).isSome else true)

/-- The result register: status, and the number of output bytes (R443). -/
def keyResult (st n : Nat) : Word := w32 (st + 65536 * n)

/-- A finished KEYOP: the output area, zero up to OUT_CAP unless the status is OK or QUEUED, and rd. -/
def State.keyEnd (s : State) (l : Nat) (rd : Fin 32) (w : Fin 8) (q : KeyReq) (st : Nat) (out : List Byte) : State :=
  let bytes := if st = vsOK then out else if st = vsQUEUED ∨ !inWindow q.outOff q.outCap then [] else List.replicate q.outCap 0
  let s := if bytes.isEmpty then s else s.winWrite l w q.outOff bytes
  s.setG l rd (keyResult st (if st = vsOK then out.length else 0))

/-- OWN: nothing accessed, rd 0 (R185). -/
def State.keyOwn (s : State) (l : Nat) (rd : Fin 32) (word : Word) : State :=
  (s.raise l cOWN word 0 0 (s.lamp l).pc).setG l rd 0

/-- A request with its block read (R443, R441, R444): handles, usage, then EMPTY, lengths, uses left, the operation. -/
def State.keyRun (s : State) (l : Nat) (p fn : Nat) (rd : Fin 32) (rb : Nat) (word : Word) (w : Fin 8) (q : KeyReq) : State :=
  let h := (s.keyRef p rb).getD .root
  let k := s.keyAt p h
  let use := keyUse fn q.src
  let rdw (off n : Nat) : List Byte := s.winBytes l w off n
  if !s.ownsKeys p fn q rb then s.keyOwn l rd word
  else if use.isSome && k.type == ktEMPTY then s.keyEnd l rd w q vsEMPTY []
  else if (match use with | some u => !mayUse k u h | none => false) then s.keyOwn l rd word
  else if !q.fits fn k.type then s.keyEnd l rd w q vsLEN []
  else if use.isSome && k.uses == 0 then s.keyEnd l rd w q vsEXHAUSTED []
  else if isAsym fn k.type q.param q.src then
    let aux := rdw q.auxOff (auxLen fn k.type)
    let r := s.queueAsym p ⟨fn, rb, q.dest, q.param, q.uses, sub aux 0 32, rdw q.inOff q.inLen, aux, q.reply, none, s.tick.abs⟩
    r.2.keyEnd l rd w q r.1 []
  else
    let s := if use.isSome then s.useKey h else s
    let r := s.keySync p fn h k q rdw
    r.2.2.keyEnd l rd w q r.1 r.2.1

/-- KEYOP: the block's window settled; an address in no window raises ADDR, a POISON window SEAL, and rd is 0; a block that leaves its
window is LEN. -/
def State.keyop (s : State) (l : Nat) (q : PQ) (fn : Nat) (rd ra rb : Fin 32) : State :=
  let word := wordA 0x32 rd.val ra.val rb.val fn q
  s.instr l q word 1 false [] (fun t s =>
    let a := (s.g l ra).toNat
    match winOf a with
    | none => (s.raise l cADDR word 0 0 a).setG l rd 0
    | some w =>
      let s := s.settleW l w
      if (s.lamp l).win[w].st == .poison then (s.poisonHit l w word a).setG l rd 0
      else if 4096 < a % 4096 + 32 then s.setG l rd (keyResult vsLEN 0)
      else s.keyRun l t.part fn rd (s.g l rb).toNat word w (keyReq (s.winBytes l w (a % 4096) 32)))

/-- KEYOP ENC. -/
def execKeyopEnc (l : Fin 64) (q : PQ) (rd ra rb : Fin 32) (s : State) : Out := s.onCore (fun s => s.keyop l q koENC rd ra rb)
/-- KEYOP DEC. -/
def execKeyopDec (l : Fin 64) (q : PQ) (rd ra rb : Fin 32) (s : State) : Out := s.onCore (fun s => s.keyop l q koDEC rd ra rb)
/-- KEYOP SIGN. -/
def execKeyopSign (l : Fin 64) (q : PQ) (rd ra rb : Fin 32) (s : State) : Out := s.onCore (fun s => s.keyop l q koSIGN rd ra rb)
/-- KEYOP VERIFY. -/
def execKeyopVerify (l : Fin 64) (q : PQ) (rd ra rb : Fin 32) (s : State) : Out := s.onCore (fun s => s.keyop l q koVERIFY rd ra rb)
/-- KEYOP DERIVE. -/
def execKeyopDerive (l : Fin 64) (q : PQ) (rd ra rb : Fin 32) (s : State) : Out := s.onCore (fun s => s.keyop l q koDERIVE rd ra rb)
/-- KEYOP WRAP. -/
def execKeyopWrap (l : Fin 64) (q : PQ) (rd ra rb : Fin 32) (s : State) : Out := s.onCore (fun s => s.keyop l q koWRAP rd ra rb)
/-- KEYOP KEYSTAGE. -/
def execKeystage (l : Fin 64) (q : PQ) (rd ra rb : Fin 32) (s : State) : Out := s.onCore (fun s => s.keyop l q koSTAGE rd ra rb)
/-- KEYOP KEYVERIFY. -/
def execKeyverify (l : Fin 64) (q : PQ) (rd ra rb : Fin 32) (s : State) : Out := s.onCore (fun s => s.keyop l q koCHECK rd ra rb)
/-- KEYOP KEYCOMMIT. -/
def execKeycommit (l : Fin 64) (q : PQ) (rd ra rb : Fin 32) (s : State) : Out := s.onCore (fun s => s.keyop l q koCOMMIT rd ra rb)
/-- KEYOP RANDOM. -/
def execRandom (l : Fin 64) (q : PQ) (rd ra rb : Fin 32) (s : State) : Out := s.onCore (fun s => s.keyop l q koRANDOM rd ra rb)

/-! ### The asymmetric engine (R444) -/

/-- A pending request's result: status, output and state. -/
def State.asymRun (s : State) (p : Nat) (q : AsymReq) : Nat × List Byte × State :=
  let h := (s.keyRef p q.handle).getD .root
  let k := s.keyAt p h
  match q.op with
  | 2 =>
    let s := s.useKey h
    if k.type = ktMLDSA ∧ Config.signGivesUp s.free then (vsRETRY, [], s.draw)
    else if k.type = ktP384 ∨ k.type = ktMLDSA then (vsOK, Config.asymSign k.type k.key q.input s.free, s.draw)
    else (vsEMPTY, [], s)
  | 3 =>
    let s := s.useKey h
    if k.type = ktP384_PUB ∨ k.type = ktMLDSA_PUB then
      (if Config.asymVerify k.type k.key q.input q.aux then vsOK else vsAUTH_FAIL, [], s)
    else (vsEMPTY, [], s)
  | 4 =>
    let s := s.useKey h
    if k.type = ktP384 then match Config.ecdh k.key q.input with
      | some z => let r := s.deriveTo p q.dest q.param q.uses { k with key := z, usage := 0x3F } q.label; (r.1, [], r.2)
      | none => (vsSTATE, [], s)
    else (vsEMPTY, [], s)
  | _ => match s.keyRef p q.dest with
    | some (.slot n) =>
      let r := s.generate n q.param q.uses
      (r.1, if r.1 = vsOK then Config.publicKey (q.param / 256 % 8) (r.2.slot n).pend.key else [], r.2)
    | _ => (vsSTATE, [], s)

/-- The result goes to the REPLY inbox at the ferry of the tick after the window's last, or answers the Mooring command. -/
def State.asymEnd (s : State) (q : AsymReq) (st : Nat) (out : List Byte) (due : Nat) : State := match q.moor with
  | some (sess, req) => s.reply sess req (if st = vsOK then 0 else 10) true (if st = vsOK then out else [BitVec.ofNat 8 st])
  | none => s.setVault (fun v => { v with results := v.results ++ [(due, q.reply, st, out)] })

/-- Window w of the frame, 0 to 6, runs the request of its partition, if it was queued before the window began. -/
def State.asymWindow (s : State) (w : Nat) : State :=
  let a := R.VAULT_ASYM_WIN w
  let p := s.fld a F.VAULT_ASYM_WIN_PART
  let start := s.tick.abs - s.tick.abs % 12
  match tget s.vault.asym p with
  | some q =>
    if s.flag a F.VAULT_ASYM_WIN_VALID ∧ s.tick.abs % 96 / 12 = w ∧ q.since < start then
      let s := (s.setVault (fun v => { v with asym := tdel v.asym p })).showAsym
      let r := s.asymRun p q
      r.2.2.asymEnd q r.1 r.2.1 (start + 12)
    else s
  | none => s

/-! ### Register writes -/

/-- The partition a vault register binds. -/
def vaultPart (w : Word) : Option Nat := if w.getLsbD 31 then some (w.toNat / 2 ^ 24 % 128) else none

/-- A write of VAULT_SLOT_n or VAULT_ASYM_WIN_w (R153, R440): slot 63 ignores writes. -/
def State.vaultBind (s : State) (a : Nat) (w : Word) : State :=
  let old := s.reg a
  let new := (old &&& 0x00FFFFFF#32) ||| (w &&& 0xFF000000#32)
  if a = R.VAULT_SLOT 63 then s
  else if old ≠ new && !s.rebindOk (vaultPart old) (vaultPart new) then s.allotBusy ((vaultPart old).getD 0xFF) a
  else s.setReg a new

/-- VAULT_DRV_WRITE (R442, R153): entries above a lower LIMIT are emptied. -/
def State.drvWrite (s : State) (p : Nat) (w : Word) : State :=
  let a := R.VAULT_DRV p
  let n := F.VAULT_DRV_LIMIT.get w
  let old := s.fld a F.VAULT_DRV_LIMIT
  let sum := (List.range 128).foldl (fun k q => k + (if q = p then n else s.fld (R.VAULT_DRV q) F.VAULT_DRV_LIMIT)) 0
  if 16 < n ∨ (old < n ∧ 1024 < sum) then s.event Ev.VAULT_DRV_OVER 0xFF a
  else if n < old && !s.mayWithdraw p then s.allotBusy p a
  else
    let s := s.setFld a F.VAULT_DRV_LIMIT n
    (s.setVault (fun v => { v with drv := v.drv.filter (fun e => e.1 / 16 != p || decide (e.1 % 16 < n)) })).showDrv p

/-- VAULT_DRV_WRITE. -/
def execVaultDrvWrite (part : Fin 128) (w : Word) (s : State) : Out := s.onCore (fun s => s.drvWrite part.val w)

/-- ENTROPY_FAIL (R448). -/
def execEntropyFail (s : State) : Out :=
  s.onCore (fun s => (s.setFlag R.VAULT_STAT F.VAULT_STAT_ENTROPY_FAIL true).event Ev.ENTROPY_FAIL)

/-- ENTROPY_RESTART (R448). -/
def execEntropyRestart (s : State) : Out := s.onCore (fun s => s.setFlag R.VAULT_STAT F.VAULT_STAT_ENTROPY_FAIL false)

/-- The keys of partition p at a tenancy end (R26, R439, R442): its slots and derived entries, its anchor, its request; the tenancy counter
grows. -/
def State.vaultEnd (s : State) (p : Nat) : State :=
  let mine := (List.range 63).filter (fun n => s.slotOwner n == some p)
  let s := mine.foldl (fun (s : State) n => s.setSlot n VSlot.reset) s
  let s := s.setVault (fun v => { v with
    kept := v.kept.filter (fun e => !mine.contains e.1), keepDue := v.keepDue.filter (fun n => !mine.contains n),
    drv := v.drv.filter (fun e => e.1 / 16 != p), anchors := tdel v.anchors p, asym := tdel v.asym p, codes := tdel v.codes p,
    ten := tput v.ten p (tgetD v.ten p 0 + 1) })
  (s.showDrv p).showAsym

/-- Every slot and derived entry zeroised. -/
def State.vaultZero (s : State) : State :=
  let ns := s.vault.slots.map (fun e => e.1)
  let ps := luniq (s.vault.drv.map (fun e => e.1 / 16))
  let s := s.setVault (fun v => { v with slots := [], drv := [], kept := [], keepDue := [] })
  ps.foldl (fun (s : State) p => s.showDrv p) (ns.foldl (fun (s : State) n => s.showSlot n) s)

/-! ### Mooring sessions' end, and tamper (R457 to R462, R535) -/

/-- Causes of MOOR_SESSION_END, in the order of R535 (log entry 26). -/
abbrev seCLOSE : Nat := 1
abbrev seIDLE : Nat := 2
abbrev seLIFETIME : Nat := 3
abbrev seTAKEOVER : Nat := 4
abbrev seRESET : Nat := 5
abbrev seZEROISE : Nat := 6
abbrev seTENANCY : Nat := 7

/-- A session ends: its keys are gone, its SAFE unlock ends, its commands not yet in effect are dropped (R535). -/
def State.endSession (s : State) (sess cause : Nat) : State := match tget s.moor.sessions sess with
  | none => s
  | some x =>
    let s : State := { s with moor := { s.moor with sessions := tdel s.moor.sessions sess,
                                                    cmds := s.moor.cmds.filter (fun c => c.sess != sess) } }
    let s := match s.safe.unlock with
      | some (u, _) => if u = sess then s.safeLock else s
      | none => s
    if x.ready then s.event Ev.MOOR_SESSION_END (if x.role = 1 then x.part else 0xFF) cause else s

def State.endSessions (s : State) (cause : Nat) : State :=
  (s.moor.sessions.map (fun e => e.1)).foldl (fun (s : State) n => s.endSession n cause) s

/-- The slot or derived entry a handle of partition p names is zeroised (R459). -/
def State.zeroKey (s : State) (p h : Nat) : State := match s.keyRef p h with
  | some (.slot n) => (s.setSlot n VSlot.reset).setVault (fun v => { v with kept := tdel v.kept n })
  | some (.drv i) => (s.setVault (fun v => { v with drv := tdel v.drv (16 * p + i) })).showDrv p
  | _ => s

/-- Every pending asymmetric request is aborted with TAMPER, the slot or derived entry it used zeroised (R459): the key of its
handle, or the slot KEYSTAGE stages into. -/
def State.abortAsym (s : State) : State :=
  let l := s.vault.asym
  let s := (s.setVault (fun v => { v with asym := [] })).showAsym
  l.foldl (fun (s : State) (e : Nat × AsymReq) =>
    (s.zeroKey e.1 (if e.2.op = koSTAGE then e.2.dest else e.2.handle)).asymEnd e.2 vsTAMPER [] (s.tick.abs + 1)) s

/-- ZEROISE (R460): every key gone, BK redrawn, every Mooring session ended. -/
def State.zeroiseKeys (s : State) : State :=
  let s := s.vaultZero
  let r := s.random 32
  let s := r.2.setVault (fun v => { v with bk := r.1 })
  s.endSessions seZEROISE

/-- The action of a sensor: MESH (bit 0) and CLOCK (bit 4) always ZEROISE (R460). -/
def State.tamperZeroises (s : State) (bits : Nat) : Bool :=
  let c := R.VAULT_TAMPER_CFG
  bit bits 0 || bit bits 4 || (bit bits 1 && s.flag c F.VAULT_TAMPER_CFG_LIGHT_ACT) || (bit bits 2 && s.flag c F.VAULT_TAMPER_CFG_TEMP_ACT) ||
    (bit bits 3 && s.flag c F.VAULT_TAMPER_CFG_GLITCH_ACT)

/-- Sensors trip in normal running (R459 to R461): logged, latched in the tamper record and VAULT_TAMPER_STAT, counted; with ZEROISE the
keys go. -/
def State.tamper (s : State) (bits : Nat) : State :=
  let bits := bits % 32
  if bits = 0 then s
  else
    let n := ((List.range 5).filter (fun i => bit bits i)).length
    let a := R.VAULT_TAMPER_STAT
    let s := s.setFld a F.VAULT_TAMPER_STAT_EVENTS (satAdd (s.fld a F.VAULT_TAMPER_STAT_EVENTS) n 65535)
    let s := s.setReg a (s.reg a ||| w32 bits)
    let s := s.trecAdd bits
    let s := s.event Ev.TAMPER 0xFF bits
    let s := s.abortAsym
    if s.tamperZeroises bits then s.zeroiseKeys else s

/-- TAMPER-HALT (R457): a sensor is active before the first key is unsealed; the event is latched in the tamper record. -/
def State.tamperHalt (s : State) (bits : Nat) : State :=
  let s := (s.trecAdd bits).setReg R.VAULT_TAMPER_STAT (s.reg R.VAULT_TAMPER_STAT ||| w32 bits)
  (s.setFlag R.VAULT_STAT F.VAULT_STAT_HALT true).setFld R.ID_BOOT F.ID_BOOT_PHASE 14

/-- TAMPER: the sensors in the order of VAULT_TAMPER_STAT. From power-good until the first key is unsealed it halts the boot (R457,
R461). -/
def execTamper (sensors : BitVec 5) (s : State) : Out :=
  s.onCore (fun s =>
    if s.vault.unsealed then s.tamper sensors.toNat
    else if s.flag R.ID_PWR_STAT F.ID_PWR_STAT_HOLD_OK ∧ sensors ≠ 0 then s.tamperHalt sensors.toNat
    else s)

/-- TAMPER_CELL_EVENT: on the cell a MESH or LIGHT event erases BK and is latched with the RTC's time stamp (R458). -/
def execTamperCellEvent (mesh light : Bool) (s : State) : Out :=
  .next (
    let bits := b2n mesh + 2 * b2n light
    if !s.rtc.onCell ∨ bits = 0 then s
    else
      let s : State := { s with rtc := { s.rtc with bk := false } }
      (s.setVault (fun v => { v with bk := [] })).trecAdd bits)

/-- VAULT_CLOCK_CHECK: CORE cycles in 4,096 VAULT cycles; a count outside 10,900 to 15,300 trips CLOCK (R462). -/
def execVaultClockCheck (count : Nat) (s : State) : Out :=
  s.onCore (fun s => if 10900 ≤ count ∧ count ≤ 15300 then s else s.tamper 16)

/-- CLAIM_CODE_EXPIRY: an unused code is valid for 414,720,000 ticks (R542). -/
def execClaimCodeExpiry (part : Fin 128) (s : State) : Out :=
  s.onCore (fun s => match tget s.vault.codes part.val with
    | some c => if c.since + 414720000 ≤ s.tick.count then s.setVault (fun v => { v with codes := tdel v.codes part.val }) else s
    | none => s)

/-! ### The shutter (R313, R543) -/

abbrev shAPPLIED : Nat := 1
abbrev shBAD_CMAC : Nat := 2
abbrev shREPLAY : Nat := 3
abbrev shBAD_PORT : Nat := 4
abbrev shNO_KEY : Nat := 5

/-- The result of the checks on a shutter datagram of 48 bytes, in the order of R313. The module's own serial number stands in place of
bytes 8–15 of the body. -/
def State.shutterCheck (s : State) (b : List Byte) : Nat :=
  let k := (s.slot 63).act
  let body := b.drop 24
  let msg := b.take 24 ++ body.take 8 ++ beBytes 8 s.boot.serial.toNat
  let form : Bool := b.length == 48 && beNat (sub b 6 2) == 24 && beNat (sub b 8 12) == 0 && leAt b 5 1 == 0 && beNat (sub b 20 4) == 0 &&
    leAt body 5 1 < 4 && beNat (sub body 6 2) == 0
  if k.type = ktEMPTY then shNO_KEY
  else if !form || (cmac k.key msg).take 8 ≠ sub body 16 8 then shBAD_CMAC
  else if beNat (sub body 0 4) ≤ (s.reg R.SW_SHUT_CTR).toNat then shREPLAY
  else if 40 ≤ leAt body 4 1 then shBAD_PORT
  else shAPPLIED

/-- A shutter frame received at a port. -/
def State.shutter (s : State) (port : Nat) (b : List Byte) : State :=
  let r := s.shutterCheck b
  let body := b.drop 24
  let p := leAt body 4 1
  let a := R.SW_SHUT_STAT
  let s := (s.setFld a F.SW_SHUT_STAT_LAST r).setFld a F.SW_SHUT_STAT_PORT p
  let s := if r = shAPPLIED then
      let c := beNat (sub body 0 4)
      let s := ((s.incFld a F.SW_SHUT_STAT_OK 255).swCount port cSHUT_OK).setReg R.SW_SHUT_CTR (w32 c)
      let act := leAt body 5 1
      { s with keep := { s.keep with s3 := w32 c }, sw := { s.sw with shut := tput s.sw.shut p (bit act 0, bit act 1) } }
    else (s.incFld a F.SW_SHUT_STAT_BAD 255).swCount port cSHUT_BAD
  s.event Ev.SHUTTER_RESULT 0xFF r p

/-- SHUTTER. -/
def execShutter (port : Fin 40) (datagram : List Byte) (s : State) : Out := s.onCore (fun s => s.shutter port.val datagram)

end Sys2Proof.Machine
end

