-- ==== Sys2Proof/Machine/Metro.lean ====
section
/-!
DEFINITION. The sealed metrology section and its link (chapter 20). The commands of the die have their effect whatever the
main die does (R480); those of the main die's side have none while CORE is stopped, and frames that arrive then are lost
(R481).
-/
namespace Sys2Proof.Machine

/-! ### The die -/

def State.setMet (s : State) (f : MetSt → MetSt) : State := { s with met := f s.met }
def State.setDie (s : State) (f : MetDie → MetDie) : State := s.setMet (fun m => { m with die := f m.die })

/-- Legal parameter i (R469). -/
def MetDie.par (d : MetDie) (i : Nat) : Nat := d.params.getD i 0

/-- PAR_CHK (R469). -/
def MetDie.parChk (d : MetDie) : Nat := crc16 (d.params.flatMap (fun v => leBytes 4 v))

/-- Element e is out of use in the running interval (R464). -/
def MetDie.outOfUse (d : MetDie) (e : Nat) : Bool := d.force.getD (e / 3) 0 == 1 && e % 3 != 0

/-- OPSEC (R471). -/
def MetDie.opsec (d : MetDie) : Nat := d.ops / 10

/-- LOG_FULL (R472). -/
def MetDie.logFull (d : MetDie) : Bool := 1008 ≤ d.log.length

/-- The bytes of a log entry (R471). -/
def MetEntry.bytes (e : MetEntry) : List Byte :=
  let b := beBytes 4 e.evcnt ++ beBytes 1 e.kind ++ beBytes 1 e.param ++ [0, 0] ++ beBytes 4 e.opsec ++ beBytes 4 e.tai ++
    beBytes 4 e.old ++ beBytes 4 e.new ++ beBytes 2 e.chk ++ [0, 0]
  b ++ beBytes 4 (crc32c b)

/-- The die sends a frame (R474). -/
def State.dieSend (s : State) (type : Nat) (body : List Byte) : State := s.setMet (fun m =>
  { m with die := { m.die with seq := (m.die.seq + 1) % 256 }, toMain := m.toMain ++ [⟨type, m.die.seq, body⟩] })

/-- The main die sends a frame (R474). -/
def State.mainSend (s : State) (type : Nat) (body : List Byte) : State := s.setMet (fun m =>
  { m with seq := (m.seq + 1) % 256, toDie := m.toDie ++ [⟨type, m.seq, body⟩] })

abbrev lfMEAS : Nat := 0x01
abbrev lfLOG : Nat := 0x02
abbrev lfIDENT : Nat := 0x03
abbrev lfCHG_RESULT : Nat := 0x04
abbrev lfTIME : Nat := 0x81
abbrev lfCHG_REQ : Nat := 0x82
abbrev lfTEST_SEL : Nat := 0x83
abbrev lfLOG_REQ : Nat := 0x84

/-- A legal event (R471, R472): the counter grows, and an entry is written and sent while the log has room. -/
def State.legal (s : State) (kind param old new : Nat) : State :=
  let d := s.met.die
  let n := (d.evcnt + 1) % 2 ^ 32
  let e : MetEntry := ⟨n, kind, param, d.opsec % 2 ^ 32, d.tai % 2 ^ 32, old, new, d.parChk⟩
  let s := s.setDie (fun d => { d with evcnt := n })
  if d.log.length < 1024 then (s.setDie (fun d => { d with log := d.log ++ [e] })).dieSend lfLOG e.bytes else s

/-- IDENT (R475). -/
def State.sendIdent (s : State) : State :=
  let d := s.met.die
  s.dieSend lfIDENT (sub d.ident 0 16 ++ beBytes 2 d.chk ++ sub d.serial 0 8 ++ [0, 0])

/-- FLAGS of MEAS (R476). -/
def MetDie.flags (d : MetDie) : Nat :=
  b2n d.fault + 2 * b2n d.change + 4 * b2n d.cover + 8 * b2n d.logFull + 16 * b2n d.nov

/-- The body of MEAS (R476) for the interval that ends. -/
def MetDie.body (d : MetDie) (m : MeasIn) : List Byte :=
  let w (x : Word) : List Byte := beBytes 4 x.toNat
  beBytes 4 d.interval ++ beBytes 1 d.flags ++ [0, 0, 0] ++ (List.range 3).flatMap (fun i => w (m.u.getD i 0)) ++ w m.freq ++
    beBytes 4 d.evcnt ++ beBytes 2 d.chk ++ beBytes 2 d.parChk ++
    (List.range 24).flatMap (fun e =>
      (List.range 4).flatMap (fun k => w (if d.outOfUse e then 0 else (m.elems.getD e []).getD k 0)) ++
      (List.range 6).flatMap (fun r => beBytes 8 (tgetD d.regs (6 * e + r) 0)))

/-- The energy of an interval enters the registers (R466), not those of an element out of use (R464) and none during
SW_FAULT (R473). -/
def MetDie.accumulate (d : MetDie) (m : MeasIn) : MetDie :=
  if d.fault then d
  else { d with regs := m.energy.foldl (fun t x =>
    if x.1 < 144 && !d.outOfUse (x.1 / 6) then tput t x.1 ((tgetD t x.1 0 + x.2) % 2 ^ 64) else t) d.regs }

/-- MEAS_INTERVAL_END (R476): the interval's energy is complete, MEAS is sent, and the next interval starts with the
parameters and the test output last set (R468, R470). -/
def State.intervalEnd (s : State) (m : MeasIn) : State :=
  if !s.met.die.on then s
  else
    let s := s.setDie (fun d => { (d.accumulate m) with nov := m.nov })
    let s := s.dieSend lfMEAS (s.met.die.body m)
    s.setDie (fun d =>
      { d with interval := (d.interval + 1) % 2 ^ 32, ops := d.ops + 1, force := d.params, test := d.sel })

/-- MEAS_INTERVAL_END. -/
def execMeasIntervalEnd (m : MeasIn) (s : State) : Out := .next (s.intervalEnd m)

/-- What the test output LED shows (R468, R473). -/
inductive TestLed where
  | dark | steady
  /-- pulses at 10,000 imp/kWh of the element -/
  | pulses (e : Nat)
  deriving DecidableEq, Repr

def MetDie.led (d : MetDie) : TestLed :=
  if !d.on then .dark else if d.fault then .steady
  else if !d.test.2 || 24 ≤ d.test.1 || d.outOfUse d.test.1 then .dark else .pulses d.test.1

/-- A movement of the cover contact or the seal switch, logged where the die runs and it is one. -/
def State.seal (s : State) (moved : MetDie → Bool) (f : MetDie → MetDie) (kind : Nat) : State :=
  if s.met.die.on && moved s.met.die then (s.setDie f).legal kind 0 0 0 else s.setDie f

/-- COVER_OPEN (R471). -/
def execCoverOpen (s : State) : Out := .next (s.seal (fun d => !d.cover) (fun d => { d with cover := true }) 2)
/-- COVER_CLOSED. -/
def execCoverClosed (s : State) : Out := .next (s.seal (fun d => d.cover) (fun d => { d with cover := false }) 3)
/-- SWITCH_CHANGE. -/
def execSwitchChange (s : State) : Out := .next (s.seal (fun d => !d.change) (fun d => { d with change := true }) 4)
/-- SWITCH_LOCKED. -/
def execSwitchLocked (s : State) : Out := .next (s.seal (fun d => d.change) (fun d => { d with change := false }) 5)

/-- SW_FAULT (R473): a checksum that differs; it ends by factory repair only. -/
def execSwFault (s : State) : Out :=
  .next (if s.met.die.on && !s.met.die.fault then (s.setDie (fun d => { d with fault := true })).legal 6 0 0 0 else s)

/-- The die stores its registers, counter and log (R467). -/
def MetDie.store (d : MetDie) : MetDie := { d with kept := ⟨d.regs, d.evcnt, d.log⟩ }

/-- METRO_SUPPLY_LOSS (R467). -/
def execMetroSupplyLoss (s : State) : Out :=
  .next (if s.met.die.on then s.setDie (fun d => { d.store with on := false, losses := d.losses + 1 }) else s)

/-- METRO_HOURLY_STORE (R467). -/
def execMetroHourlyStore (s : State) : Out := .next (if s.met.die.on then s.setDie MetDie.store else s)

/-- METRO_START (R467, R471, R473): the die restores its registers, has no TAI reference, and sends IDENT. -/
def execMetroStart (s : State) : Out :=
  .next (if s.met.die.on then s
    else (s.setDie (fun d => { d with on := true, regs := d.kept.regs, evcnt := d.kept.evcnt, log := d.kept.log, tai := 0,
                                      force := d.params })).sendIdent)

/-! ### Frames the die receives (R475) -/

/-- The die takes the next frame of the link where it is of a type: its body, none for a bad frame, which it counts (R474). -/
def State.dieTake (s : State) (type : Nat) (ok : Bool) : Option (List Byte) × State := match s.met.toDie with
  | f :: t =>
    if f.type ≠ type then (none, s)
    else
      let s := s.setMet (fun m => { m with toDie := t })
      if !s.met.die.on then (none, s)
      else if ok then (some f.body, s)
      else (none, s.setDie (fun d => { d with bad := d.bad + 1 }))
  | [] => (none, s)

/-- TIME: the TAI reference (R471). The rules do not say when the main die sends it; the frame is the command's operand
(log entry 28). -/
def execMetTime (sec : BitVec 64) (crcOk : Bool) (s : State) : Out :=
  .next (if !s.met.die.on then s
    else s.setDie (fun d => if crcOk then { d with tai := sec.toNat } else { d with bad := d.bad + 1 }))

/-- TEST_SEL: in force from the next interval (R468). -/
def execTestSel (crcOk : Bool) (s : State) : Out :=
  .next (match s.dieTake lfTEST_SEL crcOk with
    | (some b, s) => s.setDie (fun d => { d with sel := (beNat (sub b 0 1), beNat (sub b 1 1) == 1) })
    | (none, s) => s)

/-- LOG_REQ: IDENT, then the log from an index (R475). -/
def execLogReq (crcOk : Bool) (s : State) : Out :=
  .next (match s.dieTake lfLOG_REQ crcOk with
    | (some b, s) => (s.met.die.log.drop (beNat (sub b 0 2))).foldl (fun s e => s.dieSend lfLOG e.bytes) s.sendIdent
    | (none, s) => s)

/-- A value a parameter may take, and the conditions of R469 on groups. -/
def MetDie.rangeOk (d : MetDie) (i v : Nat) : Bool :=
  let same (g : Nat) (f : Nat → Nat) : Bool := f (3 * g) == f (3 * g + 1) && f (3 * g) == f (3 * g + 2)
  if i < 8 then v == 0 || (v == 1 && same i (fun e => d.par (8 + e)))
  else if i < 32 then
    let e := i - 8
    1 ≤ v && v ≤ 2000 && (d.par (e / 3) == 0 || same (e / 3) (fun k => if k = e then v else d.par (8 + k)))
  else if i < 56 then v ≤ 2
  else if i < 80 then v ≤ 1
  else i == 80 && (v == 50 || v == 60)

/-- Results of CHG_REQ (METL_CHG_STAT.RESULT). -/
abbrev crOK : Nat := 0
abbrev crPENDING : Nat := 1
abbrev crLOCKED : Nat := 2
abbrev crRANGE : Nat := 3
abbrev crLOG_FULL : Nat := 4
abbrev crSW_FAULT : Nat := 5
abbrev crNO_LINK : Nat := 6

/-- The result of a request, the refusals in the order of R470 (log entry 29). -/
def MetDie.judge (d : MetDie) (i v : Nat) : Nat :=
  if !d.change then crLOCKED else if !d.rangeOk i v then crRANGE else if d.logFull then crLOG_FULL
  else if d.fault then crSW_FAULT else crOK

/-- A parameter change request executed or refused (R470), and its answer. -/
def State.changeReq (s : State) (i v : Nat) : State :=
  let d := s.met.die
  let r := d.judge i v
  let s := if r = crOK then (s.setDie (fun d => { d with params := lset d.params i v })).legal 1 i (d.par i) v
    else s.setDie (fun d => { d with refused := d.refused + 1 })
  s.dieSend lfCHG_RESULT (beBytes 1 i ++ beBytes 1 r ++ [0, 0] ++ beBytes 4 s.met.die.evcnt)

/-- CHG_REQ. -/
def execChgReq (crcOk : Bool) (s : State) : Out :=
  .next (match s.dieTake lfCHG_REQ crcOk with
    | (some b, s) => s.changeReq (beNat (sub b 0 1)) (beNat (sub b 4 4))
    | (none, s) => s)

/-! ### Frames the main die receives (R475, R477) -/

/-- A frame of a type complete on the main die: it waits for the landing (R477, R93); a bad one is counted (R474). -/
def State.mainTake (s : State) (type : Nat) (ok : Bool) : State := match s.met.toMain with
  | f :: t =>
    if f.type ≠ type then s
    else
      let s := s.setMet (fun m => { m with toMain := t })
      if !s.coreOn then s
      else if ok then s.setMet (fun m => { m with arrived := m.arrived ++ [f] })
      else s.incFld R.METL_STAT F.METL_STAT_FRAMES_BAD 255
  | [] => s

/-- MEAS. -/
def execMeas (crcOk : Bool) (s : State) : Out := .next (s.mainTake lfMEAS crcOk)
/-- LOG. -/
def execMetLog (crcOk : Bool) (s : State) : Out := .next (s.mainTake lfLOG crcOk)
/-- IDENT. -/
def execMetIdent (crcOk : Bool) (s : State) : Out := .next (s.mainTake lfIDENT crcOk)
/-- CHG_RESULT. -/
def execChgResult (crcOk : Bool) (s : State) : Out := .next (s.mainTake lfCHG_RESULT crcOk)

/-- A visible MEAS body updates the METL registers (R477) and sets LINK (R481). -/
def State.measLand (s : State) (b : List Byte) : State :=
  let a := R.METL_STAT
  let s := if s.flag a F.METL_STAT_LINK then s else (s.setFlag a F.METL_STAT_LINK true).event Ev.METL_LINK_UP
  let fl := beNat (sub b 4 1)
  let s := (s.setFlag a F.METL_STAT_SW_FAULT (bit fl 0)).setFlag a F.METL_STAT_SWITCH (bit fl 1)
  let s := (s.setFlag a F.METL_STAT_COVER (bit fl 2)).setFlag a F.METL_STAT_LOG_FULL (bit fl 3)
  let s := (s.setFlag a F.METL_STAT_NOV (bit fl 4)).setReg R.METL_EVCNT (w32 (beNat (sub b 24 4)))
  let s := s.setReg R.METL_CHKSUM (w32 (beNat (sub b 28 4)))
  let s := (List.range 144).foldl (fun (s : State) k =>
    let v := beNat (sub b (48 + 64 * (k / 6) + 8 * (k % 6)) 8)
    (s.setReg (R.METL_EN_LO (k / 6) (k % 6)) (w32 v)).setReg (R.METL_EN_HI (k / 6) (k % 6)) (w32 (v / 2 ^ 32))) s
  s.setMet (fun m => { m with meas := some (b, s.tick.count) })

/-- A log entry joins the main die's copy, once (R475). -/
def State.logLand (s : State) (b : List Byte) : State :=
  if s.met.copy.contains b || 1024 ≤ s.met.copy.length then s else s.setMet (fun m => { m with copy := m.copy ++ [b] })

/-- The software identity (R475). -/
def State.identLand (s : State) (b : List Byte) : State :=
  let s := (List.range 4).foldl (fun (s : State) n => s.setReg (R.METL_ID n) (w32 (leAt b (4 * n) 4))) s
  s.setFld R.METL_CHKSUM F.METL_CHKSUM_SW_CHK (beNat (sub b 16 2))

/-- The frames received in the tick before become visible (R477). -/
def State.metLand (s : State) : State :=
  let fs := s.met.arrived
  let s := s.setMet (fun m => { m with arrived := [] })
  fs.foldl (fun (s : State) f =>
    if f.type = lfMEAS then s.measLand f.body else if f.type = lfLOG then s.logLand f.body
    else if f.type = lfIDENT then s.identLand f.body
    else s.setFld R.METL_CHG_STAT F.METL_CHG_STAT_RESULT (beNat (sub f.body 1 1))) s

/-- ENTRIES and FULL of METL_LOG_SEL, and the words of the selected entry. -/
def State.logSel (s : State) : Word :=
  let n := s.met.copy.length
  F.METL_LOG_SEL_FULL.put (F.METL_LOG_SEL_ENTRIES.put (s.reg R.METL_LOG_SEL) (min n 1023)) (b2n (decide (n = 1024)))
def State.logWord (s : State) (i : Nat) : Word :=
  w32 (beNat (sub (s.met.copy.getD (s.fld R.METL_LOG_SEL F.METL_LOG_SEL_IDX) []) (4 * i) 4))

/-- METL_CHG_CMD.GO (R470, R481): a second request while one is PENDING is discarded; without a link it ends with NO_LINK. -/
def State.chgGo (s : State) (w : Word) : State :=
  let r := R.METL_CHG_STAT
  if !F.METL_CHG_CMD_GO.get w == 1 || s.fld r F.METL_CHG_STAT_RESULT == crPENDING then s
  else if !s.flag R.METL_STAT F.METL_STAT_LINK then s.setFld r F.METL_CHG_STAT_RESULT crNO_LINK
  else (s.mainSend lfCHG_REQ (beBytes 1 (F.METL_CHG_CMD_PARAM.get w) ++ [0, 0, 0] ++ beBytes 4 (s.reg R.METL_CHG_VAL).toNat)).setFld
    r F.METL_CHG_STAT_RESULT crPENDING

/-- METL_CHG_GO. -/
def execMetlChgGo (w : Word) (s : State) : Out := s.onCore (fun s => s.chgGo w)

/-- A METL_TEST write is sent as TEST_SEL (R468). -/
def State.testWrite (s : State) (w : Word) : State :=
  let s := s.setReg R.METL_TEST (w &&& 0x8000001F)
  s.mainSend lfTEST_SEL (beBytes 1 (F.METL_TEST_ELEM.get w) ++ beBytes 1 (F.METL_TEST_EN.get w) ++ [0, 0])

/-- METL_TEST_WRITE. -/
def execMetlTestWrite (w : Word) (s : State) : Out := s.onCore (fun s => s.testWrite w)

/-- METL_LINK_DOWN (R481): no valid MEAS for 1440 ticks; a request still PENDING ends with NO_LINK (log entry 30). -/
def execMetlLinkDown (s : State) : Out :=
  s.onCore (fun s =>
    let old : Bool := match s.met.meas with | some (_, t) => t + 1440 ≤ s.tick.count | none => true
    if s.flag R.METL_STAT F.METL_STAT_LINK && old then
      let s := (s.setFlag R.METL_STAT F.METL_STAT_LINK false).event Ev.METL_LINK_DOWN
      if s.fld R.METL_CHG_STAT F.METL_CHG_STAT_RESULT = crPENDING then s.setFld R.METL_CHG_STAT F.METL_CHG_STAT_RESULT crNO_LINK else s
    else s)

/-! ### METER images (R478, R479) -/

/-- TYPE of the point at an offset: FLOAT32, or UINT32 from offset 5. -/
def meterType (k : Nat) : Nat := if k < 5 then 2 else 1

/-- The points an assignment names stand in a WORD input image with SOURCE 4 of the partition (R478). -/
def State.assignOk (s : State) (w : Word) : Bool :=
  let loc := F.METL_ASSIGN_LOC.get w
  let i := F.METL_ASSIGN_INDEX.get w
  let p := F.METL_ASSIGN_PART.get w
  s.dirValid loc && s.dirOwner loc == p && s.dirKind loc == kIMAGE && !s.dirFlag loc fOUTPUT &&
    (match tget (s.part p).hdrs loc with
      | some h => h.layout == lyWORD && h.source == 4 && i + 8 ≤ h.npoints &&
        (List.range 8).all (fun k => h.types.getD (i + k) 9 == meterType k)
      | none => false)

/-- METL_ASSIGN_WRITE (R27, R153, R478). -/
def State.assignWrite (s : State) (e : Nat) (w : Word) : State :=
  let a := R.METL_ASSIGN e
  let w := w &&& 0xFF0FFFFF
  let old := s.reg a
  let p := F.METL_ASSIGN_PART.get old
  let moves := old.getLsbD 31 && (!w.getLsbD 31 || F.METL_ASSIGN_PART.get w != p)
  if w.getLsbD 31 && !s.assignOk w then s.event Ev.METL_MAP_REFUSED (F.METL_ASSIGN_PART.get w)
  else if moves && p != 0 && s.pstate p != psFree then s.event Ev.METL_MAP_REFUSED p
  else if moves && p == 0 && !s.mayWithdraw 0 then s.allotBusy 0 a
  else s.bindWrite a w

/-- METL_ASSIGN_WRITE. -/
def execMetlAssignWrite (e : Fin 24) (w : Word) (s : State) : Out := s.onCore (fun s => s.assignWrite e.val w)

/-- The assignments of a partition are withdrawn at its tenancy end (R26, R478). -/
def State.assignEnd (s : State) (p : Nat) : State :=
  (List.range 24).foldl (fun (s : State) e =>
    let w := s.reg (R.METL_ASSIGN e)
    if w.getLsbD 31 && F.METL_ASSIGN_PART.get w == p then s.setReg (R.METL_ASSIGN e) 0 else s) s

/-- What the METER source gives point i of an image at a landing (R478, R479), none where no element in effect names it. -/
def State.meterPoint (s : State) (loc i : Nat) : Option PtIn :=
  match (List.range 24).find? (fun e =>
    let w := s.reg (R.METL_ASSIGN e)
    w.getLsbD 31 && !s.tick.fresh.contains (R.METL_ASSIGN e) && F.METL_ASSIGN_LOC.get w == loc &&
      F.METL_ASSIGN_INDEX.get w ≤ i && i < F.METL_ASSIGN_INDEX.get w + 8) with
  | none => none
  | some e =>
    let k := i - F.METL_ASSIGN_INDEX.get (s.reg (R.METL_ASSIGN e))
    let (b, t) := s.met.meas.getD ([], 0)
    let age := s.tick.count - t
    let fl := beNat (sub b 4 1)
    let unused := s.met.die.outOfUse e
    let w (off n : Nat) : Nat := beNat (sub b off n)
    let v := if k < 4 then w (32 + 64 * e + 4 * k) 4 else if k = 4 then w 20 4
      else if k = 5 then w (48 + 64 * e) 8 / 1000 else if k = 6 then w (56 + 64 * e) 8 / 1000
      else fl + 256 * b2n unused
    let q := if s.met.meas.isNone || 1440 < age then 2
      else if k != 7 && (bit fl 0 || unused) then 2 else if 720 < age then 1 else 0
    some ⟨if q = 2 then 0 else w32 v, q, w32 (w 0 4)⟩

end Sys2Proof.Machine
end

