-- ==== Sys2Proof/Machine/Keep.lean ====
section
/-!
DEFINITION. Retained storage (chapter 21): ring bindings, stores, the shutdown store, the index of a ring and the filling of
RETAIN tiles at start-up.
-/
namespace Sys2Proof.Machine

def State.setKeep (s : State) (f : KeepSt → KeepSt) : State := { s with keep := f s.keep }

/-! ### Rings (R483, R484) -/

def State.ringPart (s : State) (r : Nat) : Nat := s.fld (R.KEEP_RING_CFG r) F.KEEP_RING_CFG_PART
def State.ringSize (s : State) (r : Nat) : Nat := s.fld (R.KEEP_RING_CFG r) F.KEEP_RING_CFG_SIZE
def State.ringBase (s : State) (r : Nat) : Nat := s.fld (R.KEEP_RING_CFG r) F.KEEP_RING_CFG_BASE
def State.ringBound (s : State) (r : Nat) : Bool :=
  s.flag (R.KEEP_RING_CFG r) F.KEEP_RING_CFG_VALID && !s.tick.fresh.contains (R.KEEP_RING_CFG r)

/-- The location of the RETAIN tile a ring names (R484). -/
def State.ringTile (s : State) (r : Nat) : Option Nat := match s.findIdent (s.reg (R.KEEP_RING_ID r)).toNat with
  | some l => if s.dirOwner l == s.ringPart r && s.dirKind l == kRETAIN then some l else none
  | none => none

/-- The slots of a ring that have a usable page (R494). -/
def State.usable (s : State) (r : Nat) : List Nat :=
  (List.range (s.ringSize r)).filter (fun n => !s.keep.removed.contains (s.ringBase r + n))

/-- States of a ring (KEEP_RING_STAT_r.STATE). Where several fit, ORPHAN goes before MISMATCH and both before WORN (log entry
32). -/
abbrev rgUNBOUND : Nat := 0
abbrev rgEMPTY : Nat := 1
abbrev rgVALID : Nat := 2
abbrev rgCONFLICT : Nat := 3
abbrev rgMISMATCH : Nat := 4
abbrev rgORPHAN : Nat := 5
abbrev rgWORN : Nat := 6

def State.ringState (s : State) (r : Nat) : Nat :=
  if !s.ringBound r then rgUNBOUND
  else match s.ringTile r with
    | none => rgORPHAN
    | some l =>
      if s.dirFlag l fSOF != s.flag (R.KEEP_RING_CFG r) F.KEEP_RING_CFG_SOF then rgMISMATCH
      else if (s.usable r).length < 2 then rgWORN
      else if (s.ring r).conflict then rgCONFLICT
      else if (s.ring r).newest.isNone then rgEMPTY else rgVALID

/-- The ring stores: it is neither ORPHAN, MISMATCH nor WORN. -/
def State.ringStores (s : State) (r : Nat) : Bool :=
  let t := s.ringState r
  t == rgEMPTY || t == rgVALID || t == rgCONFLICT

/-- The ring's tile is dirty (R486). -/
def State.ringDirty (s : State) (r : Nat) : Bool := match s.ringTile r with
  | some l => s.keep.dirty.contains l
  | none => false

/-- A request waits (R487): asked for, or in MODE AUTO the dirty tile itself. -/
def State.ringAsked (s : State) (r : Nat) : Bool :=
  (s.ring r).asked || (s.flag (R.KEEP_RING_CFG r) F.KEEP_RING_CFG_MODE && s.ringDirty r && s.ringStores r)

def State.ringWriting (s : State) (r : Nat) : Bool := s.keep.writes.any (fun w => w.ring == r)

/-- KEEP_RING_STAT_r: STATE, DIRTY, BUSY, CAUSE and NEWEST follow the ring; LAST_ERR and STORES stand in the register. -/
def State.ringStat (s : State) (r : Nat) : Word :=
  let w := s.reg (R.KEEP_RING_STAT r)
  let w := F.KEEP_RING_STAT_STATE.put w (s.ringState r)
  let w := F.KEEP_RING_STAT_DIRTY.put w (b2n (s.ringBound r && s.ringDirty r))
  let w := F.KEEP_RING_STAT_BUSY.put w (b2n (s.ringBound r && (s.ringAsked r || s.ringWriting r)))
  let w := F.KEEP_RING_STAT_CAUSE.put w (match s.newestRec r with | some k => k.cause | none => 0)
  F.KEEP_RING_STAT_NEWEST.put w ((s.ring r).newest.getD 0)

/-- KEEP_STAT: spares free, pages retired, SOF rings. -/
def State.keepStat (s : State) : Word :=
  let used := luniq (s.keep.subst.map (fun e => e.2) ++ s.keep.spent)
  let gone := (luniq (s.keep.subst.map (fun e => e.1) ++ s.keep.removed)).length + s.keep.spent.length
  let sof := (s.boundRings.filter (fun r => s.flag (R.KEEP_RING_CFG r) F.KEEP_RING_CFG_SOF)).length
  F.KEEP_STAT_SOF_RINGS.put (F.KEEP_STAT_RETIRED.put (F.KEEP_STAT_SPARES.put 0 (32 - used.length)) (min gone 255)) sof

/-! ### The index (R491) -/

/-- The newest slot of a ring under the selection of R491. -/
def State.bestSlot (s : State) (r : Nat) : Option Nat :=
  (List.range (s.ringSize r)).foldl (fun (b : Option Nat) n => match s.slotRec r n with
    | none => b
    | some k => match b with
      | none => some n
      | some m => match s.slotRec r m with
        | none => some n
        | some j =>
          let d := (k.seq - j.seq).toNat
          if 1 ≤ d ∧ d ≤ 0x7FFFFFFF then some n else b) none

/-- The slots that hold a sequence number. -/
def State.slotsOfSeq (s : State) (r : Nat) (q : Word) : List Nat :=
  (List.range (s.ringSize r)).filter (fun n => match s.slotRec r n with | some k => k.seq == q | none => false)

/-- The index of a ring built from its pages (R491). -/
def State.ringIndex (s : State) (r : Nat) : State := match s.bestSlot r with
  | none => s.setRing r { s.ring r with newest := none, seq := 0, conflict := false, high := 0 }
  | some b =>
    let q : Word := match s.slotRec r b with | some k => k.seq | none => 0
    let pay (n : Nat) : List (Nat × Byte) := match s.slotRec r n with | some k => k.payload | none => []
    let same := s.slotsOfSeq r q
    let clash := same.any (fun n => pay n != pay b)
    let s := s.setRing r { s.ring r with newest := some b, seq := q, conflict := clash, high := same.foldl max b }
    if clash then s.event Ev.KEEP_CONFLICT 0xFF r else s

/-! ### Bindings (R483, R489, R493) -/

/-- The pages of a run hold no record any more. -/
def State.eraseRun (s : State) (base n : Nat) : State := s.setKeep (fun k =>
  { k with pages := k.pages.filter (fun e => !(List.range n).any (fun i => (tget k.subst (base + i)).getD (base + i) == e.1)) })

/-- Two runs of pages meet. -/
def runsMeet (a n b m : Nat) : Bool := a < b + m && b < a + n

/-- A binding that R483 refuses. -/
def State.ringRefused (s : State) (r : Nat) (cfg gap : Word) : Bool :=
  let n := F.KEEP_RING_CFG_SIZE.get cfg
  let b := F.KEEP_RING_CFG_BASE.get cfg
  n < 2 || 64 < n || b < 64 || 1024 < b + n || F.KEEP_RING_GAP_MIN_GAP.get gap * n < 3029530 ||
    s.boundRings.any (fun q => q != r && runsMeet (s.ringBase q) (s.ringSize q) b n)

/-- KEEP_RING_WRITE: register k (0 CFG, 1 ID, 2 GAP) of ring r. -/
def State.keepRingWrite (s : State) (r k : Nat) (w : Word) : State :=
  let ac := R.KEEP_RING_CFG r
  let ai := R.KEEP_RING_ID r
  let ag := R.KEEP_RING_GAP r
  let c0 := s.reg ac
  let cfg := if k = 0 then w &&& 0xFFC1FFFF else c0
  let ident := if k = 1 then w else s.reg ai
  let gap := if k = 2 then w &&& 0x00FFFFFF else s.reg ag
  let a := if k = 0 then ac else if k = 1 then ai else ag
  let valid (x : Word) : Bool := F.KEEP_RING_CFG_VALID.get x == 1
  let sofs := (s.boundRings.filter (fun q => q != r && s.flag (R.KEEP_RING_CFG q) F.KEEP_RING_CFG_SOF)).length
  if cfg = c0 ∧ ident = s.reg ai ∧ gap = s.reg ag then s
  else if valid cfg && s.ringRefused r cfg gap then s.event Ev.KEEP_RING_REFUSED 0xFF a
  else if valid cfg && F.KEEP_RING_CFG_SOF.get cfg == 1 && 256 ≤ sofs then s.event Ev.KEEP_SOF_OVER 0xFF a
  else if valid c0 && !s.mayWithdraw (F.KEEP_RING_CFG_PART.get c0) then s.allotBusy (F.KEEP_RING_CFG_PART.get c0) a
  else
    let moved := cfg &&& 0x7F01FFFF != c0 &&& 0x7F01FFFF || ident != s.reg ai
    let s := if moved then
        let s := if valid c0 then s.eraseRun (s.ringBase r) (s.ringSize r) else s
        let s := if valid cfg then s.eraseRun (F.KEEP_RING_CFG_BASE.get cfg) (F.KEEP_RING_CFG_SIZE.get cfg) else s
        let s := s.setKeep (fun k => { k with writes := k.writes.filter (fun x => x.ring != r) })
        s.setRing r RingSt.reset
      else s
    let s := ((s.setReg ac cfg).setReg ai ident).setReg ag gap
    let s := if valid cfg && !valid c0 then s.bindWrite ac cfg else s
    if valid cfg then s.ringIndex r else s

/-- KEEP_RING_WRITE. -/
def execKeepRingWrite (r : Fin 256) (k : Fin 3) (w : Word) (s : State) : Out := s.onCore (fun s => s.keepRingWrite r.val k.val w)

/-- KEEP_RING_MISMATCH is logged once (R484). -/
def State.ringsTell (s : State) : State :=
  s.boundRings.foldl (fun (s : State) r =>
    if s.ringState r == rgMISMATCH && !(s.ring r).told then (s.setRing r { s.ring r with told := true }).event Ev.KEEP_RING_MISMATCH 0xFF r
    else s) s

/-- The rings of partition p are erased at its tenancy end (R26, R483). -/
def State.keepEnd (s : State) (p : Nat) : State :=
  (s.boundRings.filter (fun r => s.ringPart r == p)).foldl (fun (s : State) r =>
    let s := s.eraseRun (s.ringBase r) (s.ringSize r)
    (s.setKeep (fun k => { k with writes := k.writes.filter (fun x => x.ring != r) })).setRing r RingSt.reset) s

/-! ### Stores (R487, R488, R494) -/

/-- A store of a ring is requested (R487): discarded while its tile is clean; a WORN ring refuses it (R494). -/
def State.askStore (s : State) (r : Nat) : State :=
  if s.ringState r == rgWORN then s.setFld (R.KEEP_RING_STAT r) F.KEEP_RING_STAT_LAST_ERR 2
  else if s.ringBound r && s.ringDirty r then s.setRing r { s.ring r with asked := true } else s

/-- KEEP_CMD.STORE: rings of partition 0 only (R487); the event of a discarded one has no name in the rules: a free code (log
entry 31). -/
def State.keepCmd (s : State) (w : Word) : State :=
  let r := F.KEEP_CMD_RING.get w
  if F.KEEP_CMD_STORE.get w = 0 then s
  else if s.flag (R.KEEP_RING_CFG r) F.KEEP_RING_CFG_VALID && s.ringPart r == 0 then s.askStore r
  else s.event (Config.unnamedEvent 0) 0xFF r

/-- KEEP_STORE_REQUEST. -/
def execKeepStoreRequest (w : Word) (s : State) : Out := s.onCore (fun s => s.keepCmd w)

/-- The slot a store writes: after the highest one holding the newest SEQ (R488), removed slots passed over. -/
def State.nextSlot (s : State) (r : Nat) : Option Nat :=
  let n := s.ringSize r
  let first := if (s.ring r).newest.isNone then 0 else (s.ring r).high + 1
  ((List.range n).map (fun i => (first + i) % n)).find? (fun k => (s.usable r).contains k)

/-- The record a store of a ring makes of its tile (R485, R488). -/
def State.keepRec (s : State) (r loc cause : Nat) : KeepRec where
  payload := sparse 0 0 (s.payload loc)
  owner := s.ringPart r
  cause := cause
  ident := (s.reg (R.KEEP_RING_ID r)).toNat
  seq := if (s.ring r).newest.isNone then 1 else (s.ring r).seq + 1
  gen := s.dirGen loc
  abs := s.absLo
  boot := s.keep.s7
  torn := false

/-- The page write of a captured record begins or waits for its turn. -/
def State.beginWrite (s : State) (r loc cause : Nat) : State := match s.nextSlot r with
  | none => s
  | some n => s.setKeep (fun k => { k with writes := k.writes ++ [⟨r, n, s.slotPage r n, s.keepRec r loc cause, false⟩] })

/-- KEEP_CAPTURE (R487, R488): the bank's step is not needed for a repair, MIN_GAP has passed, and checks 3 to 6 hold. -/
def State.capture (s : State) (r : Nat) : State := match s.ringTile r with
  | none => s
  | some loc =>
    let b := loc / 64
    let gap := s.fld (R.KEEP_RING_GAP r) F.KEEP_RING_GAP_MIN_GAP
    let early : Bool := match (s.ring r).capAt with | some c => s.tick.count < c + gap | none => false
    let busy : Bool := !(s.bankQ b).isEmpty || (match s.repBuf b with | some ⟨_, _, _, some _⟩ => true | _ => false)
    if !s.ringStores r || !s.ringAsked r || s.ringWriting r || early || busy || !s.stepTick b then s
    else if (s.sealFail loc).isSome then
      ((s.setFld (R.KEEP_RING_STAT r) F.KEEP_RING_STAT_LAST_ERR 1).startRepair loc).setRing r { s.ring r with asked := true }
    else
      let auto := s.flag (R.KEEP_RING_CFG r) F.KEEP_RING_CFG_MODE
      (s.beginWrite r loc (b2n auto)).setRing r { s.ring r with asked := false, capAt := some s.tick.count }

/-- KEEP_CAPTURE. -/
def execKeepCapture (r : Fin 256) (s : State) : Out := s.onCore (fun s => s.capture r.val)

/-- A record stands in its page: it is the ring's newest, and the tile is clean unless its GEN has moved since the capture
(R488). -/
def State.writeDone (s : State) (x : KeepWrite) : State :=
  let s := s.setKeep (fun k => { k with pages := tput k.pages x.page x.rcd, writes := k.writes.filter (fun y => y.ring != x.ring) })
  let s := s.setRing x.ring { s.ring x.ring with newest := some x.slot, seq := x.rcd.seq, high := x.slot, conflict := false }
  let s := s.incFld (R.KEEP_RING_STAT x.ring) F.KEEP_RING_STAT_STORES 65535
  match s.ringTile x.ring with
  | some l => if s.dirGen l = x.rcd.gen then s.setKeep (fun k => { k with dirty := k.dirty.filter (fun y => y != l) }) else s
  | none => s

/-- A failed page leaves the record torn; it is retired, replaced by the lowest free spare, or its slot leaves the ring (R494). A
store whose repeat fails too waits again as a request (log entry 33). -/
def State.writeFailed (s : State) (x : KeepWrite) : State :=
  let torn : KeepRec := { x.rcd with torn := true }
  let base := s.ringBase x.ring + x.slot
  let s := s.setKeep (fun k => { k with pages := tput k.pages x.page torn, spent := if x.page < 64 then k.spent ++ [x.page] else k.spent })
  let used := s.keep.subst.map (fun e => e.2) ++ s.keep.spent
  let rest := s.keep.writes.filter (fun y => y.ring != x.ring)
  let again (s : State) : State := s.setRing x.ring { s.ring x.ring with asked := true }
  match ((List.range 32).map (fun i => 32 + i)).find? (fun p => !used.contains p) with
  | some sp =>
    let s := (s.setKeep (fun k => { k with subst := tput k.subst base sp })).event Ev.KEEP_PAGE_RETIRED 0xFF base
    if x.retried then again (s.setKeep (fun k => { k with writes := rest }))
    else s.setKeep (fun k => { k with writes := k.writes.map (fun y => if y.ring = x.ring then { x with page := sp, retried := true } else y) })
  | none =>
    let s := (s.setKeep (fun k => { k with subst := tdel k.subst base, removed := luniq (k.removed ++ [base]), writes := rest })).event
      Ev.KEEP_PAGE_RETIRED 0xFF base
    if (s.usable x.ring).length < 2 then
      (s.setFld (R.KEEP_RING_STAT x.ring) F.KEEP_RING_STAT_LAST_ERR 2).event Ev.KEEP_RING_WORN 0xFF x.ring
    else again s

/-- KEEP_PAGE_WRITE_DONE: one of the first four page writes ends, its read-back good or not (R488, R494). In a shutdown store
a failed read-back is not acted on (R494). -/
def execKeepPageWriteDone (r : Fin 256) (ok : Bool) (s : State) : Out :=
  s.onCore (fun s => match (s.keep.writes.take 4).find? (fun w => w.ring == r.val) with
    | none => s
    | some x =>
      if ok then s.writeDone x
      else if x.rcd.cause = 2 then s.setKeep (fun k =>
        { k with pages := tput k.pages x.page { x.rcd with torn := true }, writes := k.writes.filter (fun y => y.ring != x.ring) })
      else s.writeFailed x)

/-! ### Power-fail and extraction (R489, R490, R51) -/

/-- Page writes in progress are torn and requests are dropped (R489, R490). -/
def State.keepAbandon (s : State) : State :=
  let cut := s.keep.writes.filter (fun w => w.rcd.cause != 2)
  let s := cut.foldl (fun (s : State) (w : KeepWrite) =>
    let s := s.setFld (R.KEEP_RING_STAT w.ring) F.KEEP_RING_STAT_LAST_ERR 3
    if (s.keep.writes.take 4).contains w then s.setKeep (fun k => { k with pages := tput k.pages w.page { w.rcd with torn := true } }) else s) s
  let s := s.setKeep (fun k => { k with writes := k.writes.filter (fun w => w.rcd.cause == 2) })
  s.keep.rings.foldl (fun (s : State) (e : Nat × RingSt) =>
    if e.2.asked then
      (s.setRing e.1 { s.ring e.1 with asked := false }).setFld (R.KEEP_RING_STAT e.1) F.KEEP_RING_STAT_LAST_ERR 3
    else s) s

/-- The rings of the shutdown store, ascending: SOF set, tile dirty (R489), not stored already (R73). -/
def State.sofRings (s : State) : List Nat :=
  s.boundRings.filter (fun r => s.flag (R.KEEP_RING_CFG r) F.KEEP_RING_CFG_SOF && s.ringStores r && s.ringDirty r && !s.ringWriting r)

/-- The shutdown store begins: every dirty tile of an SOF ring, with CAUSE SHUTDOWN (R489). -/
def State.shutdownStore (s : State) : State :=
  s.sofRings.foldl (fun (s : State) r => match s.ringTile r with
    | some loc => if (s.sealFail loc).isSome then s else s.beginWrite r loc 2
    | none => s) s

/-- Power is gone: page writes in progress are torn, the others are not made (R490). -/
def State.keepPowerOff (s : State) : State :=
  let now := s.keep.writes.take 4
  let s := now.foldl (fun (s : State) (w : KeepWrite) =>
    s.setKeep (fun k => { k with pages := tput k.pages w.page { w.rcd with torn := true } })) s
  s.setKeep (fun k => { k with writes := [] })

/-! ### Start-up (R492) -/

/-- The RETAIN tile of a ring is filled from the newest record; RESTORED unless the last run stored it at its shutdown. -/
def State.ringFill (s : State) (r : Nat) : State := match s.ringTile r, s.newestRec r with
  | some loc, some k =>
    let fresh := k.cause == 2 && k.boot == s.keep.s7
    let b := sealTile (expand 0 4064 0 k.payload) (s.dirOwner loc) (s.dirKind loc) (s.dirFlags loc + 64 * b2n (!fresh)) (s.dirIdent loc)
      k.gen (s.pkey (s.dirOwner loc))
    s.putTile loc b k.gen
  | _, _ => s

end Sys2Proof.Machine
end

