-- ==== Sys2Proof/Machine/Spe.lean ====
section
/-!
DEFINITION. Single-pair Ethernet, field power and RS-485 (R353 to R362), and link changes of every switch port.
-/
namespace Sys2Proof.Machine

/-! ### Links (R354) -/

/-- LINK_CHANGE: the link of a port goes up at a speed (1: 10 Mbit/s, 2: 1 Gbit/s, 3: 10 Gbit/s) or down (0); on an SPE
port `amp` is the amplitude in use (R354). -/
def State.linkChange (s : State) (port speed : Nat) (amp : Bool) : State :=
  let a := R.SW_PSTAT port
  let was := s.flag a F.SW_PSTAT_LINK
  let up := speed != 0 && s.flag (R.SW_PCFG port) F.SW_PCFG_ENABLE
  if was == up then (if up then s.setFld a F.SW_PSTAT_SPEED speed else s)
  else
    let s := (s.setFlag a F.SW_PSTAT_LINK up).setFld a F.SW_PSTAT_SPEED (if up then speed else 0)
    let s := if up then s else s.swCount port cLINK_DOWN
    if port < 8 then s
    else
      let n := port - 8
      let s := s.setFlag (R.SPE_PSTAT n) F.SPE_PSTAT_LINK up
      (if up then s.setFlag (R.SPE_PSTAT n) F.SPE_PSTAT_AMP_USED amp else s).fire 6 n

/-- LINK_CHANGE. -/
def execLinkChange (port : Fin 40) (speed : Fin 4) (amp : Bool) (s : State) : Out :=
  s.onCore (fun s => s.linkChange port speed amp)

/-! ### Field power (R355 to R358) -/

abbrev pwOFF : Nat := 0
abbrev pwDETECT : Nat := 1
abbrev pwCLASSIFY : Nat := 2
abbrev pwPOWERED : Nat := 3
abbrev pwFAULT : Nat := 4
abbrev pcDENIED : Nat := 1
abbrev pcSHORT : Nat := 2
abbrev pcOVERLOAD : Nat := 3
abbrev pcOPEN : Nat := 4

def State.spePort (s : State) (n : Nat) : SpePort := tgetD s.spe.ports n ⟨false, 0⟩
def State.setSpePort (s : State) (n : Nat) (x : SpePort) : State := { s with spe := { s.spe with ports := tput s.spe.ports n x } }
def State.pseState (s : State) (n : Nat) : Nat := s.fld (R.SPE_PSTAT n) F.SPE_PSTAT_PSTATE

/-- The port enters a state now, with power on the line only in POWERED. -/
def State.setPse (s : State) (n v : Nat) : State :=
  let s := (s.setFld (R.SPE_PSTAT n) F.SPE_PSTAT_PSTATE v).setSpePort n { s.spePort n with since := s.tick.count }
  let others := s.pins.pse.filter (fun k => k != n)
  { s with pins := { s.pins with pse := if v = pwPOWERED then others ++ [n] else others } }

def State.setPseCause (s : State) (n c : Nat) : State := s.setFld (R.SPE_PSTAT n) F.SPE_PSTAT_CAUSE c

/-- Entry to FAULT: power removed, counted, logged, and the port's type 6 event fires (R357). -/
def State.pseFault (s : State) (n cause : Nat) : State :=
  let s := (s.setPse n pwFAULT).setPseCause n cause
  let s := s.incFld (R.SPE_PSTAT n) F.SPE_PSTAT_FAULTS 255
  (s.event Ev.SPE_FAULT 0xFF n cause).fire 6 n

/-- Detection starts. -/
def State.pseDetect (s : State) (n : Nat) : State := (s.setPse n pwDETECT).setPseCause n 0

/-- A port's enable (R356). -/
def State.pseEnable (s : State) (n : Nat) : Bool :=
  let m := s.reg (R.SPE_PMAP n)
  s.flag (R.SPE_PWR n) F.SPE_PWR_PWR_EN && s.boot.vfld &&
    (match boundPart (s.reg (R.SPE_PCFG n)) with | some p => (s.part p).served | none => true) &&
    (!m.getLsbD 31 || match s.effPoint (m.toNat / 2 ^ 19 % 4096) (m.toNat / 2 ^ 10 % 512) with
      | some x => x.value == 1
      | none => false)

/-- PSE_ENABLE_CHANGE: the enable of port n becomes true or false (R357). -/
def State.pseChange (s : State) (n : Nat) : State :=
  let en := s.pseEnable n
  let was := (s.spePort n).en
  let s := s.setSpePort n { s.spePort n with en := en }
  if en && !was && s.pseState n = pwOFF then s.pseDetect n
  else if !en && s.pseState n ≠ pwOFF then s.setPse n pwOFF
  else s

/-- PSE_ENABLE_CHANGE. -/
def execPseEnableChange (n : Fin 32) (s : State) : Out := s.onCore (fun s => s.pseChange n)

/-- Power is removed from every port, with no retry (R358). -/
def State.pseAllOff (s : State) : State :=
  (List.range 32).foldl (fun s n =>
    if s.pseState n = pwOFF then s.setSpePort n { s.spePort n with en := false }
    else (s.setPse n pwOFF).setSpePort n ⟨false, s.tick.count⟩) s

/-- VFLD_IN reconnects: every port whose enable is true starts at DETECT (R358). -/
def State.pseReconnect (s : State) : State := (List.range 32).foldl (fun s n => s.pseChange n) s

/-- PSE_DETECT_RESULT: a valid signature, or none within 480 ticks (R357). -/
def State.pseDetected (s : State) (n : Nat) (ok : Bool) : State :=
  if s.pseState n ≠ pwDETECT then s else if ok then s.setPse n pwCLASSIFY else s.setPse n pwDETECT

/-- PSE_DETECT_RESULT. -/
def execPseDetectResult (n : Fin 32) (ok : Bool) (s : State) : Out := s.onCore (fun s => s.pseDetected n ok)

/-- PSE_CLASSIFIED: the class read by SCCP and the PSE power of the class in 0.1 W; with CLASS_MODE 1 the class is CLASS
(R357). -/
def State.pseClassified (s : State) (n cls power : Nat) : State :=
  if s.pseState n ≠ pwCLASSIFY then s
  else
    let a := R.SPE_PWR n
    let c := if s.flag a F.SPE_PWR_CLASS_MODE then s.fld a F.SPE_PWR_CLASS else cls
    let s := s.setFld (R.SPE_PSTAT n) F.SPE_PSTAT_CLASS c
    if (c = 10 ∨ c = 11) ∧ power ≤ s.fld a F.SPE_PWR_BUDGET then s.setPse n pwPOWERED else s.pseFault n pcDENIED

/-- PSE_CLASSIFIED. -/
def execPseClassified (n : Fin 32) (cls : Fin 16) (power : Nat) (s : State) : Out :=
  s.onCore (fun s => s.pseClassified n cls power)

/-- PSE_SHORT: in current limit for 1 ms after the inrush allowance of 48 ticks (R357). -/
def execPseShort (n : Fin 32) (s : State) : Out :=
  s.onCore (fun s => if s.pseState n = pwPOWERED ∧ (s.spePort n).since + 48 ≤ s.tick.count then s.pseFault n pcSHORT else s)

/-- PSE_OVERLOAD: measured power, in 0.1 W, above BUDGET at 10 consecutive landings (R357). -/
def execPseOverload (n : Fin 32) (watts : Fin 256) (s : State) : Out :=
  s.onCore (fun s =>
    if s.pseState n = pwPOWERED ∧ s.fld (R.SPE_PWR n) F.SPE_PWR_BUDGET < watts.val then
      (s.setFld (R.SPE_PSTAT n) F.SPE_PSTAT_WATTS watts.val).pseFault n pcOVERLOAD
    else s)

/-- PSE_OPEN: line voltage lost for 1 ms (R357). -/
def execPseOpen (n : Fin 32) (s : State) : Out :=
  s.onCore (fun s => if s.pseState n = pwPOWERED then (s.setPse n pwOFF).setPseCause n pcOPEN else s)

/-- PSE_RETRY: the retry delay after FAULT expires with the enable still true (R357). -/
def execPseRetry (n : Fin 32) (s : State) : Out :=
  s.onCore (fun s =>
    let r := s.fld (R.SPE_PWR n) F.SPE_PWR_RETRY
    if s.pseState n = pwFAULT && r ≠ 0 && (s.spePort n).since + 480 * r ≤ s.tick.count && s.pseEnable n then s.pseDetect n
    else s)

/-- Sum of BUDGET over the ports with PWR_EN, port n counted with word w (R355). -/
def State.budgetSum (s : State) (n : Nat) (w : Word) : Nat :=
  (List.range 32).foldl (fun t k =>
    let x := if k = n then w else s.reg (R.SPE_PWR k)
    t + if x.getLsbD 31 then F.SPE_PWR_BUDGET.get x else 0) 0

/-- SPE_PWR_WRITE (R355, R357). -/
def State.spePwrWrite (s : State) (n : Nat) (w : Word) : State :=
  let a := R.SPE_PWR n
  let w := w &&& 0xC0FF003F
  let sum := s.budgetSum n w
  if 640 < sum ∧ s.budgetSum n (s.reg a) < sum then s.event Ev.SPE_BUDGET_OVER
  else
    let s := s.setReg a w
    if w.getLsbD 31 && s.pseState n = pwFAULT && s.pseEnable n then s.pseDetect n else s

/-- SPE_PWR_WRITE. -/
def execSpePwrWrite (n : Fin 32) (w : Word) (s : State) : Out := s.onCore (fun s => s.spePwrWrite n w)

/-! ### Point maps (R356, R359) -/

/-- SPE_MAP_WRITE: the power-enable map (`sm` false) or the status map of port n (R356, R359). -/
def State.speMapWrite (s : State) (n : Nat) (sm : Bool) (w : Word) : State :=
  let a := if sm then R.SPE_SMAP n else R.SPE_PMAP n
  let w := w &&& 0xFFFFFC00
  let loc := w.toNat / 2 ^ 19 % 4096
  let i := w.toNat / 2 ^ 10 % 512
  let ok : Bool := match boundPart (s.reg (R.SPE_PCFG n)) with
    | none => false
    | some p =>
      if sm then match s.inputImage p loc 5 with
        | some h => h.layout == lyWORD && i < h.npoints && h.types.getD i 0 == 1
        | none => false
      else s.dirValid loc && s.dirKind loc == kIMAGE && s.dirFlag loc fOUTPUT && !s.dirFlag loc fSAFETY && s.dirOwner loc == p &&
        match tget (s.part p).hdrs loc with
        | some h => h.layout == lyBIT && i < h.npoints
        | none => false
  if w.getLsbD 31 && !ok then s.event Ev.SPE_MAP_REFUSED else s.bindWrite a w

/-- SPE_MAP_WRITE. -/
def execSpeMapWrite (n : Fin 32) (sm : Bool) (w : Word) (s : State) : Out := s.onCore (fun s => s.speMapWrite n sm w)

/-- The status word of port n (R359). -/
def State.speStatus (s : State) (n : Nat) : Word :=
  let a := s.reg (R.SPE_PSTAT n)
  w32 (F.SPE_PSTAT_LINK.get a + 2 * F.SPE_PSTAT_AMP_USED.get a + 4 * F.SPE_PSTAT_PSTATE.get a + 32 * F.SPE_PSTAT_CAUSE.get a +
    256 * F.SPE_PSTAT_CLASS.get a + 65536 * F.SPE_PSTAT_WATTS.get a)

/-- What distribution gives point i of a SOURCE 5 image from the ports whose status maps name it. -/
def State.speSource (s : State) (loc i : Nat) : Option PtIn :=
  ((List.range 32).find? (fun n =>
    let m := s.reg (R.SPE_SMAP n)
    m.getLsbD 31 && s.inEffect (R.SPE_SMAP n) && m.toNat / 2 ^ 19 % 4096 == loc && m.toNat / 2 ^ 10 % 512 == i)).map
      (fun n => ⟨s.speStatus n, qNORMAL, 0⟩)

/-! ### RS-485 (R360 to R362) -/

/-- UART_FRAME_RECEIVED: the characters of a receive frame, how many of them had an error, and the start-of-frame counter and
absolute tick of the first start bit (R361). While the driver is enabled the receiver records nothing (R362). -/
def State.uartReceive (s : State) (c : Nat) (chars : List Byte) (errs : Nat) (sof sofTick : Word) : State :=
  let a := R.SPE_UBIND c
  let max := s.fld (R.SPE_ULEN c) F.SPE_ULEN_MAXLEN
  let max := if max = 0 then 4096 else max
  match boundPart (s.reg a) with
  | none => s
  | some p =>
    if max < chars.length || chars.isEmpty || !s.inEffect a then s
    else
      let u := R.SPE_USTAT c
      let s := s.setFld u F.SPE_USTAT_CHERR (satAdd (s.fld u F.SPE_USTAT_CHERR) errs 255)
      let r := s.fld a F.SPE_UBIND_RING
      let need := cellsFor (16 + chars.length)
      let free := s.cellsFree (.part p)
      if boundPart (s.reg (R.SW_RING r)) ≠ some p ∨ free = 0 then s
      else
        let cells := min need free
        let short := decide (free < need)
        let bytes := if short then chars.take (256 * cells - 16) else chars
        let h := s.newHold (.part p) cells 1
        h.2.ringPush r ⟨h.1, b2n short, 80 + c, errs % 65536, 0, sofTick.toNat, sof.toNat, bytes⟩

/-- UART_FRAME_RECEIVED. -/
def execUartFrameReceived (c : Fin 8) (chars : List Byte) (errs : Nat) (sof sofTick : Word) (s : State) : Out :=
  s.onCore (fun s => s.uartReceive c chars errs sof sofTick)

/-- UART_FRAME_SEND: the first released frame of the channel is sent after the idle gap, or, where a start bit came within
its idle wait (`late`), waits for the next gap (R362). -/
def State.uartSend (s : State) (c : Nat) (late : Bool) : State := match tgetD s.spe.uart c [] with
  | [] => s
  | (h, b) :: t =>
    if !s.flag (R.SPE_UCFG c) F.SPE_UCFG_ENABLE then s
    else if late then s.incFld (R.SPE_USTAT c) F.SPE_USTAT_DEFER 255
    else
      let s : State := { s with spe := { s.spe with uart := if t.isEmpty then tdel s.spe.uart c else tput s.spe.uart c t } }
      { s.unref h with out := s.out ++ [.uart c b] }

/-- UART_FRAME_SEND. -/
def execUartFrameSend (c : Fin 8) (late : Bool) (s : State) : Out := s.onCore (fun s => s.uartSend c late)

/-- A write of SPE_UBIND_c (R153, R362): TXH must not equal a queue handle of the partition. -/
def State.ubindWrite (s : State) (c : Nat) (w : Word) : State :=
  let a := R.SPE_UBIND c
  let w := w &&& 0xFFF001FF
  let old := s.reg a
  let p := F.SPE_UBIND_PART.get w
  if w.getLsbD 31 && (s.queueOf p (F.SPE_UBIND_TXH.get w)).isSome then s
  else if old ≠ w && !(match boundPart old with | some p => s.mayWithdraw p | none => true) then
    s.allotBusy ((boundPart old).getD 0xFF) a
  else s.bindWrite a w

end Sys2Proof.Machine
end

