-- ==== Sys2Proof/Machine/SrfBus.lean ====
section
/-!
DEFINITION. Access to the system register file: who may reach a register (R28 to R30), what a read returns and clears, what
a write does (R10, R11 and the rules of each register), and the commands SYSRD, SYSWR, REGISTER_WRITE and READ_CLEAR.
-/
namespace Sys2Proof.Machine

/-- Who accesses the SRF: partition 0 with SYSRD or SYSWR, or a Mooring session of a role (R28). Roles have the codes of
R531: 0 OWNER, 1 TENANT, 2 SAFETY, 3 METRO-READ, 4 SERVICE. -/
inductive SrfBy where
  | part0
  | moor (sess role : Nat)
  deriving DecidableEq, Repr

/-- The module is in RETURN, where a return session holds the rights of OWNER and of SERVICE (R531). -/
def State.inReturn (s : State) : Bool := s.fld R.ID_LC F.ID_LC_STATE == 3

/-- The accessor holds a role. -/
def State.byRole (s : State) (r : Nat) : SrfBy → Bool
  | .part0 => r == 0
  | .moor _ c => c == r || (s.inReturn && (c == 0 || c == 4) && (r == 0 || r == 4))

/-- The permission of R30 for a read or a write of address `a`. -/
def State.srfMay (s : State) (who : SrfBy) (a : Nat) (write : Bool) : Bool :=
  let owner := s.byRole 0 who
  let safety := s.byRole 2 who
  let metro := s.byRole 3 who
  let service := s.byRole 4 who
  match a / 0x10000 with
  | 7 => if write then safety else owner || safety || service
  | 12 => owner || (!write && service && (a == R.VAULT_STAT || a == R.VAULT_TAMPER_STAT))
  | 13 => owner || (!write && metro)
  | 17 => !write && (owner || safety || metro || service)
  | _ => owner || (!write && (safety || service))

/-- An access that gets no ERR (R29, R502). -/
def State.srfOk (s : State) (who : SrfBy) (a : Nat) (write : Bool) : Bool :=
  a % 4 == 0 && (findReg a).isSome && s.srfMay who a write && !(a / 0x10000 == 15 && s.rtc.locked)

/-- The record of an access that got ERR (R29, R508): for SYSRD and SYSWR in partition 0's queue, for Mooring in the global
log. -/
def State.srfErr (s : State) (who : SrfBy) (a : Nat) (write : Bool) (engine : Nat) (handler : Bool) : State :=
  match who with
  | .part0 => s.log ⟨15, 0, engine, none, 0, handler, w32 a, BitVec.ofNat 64 (b2n write)⟩ (some 0) false
  | .moor _ role =>
    s.log ⟨15, 0xFF, 0xFF, none, 0, false, w32 a, BitVec.ofNat 64 (b2n write + 256 + 65536 * role)⟩ none true

/-! ### Reads -/

/-- The bytes of an error record (R507). -/
def ErrRec.bytes (r : ErrRec) : List Byte :=
  let b := leBytes 4 r.abs.toNat ++ leBytes 2 r.tick ++ leBytes 1 r.part ++ leBytes 1 r.engine ++
    leBytes 4 (r.cycle % 2 ^ 17 + 2 ^ 17 * r.cycleHi) ++ leBytes 1 r.cls ++
    leBytes 1 (b2n r.isGlobal + 2 * b2n r.handler + 4 * b2n r.masked) ++ leBytes 2 r.seq ++ leBytes 4 r.address.toNat ++
    leBytes 8 r.detail.toNat
  b ++ leBytes 4 (crc32c b)

/-- Word i of the global record that ERR_GSEL selects, zero where there is none. -/
def State.gword (s : State) (i : Nat) : Word := match s.err.glob[s.fld R.ERR_GSEL ⟨0, 6⟩]? with
  | some g => w32 (leAt g.r.bytes (4 * i) 4)
  | none => 0

/-- Field views of registers whose words follow the state. -/
def State.frozenView (s : State) : Word :=
  (⟨1, 1⟩ : Fld).put (s.reg R.ERR_FRZ_STAT) (b2n (s.freezeLife && s.freezeIdle))

/-- The index of a register of a kind. -/
def idx (a base stride : Nat) : Nat := (a - base) / stride

/-- Registers of the TICK, TS and ENG blocks as they read. -/
def State.viewLow (s : State) (a : Nat) : Word :=
  if a = 0x8 then w32 (s.someCycle * 2 ^ 15 + s.tickNo)
  else if a = 0xC then w32 s.taiSec
  else if a = 0x10 then w32 (s.taiSec / 2 ^ 32)
  else if 0x1C000 ≤ a ∧ a < 0x20000 then if s.dirOwner (idx a 0x1C000 4) = 0 then s.reg a else 0
  else if a = 0x20008 then (⟨0, 12⟩ : Fld).put 0 s.fixupUsed
  else s.reg a

/-- Registers of the SW block as they read (R292, R293, R297, R300, R312). -/
def State.viewSw (s : State) (a : Nat) : Word :=
  if a < 0x3A000 then
    if a % 0x400 = 4 then
      let p := idx a 0x30004 0x400
      (⟨8, 8⟩ : Fld).put ((⟨16, 8⟩ : Fld).put (s.reg a) (s.cellsOf (.laneIn p))) (s.cellsOf (.laneOut p))
    else s.reg a
  else if 0x3C000 ≤ a ∧ a < 0x3C200 then (⟨0, 13⟩ : Fld).put (s.reg a) (s.cellsOf (.part (idx a 0x3C000 4)))
  else if a = 0x3C200 then
    let sum := (List.range 128).foldl (fun t n => t + s.fld (R.SW_CELLS n) F.SW_CELLS_LIMIT) 0
    (⟨16, 13⟩ : Fld).put ((⟨0, 13⟩ : Fld).put 0 (5184 - s.cellsCharged)) sum
  else if a = 0x3C204 then (⟨8, 8⟩ : Fld).put (s.reg a) s.sw.nodes.length
  else if 0x3C400 ≤ a ∧ a < 0x3CC00 then (⟨0, 11⟩ : Fld).put (s.reg a) (s.swRing (idx a 0x3C400 4)).ents.length
  else if 0x3CC00 ≤ a ∧ a < 0x3CE00 then (⟨0, 14⟩ : Fld).put (s.reg a) (s.fdbUsed (idx a 0x3CC00 4))
  else s.reg a

/-- SPE_PWR_TOTAL (R355, R357). -/
def State.spePower (s : State) : Word :=
  let drawn := (List.range 32).foldl (fun t n => t + s.fld (R.SPE_PSTAT n) F.SPE_PSTAT_WATTS) 0
  (⟨16, 10⟩ : Fld).put ((⟨0, 10⟩ : Fld).put 0 (s.budgetSum 32 0)) drawn

/-- KEEP_RING_STAT_r as every reader of the block reads it: of a ring whose PART is not 0 only STATE (R495). -/
def State.ringStatView (s : State) (r : Nat) : Word :=
  if s.ringPart r = 0 then s.ringStat r else F.KEEP_RING_STAT_STATE.put 0 (s.ringState r)

/-- A register as it reads, before the fields that read as zero are taken out. -/
def State.srfView (s : State) (a : Nat) : Word := match a / 0x10000 with
  | 0 | 1 | 2 => s.viewLow a
  | 3 => s.viewSw a
  | 6 => if a = 0x60400 then s.spePower else s.reg a
  | 7 => if a = R.SAFE_STAT then s.safeStat (s.reg a) else s.reg a
  | 10 => if a = R.HAW_PX_STAT then (⟨0, 14⟩ : Fld).put (s.reg a) s.pubUsed else s.reg a
  | 13 => if a = R.METL_LOG_SEL then s.logSel else if 0xD0044 ≤ a ∧ a < 0xD0064 then s.logWord (idx a 0xD0044 4) else s.reg a
  | 14 => if a = 0xE0000 then s.keepStat else if a = 0xE0004 then s.keep.s7
    else if 0xE1000 ≤ a ∧ a % 16 = 12 then s.ringStatView (idx a 0xE100C 16) else s.reg a
  | 16 => if a = R.ERR_GSTAT then
      (⟨0, 7⟩ : Fld).put ((⟨8, 7⟩ : Fld).put (s.reg a) (s.err.glob.filter (fun g => !g.read)).length) s.err.glob.length
    else if 0x100010 ≤ a ∧ a < 0x100030 then s.gword (idx a 0x100010 4)
    else if a = R.ERR_FRZ_STAT then s.frozenView else s.reg a
  | _ => s.reg a

/-- The word a permitted read returns: WO fields read as zero (R10). -/
def State.srfValue (s : State) (a : Nat) : Word := match findReg a with
  | some r => s.srfView a &&& ~~~ w32 r.wo
  | none => 0

/-- The read mark of the selected global record (R516, R64). -/
def State.markRead (s : State) (i : Nat) : State := match s.err.glob[i]? with
  | some g => { s with err := { s.err with glob := lset s.err.glob i { g with read := true } } }
  | none => s

/-- What a read leaves behind: RC fields are cleared (R10), a read of ERR_GWORD_0 marks its record read. -/
def State.readEffect (s : State) (a : Nat) : State :=
  let s := match findReg a with
    | some r => if r.rc = 0 then s else s.setReg a (s.reg a &&& ~~~ w32 r.rc)
    | none => s
  if a = R.TICK_LEN_RANGE then { s with tick := { s.tick with rangeClear := true } }
  else if a = 0x100010 then s.markRead (s.fld R.ERR_GSEL ⟨0, 6⟩)
  else if a = R.TICK_NOW then s.draw else s

/-! ### Writes -/

/-- A register with no behaviour of its own: RW fields take the word, W1C bits written 1 clear, every other field and every
reserved bit ignores it (R10, R11). -/
def State.plainWrite (s : State) (a : Nat) (w : Word) : State := match findReg a with
  | some r =>
    let old := s.reg a
    s.setReg a (((old &&& ~~~ w32 r.rw) ||| (w &&& w32 r.rw)) &&& ~~~ (w &&& w32 r.w1c))
  | none => s

/-- A write to a register of a schedule, grant or mask bank; `b` is its bank (R103 step 1, R148, R160). -/
def State.bankWrite (s : State) (b : Bool) (a : Nat) (w : Word) : State :=
  if b == s.bankB || s.flag R.TICK_STAT F.TICK_STAT_SWAP_PEND then s.event Ev.SCHED_WRITE_BLOCKED else s.plainWrite a w

/-- A write of a register whose VALID and PART allot a resource and which has no other condition: R153, with `unbind` what
goes with the resource where VALID or PART changes. -/
def State.allotWrite (s : State) (a : Nat) (w : Word) (unbind : State → State) : State := match findReg a with
  | some r =>
    let old := s.reg a
    let new := (old &&& ~~~ w32 r.rw) ||| (w &&& w32 r.rw)
    if boundPart old == boundPart new then s.setReg a new
    else if !s.rebindOk (boundPart old) (boundPart new) then s.allotBusy ((boundPart old).getD 0xFF) a
    else unbind (s.bindWrite a new)
  | none => s

/-- A write to the TICK block. -/
def State.writeTick (s : State) (a : Nat) (w : Word) : State :=
  if a = 0 then
    let s := if w.getLsbD 1 then s.swapCancel else s
    if w.getLsbD 0 then s.swapRequest false else s
  else if a < 0x1000 then s.plainWrite a w
  else s.bankWrite (decide (0x9000 ≤ a)) a w

/-- A write to the TS block (R129, R130, R557). -/
def State.writeTs (s : State) (a : Nat) (w : Word) : State :=
  if a = R.TS_ALLOC_CMD then
    let loc := w.toNat % 4096
    match w.toNat / 2 ^ 30 with
    | 1 => s.allocCmd (.alloc loc (w.toNat / 2 ^ 12 % 64) s.allocCtl (s.reg R.TS_ALLOC_ID)) loc
    | 2 => s.allocCmd (.free loc) loc
    | _ => s
  else if 0x10800 ≤ a ∧ a < 0x11000 then s.mbxBind (idx a 0x10800 4) w
  else s.plainWrite a w

/-- A write to the ENG block; `owner` says that an OWNER session gives it (R156). -/
def State.writeEng (s : State) (owner : Bool) (a : Nat) (w : Word) : State :=
  if a = R.ENG_SPARE then s.spareCountWrite w
  else if a = R.ENG_SELFTEST then
    let s := s.plainWrite a w
    if w.getLsbD 31 then s.selftest (F.ENG_SELFTEST_POS.get w) else s
  else if 0x20200 ≤ a ∧ a < 0x20400 then s.partCmd (idx a 0x20200 4) (w.toNat % 8) owner
  else if 0x21000 ≤ a ∧ a < 0x22000 then
    let n := idx a 0x21000 4
    s.allotWrite a w (fun s =>
      let s := s.setReg a (s.reg a &&& 0xFF000000)
      { s with eng := { s.eng with bound := s.eng.bound.filter (fun k => k != n) } })
  else if 0x22000 ≤ a ∧ a < 0x22800 then s.evtRouteWrite (idx a 0x22000 4) w
  else if 0x24000 ≤ a ∧ a < 0x26000 then s.bankWrite (decide (0x25000 ≤ a)) a w
  else if 0x28000 ≤ a then s.bankWrite (decide (0x2A000 ≤ a)) a w
  else s.plainWrite a w

/-- SW_FDB_n.LIMIT: lowering it withdraws entries (R153, R297). -/
def State.fdbWrite (s : State) (n : Nat) (w : Word) : State :=
  let a := R.SW_FDB n
  if F.SW_FDB_LIMIT.get w < s.fld a F.SW_FDB_LIMIT && !s.mayWithdraw n then s.allotBusy n a else s.plainWrite a w

/-- A write to the SW block (R292, R303, R308, R311, R314). -/
def State.writeSw (s : State) (a : Nat) (w : Word) : State :=
  if a < 0x3A000 then
    let p := idx a 0x30000 0x400
    let o := a % 0x400
    if o = 0 then s.pcfgWrite p w
    else if 0x20 ≤ o ∧ o < 0x40 then s.qcfgWrite p ((o - 0x20) / 4) w
    else if 0x40 ≤ o ∧ o < 0x60 then s.qtsWrite p ((o - 0x40) / 4) w
    else s.plainWrite a w
  else if a < 0x3C200 then s.cellsWrite (idx a 0x3C000 4) w
  else if 0x3C400 ≤ a ∧ a < 0x3CC00 then s.ringWrite (idx a 0x3C400 4) w
  else if 0x3CC00 ≤ a ∧ a < 0x3D000 then s.fdbWrite (idx a 0x3CC00 4) w
  else if 0x3D000 ≤ a ∧ a < 0x3E000 ∧ a % 16 = 0 then s.vlanWrite (idx a 0x3D000 16) w
  else if 0x3E000 ≤ a ∧ a % 32 = 0 then s.wakeWrite (idx a 0x3E000 32) w
  else s.plainWrite a w

/-- A write to the TIME block (R317, R326): TAU 8–15 is discarded, and so are ACQ_WAIT 0 and SRC 3, which lie outside their
ranges. -/
def State.writeTime (s : State) (a : Nat) (w : Word) : State :=
  if a = R.TIME_CTRL then
    let s := if w.getLsbD 0 then s.timeCapture else s
    if w.getLsbD 1 then s.restep.2 else s
  else if a = R.TIME_CFG then
    let old := s.reg a
    let w := if 8 ≤ (⟨16, 4⟩ : Fld).get w then (⟨16, 4⟩ : Fld).put w ((⟨16, 4⟩ : Fld).get old) else w
    let w := if (⟨20, 8⟩ : Fld).get w = 0 then (⟨20, 8⟩ : Fld).put w ((⟨20, 8⟩ : Fld).get old) else w
    let w := if (⟨0, 2⟩ : Fld).get w = 3 then (⟨0, 2⟩ : Fld).put w ((⟨0, 2⟩ : Fld).get old) else w
    s.plainWrite a w
  else s.plainWrite a w

/-- A write to the CAN block (R330, R331, R332, R343). -/
def State.writeCan (s : State) (a : Nat) (w : Word) : State :=
  let c := idx a 0x50000 0x1000
  let o := a % 0x1000
  if o = 0 then s.canCtrlWrite c w
  else if o = 0xC ∨ o = 0x10 ∨ o = 0x14 then s.canBtWrite c a w
  else if 0x40 ≤ o ∧ o < 0xC0 ∧ o % 16 = 8 then s.canAllotWrite c (64 + (o - 0x40) / 16) a w
  else if 0x100 ≤ o ∧ o < 0x200 then s.canAllotWrite c ((o - 0x100) / 4) a w
  else if 0x320 ≤ o ∧ o < 0x400 then s.pmapWrite c ((o - 0x320) / 8) (o % 8 == 4) w
  else s.plainWrite a w

/-- A write to the SPE block (R352, R355, R356, R359, R362). -/
def State.writeSpe (s : State) (a : Nat) (w : Word) : State :=
  if a < 0x60400 then
    let n := idx a 0x60000 32
    match a % 32 with
    | 0 => s.allotWrite a w (fun s => s)
    | 8 => s.spePwrWrite n w
    | 12 => s.speMapWrite n false w
    | 16 => s.speMapWrite n true w
    | _ => s.plainWrite a w
  else if 0x60800 ≤ a ∧ a % 32 = 8 then s.ubindWrite (idx a 0x60800 32) w
  else s.plainWrite a w

/-- A write to the SAFE block by a SAFETY session (R379, R388, R389). -/
def State.writeSafe (s : State) (who : SrfBy) (a : Nat) (w : Word) : State := match who with
  | .part0 => s
  | .moor sess _ =>
    if a = R.SAFE_CTRL then
      let s := if w.getLsbD 0 then s.safeApply sess else s
      if w.getLsbD 1 then s.safeLock else s
    else if a = R.SAFE_ACK then s.safeAck1 (w.toNat / 2 ^ 16 % 4) (w.toNat % 32) (s.certOf sess)
    else if safeMask a = 0 then s else s.safeCfgWrite a w

/-- A write to the CLU and SV blocks (R153, R269, R271, R283): a loop slot or a stream that changes hands loses its
binding. -/
def State.writeCluSv (s : State) (a : Nat) (w : Word) : State :=
  if a < 0x90000 then
    let j := idx a 0x80400 4
    s.allotWrite a w (fun s =>
      let s := s.setReg a (s.reg a &&& 0xFF000000)
      { s with clu := tdel s.clu j })
  else if a < 0x92000 ∧ a % 32 = 0 then
    let n := idx a 0x91000 32
    s.allotWrite a w (fun s =>
      let s := s.setReg a (s.reg a &&& 0xFFFFF000)
      { s with sv := tdel s.sv n })
  else if 0x92000 ≤ a ∧ a % 16 = 0 then s.tripCfgWrite (idx a 0x92000 16) w
  else s.plainWrite a w

/-- A write to the HAW block (R406, R408, R411). -/
def State.writeHaw (s : State) (a : Nat) (w : Word) : State :=
  if a = R.HAW_CTRL then if w.getLsbD 0 then s.enumerate else s
  else if 0xA0100 ≤ a ∧ a < 0xA0200 then s.hawShare (idx a 0xA0100 4) w
  else if 0xA1000 ≤ a ∧ a < 0xA1400 then s.hawBind (idx a 0xA1000 4) false w
  else if 0xA2000 ≤ a ∧ a % 16 = 0 then s.hawBind (idx a 0xA2000 16) true w
  else s.plainWrite a w

/-- A write to the TWIN block (R418, R419). -/
def State.writeTwin (s : State) (a : Nat) (w : Word) : State :=
  if a = R.TWIN_CFG then s.twinCfgWrite w
  else if 0xB0008 ≤ a ∧ a < 0xB0018 then s.twinPartWrite (idx a 0xB0008 4) w
  else s.plainWrite a w

/-- A write to the VAULT block (R440, R442, R444, R460). -/
def State.writeVault (s : State) (a : Nat) (w : Word) : State :=
  if (0xC0020 ≤ a ∧ a < 0xC003C) ∨ (0xC0100 ≤ a ∧ a < 0xC0200) then s.vaultBind a w
  else if 0xC0400 ≤ a ∧ a < 0xC0600 then s.drvWrite (idx a 0xC0400 4) w
  else s.plainWrite a w

/-- A write to the METL block (R468, R470, R478). -/
def State.writeMetl (s : State) (a : Nat) (w : Word) : State :=
  if a = R.METL_TEST then s.testWrite w
  else if a = R.METL_CHG_CMD then s.chgGo w
  else if 0xD0100 ≤ a ∧ a < 0xD0160 then s.assignWrite (idx a 0xD0100 4) w
  else s.plainWrite a w

/-- A write to the KEEP block (R483, R487). -/
def State.writeKeep (s : State) (a : Nat) (w : Word) : State :=
  if a = R.KEEP_CMD then s.keepCmd w
  else if 0xE1000 ≤ a ∧ a % 16 < 12 then s.keepRingWrite (idx a 0xE1000 16) (a % 16 / 4) w
  else s.plainWrite a w

/-- A write to the RTC block (R497, R498, R500, R506). -/
def State.writeRtc (s : State) (a : Nat) (w : Word) : State :=
  if a = R.RTC_CTRL then
    let s := if w.getLsbD 2 then s.rtcSetCmd else s
    let s := if w.getLsbD 1 then s.trecClr else s
    if w.getLsbD 0 then s.rtcCaptureCmd else s
  else if a = R.RTC_ALM_CTRL then
    let s := if w.getLsbD 30 then s.rtcDisarmCmd else s
    if w.getLsbD 31 then s.rtcArmCmd else s
  else s.plainWrite a w

/-- Read records of the global log are freed (R516). -/
def State.freeRead (s : State) : State :=
  { s with err := { s.err with glob := s.err.glob.filter (fun g => !g.read) } }

/-- OVF of the global log is cleared. -/
def State.clearGOvf (s : State) : State := s.setFlag R.ERR_GSTAT F.ERR_GSTAT_OVF false

/-- A write to the ERR block (R512, R513, R516). -/
def State.writeErr (s : State) (a : Nat) (w : Word) : State :=
  if a = R.ERR_GCTRL then
    let s := if w.getLsbD 0 then s.freeRead else s
    if w.getLsbD 1 then s.clearGOvf else s
  else if 0x100100 ≤ a ∧ a < 0x100300 then s.event Ev.ERR_CFG_REFUSED (idx a 0x100100 4)
  else if a = R.ERR_PQ_STAT 0 then
    let s := if F.ERR_PQ_STAT_LOST.get w = 0 then s else s.setFld a F.ERR_PQ_STAT_LOST 0
    if F.ERR_PQ_STAT_OVF.get w = 0 then s else s.setFlag a F.ERR_PQ_STAT_OVF false
  else s.plainWrite a w

/-- A permitted write takes effect. -/
def State.srfStore (s : State) (who : SrfBy) (a : Nat) (w : Word) : State := match a / 0x10000 with
  | 0 => s.writeTick a w
  | 1 => s.writeTs a w
  | 2 => s.writeEng (match who with | .moor _ _ => true | .part0 => false) a w
  | 3 => s.writeSw a w
  | 4 => s.writeTime a w
  | 5 => s.writeCan a w
  | 6 => s.writeSpe a w
  | 7 => s.writeSafe who a w
  | 8 | 9 => s.writeCluSv a w
  | 10 => s.writeHaw a w
  | 11 => s.writeTwin a w
  | 12 => s.writeVault a w
  | 13 => s.writeMetl a w
  | 14 => s.writeKeep a w
  | 15 => s.writeRtc a w
  | 16 => s.writeErr a w
  | _ => s

/-! ### Accesses -/

/-- A read by an accessor: whether it got no ERR, the word, and the state (R29). -/
def State.srfRead (s : State) (who : SrfBy) (a engine : Nat) (handler : Bool) : Bool × Word × State :=
  if s.srfOk who a false then (true, s.srfValue a, s.readEffect a) else (false, 0, s.srfErr who a false engine handler)

/-- A write by an accessor: whether it got no ERR, and the state (R29). -/
def State.srfWrite (s : State) (who : SrfBy) (a : Nat) (w : Word) (engine : Nat) (handler : Bool) : Bool × State :=
  if s.srfOk who a true then (true, s.srfStore who a w) else (false, s.srfErr who a true engine handler)

/-- SYSRD: gx = the register at ga; PRIV outside partition 0 (R186). -/
def execSysrd (l : Fin 64) (q : PQ) (gx ra : Fin 32) (s : State) : Out :=
  s.onCore (fun s => s.instr l q (wordS gx ra 0 0 q) 1 false [] (fun t s =>
    if t.part ≠ 0 then s.kill l cPRIV (wordS gx ra 0 0 q) (s.lamp l).pc
    else
      let r := s.srfRead .part0 (s.g l ra).toNat l t.handler
      r.2.2.setG l gx r.2.1))

/-- SYSWR: the register at ga = gx; PRIV outside partition 0 (R186). -/
def execSyswr (l : Fin 64) (q : PQ) (gx ra : Fin 32) (s : State) : Out :=
  s.onCore (fun s => s.instr l q (wordS gx ra 1 0 q) 1 false [] (fun t s =>
    if t.part ≠ 0 then s.kill l cPRIV (wordS gx ra 1 0 q) (s.lamp l).pc
    else (s.srfWrite .part0 (s.g l ra).toNat (s.g l gx) l t.handler).2))

/-- REGISTER_WRITE: a permitted write of partition 0 to a register (R10, R11). -/
def execRegisterWrite (a : BitVec 32) (w : Word) (s : State) : Out :=
  s.onCore (fun s => if s.srfOk .part0 a.toNat true then s.srfStore .part0 a.toNat w else s)

/-- READ_CLEAR: a permitted read of partition 0 (R10). -/
def execReadClear (a : BitVec 32) (s : State) : Out :=
  s.onCore (fun s => if s.srfOk .part0 a.toNat false then s.readEffect a.toNat else s)

end Sys2Proof.Machine
end

