-- ==== Sys2Proof/Machine/Power.lean ====
section
/-!
DEFINITION. Stopping a partition at a launch, the module's resets, the connectors, power and start-up (chapters 2, 3 and 25), and the
front LEDs.
-/
namespace Sys2Proof.Machine

def State.setBoot (s : State) (f : BootSt → BootSt) : State := { s with boot := f s.boot }

/-! ### Stops (R25, R154, R218) -/

/-- The code of a stop in ENG_PART_STAT_n.CAUSE. -/
def StopReq.code : StopReq → Nat
  | .command => 1
  | .restart => 1
  | .overrun => 2
  | .watchdog => 3
  | .doubleFault => 4
  | .tileLost => 5
  | .codePage => 6
  | .lampFail => 7

/-- A partition leaves RUNNING or STARTING for the state given: its tasks are abandoned, what it produced in this tick does not leave,
and its outputs take their safe values (R25, R154, R218, R305, R336). -/
def State.leaveRunning (s : State) (p st : Nat) : State :=
  let s := ((s.abandonPart p).discardFrames p).canStop p
  let s := s.modPart p (fun x => { x with loopw := [], trips := [], stopReq := none, released := false })
  (s.setPstate p st).commitPart p

/-- Every partition that runs or starts stops at once (R71, R451). -/
def State.stopAll (s : State) : State :=
  ((List.range 128).filter (fun p => s.pstate p == psStarting || s.pstate p == psRunning)).foldl
    (fun (s : State) p => s.leaveRunning p psStopped) s

/-- VFLD_IN and VSO_IN are disconnected, every cage transmitter is disabled and field power is removed. -/
def State.powerOutputsOff (s : State) : State :=
  let s := s.pseAllOff.vsoOff
  let s := s.setBoot (fun b => { b with vfld := false })
  { s with pins := { s.pins with cageTx := [], pse := [] } }

/-! ### Reset (R554) -/

/-- Reset causes (ID_RESET.CAUSE). -/
abbrev rcPOWER : Nat := 1
abbrev rcPOWER_FAIL : Nat := 2
abbrev rcCLK_LOSS : Nat := 3
abbrev rcFREEZE_EXIT : Nat := 4
abbrev rcLC_TRANSITION : Nat := 5
abbrev rcBOOT_TIMEOUT : Nat := 6

/-- Registers a reset leaves: the backup domain's, those from OTP and the factory, the last freeze, and those read from KEEP. -/
def keptReg (a : Nat) : Bool :=
  (0xF0000 ≤ a && a < 0x100000) || a == R.ID_LC || a == R.SW_MAC_BASE_LO || a == R.SW_MAC_BASE_HI || a == R.ERR_LAST_FRZ ||
    a == R.ERR_LAST_FRZ_ABS || a == R.SAFE_LOG_STAT

/-- The boot structure after a reset: the image store, OTP and what stands at the connectors. -/
def BootSt.restart (b : BootSt) : BootSt :=
  { BootSt.reset with serial := b.serial, cfg := b.cfg, images := b.images, vref := b.vref, cages := b.cages, retKeys := b.retKeys,
                      cert := b.cert }

/-- Retained storage after a reset: the pages and the system rings. -/
def KeepSt.restart (k : KeepSt) : KeepSt := { k with rings := [], writes := [], dirty := [], lampsDirty := false }

/-- What a reset leaves (R554): everything returns to its reset value but what lies in KEEP, the image store, OTP, the backup domain and the
metrology die, and the commands that wait. -/
def State.afterReset (s : State) : State :=
  let v := s.vault
  { State.reset with
    pending := s.pending, free := s.free, srf := s.srf.filter (fun e => keptReg e.1), boot := s.boot.restart, keep := s.keep.restart,
    rtc := s.rtc,
    vault := { VaultSt.reset with ten := v.ten, anchors := v.anchors, bk := v.bk, kept := v.kept, keepDue := v.keepDue, killed := v.killed },
    met := { MetSt.reset with die := s.met.die },
    haw := { HawSt.reset with addr := s.haw.addr, up := s.haw.up, down := s.haw.down },
    safe := { SafeSt.reset with salt := s.safe.salt, hash := s.safe.hash, fails := s.safe.fails, log := s.safe.log,
                                lockedAt := s.safe.lockedAt.map (fun _ => 0) } }

/-- A reset with its cause (R554): the levels at the pins and the values kept in KEEP show again at once. -/
def State.moduleReset (s : State) (cause : Nat) : State :=
  let s := s.keepPowerOff
  let live (a : Nat) (f : Fld) (t : State) : State := t.setFlag a f (s.flag a f)
  let r := s.afterReset
  let r := live R.SAFE_STAT F.SAFE_STAT_NOPW (live R.SAFE_STAT F.SAFE_STAT_LOCKOUT r)
  let r := live R.ID_PWR_STAT F.ID_PWR_STAT_HOLD_OK (live R.ID_PWR_STAT F.ID_PWR_STAT_V24_OV r)
  let r := live R.ID_STRAP F.ID_STRAP_SEAT (live R.ID_STRAP F.ID_STRAP_EXTRACT_REQ r)
  let r := (r.setReg R.SW_SHUT_CTR s.keep.s3).setFld R.HAW_STAT F.HAW_STAT_ADDR (s.haw.addr.getD 0)
  let r := r.setFld R.TIME_UTC F.TIME_UTC_OFFSET (s.keep.s2.getD 0)
  let r := if cause = rcBOOT_TIMEOUT then r.setFld R.ID_BOOT F.ID_BOOT_TIMEOUTS (s.fld R.ID_BOOT F.ID_BOOT_TIMEOUTS) else r
  let r := if cause = rcLC_TRANSITION then r else r.setFld R.ID_RESET F.ID_RESET_STARTS (s.fld R.ID_RESET F.ID_RESET_STARTS)
  r.setFld R.ID_RESET F.ID_RESET_CAUSE cause

/-- The phase of start-up (ID_BOOT.PHASE). -/
def State.phase (s : State) : Nat := s.fld R.ID_BOOT F.ID_BOOT_PHASE
def State.setPhase (s : State) (n : Nat) : State := s.setFld R.ID_BOOT F.ID_BOOT_PHASE n

/-! ### Cages (R38 to R40) -/

/-- A transceiver is permitted in a cage (R38): B0–B3 take 10GBASE-R and 1000BASE-X over fibre, H0–H3 only 10GBASE-R, up to 1.0 W. -/
def xcvrPermitted (x : Xcvr) (cage : Nat) : Bool := x.fibre && x.mW ≤ 1000 && (x.tenG || (cage < 4 && x.oneG))

/-- A cage's transmitter is enabled: from LINKS on, for a permitted transceiver, unless the outputs are off (R39, R551, R51, R71). -/
def State.cageEnable (s : State) (c : Nat) : State :=
  if tget s.boot.cages c = some true ∧ 8 ≤ s.phase ∧ s.phase ≤ 12 ∧ ¬ s.txStopped then
    { s with pins := { s.pins with cageTx := luniq (s.pins.cageTx ++ [c]) } } else s

/-- CAGE_MODULE_PRESENT: the identification is read; a transceiver that is not permitted keeps transmit-disable and the port down. -/
def execCageModulePresent (cage : Fin 8) (x : Xcvr) (s : State) : Out :=
  s.onCore (fun s =>
    let c := cage.val
    let ok := xcvrPermitted x c
    let s := s.setBoot (fun b => { b with cages := tput b.cages c ok })
    if ok then s.cageEnable c
    else
      let s : State := { s with pins := { s.pins with cageTx := s.pins.cageTx.filter (fun k => k != c) } }
      (s.linkChange c 0 false).event Ev.UNSUPPORTED_XCVR 0xFF c)

/-- TRANSCEIVER_REMOVED: link loss at the port and nothing else (R40). -/
def execTransceiverRemoved (cage : Fin 8) (s : State) : Out :=
  s.onCore (fun s =>
    let c := cage.val
    let s := s.setBoot (fun b => { b with cages := tdel b.cages c })
    let s : State := { s with pins := { s.pins with cageTx := s.pins.cageTx.filter (fun k => k != c) } }
    s.linkChange c 0 false)

/-- PROBE_VREF_CHANGE: VREF_DBG crosses 1.5 V (R60). The probe's domain runs whatever the clocks do. -/
def execProbeVrefChange (up : Bool) (s : State) : Out := .next (s.setBoot (fun b => { b with vref := up }))

/-! ### Seat and straps (R45, R48, R49) -/

/-- SEAT_DEBOUNCE_DONE (R48). -/
def execSeatDebounceDone (s : State) : Out :=
  .next ((s.setFlag R.ID_STRAP F.ID_STRAP_SEAT true).setBoot (fun b => { b with notSeated := false }))

/-- NOT_SEATED_TIMEOUT: the FAULT LED blinks slowly (R49). -/
def execNotSeatedTimeout (s : State) : Out :=
  .next (if s.flag R.ID_STRAP F.ID_STRAP_SEAT then s else s.setBoot (fun b => { b with notSeated := true }))

/-- STRAP_CHANGED after reset release: CHANGED, logged once per reset (R45). -/
def execStrapChanged (s : State) : Out :=
  s.onCore (fun s =>
    if !s.boot.released then s
    else
      let s := s.setFlag R.ID_STRAP F.ID_STRAP_CHANGED true
      if s.boot.strapTold then s else (s.setBoot (fun b => { b with strapTold := true })).event Ev.STRAP_CHANGED)

/-! ### Orderly extraction (R50 to R54) -/

abbrev exSERVING : Nat := 0
abbrev exREQUESTED : Nat := 1
abbrev exHANDOVER : Nat := 2
abbrev exSAFING : Nat := 3
abbrev exREADY : Nat := 4
abbrev exREFUSED : Nat := 5
abbrev exUNPLANNED : Nat := 6

def State.exState (s : State) : Nat := s.fld R.ID_EXTRACT F.ID_EXTRACT_STATE
def State.setExState (s : State) (n : Nat) : State := s.setFld R.ID_EXTRACT F.ID_EXTRACT_STATE n

/-- Step 3 of R51: nothing is sent any more, every partition is unreleased so that its outputs take their safe values, the last MIRROR
tiles have gone with this launch, and from the next tick the store-on-fail records are stored (R489). -/
def State.exSafing (s : State) : State :=
  let ps := s.parts.map (fun e => e.1)
  let s := ps.foldl (fun (s : State) p => (s.discardFrames p).modPart p (fun x => { x with released := false, csends := [], trips := [] })) s
  let s := (s.setExState exSAFING).setBoot (fun b => { b with exSafed := s.tick.count })
  s.keepAbandon.shutdownStore

/-- A request is recognised (R50): the first wins, and one after a refusal counts anew. Before the first tick edge it ends start-up and
goes on at step 3 (R546). -/
def State.exRequest (s : State) (source : Nat) : State :=
  if s.exState = exSERVING ∨ s.exState = exREFUSED then
    let s := ((s.setReg R.ID_EXTRACT 0).setExState exREQUESTED).setFld R.ID_EXTRACT F.ID_EXTRACT_SOURCE source
    let s := s.setBoot (fun b => { b with exAt := s.tick.count, exBlink := false })
    if s.tick.running then s else s.exSafing
  else s

/-- EXTRACT_REQ_ASSERTED: ignored until power-good (R44, R47, R50). -/
def execExtractReqAsserted (s : State) : Out :=
  s.onCore (fun s =>
    if !s.boot.released then s else (s.setFlag R.ID_STRAP F.ID_STRAP_EXTRACT_REQ true).exRequest 1)

/-- EXTRACT_REQ_RELEASED (R47): it has no effect on a sequence under way (R51). -/
def execExtractReqReleased (s : State) : Out := s.onCore (fun s => s.setFlag R.ID_STRAP F.ID_STRAP_EXTRACT_REQ false)

/-- EXTRACT_CONSENT: the witness consents; step 3 runs at this tick's launch (R51). -/
def execExtractConsent (s : State) : Out := s.onCore (fun s => if s.exState = exHANDOVER then s.exSafing else s)

/-- The request is refused: the twin keeps serving, and the EXTRACT LED blinks fast (R52). -/
def State.exRefuse (s : State) (cause : Nat) : State :=
  let s := (s.setExState exREFUSED).setFld R.ID_EXTRACT F.ID_EXTRACT_REFUSE_CAUSE cause
  s.setBoot (fun b => { b with exBlink := true, exRefused := s.tick.count })

/-- EXTRACT_REFUSED: WITNESS_REFUSED where the partner is serving, PARTNER_NOT_SERVING otherwise (R52). -/
def execExtractRefused (partnerServing : Bool) (s : State) : Out :=
  s.onCore (fun s => if s.exState = exHANDOVER then s.exRefuse (if partnerServing then 3 else 1) else s)

/-- EXTRACT_CONSENT_TIMEOUT: no answer by tick k + 480 (R52). -/
def execExtractConsentTimeout (s : State) : Out :=
  s.onCore (fun s => if s.exState = exHANDOVER ∧ s.boot.exAt + 480 ≤ s.tick.count then s.exRefuse 2 else s)

/-- EXTRACT_READY: steps 5 and 6 of R51. -/
def execExtractReady (s : State) : Out :=
  s.onCore (fun s => if s.exState = exSAFING then s.safetyOff.powerOutputsOff.setExState exREADY else s)

/-- EXTRACT_REFUSED_LED_END: 4800 ticks after the refusal (R52). -/
def execExtractRefusedLedEnd (s : State) : Out :=
  s.onCore (fun s => if s.boot.exBlink ∧ s.boot.exRefused + 4800 ≤ s.tick.count then s.setBoot (fun b => { b with exBlink := false }) else s)

/-! ### The power-fail sequence (R69 to R73) -/

abbrev pfNORMAL : Nat := 0
abbrev pfRIDE : Nat := 1
abbrev pfCOMMIT : Nat := 2
abbrev pfSTORE : Nat := 3

def State.pfState (s : State) : Nat := s.fld R.ID_PWR_STAT F.ID_PWR_STAT_PF_STATE
def State.setPf (s : State) (n : Nat) : State := s.setFld R.ID_PWR_STAT F.ID_PWR_STAT_PF_STATE n

/-- COMMIT (R71): every partition stops with safe outputs, the safety outputs go off through the clock-independent path, field power is
removed, all transmission stops (`txStopped`); other stores are dropped and the dirty store-on-fail records are stored from the next tick
(R489, R490). -/
def State.pfCommit (s : State) : State := ((s.stopAll.safetyOff.pseAllOff.setPf pfCOMMIT).keepAbandon).shutdownStore

/-- Power is gone: reset is asserted and the clocks stop (R71). A frozen module leaves its freeze so (R526). -/
def State.goDown (s : State) : State :=
  let s := (s.setFlag R.ID_PWR_STAT F.ID_PWR_STAT_HOLD_OK false).moduleReset (if s.err.frozen then rcFREEZE_EXIT else rcPOWER_FAIL)
  s.setBoot (fun b => { b with down := true })

/-- No partition's outputs have left their reset state since the reset: a dip then returns the module to reset (R73). -/
def State.starting (s : State) : Bool := s.boot.released && !s.parts.any (fun e => e.2.served)

/-- A dip is detected (R71, R73). -/
def State.dip (s : State) : State :=
  if s.err.frozen ∨ s.boot.down ∨ s.pfState ≠ pfNORMAL then s
  else if !s.boot.released then s.setFlag R.ID_PWR_STAT F.ID_PWR_STAT_HOLD_OK false
  else if s.exState = exREADY then s.goDown
  else if s.starting then (s.setFlag R.ID_PWR_STAT F.ID_PWR_STAT_HOLD_OK false).moduleReset rcPOWER_FAIL
  else
    let a := R.ID_PWR_STAT
    let s := (((s.setFlag a F.ID_PWR_STAT_DIP true).setFlag a F.ID_PWR_STAT_HOLD_OK false).incFld a F.ID_PWR_STAT_DIPS 65535).setPf pfRIDE
    let s := if s.exState = exREQUESTED ∨ s.exState = exHANDOVER then s.setReg R.ID_EXTRACT 0 else s
    (s.setBoot (fun b => { b with dipAt := s.tick.count })).event Ev.PF_DIP

/-- PF_DIP. -/
def execPfDip (s : State) : Out := .next s.dip

/-- V24_OV: V24_IN above its cut-off is treated exactly as a dip (R66). -/
def execV24Ov (s : State) : Out := .next ((s.setFlag R.ID_PWR_STAT F.ID_PWR_STAT_V24_OV true).dip)

/-- DIP_RECOVERED: V24_IN has read at or above recovery at 4 consecutive landings in RIDE (R71). -/
def execDipRecovered (s : State) : Out :=
  s.onCore (fun s =>
    if s.pfState = pfRIDE then
      let a := R.ID_PWR_STAT
      let s := ((s.setPf pfNORMAL).setFlag a F.ID_PWR_STAT_DIP false).setFlag a F.ID_PWR_STAT_V24_OV false
      s.event Ev.DIP_RECOVERED 0xFF (s.tick.count - s.boot.dipAt)
    else s)

/-- PF_COMMIT: at tick k + 160, or when the bus falls below HOLD_LOW, and without RIDE after an unplanned withdrawal (R71, R73). -/
def execPfCommit (low : Bool) (s : State) : Out :=
  s.onCore (fun s =>
    let due := s.pfState = pfRIDE ∧ (low ∨ s.boot.dipAt + 160 ≤ s.tick.count)
    if due ∨ (s.exState = exUNPLANNED ∧ s.pfState ≤ pfRIDE) then
      (if low then s.setFlag R.ID_PWR_STAT F.ID_PWR_STAT_HOLD_LOW true else s).pfCommit
    else s)

/-- PF_DOWN: after COMMIT, or while frozen (R71, R72, R522). -/
def execPfDown (s : State) : Out :=
  .next (if ¬ s.boot.down ∧ (pfCOMMIT ≤ s.pfState ∨ s.err.frozen) then s.goDown else s)

/-- HOLD_OK_REACHED: power-good for the supply (R70); after a loss that emptied the bus the module starts from a reset with cause POWER, which
also ends BOOT_FAIL (R548), and ERR_LAST_FRZ is cleared (R554). -/
def execHoldOkReached (emptied : Bool) (s : State) : Out :=
  .next (
    let s := if emptied ∧ ¬ s.boot.released then ((s.moduleReset rcPOWER).setReg R.ERR_LAST_FRZ 0).setReg R.ERR_LAST_FRZ_ABS 0 else s
    let a := R.ID_PWR_STAT
    ((s.setFlag a F.ID_PWR_STAT_HOLD_OK true).setFlag a F.ID_PWR_STAT_HOLD_LOW false).setBoot (fun b => { b with down := false }))

/-- EXTRACT_UNPLANNED: SEAT_SNS reads 0 for 1 ms outside READY (R56). The hardwired logic acts also while frozen (R522). -/
def execExtractUnplanned (s : State) : Out :=
  .next (
    if s.boot.down ∨ s.exState = exREADY ∨ s.exState = exUNPLANNED then s
    else
      let s := (s.safetyOff.pseAllOff).setFlag R.ID_STRAP F.ID_STRAP_SEAT false
      if s.err.frozen then s else (s.setExState exUNPLANNED).event Ev.EXTRACT_UNPLANNED)

/-! ### Field and safety supplies (R66, R67) -/

/-- A supply can be connected: the outputs have not been taken off by an extraction or a power-fail. -/
def State.supplies (s : State) : Bool := s.boot.released && s.exState != exREADY && s.exState != exUNPLANNED && s.pfState ≤ pfRIDE

/-- VFLD_CONNECT (R67). -/
def execVfldConnect (s : State) : Out :=
  s.onCore (fun s =>
    if !s.supplies then s
    else
      let a := R.ID_PWR_STAT
      let s := (s.setFlag a F.ID_PWR_STAT_VFLD_LOW false).setFlag a F.ID_PWR_STAT_VFLD_OV false
      (s.setBoot (fun b => { b with vfld := true })).pseReconnect)

/-- VFLD_IN leaves its range: it is disconnected and field power goes (R67). -/
def State.vfldLost (s : State) (f : Fld) (ev : Nat) : State :=
  ((s.setFlag R.ID_PWR_STAT f true).setBoot (fun b => { b with vfld := false })).pseAllOff.event ev

/-- VFLD_LOW. -/
def execVfldLow (s : State) : Out := s.onCore (fun s => s.vfldLost F.ID_PWR_STAT_VFLD_LOW Ev.VFLD_LOW)
/-- VFLD_OV. -/
def execVfldOv (s : State) : Out := s.onCore (fun s => s.vfldLost F.ID_PWR_STAT_VFLD_OV Ev.VFLD_OV)

/-- VSO_CONNECT (R67). -/
def execVsoConnect (s : State) : Out :=
  s.onCore (fun s =>
    if !s.supplies then s
    else
      let a := R.ID_PWR_STAT
      ((s.setFlag a F.ID_PWR_STAT_VSO_LOW false).setFlag a F.ID_PWR_STAT_VSO_OV false).vsoOn)

/-- VSO_LOW: no safety output can be energised (R67, R377). -/
def execVsoLow (s : State) : Out := s.onCore (fun s => ((s.setFlag R.ID_PWR_STAT F.ID_PWR_STAT_VSO_LOW true).vsoOff).event Ev.VSO_LOW)
/-- VSO_OV. -/
def execVsoOv (s : State) : Out := s.onCore (fun s => ((s.setFlag R.ID_PWR_STAT F.ID_PWR_STAT_VSO_OV true).vsoOff).event Ev.VSO_OV)

/-! ### Clocks (R87) -/

/-- PLL_LOCK_LOSS: the clock-independent path acts and the module resets with CLK_LOSS. -/
def execPllLockLoss (s : State) : Out := s.onCore (fun s => s.safetyOff.moduleReset rcCLK_LOSS)

/-- CLK_TICK: a tick period outside the limits, or no tick pulse (R87, R378). -/
def execClkTick (s : State) : Out :=
  s.onCore (fun s => ({ s with safe := { s.safe with tickBad := true } } : State).safeGlobal gfCLK_TICK)

/-! ### Signatures of an image (R454) -/

/-- Offsets in a pair of public keys: the P-384 point of 97 bytes, then the ML-DSA-65 key. -/
def p384Of (keys : List Byte) : List Byte := keys.take 97
def mldsaOf (keys : List Byte) : List Byte := keys.drop 97

/-- Both signatures of 96 and 3,309 bytes over a message verify with a pair of keys. -/
def pairVerify (keys msg ecdsa mldsa : List Byte) : Bool :=
  Config.asymVerify ktP384_PUB (p384Of keys) msg ecdsa && Config.asymVerify ktMLDSA_PUB (mldsaOf keys) msg mldsa

/-- The trust anchor of a partition: the owner's for partition 0. -/
def State.anchor (s : State) (p : Nat) : Option (List Byte) := tget s.vault.anchors p

/-- A signature block over an image header is good for partition p (R454): form, signing keys that are the anchor or certified by it, SIGNER,
and both signatures. -/
def State.signedFor (s : State) (p : Nat) (head block : List Byte) : Bool := match s.anchor p with
  | none => false
  | some a =>
    let n := leAt block 4 2
    let c := Config.certChain (sub block 3461 n)
    let keys := if n = 0 then a else c.leaf
    sub block 0 4 == ascii "MTRS" && n ≤ 16384 && leAt block 6 2 == 0 && block.length == 3461 + n && (n == 0 || (c.valid && c.root == a)) &&
      sub block 8 48 == sha384 keys && pairVerify keys head (sub block 56 96) (sub block 152 3309)

/-- A program can be placed for partition p as far as its own content says (R203, R267, R271, R283). -/
def State.placeable (s : State) (p : Nat) (i : Image) : Bool :=
  imagesOk i && s.tripsOk p i && s.streamsOk p i && s.loopsOk p i (fun _ => true)

/-- The bindings that follow a placement (R267, R271, R283). -/
def State.bindAll (s : State) (p : Nat) : State := ((s.bindLoops p).bindStreams p).bindTrips p

/-! ### The configuration record (R545) -/

/-- The block of a register belongs to the record: all but SAFE, RTC and ID. -/
def recorded (a : Nat) : Bool := let b := a / 0x10000; b != 7 && b != 15 && b != 17

/-- The record of the present configuration. -/
def State.cfgNow (s : State) : CfgRec where
  regs := (s.srf.filter (fun e => recorded e.1)).filterMap (fun e => match findReg e.1 with
    | some r => if r.rw = 0 then none else some (e.1, e.2 &&& w32 r.rw)
    | none => none)
  safe := s.safe.act.map (fun c => (c, w32 (safeDigest c)))
  parts := ((List.range 128).filter (fun p => s.pstate p != psFree)).map (fun p =>
    (p, (s.pstate p, s.fld (R.ENG_PART_STAT p) F.ENG_PART_STAT_CAUSE)))

/-- CONFIG_RECORD_WRITE: within 48 ticks of a change (R545), in service; not once a power-fail has committed. -/
def execConfigRecordWrite (s : State) : Out :=
  s.onCore (fun s =>
    if s.boot.released ∧ 8 ≤ s.phase ∧ s.phase ≤ 12 ∧ s.pfState ≤ pfRIDE ∧ s.boot.lcTo.isNone then
      s.setBoot (fun b => { b with cfg := some s.cfgNow }) else s)

/-! ### Start-up (R45, R547 to R549) -/

/-- The straps (R45, R5): three samples that agree are latched; otherwise STRAP_FAULT. -/
def State.latchStraps (s : State) (i : StartIn) : State :=
  let a := R.ID_STRAP
  if i.s1 = i.s2 ∧ i.s2 = i.s3 then
    let v := i.s1.toNat
    let s := ((s.setFld a F.ID_STRAP_SLOT_ID (v % 64)).setFlag a F.ID_STRAP_MASTER (bit v 6)).setFlag a F.ID_STRAP_WITNESS (bit v 7)
    if bit v 6 && bit v 7 then s.event Ev.STRAP_CONFLICT else s
  else (s.setFlag a F.ID_STRAP_STRAP_FAULT true).event Ev.STRAP_UNSTABLE

/-- The positions as system ring S0 holds them (R136, R139). -/
def State.restoreLamps (s : State) : State :=
  s.keep.s0.foldl (fun (s : State) e =>
    (s.setFld (R.ENG_LAMP e.1) F.ENG_LAMP_PHYS e.2.1).setFld (R.ENG_LAMP e.1) F.ENG_LAMP_STATE e.2.2) s

/-- UNSEAL (R439, R458, R504): persistent slots come up while BK is held; otherwise they are EMPTY and a fresh BK is drawn. -/
def State.unseal (s : State) : State :=
  let s := s.setVault (fun v => { v with unsealed := true })
  if s.rtc.bk then
    s.vault.kept.foldl (fun (s : State) e => s.setSlot e.1 { VSlot.reset with act := e.2 }) s
  else
    let r := s.random 32
    let s := r.2.setVault (fun v => { v with bk := r.1, kept := [] })
    let s : State := { s with rtc := { s.rtc with bk := true } }
    let s := s.setFlag R.VAULT_STAT F.VAULT_STAT_BK_NEW true
    if s.flag R.RTC_STAT F.RTC_STAT_BK_LOST then s.event Ev.BK_LOST
    else if s.fld R.RTC_TREC_CTL F.RTC_TREC_CTL_COUNT ≠ 0 then
      s.event Ev.TAMPER_SLEEP 0xFF (s.reg R.RTC_TREC_LAST_DATE).toNat (s.reg R.RTC_TREC_LAST_TIME).toNat
    else s

/-- A recorded register: its RW fields; a CAN channel's MODE takes effect at the first landing (R331, R551). -/
def State.restoreReg (s : State) (a : Nat) (w : Word) : State := match findReg a with
  | none => s
  | some r =>
    let new := (s.reg a &&& ~~~ w32 r.rw) ||| (w &&& w32 r.rw)
    match (List.range 16).find? (fun c => R.CAN_CTRL c == a) with
    | some c =>
      let m := F.CAN_CTRL_MODE.get new
      let s := s.setReg a (F.CAN_CTRL_MODE.put new 0)
      s.setCanCh c { s.canCh c with modeW := some m }
    | none => s.setReg a new

/-- RESTORE (R547, R549): registers, partition states, the rings the record binds, and the safety configuration. -/
def State.restore (s : State) (safeBad : Bool) : State := match s.boot.cfg with
  | none => s
  | some c =>
    let s := c.regs.foldl (fun (s : State) e => s.restoreReg e.1 e.2) s
    let s := c.parts.foldl (fun (s : State) e =>
      let st := e.2.1
      let go := st == psStarting || st == psRunning
      let s := s.setPstate e.1 (if go then psIdle else st)
      let s := if st = psStopped then s.setFld (R.ENG_PART_STAT e.1) F.ENG_PART_STAT_CAUSE e.2.2 else s
      if go then s.setBoot (fun b => { b with toStart := b.toStart ++ [e.1] })
      else if st = psZeroising then s.setBoot (fun b => { b with zero := b.zero ++ [e.1] }) else s) s
    let s := s.boundRings.foldl (fun (s : State) r => s.ringIndex r) s
    match c.safe with
    | none => s
    | some (k, d) =>
      if safeBad ∨ w32 (safeDigest k) ≠ d then s.event Ev.SAFE_RESTORE_FAIL
      else
        let s := k.foldl (fun (s : State) e => s.setReg e.1 e.2) s
        { s with safe := { s.safe with next := some (k, 0) } }

/-- IMAGE for one stored program (R547, R548): its signatures are checked, its tiles placed where the map says. -/
def State.placeStored (s : State) (p : Nat) (x : StoredImg) : State :=
  if s.pstate p = psFree ∨ s.pstate p = psZeroising then s
  else if !s.signedFor p x.image.head x.image.block || !s.placeable p x.image then
    (s.setBoot (fun b => { b with toStart := b.toStart.filter (fun q => q != p) })).setPstate p psIdle |>.event Ev.IMAGE_REFUSED p
  else
    let locs := x.map.map (fun e => e.1)
    let s := s.modPart p (fun y => { y with prog := some ⟨x.image, locs⟩ })
    let s := (List.range x.image.tiles.length).foldl (fun (s : State) k => match x.image.tiles[k]?, x.map[k]? with
      | some t, some (l, link) => s.writeNew l (dirWord p t.kind t.flags link true) (w32 t.ident) (placedPayload x.image locs k)
      | _, _ => s) s
    (s.installProgram p ⟨x.image, locs⟩).bindAll p

/-- From UNSEAL to LINKS (R547). -/
def State.bootOn (s : State) (i : StartIn) : State :=
  let s := s.restoreLamps.unseal
  let lost := s.vault.keepDue
  let s := lost.foldl (fun (s : State) n => s.event Ev.KEY_COMMIT_LOST 0xFF n) (s.setVault (fun v => { v with keepDue := [] }))
  let s := s.restore i.safeBad
  let s := s.applySpares (s.fld R.ENG_SPARE F.ENG_SPARE_COUNT)
  let s := if s.pstate 0 = psFree then s.setPstate 0 psIdle else s
  let s := s.boot.images.foldl (fun (s : State) e => s.placeStored e.1 e.2) s
  let s := s.boundRings.foldl (fun (s : State) r => s.ringFill r) s
  let s : State := { s with keep := { s.keep with s7 := s.keep.s7 + 1 } }
  let s := s.event Ev.BOOT 0xFF s.keep.s7.toNat (s.fld R.ID_RESET F.ID_RESET_CAUSE)
  let s := if s.rtc.alarmDue then ({ s with rtc := { s.rtc with alarmDue := false } } : State).event Ev.RTC_ALARM else s
  let s := s.mainSend lfLOG_REQ (beBytes 2 0)
  (List.range 8).foldl (fun (s : State) c => s.cageEnable c) (s.setPhase 8)

/-- RESET_RELEASE: power-good and a seated module (R48, R70, R547). The life-cycle state decides after ROM: BLANK waits, DECOMMISSIONED is
HELD; an active sensor halts before any key is unsealed (R457). -/
def State.releaseReset (s : State) (i : StartIn) : State :=
  if s.boot.released ∨ s.boot.down ∨ 13 ≤ s.phase ∨ !s.flag R.ID_PWR_STAT F.ID_PWR_STAT_HOLD_OK ∨
      s.flag R.ID_PWR_STAT F.ID_PWR_STAT_DIP ∨ !s.flag R.ID_STRAP F.ID_STRAP_SEAT then s
  else
    let s := (s.setBoot (fun b => { b with released := true })).incFld R.ID_RESET F.ID_RESET_STARTS 65535
    let s : State := { s with pins := { s.pins with sqHeld := false } }
    let s := s.latchStraps i
    if i.sensors ≠ 0 then s.tamperHalt i.sensors.toNat
    else if s.lcState = 0 then s.setPhase 2
    else if s.lcState = 4 then s.setPhase 13
    else s.bootOn i

/-- RESET_RELEASE. -/
def execResetRelease (i : StartIn) (s : State) : Out := s.onCore (fun s => s.releaseReset i)

/-- BOOT_TIMEOUT: a phase from TAMPER to IMAGE exceeds its bound (R548); after the third such reset in a row the module stays in
BOOT_FAIL. -/
def execBootTimeout (s : State) : Out :=
  s.onCore (fun s =>
    if 7 ≤ s.phase ∨ !s.flag R.ID_PWR_STAT F.ID_PWR_STAT_HOLD_OK ∨ (s.boot.released ∧ s.lcState = 0) then s
    else
      let n := s.fld R.ID_BOOT F.ID_BOOT_TIMEOUTS + 1
      let s := (s.setFld R.ID_BOOT F.ID_BOOT_TIMEOUTS n).moduleReset rcBOOT_TIMEOUT
      if 3 ≤ n then s.setPhase 15 else s)

/-- STANDALONE_START: no hawser link up after 4800 start ticks in LINKS (R547). -/
def execStandaloneStart (s : State) : Out :=
  s.onCore (fun s =>
    if s.boot.released ∧ 8 ≤ s.phase ∧ s.phase ≤ 9 ∧ s.haw.upAt.isNone ∧ 4800 ≤ s.tick.count then
      s.setBoot (fun b => { b with standalone := true }) else s)

/-- The ticks since an extraction request (ID_EXTRACT.TICKS). -/
def State.exTicks (s : State) : State :=
  if s.exState = exSERVING then s
  else s.setFld R.ID_EXTRACT F.ID_EXTRACT_TICKS (min (s.tick.count - s.boot.exAt) 65535)

/-- START_TICK: a start-tick boundary before the first tick edge (R546). -/
def execStartTick (s : State) : Out :=
  s.onCore (fun s =>
    if s.tick.running ∨ !s.boot.released then s
    else
      let s : State := { s with tick := { s.tick with count := s.tick.count + 1 } }
      s.exTicks)

/-! ### Life-cycle transitions (R437, R449, R451) -/

/-- The tile store and lamp scratch lose their contents. -/
def State.eraseMem (s : State) : State := { s with mem := [] }

/-- Steps 1 to 5 of R451: everything stops, the keys and the root's fuse go, tiles, KEEP and the image store are erased, the backup memory
is cleared. -/
def State.lcErase (s : State) : State :=
  let s := s.stopAll.safetyOff.endSessions seRESET
  let gen := s.rootGen
  let s := s.vaultZero.setVault (fun v => { v with bk := [], ten := [], anchors := [], codes := [], killed := luniq (v.killed ++ [gen]) })
  let u := s.eraseMem
  let s : State := { u with rtc := { s.rtc with bk := false }, keep := KeepSt.reset,
                            safe := { s.safe with salt := SafeSt.reset.salt, hash := [], log := [], fails := 0, lockedAt := none } }
  let s := (s.setFlag R.SAFE_STAT F.SAFE_STAT_NOPW true).setReg R.SAFE_LOG_STAT 0
  let s : State := { s with haw := { s.haw with addr := none, up := none, down := none } }
  let s := s.setBoot (fun b => { b with cfg := none, images := [], cert := [] })
  (List.range 16).foldl (fun (s : State) n => s.setReg (R.RTC_BKMEM n) 0) s

/-- LC_TRANSITION: the requested state is written, what R451 destroys on the way out of FIELD or RETURN is destroyed, and the module resets.
A module re-provisioned in RETURN takes the next root generation (R449). -/
def execLcTransition (s : State) : Out :=
  s.onCore (fun s => match s.boot.lcTo with
    | none => s
    | some n =>
      let old := s.lcState
      let cert := s.boot.cert
      let s := if old = 2 ∨ old = 3 then s.lcErase else s
      let s := s.setFld R.ID_LC F.ID_LC_STATE n
      let s := if old = 3 ∧ n = 1 then
          (s.setFld R.ID_LC F.ID_LC_ROOT_GEN (s.rootGen + 1)).setBoot (fun b => { b with cert := cert }) else s
      s.moduleReset rcLC_TRANSITION)

/-- PROVISION: the factory, over J6, gives a BLANK module its serial number, MAC base, return keys and device identity certificate, or
re-provisions one in RETURN with the next root generation (R449, R450, R455). -/
def execProvision (serial : BitVec 64) (mac : BitVec 48) (cert keys : List Byte) (s : State) : Out :=
  s.onCore (fun s =>
    let fresh := s.lcState = 0
    if !s.boot.vref ∨ s.boot.lcTo.isSome ∨ ¬ (fresh ∨ (s.lcState = 3 ∧ s.rootGen < 3)) then s
    else
      let s := if fresh then
          ((s.setReg R.SW_MAC_BASE_LO (w32 mac.toNat)).setReg R.SW_MAC_BASE_HI (w32 (mac.toNat / 2 ^ 32))).setBoot
            (fun b => { b with serial := serial, retKeys := keys }) else s
      s.setBoot (fun b => { b with cert := cert, lcTo := some 1 }))

/-! ### Front LEDs (R63, R64) -/

/-- What an LED shows. -/
inductive Led where
  | off | steady | slow | fast
  deriving DecidableEq, Repr

/-- The front LEDs. -/
inductive LedName where
  | run | fault | time | twin | safe | extract
  deriving DecidableEq, Repr

/-- An LED is lit in a tick of the second. -/
def Led.lit (l : Led) (tick : Nat) : Bool := match l with
  | .off => false
  | .steady => true
  | .slow => tick < 2400
  | .fast => tick % 1200 < 600

def State.ledRun (s : State) : Led :=
  if !s.boot.released || 13 ≤ s.phase then .off
  else if s.phase < 12 then .slow
  else if (List.range 128).any (fun p => s.pstate p == psStopped) then .fast else .steady

def State.ledFault (s : State) : Led :=
  if (s.reg R.VAULT_TAMPER_STAT).toNat % 32 ≠ 0 ∨ s.flag R.VAULT_STAT F.VAULT_STAT_HALT then .fast
  else if s.phase = 15 ∨ s.err.glob.any (fun r => !r.read) ∨ s.flag R.ID_STRAP F.ID_STRAP_STRAP_FAULT ∨ s.boot.notSeated then .slow else .off

def State.ledTime (s : State) : Led :=
  if s.timeState = tsLOCKED then .steady else if s.timeState = tsHOLDOVER then .slow else if s.timeState = tsRTC then .fast else .off

def State.ledTwin (s : State) : Led :=
  if !s.twinOn then .off
  else if s.twinState = twSILENCED then .fast
  else if s.twinState = twSOLO then .slow
  else if s.twinState = twSERVING then .steady else .off

def State.ledSafe (s : State) : Led :=
  let w := s.srfValue R.SAFE_STAT
  if F.SAFE_STAT_STATE.get w = 3 then .fast
  else if F.SAFE_STAT_FOG.get w = 1 then .slow
  else if F.SAFE_STAT_STATE.get w = 2 then .steady else .off

def State.ledExtract (s : State) : Led :=
  if s.exState = exREADY then .steady
  else if 1 ≤ s.exState ∧ s.exState ≤ 3 then .slow
  else if s.boot.exBlink then .fast else .off

/-- What a front LED shows; the lines IND_RUN_N, IND_FAULT_N, IND_TWIN_N and IND_EXTRACT_N repeat theirs. A freeze sets FAULT steady and
every other one off (R64); a module that is down shows nothing. -/
def State.led (s : State) (n : LedName) : Led :=
  if s.boot.down then .off
  else if s.err.frozen then (if n = .fault then .steady else .off)
  else match n with
    | .run => s.ledRun
    | .fault => s.ledFault
    | .time => s.ledTime
    | .twin => s.ledTwin
    | .safe => s.ledSafe
    | .extract => s.ledExtract

/-- A cage's LED is lit: the link is up and no frame was received or sent in the last 50 ms (240 ticks). -/
def State.cageLed (s : State) (c : Nat) : Bool :=
  s.coreOn && s.flag (R.SW_PSTAT c) F.SW_PSTAT_LINK && (match tget s.boot.act c with
    | some t => decide (t + 240 ≤ s.tick.count)
    | none => true)

end Sys2Proof.Machine
end

