-- ==== Sys2Proof/Machine/Freeze.lean ====
section
/-!
DEFINITION. The global log's commands, the freeze sources, and the TAP's read-out (chapter 23).
-/
namespace Sys2Proof.Machine

/-! ### The global log (R516) -/

/-- GLOBAL_WORD_READ: a read of ERR_GWORD_0 marks the selected record read. -/
def execGlobalWordRead (s : State) : Out := s.onCore (fun s => s.markRead (s.fld R.ERR_GSEL ⟨0, 6⟩))
/-- FREE of ERR_GCTRL. -/
def execErrFree (s : State) : Out := s.onCore (fun s => s.freeRead)
/-- CLR_OVF of ERR_GCTRL. -/
def execErrClrOvf (s : State) : Out := s.onCore (fun s => s.clearGOvf)

/-! ### Freeze sources (R61, R517) -/

/-- FREEZE_N: a falling edge that stays low for 1 µs, seen only while the probe supplies VREF_DBG (R60). -/
def execFreezeN (s : State) : Out :=
  s.onCore (fun s =>
    if s.boot.vref ∧ s.flag R.ERR_FRZ_CFG F.ERR_FRZ_CFG_PIN_EN then s.freezeTrigger 1 none 0xFF 0xFF else s)

/-- FREEZE_COMPARATOR: ABS and the cycle equal ERR_FRZ_TICK and ERR_FRZ_CYCLE. -/
def execFreezeComparator (s : State) : Out :=
  s.onCore (fun s =>
    if s.tick.running ∧ s.flag R.ERR_FRZ_CFG F.ERR_FRZ_CFG_CMP_EN ∧ s.absLo = s.reg R.ERR_FRZ_TICK then
      s.freezeTrigger 2 (some (s.fld R.ERR_FRZ_CYCLE F.ERR_FRZ_CYCLE_CYCLE)) 0xFF 0xFF
    else s)

/-- CONSENT_LAPSE: 2,880,000 ticks after consent was granted, or a condition of R432 fails (R519). -/
def execConsentLapse (failed : Bool) (s : State) : Out :=
  s.onCore (fun s =>
    if s.flag R.ERR_FRZ_STAT F.ERR_FRZ_STAT_CONSENT ∧ (failed ∨ s.err.consentAt + 2880000 ≤ s.tick.count) then
      s.setFlag R.ERR_FRZ_STAT F.ERR_FRZ_STAT_CONSENT false
    else s)

/-! ### Read-out (R523 to R525) -/

/-- Partition p's content may be read out: the module is in RETURN, or the partition has granted consent. -/
def State.mayReadOut (s : State) (p : Nat) : Bool :=
  s.inReturn || bit (s.reg (R.ERR_CONSENT (p / 32))).toNat (p % 32)

/-- A word of memory, little-endian. -/
def State.memWord (s : State) (a : Nat) : Word := w32 (leNat (s.bytes a 4))

/-- A lamp's windows and registers may be read out: no slot has run on it, or its last partition's may. -/
def State.lampReadOut (s : State) (n : Nat) : Bool := match (s.lamp n).task, (s.lamp n).lastPart with
  | some t, _ => s.mayReadOut t.part
  | none, some p => s.mayReadOut p
  | none, none => true

/-- Lamp scratch: the code pages of a lamp, then its windows. -/
def State.readScratch (s : State) (a : Nat) : Word :=
  let n := a / 0x18000
  let o := a % 0x18000
  let open' : Bool := if o < 0x10000 then
      (match boundPart (s.reg (R.ENG_CODE_PAGE (16 * n + o / 0x1000))) with
        | some p => s.mayReadOut p
        | none => true)
    else s.lampReadOut n
  if open' then s.memWord a else 0

/-- A tile location: without consent its seal over a payload of zeros. -/
def State.readTile (s : State) (a : Nat) : Word :=
  let loc := (a - 0x600000) / 0x1000
  if s.dirValid loc && !s.mayReadOut (s.dirOwner loc) && a % 0x1000 < 4064 then 0 else s.memWord a

/-- A position's registers (R524): g0–g31, a0–a3, p0–p7 in one word, PC, the loop counters from the innermost outwards, the running task
entry. -/
def State.readLamp (s : State) (n i : Nat) : Word :=
  let x := s.lamp n
  if !s.lampReadOut n then 0
  else if i < 32 then (if i = 0 then 0 else (x.g.toList).getD i 0)
  else if i < 40 then
    let v := (x.acc.toList).getD ((i - 32) / 2) 0
    w32 (if i % 2 = 0 then v.toNat else v.toNat / 2 ^ 32)
  else if i = 40 then w32 ((List.range 8).foldl (fun m k => setBit m k (k == 0 || (x.p.toList).getD k false)) 0)
  else if i = 41 then w32 x.pc
  else if i < 46 then w32 ((x.loops.map (fun l => l.remaining)).getD (i - 42) 0)
  else if i = 46 then w32 ((x.task.map (fun t => t.entry)).getD x.lastEntry)
  else 0

/-- The freeze record, one word for each of its items in the order of R524. -/
def FreezeRec.word (r : FreezeRec) (i : Nat) : Word :=
  ([w32 r.source, w32 r.cycle, r.abs, w32 r.tick, r.rtcTime, r.rtcDate, w32 r.rtcPre, r.rtcStat, r.rtcAlm, r.frzStat] : List Word).getD i 0

/-- A word of the read-out map (R524), as the consents in force allow (R525); zero where nothing is assigned. -/
def State.readOut (s : State) (a : Nat) : Word :=
  if a < 0x600000 then s.readScratch a
  else if a < 0x1600000 then s.readTile a
  else if a < 0x1800000 then Config.cellWord a
  else if a < 0x1804000 then s.readLamp ((a - 0x1800000) / 0x100) (a % 0x100 / 4)
  else if a < 0x1814000 then
    let j := (a - 0x1804000) / 0x100
    (match boundPart (s.reg (R.CLU_SLOT j)) with
      | some p => if s.mayReadOut p then s.cluWord j (a % 0x100 / 4) else 0
      | none => s.cluWord j (a % 0x100 / 4))
  else if 0x1900000 ≤ a ∧ a < 0x1900100 then
    (match s.err.freeze with
      | some r => r.word ((a - 0x1900000) / 4)
      | none => 0)
  else if 0x2000000 ≤ a ∧ a < 0x2120000 then
    (if s.srfOk (.moor 0 4) (a - 0x2000000) false then s.srfValue (a - 0x2000000) else 0)
  else 0

/-- What the TAP shifts out. -/
def State.tapOut (s : State) (v : BitVec 96) : State := { s with err := { s.err with tapOut := v } }
/-- A TAP command, ignored while the probe does not supply VREF_DBG (R60). It runs while the module is frozen. -/
def State.onTap (s : State) (f : State → State) : Out := .next (if s.boot.vref then f s else s)

/-- BYPASS: one bit, captured as 0. -/
def execTapBypass (s : State) : Out := s.onTap (fun s => s.tapOut 0)

/-- READID (R523). -/
def execTapReadId (s : State) : Out :=
  s.onTap (fun s =>
    let v := s.boot.serial.toNat + 2 ^ 64 * ((s.reg R.ID_LC).toNat % 256) + 2 ^ 72 * b2n s.err.frozen +
      2 ^ 73 * s.fld R.ERR_FRZ_STAT F.ERR_FRZ_STAT_CONSENT + 2 ^ 74 * s.fld R.ERR_LAST_FRZ F.ERR_LAST_FRZ_SOURCE
    s.tapOut (BitVec.ofNat 96 v))

/-- ROADDR: the next read-out byte address; its low two bits are ignored. -/
def execTapRoAddr (a : BitVec 32) (s : State) : Out :=
  s.onTap (fun s => { s with err := { s.err with tapAddr := w32 (a.toNat / 4 * 4) } })

/-- ROREAD: the word at the address, zero while the module is not frozen; the address advances by 4. -/
def execTapRoRead (s : State) : Out :=
  s.onTap (fun s =>
    let a := s.err.tapAddr
    let w : Word := if s.err.frozen then s.readOut a.toNat else 0
    { s with err := { s.err with tapOut := BitVec.ofNat 96 w.toNat, tapAddr := a + 4 } })

/-- FRZRESET: Update-DR with 1 resets a frozen module (R526). -/
def execTapFrzReset (b : Bool) (s : State) : Out :=
  s.onTap (fun s => if b && s.err.frozen then s.moduleReset rcFREEZE_EXIT else s)

end Sys2Proof.Machine
end

