-- ==== Sys2Proof/Machine/Moor.lean ====
section
/-!
DEFINITION. Mooring's transport, session set-up, record protection and the ends of sessions (chapter 24).
-/
namespace Sys2Proof.Machine

def State.setMoor (s : State) (f : MoorSt → MoorSt) : State := { s with moor := f s.moor }
def State.session (s : State) (n : Nat) : Option Session := tget s.moor.sessions n
def State.setSession (s : State) (n : Nat) (x : Session) : State := s.setMoor (fun m => { m with sessions := tput m.sessions n x })

/-! ### Datagrams (R527 to R530) -/

/-- Types of a datagram (R529). -/
abbrev dtOPEN : Nat := 0
abbrev dtACCEPT : Nat := 1
abbrev dtCONFIRM : Nat := 2
abbrev dtRECORD : Nat := 4
abbrev dtREJECT : Nat := 5
abbrev dtSHUTTER : Nat := 6

/-- A datagram's header. -/
structure MoorHd where
  type : Nat
  target : Nat
  idx : Nat
  last : Nat
  sess : Nat
  seq : Nat
  deriving DecidableEq, Repr

/-- The header of a datagram that meets R527 and R529, none for one that is discarded. -/
def moorParse (d : List Byte) : Option MoorHd :=
  let n (o k : Nat) : Nat := beNat (sub d o k)
  let h : MoorHd := ⟨n 3 1, n 4 1, n 5 1 / 16, n 5 1 % 16, n 8 4, n 12 8⟩
  if 24 ≤ d.length ∧ d.length ≤ 1400 ∧ n 0 2 = 0x4D4F ∧ n 2 1 = 1 ∧ h.type ≤ 6 ∧ h.type ≠ 3 ∧ n 20 4 = 0 ∧ n 6 2 + 24 = d.length ∧
      h.idx ≤ h.last ∧ (h.type = dtRECORD ∨ h.seq = 0) ∧ ((h.type ≠ dtOPEN ∧ h.type ≠ dtREJECT ∧ h.type ≠ dtSHUTTER) ∨ h.sess = 0) then
    some h else none

/-- The header of a datagram the module sends; TARGET is 0xFF in everything it sends. -/
def moorHead (type frag len sess seq : Nat) : List Byte :=
  beBytes 2 0x4D4F ++ beBytes 1 1 ++ beBytes 1 type ++ beBytes 1 0xFF ++ beBytes 1 frag ++ beBytes 2 len ++ beBytes 4 sess ++
    beBytes 8 seq ++ beBytes 4 0

/-- A TARGET that names this module (R528). -/
def State.forUs (s : State) (target : Nat) : Bool := target == 0xFF || (s.joined && target == s.hawAddr)

/-- A message in the clear, in datagrams of up to 1,376 body bytes. -/
def State.moorPlain (s : State) (dest : MoorPath) (type sess : Nat) (body : List Byte) : State :=
  let n := max 1 ((body.length + 1375) / 1376)
  (List.range n).foldl (fun (s : State) k =>
    let b := (body.drop (1376 * k)).take 1376
    s.send (.datagram dest sess type (moorHead type (16 * k + (n - 1)) b.length sess 0 ++ b))) s

/-- Datagrams of a message so far (R530): those by index, the index of the last, the tick count of the newest. -/
abbrev Frags := List (Nat × List Byte) × (Nat × Nat)

/-- A datagram joins its message: the message where it is complete, otherwise what is held. One of another message, and one that comes
more than 48 ticks after the one before, discards what was held. -/
def joinFrag (held : Option Frags) (h : MoorHd) (body : List Byte) (now : Nat) : Option (List Byte) × Frags :=
  let old : List (Nat × List Byte) := match held with
    | some (fs, (l, t)) => if l = h.last ∧ now ≤ t + 48 then fs else []
    | none => []
  let fs := tput old h.idx body
  (if fs.length = h.last + 1 then some (fs.flatMap (fun e => e.2)) else none, (fs, (h.last, now)))

/-! ### Roles and chains (R531) -/

abbrev roOWNER : Nat := 0
abbrev roTENANT : Nat := 1
abbrev roSAFETY : Nat := 2
abbrev roMETRO : Nat := 3
abbrev roSERVICE : Nat := 4

/-- Causes of a REJECT (R533). -/
abbrev rjCERT : Nat := 1
abbrev rjROLE : Nat := 2
abbrev rjSIG : Nat := 3
abbrev rjBUSY : Nat := 4
abbrev rjSTATE : Nat := 5
abbrev rjFORMAT : Nat := 6
abbrev rjLIMIT : Nat := 7

/-- UTC seconds from the time counter (R531). -/
def State.utcSec (s : State) : Int := (s.taiSec : Int) - s.fld R.TIME_UTC F.TIME_UTC_OFFSET

/-- The time state is LOCKING, LOCKED or HOLDOVER. -/
def State.timeKnown (s : State) : Bool := s.timeState == tsLOCKING || s.timeState == tsLOCKED || s.timeState == tsHOLDOVER

/-- The keys a role's chain must end at, and whether the session is in claim mode; none where the life-cycle state accepts no such
session. -/
def State.roleAnchor (s : State) (role part : Nat) (root : List Byte) : Option (List Byte × Bool) :=
  match s.lcState with
  | 1 => if role = roOWNER then some (root, true) else none
  | 2 =>
    if role = roTENANT then match s.anchor part with
      | some a => some (a, false)
      | none => if (tget s.vault.codes part).isSome then some (root, true) else some ([], false)
    else some ((s.anchor 0).getD [], false)
  | 3 => if role = roOWNER ∨ role = roSERVICE then some (s.boot.retKeys, false) else none
  | _ => none

/-- A role, PART and the leaf's role attribute fit together (R531). -/
def roleFits (role part : Nat) (attr : Option Nat) : Bool :=
  role ≤ roSERVICE && (if role = roTENANT then 1 ≤ part && part < 128 else part == 0) &&
    (if role = roOWNER ∨ role = roTENANT then attr.isNone || attr == some role else attr == some role)

/-- READY sessions, and set-ups. -/
def State.readySessions (s : State) : List (Nat × Session) := s.moor.sessions.filter (fun e => e.2.ready)
def State.setUps (s : State) : List (Nat × Session) := s.moor.sessions.filter (fun e => !e.2.ready)

/-- The READY session of a role instance (R535). -/
def State.sameInstance (s : State) (role part : Nat) : Option Nat :=
  (s.readySessions.find? (fun e => e.2.role == role && e.2.part == part)).map (fun e => e.1)

/-- A session for the role instance would be the ninth. -/
def State.moorFull (s : State) (role part : Nat) : Bool := 8 ≤ s.readySessions.length && (s.sameInstance role part).isNone

/-- REJECT, logged (R533). -/
def State.reject (s : State) (dest : MoorPath) (cause : Nat) : State :=
  (s.moorPlain dest dtREJECT 0 [BitVec.ofNat 8 cause]).event Ev.MOOR_REJECT 0xFF cause

/-! ### Session set-up (R532, R533) -/

/-- A new SESSION: random, non-zero and not in use. -/
def State.newSession (s : State) : Nat × State :=
  let r := s.random 4
  let cand := (List.range 16).map (fun i => (beNat r.1 + i) % 2 ^ 32)
  ((cand.find? (fun n => n != 0 && (s.session n).isNone)).getD 1, r.2)

/-- The P-384 and ML-DSA-65 signatures of the device identity over a message (R439). -/
def State.identitySign (s : State) (msg : List Byte) : List Byte × State :=
  let e := sub (Config.asymSign ktP384 s.identityKey msg s.free) 0 96
  let k := kdf s.root (ascii "LZF IDENT") [BitVec.ofNat 8 s.rootGen] 32
  let m := sub (Config.asymSign ktMLDSA k msg (s.free + 1)) 0 3309
  (e ++ m, s.draw.draw)

/-- The low 32 bits of the SHA-384 of the leaf of a list of certificates. -/
def leafWord (certs : List Byte) : Word := w32 (beNat (sha384 (sub certs 2 (beNat (certs.take 2)))))

/-- The cause for which an OPEN is rejected, none where the set-up goes on. -/
def State.openRefused (s : State) (b : List Byte) (c : CertChain) : Option Nat :=
  let role := beNat (sub b 0 1)
  let part := beNat (sub b 1 1)
  let u := s.utcSec
  if b.length < 136 ∨ beNat (sub b 2 2) + 136 ≠ b.length ∨ beNat (sub b 36 1) ≠ 4 ∨ beNat (sub b 133 3) ≠ 0 then some rjFORMAT
  else if 2 ≤ s.setUps.length then some rjBUSY
  else if s.lcState = 0 ∨ s.lcState = 4 then some rjSTATE
  else if !roleFits role part c.attr then some rjROLE
  else match s.roleAnchor role part c.root with
    | none => some rjSTATE
    | some (a, _) =>
      if s.moorFull role part then some rjLIMIT
      else if !c.valid ∨ c.root ≠ a then some rjCERT
      else if s.timeKnown ∧ (u < c.notBefore ∨ (c.notAfter : Int) < u) then some rjCERT
      else none

/-- A complete OPEN message: ACCEPT, or REJECT with its cause. -/
def State.openMsg (s : State) (dest : MoorPath) (b : List Byte) : State :=
  let certs := b.drop 136
  let c := Config.certChain certs
  match s.openRefused b c with
  | some n => s.reject dest n
  | none =>
    let role := beNat (sub b 0 1)
    let part := beNat (sub b 1 1)
    let n := s.newSession
    let nonce := n.2.random 32
    let eph := nonce.2.random 48
    let s := eph.2
    match Config.ecdh eph.1 (sub b 36 97) with
    | none => s.reject dest rjFORMAT
    | some z =>
      let own := beBytes 2 s.boot.cert.length ++ s.boot.cert
      let head := nonce.1 ++ sub (Config.publicKey ktP384 eph.1) 0 97 ++ beBytes 3 0 ++ beBytes 2 own.length ++ beBytes 2 0
      let th1 := sha384 (b ++ beBytes 4 n.1 ++ head ++ own)
      let sig := s.identitySign th1
      let th2 := sha384 (th1 ++ sig.1)
      let keys := kdf (sub z 0 48) (ascii "MOORING") th2 64
      let claim := (match s.roleAnchor role part c.root with | some (_, m) => m | none => false)
      let x : Session := ⟨role, part, false, leafWord certs, claim, c.root, c.leaf, th2, keys.take 32, keys.drop 32, 0, [], s.tick.count,
        s.tick.count, [], [], 0, 0, dest⟩
      (sig.2.setSession n.1 x).moorPlain dest dtACCEPT n.1 (head ++ sig.1 ++ own)

/-- OPEN: a datagram of an OPEN message, joined by the client's address and port. -/
def execMoorOpen (path : MoorPath) (datagram : List Byte) (s : State) : Out :=
  s.onCore (fun s => match moorParse datagram with
    | none => s
    | some h =>
      if h.type ≠ dtOPEN ∨ !s.forUs h.target then s
      else
        let held := (s.moor.opens.find? (fun e => e.1 == path)).map (fun e => e.2)
        let r := joinFrag held h (datagram.drop 24) s.tick.count
        let rest := s.moor.opens.filter (fun e => !(e.1 == path))
        match r.1 with
        | some b => (s.setMoor (fun m => { m with opens := rest })).openMsg path b
        | none => s.setMoor (fun m => { m with opens := rest ++ [(path, r.2)] }))

/-! ### Record protection (R534, R536) -/

/-- One message to a session's client, encrypted in datagrams of up to 1,360 bytes of plaintext. -/
def State.sealRecord (s : State) (sess : Nat) (pt : List Byte) : State := match s.session sess with
  | none => s
  | some x =>
    let n := max 1 ((pt.length + 1359) / 1360)
    let s := (List.range n).foldl (fun (s : State) k =>
      let seq := x.seqOut + 1 + k
      let chunk := (pt.drop (1360 * k)).take 1360
      let head := moorHead dtRECORD (16 * k + (n - 1)) (chunk.length + 16) sess seq
      let e := gcmEnc x.kmc (beBytes 4 2 ++ beBytes 8 seq) head chunk
      s.send (.datagram x.path sess dtRECORD (head ++ e.1 ++ e.2))) s
    s.setSession sess { x with seqOut := x.seqOut + n }

/-- A response record (R536). -/
def responseRecord (cmd req status : Nat) (final : Bool) (data : List Byte) : List Byte :=
  beBytes 2 cmd ++ beBytes 2 req ++ beBytes 2 data.length ++ beBytes 1 (1 + 2 * b2n final) ++ beBytes 1 status ++ data

/-- A response leaves; a FINAL one closes its request. The response of a session that has ended is dropped (R535). -/
def State.sealReply (s : State) (sess req status : Nat) (final : Bool) (data : List Byte) : State := match s.session sess with
  | none => s
  | some x => match x.openReqs.find? (fun e => e.1 == req) with
    | none => s
    | some e =>
      let s := if final then s.setSession sess { x with openReqs := x.openReqs.erase e } else s
      s.sealRecord sess (responseRecord e.2 req status final data)

/-- The responses of the tick are sealed. -/
def State.sealReplies (s : State) : State :=
  s.out.foldl (fun (s : State) m => match m with
    | .reply sess req st fin data => s.sealReply sess req st fin data
    | m => s.send m) { s with out := [] }

/-- A verified CONFIRM: the session is READY, an older one of its role instance ends, and READY goes out (R532, R535, R538). -/
def State.sessionReady (s : State) (n : Nat) (x : Session) : State :=
  let old := s.sameInstance x.role x.part
  let s := match old with
    | some o => s.endSession o seTAKEOVER
    | none => s
  let s := s.setSession n { x with ready := true, began := s.tick.count, heard := s.tick.count, frags := [] }
  let s := s.event Ev.MOOR_SESSION_OPEN (if x.role = roTENANT then x.part else 0xFF)
  let data := [BitVec.ofNat 8 s.lcState, BitVec.ofNat 8 s.hawAddr, 8, 4] ++ beBytes 4 17280000
  s.sealRecord n (responseRecord 0 0 0 true data)

/-- CONFIRM: signatures of the client's leaf over TH2. -/
def execMoorConfirm (path : MoorPath) (datagram : List Byte) (s : State) : Out :=
  s.onCore (fun s => match moorParse datagram with
    | none => s
    | some h => match s.session h.sess with
      | none => s
      | some x =>
        if h.type ≠ dtCONFIRM ∨ !s.forUs h.target ∨ x.ready then s
        else
          let held : Option Frags := if x.frags.isEmpty then none else some (x.frags, (x.fragLast, x.fragAt))
          let r := joinFrag held h (datagram.drop 24) s.tick.count
          match r.1 with
          | none => s.setSession h.sess { x with frags := r.2.1, fragLast := h.last, fragAt := s.tick.count, path := path }
          | some b =>
            let ok := b.length == 3405 && pairVerify x.leaf x.th2 (sub b 0 96) (sub b 96 3309)
            let drop := s.setMoor (fun m => { m with sessions := tdel m.sessions h.sess })
            if !ok then drop.reject path rjSIG
            else if s.moorFull x.role x.part then drop.reject path rjLIMIT
            else s.sessionReady h.sess { x with path := path })

/-- SETUP_ABANDONED: no CONFIRM within 4800 ticks of ACCEPT (R533). -/
def execSetupAbandoned (sess : BitVec 32) (s : State) : Out :=
  s.onCore (fun s => match s.session sess.toNat with
    | some x => if !x.ready ∧ x.began + 4800 ≤ s.tick.count then s.setMoor (fun m => { m with sessions := tdel m.sessions sess.toNat }) else s
    | none => s)

/-- The receive window of 64 SEQ values (R534): below it, at its lowest value, or accepted before. -/
def seqStale (acc : List Nat) (n : Nat) : Bool :=
  let high := acc.foldl max 0
  n + 63 ≤ high || acc.contains n || n == 0

/-- A command request counts against the 4 that may be without a FINAL response (R537): the fifth gets BUSY. -/
def State.moorRegister (s : State) (sess : Nat) (x : Session) (req code : Nat) : Bool × State :=
  let s := s.setSession sess { x with openReqs := x.openReqs ++ [(req, code)] }
  if 4 ≤ x.openReqs.length then (false, s.reply sess req 5 true []) else (true, s)

/-- A complete command record waits for the landing (R536, R537). -/
def State.recordMsg (s : State) (sess : Nat) (x : Session) (b : List Byte) : State :=
  let code := beNat (sub b 0 2)
  let req := beNat (sub b 2 2)
  if b.length < 8 ∨ bit (beNat (sub b 6 1)) 0 then s
  else
    let r := s.moorRegister sess x req code
    if !r.1 then r.2
    else if beNat (sub b 4 2) + 8 ≠ b.length ∨ beNat (sub b 6 2) ≠ 0 then r.2.reply sess req 9 true []
    else r.2.setMoor (fun m => { m with cmds := m.cmds ++ [⟨sess, req, code, b.drop 8⟩] })

/-- RECORD: authenticated and decrypted, or discarded without a reply. -/
def execMoorRecord (path : MoorPath) (datagram : List Byte) (s : State) : Out :=
  s.onCore (fun s => match moorParse datagram with
    | none => s
    | some h => match s.session h.sess with
      | none => s
      | some x =>
        let body := datagram.drop 24
        if h.type ≠ dtRECORD ∨ !s.forUs h.target ∨ !x.ready ∨ body.length < 16 ∨ seqStale x.seqIn h.seq then s
        else
          let n := body.length - 16
          match gcmDec x.kcm (beBytes 4 1 ++ beBytes 8 h.seq) (datagram.take 24) (body.take n) (body.drop n) with
          | none => s
          | some pt =>
            let held : Option Frags := if x.frags.isEmpty then none else some (x.frags, (x.fragLast, x.fragAt))
            let r := joinFrag held h pt s.tick.count
            let high := (h.seq :: x.seqIn).foldl max 0
            let x := { x with seqIn := (h.seq :: x.seqIn).filter (fun k => decide (high < k + 64)), heard := s.tick.count, path := path }
            match r.1 with
            | none => s.setSession h.sess { x with frags := r.2.1, fragLast := h.last, fragAt := s.tick.count }
            | some b =>
              let x := { x with frags := [] }
              (s.setSession h.sess x).recordMsg h.sess x b)

/-- REASSEMBLY_TIMEOUT: no further datagram within 48 ticks (R530); session 0 names the OPEN of the client. -/
def execReassemblyTimeout (path : MoorPath) (sess : BitVec 32) (s : State) : Out :=
  s.onCore (fun s =>
    if sess = 0 then
      s.setMoor (fun m => { m with opens := m.opens.filter (fun e => !(e.1 == path && decide (e.2.2.2 + 48 ≤ s.tick.count))) })
    else match s.session sess.toNat with
      | some x => if x.fragAt + 48 ≤ s.tick.count then s.setSession sess.toNat { x with frags := [] } else s
      | none => s)

/-! ### Relay (R528) -/

/-- The relay entries with a client's session added or refreshed; none where it would be the 33rd. -/
def State.relayEntry (s : State) (client : MoorPath) (sess unit : Nat) : Option State :=
  let l := s.moor.relays
  let isIt (e : MoorPath × Nat × Nat × Nat) : Bool := e.1 == client && e.2.1 == sess
  let seen := l.map (fun e => if isIt e then (client, sess, unit, s.tick.count) else e)
  if l.any isIt then some (s.setMoor (fun m => { m with relays := seen }))
  else if 32 ≤ l.length then none
  else some (s.setMoor (fun m => { m with relays := l ++ [(client, sess, unit, s.tick.count)] }))

/-- MOOR_RELAY. From a client: the datagram goes unchanged to the unit TARGET names. From a unit (`path.addr` on the hawser): a reply
goes to the client whose session it is; ACCEPT and REJECT belong to the client with an OPEN at that unit. -/
def State.moorRelay (s : State) (path : MoorPath) (d : List Byte) : State := match moorParse d with
  | none => s
  | some h =>
    if !s.joined then s
    else if path.hawser then
      if h.target ≠ 0xFF ∧ h.target ≠ s.hawAddr then s
      else
        let sess := if h.type = dtACCEPT ∨ h.type = dtREJECT then 0 else h.sess
        match s.moor.relays.find? (fun e => e.2.1 == sess && e.2.2.1 == path.addr) with
        | none => s
        | some e => match s.relayEntry e.1 (if h.type = dtACCEPT then h.sess else sess) path.addr with
          | none => s.event Ev.MOOR_RELAY_FULL
          | some t => t.send (.datagram e.1 h.sess h.type d)
    else if h.target = s.hawAddr ∨ 64 ≤ h.target then s
    else match s.relayEntry path h.sess h.target with
      | none => s.event Ev.MOOR_RELAY_FULL
      | some t => t.manage h.target 0 (d.map (fun b => b.toNat))

/-- MOOR_RELAY. -/
def execMoorRelay (path : MoorPath) (datagram : List Byte) (s : State) : Out := s.onCore (fun s => s.moorRelay path datagram)

/-- RELAY_ENTRY_EXPIRY: 288,000 ticks without traffic. -/
def execRelayEntryExpiry (path : MoorPath) (sess : BitVec 32) (s : State) : Out :=
  s.onCore (fun s =>
    let l := s.moor.relays.filter (fun e => !(e.1 == path && e.2.1 == sess.toNat && decide (e.2.2.2 + 288000 ≤ s.tick.count)))
    s.setMoor (fun m => { m with relays := l }))

/-! ### Ends of sessions (R535) -/

/-- SESSION_IDLE_END: 288,000 ticks without an accepted record. -/
def execSessionIdleEnd (sess : BitVec 32) (s : State) : Out :=
  s.onCore (fun s => match s.session sess.toNat with
    | some x => if x.ready ∧ x.heard + 288000 ≤ s.tick.count then s.endSession sess.toNat seIDLE else s
    | none => s)

/-- SESSION_LIFETIME_END: 17,280,000 ticks after READY. -/
def execSessionLifetimeEnd (sess : BitVec 32) (s : State) : Out :=
  s.onCore (fun s => match s.session sess.toNat with
    | some x => if x.ready ∧ x.began + 17280000 ≤ s.tick.count then s.endSession sess.toNat seLIFETIME else s
    | none => s)

end Sys2Proof.Machine
end

