-- ==== Sys2Proof/Machine/MoorCmd.lean ====
section
/-!
DEFINITION. The commands of a Mooring session (R536 to R542), the module's own window of the asymmetric engine, and the witness's
answer to a freeze-consent request.
-/
namespace Sys2Proof.Machine

/-! ### Answering (R536) -/

/-- The command being carried out: session, request number, the session's role and partition. -/
structure MoorBy where
  sess : Nat
  req : Nat
  role : Nat
  part : Nat
  deriving DecidableEq, Repr

/-- Status codes of a response. -/
abbrev msOK : Nat := 0
abbrev msPENDING : Nat := 1
abbrev msROLE : Nat := 2
abbrev msSTATE : Nat := 3
abbrev msRANGE : Nat := 4
abbrev msBUSY : Nat := 5
abbrev msERR : Nat := 6
abbrev msAUTH : Nat := 7
abbrev msUNKNOWN : Nat := 8
abbrev msLEN : Nat := 9
abbrev msREFUSED : Nat := 10

/-- A FINAL response of a status, without and with DATA; REFUSED with its cause; PENDING. -/
def State.mAns (s : State) (b : MoorBy) (st : Nat) : State := s.reply b.sess b.req st true []
def State.mData (s : State) (b : MoorBy) (data : List Byte) : State := s.reply b.sess b.req msOK true data
def State.mRefuse (s : State) (b : MoorBy) (cause : Nat) : State := s.reply b.sess b.req msREFUSED true [BitVec.ofNat 8 cause]
def State.mPend (s : State) (b : MoorBy) : State := s.reply b.sess b.req msPENDING false []

/-- The session holds a role's rights (R531). -/
def State.mRole (s : State) (b : MoorBy) (r : Nat) : Bool := s.byRole r (.moor b.sess b.role)

/-- A command of one of the roles given, any other of which gets ROLE (R538). -/
def State.mNeeds (s : State) (b : MoorBy) (roles : List Nat) (f : State → State) : State :=
  if roles.any (fun r => s.mRole b r) then f s else s.mAns b msROLE

/-- The partition a TENANT command reaches: the session's, or partition 0 for OWNER (R538). -/
def State.mPart (s : State) (b : MoorBy) : Option Nat :=
  if b.role = roTENANT then some b.part else if s.mRole b roOWNER then some 0 else none

/-- A TENANT command. -/
def State.mTenant (s : State) (b : MoorBy) (f : Nat → State → State) : State := match s.mPart b with
  | some p => f p s
  | none => s.mAns b msROLE

/-- ARGLEN must be `n`. -/
def State.mLen (s : State) (b : MoorBy) (args : List Byte) (n : Nat) (f : State → State) : State :=
  if args.length = n then f s else s.mAns b msLEN

/-- A number of the arguments, most significant byte first. -/
def argAt (args : List Byte) (o n : Nat) : Nat := beNat (sub args o n)

/-! ### Session and register commands -/

/-- NOP. -/
def State.doNop (s : State) (b : MoorBy) (args : List Byte) : State := s.mLen b args 0 (fun s => s.mAns b msOK)

/-- CLOSE: OK, then the session ends (R535). -/
def State.doClose (s : State) (b : MoorBy) (args : List Byte) : State :=
  s.mLen b args 0 (fun s => (s.mAns b msOK).sealReplies.endSession b.sess seCLOSE)

/-- A command under R30: every role but TENANT reaches some register. -/
def State.mSrf (s : State) (b : MoorBy) (f : State → State) : State := if b.role = roTENANT then s.mAns b msROLE else f s

/-- REG-READ: N words from ADDR, with a mask of those that got ERR. -/
def State.doRegRead (s : State) (b : MoorBy) (args : List Byte) : State :=
  s.mSrf b (fun s => s.mLen b args 5 (fun s =>
    let a := argAt args 0 4
    let n := argAt args 4 1
    if n = 0 ∨ 64 < n then s.mAns b msRANGE
    else
      let r := (List.range n).foldl (fun (r : Nat × List Byte × State) i =>
        let x := r.2.2.srfRead (.moor b.sess b.role) (a + 4 * i) 0xFF false
        (setBit r.1 i (!x.1), r.2.1 ++ beBytes 4 x.2.1.toNat, x.2.2)) (0, [], s)
      r.2.2.reply b.sess b.req (if r.1 = 0 then msOK else msERR) true (beBytes 8 r.1 ++ r.2.1)))

/-- REG-WRITE: N words in ascending address. -/
def State.doRegWrite (s : State) (b : MoorBy) (args : List Byte) : State :=
  s.mSrf b (fun s =>
    let n := argAt args 4 1
    if args.length < 8 ∨ args.length ≠ 8 + 4 * n then s.mAns b msLEN
    else if n = 0 ∨ 64 < n ∨ argAt args 5 3 ≠ 0 then s.mAns b msRANGE
    else
      let a := argAt args 0 4
      let r := (List.range n).foldl (fun (r : Nat × State) i =>
        let x := r.2.srfWrite (.moor b.sess b.role) (a + 4 * i) (w32 (argAt args (8 + 4 * i) 4)) 0xFF false
        (setBit r.1 i (!x.1), x.2)) (0, s)
      r.2.reply b.sess b.req (if r.1 = 0 then msOK else msERR) true (beBytes 8 r.1))

/-! ### Program images (R539, R540) -/

/-- Transfer tiles of a body of n bytes. -/
def xferCount (n : Nat) : Nat := (n + 4063) / 4064

/-- Transfer tile k of partition p is written in an allocation step. -/
def State.xferTile (s : State) (p k : Nat) (payload : List Byte) : State := match s.pickLoc [] s.free false with
  | none => s.draw
  | some (l, _) =>
    let c := StepCmd.place l p (dirWord p kDATA 0 0 true) (w32 (0xFFFE0000 + k)) (sparse 0 0 payload)
    let s := s.draw.draw.setSteps (l / 64) (s.steps (l / 64) ++ [c])
    s.modPart p (fun x => { x with xferTiles := x.xferTiles ++ [l] })

/-- Transfer tiles k to m − 1 of a transfer. -/
def State.xferTiles (s : State) (p k m : Nat) (body : List Byte) : State :=
  ((List.range m).filter (fun i => decide (k ≤ i))).foldl (fun (s : State) i => s.xferTile p i (sub body (4064 * i) 4064)) s

/-- The header's BODY_LEN. -/
def Transfer.bodyLen (x : Transfer) : Nat := leAt x.head 24 4

/-- IMG-BEGIN: the header's form now, its signatures in window 7. -/
def State.doImgBegin (s : State) (b : MoorBy) (args : List Byte) : State :=
  s.mTenant b (fun p s =>
    if args.length < 4 + 96 + 3461 then s.mAns b msLEN
    else if argAt args 0 1 ≠ p then s.mAns b msROLE
    else if argAt args 1 3 ≠ 0 then s.mAns b msRANGE
    else if s.pstate p = psFree ∨ s.pstate p = psZeroising then s.mAns b msSTATE
    else if (s.part p).xfer.isSome ∨ (s.part p).received.isSome then s.mAns b msBUSY
    else
      let head := sub args 4 96
      if (imgHead head).isNone then s.mRefuse b xrIMAGE
      else
        let s := s.modPart p (fun x => { x with xfer := some ⟨head, args.drop 100, [], false, some (b.sess, b.req)⟩ })
        (s.setMoor (fun m => { m with work := m.work ++ [.image p b.sess b.req] })).mPend b)

/-- The FINAL response of IMG-BEGIN, from window 7. -/
def State.imgVerified (s : State) (p sess req : Nat) : State := match (s.part p).xfer with
  | none => s
  | some x =>
    let q := R.TS_QUOTA p
    let drop := s.modPart p (fun y => { y with xfer := none })
    if !s.signedFor p x.head x.sigs then drop.reply sess req msREFUSED true [BitVec.ofNat 8 xrIMAGE]
    else if s.fld q F.TS_QUOTA_LIMIT < s.fld q F.TS_QUOTA_USED + xferCount x.bodyLen then
      drop.reply sess req msREFUSED true [BitVec.ofNat 8 xrQUOTA]
    else (s.modPart p (fun y => { y with xfer := some { x with verified := true, reply := none } })).reply sess req msOK true []

/-- IMG-DATA: the next bytes of the body, in order. -/
def State.doImgData (s : State) (b : MoorBy) (args : List Byte) : State :=
  s.mTenant b (fun p s =>
    if args.length < 4 then s.mAns b msLEN
    else match (s.part p).xfer with
      | none => s.mAns b msSTATE
      | some x =>
        let new := args.drop 4
        let n := x.body.length
        if !x.verified then s.mAns b msSTATE
        else if argAt args 0 4 ≠ n ∨ x.bodyLen < n + new.length then s.mAns b msRANGE
        else
          let body := x.body ++ new
          let s := s.modPart p (fun y => { y with xfer := some { x with body := body } })
          (s.xferTiles p (n / 4064) (body.length / 4064) body).mAns b msOK)

/-- A transfer or a received image goes, with its transfer tiles (R539). -/
def State.imgDrop (s : State) (p : Nat) : State :=
  let s := match (s.part p).xfer with
    | some ⟨_, _, _, _, some (sess, req)⟩ => s.reply sess req msREFUSED true [BitVec.ofNat 8 xrDISCARDED]
    | _ => s
  (s.modPart p (fun x => { x with xfer := none, received := none })).dropXfer p

/-- IMG-END: the checks of R196 on the whole image. -/
def State.doImgEnd (s : State) (b : MoorBy) (args : List Byte) : State :=
  s.mTenant b (fun p s => s.mLen b args 0 (fun s => match (s.part p).xfer with
    | none => s.mAns b msSTATE
    | some x =>
      if !x.verified then s.mAns b msSTATE
      else
        let n := x.body.length
        let s := (s.mPend b).xferTiles p (n / 4064) (xferCount n) x.body
        let img := (imgHead x.head).bind (fun h => parseImage sha384 h x.body)
        match img with
        | some i =>
          if i.tiles.any (fun t => 0xFFFE0000 ≤ t.ident && t.ident ≤ 0xFFFE0FFF) then (s.imgDrop p).mRefuse b xrIMAGE
          else
            let i := { i with head := x.head, block := x.sigs }
            (s.modPart p (fun y => { y with xfer := none, received := some i })).mAns b msOK
        | none => (s.imgDrop p).mRefuse b xrIMAGE))

/-- IMG-ABORT. -/
def State.doImgAbort (s : State) (b : MoorBy) (args : List Byte) : State :=
  s.mTenant b (fun p s => s.mLen b args 0 (fun s => (s.imgDrop p).mAns b msOK))

/-- The result of a COLD-LOAD of an image over a state in which the old program's tiles are free, 0 where it goes on. -/
def State.coldRefused (hyp : State) (p : Nat) (i : Image) : Nat :=
  let cost := (i.tiles.map (fun t => tileCost t.kind t.flags)).foldl (· + ·) 0
  let q := R.TS_QUOTA p
  if !hyp.placeable p i then xrIMAGE
  else if i.tiles.any (fun t => (hyp.findIdent t.ident).isSome) then xrID_CONFLICT
  else if hyp.fld q F.TS_QUOTA_LIMIT + (hyp.part p).xferTiles.length < hyp.fld q F.TS_QUOTA_USED + cost then xrQUOTA
  else 0

/-- COLD-LOAD (R540): the partition stops at this tick's launch; then the old tiles are freed and the new ones written, in the banks'
steps. -/
def State.doColdLoad (s : State) (b : MoorBy) (args : List Byte) : State :=
  s.mTenant b (fun p s => s.mLen b args 0 (fun s => match (s.part p).received with
    | none => s.mAns b msSTATE
    | some i =>
      if s.pstate p = psFree ∨ s.pstate p = psZeroising ∨ (s.part p).coldLoad.isSome then s.mAns b msSTATE
      else
        let old := match (s.part p).prog with
          | some g => g.map
          | none => []
        let hyp := old.foldl (fun (t : State) l => t.freeTileAt l) s
        let r := hyp.coldRefused p i
        let a := hyp.allotTiles (fun _ => none) i.tiles [] s
        if r ≠ 0 then s.mRefuse b r
        else if a.1.any (fun x => x.isNone) then s.mRefuse b xrQUOTA
        else
          let map := a.1.map (fun x => match x with | some e => e.1 | none => 0)
          let frees := old.map (fun l => (l / 64, StepCmd.drop l p))
          let writes := (List.range i.tiles.length).filterMap (fun k => match i.tiles[k]?, a.1.getD k none with
            | some t, some (l, link) => some (l / 64, StepCmd.place l p (dirWord p t.kind t.flags link true) (w32 t.ident)
                (sparse 0 0 (placedPayload i map k)))
            | _, _ => none)
          let s := (a.2.askStop p .command).xchgDrop p xrDISCARDED
          let s : State := { s with tiles := { s.tiles with later := s.tiles.later ++ frees ++ writes } }
          (s.modPart p (fun x => { x with received := none, coldLoad := some (⟨i, map⟩, b.sess, b.req, false) })).mPend b))

/-- Tile frees or writes of partition p still wait for a step. -/
def State.stepsWait (s : State) (p : Nat) : Bool :=
  let its (c : StepCmd) : Bool := match c with
    | .drop _ q => q == p
    | .place _ q _ _ _ => q == p
    | _ => false
  s.tiles.steps.any (fun e => e.2.any its) || s.tiles.later.any (fun e => its e.2)

/-- COLD_LOAD_PLACED: the last write is done; the placement takes effect, and START follows at the next landing (R540). -/
def execColdLoadPlaced (part : Fin 128) (s : State) : Out :=
  s.onCore (fun s =>
    let p := part.val
    match (s.part p).coldLoad with
    | some (g, sess, req, false) =>
      if s.stepsWait p then s
      else
        let s := ((s.installProgram p g).bindAll p).dropXfer p
        s.modPart p (fun x => { x with coldLoad := some (g, sess, req, true) })
    | _ => s)

/-- START after a cold load, at the first landing after placement. -/
def State.coldStart (s : State) (p : Nat) : State := match (s.part p).coldLoad with
  | some (_, sess, req, true) =>
    let s := s.modPart p (fun x => { x with coldLoad := none })
    let st := s.pstate p
    if (st = psIdle ∨ st = psStopped) ∧ ¬ (s.part p).endReq then (s.toStarting p).reply sess req msOK true []
    else s.reply sess req msSTATE true []
  | _ => s

/-! ### Exchange (R224 to R227, R233 to R235) -/

/-- XCHG-STAGE. -/
def State.doXchgStage (s : State) (b : MoorBy) (args : List Byte) : State :=
  s.mTenant b (fun p s => s.mLen b args 0 (fun s =>
    let r := s.xchgStage p (some (b.sess, b.req))
    if r.1 = 0 then r.2.mPend b else r.2.mRefuse b r.1))

/-- XCHG-ARM: STAGED becomes ARMED. -/
def State.doXchgArm (s : State) (b : MoorBy) (args : List Byte) : State :=
  s.mTenant b (fun p s => s.mLen b args 0 (fun s =>
    if s.xstate p = xsSTAGED then (s.setXstate p xsARMED).mAns b msOK else s.mAns b msSTATE))

/-- XCHG-DISARM: ARMED becomes STAGED, before the check of the swap it rides on. -/
def State.doXchgDisarm (s : State) (b : MoorBy) (args : List Byte) : State :=
  s.mTenant b (fun p s => s.mLen b args 0 (fun s =>
    if s.xstate p = xsARMED then (s.setXstate p xsSTAGED).mAns b msOK else s.mAns b msSTATE))

/-- XCHG-DISCARD: ends STAGING, STAGED or ARMED. -/
def State.doXchgDiscard (s : State) (b : MoorBy) (args : List Byte) : State :=
  s.mTenant b (fun p s => s.mLen b args 0 (fun s =>
    if xsSTAGING ≤ s.xstate p ∧ s.xstate p ≤ xsARMED then (s.xchgDrop p xrDISCARDED).mAns b msOK else s.mAns b msSTATE))

/-- XCHG-STATUS: ENG_XCHG_STAT_n and the authorisation digest of the pending bank as R227 would rewrite it. -/
def State.doXchgStatus (s : State) (b : MoorBy) (args : List Byte) : State :=
  s.mLen b args 1 (fun s =>
    let p := argAt args 0 1
    let ok := s.mRole b roSAFETY || s.mPart b == some p
    if !ok then s.mAns b msROLE
    else if 128 ≤ p then s.mAns b msRANGE
    else s.mData b (beBytes 4 (s.srfValue (R.ENG_XCHG_STAT p)).toNat ++ sub (s.rewrite (!s.bankB)).authDigest 0 48))

/-- XCHG-SAFETY-AUTH: the digest named authorises one swap, and is entered in the safety change log. -/
def State.doXchgSafetyAuth (s : State) (b : MoorBy) (args : List Byte) : State :=
  s.mNeeds b [roSAFETY] (fun s => s.mLen b args 48 (fun s =>
    let mine : Bool := match s.safe.unlock with
      | some (u, _) => u == b.sess
      | none => false
    if !mine then s.mAns b msSTATE
    else
      let s : State := { s with tick := { s.tick with safetyAuth := some (args, s.tick.count) }, safe := { s.safe with lastAuth := args } }
      (s.safeLog slAUTH (w32 (beNat args)) (s.certOf b.sess)).mAns b msOK))

/-- The units and partitions MULTI-CHANGE names, by unit. -/
def changeUnits (args : List Byte) (n : Nat) : List (Nat × List Nat) :=
  let pairs := (List.range n).map (fun i => (argAt args (1 + 2 * i) 1, argAt args (2 + 2 * i) 1))
  (luniq (pairs.map (fun e => e.1))).map (fun a => (a, (pairs.filter (fun e => e.1 == a)).map (fun e => e.2)))

/-- MULTI-CHANGE at the lighthouse. -/
def State.doMultiChange (s : State) (b : MoorBy) (args : List Byte) : State :=
  s.mNeeds b [roOWNER] (fun s =>
    let n := argAt args 0 1
    if args.length = 0 ∨ args.length ≠ 1 + 2 * n then s.mAns b msLEN
    else
      let us := changeUnits args n
      if n = 0 ∨ 64 < n ∨ us.any (fun u => 64 ≤ u.1 || u.2.any (fun p => decide (128 ≤ p))) then s.mAns b msRANGE
      else if !s.lighthouse then s.mAns b msSTATE
      else if s.multi.change.isSome then s.mData b [3]
      else (s.changeStart us (some (b.sess, b.req))).mPend b)

/-! ### Forces (R213 to R217, R435) -/

/-- A force of a twinned partition goes to both twins. -/
def State.forceShared (s : State) (p : Nat) : Bool := s.twinned p && (s.twinState == twSERVING || s.twinState == twSOLO)

/-- FORCE-SET. -/
def State.doForceSet (s : State) (b : MoorBy) (args : List Byte) : State :=
  s.mTenant b (fun p s => s.mLen b args 12 (fun s =>
    let ident := argAt args 0 4
    let i := argAt args 4 2
    let v := w32 (argAt args 8 4)
    if argAt args 6 2 ≠ 0 then s.mAns b msRANGE
    else match s.forceRefused p ident i with
      | some c => s.mRefuse b c
      | none => (if s.forceShared p then s.twinForce p true ident i v else s.forceSet p ident i v).mAns b msOK))

/-- FORCE-CLEAR: identifier 0 clears all. -/
def State.doForceClear (s : State) (b : MoorBy) (args : List Byte) : State :=
  s.mTenant b (fun p s => s.mLen b args 6 (fun s =>
    let ident := argAt args 0 4
    let i := argAt args 4 2
    (if s.forceShared p then s.twinForce p false ident i 0 else s.forceClear p ident i).mAns b msOK))

/-- FORCE-LIST. -/
def State.doForceList (s : State) (b : MoorBy) (args : List Byte) : State :=
  s.mTenant b (fun p s => s.mLen b args 0 (fun s => s.mData b ((s.part p).forces.flatMap (fun f =>
    beBytes 4 f.ident ++ beBytes 2 f.index ++ beBytes 2 0 ++ beBytes 4 f.value.toNat))))

/-! ### Partition status, tiles, KEEP and errors -/

/-- PART-STATUS: read like any read of the registers. -/
def State.doPartStatus (s : State) (b : MoorBy) (args : List Byte) : State :=
  s.mTenant b (fun p s => s.mLen b args 0 (fun s =>
    let regs := [R.ENG_PART_STAT p, R.ENG_XCHG_STAT p, R.ENG_XCHG_TICK p, R.ERR_PQ_STAT p, R.TS_QUOTA p]
    let rings := s.boundRings.filter (fun r => s.ringPart r == p)
    let data := regs.flatMap (fun a => beBytes 4 (s.srfValue a).toNat) ++ rings.flatMap (fun r => beBytes 4 (s.ringStat r).toNat)
    (regs.foldl (fun (s : State) a => s.readEffect a) s).mData b data))

/-- TILE-READ: the tile leaves in the bank's next step. -/
def State.doTileRead (s : State) (b : MoorBy) (args : List Byte) : State :=
  s.mTenant b (fun p s => s.mLen b args 2 (fun s =>
    let l := argAt args 0 2
    if 4096 ≤ l then s.mAns b msRANGE
    else if !(s.dirValid l && s.dirOwner l == p) then s.mRefuse b 1
    else s.setSteps (l / 64) (s.steps (l / 64) ++ [.readOut b.sess b.req p l])))

/-- RSTORE: a store of a ring of the partition (R487). -/
def State.doRstore (s : State) (b : MoorBy) (args : List Byte) : State :=
  s.mTenant b (fun p s => s.mLen b args 1 (fun s =>
    let r := argAt args 0 1
    if s.flag (R.KEEP_RING_CFG r) F.KEEP_RING_CFG_VALID && s.ringPart r == p then (s.askStore r).mAns b msOK else s.mAns b msROLE))

/-- ERR-READ: up to MAX records, oldest first; each leaves the queue (R514). -/
def State.doErrRead (s : State) (b : MoorBy) (args : List Byte) : State :=
  s.mTenant b (fun p s => s.mLen b args 1 (fun s =>
    let n := argAt args 0 1
    if n = 0 ∨ 16 < n then s.mAns b msRANGE
    else
      let q := (s.part p).errq
      (s.modPart p (fun x => { x with errq := { q with recs := q.recs.drop n } })).mData b ((q.recs.take n).flatMap (fun r => r.bytes))))

/-- ERR-CLEAR: OVF and LOST of the queue (R512). -/
def State.doErrClear (s : State) (b : MoorBy) (args : List Byte) : State :=
  s.mTenant b (fun p s => s.mLen b args 0 (fun s =>
    let a := R.ERR_PQ_STAT p
    ((s.setFlag a F.ERR_PQ_STAT_OVF false).setFld a F.ERR_PQ_STAT_LOST 0).mAns b msOK))

/-- ERR-CFG: the delivery inbox and the handler (R513). -/
def State.doErrCfg (s : State) (b : MoorBy) (args : List Byte) : State :=
  s.mTenant b (fun p s => s.mLen b args 4 (fun s =>
    let w := w32 (argAt args 0 4)
    let l := F.ERR_PQ_CFG_LOC.get w
    if w.getLsbD 31 && !(s.dirValid l && s.isInbox l && s.dirOwner l == p) then s.mRefuse b 1
    else
      let s := s.modPart p (fun x => { x with errq := { x.errq with heldTold := false } })
      (s.setReg (R.ERR_PQ_CFG p) (w &&& 0xCFFFFFFF)).mAns b msOK))

/-- LOG-READ: up to MAX global records from FIRST, which are then read (R510, R516). -/
def State.doLogRead (s : State) (b : MoorBy) (args : List Byte) : State :=
  s.mNeeds b [roOWNER, roSAFETY, roSERVICE] (fun s => s.mLen b args 2 (fun s =>
    let f := argAt args 0 1
    let n := argAt args 1 1
    if 64 < n then s.mAns b msRANGE
    else
      let recs := (s.err.glob.drop f).take n
      let t := (List.range recs.length).foldl (fun (s : State) i => s.markRead (f + i)) s
      t.mData b (recs.flatMap (fun g => g.r.bytes))))

/-- LOG-FREE. -/
def State.doLogFree (s : State) (b : MoorBy) (args : List Byte) : State :=
  s.mNeeds b [roOWNER] (fun s => s.mLen b args 0 (fun s => s.freeRead.mAns b msOK))

/-! ### Time, self-test, extraction, freeze -/

/-- TIME-RESTEP: REFUSED carries RESTEP_ERR (R326). -/
def State.doTimeRestep (s : State) (b : MoorBy) (args : List Byte) : State :=
  s.mNeeds b [roOWNER] (fun s => s.mLen b args 0 (fun s =>
    let r := s.restep
    if r.1 then r.2.mAns b msOK else r.2.mRefuse b (r.2.fld R.TIME_STAT F.TIME_STAT_RESTEP_ERR)))

/-- LAMP-SELFTEST. -/
def State.doLampSelftest (s : State) (b : MoorBy) (args : List Byte) : State :=
  s.mNeeds b [roSERVICE, roOWNER] (fun s => s.mLen b args 1 (fun s =>
    let n := argAt args 0 1
    if 64 ≤ n then s.mAns b msRANGE else (s.selftest n).mAns b msOK))

/-- EXTRACT: the request is recognised at this landing; DATA is ID_EXTRACT (R50). -/
def State.doExtract (s : State) (b : MoorBy) (args : List Byte) : State :=
  s.mNeeds b [roSERVICE] (fun s => s.mLen b args 0 (fun s =>
    let s := s.exRequest 2
    s.mData b (beBytes 4 (s.srfValue R.ID_EXTRACT).toNat)))

/-- FREEZE-CONSENT: asks the witness (R541). -/
def State.doFreezeConsent (s : State) (b : MoorBy) (args : List Byte) : State :=
  s.mNeeds b [roSERVICE] (fun s => s.mLen b args 0 (fun s =>
    if s.moor.freeze.isSome then s.mAns b msBUSY
    else if !s.twinOn then s.mRefuse b 1
    else if s.twinState ≠ twSTANDBY ∧ s.twinState ≠ twSILENCED then s.mRefuse b 2
    else ((s.manage 0xFF mtTWIN [2]).setMoor (fun m => { m with freeze := some (b.sess, b.req, s.tick.count) })).mPend b))

/-- FREEZE_CONSENT_ANSWER: consent, which stands from the next landing, or a refusal with its cause. -/
def execFreezeConsentAnswer (cause : Option (Fin 4)) (s : State) : Out :=
  s.onCore (fun s => match s.moor.freeze with
    | none => s
    | some (sess, req, _) =>
      let s := s.setMoor (fun m => { m with freeze := none })
      match cause with
      | none => ({ s with err := { s.err with consentDue := true } } : State).reply sess req msOK true []
      | some c => s.reply sess req msREFUSED true [BitVec.ofNat 8 c.val])

/-- FREEZE_CONSENT_TIMEOUT: no answer within 480 ticks. -/
def execFreezeConsentTimeout (s : State) : Out :=
  s.onCore (fun s => match s.moor.freeze with
    | some (sess, req, t) =>
      if t + 480 ≤ s.tick.count then (s.setMoor (fun m => { m with freeze := none })).reply sess req msREFUSED true [4] else s
    | none => s)

/-- READOUT-CONSENT (R525). -/
def State.doReadoutConsent (s : State) (b : MoorBy) (args : List Byte) : State :=
  s.mTenant b (fun p s => s.mLen b args 1 (fun s =>
    let g := argAt args 0 1
    if 1 < g then s.mAns b msRANGE
    else
      let a := R.ERR_CONSENT (p / 32)
      (s.setReg a (w32 (setBit (s.reg a).toNat (p % 32) (g == 1)))).mAns b msOK))

/-! ### Keys (R445, R446) -/

/-- A slot command: the slot must be the partition's own. -/
def State.mSlot (s : State) (b : MoorBy) (n : Nat) (f : Nat → State → State) : State :=
  s.mTenant b (fun p s =>
    if 64 ≤ n then s.mAns b msRANGE else if s.slotOwner n = some p then f p s else s.mAns b msROLE)

/-- The answer to a key command: OK, or REFUSED with the vault's status. -/
def State.mVault (s : State) (b : MoorBy) (st : Nat) : State := if st = vsOK then s.mAns b msOK else s.mRefuse b st

/-- The bytes of a key's material by TYPE. -/
def materialLen (type : Nat) : Nat := match type with
  | 1 => 32
  | 2 => 48
  | 3 => 48
  | 4 => 97
  | 5 => 32
  | _ => 1952

/-- The partition's slots whose key may unwrap. -/
def State.wrapSlots (s : State) (p : Nat) : List Nat :=
  (List.range 63).filter (fun n => s.slotOwner n == some p && (s.slot n).act.type == ktAES && bit (s.slot n).act.usage kuWRAP)

/-- KEY-STAGE: GENERATE, UNWRAP or VALUE. The command names no WRAP key: the partition's slots are tried in ascending order. -/
def State.doKeyStage (s : State) (b : MoorBy) (args : List Byte) : State :=
  if args.length < 10 ∨ args.length ≠ 10 + argAt args 8 2 then s.mAns b msLEN
  else
    let n := argAt args 0 1
    let src := argAt args 1 1
    let type := argAt args 2 1
    let usage := argAt args 3 1
    let exp := argAt args 4 1
    let uses := argAt args 5 3
    let mat := args.drop 10
    s.mSlot b n (fun p s =>
      if 2 < src ∨ type = 0 ∨ 6 < type ∨ 64 ≤ usage ∨ 1 < exp then s.mAns b msRANGE
      else
        let param := usage + 64 * exp + 256 * type
        if !stageOk n type usage then s.mRefuse b vsSTATE
        else match src with
          | 0 =>
            if type = ktP384 ∨ type = ktMLDSA then
              let r := s.queueAsym p ⟨koSTAGE, 0, n, param, uses, [], [], [], 0, some (b.sess, b.req), s.tick.abs⟩
              if r.1 = vsQUEUED then r.2.mPend b else r.2.mRefuse b r.1
            else if type = ktAES ∨ type = ktHMAC then
              let r := s.generate n param uses
              r.2.mVault b r.1
            else s.mRefuse b vsSTATE
          | 1 => match (s.wrapSlots p).find? (fun k => (s.unwrap n param uses (s.slot k).act mat).1 == vsOK) with
            | some k =>
              if (s.slot k).act.uses = 0 then s.mRefuse b vsEXHAUSTED
              else
                let r := (s.useKey (.slot k)).unwrap n param uses (s.slot k).act mat
                r.2.mVault b r.1
            | none => s.mRefuse b vsAUTH_FAIL
          | _ =>
            if mat.length ≠ materialLen type then s.mRefuse b vsLEN
            else (s.stage n (paramKey param uses mat)).mAns b msOK)

/-- KEY-VERIFY. -/
def State.doKeyVerify (s : State) (b : MoorBy) (args : List Byte) : State :=
  if args.length ≠ 36 ∧ args.length ≠ 68 then s.mAns b msLEN
  else s.mSlot b (argAt args 0 1) (fun _ s =>
    if argAt args 1 3 ≠ 0 then s.mAns b msRANGE
    else
      let r := s.verifyKey (argAt args 0 1) (sub args 4 16) (args.drop 20)
      r.2.mVault b r.1)

/-- KEY-COMMIT. -/
def State.doKeyCommit (s : State) (b : MoorBy) (args : List Byte) : State :=
  s.mLen b args 1 (fun s => s.mSlot b (argAt args 0 1) (fun _ s =>
    let r := s.commitKey (argAt args 0 1)
    r.2.mVault b r.1))

/-! ### Attestation and anchors (R453, R455, R542) -/

/-- The attestation report of partition p with a nonce, as things stand now (R455). -/
def State.report (s : State) (p : Nat) (nonce : List Byte) : List Byte :=
  let zeros := List.replicate 48 (0 : Byte)
  let anchor := match s.anchor p with
    | some a => sha384 a
    | none => zeros
  let prog := (s.part p).prog
  let image := match prog with
    | some g => sub g.image.digest 0 48
    | none => zeros
  let pages := (s.boundPages p).map (fun n => (n, (s.reg (R.ENG_CODE_PAGE n)).toNat))
  let place := match prog with
    | some g => sub (Config.placeDigest g.map pages) 0 48
    | none => zeros
  let staged := match (s.part p).xchg with
    | some x => sub x.prog.image.digest 0 48
    | none => zeros
  let safety := if s.safe.act.isSome ∧ s.safePart = p then
      sub (Config.safetyField (s.reg R.SAFE_DIGEST).toNat s.safe.lastAuth) 0 48 else zeros
  let trec := [R.RTC_TREC_CTL, R.RTC_TREC_FIRST_TIME, R.RTC_TREC_FIRST_DATE, R.RTC_TREC_LAST_TIME, R.RTC_TREC_LAST_DATE, R.RTC_TREC_CHK,
    R.VAULT_TAMPER_STAT]
  ascii "MTRA" ++ leBytes 1 s.lcState ++ leBytes 1 s.rootGen ++ leBytes 1 p ++ leBytes 1 (s.pstate p) ++ leBytes 8 s.boot.serial.toNat ++
    leBytes 4 (tgetD s.vault.ten p 0) ++ leBytes 4 s.absLo.toNat ++ anchor ++ image ++ place ++ staged ++ safety ++ sub nonce 0 48 ++
    sub (trec.flatMap (fun a => leBytes 4 (s.reg a).toNat)) 0 48

/-- ATTEST: the report holds the values of this landing; it is signed in window 7. -/
def State.doAttest (s : State) (b : MoorBy) (args : List Byte) : State :=
  s.mTenant b (fun p s => s.mLen b args 48 (fun s =>
    (s.setMoor (fun m => { m with work := m.work ++ [.attest b.sess b.req (s.report p args)] })).mPend b))

/-- ANCHOR-REPLACE. -/
def State.doAnchorReplace (s : State) (b : MoorBy) (args : List Byte) : State :=
  s.mTenant b (fun p s => s.mLen b args 5454 (fun s =>
    if (s.anchor p).isNone then s.mAns b msSTATE
    else (s.setMoor (fun m => { m with work := m.work ++ [.anchor p b.sess b.req args] })).mPend b))

/-- A trust anchor is installed. -/
def State.setAnchor (s : State) (p : Nat) (keys : List Byte) : State := s.setVault (fun v => { v with anchors := tput v.anchors p keys })

/-- OPEN-TENANCY: the partition is allotted and a claim code drawn (R542). -/
def State.doOpenTenancy (s : State) (b : MoorBy) (args : List Byte) : State :=
  s.mNeeds b [roOWNER] (fun s => s.mLen b args 1 (fun s =>
    let p := argAt args 0 1
    if p = 0 ∨ 128 ≤ p then s.mAns b msRANGE
    else if s.pstate p ≠ psFree ∨ !s.entropyOk then s.mAns b msSTATE
    else
      let r := (s.partCmd p 1 true).random 16
      (r.2.setVault (fun v => { v with codes := tput v.codes p ⟨r.1, s.tick.count, 0⟩ })).mData b r.1))

/-- TENANT-CLAIM: a wrong code gets AUTH, and the third one voids the claim code. -/
def State.doTenantClaim (s : State) (b : MoorBy) (args : List Byte) : State :=
  let claims : Bool := match s.session b.sess with
    | some x => x.claim && x.role == roTENANT
    | none => false
  if !claims then s.mAns b msROLE
  else s.mLen b args 16 (fun s => match tget s.vault.codes b.part with
    | none => s.mAns b msAUTH
    | some c =>
      if c.code = args then (s.setMoor (fun m => { m with work := m.work ++ [.claim b.part b.sess b.req args] })).mPend b
      else
        let n := c.wrong + 1
        let s := s.setVault (fun v => { v with codes := if 3 ≤ n then tdel v.codes b.part else tput v.codes b.part { c with wrong := n } })
        s.mAns b msAUTH)

/-- A claim-mode session becomes a full one. -/
def State.claimed (s : State) (sess : Nat) : State := match s.session sess with
  | some x => s.setSession sess { x with claim := false }
  | none => s

/-- CLAIM: installs the owner anchor once, in PROVISIONED. -/
def State.doClaimOwner (s : State) (b : MoorBy) (args : List Byte) : State :=
  s.mNeeds b [roOWNER] (fun s => s.mLen b args 0 (fun s => match s.session b.sess with
    | none => s
    | some x =>
      if s.lcState ≠ 1 ∨ !x.claim ∨ (s.anchor 0).isSome then s.mAns b msSTATE
      else ((s.setAnchor 0 x.root).claimed b.sess).mAns b msOK))

/-! ### Life cycle (R449 to R451) -/

/-- A transition is requested: OK goes out before it runs; out of FIELD or RETURN every partition stops. -/
def State.askLc (s : State) (b : MoorBy) (n : Nat) : State :=
  let out := s.lcState = 2 ∨ s.lcState = 3
  let s := (s.setBoot (fun t => { t with lcTo := some n })).mAns b msOK
  let s := if out then (List.range 128).foldl (fun (s : State) p => s.askStop p .command) s else s
  s.sealReplies

/-- LC-FIELD. -/
def State.doLcField (s : State) (b : MoorBy) (args : List Byte) : State :=
  s.mNeeds b [roOWNER] (fun s => s.mLen b args 0 (fun s =>
    if s.lcState ≠ 1 ∨ s.boot.lcTo.isSome then s.mAns b msSTATE else s.askLc b 2))

/-- A return token but for its time condition (R450). -/
def State.tokenGood (s : State) (t : List Byte) : Bool :=
  sub t 0 4 == ascii "MTRT" && leAt t 4 1 == 1 && leAt t 5 1 == s.rootGen && leAt t 6 2 == 0 && leAt t 8 8 == s.boot.serial.toNat &&
    pairVerify s.boot.retKeys (sub t 0 72) (sub t 72 96) (sub t 168 3309)

/-- LC-RETURN with a return token; each refusal is logged. -/
def State.doLcReturn (s : State) (b : MoorBy) (args : List Byte) : State :=
  s.mNeeds b [roOWNER] (fun s => s.mLen b args 3477 (fun s =>
    if s.lcState ≠ 2 ∨ s.boot.lcTo.isSome then s.mAns b msSTATE
    else if !s.tokenGood args then (s.event Ev.RETURN_TOKEN_REFUSED).mAns b msAUTH
    else if !s.timeKnown ∨ leAt args 16 8 < s.taiSec then (s.event Ev.RETURN_TOKEN_REFUSED).mAns b msSTATE
    else s.askLc b 3))

/-- LC-DECOMMISSION. -/
def State.doLcDecommission (s : State) (b : MoorBy) (args : List Byte) : State :=
  s.mNeeds b [roOWNER] (fun s => s.mLen b args 0 (fun s =>
    if s.lcState = 0 ∨ s.lcState = 4 ∨ s.boot.lcTo.isSome then s.mAns b msSTATE else s.askLc b 4))

/-! ### Safety password and log (R389, R390) -/

/-- SAFE-UNLOCK. -/
def State.doSafeUnlock (s : State) (b : MoorBy) (args : List Byte) : State :=
  s.mNeeds b [roSAFETY] (fun s =>
    let r := s.safeUnlock b.sess args
    r.2.mAns b r.1)

/-- SAFE-PASSWORD: old and new, each preceded by its length. -/
def State.doSafePassword (s : State) (b : MoorBy) (args : List Byte) : State :=
  s.mNeeds b [roSAFETY] (fun s =>
    let o := argAt args 0 1
    let n := argAt args (1 + o) 1
    if args.length < 2 ∨ args.length ≠ 2 + o + n then s.mAns b msLEN
    else
      let r := s.safePassword b.sess (sub args 1 o) (sub args (2 + o) n)
      r.2.mAns b r.1)

/-- SAFE-LOG-READ: up to MAX entries from FIRST, oldest first. -/
def State.doSafeLogRead (s : State) (b : MoorBy) (args : List Byte) : State :=
  s.mNeeds b [roSAFETY] (fun s => s.mLen b args 2 (fun s =>
    let es := (s.safe.log.drop (argAt args 0 1)).take (argAt args 1 1)
    s.mData b (es.flatMap (fun e => beBytes 4 e.abs.toNat ++ beBytes 1 e.kind ++ beBytes 3 0 ++ beBytes 4 e.value.toNat ++ beBytes 4 e.cert.toNat))))

/-! ### Window 7 (R444) -/

/-- The next work of the module's own window. -/
def State.moorWork (s : State) : State := match s.moor.work with
  | [] => s
  | w :: rest =>
    let s := s.setMoor (fun m => { m with work := rest })
    match w with
    | .image p sess req => s.imgVerified p sess req
    | .attest sess req rep =>
      let r := s.identitySign rep
      r.2.reply sess req msOK true (rep ++ r.1 ++ beBytes 2 s.boot.cert.length ++ s.boot.cert)
    | .anchor p sess req args =>
      let new := args.take 2049
      let msg := sha384 new ++ beBytes 8 s.boot.serial.toNat ++ beBytes 4 (tgetD s.vault.ten p 0)
      (match s.anchor p with
        | some old => if pairVerify old msg (sub args 2049 96) (sub args 2145 3309) then (s.setAnchor p new).reply sess req msOK true []
            else s.reply sess req msAUTH true []
        | none => s.reply sess req msSTATE true [])
    | .claim p sess req code => (match s.session sess, tget s.vault.codes p with
        | some x, some c =>
          if c.code = code then
            let s := (s.setAnchor p x.root).setVault (fun v => { v with codes := tdel v.codes p })
            (s.claimed sess).reply sess req msOK true []
          else s.reply sess req msAUTH true []
        | _, _ => s.reply sess req msAUTH true [])

/-- ASYM_WINDOW_RUN: windows 0 to 6 run their partitions' requests, window 7 the module's own work. -/
def execAsymWindowRun (w : Fin 8) (s : State) : Out :=
  s.onCore (fun s =>
    if w.val = 7 then (if s.tick.abs % 96 / 12 = 7 then s.moorWork else s) else s.asymWindow w.val)

/-! ### Carrying a command out (R537, R538) -/

/-- What a command code names; none where it is reserved. READY is sent by the module only. -/
def moorFn (code : Nat) : Option (State → MoorBy → List Byte → State) := match code with
  | 0x0001 => some State.doNop
  | 0x0002 => some State.doClose
  | 0x0010 => some State.doRegRead
  | 0x0011 => some State.doRegWrite
  | 0x0020 => some State.doImgBegin
  | 0x0021 => some State.doImgData
  | 0x0022 => some State.doImgEnd
  | 0x0023 => some State.doImgAbort
  | 0x0024 => some State.doColdLoad
  | 0x0030 => some State.doXchgStage
  | 0x0031 => some State.doXchgArm
  | 0x0032 => some State.doXchgDisarm
  | 0x0033 => some State.doXchgDiscard
  | 0x0034 => some State.doXchgStatus
  | 0x0035 => some State.doXchgSafetyAuth
  | 0x0036 => some State.doMultiChange
  | 0x0040 => some State.doForceSet
  | 0x0041 => some State.doForceClear
  | 0x0042 => some State.doForceList
  | 0x0050 => some State.doPartStatus
  | 0x0051 => some State.doTileRead
  | 0x0052 => some State.doRstore
  | 0x0053 => some State.doErrRead
  | 0x0054 => some State.doErrClear
  | 0x0055 => some State.doErrCfg
  | 0x0056 => some State.doLogRead
  | 0x0057 => some State.doLogFree
  | 0x0060 => some State.doTimeRestep
  | 0x0061 => some State.doLampSelftest
  | 0x0062 => some State.doExtract
  | 0x0063 => some State.doFreezeConsent
  | 0x0064 => some State.doReadoutConsent
  | 0x0070 => some State.doKeyStage
  | 0x0071 => some State.doKeyVerify
  | 0x0072 => some State.doKeyCommit
  | 0x0078 => some State.doAttest
  | 0x0079 => some State.doAnchorReplace
  | 0x0080 => some State.doOpenTenancy
  | 0x0081 => some State.doTenantClaim
  | 0x0088 => some State.doClaimOwner
  | 0x0089 => some State.doLcField
  | 0x008A => some State.doLcReturn
  | 0x008B => some State.doLcDecommission
  | 0x0090 => some State.doSafeUnlock
  | 0x0091 => some State.doSafePassword
  | 0x0092 => some State.doSafeLogRead
  | _ => none

/-- The codes a claim-mode session accepts until its claim succeeds (R531). -/
def claimCode (code : Nat) : Bool := code == 0x0001 || code == 0x0002 || code == 0x0081 || code == 0x0088

/-- A command takes effect: only for a READY session that still stands. -/
def State.moorEffect (s : State) (sess req code : Nat) (args : List Byte) (f : State → MoorBy → List Byte → State) : State :=
  match s.session sess with
  | none => s
  | some x =>
    let b : MoorBy := ⟨sess, req, x.role, x.part⟩
    if !x.ready then s
    else if x.claim && !claimCode code then s.mAns b msROLE
    else f s b args

/-- A command given as a whole: registered, then carried out. -/
def State.moorRow (s : State) (sess req code : Nat) (args : List Byte) (f : State → MoorBy → List Byte → State) : State :=
  match s.session sess with
  | none => s
  | some x =>
    if !x.ready then s
    else
      let r := s.moorRegister sess { x with heard := s.tick.count } req code
      if r.1 then r.2.moorEffect sess req code args f else r.2

/-- The commands authenticated before this landing take effect, in order (R537). -/
def State.moorLand (s : State) : State :=
  let cmds := s.moor.cmds
  cmds.foldl (fun (s : State) c => match moorFn c.code with
    | some f => s.moorEffect c.sess c.req c.code c.args f
    | none => s.reply c.sess c.req msUNKNOWN true []) (s.setMoor (fun m => { m with cmds := [] }))

/-- NOP. -/
def execMoorNop (sess : BitVec 32) (req : BitVec 16) (args : List Byte) (s : State) : Out :=
  s.onCore (fun s => s.moorRow sess.toNat req.toNat 0x0001 args State.doNop)
/-- CLOSE. -/
def execMoorClose (sess : BitVec 32) (req : BitVec 16) (args : List Byte) (s : State) : Out :=
  s.onCore (fun s => s.moorRow sess.toNat req.toNat 0x0002 args State.doClose)
/-- REG-READ. -/
def execRegRead (sess : BitVec 32) (req : BitVec 16) (args : List Byte) (s : State) : Out :=
  s.onCore (fun s => s.moorRow sess.toNat req.toNat 0x0010 args State.doRegRead)
/-- REG-WRITE. -/
def execRegWrite (sess : BitVec 32) (req : BitVec 16) (args : List Byte) (s : State) : Out :=
  s.onCore (fun s => s.moorRow sess.toNat req.toNat 0x0011 args State.doRegWrite)
/-- IMG-BEGIN. -/
def execImgBegin (sess : BitVec 32) (req : BitVec 16) (args : List Byte) (s : State) : Out :=
  s.onCore (fun s => s.moorRow sess.toNat req.toNat 0x0020 args State.doImgBegin)
/-- IMG-DATA. -/
def execImgData (sess : BitVec 32) (req : BitVec 16) (args : List Byte) (s : State) : Out :=
  s.onCore (fun s => s.moorRow sess.toNat req.toNat 0x0021 args State.doImgData)
/-- IMG-END. -/
def execImgEnd (sess : BitVec 32) (req : BitVec 16) (args : List Byte) (s : State) : Out :=
  s.onCore (fun s => s.moorRow sess.toNat req.toNat 0x0022 args State.doImgEnd)
/-- IMG-ABORT. -/
def execImgAbort (sess : BitVec 32) (req : BitVec 16) (args : List Byte) (s : State) : Out :=
  s.onCore (fun s => s.moorRow sess.toNat req.toNat 0x0023 args State.doImgAbort)
/-- COLD-LOAD. -/
def execColdLoad (sess : BitVec 32) (req : BitVec 16) (args : List Byte) (s : State) : Out :=
  s.onCore (fun s => s.moorRow sess.toNat req.toNat 0x0024 args State.doColdLoad)
/-- XCHG-STAGE. -/
def execXchgStage (sess : BitVec 32) (req : BitVec 16) (args : List Byte) (s : State) : Out :=
  s.onCore (fun s => s.moorRow sess.toNat req.toNat 0x0030 args State.doXchgStage)
/-- XCHG-ARM. -/
def execXchgArm (sess : BitVec 32) (req : BitVec 16) (args : List Byte) (s : State) : Out :=
  s.onCore (fun s => s.moorRow sess.toNat req.toNat 0x0031 args State.doXchgArm)
/-- XCHG-DISARM. -/
def execXchgDisarm (sess : BitVec 32) (req : BitVec 16) (args : List Byte) (s : State) : Out :=
  s.onCore (fun s => s.moorRow sess.toNat req.toNat 0x0032 args State.doXchgDisarm)
/-- XCHG-DISCARD. -/
def execXchgDiscard (sess : BitVec 32) (req : BitVec 16) (args : List Byte) (s : State) : Out :=
  s.onCore (fun s => s.moorRow sess.toNat req.toNat 0x0033 args State.doXchgDiscard)
/-- XCHG-STATUS. -/
def execXchgStatus (sess : BitVec 32) (req : BitVec 16) (args : List Byte) (s : State) : Out :=
  s.onCore (fun s => s.moorRow sess.toNat req.toNat 0x0034 args State.doXchgStatus)
/-- XCHG-SAFETY-AUTH. -/
def execXchgSafetyAuth (sess : BitVec 32) (req : BitVec 16) (args : List Byte) (s : State) : Out :=
  s.onCore (fun s => s.moorRow sess.toNat req.toNat 0x0035 args State.doXchgSafetyAuth)
/-- MULTI-CHANGE. -/
def execMultiChange (sess : BitVec 32) (req : BitVec 16) (args : List Byte) (s : State) : Out :=
  s.onCore (fun s => s.moorRow sess.toNat req.toNat 0x0036 args State.doMultiChange)
/-- FORCE-SET. -/
def execForceSet (sess : BitVec 32) (req : BitVec 16) (args : List Byte) (s : State) : Out :=
  s.onCore (fun s => s.moorRow sess.toNat req.toNat 0x0040 args State.doForceSet)
/-- FORCE-CLEAR. -/
def execForceClear (sess : BitVec 32) (req : BitVec 16) (args : List Byte) (s : State) : Out :=
  s.onCore (fun s => s.moorRow sess.toNat req.toNat 0x0041 args State.doForceClear)
/-- FORCE-LIST. -/
def execForceList (sess : BitVec 32) (req : BitVec 16) (args : List Byte) (s : State) : Out :=
  s.onCore (fun s => s.moorRow sess.toNat req.toNat 0x0042 args State.doForceList)
/-- PART-STATUS. -/
def execPartStatus (sess : BitVec 32) (req : BitVec 16) (args : List Byte) (s : State) : Out :=
  s.onCore (fun s => s.moorRow sess.toNat req.toNat 0x0050 args State.doPartStatus)
/-- TILE-READ. -/
def execTileRead (sess : BitVec 32) (req : BitVec 16) (args : List Byte) (s : State) : Out :=
  s.onCore (fun s => s.moorRow sess.toNat req.toNat 0x0051 args State.doTileRead)
/-- RSTORE. -/
def execRstore (sess : BitVec 32) (req : BitVec 16) (args : List Byte) (s : State) : Out :=
  s.onCore (fun s => s.moorRow sess.toNat req.toNat 0x0052 args State.doRstore)
/-- ERR-READ. -/
def execErrRead (sess : BitVec 32) (req : BitVec 16) (args : List Byte) (s : State) : Out :=
  s.onCore (fun s => s.moorRow sess.toNat req.toNat 0x0053 args State.doErrRead)
/-- ERR-CLEAR. -/
def execErrClear (sess : BitVec 32) (req : BitVec 16) (args : List Byte) (s : State) : Out :=
  s.onCore (fun s => s.moorRow sess.toNat req.toNat 0x0054 args State.doErrClear)
/-- ERR-CFG. -/
def execErrCfg (sess : BitVec 32) (req : BitVec 16) (args : List Byte) (s : State) : Out :=
  s.onCore (fun s => s.moorRow sess.toNat req.toNat 0x0055 args State.doErrCfg)
/-- LOG-READ. -/
def execLogRead (sess : BitVec 32) (req : BitVec 16) (args : List Byte) (s : State) : Out :=
  s.onCore (fun s => s.moorRow sess.toNat req.toNat 0x0056 args State.doLogRead)
/-- LOG-FREE. -/
def execLogFree (sess : BitVec 32) (req : BitVec 16) (args : List Byte) (s : State) : Out :=
  s.onCore (fun s => s.moorRow sess.toNat req.toNat 0x0057 args State.doLogFree)
/-- TIME-RESTEP. -/
def execTimeRestep (sess : BitVec 32) (req : BitVec 16) (args : List Byte) (s : State) : Out :=
  s.onCore (fun s => s.moorRow sess.toNat req.toNat 0x0060 args State.doTimeRestep)
/-- LAMP-SELFTEST. -/
def execLampSelftest (sess : BitVec 32) (req : BitVec 16) (args : List Byte) (s : State) : Out :=
  s.onCore (fun s => s.moorRow sess.toNat req.toNat 0x0061 args State.doLampSelftest)
/-- EXTRACT. -/
def execMoorExtract (sess : BitVec 32) (req : BitVec 16) (args : List Byte) (s : State) : Out :=
  s.onCore (fun s => s.moorRow sess.toNat req.toNat 0x0062 args State.doExtract)
/-- FREEZE-CONSENT. -/
def execFreezeConsent (sess : BitVec 32) (req : BitVec 16) (args : List Byte) (s : State) : Out :=
  s.onCore (fun s => s.moorRow sess.toNat req.toNat 0x0063 args State.doFreezeConsent)
/-- READOUT-CONSENT. -/
def execReadoutConsent (sess : BitVec 32) (req : BitVec 16) (args : List Byte) (s : State) : Out :=
  s.onCore (fun s => s.moorRow sess.toNat req.toNat 0x0064 args State.doReadoutConsent)
/-- KEY-STAGE. -/
def execKeyStage (sess : BitVec 32) (req : BitVec 16) (args : List Byte) (s : State) : Out :=
  s.onCore (fun s => s.moorRow sess.toNat req.toNat 0x0070 args State.doKeyStage)
/-- KEY-VERIFY. -/
def execKeyVerify (sess : BitVec 32) (req : BitVec 16) (args : List Byte) (s : State) : Out :=
  s.onCore (fun s => s.moorRow sess.toNat req.toNat 0x0071 args State.doKeyVerify)
/-- KEY-COMMIT. -/
def execKeyCommit (sess : BitVec 32) (req : BitVec 16) (args : List Byte) (s : State) : Out :=
  s.onCore (fun s => s.moorRow sess.toNat req.toNat 0x0072 args State.doKeyCommit)
/-- ATTEST. -/
def execAttest (sess : BitVec 32) (req : BitVec 16) (args : List Byte) (s : State) : Out :=
  s.onCore (fun s => s.moorRow sess.toNat req.toNat 0x0078 args State.doAttest)
/-- ANCHOR-REPLACE. -/
def execAnchorReplace (sess : BitVec 32) (req : BitVec 16) (args : List Byte) (s : State) : Out :=
  s.onCore (fun s => s.moorRow sess.toNat req.toNat 0x0079 args State.doAnchorReplace)
/-- OPEN-TENANCY. -/
def execOpenTenancy (sess : BitVec 32) (req : BitVec 16) (args : List Byte) (s : State) : Out :=
  s.onCore (fun s => s.moorRow sess.toNat req.toNat 0x0080 args State.doOpenTenancy)
/-- TENANT-CLAIM. -/
def execTenantClaim (sess : BitVec 32) (req : BitVec 16) (args : List Byte) (s : State) : Out :=
  s.onCore (fun s => s.moorRow sess.toNat req.toNat 0x0081 args State.doTenantClaim)
/-- CLAIM. -/
def execClaimOwner (sess : BitVec 32) (req : BitVec 16) (args : List Byte) (s : State) : Out :=
  s.onCore (fun s => s.moorRow sess.toNat req.toNat 0x0088 args State.doClaimOwner)
/-- LC-FIELD. -/
def execLcField (sess : BitVec 32) (req : BitVec 16) (args : List Byte) (s : State) : Out :=
  s.onCore (fun s => s.moorRow sess.toNat req.toNat 0x0089 args State.doLcField)
/-- LC-RETURN. -/
def execLcReturn (sess : BitVec 32) (req : BitVec 16) (args : List Byte) (s : State) : Out :=
  s.onCore (fun s => s.moorRow sess.toNat req.toNat 0x008A args State.doLcReturn)
/-- LC-DECOMMISSION. -/
def execLcDecommission (sess : BitVec 32) (req : BitVec 16) (args : List Byte) (s : State) : Out :=
  s.onCore (fun s => s.moorRow sess.toNat req.toNat 0x008B args State.doLcDecommission)
/-- SAFE-UNLOCK. -/
def execSafeUnlock (sess : BitVec 32) (req : BitVec 16) (args : List Byte) (s : State) : Out :=
  s.onCore (fun s => s.moorRow sess.toNat req.toNat 0x0090 args State.doSafeUnlock)
/-- SAFE-PASSWORD. -/
def execSafePassword (sess : BitVec 32) (req : BitVec 16) (args : List Byte) (s : State) : Out :=
  s.onCore (fun s => s.moorRow sess.toNat req.toNat 0x0091 args State.doSafePassword)
/-- SAFE-LOG-READ. -/
def execSafeLogRead (sess : BitVec 32) (req : BitVec 16) (args : List Byte) (s : State) : Out :=
  s.onCore (fun s => s.moorRow sess.toNat req.toNat 0x0092 args State.doSafeLogRead)

end Sys2Proof.Machine
end

