-- ==== Sys2Proof/Machine/Landing.lean ====
section
/-!
DEFINITION. The landing (R92): the tick's beginning, the swap, the snapshot, distribution, the ferry and the release; the start of
partitions (R549) and the end of a tenancy (R26).
-/
namespace Sys2Proof.Machine

/-! ### The swap (R103 step 4, R105, R228) -/

/-- The checked swap is due at a tick: it names none, or the tick it names has come; a coordinated one has its COMMIT (R234). -/
def State.swapDue (s : State) (t : Nat) : Bool :=
  s.flag R.TICK_STAT F.TICK_STAT_SWAP_PEND && s.flag R.TICK_STAT F.TICK_STAT_SWAP_CHECKED &&
    (!s.tick.swapWord.getLsbD 31 || decide (s.tick.swapAt ≤ t)) &&
    (!s.tick.swapMulti || s.multi.unit.all (fun u => u.committed))

/-- The bank, its grants and every riding exchange take effect (R228): the new programs' loops, streams and datasets are bound, point
maps looked at again (R343), an authorised swap is entered in the safety change log (R233), and a unit of a coordinated change
reports DONE (R234). -/
def State.swapNow (s : State) : State :=
  let ps := s.inXstate xsRIDING
  let multi := s.tick.swapMulti
  let auth := s.tick.swapAuth
  let s := ps.foldl (fun (s : State) p => s.bindAll p) s.swapActivate
  let s := if ps.isEmpty then s else s.canMapsStale
  let s := if auth then s.safeLog slSWAP (w32 (beNat s.safe.lastAuth)) 0 else s
  let s : State := { s with tick := { s.tick with swapMulti := false, swapAuth := false } }
  if multi then s.changeDone else s

/-- SWAP_ACTIVATE: at cycle 0 of the tick that begins, which a landing does where this has not been commanded. -/
def execSwapActivate (s : State) : Out :=
  s.onCore (fun s =>
    let t := if s.tick.launched || !s.tick.running then s.tick.stepTo.getD (s.tick.abs + 1) else s.tick.abs
    if s.swapDue t then s.swapNow else s)

/-! ### The tick begins (R88 to R91) -/

/-- The length of the tick that ends, in cycles (R90, R91). -/
def State.tickLength (s : State) : Nat :=
  if s.tick.stepTo.isSome then 41662 + Config.tickCycles s.free % 41671
  else if s.reg R.TIME_RATE = 0 then (if s.tickNo % 3 = 2 then 41666 else 41667)
  else 41662 + Config.tickCycles s.free % 10

/-- TICK_LEN and TICK_LEN_RANGE after a tick of n cycles; a stretched tick leaves the range alone. -/
def State.tickLen (s : State) (n : Nat) (stretched : Bool) : State :=
  let a := R.TICK_LEN_RANGE
  let s := s.setFld R.TICK_LEN F.TICK_LEN_LAST n
  if stretched then s
  else
    let fresh := s.tick.rangeClear
    let hi := if fresh then n else max n (s.fld a F.TICK_LEN_RANGE_MAX)
    let lo := if fresh then n else min n (s.fld a F.TICK_LEN_RANGE_MIN)
    let s := (s.setFld a F.TICK_LEN_RANGE_MAX hi).setFld a F.TICK_LEN_RANGE_MIN lo
    { s with tick := { s.tick with rangeClear := false } }

/-- Cycle 0 of the next tick. The first tick edge begins phase JOIN (R547). -/
def State.tickBegin (s : State) : State :=
  let t := s.tick
  let first := decide (s.phase ≤ 8)
  let n := s.tickLength
  let s := if first then s.setPhase 9 else (s.tickLen n t.stepTo.isSome).draw
  let next : TickSt := { s.tick with abs := t.stepTo.getD (t.abs + 1), count := t.count + 1, base := if first then t.base else t.base + n,
                                     launched := false, stepTo := none, fresh := [], before1 := t.abs, before2 := t.before1 }
  { s with tick := next }

/-! ### What a landing reads and counts (R84, R159, R160, R359, R51) -/

/-- The event mask of partition p: of its valid event entries in the active bank. -/
def State.evMask (s : State) (p : Nat) : Word :=
  let b := s.bankB
  (s.validTasks b).foldl (fun (m : Word) n => if s.taskKind b n = 1 ∧ s.taskPart b n = p then m ||| s.maskReg b n else m) 0

/-- The bits set in a word. -/
def bitCount (w : Word) : Nat := ((List.range 32).filter (fun i => w.getLsbD i)).length

/-- The event flags' snapshot (R159, R160): a flag of a RUNNING partition that no event entry matches counts in EVLOST. -/
def State.evSnapshot (s : State) : State :=
  (s.parts.map (fun e => e.1)).foldl (fun (s : State) p =>
    let pend := (s.part p).evPend
    let s := s.modPart p (fun x => { x with evSnap := pend, evPend := 0 })
    let lost := if s.running p then bitCount (pend &&& ~~~ s.evMask p) else 0
    if lost = 0 then s
    else s.setFld (R.ENG_PART_STAT p) F.ENG_PART_STAT_EVLOST (satAdd (s.fld (R.ENG_PART_STAT p) F.ENG_PART_STAT_EVLOST) lost 255)) s

/-- The supplies and field power as read, the extraction's ticks, STORE after COMMIT, and the request to the witness in the tick after an
extraction was recognised at a twin (R51 step 2). -/
def State.landPower (s : State) (i : LandIn) : State :=
  let s := s.setReg R.ID_PWR_VOLT (w32 (i.hold.toNat * 2 ^ 24 + i.vso.toNat * 2 ^ 16 + i.vfld.toNat * 2 ^ 8 + i.v24.toNat))
  let s := i.watts.foldl (fun (s : State) e => if e.1 < 32 then s.setFld (R.SPE_PSTAT e.1) F.SPE_PSTAT_WATTS (min e.2 255) else s) s
  let s := s.exTicks
  let s := if s.pfState = pfCOMMIT then s.setPf pfSTORE else s
  if s.exState = exREQUESTED ∧ s.twinOn ∧ 12 ≤ s.phase then (s.manage 0xFF mtTWIN [1]).setExState exHANDOVER else s

/-! ### Distribution (R205, R209) -/

/-- What the source of an input image gives a point. An ECHO image whose output image has not been committed shows its safe values. -/
def State.sourceIn (s : State) (p loc : Nat) (h : ImgHdr) (i : Nat) : Option PtIn :=
  match h.source with
  | 0 => some (s.safePoint i)
  | 1 => match s.rxOf loc with
    | some c => some (s.rxPoint c i)
    | none => (s.subOf loc).map (fun n => s.subPoint n i)
  | 2 => some (s.canSource loc i)
  | 3 => match s.echoPoint p h i, s.outImage p h.link with
    | some x, _ => some x
    | none, some (l, _) => some ⟨(tgetD (s.part p).safe l ⟨[], false⟩).values.getD i 0, qSAFE, 0⟩
    | none, none => none
  | 4 => s.meterPoint loc i
  | 5 => s.speSource loc i
  | _ => none

/-- A point of a BIT image is one bit. -/
def trimPoint (ly : Nat) (x : PtIn) : PtIn := if ly = lyBIT then { x with value := x.value &&& 1 } else x

/-- One input image is written (R200, R205): bytes 4–15 as placed. -/
def State.distImage (s : State) (p loc : Nat) (h : ImgHdr) : State :=
  let b := s.payload loc
  let head := b.take 4 ++ leBytes 1 h.layout ++ leBytes 1 h.source ++ leBytes 2 h.npoints ++ leBytes 4 h.link ++ List.replicate 4 0
  let b := head ++ b.drop 16
  let pts := (List.range h.npoints).map (fun i => ptNext h.layout b s.absLo i ((s.sourceIn p loc h i).map (trimPoint h.layout)))
  s.storeTile loc (imgPayload h b s.absLo pts)

/-- The input images of every partition whose distribution has begun: that of the first tick in which its tasks run. -/
def State.distribute (s : State) : State :=
  (s.parts.map (fun e => e.1)).foldl (fun (s : State) p =>
    let s := if s.running p then s.modPart p (fun x => { x with distributing := true }) else s
    ((s.part p).hdrs).foldl (fun (s : State) e =>
      if e.2.layout != lySV && s.dirValid e.1 && s.dirOwner e.1 == p && s.distributed e.1 then s.distImage p e.1 e.2 else s) s) s

/-! ### The ferry (R131, R132, R444, R514) -/

/-- A message is written to the inactive location of an inbox: the header of R131 with the tick before this one, then bytes 8 on. -/
def State.putInbox (s : State) (loc sender : Nat) (rest : List Byte) : State :=
  let t := if s.dirAct loc then s.linkLoc loc else loc
  s.storeTile t (leBytes 4 (s.tick.before1 % 2 ^ 32) ++ leBytes 1 sender ++ [0, 0, 0] ++ rest)

/-- The inactive location of an inbox becomes the active one, which fires its event. -/
def State.activateInbox (s : State) (loc : Nat) : State :=
  let t := if s.dirAct loc then s.linkLoc loc else loc
  let a := if s.dirAct loc then loc else s.linkLoc loc
  ((s.setFlag (R.TS_DIR_CTL t) F.TS_DIR_CTL_ACT true).setFlag (R.TS_DIR_CTL a) F.TS_DIR_CTL_ACT false).fire 3 t

/-- The inbox paired with an outbox (R557). -/
def State.inboxOf (s : State) (loc : Nat) : Option Nat :=
  ((List.range 512).find? (fun m => (s.reg (R.TS_MBX m)).getLsbD 31 && s.inEffect (R.TS_MBX m) &&
    s.fld (R.TS_MBX m) F.TS_MBX_OUT == loc)).map (fun m => s.fld (R.TS_MBX m) F.TS_MBX_IN)

/-- An outbox stored in the tick before is copied; one that fails its checks enters repair and its copy stays inactive (R132). -/
def State.ferryOne (s : State) (p loc : Nat) : State := match s.inboxOf loc with
  | none => s
  | some i =>
    if !s.isInbox i || !s.dirValid loc then s
    else
      let bad := (s.sealFail loc).isSome
      let s := s.putInbox i p ((s.payload loc).drop 8)
      if bad then s.startRepair loc else s.activateInbox i

/-- A message of the module itself (R131, R181). -/
def State.ferryMsg (s : State) (loc sender : Nat) (msg : List Byte) : State :=
  if s.isInbox loc then (s.putInbox loc sender (leBytes 2 msg.length ++ [0, 0] ++ msg)).activateInbox loc else s

/-- Error records that stood in the queue of partition p at cycle 0 go to its inbox; a missing inbox holds them (R514). -/
def State.errDeliver (s : State) (p n : Nat) : State :=
  let a := R.ERR_PQ_CFG p
  let loc := s.fld a F.ERR_PQ_CFG_LOC
  let q := (s.part p).errq
  let setQ (s : State) (q : ErrQueue) : State := s.modPart p (fun x => { x with errq := q })
  if !s.flag a F.ERR_PQ_CFG_INB_EN then s
  else if !(s.isInbox loc && s.dirOwner loc == p) then
    (if q.heldTold then s else (setQ s { q with heldTold := true }).eventQ Ev.ERR_DELIVERY_HELD p)
  else
    let recs := q.recs.take n
    let s := setQ s ⟨q.recs.drop n, false⟩
    if recs.isEmpty then s
    else
      let st := R.ERR_PQ_STAT p
      s.ferryMsg loc 0x81 (leBytes 1 recs.length ++ leBytes 1 (s.fld st F.ERR_PQ_STAT_OVF) ++ leBytes 2 (s.fld st F.ERR_PQ_STAT_LOST) ++
        [0, 0, 0, 0] ++ (recs.map ErrRec.bytes).flatten)

/-- The ferry: outboxes, vault results, error deliveries. `held` gives the records each queue held at cycle 0. -/
def State.ferry (s : State) (held : List (Nat × Nat)) : State :=
  let s := (s.parts.map (fun e => (e.1, e.2.outboxes))).foldl (fun (s : State) (e : Nat × List Nat) =>
    e.2.foldl (fun (s : State) l => s.ferryOne e.1 l) (s.modPart e.1 (fun x => { x with outboxes := [] }))) s
  let due := s.vault.results.filter (fun r => decide (r.1 ≤ s.tick.abs))
  let s := s.setVault (fun v => { v with results := v.results.filter (fun r => !decide (r.1 ≤ s.tick.abs)) })
  let s := due.foldl (fun (s : State) (r : Nat × Nat × Nat × List Byte) => s.ferryMsg r.2.1 0x80 (leBytes 1 r.2.2.1 ++ r.2.2.2)) s
  (List.range 128).foldl (fun (s : State) p => s.errDeliver p (tgetD held p 0)) s

/-! ### Starting partitions (R549, R552) -/

/-- A partition that receives START (R549). -/
def State.bootStart (s : State) (p : Nat) : State := if s.pstate p = psIdle then s.toStarting p else s

/-- The image of partition 0 was refused at start-up (R548). -/
def State.refused0 (s : State) : Bool := (tget s.boot.images 0).isSome && (s.part 0).prog.isNone

/-- The starts of a landing: partition 0 once the unit has its address or runs standalone, the others at the landing after partition 0
runs, twinned ones with their twin. None starts once an extraction or a power-fail has ended start-up (R50, R71). -/
def State.starts (s : State) : State :=
  if s.txStopped then s
  else if s.phase = 9 ∧ (s.boot.assigned ∨ s.boot.standalone) then
    let s := s.setPhase 10
    if s.refused0 then s else s.bootStart 0
  else if s.phase = 10 ∧ s.running 0 then
    let ps := s.boot.toStart.filter (fun p => p != 0 && !s.twinned p)
    (ps.foldl (fun (s : State) p => s.bootStart p) ((s.setPhase 11).setBoot (fun b => { b with toStart := [] })))
  else s

/-! ### The end of a tenancy (R26, R510) -/

/-- The global records of partition p are zeroised but for ABS, TICK, PART and CLASS (R510). -/
def State.zeroRecords (s : State) (p : Nat) : State :=
  let z (g : GRec) : GRec :=
    if g.r.part = p then { g with r := ⟨g.r.abs, g.r.tick, g.r.part, 0, 0, 0, g.r.cls, false, false, false, 0, 0, 0⟩ } else g
  { s with err := { s.err with glob := s.err.glob.map z } }

/-- The Mooring sessions of tenant p end (R535). -/
def State.tenantSessions (s : State) (p : Nat) : State :=
  ((s.moor.sessions.filter (fun e => e.2.role == roTENANT && e.2.part == p)).map (fun e => e.1)).foldl
    (fun (s : State) n => s.endSession n seTENANCY) s

/-- The loop slots, streams and datasets bound for partition p are unbound. -/
def State.unbindAll (s : State) (p : Nat) : State :=
  let s := (s.bindLoops p).bindTrips p
  let mine := s.allottedTo R.SV_STRM_CTRL 32 p
  { s with sv := s.sv.filter (fun e => !mine.contains e.1) }

/-- What the landing after a tenancy's last launch zeroises (R26 steps 2 to 4): its keys, forces, queue and plans, its meter elements, its
KEEP pages, its image in the image store and its consent; its tiles wait for the steps of their banks. -/
def State.zeroPart (s : State) (p : Nat) : State :=
  let s := (((s.vaultEnd p).assignEnd p).keepEnd p).tenantSessions p
  let s := (s.zeroRecords p).setBoot (fun b => { b with images := tdel b.images p, toStart := b.toStart.filter (fun q => q != p) })
  let s := (s.boundPages p).foldl (fun (s : State) n => (s.setPage n 0).setFld (R.ENG_CODE_PAGE n) F.ENG_CODE_PAGE_LOC 0) s
  let gone := s.boundPages p
  let s : State := { s with eng := { s.eng with bound := s.eng.bound.filter (fun n => !gone.contains n) } }
  let s := (s.setPart p PartSt.reset).unbindAll p
  let s := ((s.setReg (R.ERR_PQ_STAT p) 0).setReg (R.ENG_XCHG_STAT p) 0).setReg (R.ENG_XCHG_TICK p) 0
  let c := R.ERR_CONSENT (p / 32)
  let s := s.setReg c (w32 (setBit (s.reg c).toNat (p % 32) false))
  (s.allocated.filter (fun l => s.dirOwner l == p && s.dirAct l)).foldl (fun (s : State) l =>
    s.setSteps (l / 64) (s.steps (l / 64) ++ [.drop l p])) s

/-- The tenancies whose end has reached its launch. -/
def State.zeroLand (s : State) : State :=
  s.boot.zero.foldl (fun (s : State) p => s.zeroPart p) (s.setBoot (fun b => { b with zero := [] }))

/-- ZEROISATION_DONE (R26 step 5): nothing of the partition is left, and it becomes FREE. -/
def execZeroisationDone (part : Fin 128) (s : State) : Out :=
  s.onCore (fun s =>
    let p := part.val
    if s.pstate p = psZeroising && !s.boot.zero.contains p && !s.allocated.any (fun l => s.dirOwner l == p) then s.setPstate p psFree
    else s)

/-! ### The landing -/

/-- A response not yet sealed into its datagram stays until the launch. -/
def Msg.waits : Msg → Bool
  | .reply _ _ _ _ _ => true
  | _ => false

/-- The positions go to system ring S0 after a retirement (R136, R139): those that differ from the first reset. -/
def State.storeLamps (s : State) : State :=
  if !s.keep.lampsDirty then s
  else
    let pos (n : Nat) : Nat × Nat := (s.fld (R.ENG_LAMP n) F.ENG_LAMP_PHYS, s.posState n)
    let first (n : Nat) : Nat × Nat :=
      (F.ENG_LAMP_PHYS.get (resetWord (R.ENG_LAMP n)), F.ENG_LAMP_STATE.get (resetWord (R.ENG_LAMP n)))
    let l := (List.range 64).filterMap (fun n => if pos n = first n then none else some (n, pos n))
    { s with keep := { s.keep with s0 := l, lampsDirty := false } }

/-- Freeze consent given by the witness stands from this landing (R519, R541). -/
def State.consentLand (s : State) : State :=
  if s.err.consentDue then
    let s := s.setFlag R.ERR_FRZ_STAT F.ERR_FRZ_STAT_CONSENT true
    { s with err := { s.err with consentDue := false, consentAt := s.tick.count } }
  else s

/-- Cycle 0: the tick begins, the swap, the inputs as they stood, SAFE's edge and the event flags (R92). -/
def State.landSnapshot (s : State) (i : LandIn) : State :=
  let s := s.tickBegin
  let s : State := { s with out := s.out.filter Msg.waits }
  let s := if s.swapDue s.tick.abs then s.swapNow else s
  let s := ((s.landPower i).safeEdge i.si.toNat i.sq.toNat).evSnapshot
  (s.svSnapshot.swLanding).tripLanding

/-- What came over the links is taken (R398, R412, R429, R435, R477). -/
def State.landLinks (s : State) (i : LandIn) : State :=
  let s := s.metLand.twinLand.decisionsLand.witnessLand
  let s := s.forcesLand.joinLand.exchangeLand.beaconLand
  s.linkDelays i.delays

/-- Distribution: the CLU's tiles and records (R264, R265), the images, CAN's modes and counts. -/
def State.landDistribute (s : State) : State :=
  let s := s.writeLoops
  let s := (s.clu.map (fun e => e.1)).foldl (fun (s : State) j => s.landLoop j) s
  s.distribute.canSnap.canLanding

/-- The release: sampled values, Mooring's commands, starts, tenancies that ended and what waits for a landing. -/
def State.landRelease (s : State) : State :=
  let s := s.svReleaseAll.moorLand
  let s := (s.parts.map (fun e => e.1)).foldl (fun (s : State) p => s.coldStart p) s
  let s := s.starts.zeroLand.consentLand
  let s := s.keepKeys.ringsTell.storeLamps
  s.holdSec.beaconSend

/-- LANDING: cycles 0 to 1,023 of the next tick. -/
def State.landing (s : State) (i : LandIn) : State :=
  let held := s.parts.map (fun e => (e.1, e.2.errq.recs.length))
  ((((s.landSnapshot i).landLinks i).landDistribute).ferry held).landRelease

/-- LANDING (R92): there is none before the tick grid runs (R546). -/
def execLanding (i : LandIn) (s : State) : Out :=
  s.onCore (fun s => if s.tick.running then s.landing i else s)

end Sys2Proof.Machine
end

