-- ==== Sys2Proof/Machine/Launch.lean ====
section
/-!
DEFINITION. The launch (R92): stops, release of partitions, the commit, the release of frames and datasets, and the publish phase; and
the stretched tick of a step of time (R91).
-/
namespace Sys2Proof.Machine

/-! ### Watchdog, retirement and release (R219, R239, R550) -/

/-- The tick-count check of partition p at the commit (R161, R219). -/
def State.watchdog (s : State) (p : Nat) : State :=
  if !s.running p then s
  else
    let a := R.ENG_WD p
    let n := if (s.part p).ended then 0 else satAdd (s.fld a F.ENG_WD_COUNT) 1 65535
    let s := s.setFld a F.ENG_WD_COUNT n
    if s.fld a F.ENG_WD_LIMIT ≠ 0 ∧ s.fld a F.ENG_WD_LIMIT ≤ n then
      let r : RecIn := ⟨13, p, 0xFF, none, 0, false, 0, BitVec.ofNat 64 n⟩
      (s.log r (some p) true).askStop p .watchdog
    else s

/-- The physical lamps to be retired at this launch (R239). -/
def State.retireAll (s : State) : State :=
  let l := s.eng.retiring
  l.foldl (fun (s : State) n => s.retire n) { s with eng := { s.eng with retiring := [] } }

/-- Every cyclic and safety task entry of p with PERIOD ≤ 4800 has issued ENDSLOT since RUNNING (R550). -/
def State.scanned (s : State) (p : Nat) : Bool :=
  let b := s.bankB
  (s.validTasks b).all (fun n => s.taskPart b n != p || s.taskKind b n == 1 || decide (4800 < s.taskPeriod b n) ||
    (s.part p).endedEntries.contains n)

/-- Partition p's release takes effect at this launch; a twinned partition's only where its twin serves (R552). -/
def State.releasePart (s : State) (p : Nat) : State :=
  if s.running p && !(s.part p).released && !s.txStopped && s.scanned p &&
      (!s.twinned p || s.twinState == twSERVING || s.twinState == twSOLO) then
    s.modPart p (fun x => { x with released := true, served := true })
  else s

/-! ### Stops and the commit (R154, R207, R218) -/

/-- The stop of partition p takes effect (R154, R218, R220): END zeroises, RESTART starts anew. -/
def State.stopPart (s : State) (p : Nat) : State :=
  let x := s.part p
  if x.endReq then
    let s := if s.pstate p = psStarting ∨ s.running p then s.leaveRunning p psZeroising else s.setPstate p psZeroising
    s.setBoot (fun b => { b with zero := luniq (b.zero ++ [p]) })
  else match x.stopReq with
    | some .restart => (s.leaveRunning p psStopped).toStarting p
    | some c => (s.leaveRunning p psStopped).setFld (R.ENG_PART_STAT p) F.ENG_PART_STAT_CAUSE c.code
    | none => s

/-- A stop or an end waits for this launch. -/
def State.stopping (s : State) (p : Nat) : Bool := (s.part p).endReq || (s.part p).stopReq.isSome

/-- The writes staged by LOOPWR pass to the CLU (R184). -/
def State.enterLoopw (s : State) (p : Nat) : State :=
  let l := (s.part p).loopw
  l.foldl (fun (s : State) (e : Nat × Nat × Word) => s.loopwr e.1 e.2.1 e.2.2) (s.modPart p (fun x => { x with loopw := [] }))

/-- The commit phase (R92): watchdogs, retirements, releases, stops, output images, staged loop writes and SAFE. -/
def State.launchCommit (s : State) : State :=
  let ps := s.parts.map (fun e => e.1)
  let s := (ps.foldl (fun (s : State) p => s.watchdog p) s).retireAll
  let s := ps.foldl (fun (s : State) p => s.releasePart p) s
  let out := ps.filter (fun p => s.stopping p)
  let s := out.foldl (fun (s : State) p => s.stopPart p) s
  let s := (ps.filter (fun p => !out.contains p)).foldl (fun (s : State) p => s.commitPart p) s
  (ps.foldl (fun (s : State) p => s.enterLoopw p) s).safeCommit

/-! ### Release and publish (R304, R334, R409, R424) -/

/-- What an unreleased partition produced in the tick does not leave (R550). -/
def State.withhold (s : State) (p : Nat) : State :=
  (s.discardFrames p).modPart p (fun x => { x with csends := [], trips := [] })

/-- The release phase: the launcher's frames in dataset order, then the partition queues', then CAN records and keys (R433, R445). -/
def State.launchRelease (s : State) : State :=
  let ps := s.parts.map (fun e => e.1)
  let go := if s.txStopped then [] else ps.filter (fun p => s.running p && (s.part p).released)
  let s := (ps.filter (fun p => !go.contains p)).foldl (fun (s : State) p => s.withhold p) s
  let s := s.lstateApply.keepCaps
  let s := if s.txStopped then s else s.tripLaunch
  let s := (go.foldl (fun (s : State) p => s.canRelease p) (s.releaseFrames go)).commitKeys
  s

/-- The publish phase. Nothing goes out from COMMIT of a power-fail on, in READY, and after an unplanned withdrawal; SAFE's telegram
count goes on. -/
def State.launchPublish (s : State) : State :=
  if pfCOMMIT ≤ s.pfState ∨ s.exState = exREADY ∨ s.exState = exUNPLANNED then s.telegrams.2
  else s.lanyardSend.publish.heartbeat.decisionsPublish

/-! ### The end of the launch -/

/-- The commands kept for this launch join the queues of their banks (R228). -/
def State.joinSteps (s : State) : State :=
  let l := s.tiles.later
  l.foldl (fun (s : State) (e : Nat × StepCmd) => s.setSteps e.1 (s.steps e.1 ++ [e.2])) { s with tiles := { s.tiles with later := [] } }

/-- What partitions keep for one tick is cleared. -/
def PartSt.tickEnd (x : PartSt) : PartSt :=
  { x with ended := false, endedNow := [], barred := false, startNow := false, stopReq := none, endReq := false }

/-- Phase SERVICE (R547): every partition that starts or runs has been released. An extraction ends start-up before it (R50). -/
def State.service (s : State) : State :=
  let waits := s.parts.any (fun e => s.pstate e.1 == psStarting || (s.running e.1 && !e.2.released))
  if s.phase = 11 ∧ ¬ waits ∧ ¬ s.txStopped then
    (s.setPhase 12).setFld R.ID_BOOT F.ID_BOOT_MS (min (s.tick.count * 5 / 24) 65535)
  else s

/-- The end of the launch. -/
def State.launchEnd (s : State) : State :=
  let s := s.joinSteps.changeAck
  let s := (s.parts.map (fun e => e.1)).foldl (fun (s : State) p => s.modPart p PartSt.tickEnd) s
  let s := s.service.sealReplies
  { s with tick := { s.tick with launched := true } }

/-- An extraction without a twin, or recognised during start-up, is made safe at the launch of its own tick (R50, R51); an unplanned withdrawal goes to COMMIT (R73). -/
def State.launchPower (s : State) : State :=
  let s := if s.exState = exREQUESTED ∧ (¬ s.twinOn ∨ s.phase < 12) then s.exSafing else s
  if s.exState = exUNPLANNED ∧ s.pfState ≤ pfRIDE then s.pfCommit else s

/-- LAUNCH: from cycle 40,960. -/
def State.launch (s : State) : State := s.launchPower.launchCommit.launchRelease.launchPublish.launchEnd

/-- LAUNCH (R92): once in a tick. -/
def execLaunch (s : State) : Out :=
  s.onCore (fun s => if s.tick.running && !s.tick.launched then s.launch else s)

/-! ### The stretched tick (R91, R105, R326) -/

/-- The absolute tick that follows a stretched tick `a`: the first instant of the new time scale at least 41,662 cycles of 5 ns after its
cycle 0, the counter running at `rate` ppt and stepped by `ns`. -/
def stretchedTo (a : Nat) (rate ns : Int) : Nat :=
  let num : Int := 4800 * (208310 * (1000000000000 + rate) + ns * 1000000000000)
  let den : Int := 1000000000000000000000
  ((a : Int) - (-num) / den).toNat

/-- What a step passes over: a swap's target (R105), a coordinated change's COMMIT (R105), the freeze comparator's target (R517). -/
def State.passOver (s : State) (a b : Nat) : State :=
  let at' := s.tick.swapAt
  let s := if s.flag R.TICK_STAT F.TICK_STAT_SWAP_CHECKED ∧ s.tick.swapWord.getLsbD 31 ∧ a < at' ∧ at' < b then
      s.event Ev.SWAP_AT_STEPPED 0xFF (s.tick.swapWord.toNat % 2 ^ 29) (b % 2 ^ 32) else s
  let late : Bool := match s.multi.unit with
    | some u => match u.x with
      | some x => !u.committed && decide (x < b + 48)
      | none => false
    | none => false
  let s := if late then (s.event Ev.MULTI_NO_COMMIT).changeCancel else s
  let d := (s.reg R.ERR_FRZ_TICK - s.absLo).toNat
  if s.flag R.ERR_FRZ_CFG F.ERR_FRZ_CFG_CMP_EN ∧ 0 < d ∧ a + d < b then s.setFlag R.ERR_FRZ_STAT F.ERR_FRZ_STAT_CMP_MISSED true else s

/-- The step of time of `ns` is applied in the current tick (R91, R326): the tick is stretched, the servo locks anew at the held rate, and
the step window of the streams opens. -/
def State.stretch (s : State) (ns : Int) : State :=
  let a := s.tick.abs
  let b := stretchedTo a (sval (s.reg R.TIME_RATE)) ns
  let s : State := { s with tick := { s.tick with stepTo := some b } }
  let s := s.incFld R.TICK_STEP F.TICK_STEP_STEPS 65535
  let s := (s.event Ev.TICK_STEPPED 0xFF (b % 2 ^ 32) (a % 2 ^ 32)).passOver a b
  let s : State := { s with time := { s.time with step := none, good := 0, bad := 0 } }
  let s := ((s.setTimeState tsLOCKING).setFlag R.TIME_STAT F.TIME_STAT_RESTEP_PEND false).ptpStates.svStep
  s.event Ev.TIME_RESTEPPED 0xFF (wrapW ns).toNat

/-- STRETCHED_TICK: at cycle 40,960 of the tick an accepted step names. -/
def execStretchedTick (s : State) : Out :=
  s.onCore (fun s => match s.time.step with
    | some (ns, at') => if s.tick.running ∧ at' ≤ s.tick.abs ∧ s.tick.stepTo.isNone then s.stretch ns else s
    | none => s)

end Sys2Proof.Machine
end

