-- ==== Sys2Proof/Machine/Dispatch.lean ====
section
/-!
DEFINITION. The dispatcher: one arm for each command, each one call of the command's meaning.
-/
namespace Sys2Proof.Machine

def exec (i : Instr) (s : State) : Host.Outcome State Fault Refusal :=
  match i with
  | .cageModulePresent cage x => Sys2Proof.Machine.execCageModulePresent cage x s
  | .transceiverRemoved cage => Sys2Proof.Machine.execTransceiverRemoved cage s
  | .probeVrefChange up => Sys2Proof.Machine.execProbeVrefChange up s
  | .seatDebounceDone => Sys2Proof.Machine.execSeatDebounceDone s
  | .notSeatedTimeout => Sys2Proof.Machine.execNotSeatedTimeout s
  | .strapChanged => Sys2Proof.Machine.execStrapChanged s
  | .extractReqAsserted => Sys2Proof.Machine.execExtractReqAsserted s
  | .extractReqReleased => Sys2Proof.Machine.execExtractReqReleased s
  | .extractConsent => Sys2Proof.Machine.execExtractConsent s
  | .extractRefused partnerServing => Sys2Proof.Machine.execExtractRefused partnerServing s
  | .extractConsentTimeout => Sys2Proof.Machine.execExtractConsentTimeout s
  | .extractReady => Sys2Proof.Machine.execExtractReady s
  | .extractRefusedLedEnd => Sys2Proof.Machine.execExtractRefusedLedEnd s
  | .extractUnplanned => Sys2Proof.Machine.execExtractUnplanned s
  | .witnessExtractRequest src both => Sys2Proof.Machine.execWitnessExtractRequest src both s
  | .vfldConnect => Sys2Proof.Machine.execVfldConnect s
  | .vfldLow => Sys2Proof.Machine.execVfldLow s
  | .vfldOv => Sys2Proof.Machine.execVfldOv s
  | .vsoConnect => Sys2Proof.Machine.execVsoConnect s
  | .vsoLow => Sys2Proof.Machine.execVsoLow s
  | .vsoOv => Sys2Proof.Machine.execVsoOv s
  | .v24Ov => Sys2Proof.Machine.execV24Ov s
  | .pfDip => Sys2Proof.Machine.execPfDip s
  | .dipRecovered => Sys2Proof.Machine.execDipRecovered s
  | .pfCommit low => Sys2Proof.Machine.execPfCommit low s
  | .pfDown => Sys2Proof.Machine.execPfDown s
  | .holdOkReached emptied => Sys2Proof.Machine.execHoldOkReached emptied s
  | .resetRelease inp => Sys2Proof.Machine.execResetRelease inp s
  | .bootTimeout => Sys2Proof.Machine.execBootTimeout s
  | .standaloneStart => Sys2Proof.Machine.execStandaloneStart s
  | .startTick => Sys2Proof.Machine.execStartTick s
  | .pllLockLoss => Sys2Proof.Machine.execPllLockLoss s
  | .clkTick => Sys2Proof.Machine.execClkTick s
  | .landing inp => Sys2Proof.Machine.execLanding inp s
  | .slotEntry l slot => Sys2Proof.Machine.execSlotEntry l slot s
  | .overrun l => Sys2Proof.Machine.execOverrun l s
  | .launch => Sys2Proof.Machine.execLaunch s
  | .tripRepeatDue j => Sys2Proof.Machine.execTripRepeatDue j s
  | .stretchedTick => Sys2Proof.Machine.execStretchedTick s
  | .swap => Sys2Proof.Machine.execSwap s
  | .cancel => Sys2Proof.Machine.execCancel s
  | .swapCheck => Sys2Proof.Machine.execSwapCheck s
  | .swapActivate => Sys2Proof.Machine.execSwapActivate s
  | .registerWrite a w => Sys2Proof.Machine.execRegisterWrite a w s
  | .readClear a => Sys2Proof.Machine.execReadClear a s
  | .tsAlloc loc link => Sys2Proof.Machine.execTsAlloc loc link s
  | .tsFree loc => Sys2Proof.Machine.execTsFree loc s
  | .bankStep b => Sys2Proof.Machine.execBankStep b s
  | .repairSourceDelivered b tile => Sys2Proof.Machine.execRepairSourceDelivered b tile s
  | .repairSourceTimeout b => Sys2Proof.Machine.execRepairSourceTimeout b s
  | .scrub => Sys2Proof.Machine.execScrub s
  | .mbxBind m w => Sys2Proof.Machine.execMbxBind m w s
  | .tileOpComplete l => Sys2Proof.Machine.execTileOpComplete l s
  | .spareCountWrite v => Sys2Proof.Machine.execSpareCountWrite v s
  | .selftestStart pos => Sys2Proof.Machine.execSelftestStart pos s
  | .selftestPassDone pos ok => Sys2Proof.Machine.execSelftestPassDone pos ok s
  | .lampMigrationStart pos => Sys2Proof.Machine.execLampMigrationStart pos s
  | .codePageCopy l page => Sys2Proof.Machine.execCodePageCopy l page s
  | .partAllot part owner => Sys2Proof.Machine.execPartAllot part owner s
  | .partStart part owner => Sys2Proof.Machine.execPartStart part owner s
  | .partStop part owner => Sys2Proof.Machine.execPartStop part owner s
  | .partRestart part owner => Sys2Proof.Machine.execPartRestart part owner s
  | .endTenancy part owner => Sys2Proof.Machine.execEndTenancy part owner s
  | .partitionRunning part => Sys2Proof.Machine.execPartitionRunning part s
  | .zeroisationDone part => Sys2Proof.Machine.execZeroisationDone part s
  | .evtRouteWrite n w => Sys2Proof.Machine.execEvtRouteWrite n w s
  | .illegalInstruction l word => Sys2Proof.Machine.execIllegalInstruction l word s
  | .add l q rd ra rb => Sys2Proof.Machine.execAdd l q rd ra rb s
  | .sub l q rd ra rb => Sys2Proof.Machine.execSub l q rd ra rb s
  | .and l q rd ra rb => Sys2Proof.Machine.execAnd l q rd ra rb s
  | .or l q rd ra rb => Sys2Proof.Machine.execOr l q rd ra rb s
  | .xor l q rd ra rb => Sys2Proof.Machine.execXor l q rd ra rb s
  | .shl l q rd ra rb => Sys2Proof.Machine.execShl l q rd ra rb s
  | .shr l q rd ra rb => Sys2Proof.Machine.execShr l q rd ra rb s
  | .sra l q rd ra rb => Sys2Proof.Machine.execSra l q rd ra rb s
  | .min l q rd ra rb => Sys2Proof.Machine.execMin l q rd ra rb s
  | .max l q rd ra rb => Sys2Proof.Machine.execMax l q rd ra rb s
  | .minu l q rd ra rb => Sys2Proof.Machine.execMinu l q rd ra rb s
  | .maxu l q rd ra rb => Sys2Proof.Machine.execMaxu l q rd ra rb s
  | .adds l q rd ra rb => Sys2Proof.Machine.execAdds l q rd ra rb s
  | .subs l q rd ra rb => Sys2Proof.Machine.execSubs l q rd ra rb s
  | .addi l q rd ra imm => Sys2Proof.Machine.execAddi l q rd ra imm s
  | .andi l q rd ra imm => Sys2Proof.Machine.execAndi l q rd ra imm s
  | .ori l q rd ra imm => Sys2Proof.Machine.execOri l q rd ra imm s
  | .xori l q rd ra imm => Sys2Proof.Machine.execXori l q rd ra imm s
  | .shi l q rd ra dir amt => Sys2Proof.Machine.execShi l q rd ra dir amt s
  | .movx l q rd imm => Sys2Proof.Machine.execMovx l q rd imm s
  | .mul l q rd ra rb => Sys2Proof.Machine.execMul l q rd ra rb s
  | .mulh l q rd ra rb => Sys2Proof.Machine.execMulh l q rd ra rb s
  | .mulhu l q rd ra rb => Sys2Proof.Machine.execMulhu l q rd ra rb s
  | .div l q rd ra rb => Sys2Proof.Machine.execDiv l q rd ra rb s
  | .divu l q rd ra rb => Sys2Proof.Machine.execDivu l q rd ra rb s
  | .rem l q rd ra rb => Sys2Proof.Machine.execRem l q rd ra rb s
  | .remu l q rd ra rb => Sys2Proof.Machine.execRemu l q rd ra rb s
  | .cmpEq l q pd ra rb => Sys2Proof.Machine.execCmpEq l q pd ra rb s
  | .cmpLt l q pd ra rb => Sys2Proof.Machine.execCmpLt l q pd ra rb s
  | .cmpLtu l q pd ra rb => Sys2Proof.Machine.execCmpLtu l q pd ra rb s
  | .cmpTst l q pd ra rb => Sys2Proof.Machine.execCmpTst l q pd ra rb s
  | .cmpeqi l q pd ra imm => Sys2Proof.Machine.execCmpeqi l q pd ra imm s
  | .cmplti l q pd ra imm => Sys2Proof.Machine.execCmplti l q pd ra imm s
  | .cmpltui l q pd ra imm => Sys2Proof.Machine.execCmpltui l q pd ra imm s
  | .pand l q pd pa pb => Sys2Proof.Machine.execPand l q pd pa pb s
  | .por l q pd pa pb => Sys2Proof.Machine.execPor l q pd pa pb s
  | .pxor l q pd pa pb => Sys2Proof.Machine.execPxor l q pd pa pb s
  | .pandn l q pd pa pb => Sys2Proof.Machine.execPandn l q pd pa pb s
  | .pget l q pd ra b => Sys2Proof.Machine.execPget l q pd ra b s
  | .pput l q rd pa b => Sys2Proof.Machine.execPput l q rd pa b s
  | .popc l q rd ra => Sys2Proof.Machine.execPopc l q rd ra s
  | .clz l q rd ra => Sys2Proof.Machine.execClz l q rd ra s
  | .bfxu l q rd ra rb => Sys2Proof.Machine.execBfxu l q rd ra rb s
  | .bfi l q rd ra rb => Sys2Proof.Machine.execBfi l q rd ra rb s
  | .br l q off => Sys2Proof.Machine.execBr l q off s
  | .loopi l q count body => Sys2Proof.Machine.execLoopi l q count body s
  | .loopr l q rs body ceil => Sys2Proof.Machine.execLoopr l q rs body ceil s
  | .ldw l q rd ra off => Sys2Proof.Machine.execLdw l q rd ra off s
  | .ldh l q rd ra off => Sys2Proof.Machine.execLdh l q rd ra off s
  | .ldhu l q rd ra off => Sys2Proof.Machine.execLdhu l q rd ra off s
  | .ldb l q rd ra off => Sys2Proof.Machine.execLdb l q rd ra off s
  | .ldbu l q rd ra off => Sys2Proof.Machine.execLdbu l q rd ra off s
  | .stw l q rs ra off => Sys2Proof.Machine.execStw l q rs ra off s
  | .sth l q rs ra off => Sys2Proof.Machine.execSth l q rs ra off s
  | .stb l q rs ra off => Sys2Proof.Machine.execStb l q rs ra off s
  | .ton l q pd ps ra rb => Sys2Proof.Machine.execTon l q pd ps ra rb s
  | .tof l q pd ps ra rb => Sys2Proof.Machine.execTof l q pd ps ra rb s
  | .tp l q pd ps ra rb => Sys2Proof.Machine.execTp l q pd ps ra rb s
  | .ctu l q pd ps ra rb rp => Sys2Proof.Machine.execCtu l q pd ps ra rb rp s
  | .ctd l q pd ps ra rb rp => Sys2Proof.Machine.execCtd l q pd ps ra rb rp s
  | .edgeup l q pd ps ra rb => Sys2Proof.Machine.execEdgeup l q pd ps ra rb s
  | .edgedn l q pd ps ra rb => Sys2Proof.Machine.execEdgedn l q pd ps ra rb s
  | .fadd l q rd ra rb => Sys2Proof.Machine.execFadd l q rd ra rb s
  | .fsub l q rd ra rb => Sys2Proof.Machine.execFsub l q rd ra rb s
  | .fmul l q rd ra rb => Sys2Proof.Machine.execFmul l q rd ra rb s
  | .fdiv l q rd ra rb => Sys2Proof.Machine.execFdiv l q rd ra rb s
  | .fsqrt l q rd ra => Sys2Proof.Machine.execFsqrt l q rd ra s
  | .fmin l q rd ra rb => Sys2Proof.Machine.execFmin l q rd ra rb s
  | .fmax l q rd ra rb => Sys2Proof.Machine.execFmax l q rd ra rb s
  | .fabs l q rd ra => Sys2Proof.Machine.execFabs l q rd ra s
  | .fneg l q rd ra => Sys2Proof.Machine.execFneg l q rd ra s
  | .fcvtis l q rd ra => Sys2Proof.Machine.execFcvtis l q rd ra s
  | .fcvtsi l q rd ra => Sys2Proof.Machine.execFcvtsi l q rd ra s
  | .fcmpEq l q pd ra rb => Sys2Proof.Machine.execFcmpEq l q pd ra rb s
  | .fcmpLt l q pd ra rb => Sys2Proof.Machine.execFcmpLt l q pd ra rb s
  | .fcmpLe l q pd ra rb => Sys2Proof.Machine.execFcmpLe l q pd ra rb s
  | .fcmpUn l q pd ra rb => Sys2Proof.Machine.execFcmpUn l q pd ra rb s
  | .mac l q ac ra rb => Sys2Proof.Machine.execMac l q ac ra rb s
  | .macu l q ac ra rb => Sys2Proof.Machine.execMacu l q ac ra rb s
  | .msu l q ac ra rb => Sys2Proof.Machine.execMsu l q ac ra rb s
  | .acclr l q ac => Sys2Proof.Machine.execAcclr l q ac s
  | .accwr l q ac ra rb => Sys2Proof.Machine.execAccwr l q ac ra rb s
  | .accrd l q rd ac sh => Sys2Proof.Machine.execAccrd l q rd ac sh s
  | .accrdh l q rd ac => Sys2Proof.Machine.execAccrdh l q rd ac s
  | .sdft l q ac ra rb n80 k => Sys2Proof.Machine.execSdft l q ac ra rb n80 k s
  | .seq0 l q ac => Sys2Proof.Machine.execSeq0 l q ac s
  | .seq1 l q ac => Sys2Proof.Machine.execSeq1 l q ac s
  | .seq2 l q ac => Sys2Proof.Machine.execSeq2 l q ac s
  | .cordv l q rd ra rb => Sys2Proof.Machine.execCordv l q rd ra rb s
  | .cordr l q rd ra => Sys2Proof.Machine.execCordr l q rd ra s
  | .isqrt l q rd ra => Sys2Proof.Machine.execIsqrt l q rd ra s
  | .tload l q pd w loc => Sys2Proof.Machine.execTload l q pd w loc s
  | .tstore l q pd w loc => Sys2Proof.Machine.execTstore l q pd w loc s
  | .trel l q w => Sys2Proof.Machine.execTrel l q w s
  | .mbx l q pd w loc => Sys2Proof.Machine.execMbx l q pd w loc s
  | .fsend l q rd ra rb more sz hd => Sys2Proof.Machine.execFsend l q rd ra rb more sz hd s
  | .frecv l q rd ra rb cont sz hd => Sys2Proof.Machine.execFrecv l q rd ra rb cont sz hd s
  | .csend l q rd ra rb sz => Sys2Proof.Machine.execCsend l q rd ra rb sz s
  | .looprd l q rd ra fn => Sys2Proof.Machine.execLooprd l q rd ra fn s
  | .loopwr l q ra rb fn => Sys2Proof.Machine.execLoopwr l q ra rb fn s
  | .keyopEnc l q rd ra rb => Sys2Proof.Machine.execKeyopEnc l q rd ra rb s
  | .keyopDec l q rd ra rb => Sys2Proof.Machine.execKeyopDec l q rd ra rb s
  | .keyopSign l q rd ra rb => Sys2Proof.Machine.execKeyopSign l q rd ra rb s
  | .keyopVerify l q rd ra rb => Sys2Proof.Machine.execKeyopVerify l q rd ra rb s
  | .keyopDerive l q rd ra rb => Sys2Proof.Machine.execKeyopDerive l q rd ra rb s
  | .keyopWrap l q rd ra rb => Sys2Proof.Machine.execKeyopWrap l q rd ra rb s
  | .keystage l q rd ra rb => Sys2Proof.Machine.execKeystage l q rd ra rb s
  | .keyverify l q rd ra rb => Sys2Proof.Machine.execKeyverify l q rd ra rb s
  | .keycommit l q rd ra rb => Sys2Proof.Machine.execKeycommit l q rd ra rb s
  | .random l q rd ra rb => Sys2Proof.Machine.execRandom l q rd ra rb s
  | .sysrd l q gx ra => Sys2Proof.Machine.execSysrd l q gx ra s
  | .syswr l q gx ra => Sys2Proof.Machine.execSyswr l q gx ra s
  | .endslot l q => Sys2Proof.Machine.execEndslot l q s
  | .trap l q code => Sys2Proof.Machine.execTrap l q code s
  | .belay l q => Sys2Proof.Machine.execBelay l q s
  | .fetchFault l => Sys2Proof.Machine.execFetchFault l s
  | .asymWindowRun w => Sys2Proof.Machine.execAsymWindowRun w s
  | .cluCompute j => Sys2Proof.Machine.execCluCompute j s
  | .cluStateFault j => Sys2Proof.Machine.execCluStateFault j s
  | .frameReceived f => Sys2Proof.Machine.execFrameReceived f s
  | .fdbAgeOut v mac => Sys2Proof.Machine.execFdbAgeOut v mac s
  | .prpTableAgeOut node mac => Sys2Proof.Machine.execPrpTableAgeOut node mac s
  | .prpSupervisionSend => Sys2Proof.Machine.execPrpSupervisionSend s
  | .portTxStart port c t => Sys2Proof.Machine.execPortTxStart port c t s
  | .portTxDone port => Sys2Proof.Machine.execPortTxDone port s
  | .linkChange port speed amp => Sys2Proof.Machine.execLinkChange port speed amp s
  | .shutter port datagram => Sys2Proof.Machine.execShutter port datagram s
  | .shutterApply => Sys2Proof.Machine.execShutterApply s
  | .swQcfgWrite port qn w => Sys2Proof.Machine.execSwQcfgWrite port qn w s
  | .swCellsWrite n w => Sys2Proof.Machine.execSwCellsWrite n w s
  | .offsetMeasurement beacon m t => Sys2Proof.Machine.execOffsetMeasurement beacon m t s
  | .timeAcquired t f => Sys2Proof.Machine.execTimeAcquired t f s
  | .acquireTimeout => Sys2Proof.Machine.execAcquireTimeout s
  | .timeLoss => Sys2Proof.Machine.execTimeLoss s
  | .ptpMasterSend p => Sys2Proof.Machine.execPtpMasterSend p s
  | .leapSecond => Sys2Proof.Machine.execLeapSecond s
  | .timeCtrlRestep => Sys2Proof.Machine.execTimeCtrlRestep s
  | .timeCtrlCapture => Sys2Proof.Machine.execTimeCtrlCapture s
  | .canModeWrite ch w => Sys2Proof.Machine.execCanModeWrite ch w s
  | .recover ch => Sys2Proof.Machine.execRecover ch s
  | .canIntegrated ch => Sys2Proof.Machine.execCanIntegrated ch s
  | .canError ch tx eight => Sys2Proof.Machine.execCanError ch tx eight s
  | .canRecovered ch => Sys2Proof.Machine.execCanRecovered ch s
  | .canFrameReceived ch f => Sys2Proof.Machine.execCanFrameReceived ch f s
  | .canTxEnd ch r => Sys2Proof.Machine.execCanTxEnd ch r s
  | .canPmapWrite ch m hi w => Sys2Proof.Machine.execCanPmapWrite ch m hi w s
  | .spePwrWrite n w => Sys2Proof.Machine.execSpePwrWrite n w s
  | .speMapWrite n sm w => Sys2Proof.Machine.execSpeMapWrite n sm w s
  | .pseEnableChange n => Sys2Proof.Machine.execPseEnableChange n s
  | .pseDetectResult n ok => Sys2Proof.Machine.execPseDetectResult n ok s
  | .pseClassified n cls power => Sys2Proof.Machine.execPseClassified n cls power s
  | .pseShort n => Sys2Proof.Machine.execPseShort n s
  | .pseOverload n watts => Sys2Proof.Machine.execPseOverload n watts s
  | .pseOpen n => Sys2Proof.Machine.execPseOpen n s
  | .pseRetry n => Sys2Proof.Machine.execPseRetry n s
  | .uartFrameReceived c chars errs sof sofTick => Sys2Proof.Machine.execUartFrameReceived c chars errs sof sofTick s
  | .uartFrameSend c late => Sys2Proof.Machine.execUartFrameSend c late s
  | .siFilterChange fb n v => Sys2Proof.Machine.execSiFilterChange fb n v s
  | .tpCheckWindow t zeros => Sys2Proof.Machine.execTpCheckWindow t zeros s
  | .sqReadbackFault o => Sys2Proof.Machine.execSqReadbackFault o s
  | .sqSwitchOffTest o opened => Sys2Proof.Machine.execSqSwitchOffTest o opened s
  | .sqOverload o => Sys2Proof.Machine.execSqOverload o s
  | .safeWatchdog => Sys2Proof.Machine.execSafeWatchdog s
  | .safeMonitorSelftest ok => Sys2Proof.Machine.execSafeMonitorSelftest ok s
  | .safeAck sess cls idx => Sys2Proof.Machine.execSafeAck sess cls idx s
  | .safeApply sess => Sys2Proof.Machine.execSafeApply sess s
  | .safeLock sess => Sys2Proof.Machine.execSafeLock sess s
  | .safeCfgWrite sess a w => Sys2Proof.Machine.execSafeCfgWrite sess a w s
  | .safeRxTimeout c => Sys2Proof.Machine.execSafeRxTimeout c s
  | .fogExpired c => Sys2Proof.Machine.execFogExpired c s
  | .safeUnlockExpiry => Sys2Proof.Machine.execSafeUnlockExpiry s
  | .lockoutExpiry => Sys2Proof.Machine.execLockoutExpiry s
  | .hawserLinkDown h => Sys2Proof.Machine.execHawserLinkDown h s
  | .hawserLinkUp h nbr joined => Sys2Proof.Machine.execHawserLinkUp h nbr joined s
  | .beaconReceived h b => Sys2Proof.Machine.execBeaconReceived h b s
  | .lighthouseDecision others => Sys2Proof.Machine.execLighthouseDecision others s
  | .lhConfirm => Sys2Proof.Machine.execLhConfirm s
  | .lhConfirmRequest src => Sys2Proof.Machine.execLhConfirmRequest src s
  | .lhTakeover x => Sys2Proof.Machine.execLhTakeover x s
  | .lhNoConfirm => Sys2Proof.Machine.execLhNoConfirm s
  | .hawEnum => Sys2Proof.Machine.execHawEnum s
  | .enumReceived h units => Sys2Proof.Machine.execEnumReceived h units s
  | .enumCollected la lb => Sys2Proof.Machine.execEnumCollected la lb s
  | .assignEffect a => Sys2Proof.Machine.execAssignEffect a s
  | .exchangeRecordReceived h r => Sys2Proof.Machine.execExchangeRecordReceived h r s
  | .hawBindWrite n subscription w => Sys2Proof.Machine.execHawBindWrite n subscription w s
  | .hawShareWrite a w => Sys2Proof.Machine.execHawShareWrite a w s
  | .mgmtPacketReceived h p => Sys2Proof.Machine.execMgmtPacketReceived h p s
  | .lanyardTile r tile => Sys2Proof.Machine.execLanyardTile r tile s
  | .repairReq r => Sys2Proof.Machine.execRepairReq r s
  | .repairAns r tile => Sys2Proof.Machine.execRepairAns r tile s
  | .lanyardForce r part set ident idx v => Sys2Proof.Machine.execLanyardForce r part set ident idx v s
  | .lstate r es => Sys2Proof.Machine.execLstate r es s
  | .twinConfig r seg => Sys2Proof.Machine.execTwinConfig r seg s
  | .twinJoinRequest asked => Sys2Proof.Machine.execTwinJoinRequest asked s
  | .twinStandby agrees node => Sys2Proof.Machine.execTwinStandby agrees node s
  | .witnessDecisionReceived d => Sys2Proof.Machine.execWitnessDecisionReceived d s
  | .twinDecisionEffect => Sys2Proof.Machine.execTwinDecisionEffect s
  | .partnerSilent => Sys2Proof.Machine.execPartnerSilent s
  | .multiPrepare parts => Sys2Proof.Machine.execMultiPrepare parts s
  | .multiReady addr => Sys2Proof.Machine.execMultiReady addr s
  | .multiGo x => Sys2Proof.Machine.execMultiGo x s
  | .multiAck addr => Sys2Proof.Machine.execMultiAck addr s
  | .multiCommit => Sys2Proof.Machine.execMultiCommit s
  | .multiAbort => Sys2Proof.Machine.execMultiAbort s
  | .multiReadyTimeout => Sys2Proof.Machine.execMultiReadyTimeout s
  | .multiAckTimeout => Sys2Proof.Machine.execMultiAckTimeout s
  | .multiNoCommit => Sys2Proof.Machine.execMultiNoCommit s
  | .multiRepeat => Sys2Proof.Machine.execMultiRepeat s
  | .multiCollectEnd cancelled => Sys2Proof.Machine.execMultiCollectEnd cancelled s
  | .xchgStaged part => Sys2Proof.Machine.execXchgStaged part s
  | .xchgTimeout part => Sys2Proof.Machine.execXchgTimeout part s
  | .tamper sensors => Sys2Proof.Machine.execTamper sensors s
  | .tamperCellEvent mesh light => Sys2Proof.Machine.execTamperCellEvent mesh light s
  | .vaultClockCheck count => Sys2Proof.Machine.execVaultClockCheck count s
  | .entropyFail => Sys2Proof.Machine.execEntropyFail s
  | .vaultDrvWrite part w => Sys2Proof.Machine.execVaultDrvWrite part w s
  | .lcTransition => Sys2Proof.Machine.execLcTransition s
  | .claimCodeExpiry part => Sys2Proof.Machine.execClaimCodeExpiry part s
  | .meas crcOk => Sys2Proof.Machine.execMeas crcOk s
  | .metLog crcOk => Sys2Proof.Machine.execMetLog crcOk s
  | .metIdent crcOk => Sys2Proof.Machine.execMetIdent crcOk s
  | .chgResult crcOk => Sys2Proof.Machine.execChgResult crcOk s
  | .metTime sec crcOk => Sys2Proof.Machine.execMetTime sec crcOk s
  | .chgReq crcOk => Sys2Proof.Machine.execChgReq crcOk s
  | .testSel crcOk => Sys2Proof.Machine.execTestSel crcOk s
  | .logReq crcOk => Sys2Proof.Machine.execLogReq crcOk s
  | .metlChgGo w => Sys2Proof.Machine.execMetlChgGo w s
  | .metlTestWrite w => Sys2Proof.Machine.execMetlTestWrite w s
  | .metlAssignWrite e w => Sys2Proof.Machine.execMetlAssignWrite e w s
  | .measIntervalEnd m => Sys2Proof.Machine.execMeasIntervalEnd m s
  | .coverOpen => Sys2Proof.Machine.execCoverOpen s
  | .coverClosed => Sys2Proof.Machine.execCoverClosed s
  | .switchChange => Sys2Proof.Machine.execSwitchChange s
  | .switchLocked => Sys2Proof.Machine.execSwitchLocked s
  | .metroSupplyLoss => Sys2Proof.Machine.execMetroSupplyLoss s
  | .metroHourlyStore => Sys2Proof.Machine.execMetroHourlyStore s
  | .swFault => Sys2Proof.Machine.execSwFault s
  | .metlLinkDown => Sys2Proof.Machine.execMetlLinkDown s
  | .keepStoreRequest w => Sys2Proof.Machine.execKeepStoreRequest w s
  | .keepCapture r => Sys2Proof.Machine.execKeepCapture r s
  | .keepPageWriteDone r ok => Sys2Proof.Machine.execKeepPageWriteDone r ok s
  | .keepRingWrite r k w => Sys2Proof.Machine.execKeepRingWrite r k w s
  | .configRecordWrite => Sys2Proof.Machine.execConfigRecordWrite s
  | .rtcSet => Sys2Proof.Machine.execRtcSet s
  | .rtcCapture => Sys2Proof.Machine.execRtcCapture s
  | .trecClr => Sys2Proof.Machine.execTrecClr s
  | .rtcArm => Sys2Proof.Machine.execRtcArm s
  | .rtcDisarm => Sys2Proof.Machine.execRtcDisarm s
  | .rtcAlarm => Sys2Proof.Machine.execRtcAlarm s
  | .rtcRollover => Sys2Proof.Machine.execRtcRollover s
  | .backupSwitchToCell => Sys2Proof.Machine.execBackupSwitchToCell s
  | .backupSwitchToMain => Sys2Proof.Machine.execBackupSwitchToMain s
  | .backupRelease => Sys2Proof.Machine.execBackupRelease s
  | .cellLow mv => Sys2Proof.Machine.execCellLow mv s
  | .bkLost => Sys2Proof.Machine.execBkLost s
  | .globalWordRead => Sys2Proof.Machine.execGlobalWordRead s
  | .errFree => Sys2Proof.Machine.execErrFree s
  | .errClrOvf => Sys2Proof.Machine.execErrClrOvf s
  | .freezeN => Sys2Proof.Machine.execFreezeN s
  | .freezeComparator => Sys2Proof.Machine.execFreezeComparator s
  | .consentLapse failed => Sys2Proof.Machine.execConsentLapse failed s
  | .tapBypass => Sys2Proof.Machine.execTapBypass s
  | .tapReadId => Sys2Proof.Machine.execTapReadId s
  | .tapRoAddr a => Sys2Proof.Machine.execTapRoAddr a s
  | .tapRoRead => Sys2Proof.Machine.execTapRoRead s
  | .tapFrzReset b => Sys2Proof.Machine.execTapFrzReset b s
  | .moorOpen path datagram => Sys2Proof.Machine.execMoorOpen path datagram s
  | .moorConfirm path datagram => Sys2Proof.Machine.execMoorConfirm path datagram s
  | .setupAbandoned sess => Sys2Proof.Machine.execSetupAbandoned sess s
  | .moorRecord path datagram => Sys2Proof.Machine.execMoorRecord path datagram s
  | .moorRelay path datagram => Sys2Proof.Machine.execMoorRelay path datagram s
  | .relayEntryExpiry path sess => Sys2Proof.Machine.execRelayEntryExpiry path sess s
  | .reassemblyTimeout path sess => Sys2Proof.Machine.execReassemblyTimeout path sess s
  | .sessionIdleEnd sess => Sys2Proof.Machine.execSessionIdleEnd sess s
  | .sessionLifetimeEnd sess => Sys2Proof.Machine.execSessionLifetimeEnd sess s
  | .moorNop sess req args => Sys2Proof.Machine.execMoorNop sess req args s
  | .moorClose sess req args => Sys2Proof.Machine.execMoorClose sess req args s
  | .regRead sess req args => Sys2Proof.Machine.execRegRead sess req args s
  | .regWrite sess req args => Sys2Proof.Machine.execRegWrite sess req args s
  | .imgBegin sess req args => Sys2Proof.Machine.execImgBegin sess req args s
  | .imgData sess req args => Sys2Proof.Machine.execImgData sess req args s
  | .imgEnd sess req args => Sys2Proof.Machine.execImgEnd sess req args s
  | .imgAbort sess req args => Sys2Proof.Machine.execImgAbort sess req args s
  | .coldLoad sess req args => Sys2Proof.Machine.execColdLoad sess req args s
  | .coldLoadPlaced part => Sys2Proof.Machine.execColdLoadPlaced part s
  | .xchgStage sess req args => Sys2Proof.Machine.execXchgStage sess req args s
  | .xchgArm sess req args => Sys2Proof.Machine.execXchgArm sess req args s
  | .xchgDisarm sess req args => Sys2Proof.Machine.execXchgDisarm sess req args s
  | .xchgDiscard sess req args => Sys2Proof.Machine.execXchgDiscard sess req args s
  | .xchgStatus sess req args => Sys2Proof.Machine.execXchgStatus sess req args s
  | .xchgSafetyAuth sess req args => Sys2Proof.Machine.execXchgSafetyAuth sess req args s
  | .multiChange sess req args => Sys2Proof.Machine.execMultiChange sess req args s
  | .forceSet sess req args => Sys2Proof.Machine.execForceSet sess req args s
  | .forceClear sess req args => Sys2Proof.Machine.execForceClear sess req args s
  | .forceList sess req args => Sys2Proof.Machine.execForceList sess req args s
  | .partStatus sess req args => Sys2Proof.Machine.execPartStatus sess req args s
  | .tileRead sess req args => Sys2Proof.Machine.execTileRead sess req args s
  | .rstore sess req args => Sys2Proof.Machine.execRstore sess req args s
  | .errRead sess req args => Sys2Proof.Machine.execErrRead sess req args s
  | .errClear sess req args => Sys2Proof.Machine.execErrClear sess req args s
  | .errCfg sess req args => Sys2Proof.Machine.execErrCfg sess req args s
  | .logRead sess req args => Sys2Proof.Machine.execLogRead sess req args s
  | .logFree sess req args => Sys2Proof.Machine.execLogFree sess req args s
  | .timeRestep sess req args => Sys2Proof.Machine.execTimeRestep sess req args s
  | .lampSelftest sess req args => Sys2Proof.Machine.execLampSelftest sess req args s
  | .moorExtract sess req args => Sys2Proof.Machine.execMoorExtract sess req args s
  | .freezeConsent sess req args => Sys2Proof.Machine.execFreezeConsent sess req args s
  | .readoutConsent sess req args => Sys2Proof.Machine.execReadoutConsent sess req args s
  | .keyStage sess req args => Sys2Proof.Machine.execKeyStage sess req args s
  | .keyVerify sess req args => Sys2Proof.Machine.execKeyVerify sess req args s
  | .keyCommit sess req args => Sys2Proof.Machine.execKeyCommit sess req args s
  | .attest sess req args => Sys2Proof.Machine.execAttest sess req args s
  | .anchorReplace sess req args => Sys2Proof.Machine.execAnchorReplace sess req args s
  | .openTenancy sess req args => Sys2Proof.Machine.execOpenTenancy sess req args s
  | .tenantClaim sess req args => Sys2Proof.Machine.execTenantClaim sess req args s
  | .claimOwner sess req args => Sys2Proof.Machine.execClaimOwner sess req args s
  | .provision serial mac cert keys => Sys2Proof.Machine.execProvision serial mac cert keys s
  | .lcField sess req args => Sys2Proof.Machine.execLcField sess req args s
  | .lcReturn sess req args => Sys2Proof.Machine.execLcReturn sess req args s
  | .lcDecommission sess req args => Sys2Proof.Machine.execLcDecommission sess req args s
  | .safeUnlock sess req args => Sys2Proof.Machine.execSafeUnlock sess req args s
  | .safePassword sess req args => Sys2Proof.Machine.execSafePassword sess req args s
  | .safeLogRead sess req args => Sys2Proof.Machine.execSafeLogRead sess req args s
  | .witnessFreezeConsentRequest src => Sys2Proof.Machine.execWitnessFreezeConsentRequest src s
  | .freezeConsentAnswer cause => Sys2Proof.Machine.execFreezeConsentAnswer cause s
  | .freezeConsentTimeout => Sys2Proof.Machine.execFreezeConsentTimeout s
  | .canArbitrationStart ch sof => Sys2Proof.Machine.execCanArbitrationStart ch sof s
  | .entropyRestart => Sys2Proof.Machine.execEntropyRestart s
  | .metroStart => Sys2Proof.Machine.execMetroStart s
  | .multiRefused addr cause => Sys2Proof.Machine.execMultiRefused addr cause s
  | .peerDelayRequest p => Sys2Proof.Machine.execPeerDelayRequest p s

end Sys2Proof.Machine
end

