-- ==== Sys2Proof/WellFormed.lean ====
section
/-!
DEFINITION. Commands as the module can receive them: every operand within the widths of the frame, record or pin that
carries it. The meanings are total and do not ask for it; statements about lengths and layouts may.
-/
namespace Sys2Proof

/-- The non-zero bytes of a tile of 4096 bytes, by offset in rising order. -/
def tileContent : List (Nat × Byte) → Bool
  | [] => true
  | [(k, b)] => k < 4096 && b != 0
  | (k, b) :: (k', b') :: t => k < k' && b != 0 && tileContent ((k', b') :: t)

/-- The data of a Mooring request: LEN is 16 bits wide (R536). -/
def requestData (b : List Byte) : Bool := b.length < 65536

/-- A datagram: the 24 bytes of its header and a body of up to 1,376 (R529). -/
def datagramLen (b : List Byte) : Bool := b.length ≤ 1400

/-- The bytes of a frame before its FCS: at most 9,212, as R299 allows. -/
def RxFrame.wellFormed (f : RxFrame) : Bool := f.bytes.length ≤ 9212

/-- Data lengths of a CAN frame by format (R328): CC 0–8; FD 0–8, 12, 16, 20, 24, 32, 48 or 64; XL 1–2048. A base identifier has 11
bits, BRS and ESI stand in FD frames, RTR in CC frames. -/
def CanFrame.wellFormed (f : CanFrame) : Bool :=
  let n := f.data.length
  (f.ide || f.ident.toNat < 2048) && match f.fmt with
    | 0 => n ≤ 8 && !f.brs && !f.esi && (!f.rtr || n == 0)
    | 1 => (n ≤ 8 || [12, 16, 20, 24, 32, 48, 64].contains n) && !f.rtr
    | 2 => 1 ≤ n && n ≤ 2048 && !f.rtr && !f.ide

/-- An exchange record's header fields and body (R409). -/
def ExRec.wellFormed (r : ExRec) : Bool :=
  r.src < 256 && r.ttl < 256 && r.kind < 256 && r.flags < 256 && r.chan < 256 && r.npoints < 65536 && (match r.kind with
    | 0 => r.body.length == (r.npoints + 7) / 8
    | 1 => r.body.length == 4 * r.npoints
    | 3 => r.body.length == 16
    | 4 => r.body.length % 8 == 0
    | _ => true)

/-- The fields of a beacon (R396). -/
def Beacon.wellFormed (b : Beacon) : Bool :=
  b.delta < 65536 && b.hops < 256 && b.tick < 4800 && b.up < 256 && b.sec < 2 ^ 64 && -(2 ^ 31) ≤ b.stepNs && b.stepNs < 2 ^ 31 &&
    b.utcOfs < 65536 && b.epoch < 256 && b.src < 256

/-- A management-lane packet (R414). -/
def MgmtPkt.wellFormed (p : MgmtPkt) : Bool :=
  p.dst < 65536 && p.src < 256 && p.type < 256 && p.seq < 65536 && p.ttl < 256 && p.payload.length ≤ 1500

/-- A decision of the witness (R431). -/
def Decision.wellFormed (d : Decision) : Bool :=
  d.low < 64 && d.high < 64 && 1 ≤ d.code && d.code ≤ 7 && d.cause < 256 && d.eff < 2 ^ 32

/-- What a unit appends to an ENUM (R406): its slot is six bits wide. -/
def EnumUnit.wellFormed (u : EnumUnit) : Bool := u.serial < 2 ^ 64 && u.slot < 64 && (u.addr.all (fun a => a < 64))

/-- An ASSIGN (R406): at most 64 addresses. -/
def Assign.wellFormed (a : Assign) : Bool :=
  a.units.all (fun u => u.serial < 2 ^ 64 && u.addr.all (fun x => x < 64)) && a.shares.all (fun e => e.1 < 64)

/-- A dataset's entry of an LSTATE record (R423): one of 64 datasets. -/
def LEntry.wellFormed (e : LEntry) : Bool := e.idx < 64 && e.stNum < 2 ^ 32 && e.sqNum < 2 ^ 32

/-- A segment of a configuration (R242). -/
def CfgSeg.wellFormed : CfgSeg → Bool
  | .program p _ map _ => p < 128 && map.all (fun e => e.1 < 4096 && e.2 < 64)
  | .words _ => true

/-- A Mooring path (R527): a switch port, or a unit of the hawser. -/
def MoorPath.wellFormed (p : MoorPath) : Bool := p.port < 65536 && p.sw < 40 && (!p.hawser || p.addr < 64)

/-- What a landing reads (R359, R396): four hawser links, 32 SPE ports. -/
def LandIn.wellFormed (i : LandIn) : Bool := i.delays.all (fun e => e.1 < 4) && i.watts.all (fun e => e.1 < 32)

/-- An interval of the metrology die (R466): 24 elements of six registers. -/
def MeasIn.wellFormed (m : MeasIn) : Bool :=
  m.u.length == 3 && m.elems.length ≤ 24 && m.elems.all (fun e => e.length == 4) && m.energy.all (fun e => e.1 < 144)

/-- A command as the module can receive it. -/
def Instr.wellFormed (i : Instr) : Bool := match i with
  | .landing inp => inp.wellFormed
  | .repairSourceDelivered _ tile => tileContent tile
  | .frameReceived f => f.wellFormed
  | .shutter _ datagram => datagramLen datagram
  | .canFrameReceived _ f => f.wellFormed
  | .uartFrameReceived _ chars _ _ _ => decide (chars.length ≤ 4096)
  | .beaconReceived _ b => b.wellFormed
  | .enumReceived _ units => units.all EnumUnit.wellFormed
  | .enumCollected la lb => la.all EnumUnit.wellFormed && lb.all EnumUnit.wellFormed
  | .assignEffect a => a.wellFormed
  | .exchangeRecordReceived _ r => r.wellFormed
  | .mgmtPacketReceived _ p => p.wellFormed
  | .lanyardTile _ tile => tileContent tile
  | .repairAns _ tile => tileContent tile
  | .lanyardForce _ _ _ ident idx _ => decide (ident < 2 ^ 32) && decide (idx < 2 ^ 15)
  | .lstate _ es => es.all LEntry.wellFormed
  | .twinConfig _ seg => seg.wellFormed
  | .witnessDecisionReceived d => d.wellFormed
  | .multiPrepare parts => parts.all (fun p => decide (p < 128))
  | .multiCollectEnd cancelled => cancelled.all (fun a => decide (a < 64))
  | .measIntervalEnd m => m.wellFormed
  | .moorOpen path datagram => path.wellFormed && datagramLen datagram
  | .moorConfirm path datagram => path.wellFormed && datagramLen datagram
  | .moorRecord path datagram => path.wellFormed && datagramLen datagram
  | .moorRelay path datagram => path.wellFormed && datagramLen datagram
  | .relayEntryExpiry path _ => path.wellFormed
  | .reassemblyTimeout path _ => path.wellFormed
  | .moorNop _ _ args => requestData args
  | .moorClose _ _ args => requestData args
  | .regRead _ _ args => requestData args
  | .regWrite _ _ args => requestData args
  | .imgBegin _ _ args => requestData args
  | .imgData _ _ args => requestData args
  | .imgEnd _ _ args => requestData args
  | .imgAbort _ _ args => requestData args
  | .coldLoad _ _ args => requestData args
  | .xchgStage _ _ args => requestData args
  | .xchgArm _ _ args => requestData args
  | .xchgDisarm _ _ args => requestData args
  | .xchgDiscard _ _ args => requestData args
  | .xchgStatus _ _ args => requestData args
  | .xchgSafetyAuth _ _ args => requestData args
  | .multiChange _ _ args => requestData args
  | .forceSet _ _ args => requestData args
  | .forceClear _ _ args => requestData args
  | .forceList _ _ args => requestData args
  | .partStatus _ _ args => requestData args
  | .tileRead _ _ args => requestData args
  | .rstore _ _ args => requestData args
  | .errRead _ _ args => requestData args
  | .errClear _ _ args => requestData args
  | .errCfg _ _ args => requestData args
  | .logRead _ _ args => requestData args
  | .logFree _ _ args => requestData args
  | .timeRestep _ _ args => requestData args
  | .lampSelftest _ _ args => requestData args
  | .moorExtract _ _ args => requestData args
  | .freezeConsent _ _ args => requestData args
  | .readoutConsent _ _ args => requestData args
  | .keyStage _ _ args => requestData args
  | .keyVerify _ _ args => requestData args
  | .keyCommit _ _ args => requestData args
  | .attest _ _ args => requestData args
  | .anchorReplace _ _ args => requestData args
  | .openTenancy _ _ args => requestData args
  | .tenantClaim _ _ args => requestData args
  | .claimOwner _ _ args => requestData args
  | .provision _ _ _ keys => decide (keys.length = 2049)
  | .lcField _ _ args => requestData args
  | .lcReturn _ _ args => requestData args
  | .lcDecommission _ _ args => requestData args
  | .safeUnlock _ _ args => requestData args
  | .safePassword _ _ args => requestData args
  | .safeLogRead _ _ args => requestData args
  | .cageModulePresent .. | .transceiverRemoved .. | .probeVrefChange .. | .seatDebounceDone | .notSeatedTimeout | .strapChanged
    | .extractReqAsserted | .extractReqReleased | .extractConsent | .extractRefused .. | .extractConsentTimeout | .extractReady
    | .extractRefusedLedEnd | .extractUnplanned | .witnessExtractRequest .. | .vfldConnect | .vfldLow | .vfldOv | .vsoConnect
    | .vsoLow | .vsoOv | .v24Ov | .pfDip | .dipRecovered | .pfCommit .. | .pfDown | .holdOkReached .. | .resetRelease ..
    | .bootTimeout | .standaloneStart | .startTick | .pllLockLoss | .clkTick | .slotEntry .. | .overrun .. | .launch
    | .tripRepeatDue .. | .stretchedTick | .swap | .cancel | .swapCheck | .swapActivate | .registerWrite .. | .readClear ..
    | .tsAlloc .. | .tsFree .. | .bankStep .. | .repairSourceTimeout .. | .scrub | .mbxBind .. | .tileOpComplete ..
    | .spareCountWrite .. | .selftestStart .. | .selftestPassDone .. | .lampMigrationStart .. | .codePageCopy .. | .partAllot ..
    | .partStart .. | .partStop .. | .partRestart .. | .endTenancy .. | .partitionRunning .. | .zeroisationDone ..
    | .evtRouteWrite .. | .illegalInstruction .. | .add .. | .sub .. | .and .. | .or .. | .xor .. | .shl .. | .shr .. | .sra ..
    | .min .. | .max .. | .minu .. | .maxu .. | .adds .. | .subs .. | .addi .. | .andi .. | .ori .. | .xori .. | .shi ..
    | .movx .. | .mul .. | .mulh .. | .mulhu .. | .div .. | .divu .. | .rem .. | .remu .. | .cmpEq .. | .cmpLt .. | .cmpLtu ..
    | .cmpTst .. | .cmpeqi .. | .cmplti .. | .cmpltui .. | .pand .. | .por .. | .pxor .. | .pandn .. | .pget .. | .pput ..
    | .popc .. | .clz .. | .bfxu .. | .bfi .. | .br .. | .loopi .. | .loopr .. | .ldw .. | .ldh .. | .ldhu .. | .ldb ..
    | .ldbu .. | .stw .. | .sth .. | .stb .. | .ton .. | .tof .. | .tp .. | .ctu .. | .ctd .. | .edgeup .. | .edgedn ..
    | .fadd .. | .fsub .. | .fmul .. | .fdiv .. | .fsqrt .. | .fmin .. | .fmax .. | .fabs .. | .fneg .. | .fcvtis ..
    | .fcvtsi .. | .fcmpEq .. | .fcmpLt .. | .fcmpLe .. | .fcmpUn .. | .mac .. | .macu .. | .msu .. | .acclr .. | .accwr ..
    | .accrd .. | .accrdh .. | .sdft .. | .seq0 .. | .seq1 .. | .seq2 .. | .cordv .. | .cordr .. | .isqrt .. | .tload ..
    | .tstore .. | .trel .. | .mbx .. | .fsend .. | .frecv .. | .csend .. | .looprd .. | .loopwr .. | .keyopEnc ..
    | .keyopDec .. | .keyopSign .. | .keyopVerify .. | .keyopDerive .. | .keyopWrap .. | .keystage .. | .keyverify ..
    | .keycommit .. | .random .. | .sysrd .. | .syswr .. | .endslot .. | .trap .. | .belay .. | .fetchFault ..
    | .asymWindowRun .. | .cluCompute .. | .cluStateFault .. | .fdbAgeOut .. | .prpTableAgeOut .. | .prpSupervisionSend
    | .portTxStart .. | .portTxDone .. | .linkChange .. | .shutterApply | .swQcfgWrite .. | .swCellsWrite ..
    | .offsetMeasurement .. | .timeAcquired .. | .acquireTimeout | .timeLoss | .ptpMasterSend .. | .leapSecond | .timeCtrlRestep
    | .timeCtrlCapture | .canModeWrite .. | .recover .. | .canIntegrated .. | .canError .. | .canRecovered .. | .canTxEnd ..
    | .canPmapWrite .. | .spePwrWrite .. | .speMapWrite .. | .pseEnableChange .. | .pseDetectResult .. | .pseClassified ..
    | .pseShort .. | .pseOverload .. | .pseOpen .. | .pseRetry .. | .uartFrameSend .. | .siFilterChange .. | .tpCheckWindow ..
    | .sqReadbackFault .. | .sqSwitchOffTest .. | .sqOverload .. | .safeWatchdog | .safeMonitorSelftest .. | .safeAck ..
    | .safeApply .. | .safeLock .. | .safeCfgWrite .. | .safeRxTimeout .. | .fogExpired .. | .safeUnlockExpiry | .lockoutExpiry
    | .hawserLinkDown .. | .hawserLinkUp .. | .lighthouseDecision .. | .lhConfirm | .lhConfirmRequest .. | .lhTakeover ..
    | .lhNoConfirm | .hawEnum | .hawBindWrite .. | .hawShareWrite .. | .repairReq .. | .twinJoinRequest .. | .twinStandby ..
    | .twinDecisionEffect | .partnerSilent | .multiReady .. | .multiGo .. | .multiAck .. | .multiCommit | .multiAbort
    | .multiReadyTimeout | .multiAckTimeout | .multiNoCommit | .multiRepeat | .xchgStaged .. | .xchgTimeout .. | .tamper ..
    | .tamperCellEvent .. | .vaultClockCheck .. | .entropyFail | .vaultDrvWrite .. | .lcTransition | .claimCodeExpiry ..
    | .meas .. | .metLog .. | .metIdent .. | .chgResult .. | .metTime .. | .chgReq .. | .testSel .. | .logReq .. | .metlChgGo ..
    | .metlTestWrite .. | .metlAssignWrite .. | .coverOpen | .coverClosed | .switchChange | .switchLocked | .metroSupplyLoss
    | .metroHourlyStore | .swFault | .metlLinkDown | .keepStoreRequest .. | .keepCapture .. | .keepPageWriteDone ..
    | .keepRingWrite .. | .configRecordWrite | .rtcSet | .rtcCapture | .trecClr | .rtcArm | .rtcDisarm | .rtcAlarm
    | .rtcRollover | .backupSwitchToCell | .backupSwitchToMain | .backupRelease | .cellLow .. | .bkLost | .globalWordRead
    | .errFree | .errClrOvf | .freezeN | .freezeComparator | .consentLapse .. | .tapBypass | .tapReadId | .tapRoAddr ..
    | .tapRoRead | .tapFrzReset .. | .setupAbandoned .. | .sessionIdleEnd .. | .sessionLifetimeEnd .. | .coldLoadPlaced ..
    | .witnessFreezeConsentRequest .. | .freezeConsentAnswer .. | .freezeConsentTimeout | .canArbitrationStart ..
    | .entropyRestart | .metroStart | .multiRefused .. | .peerDelayRequest .. => true

end Sys2Proof
end

