-- ==== Sys2Proof/Safety.lean ====
section
/-!
DEFINITION. What counts as a safe run of the block, in the terms the statements use: the canonical form of its stores, and outputs that
stand in their safe state.
-/
namespace Sys2Proof.Machine

/-- The SRF's store in its canonical form: addresses strictly rising, no entry equal to its register's reset word. -/
def State.srfCanon (s : State) : Bool := dcanon resetWord s.srf

/-- Memory in its canonical form. -/
def State.memCanon (s : State) : Bool := Memory.wf s.mem

/-- The stores of the state are in their one canonical form, so that equal contents are equal data. -/
def State.Inv (s : State) : Prop := s.srfCanon = true ∧ s.memCanon = true

/-- Every safety output is off at its pin, by the clock-independent path (R365). -/
def State.outputsOff (s : State) : Prop := s.pins.sq = [] ∧ s.pins.sqHeld = true

/-- Nothing that a partition's programs have computed can leave the module. -/
def State.silent (s : State) : Prop := s.txStopped = true

end Sys2Proof.Machine
end

