-- ==== Sys2Proof/Certificates/Slice0/Obligations.lean ====
section
/-!
DEFINITION. The statements for the provers: what the commands of the block do, by the rules of the spec.
-/
open Sys2Proof Sys2Proof.Machine


/-- For every command c and state s, the step of s with c at the front of its queue is exec of c on s with the queue's rest.
(00_scope, opcode_table.json) -/
def Obligations.StepRunsFrontCommand : Prop :=
  ∀ (c : Instr) (cs : List Instr) (s : State), step { s with pending := c :: cs } = exec c { s with pending := cs }

/-- On an empty queue a step answers a next state in which only the registers of the backup domain, the rtc structure, the error
stores and the pins can differ: the lamps, the partitions' programs, the tile store and the tick stand. That one second passes in
such a step is the model's own choice (log entry 38). (22_rtc) -/
def Obligations.EmptyQueueCountsASecond : Prop :=
  ∀ s : State, s.pending = [] → ∃ t : State, step s = .next t ∧ t = s.rtcEdge ∧ t.pending = [] ∧ t.mem = s.mem ∧ t.lamps = s.lamps ∧
      t.tick = s.tick ∧ t.tiles = s.tiles ∧ t.boot = s.boot ∧ t.keep = s.keep ∧ t.sw = s.sw

/-- For every command and every state exec answers a next state, never a fault or a refusal, and the queue of waiting commands is as
it was. (00_scope, opcode_table.json, 23_errors_freeze) -/
def Obligations.EveryCommandRuns : Prop :=
  ∀ (c : Instr) (s : State), ∃ t : State, exec c s = .next t ∧ t.pending = s.pending

/-- From every state whose register store and memory are in canonical form (addresses strictly rising, no entry equal to what an
unlisted address reads as), a step answers a next state of which the same holds. (01_architecture, 05_tiles, 23_errors_freeze) -/
def Obligations.StoresStayCanonical : Prop :=
  ∀ s : State, s.Inv → ∃ t : State, step s = .next t ∧ t.Inv

/-- State.reset has its register store and its memory in canonical form. (01_architecture) -/
def Obligations.StoresCanonicalAtReset : Prop :=
  State.reset.Inv

/-- After reset every location of the tile store holds the free seal (a zero payload and the CRC 0xA732_586E, R128), no location is
allocated, no command waits, no lamp runs a task, no tick edge runs, the log is empty, positions 60 to 63 are the spare range of
COUNT 4 (R138), and every safety output is held off at its pin (R365). (05_tiles, 06_engines, 16_safety, 23_errors_freeze,
04_tick) -/
def Obligations.ResetState : Prop :=
  State.reset.pending = [] ∧ State.reset.tick.running = false ∧ State.reset.err.glob = [] ∧ State.reset.outputsOff ∧
    (∀ loc, loc < 4096 → (∀ i, i < 4092 → State.reset.byte (tileAddr loc + i) = 0) ∧
      (List.range 4).map (fun i => State.reset.byte (tileAddr loc + 4092 + i)) = [0x6E, 0x58, 0x32, 0xA7] ∧
      State.reset.dirValid loc = false) ∧
    (∀ l, (State.reset.lamp l).task = none) ∧
    (∀ n, n < 64 → State.reset.fld (R.ENG_LAMP n) F.ENG_LAMP_PHYS = n ∧
      State.reset.fld (R.ENG_LAMP n) F.ENG_LAMP_STATE = if 60 ≤ n then 1 else 0) ∧
    State.reset.fld R.ENG_SPARE F.ENG_SPARE_COUNT = 4

/-- The table's rows have no bit fields: decodeTableWord answers none for every word, and withFetchWord leaves every state as it is.
(opcode_table.json) -/
def Obligations.NoWordSpellsACommand : Prop :=
  ∀ nbits w : Nat, Sys2Proof.decodeTableWord nbits w = none ∧ ∀ s : State, s.withFetchWord nbits w = s

/-- Register g0 of every lamp reads zero and predicate p0 reads 1 in every state. A write to g0 or p0 changes nothing. After a write
of another register or predicate it reads the value written, and every other register, predicate and accumulator of every lamp
reads as before. Slot entry clears g1–g31, a0–a3 and p1–p7. (06_engines) -/
def Obligations.LampRegisters : Prop :=
  (∀ (s : State) (l : Nat), s.g l 0 = 0 ∧ s.pr l 0 = true) ∧
    (∀ (s : State) (l : Nat) (w : Word) (b : Bool), s.setG l 0 w = s ∧ s.setP l 0 b = s) ∧
    (∀ (s : State) (l m : Nat) (i j : Fin 32) (w : Word), i ≠ 0 →
      (s.setG l i w).g m j = (if m = l ∧ j = i then w else s.g m j) ∧
      (∀ k, (s.setG l i w).pr m k = s.pr m k) ∧ (∀ k, (s.setG l i w).acc m k = s.acc m k)) ∧
    (∀ (s : State) (l m : Nat) (i j : Fin 8) (b : Bool), i ≠ 0 →
      (s.setP l i b).pr m j = (if m = l ∧ j = i then b else s.pr m j) ∧
      (∀ k, (s.setP l i b).g m k = s.g m k) ∧ (∀ k, (s.setP l i b).acc m k = s.acc m k)) ∧
    (∀ (s : State) (l : Fin 64) (slot : Fin 16), s.coreOn = true → (s.slotReg s.bankB (16 * l + slot)).getLsbD 31 = true →
      ∃ t : State, exec (.slotEntry l slot) s = .next t ∧ (∀ i, t.g l i = 0) ∧ (∀ i, t.pr l i = decide (i = 0)) ∧ ∀ i, t.acc l i = 0)

/-- On a lamp that runs a task, each instruction of R167 completes: where its predicate is true it writes gd with the result R167
gives, and the PC moves past its words. A tile operation in flight that names its predicate completes first. (07_mitrane) -/
def Obligations.IntegerInstructions : Prop :=
  ∀ (s : State) (l : Fin 64) (q : PQ) (rd ra rb : Fin 32) (imm : BitVec 12) (imm32 : Word) (amt : Fin 32),
      s.coreOn = true → (s.lamp l).task.isSome →
      let u := s.settleP l [q.p]
      let a := u.g l ra
      let b := u.g l rb
      let sh := b.toNat % 32
      let sat (z : Int) : Word := BitVec.ofInt 32 (max (-2147483648) (min 2147483647 z))
      let res (w : Word) (n : Nat) : State := (if u.takes l q then u.setG l rd w else u).advance l n
      (∀ e ∈ ([(.add l q rd ra rb, a + b), (.sub l q rd ra rb, a - b), (.and l q rd ra rb, a &&& b), (.or l q rd ra rb, a ||| b),
          (.xor l q rd ra rb, a ^^^ b), (.shl l q rd ra rb, a <<< sh), (.shr l q rd ra rb, a >>> sh),
          (.sra l q rd ra rb, a.sshiftRight sh), (.min l q rd ra rb, if a.toInt ≤ b.toInt then a else b),
          (.max l q rd ra rb, if a.toInt ≤ b.toInt then b else a), (.minu l q rd ra rb, if a.toNat ≤ b.toNat then a else b),
          (.maxu l q rd ra rb, if a.toNat ≤ b.toNat then b else a), (.adds l q rd ra rb, sat (a.toInt + b.toInt)),
          (.subs l q rd ra rb, sat (a.toInt - b.toInt)), (.addi l q rd ra imm, a + imm.signExtend 32),
          (.andi l q rd ra imm, a &&& imm.zeroExtend 32), (.ori l q rd ra imm, a ||| imm.zeroExtend 32),
          (.xori l q rd ra imm, a ^^^ imm.zeroExtend 32), (.shi l q rd ra .shl amt, a <<< amt.val),
          (.shi l q rd ra .shr amt, a >>> amt.val), (.shi l q rd ra .sra amt, a.sshiftRight amt.val),
          (.mul l q rd ra rb, BitVec.ofInt 32 (a.toInt * b.toInt)), (.mulh l q rd ra rb, BitVec.ofInt 32 (a.toInt * b.toInt / 2 ^ 32)),
          (.mulhu l q rd ra rb, BitVec.ofNat 32 (a.toNat * b.toNat / 2 ^ 32)),
          (.div l q rd ra rb, if b = 0 then 0 else BitVec.ofInt 32 (Int.tdiv a.toInt b.toInt)),
          (.divu l q rd ra rb, if b = 0 then 0 else BitVec.ofNat 32 (a.toNat / b.toNat)),
          (.rem l q rd ra rb, if b = 0 then a else BitVec.ofInt 32 (Int.tmod a.toInt b.toInt)),
          (.remu l q rd ra rb, if b = 0 then a else BitVec.ofNat 32 (a.toNat % b.toNat))] : List (Instr × Word)),
        exec e.1 s = .next (res e.2 1)) ∧
      exec (.movx l q rd imm32) s = .next (res imm32 2)

/-- On a lamp that runs a task, each instruction of R168 completes with the predicate or register that R168 gives, where its own
predicate is true. A tile operation in flight that names a predicate it reads or writes completes first. (07_mitrane) -/
def Obligations.CompareAndBitInstructions : Prop :=
  ∀ (s : State) (l : Fin 64) (q : PQ) (rd ra rb b : Fin 32) (pd pa pb : Fin 8) (imm : BitVec 12),
      s.coreOn = true → (s.lamp l).task.isSome →
      let put (u : State) (v : Bool) : State := (if u.takes l q then u.setP l pd v else u).advance l 1
      let res (u : State) (w : Word) : State := (if u.takes l q then u.setG l rd w else u).advance l 1
      let u := s.settleP l [q.p, pd]
      let x := u.g l ra
      let y := u.g l rb
      let i := imm.signExtend 32
      let v := s.settleP l [q.p, pd, pa, pb]
      let w := s.settleP l [q.p]
      let c := w.g l ra
      let d := w.g l rb
      let pos := d.toNat % 32
      let width := if d.toNat / 256 % 32 = 0 then 32 else d.toNat / 256 % 32
      let z := s.settleP l [q.p, pa]
      (∀ e ∈ ([(.cmpEq l q pd ra rb, decide (x = y)), (.cmpLt l q pd ra rb, decide (x.toInt < y.toInt)),
          (.cmpLtu l q pd ra rb, decide (x.toNat < y.toNat)), (.cmpTst l q pd ra rb, decide (x &&& y ≠ 0)),
          (.cmpeqi l q pd ra imm, decide (x = i)), (.cmplti l q pd ra imm, decide (x.toInt < i.toInt)),
          (.cmpltui l q pd ra imm, decide (x.toNat < i.toNat)), (.pget l q pd ra b, x.getLsbD b)] : List (Instr × Bool)),
        exec e.1 s = .next (put u e.2)) ∧
      (∀ e ∈ ([(.pand l q pd pa pb, v.pr l pa && v.pr l pb), (.por l q pd pa pb, v.pr l pa || v.pr l pb),
          (.pxor l q pd pa pb, xor (v.pr l pa) (v.pr l pb)), (.pandn l q pd pa pb, v.pr l pa && !v.pr l pb)] : List (Instr × Bool)),
        exec e.1 s = .next (put v e.2)) ∧
      (∀ e ∈ ([(.popc l q rd ra, BitVec.ofNat 32 ((List.range 32).countP (fun k => c.getLsbD k))),
          (.clz l q rd ra, BitVec.ofNat 32 ((List.range 32).reverse.takeWhile (fun k => !c.getLsbD k)).length),
          (.bfxu l q rd ra rb, BitVec.ofNat 32 (c.toNat / 2 ^ pos % 2 ^ width))] : List (Instr × Word)),
        exec e.1 s = .next (res w e.2)) ∧
      (∃ f : Word, exec (.bfi l q rd ra rb) s = .next (res w f) ∧ ∀ k, k < 32 →
        f.getLsbD k = if pos ≤ k ∧ k < pos + width then c.getLsbD (k - pos) else (w.g l rd).getLsbD k) ∧
      (∃ f : Word, exec (.pput l q rd pa b) s = .next (res z f) ∧ ∀ k, k < 32 →
        f.getLsbD k = if k = b.val then z.pr l pa else (z.g l rd).getLsbD k)

/-- In a task that is not a safety task every float instruction completes with the value of its binary32 operation, where its
predicate is true. A NaN operand gives 0x7FC0_0000 from FADD, FSUB, FMUL, FDIV and FSQRT; FMIN and FMAX give the other operand
when one is a NaN, and −0 and +0 of the two zeros; a subnormal operand acts as a zero of its sign; FCVTSI of a NaN is 0; a
comparison with a NaN is false but in FCMP.UN. (07_mitrane) -/
def Obligations.FloatInstructions : Prop :=
  ∀ (s : State) (l : Fin 64) (q : PQ) (rd ra rb : Fin 32) (pd : Fin 8) (x : TaskCtx),
      s.coreOn = true → (s.lamp l).task = some x → x.safety = false →
      let u := s.settleP l [q.p]
      let a := u.g l ra
      let b := u.g l rb
      let v := s.settleP l [q.p, pd]
      let c := v.g l ra
      let d := v.g l rb
      let nan (w : Word) : Prop := w.toNat / 2 ^ 23 % 256 = 255 ∧ w.toNat % 2 ^ 23 ≠ 0
      let small (w : Word) : Prop := w.toNat / 2 ^ 23 % 256 = 0
      let flush (w : Word) : Word := w &&& 0x80000000
      (∀ e ∈ ([(.fadd l q rd ra rb, fAdd a b), (.fsub l q rd ra rb, fSub a b), (.fmul l q rd ra rb, fMul a b),
          (.fdiv l q rd ra rb, fDiv a b), (.fmin l q rd ra rb, fMin a b), (.fmax l q rd ra rb, fMax a b), (.fsqrt l q rd ra, fSqrt a),
          (.fabs l q rd ra, fAbsW a), (.fneg l q rd ra, fNegW a), (.fcvtis l q rd ra, fCvtIS a), (.fcvtsi l q rd ra, fCvtSI a)] :
          List (Instr × Word)),
        exec e.1 s = .next ((if u.takes l q then u.setG l rd e.2 else u).advance l 1)) ∧
      (∀ e ∈ ([(.fcmpEq l q pd ra rb, fEq c d), (.fcmpLt l q pd ra rb, fLt c d), (.fcmpLe l q pd ra rb, fLe c d),
          (.fcmpUn l q pd ra rb, fUn c d)] : List (Instr × Bool)),
        exec e.1 s = .next ((if v.takes l q then v.setP l pd e.2 else v).advance l 1)) ∧
      (∀ y z : Word, nan y ∨ nan z → fAdd y z = 0x7FC00000 ∧ fSub y z = 0x7FC00000 ∧ fMul y z = 0x7FC00000 ∧ fDiv y z = 0x7FC00000 ∧
        fEq y z = false ∧ fLt y z = false ∧ fLe y z = false ∧ fUn y z = true) ∧
      (∀ y : Word, nan y → fSqrt y = 0x7FC00000 ∧ fAbsW y = 0x7FC00000 ∧ fNegW y = 0x7FC00000 ∧ fCvtSI y = 0) ∧
      (∀ y z : Word, nan y → ¬ nan z → ¬ small z → fMin y z = z ∧ fMax y z = z ∧ fMin z y = z ∧ fMax z y = z) ∧
      fMin 0 0x80000000 = 0x80000000 ∧ fMin 0x80000000 0 = 0x80000000 ∧ fMax 0 0x80000000 = 0 ∧ fMax 0x80000000 0 = 0 ∧
      (∀ y z : Word, small y → fAdd y z = fAdd (flush y) z ∧ fSub y z = fSub (flush y) z ∧ fMul y z = fMul (flush y) z ∧
        fDiv y z = fDiv (flush y) z ∧ fLt y z = fLt (flush y) z)

/-- On a lamp that runs a task, MAC, MACU, MSU, ACCLR, ACCWR, ACCRD, ACCRDH, SDFT, SEQ0, SEQ1, SEQ2 and ISQRT complete with the
accumulator or register of R178 and R179 where their predicate is true. The bin update and the sequence components are the
functions sdft and seqOf, which hold the constants of R179 to Q1.30; that a sequence component is divided by 3 and rounded once is
the model's choice (log entry 8). (07_mitrane) -/
def Obligations.AccumulatorInstructions : Prop :=
  ∀ (s : State) (l : Fin 64) (q : PQ) (rd ra rb sh : Fin 32) (ac : Fin 4) (n80 : Bool) (k : Fin 64),
      s.coreOn = true → (s.lamp l).task.isSome →
      let u := s.settleP l [q.p]
      let a := u.acc l ac
      let x := u.g l ra
      let y := u.g l rb
      let sat (z : Int) : Word := BitVec.ofInt 32 (max (-2147483648) (min 2147483647 z))
      (∀ e ∈ ([(.mac l q ac ra rb, a + BitVec.ofInt 64 (x.toInt * y.toInt)), (.macu l q ac ra rb, a + BitVec.ofNat 64 (x.toNat * y.toNat)),
          (.msu l q ac ra rb, a - BitVec.ofInt 64 (x.toInt * y.toInt)), (.acclr l q ac, 0), (.accwr l q ac ra rb, y ++ x),
          (.sdft l q ac ra rb n80 k, sdft a x y n80 k), (.seq0 l q ac, seqOf (u.acc l 0) (u.acc l 1) (u.acc l 2) (2 ^ 30) 0),
          (.seq1 l q ac, seqOf (u.acc l 0) (u.acc l 1) (u.acc l 2) (-(2 ^ 29)) 929887697),
          (.seq2 l q ac, seqOf (u.acc l 0) (u.acc l 1) (u.acc l 2) (-(2 ^ 29)) (-929887697))] : List (Instr × Dword)),
        exec e.1 s = .next ((if u.takes l q then u.setAcc l ac e.2 else u).advance l 1)) ∧
      (∀ e ∈ ([(.accrd l q rd ac sh, sat (a.toInt / 2 ^ sh.val)), (.accrdh l q rd ac, a.extractLsb' 32 32),
          (.isqrt l q rd ra, BitVec.ofNat 32 (Nat.sqrt x.toNat))] : List (Instr × Word)),
        exec e.1 s = .next ((if u.takes l q then u.setG l rd e.2 else u).advance l 1))

/-- On a lamp that runs a task and with an even gd, CORDV and CORDR complete. CORDV of (0, 0) writes 0 and 0. Otherwise the magnitude
written to gd is at most 1 from the exact one: (m − 1)² ≤ x² + y² ≤ (m + 1)². With gd = g0 the magnitude is discarded and g1 is
written. CORDR of angle 0 writes a cosine at most 2 from 2³⁰ and a sine at most 2 from 0. (07_mitrane) -/
def Obligations.CordicInstructions : Prop :=
  ∀ (s : State) (l : Fin 64) (q : PQ) (rd ra rb : Fin 32),
      s.coreOn = true → (s.lamp l).task.isSome → rd.val % 2 = 0 →
      let u := s.settleP l [q.p]
      let x := (u.g l ra).toInt
      let y := (u.g l rb).toInt
      ∃ (m ang c n : Word) (t r : State), exec (.cordv l q rd ra rb) s = .next t ∧ exec (.cordr l q rd ra) s = .next r ∧
        (∀ j : Fin 32, t.g l j = if u.takes l q ∧ j = rd ∧ rd ≠ 0 then m else if u.takes l q ∧ j = rd + 1 then ang else u.g l j) ∧
        (∀ j : Fin 32, r.g l j = if u.takes l q ∧ j = rd ∧ rd ≠ 0 then c else if u.takes l q ∧ j = rd + 1 then n else u.g l j) ∧
        (x = 0 ∧ y = 0 → m = 0 ∧ ang = 0) ∧
        (¬ (x = 0 ∧ y = 0) → ((m.toNat : Int) - 1) ^ 2 ≤ x ^ 2 + y ^ 2 ∧ x ^ 2 + y ^ 2 ≤ ((m.toNat : Int) + 1) ^ 2) ∧
        (u.g l ra = 0 → 2 ^ 30 - 2 ≤ c.toInt ∧ c.toInt ≤ 2 ^ 30 + 2 ∧ -2 ≤ n.toInt ∧ n.toInt ≤ 2)

/-- On a lamp that runs a task with no tile operation in flight, an instruction whose predicate is false changes nothing but the PC
and the loop level its address ends: every register, predicate, accumulator and window of every lamp, memory and every register of
the SRF stand, and no record is written. The instructions named are integer, float, memory, scan, tile, messaging, loop-slot, key
and system ones; a long form moves the PC by 2. (06_engines, 07_mitrane) -/
def Obligations.FalsePredicate : Prop :=
  ∀ (s : State) (l : Fin 64) (q : PQ) (rd ra rb gx : Fin 32) (pd ps w : Fin 8) (off : BitVec 12) (imm : Word) (loc : Fin 4096) (ac : Fin 4)
      (fn : BitVec 7) (x : TaskCtx),
      s.coreOn = true → (s.lamp l).task = some x → x.safety = false → (s.lamp l).pend = none → s.takes l q = false →
      (∀ c ∈ ([.add l q rd ra rb, .mulh l q rd ra rb, .div l q rd ra rb, .cmpLt l q pd ra rb, .pput l q rd ps ra, .fadd l q rd ra rb,
          .mac l q ac ra rb, .ldw l q rd ra off, .stw l q rd ra off, .stb l q rd ra off, .ton l q pd ps ra rb, .ctu l q pd ps ra rb w,
          .tload l q pd w loc, .tstore l q pd w loc, .mbx l q pd w loc, .trel l q w, .sysrd l q gx ra, .syswr l q gx ra,
          .keyopEnc l q rd ra rb, .random l q rd ra rb, .trap l q 0, .belay l q] : List Instr),
        exec c s = .next (s.advance l 1)) ∧
      exec (.movx l q rd imm) s = .next (s.advance l 2)

/-- With no tile operation in flight on the lamp, an integer, compare, bit or accumulator instruction leaves memory, the SRF, the tile
store, the queues and every other lamp as they were; on its own lamp every register but gd (for those that write gd), every
predicate but pd (for those that write pd) and every accumulator but the named one stand, and so do the windows and the task.
(06_engines, 07_mitrane) -/
def Obligations.RegisterInstructionsFrame : Prop :=
  ∀ (s t : State) (l : Fin 64) (q : PQ) (rd ra rb sh : Fin 32) (pd pa pb : Fin 8) (ac : Fin 4) (imm : BitVec 12) (w : Word),
      (s.lamp l).pend = none →
      let frame : Prop := t = { s with lamps := t.lamps } ∧ (∀ m, m ≠ l.val → t.lamp m = s.lamp m) ∧ (t.lamp l).win = (s.lamp l).win ∧
        (t.lamp l).pend = none ∧ (t.lamp l).task = (s.lamp l).task
      (∀ c ∈ ([.add l q rd ra rb, .sub l q rd ra rb, .and l q rd ra rb, .or l q rd ra rb, .xor l q rd ra rb, .shl l q rd ra rb,
          .shr l q rd ra rb, .sra l q rd ra rb, .min l q rd ra rb, .max l q rd ra rb, .minu l q rd ra rb, .maxu l q rd ra rb,
          .adds l q rd ra rb, .subs l q rd ra rb, .addi l q rd ra imm, .andi l q rd ra imm, .ori l q rd ra imm, .xori l q rd ra imm,
          .movx l q rd w, .mul l q rd ra rb, .mulh l q rd ra rb, .mulhu l q rd ra rb, .div l q rd ra rb, .divu l q rd ra rb,
          .rem l q rd ra rb, .remu l q rd ra rb, .pput l q rd pa sh, .popc l q rd ra, .clz l q rd ra, .bfxu l q rd ra rb, .bfi l q rd ra rb,
          .accrd l q rd ac sh, .accrdh l q rd ac, .isqrt l q rd ra] : List Instr), exec c s = .next t →
        frame ∧ (∀ j, j ≠ rd → t.g l j = s.g l j) ∧ (t.lamp l).p = (s.lamp l).p ∧ (t.lamp l).acc = (s.lamp l).acc) ∧
      (∀ c ∈ ([.cmpEq l q pd ra rb, .cmpLt l q pd ra rb, .cmpLtu l q pd ra rb, .cmpTst l q pd ra rb, .cmpeqi l q pd ra imm,
          .cmplti l q pd ra imm, .cmpltui l q pd ra imm, .pand l q pd pa pb, .por l q pd pa pb, .pxor l q pd pa pb, .pandn l q pd pa pb,
          .pget l q pd ra sh] : List Instr), exec c s = .next t →
        frame ∧ (t.lamp l).g = (s.lamp l).g ∧ (∀ j, j ≠ pd → t.pr l j = s.pr l j) ∧ (t.lamp l).acc = (s.lamp l).acc) ∧
      (∀ c ∈ ([.mac l q ac ra rb, .macu l q ac ra rb, .msu l q ac ra rb, .acclr l q ac, .accwr l q ac ra rb, .sdft l q ac ra rb true 1,
          .seq0 l q ac, .seq1 l q ac, .seq2 l q ac] : List Instr), exec c s = .next t →
        frame ∧ (t.lamp l).g = (s.lamp l).g ∧ (t.lamp l).p = (s.lamp l).p ∧ ∀ j, j ≠ ac → t.acc l j = s.acc l j)

/-- Where its predicate is true, a load whose address ga + off12 lies in a window that is not POISON completes: LDW of a multiple of 4
writes the little-endian word, LDH and LDHU of a multiple of 2 the halfword sign- or zero-extended, LDB and LDBU the byte. A byte
of an invalid line reads as zero. A tile operation that has made the window BUSY completes first. Nothing else changes but the PC.
Where its predicate is true, a store whose address ga + off12 lies in a window that is not POISON completes: STW of a multiple of
4, STH of a multiple of 2 and STB write the low 32, 16 or 8 bits of rs, little-endian. The lines written become valid and the
window VALID, its LOC standing. Every other byte of the window reads as before (a byte of an invalid line as zero), every byte of
memory outside the window is as before, and so is everything else but the lamp's PC and loop level. (05_tiles, 07_mitrane) -/
def Obligations.LoadsAndStores : Prop :=
  (∀ (s : State) (l : Fin 64) (q : PQ) (rd ra : Fin 32) (off : BitVec 12) (w : Fin 8),
       s.Inv → s.coreOn = true → (s.lamp l).task.isSome →
       let u := s.settleP l [q.p]
       let a := (u.g l ra + off.signExtend 32).toNat
       let v := u.settleW l w
       let o := a % 4096
       let byte (i : Nat) : Nat := if (v.lamp l).win[w].lines.getLsbD ((o + i) / 64) then (v.byte (winAddr l w + o + i)).toNat else 0
       let res (x : Word) : State := (v.setG l rd x).advance l 1
       u.takes l q = true → a / 4096 = 16 + w.val → (v.lamp l).win[w].st ≠ .poison →
       (a % 4 = 0 → exec (.ldw l q rd ra off) s = .next (res (BitVec.ofNat 32 (byte 0 + 2 ^ 8 * byte 1 + 2 ^ 16 * byte 2 + 2 ^ 24 * byte 3)))) ∧
       (a % 2 = 0 → exec (.ldh l q rd ra off) s = .next (res ((BitVec.ofNat 16 (byte 0 + 2 ^ 8 * byte 1)).signExtend 32)) ∧
         exec (.ldhu l q rd ra off) s = .next (res (BitVec.ofNat 32 (byte 0 + 2 ^ 8 * byte 1)))) ∧
       exec (.ldb l q rd ra off) s = .next (res ((BitVec.ofNat 8 (byte 0)).signExtend 32)) ∧
       exec (.ldbu l q rd ra off) s = .next (res (BitVec.ofNat 32 (byte 0)))) ∧
  (∀ (s : State) (l : Fin 64) (q : PQ) (rs ra : Fin 32) (off : BitVec 12) (w : Fin 8),
       s.Inv → s.coreOn = true → (s.lamp l).task.isSome →
       let u := s.settleP l [q.p]
       let a := (u.g l ra + off.signExtend 32).toNat
       let v := u.settleW l w
       let o := a % 4096
       let view (x : State) (i : Nat) : Byte := if (x.lamp l).win[w].lines.getLsbD (i / 64) then x.byte (winAddr l w + i) else 0
       u.takes l q = true → a / 4096 = 16 + w.val → (v.lamp l).win[w].st ≠ .poison → (v.lamp l).task.isSome →
       ∀ e ∈ ([(.stw l q rs ra off, 4), (.sth l q rs ra off, 2), (.stb l q rs ra off, 1)] : List (Instr × Nat)), a % e.2 = 0 →
         ∃ t : State, exec e.1 s = .next t ∧
           (∀ i, i < e.2 → view t (o + i) = (v.g l rs).extractLsb' (8 * i) 8) ∧
           (∀ i, i < 4096 → i < o ∨ o + e.2 ≤ i → view t i = view v i) ∧
           (∀ x, x < winAddr l w ∨ winAddr l w + 4096 ≤ x → t.byte x = v.byte x) ∧
           (∀ i, i < 64 → (t.lamp l).win[w].lines.getLsbD i = ((v.lamp l).win[w].lines.getLsbD i || decide (i = o / 64))) ∧
           (t.lamp l).win[w].st = .valid ∧ (t.lamp l).win[w].loc = (v.lamp l).win[w].loc ∧
           (∀ j : Fin 8, j ≠ w → (t.lamp l).win[j] = (v.lamp l).win[j]) ∧
           (t.lamp l).g = (v.lamp l).g ∧ (t.lamp l).p = (v.lamp l).p ∧ (t.lamp l).acc = (v.lamp l).acc ∧
           (∀ m, m ≠ l.val → t.lamp m = v.lamp m) ∧ t = { v with mem := t.mem, lamps := t.lamps })

/-- Where its predicate is true and ga is a 16-byte aligned address in a window that is not POISON, a scan-evaluated instruction whose
instance has TYPE 0 or its own type completes: bytes 4 to 15 of the instance and pd take the evaluation of R175 (an instance of
TYPE 0 first takes the type, with ET and state cleared and the preset recorded), INM takes the input and PT the preset. An
instance of another type gives pd = 0 and an INST record. An on-delay timer whose input has been true in the scan before counts up
by the task period, never beyond the preset it held, and its output is true exactly when it has reached it; a false input clears
it. A pulse timer that runs ends when its time has reached its preset. A counter counts once for each rising input, never beyond
the ends of the signed range, and its reset or load prevails. (07_mitrane) -/
def Obligations.ScanInstructions : Prop :=
  (∀ (s : State) (l : Fin 64) (q : PQ) (pd ps rp : Fin 8) (ra rb : Fin 32) (x : TaskCtx) (w : Fin 8),
       s.coreOn = true → (s.lamp l).task = some x →
       ∀ e ∈ ([(.ton l q pd ps ra rb, 1, 0), (.tof l q pd ps ra rb, 2, 0), (.tp l q pd ps ra rb, 3, 0), (.ctu l q pd ps ra rb rp, 4, rp),
           (.ctd l q pd ps ra rb rp, 5, rp), (.edgeup l q pd ps ra rb, 6, 0), (.edgedn l q pd ps ra rb, 7, 0)] : List (Instr × Nat × Fin 8)),
         let u := s.settleP l [q.p, pd, ps, e.2.2]
         let a := (u.g l ra).toNat
         let v := u.settleW l w
         let inp := v.pr l ps
         let pre := (v.g l rb).toNat
         let i := Inst.read (v.winBytes l w (a % 4096) 16)
         let i0 : Inst := if i.type = 0 then ⟨e.2.1, false, false, false, i.chg, 0, pre⟩ else i
         let rst := e.2.2 != 0 && v.pr l e.2.2
         let pv := (v.g l rb).toInt
         let r : Inst × Bool := match e.2.1 with
           | 1 => evalTon i0 inp x.delta
           | 2 => evalTof i0 inp x.delta
           | 3 => evalTp i0 inp x.delta
           | 4 => evalCtu i0 inp rst pv
           | 5 => evalCtd i0 inp rst pv
           | 6 => (i0, inp && !i0.inm)
           | _ => (i0, !inp && i0.inm)
         u.takes l q = true → a / 4096 = 16 + w.val → a % 16 = 0 → (v.lamp l).win[w].st ≠ .poison →
         (i.type = 0 ∨ i.type = e.2.1 →
           exec e.1 s = .next (((v.winWrite l w (a % 4096 + 4) { r.1 with inm := inp, pt := pre }.write).setP l pd r.2).advance l 1)) ∧
         (i.type ≠ 0 → i.type ≠ e.2.1 → ∃ word, exec e.1 s = .next (((v.raise l cINST word 0 0 a).setP l pd false).advance l 1))) ∧
  ((∀ (i : Inst) (d : Nat), i.inm = true → i.et ≤ i.pt → i.pt < 2 ^ 32 →
       (evalTon i true d).1.et = min (i.et + d) i.pt ∧ (evalTon i true d).2 = decide (i.pt ≤ i.et + d)) ∧
     (∀ (i : Inst) (d : Nat), (evalTon i false d).1.et = 0 ∧ (evalTon i false d).2 = false ∧ (evalTof i true d).2 = true ∧
       (evalTof i true d).1.et = 0) ∧
     (∀ (i : Inst) (d : Nat), i.inm = false → i.q = true → i.et ≤ i.pt → i.pt < 2 ^ 32 →
       (evalTof i false d).1.et = min (i.et + d) i.pt ∧ (evalTof i false d).2 = decide (i.et + d < i.pt)) ∧
     (∀ (i : Inst) (b : Bool) (d : Nat), i.run = true → i.et ≤ i.pt → i.pt < 2 ^ 32 →
       (evalTp i b d).1.run = decide (i.et + d < i.pt) ∧ (i.pt ≤ i.et + d → (evalTp i b d).2 = false)) ∧
     (∀ (i : Inst) (b : Bool) (pv : Int), (evalCtu i b true pv).1.et = 0 ∧ (evalCtu i b true pv).2 = decide (pv ≤ 0)) ∧
     (∀ (i : Inst) (pv : Int), i.inm = false → sval (w32 i.et) < 2147483647 →
       sval (w32 (evalCtu i true false pv).1.et) = sval (w32 i.et) + 1) ∧
     (∀ (i : Inst) (pv : Int), i.inm = true → sval (w32 (evalCtu i true false pv).1.et) = sval (w32 i.et)) ∧
     (∀ (i : Inst) (pv : Int), i.inm = false → -2147483648 < sval (w32 i.et) →
       sval (w32 (evalCtd i true false pv).1.et) = sval (w32 i.et) - 1))

/-- On a lamp that runs a task and whose instruction is not the last of a loop body: BR taken moves the PC to PC + 1 + off22, or
raises FETCH beyond 0x3FFF. LOOPI and LOOPR with a body, a count and fewer than 4 levels nested push a level with that count and
go to the body; a count of 0 or a false predicate skips the body; a LOOPR count above the ceiling raises BOUND and skips it. At
the end of a body the level counts down and the body starts again, and the last run ends the level. On a lamp that runs a task: a
body length of 0 raises ILL whatever the predicate; a BR, LOOPI, LOOPR or ENDSLOT that is the last instruction of the innermost
loop's body raises ILL; a fifth nested loop that takes effect raises ILL. In each case the task is abandoned. (06_engines,
07_mitrane) -/
def Obligations.BranchesAndLoops : Prop :=
  ((∀ (s : State) (l : Fin 64) (q : PQ) (off : BitVec 22) (rs : Fin 32) (count : BitVec 12) (body : BitVec 10) (ceil : Word),
       s.coreOn = true → (s.lamp l).task.isSome → (s.lamp l).loops = [] →
       let u := s.settleP l [q.p]
       let pc := (u.lamp l).pc
       let go (len n : Nat) : State := u.modLamp l (fun x => { x with pc := pc + len, loops := ⟨pc + len, pc + len + body.toNat, n⟩ :: x.loops })
       let skip (v : State) (len : Nat) : State := v.modLamp l (fun x => { x with pc := pc + len + body.toNat })
       (u.takes l q = true → pc + 1 + off.toNat ≤ 0x3FFF →
         exec (.br l q off) s = .next (u.modLamp l (fun x => { x with pc := pc + 1 + off.toNat }))) ∧
       (u.takes l q = true → 0x3FFF < pc + 1 + off.toNat → ∃ word, exec (.br l q off) s = .next (u.kill l cFETCH word pc)) ∧
       (u.takes l q = false → exec (.br l q off) s = .next (u.advance l 1)) ∧
       (body ≠ 0 → (u.lamp l).loops = [] →
         (u.takes l q = true → count ≠ 0 → exec (.loopi l q count body) s = .next (go 1 count.toNat)) ∧
         ((u.takes l q = false ∨ count = 0) → exec (.loopi l q count body) s = .next (skip u 1)) ∧
         (u.takes l q = true → u.g l rs ≠ 0 → (u.g l rs).toNat ≤ ceil.toNat →
           exec (.loopr l q rs body ceil) s = .next (go 2 (u.g l rs).toNat)) ∧
         (u.takes l q = true → ceil.toNat < (u.g l rs).toNat →
           ∃ word, exec (.loopr l q rs body ceil) s = .next (skip (u.raise l cBOUND word 0 0 pc) 2)) ∧
         ((u.takes l q = false ∨ u.g l rs = 0) → exec (.loopr l q rs body ceil) s = .next (skip u 2)))) ∧
     (∀ (x : Lamp) (lv : LoopLvl) (rest : List LoopLvl) (len : Nat), x.loops = lv :: rest → x.pc + len = lv.after →
       (1 < lv.remaining → (x.advance len).pc = lv.first ∧ (x.advance len).loops = { lv with remaining := lv.remaining - 1 } :: rest) ∧
       (lv.remaining ≤ 1 → (x.advance len).pc = lv.after ∧ (x.advance len).loops = rest))) ∧
  (∀ (s : State) (l : Fin 64) (q : PQ) (off : BitVec 22) (rs : Fin 32) (count : BitVec 12) (body : BitVec 10) (ceil : Word),
       s.coreOn = true → (s.lamp l).task.isSome →
       (body = 0 → ∃ w1 w2 pc, exec (.loopi l q count body) s = .next (s.kill l cILL w1 pc) ∧
         exec (.loopr l q rs body ceil) s = .next (s.kill l cILL w2 pc)) ∧
       ((s.lamp l).atBodyEnd 1 = true → ∀ c ∈ ([.br l q off, .loopi l q count body, .endslot l q] : List Instr),
         ∃ word pc, exec c s = .next (s.kill l cILL word pc)) ∧
       ((s.lamp l).atBodyEnd 2 = true → ∃ word pc, exec (.loopr l q rs body ceil) s = .next (s.kill l cILL word pc)) ∧
       ((s.lamp l).pend = none → s.takes l q = true → 4 ≤ (s.lamp l).loops.length → count ≠ 0 →
         ∃ word pc, exec (.loopi l q count body) s = .next (s.kill l cILL word pc)) ∧
       (∀ (word : Word) (pc : Nat), ((s.kill l cILL word pc).lamp l).task = none))

/-- On a lamp that runs a task with no tile operation in flight, TLOAD, TSTORE and MBX with a true predicate complete at once, leaving
their operation in flight: its window, location, predicate and partition. TREL makes its window EMPTY with no valid line. Nothing
else changes but the PC. (05_tiles, 07_mitrane) -/
def Obligations.TileInstructions : Prop :=
  ∀ (s : State) (l : Fin 64) (q : PQ) (pd w : Fin 8) (loc : Fin 4096) (x : TaskCtx),
      s.coreOn = true → (s.lamp l).task = some x → (s.lamp l).pend = none → s.takes l q = true →
      (∀ e ∈ ([(.tload l q pd w loc, .load), (.tstore l q pd w loc, .store), (.mbx l q pd w loc, .mbx)] : List (Instr × TileKind)),
        ∃ word, exec e.1 s = .next ((s.modLamp l (fun y =>
          { y with pend := some ⟨e.2, w, loc, pd, x.part, x.safety, word, (s.lamp l).pc⟩ })).advance l 1)) ∧
      exec (.trel l q w) s = .next ((s.setWin l w { (s.lamp l).win[w] with st := .empty, lines := 0, restored := false, cause := 0 }).advance l 1)

/-- When a load in flight completes and its location passes the checks of R116, the window is VALID with all its 64 lines and holds
the tile's 4096 bytes (where no fix-up plan stands for the location), the predicate is 1 and nothing is logged. When a check fails
the window is POISON with the location and the cause, no line is valid and the predicate is 0. A load of an inbox reads the active
location of its pair. (05_tiles, 07_mitrane) -/
def Obligations.TileLoads : Prop :=
  ∀ (s : State) (l : Fin 64) (o : TileOp),
      s.Inv → s.coreOn = true → (s.lamp l).pend = some o → o.kind = .load →
      let loc := s.activeLoc o.loc.val
      ∃ t : State, exec (.tileOpComplete l) s = .next t ∧ (t.lamp l).pend = none ∧
        (s.loadCause loc o.part o.safety = none → s.planUnits loc = [] →
          (t.lamp l).win[o.w].st = .valid ∧ (t.lamp l).win[o.w].loc = o.loc.val ∧ (t.lamp l).win[o.w].lines = BitVec.allOnes 64 ∧
          (∀ i, i < 4096 → t.byte (winAddr l o.w + i) = s.byte (tileAddr loc + i)) ∧ t.pr l o.pd = true ∧ t.err = s.err ∧ t.srf = s.srf) ∧
        (∀ c, s.loadCause loc o.part o.safety = some c →
          (t.lamp l).win[o.w].st = .poison ∧ (t.lamp l).win[o.w].loc = o.loc.val ∧ (t.lamp l).win[o.w].lines = 0 ∧
          (t.lamp l).win[o.w].cause = c ∧ (o.pd ≠ 0 → t.pr l o.pd = false))

/-- When a store in flight completes and the location may be stored to, the payload of the location is the window's (bytes of invalid
lines zero), GEN has grown by one, the tile passes every check of R116, a primary of a precious tile has its twin copy alike, and
the predicate is 1. A store that may not be made leaves every byte of memory as it was, with the cause in the window and the
predicate 0. When an MBX in flight completes, its location may be stored to and the LEN at byte 8 of the window is at most 4052,
the location holds zeros in bytes 0 to 7, 10 and 11, LEN as it stood, LEN bytes of message from byte 12 and zeros to the end of
the payload, and the predicate is 1. With a larger LEN nothing is stored, the predicate is 0 and MSG is raised with status 2.
(05_tiles, 07_mitrane) -/
def Obligations.TileStores : Prop :=
  (∀ (s : State) (l : Fin 64) (o : TileOp),
       s.Inv → s.coreOn = true → (s.lamp l).pend = some o → o.kind = .store →
       let loc := o.loc.val
       let view (i : Nat) : Byte := if (s.lamp l).win[o.w].lines.getLsbD (i / 64) then s.byte (winAddr l o.w + i) else 0
       ∃ t : State, exec (.tileOpComplete l) s = .next t ∧ (t.lamp l).pend = none ∧
         (s.storeCause l o = none →
           (∀ i, i < 4064 → t.byte (tileAddr loc + i) = view i) ∧ t.dirGen loc = s.dirGen loc + 1 ∧ t.sealFail loc = none ∧
           (s.dirFlag loc fPRECIOUS = true → s.dirAct loc = true →
             ∀ i, i < 4096 → t.byte (tileAddr (s.linkLoc loc) + i) = t.byte (tileAddr loc + i)) ∧
           (∀ a, (a < tileAddr loc ∨ tileAddr loc + 4096 ≤ a) →
             (a < tileAddr (s.linkLoc loc) ∨ tileAddr (s.linkLoc loc) + 4096 ≤ a) → t.byte a = s.byte a) ∧
           t.pr l o.pd = true ∧ (t.lamp l).win[o.w].st = (s.lamp l).win[o.w].st) ∧
         (∀ c, s.storeCause l o = some c → t.mem = s.mem ∧ (t.lamp l).win[o.w].cause = c ∧ (o.pd ≠ 0 → t.pr l o.pd = false))) ∧
  (∀ (s : State) (l : Fin 64) (o : TileOp),
       s.Inv → s.coreOn = true → (s.lamp l).pend = some o → o.kind = .mbx → s.storeCause l o = none →
       let loc := o.loc.val
       let view (i : Nat) : Byte := if (s.lamp l).win[o.w].lines.getLsbD (i / 64) then s.byte (winAddr l o.w + i) else 0
       let n := (view 8).toNat + 256 * (view 9).toNat
       (n ≤ 4052 → ∃ t : State, exec (.tileOpComplete l) s = .next t ∧ t.pr l o.pd = true ∧ t.sealFail loc = none ∧
         ∀ i, i < 4064 → t.byte (tileAddr loc + i) = if (8 ≤ i ∧ i < 10) ∨ (12 ≤ i ∧ i < 12 + n) then view i else 0) ∧
       (4052 < n → exec (.tileOpComplete l) s =
         .next (((s.modLamp l (fun x => { x with pend := none })).setP l o.pd false).raiseOp l o cMSG 2)))

/-- On a lamp that runs a task with no operation in flight and no open frame chain: ENDSLOT with a true predicate ends the task and
counts it as ended; TRAP records TRAP with its code and ends the task, without that count; an illegal word records ILL and a fetch
fault FETCH, and the task is abandoned. BELAY with BELAY_EN set is a freeze trigger of source 4, after which, when it is refused,
the task goes on; with BELAY_EN clear it changes nothing but the PC. (06_engines, 07_mitrane, 23_errors_freeze) -/
def Obligations.TasksEnd : Prop :=
  ∀ (s : State) (l : Fin 64) (q : PQ) (code : BitVec 8) (word : Word) (x : TaskCtx),
      s.coreOn = true → (s.lamp l).task = some x → (s.lamp l).pend = none → (s.lamp l).chain = none →
      let stop (u : State) : State := u.modLamp l (fun y => { y with task := none, chain := none, loops := [] })
      (s.takes l q = true → (s.lamp l).atBodyEnd 1 = false → exec (.endslot l q) s = .next (stop (s.modPart x.part (fun y =>
        { y with ended := true, endedEntries := luniq (y.endedEntries ++ [x.entry]), endedNow := luniq (y.endedNow ++ [x.entry]) })))) ∧
      (s.takes l q = true → ∃ w t, exec (.trap l q code) s = .next t ∧
        t = (s.raise l cTRAP w code.toNat 0 (s.lamp l).pc).endTask l w ∧ (t.lamp l).task = none) ∧
      (∃ t : State, exec (.illegalInstruction l word) s = .next t ∧ t = (s.raise l cILL word 0 0 (s.lamp l).pc).endTask l word ∧
        (t.lamp l).task = none) ∧
      (∃ t : State, exec (.fetchFault l) s = .next t ∧ t = (s.raise l cFETCH 0 0 0 (s.lamp l).pc).endTask l 0 ∧ (t.lamp l).task = none) ∧
      (s.takes l q = true → x.safety = false → exec (.belay l q) s = .next
        ((if s.flag R.ERR_FRZ_CFG F.ERR_FRZ_CFG_BELAY_EN then s.freezeTrigger 4 none x.part l else s).advance l 1))

/-- At the entry of a valid slot of a RUNNING partition, on a lamp that has no task and no operation in flight, the due task of the
slot starts at its ENTRY with its registers cleared, where every page it can reach is READY; where one is not, no task starts and
the slot counts as ended. An overrun of a task counts OVR, abandons every task of its partition and asks for a stop with cause
overrun. (04_tick, 06_engines, 09_online_change) -/
def Obligations.SlotsStartTasks : Prop :=
  (∀ (s : State) (l : Fin 64) (slot : Fin 16) (n : Nat),
      s.coreOn = true → (s.lamp l).task = none → (s.lamp l).pend = none →
      let k := 16 * l.val + slot.val
      let p := s.slotPart s.bankB k
      (s.slotReg s.bankB k).getLsbD 31 = true → s.running p = true → (s.part p).barred = false →
      (s.validTasks s.bankB).find? (fun t => s.taskSlot s.bankB t == k && s.due t) = some n →
      ∃ t : State, exec (.slotEntry l slot) s = .next t ∧
        (s.notReady l p (s.taskAddr s.bankB n) = false →
          (t.lamp l).pc = s.taskAddr s.bankB n ∧ (∀ i, t.g l i = 0) ∧ (∀ m, m ≠ l.val → t.lamp m = s.lamp m) ∧ t.srf = s.srf ∧ t.mem = s.mem ∧
          ∃ x, (t.lamp l).task = some x ∧ x.part = p ∧ x.slot = slot.val ∧ x.entry = n ∧ x.safety = (s.taskKind s.bankB n == 2) ∧
            x.delta = (if s.taskKind s.bankB n == 1 then 1 else s.taskPeriod s.bankB n)) ∧
        (s.notReady l p (s.taskAddr s.bankB n) = true → (t.lamp l).task = none ∧ (t.part p).ended = true)) ∧
    (∀ (s : State) (l : Fin 64) (x : TaskCtx), s.coreOn = true → (s.lamp l).task = some x → x.part < 128 → s.running x.part = true →
      (s.part x.part).stopReq = none →
      ∃ t : State, exec (.overrun l) s = .next t ∧ (t.part x.part).stopReq = some .overrun ∧ (t.part x.part).barred = true ∧
        t.fld (R.ENG_PART_STAT x.part) F.ENG_PART_STAT_OVR = min (s.fld (R.ENG_PART_STAT x.part) F.ENG_PART_STAT_OVR + 1) 255 ∧
        (t.lamp l).task = none)

/-- To a partition other than 0, or from an OWNER: ALLOT of a FREE partition makes it IDLE; START of an IDLE or STOPPED one with no
fault stop and no END under way makes it STARTING, its bound pages to be copied; STOP and RESTART of a STARTING or RUNNING one are
asked for; END of an IDLE, STARTING, RUNNING or STOPPED one is asked for, but not of partition 0. In another state each is refused
with CMD_REFUSED. A command to partition 0 that no OWNER sends gives PART0_CTRL_REFUSED. (06_engines, 09_online_change) -/
def Obligations.PartitionCommands : Prop :=
  ∀ (s : State) (p : Fin 128) (owner : Bool), s.coreOn = true → (∀ n ∈ s.eng.bound, n < 1024) →
      let st := s.pstate p
      ((p ≠ 0 ∨ owner = true) →
        (st = psFree → exec (.partAllot p owner) s = .next (s.setPstate p psIdle)) ∧
        (st ≠ psFree → exec (.partAllot p owner) s = .next (s.event Ev.CMD_REFUSED p)) ∧
        ((st = psIdle ∨ st = psStopped) → (s.part p).stopReq = none → (s.part p).endReq = false →
          ∃ t : State, exec (.partStart p owner) s = .next t ∧ t.pstate p = psStarting ∧ (t.part p).startNow = true ∧
            (∀ n ∈ s.boundPages p, t.pageState n = 1) ∧ t.lamps = s.lamps ∧ t.mem = s.mem) ∧
        (¬ (st = psIdle ∨ st = psStopped) → exec (.partStart p owner) s = .next (s.event Ev.CMD_REFUSED p)) ∧
        ((st = psStarting ∨ st = psRunning) → (s.part p).stopReq = none →
          exec (.partStop p owner) s = .next (s.modPart p (fun x => { x with stopReq := some .command })) ∧
          exec (.partRestart p owner) s = .next (s.modPart p (fun x => { x with stopReq := some .restart }))) ∧
        (¬ (st = psStarting ∨ st = psRunning) → exec (.partStop p owner) s = .next (s.event Ev.CMD_REFUSED p) ∧
          exec (.partRestart p owner) s = .next (s.event Ev.CMD_REFUSED p)) ∧
        (p ≠ 0 → st = psIdle ∨ st = psStarting ∨ st = psRunning ∨ st = psStopped →
          exec (.endTenancy p owner) s = .next (s.modPart p (fun x => { x with endReq := true }))) ∧
        (p = 0 ∨ st = psFree ∨ st = psZeroising → exec (.endTenancy p owner) s = .next (s.event Ev.CMD_REFUSED p))) ∧
      (p = 0 → owner = false → ∀ e ∈ ([(.partAllot p owner, 1), (.partStart p owner, 2), (.partStop p owner, 3), (.partRestart p owner, 4)] : List (Instr × Nat)),
        exec e.1 s = .next (s.event Ev.PART0_CTRL_REFUSED 0 e.2))

/-- COUNT takes a value from 2 to 8; another is refused. A self-test starts on its position; a failed pass counts in FAILS and starts
another, a second failure asks for the lamp's retirement, a pass after a failure counts as transient. A migration takes the lowest
healthy spare's lamp to the position and retires the spare's. A page whose source tile passes the load checks takes its payload
with 32 zero bytes after it and is READY; one whose tile fails is BAD. A STARTING partition with its pages READY becomes RUNNING
with its watchdog count cleared. A zeroised partition with no tile left becomes FREE. A route to a source allotted to its
partition is written, and takes effect at the next landing; another is refused. (06_engines, 09_online_change) -/
def Obligations.PositionsAndRoutes : Prop :=
  ∀ s : State, s.coreOn = true →
      (∀ v : Word, 2 ≤ v.toNat % 16 → v.toNat % 16 ≤ 8 →
        exec (.spareCountWrite v) s = .next (s.setFld R.ENG_SPARE F.ENG_SPARE_COUNT (v.toNat % 16))) ∧
      (∀ v : Word, (v.toNat % 16 < 2 ∨ 8 < v.toNat % 16) → exec (.spareCountWrite v) s = .next (s.event Ev.SPARE_COUNT_REFUSED 0xFF v.toNat)) ∧
      (∀ pos : Fin 64,
        (∃ t : State, exec (.selftestStart pos) s = .next t ∧ t.fld R.ENG_SELFTEST F.ENG_SELFTEST_POS = pos ∧ pos.val ∈ t.eng.passing) ∧
        (s.eng.suspect.contains pos.val = true → ∃ t : State, exec (.selftestPassDone pos true) s = .next t ∧ pos.val ∉ t.eng.suspect ∧
          t.fld R.ENG_SELFTEST F.ENG_SELFTEST_TRANSIENT = min (s.fld R.ENG_SELFTEST F.ENG_SELFTEST_TRANSIENT + 1) 255) ∧
        (∃ t : State, exec (.selftestPassDone pos false) s = .next t ∧
          t.fld (R.ENG_LAMP pos) F.ENG_LAMP_FAILS = min (s.fld (R.ENG_LAMP pos) F.ENG_LAMP_FAILS + 1) 255 ∧
          if s.eng.suspect.contains pos.val then pos.val ∈ t.eng.retiring else pos.val ∈ t.eng.suspect ∧ pos.val ∈ t.eng.passing) ∧
        (∀ sp rest, pos.val ∈ s.eng.moving → s.eng.migration = none → s.posState pos ≠ 1 → (∀ n ∈ s.eng.bound, n < 1024) →
          s.healthySpares = sp :: rest → ∃ t : State, exec (.lampMigrationStart pos) s = .next t ∧
            t.fld (R.ENG_LAMP pos) F.ENG_LAMP_PHYS = s.fld (R.ENG_LAMP sp) F.ENG_LAMP_PHYS ∧
            t.fld (R.ENG_LAMP sp) F.ENG_LAMP_PHYS = s.fld (R.ENG_LAMP pos) F.ENG_LAMP_PHYS ∧
            t.posState sp = 2 ∧ t.posState pos = s.posState pos ∧ pos.val ∉ t.eng.moving)) ∧
      (∀ (l : Fin 64) (page : Fin 16) (loc : Nat), s.Inv → loc < 4096 →
        let n := 16 * l.val + page.val
        let p := s.fld (R.ENG_CODE_PAGE n) F.ENG_CODE_PAGE_PART
        s.flag (R.ENG_CODE_PAGE n) F.ENG_CODE_PAGE_VALID = true → s.copySource l n p = some loc →
        ∃ t : State, exec (.codePageCopy l page) s = .next t ∧
          (s.copyCause loc p = none → t.pageState n = 2 ∧
            ∀ i, i < 4096 → t.byte (pageAddr l page + i) = if i < 4064 then s.byte (tileAddr loc + i) else 0) ∧
          (s.copyCause loc p ≠ none → t.pageState n = 3 ∧ t.mem = s.mem)) ∧
      (∀ p : Fin 128,
        (s.mayRun p = true → s.twinned p = false → ∃ t : State, exec (.partitionRunning p) s = .next t ∧ t.pstate p = psRunning ∧
          t.fld (R.ENG_WD p) F.ENG_WD_COUNT = 0 ∧ (t.part p).stored = [] ∧ (t.part p).released = false) ∧
        (s.pstate p = psZeroising → p.val ∉ s.boot.zero → (∀ l ∈ s.allocated, s.dirOwner l ≠ p) →
          exec (.zeroisationDone p) s = .next (s.setPstate p psFree))) ∧
      (∀ (n : Fin 512) (w : Word),
        let v := w &&& 0xFFFF7F1F
        let ok := s.sourceOk (F.ENG_EVT_ROUTE_TYPE.get v) (F.ENG_EVT_ROUTE_INDEX.get v) (F.ENG_EVT_ROUTE_PART.get v)
        (ok = true → (s.reg (R.ENG_EVT_ROUTE n)).getLsbD 31 = false → ∃ t : State, exec (.evtRouteWrite n w) s = .next t ∧
          t.reg (R.ENG_EVT_ROUTE n) = v ∧ t.inEffect (R.ENG_EVT_ROUTE n) = false) ∧
        (ok = false → v.getLsbD 31 = true → exec (.evtRouteWrite n w) s = .next (s.event Ev.EVT_ROUTE_REFUSED (F.ENG_EVT_ROUTE_PART.get v))))

/-- TS_ALLOC and TS_FREE join the queue of their location's bank with RESULT PENDING; while one is pending another is discarded. An
allocation step that runs an ALLOC with no fault of R130 leaves the location allocated to its partition with GEN 0, a zero
payload, a seal that passes the load checks and its cost in USED; RESULT is OK. One that breaks a condition leaves memory as it
was and RESULT shows which. A FREE of a location of a partition that does not run leaves the free seal. A pairing of an outbox and
an inbox that clashes with no other is written and takes effect at the next landing; another is refused. (05_tiles) -/
def Obligations.TileAllocation : Prop :=
  ∀ s : State, s.coreOn = true →
      (∀ (loc : Fin 4096) (link : Fin 64), s.fld R.TS_ALLOC_STAT F.TS_ALLOC_STAT_RESULT ≠ 1 →
        (∃ t : State, exec (.tsAlloc loc link) s = .next t ∧ t.fld R.TS_ALLOC_STAT F.TS_ALLOC_STAT_RESULT = 1 ∧
          t.steps (loc / 64) = s.steps (loc / 64) ++ [.alloc loc link s.allocCtl (s.reg R.TS_ALLOC_ID)]) ∧
        (∃ t : State, exec (.tsFree loc) s = .next t ∧ t.fld R.TS_ALLOC_STAT F.TS_ALLOC_STAT_RESULT = 1 ∧
          t.steps (loc / 64) = s.steps (loc / 64) ++ [.free loc])) ∧
      (∀ (loc : Fin 4096) (link : Fin 64), s.fld R.TS_ALLOC_STAT F.TS_ALLOC_STAT_RESULT = 1 →
        exec (.tsAlloc loc link) s = .next s ∧ exec (.tsFree loc) s = .next s) ∧
      (∀ (b : Fin 64) (loc : Fin 4096) (link : Fin 64) (ctl ident : Word), s.Inv → loc.val / 64 = b → s.stepTick b = true →
        s.repBuf b = none → s.bankQ b = [] →
        (s.steps b = [.alloc loc link ctl ident] →
          (s.allocResult loc link ctl ident = 0 → s.tiles.dirBad = [] → ∃ t : State, exec (.bankStep b) s = .next t ∧
            t.dirValid loc = true ∧ t.dirOwner loc = F.TS_DIR_CTL_OWNER.get ctl ∧ t.dirKind loc = F.TS_DIR_CTL_KIND.get ctl ∧
            t.dirIdent loc = ident.toNat ∧ t.dirGen loc = 0 ∧ t.sealFail loc = none ∧ (∀ i, i < 4064 → t.byte (tileAddr loc + i) = 0) ∧
            t.fld R.TS_ALLOC_STAT F.TS_ALLOC_STAT_RESULT = 0 ∧ t.steps b = [] ∧
            t.fld (R.TS_QUOTA (F.TS_DIR_CTL_OWNER.get ctl)) F.TS_QUOTA_USED = s.fld (R.TS_QUOTA (F.TS_DIR_CTL_OWNER.get ctl)) F.TS_QUOTA_USED +
              tileCost (F.TS_DIR_CTL_KIND.get ctl) (F.TS_DIR_CTL_FLAGS.get ctl)) ∧
          (s.allocResult loc link ctl ident ≠ 0 → ∃ t : State, exec (.bankStep b) s = .next t ∧ t.mem = s.mem ∧ t.dirValid loc = s.dirValid loc ∧
            t.fld R.TS_ALLOC_STAT F.TS_ALLOC_STAT_RESULT = s.allocResult loc link ctl ident)) ∧
        (s.steps b = [.free loc] → s.dirValid loc = true → s.running (s.dirOwner loc) = false → ∃ t : State, exec (.bankStep b) s = .next t ∧
          t.dirValid loc = false ∧ t.bytes (tileAddr loc) 4096 = freeTile ∧ t.fld R.TS_ALLOC_STAT F.TS_ALLOC_STAT_RESULT = 0)) ∧
      (∀ (m : Fin 512) (w : Word),
        let v := w &&& 0x80FFFFFF
        let o := F.TS_MBX_OUT.get v
        let i := F.TS_MBX_IN.get v
        let outOk := s.dirValid o && s.dirKind o == kMAILBOX && s.dirFlag o fOUTBOX
        let clash := (List.range 512).any (fun n => n != m.val && (s.reg (R.TS_MBX n)).getLsbD 31 &&
          (F.TS_MBX_OUT.get (s.reg (R.TS_MBX n)) == o || F.TS_MBX_IN.get (s.reg (R.TS_MBX n)) == i ||
            F.TS_MBX_IN.get (s.reg (R.TS_MBX n)) == s.linkLoc i))
        (v.getLsbD 31 = true → outOk = true → s.isInbox i = true → clash = false → (s.reg (R.TS_MBX m)).getLsbD 31 = false →
          ∃ t : State, exec (.mbxBind m w) s = .next t ∧ t.reg (R.TS_MBX m) = v ∧ t.inEffect (R.TS_MBX m) = false ∧ t.mem = s.mem) ∧
        (v.getLsbD 31 = true → (outOk = false ∨ s.isInbox i = false ∨ clash = true) →
          exec (.mbxBind m w) s = .next (s.event Ev.MBX_BIND_REFUSED 0xFF (R.TS_MBX m))))

/-- In a bank's step a primary under repair whose twin copy passes the checks takes its bytes: it is OK again and REPAIRED counts.
Content delivered for a location waits in its bank's buffer. A source that has not delivered within its bound has failed. In a
tick in which it runs the scrubber moves to the next index, counting a pass at the last, and where every location of the index
passes its check it changes nothing else. (05_tiles) -/
def Obligations.TileRepair : Prop :=
  (∀ (s : State) (b : Fin 64) (loc : Fin 4096), s.Inv → s.coreOn = true → loc.val / 64 = b → s.stepTick b = true → s.repBuf b = none →
      s.bankQ b = [loc.val] → s.dirValid loc = true → s.dirAct loc = true → s.dirFlag loc fPRECIOUS = true → s.dirKind loc = kDATA →
      s.dirState loc = 1 → tgetD s.tiles.failed loc [] = [] → s.dirState (s.linkLoc loc) = 0 → s.sealFail loc ≠ none →
      s.sourceGood loc (s.bytes (tileAddr (s.linkLoc loc)) 4096) = true → s.tiles.waiting = [] →
      ∃ t : State, exec (.bankStep b) s = .next t ∧ t.dirState loc = 0 ∧
        (∀ i, i < 4096 → t.byte (tileAddr loc + i) = s.byte (tileAddr (s.linkLoc loc) + i)) ∧
        t.fld (R.TS_BANK_STAT b) F.TS_BANK_STAT_REPAIRED = min (s.fld (R.TS_BANK_STAT b) F.TS_BANK_STAT_REPAIRED + 1) 255) ∧
    (∀ (s : State) (b : Fin 64) (loc asked : Nat) (tile : List (Nat × Byte)), s.coreOn = true →
      (s.repBuf b = some ⟨loc, .partner, asked, none⟩ → ∃ t : State, exec (.repairSourceDelivered b tile) s = .next t ∧
        t.repBuf b = some ⟨loc, .partner, asked, some (tile.filter (fun e => e.1 < 4096))⟩ ∧ t.srf = s.srf ∧ t.mem = s.mem) ∧
      (s.repBuf b = some ⟨loc, .partner, asked, none⟩ → asked + 8 ≤ s.tick.count →
        exec (.repairSourceTimeout b) s = .next (((s.clearBuf b).failSrc loc .partner).requestNext b)) ∧
      (s.repBuf b = some ⟨loc, .image, asked, none⟩ → asked + 48 ≤ s.tick.count →
        exec (.repairSourceTimeout b) s = .next (((s.clearBuf b).failSrc loc .image).requestNext b)) ∧
      (s.repBuf b = some ⟨loc, .keepRec, asked, none⟩ → asked + 4 ≤ s.tick.count →
        exec (.repairSourceTimeout b) s = .next (((s.clearBuf b).failSrc loc .keepRec).requestNext b))) ∧
    (∀ s : State, s.coreOn = true → (s.tick.running = false ∨ s.tick.abs % 2 = 0) →
      let i := s.fld R.TS_SCRUB_STAT F.TS_SCRUB_STAT_NEXT
      ∃ t : State, exec .scrub s = .next t ∧ t.fld R.TS_SCRUB_STAT F.TS_SCRUB_STAT_NEXT = (i + 1) % 64 ∧
        t.fld R.TS_SCRUB_STAT F.TS_SCRUB_STAT_PASSES = (if i = 63 then min (s.fld R.TS_SCRUB_STAT F.TS_SCRUB_STAT_PASSES + 1) 65535
          else s.fld R.TS_SCRUB_STAT F.TS_SCRUB_STAT_PASSES) ∧
        ((∀ b, b < 64 → s.sealFail (64 * b + i) = none) → t.mem = s.mem ∧ t.err = s.err ∧ ∀ a, a ≠ R.TS_SCRUB_STAT → t.reg a = s.reg a))

/-- A SWAP with none pending sets SWAP_PEND; one with a request pending is refused as SWAP_BUSY and changes nothing else. CANCEL of a
pending request ends it with SWAP_ERR 11. A check that finds nothing sets SWAP_CHECKED with SWAP_ERR 0 and leaves the tables as
they stand where no exchange rides; one that finds a broken condition ends the request, shows it in SWAP_ERR, ERR_TAB and ERR_IDX,
and logs SCHED_REFUSED. A checked swap that is due, with no exchange riding and no change of COUNT, makes the other bank active
and ends the request. A staged exchange whose pages are all READY is STAGED; one not staged within 48,000 ticks is discarded with
RESULT TIMEOUT. (04_tick, 06_engines, 09_online_change) -/
def Obligations.SwapRequests : Prop :=
  ∀ s : State, s.coreOn = true →
      let pend := s.flag R.TICK_STAT F.TICK_STAT_SWAP_PEND
      let checked := s.flag R.TICK_STAT F.TICK_STAT_SWAP_CHECKED
      (pend = false → ∃ t : State, exec .swap s = .next t ∧ t.flag R.TICK_STAT F.TICK_STAT_SWAP_PEND = true ∧
        t.flag R.TICK_STAT F.TICK_STAT_SWAP_CHECKED = false ∧ t.tick.swapAsked = s.tick.count ∧ t.bankB = s.bankB) ∧
      (pend = true → exec .swap s = .next (s.event Ev.SWAP_BUSY)) ∧
      (pend = true → ∃ t : State, exec .cancel s = .next t ∧ t.flag R.TICK_STAT F.TICK_STAT_SWAP_PEND = false ∧
        t.fld R.TICK_STAT F.TICK_STAT_SWAP_ERR = 11 ∧ t.bankB = s.bankB) ∧
      (pend = false → exec .cancel s = .next s) ∧
      (pend = true → checked = false → (s.tick.running = false ∨ s.tick.swapAsked < s.tick.count) →
        let r := (s.rewrite (!s.bankB)).checkBank s
        ∃ t : State, exec .swapCheck s = .next t ∧ t.bankB = s.bankB ∧
          (r = none → t.flag R.TICK_STAT F.TICK_STAT_SWAP_CHECKED = true ∧ t.fld R.TICK_STAT F.TICK_STAT_SWAP_ERR = 0 ∧
            t.flag R.TICK_STAT F.TICK_STAT_SWAP_PEND = true) ∧
          (∀ e tab idx g, r = some (e, tab, idx, g) → e < 16 → tab < 2 → idx < 2048 →
            t.flag R.TICK_STAT F.TICK_STAT_SWAP_PEND = false ∧ t.fld R.TICK_STAT F.TICK_STAT_SWAP_ERR = e ∧
            t.fld R.TICK_STAT F.TICK_STAT_ERR_TAB = tab ∧ t.fld R.TICK_STAT F.TICK_STAT_ERR_IDX = idx)) ∧
      (s.swapDue (if s.tick.launched || !s.tick.running then s.tick.stepTo.getD (s.tick.abs + 1) else s.tick.abs) = true →
        s.inXstate xsRIDING = [] → s.tick.swapSpares = s.eng.count → s.tick.swapMulti = false → s.tick.swapAuth = false →
        ∃ t : State, exec .swapActivate s = .next t ∧ t.bankB = !s.bankB ∧ t.flag R.TICK_STAT F.TICK_STAT_SWAP_PEND = false ∧ t.mem = s.mem ∧
          ∀ a, a ≠ R.TICK_STAT → t.reg a = s.reg a) ∧
      (∀ (p : Fin 128) (x : Xchg), (s.part p).xchg = some x → s.xstate p = xsSTAGING →
        ((∀ e ∈ x.pages, e.2.2 = true) → ∃ t : State, exec (.xchgStaged p) s = .next t ∧ t.xstate p = xsSTAGED) ∧
        (x.since + 48000 ≤ s.tick.count → (∀ e ∈ x.pages, e.1 < 1024) → ∃ t : State, exec (.xchgTimeout p) s = .next t ∧ t.xstate p = xsNONE ∧
          t.fld (R.ENG_XCHG_STAT p) F.ENG_XCHG_STAT_RESULT = 10 ∧ (t.part p).xchg = none))

/-- A landing while ticks run begins the next tick (the tick number grows by one, or is the one a step gave; no launch has run) and
then takes snapshot, links, distribution, ferry and release in this order; before the grid runs it does nothing. A launch not yet
run in the tick makes its power steps, the commit, the release, the publish phase and the tick's end in this order; a second one
in the tick does nothing. At the end of a launch what partitions keep for one tick is cleared. A stretched tick whose step is due
takes the tick number that the step gives. (04_tick, 08_cyclic, 25_startup) -/
def Obligations.LandingAndLaunch : Prop :=
  ∀ s : State, s.coreOn = true →
      (∀ i : LandIn, s.tick.running = true → exec (.landing i) s = .next
        (((((s.landSnapshot i).landLinks i).landDistribute).ferry (s.parts.map (fun e => (e.1, e.2.errq.recs.length)))).landRelease)) ∧
      (∀ i : LandIn, s.tick.running = false → exec (.landing i) s = .next s) ∧
      s.tickBegin.tick.abs = s.tick.stepTo.getD (s.tick.abs + 1) ∧ s.tickBegin.tick.count = s.tick.count + 1 ∧
      s.tickBegin.tick.launched = false ∧ s.tickBegin.tick.stepTo = none ∧
      (s.tick.running = true → s.tick.launched = false →
        exec .launch s = .next s.launchPower.launchCommit.launchRelease.launchPublish.launchEnd) ∧
      (s.tick.running = true → s.tick.launched = true → exec .launch s = .next s) ∧
      s.launchEnd.tick.launched = true ∧
      (∀ x : PartSt, x.tickEnd.stopReq = none ∧ x.tickEnd.endReq = false ∧ x.tickEnd.barred = false ∧ x.tickEnd.ended = false ∧
        x.tickEnd.endedNow = []) ∧
      (∀ (ns : Int) (k : Nat), s.time.step = some (ns, k) → s.tick.running = true → k ≤ s.tick.abs → s.tick.stepTo = none →
        ∃ t : State, exec .stretchedTick s = .next t ∧ t.tick.stepTo = some (stretchedTo s.tick.abs (sval (s.reg R.TIME_RATE)) ns) ∧ t.time.step = none)

/-- At the commit the watchdog count of a RUNNING partition is cleared where a task has ended in the tick and grows by one otherwise;
at its LIMIT, where that is not 0, a watchdog stop is asked for. A RUNNING unreleased partition that is not twinned is released
where every cyclic and safety task entry of PERIOD at most 4800 has ended, unless transmission has stopped. A partition that END
was asked for is ZEROISING; a stop leaves it STOPPED. (06_engines, 08_cyclic, 09_online_change) -/
def Obligations.CommitRules : Prop :=
  ∀ (s : State) (p : Nat), p < 128 →
      let n := s.watchdog p
      (s.running p = true →
        n.fld (R.ENG_WD p) F.ENG_WD_COUNT =
          (if (s.part p).ended then 0 else min (s.fld (R.ENG_WD p) F.ENG_WD_COUNT + 1) 65535) ∧
        (s.fld (R.ENG_WD p) F.ENG_WD_LIMIT ≠ 0 → s.fld (R.ENG_WD p) F.ENG_WD_LIMIT ≤ n.fld (R.ENG_WD p) F.ENG_WD_COUNT →
          (s.part p).stopReq = none → (n.part p).stopReq = some .watchdog)) ∧
      (s.running p = false → s.watchdog p = s) ∧
      (s.running p = true → (s.part p).released = false → s.txStopped = false → s.scanned p = true → s.twinned p = false →
        s.releasePart p = s.modPart p (fun x => { x with released := true, served := true })) ∧
      (s.scanned p = false → s.releasePart p = s) ∧
      ((s.part p).endReq = true → s.pstate p = psIdle → (s.stopPart p).pstate p = psZeroising ∧ p ∈ (s.stopPart p).boot.zero) ∧
      ((s.part p).endReq = false → (s.part p).stopReq = none → s.stopPart p = s) ∧
      ((s.part p).endReq = false → (s.part p).stopReq = some .command → (s.part p).hdrs = [] →
        (s.stopPart p).pstate p = psStopped ∧ (s.stopPart p).fld (R.ENG_PART_STAT p) F.ENG_PART_STAT_CAUSE = 1)

/-- A dip of a module in service goes to RIDE: DIP is 1, HOLD_OK is 0, DIPS has counted and PF_DIP is logged; V24_IN above its cut-off
is such a dip. Recovery in RIDE returns to NORMAL. COMMIT, due 160 ticks after the dip or when the bus falls low, takes every
safety output off and ends transmission. PF_DOWN after COMMIT, or while frozen, takes the clocks away with cause POWER_FAIL or
FREEZE_EXIT: the lamps, tasks and tiles are lost, every safety output is off and the RTC stands. When the supply is good again
HOLD_OK is 1; after a loss that emptied the bus the cause is POWER and ERR_LAST_FRZ is cleared. (03_electrical, 25_startup) -/
def Obligations.PowerFail : Prop :=
  ∀ s : State,
      (s.coreOn = true → s.pfState = 0 → s.boot.released = true → s.exState = exSERVING → s.parts.any (fun e => e.2.served) = true →
        ∀ c ∈ ([.pfDip, .v24Ov] : List Instr), ∃ t : State, exec c s = .next t ∧ t.pfState = 1 ∧ t.flag R.ID_PWR_STAT F.ID_PWR_STAT_DIP = true ∧
          t.flag R.ID_PWR_STAT F.ID_PWR_STAT_HOLD_OK = false ∧
          t.fld R.ID_PWR_STAT F.ID_PWR_STAT_DIPS = min (s.fld R.ID_PWR_STAT F.ID_PWR_STAT_DIPS + 1) 65535 ∧
          t.boot.dipAt = s.tick.count ∧ (∀ p, p < 128 → t.pstate p = s.pstate p)) ∧
      (s.coreOn = true → s.pfState = 1 → ∃ t : State, exec .dipRecovered s = .next t ∧ t.pfState = 0 ∧
        t.flag R.ID_PWR_STAT F.ID_PWR_STAT_DIP = false) ∧
      (s.coreOn = true → s.pfState = 1 → ∀ low : Bool, low = true ∨ s.boot.dipAt + 160 ≤ s.tick.count →
        ∃ t : State, exec (.pfCommit low) s = .next t ∧ t.outputsOff ∧
          (s.keep.writes = [] → s.keep.rings = [] → t.pfState = 2 ∧ t.txStopped = true)) ∧
      (s.coreOn = true → s.pfState = 1 → s.exState = exSERVING → s.tick.count < s.boot.dipAt + 160 → exec (.pfCommit false) s = .next s) ∧
      (s.boot.down = false → (2 ≤ s.pfState ∨ s.err.frozen = true) → ∃ t : State, exec .pfDown s = .next t ∧ t.boot.down = true ∧ t.outputsOff ∧
        t.lamps = [] ∧ t.parts = [] ∧ t.mem = [] ∧ t.err.glob = [] ∧ t.rtc = s.rtc ∧ t.reg R.RTC_TIME = s.reg R.RTC_TIME ∧
        t.fld R.ID_RESET F.ID_RESET_CAUSE = if s.err.frozen then 4 else 2) ∧
      (∀ emptied : Bool, ∃ t : State, exec (.holdOkReached emptied) s = .next t ∧ t.boot.down = false ∧
        t.flag R.ID_PWR_STAT F.ID_PWR_STAT_HOLD_OK = true ∧ t.flag R.ID_PWR_STAT F.ID_PWR_STAT_HOLD_LOW = false ∧
        (emptied = true → s.boot.released = false → t.fld R.ID_RESET F.ID_RESET_CAUSE = 1 ∧ t.reg R.ERR_LAST_FRZ = 0))

/-- A transceiver put into a cage is permitted where it is fibre, takes at most 1.0 W and speaks 10GBASE-R, or 1000BASE-X in a lower
cage; in LINKS or later a permitted one has its transmitter enabled while the module sends, and one that is not permitted has it
disabled. A removed one leaves the cage empty. A seat held for its debounce is shown; a module not seated in time blinks; straps
that change after reset release set CHANGED and are logged once. VFLD_IN and VSO_IN connect where nothing has taken the outputs
off, and leave with their flag, their event and their outputs off. (02_connectors, 03_electrical) -/
def Obligations.ConnectorsAndSupplies : Prop :=
  (∀ (s : State) (c : Fin 8) (x : Xcvr), s.coreOn = true →
      let ok := x.fibre && decide (x.mW ≤ 1000) && (x.tenG || (decide (c.val < 4) && x.oneG))
      (∃ t : State, exec (.cageModulePresent c x) s = .next t ∧ tget t.boot.cages c = some ok ∧ (ok = false → c.val ∉ t.pins.cageTx) ∧
        (ok = true → 8 ≤ s.phase → s.phase ≤ 12 → s.txStopped = false → c.val ∈ t.pins.cageTx)) ∧
      (∃ t : State, exec (.transceiverRemoved c) s = .next t ∧ tget t.boot.cages c = none ∧ c.val ∉ t.pins.cageTx ∧
        t.flag (R.SW_PSTAT c) F.SW_PSTAT_LINK = false)) ∧
    (∀ (s : State) (up : Bool), exec (.probeVrefChange up) s = .next { s with boot := { s.boot with vref := up } } ∧
      (∃ t : State, exec .seatDebounceDone s = .next t ∧ t.flag R.ID_STRAP F.ID_STRAP_SEAT = true ∧ t.boot.notSeated = false) ∧
      (s.flag R.ID_STRAP F.ID_STRAP_SEAT = false → exec .notSeatedTimeout s = .next { s with boot := { s.boot with notSeated := true } }) ∧
      (s.coreOn = true → s.boot.released = true → ∃ t : State, exec .strapChanged s = .next t ∧ t.flag R.ID_STRAP F.ID_STRAP_CHANGED = true ∧
        t.boot.strapTold = true)) ∧
    (∀ s : State, s.coreOn = true →
      (s.supplies = true → (∃ t : State, exec .vfldConnect s = .next t ∧ t.boot.vfld = true ∧ t.flag R.ID_PWR_STAT F.ID_PWR_STAT_VFLD_LOW = false) ∧
        (∃ t : State, exec .vsoConnect s = .next t ∧ t.boot.vso = true ∧ t.flag R.ID_PWR_STAT F.ID_PWR_STAT_VSO_LOW = false ∧
          t.flag R.SAFE_STAT F.SAFE_STAT_VSO_LOST = false)) ∧
      (∃ t : State, exec .vfldLow s = .next t ∧ t.boot.vfld = false ∧ t.flag R.ID_PWR_STAT F.ID_PWR_STAT_VFLD_LOW = true ∧ ∀ n, n < 32 → t.pseState n = pwOFF) ∧
      (∃ t : State, exec .vfldOv s = .next t ∧ t.boot.vfld = false ∧ t.flag R.ID_PWR_STAT F.ID_PWR_STAT_VFLD_OV = true ∧ ∀ n, n < 32 → t.pseState n = pwOFF) ∧
      (∃ t : State, exec .vsoLow s = .next t ∧ t.boot.vso = false ∧ t.flag R.ID_PWR_STAT F.ID_PWR_STAT_VSO_LOW = true ∧
        t.flag R.SAFE_STAT F.SAFE_STAT_VSO_LOST = true ∧ t.pins.sq = []) ∧
      (∃ t : State, exec .vsoOv s = .next t ∧ t.boot.vso = false ∧ t.flag R.ID_PWR_STAT F.ID_PWR_STAT_VSO_OV = true ∧ t.pins.sq = []))

/-- Once the module is released, EXTRACT_REQ_N asserted while SERVING or REFUSED is a request of source 1 with its ticks from 0, and
one asserted in another state changes nothing but the strap bit. Its release changes that bit alone. Consent in HANDOVER makes the
module safe: SAFING, nothing sent any more. A refusal, or no answer by 480 ticks, leaves REFUSED with its cause and the fast
blink, which ends 4800 ticks later. From SAFING the module is READY with every safety output off. A withdrawal outside READY takes
the safety outputs off at once. (02_connectors, 18_twins) -/
def Obligations.Extraction : Prop :=
  ∀ s : State,
      (s.coreOn = true → s.boot.released = true → s.tick.running = true →
        ((s.exState = exSERVING ∨ s.exState = exREFUSED) → ∃ t : State, exec .extractReqAsserted s = .next t ∧ t.exState = exREQUESTED ∧
          t.fld R.ID_EXTRACT F.ID_EXTRACT_SOURCE = 1 ∧ t.boot.exAt = s.tick.count ∧ t.flag R.ID_STRAP F.ID_STRAP_EXTRACT_REQ = true) ∧
        (¬ (s.exState = exSERVING ∨ s.exState = exREFUSED) →
          exec .extractReqAsserted s = .next (s.setFlag R.ID_STRAP F.ID_STRAP_EXTRACT_REQ true))) ∧
      (s.coreOn = true → s.boot.released = false → exec .extractReqAsserted s = .next s) ∧
      (s.coreOn = true → exec .extractReqReleased s = .next (s.setFlag R.ID_STRAP F.ID_STRAP_EXTRACT_REQ false)) ∧
      (s.coreOn = true → s.exState = exHANDOVER →
        (s.keep.writes = [] → s.keep.rings = [] → s.parts = [] → ∃ t : State, exec .extractConsent s = .next t ∧ t.exState = exSAFING ∧
          t.txStopped = true) ∧
        (∀ b : Bool, ∃ t : State, exec (.extractRefused b) s = .next t ∧ t.exState = exREFUSED ∧
          t.fld R.ID_EXTRACT F.ID_EXTRACT_REFUSE_CAUSE = (if b then 3 else 1) ∧ t.boot.exBlink = true ∧ t.txStopped = s.txStopped) ∧
        (s.boot.exAt + 480 ≤ s.tick.count → ∃ t : State, exec .extractConsentTimeout s = .next t ∧ t.exState = exREFUSED ∧
          t.fld R.ID_EXTRACT F.ID_EXTRACT_REFUSE_CAUSE = 2) ∧
        (s.tick.count < s.boot.exAt + 480 → exec .extractConsentTimeout s = .next s)) ∧
      (s.coreOn = true → s.exState = exSAFING → ∃ t : State, exec .extractReady s = .next t ∧ t.exState = exREADY ∧ t.pins.sq = [] ∧
        t.pins.cageTx = [] ∧ t.pins.pse = []) ∧
      (s.coreOn = true → s.boot.exBlink = true → s.boot.exRefused + 4800 ≤ s.tick.count →
        exec .extractRefusedLedEnd s = .next { s with boot := { s.boot with exBlink := false } }) ∧
      (s.boot.down = false → s.exState ≠ exREADY → s.exState ≠ exUNPLANNED → ∃ t : State, exec .extractUnplanned s = .next t ∧ t.outputsOff ∧
        t.flag R.ID_STRAP F.ID_STRAP_SEAT = false ∧ (s.err.frozen = false → t.exState = exUNPLANNED ∧ t.txStopped = true))

/-- A released reset with good supply and a seated module counts a start and takes the straps; a BLANK module waits in ROM, a
DECOMMISSIONED one is HELD, an active sensor halts the boot. A lost PLL resets with cause CLK_LOSS, a boot timeout with
BOOT_TIMEOUT (BOOT_FAIL at the third in a row), a life-cycle transition with LC_TRANSITION and its new state: each clears lamps,
partitions and tiles with every safety output off. A tick pulse that fails is a global fault of SAFE. A start tick counts. A
module with no hawser link after 4800 of them runs standalone. The configuration record takes the configuration as it stands. A
BLANK module at the factory takes its serial number and addresses. (04_tick, 19_security, 25_startup) -/
def Obligations.StartUpAndResets : Prop :=
  ∀ s : State, s.coreOn = true →
      (∀ i : StartIn, s.boot.released = false → s.phase < 13 → s.flag R.ID_PWR_STAT F.ID_PWR_STAT_HOLD_OK = true →
        s.flag R.ID_PWR_STAT F.ID_PWR_STAT_DIP = false → s.flag R.ID_STRAP F.ID_STRAP_SEAT = true →
        (i.sensors = 0 → s.lcState = 0 → i.s1 = i.s2 → i.s2 = i.s3 → ∃ t : State, exec (.resetRelease i) s = .next t ∧ t.boot.released = true ∧
          t.phase = 2 ∧ t.fld R.ID_STRAP F.ID_STRAP_SLOT_ID = i.s1.toNat % 64 ∧
          t.fld R.ID_RESET F.ID_RESET_STARTS = min (s.fld R.ID_RESET F.ID_RESET_STARTS + 1) 65535) ∧
        (i.sensors = 0 → s.lcState = 4 → ∃ t : State, exec (.resetRelease i) s = .next t ∧ t.boot.released = true ∧ t.phase = 13) ∧
        (i.sensors ≠ 0 → ∃ t : State, exec (.resetRelease i) s = .next t ∧ t.phase = 14 ∧ t.flag R.VAULT_STAT F.VAULT_STAT_HALT = true)) ∧
      (∃ t : State, exec .pllLockLoss s = .next t ∧ t.fld R.ID_RESET F.ID_RESET_CAUSE = 3 ∧ t.outputsOff ∧ t.lamps = [] ∧ t.parts = [] ∧
        t.mem = [] ∧ t.boot.released = false ∧ t.rtc = s.rtc) ∧
      (s.phase < 7 → s.flag R.ID_PWR_STAT F.ID_PWR_STAT_HOLD_OK = true → s.lcState ≠ 0 → s.fld R.ID_BOOT F.ID_BOOT_TIMEOUTS < 3 →
        ∃ t : State, exec .bootTimeout s = .next t ∧ t.fld R.ID_RESET F.ID_RESET_CAUSE = 6 ∧
          t.fld R.ID_BOOT F.ID_BOOT_TIMEOUTS = s.fld R.ID_BOOT F.ID_BOOT_TIMEOUTS + 1 ∧
          t.phase = if s.fld R.ID_BOOT F.ID_BOOT_TIMEOUTS = 2 then 15 else 1) ∧
      (∀ n, n < 5 → s.boot.lcTo = some n → ∃ t : State, exec .lcTransition s = .next t ∧ t.lcState = n ∧ t.fld R.ID_RESET F.ID_RESET_CAUSE = 5 ∧
        t.outputsOff ∧ t.mem = [] ∧ t.boot.lcTo = none ∧ (s.lcState = 2 ∨ s.lcState = 3 → t.boot.images = [] ∧ t.keep.pages = [])) ∧
      (s.safe.act.isSome = true → s.safeCause = 0 → ∃ t : State, exec .clkTick s = .next t ∧ t.fld R.SAFE_STAT F.SAFE_STAT_CAUSE = gfCLK_TICK ∧
        t.pins.sq = []) ∧
      (s.tick.running = false → s.boot.released = true → ∃ t : State, exec .startTick s = .next t ∧ t.tick.count = s.tick.count + 1) ∧
      (s.boot.released = true → s.phase = 8 → s.haw.upAt = none → 4800 ≤ s.tick.count →
        exec .standaloneStart s = .next { s with boot := { s.boot with standalone := true } }) ∧
      (s.boot.released = true → s.phase = 12 → s.pfState = 0 → s.boot.lcTo = none →
        exec .configRecordWrite s = .next { s with boot := { s.boot with cfg := some s.cfgNow } }) ∧
      (∀ (serial : BitVec 64) (mac : BitVec 48) (cert keys : List Byte), s.lcState = 0 → s.boot.vref = true → s.boot.lcTo = none →
        ∃ t : State, exec (.provision serial mac cert keys) s = .next t ∧ t.boot.serial = serial ∧ t.macBase = mac.toNat ∧ t.boot.cert = cert ∧
          t.boot.lcTo = some 1)

/-- A capture reads the TAI second and a nanosecond within the present tick. The first offset in ACQUIRE starts the tick grid at the
source's time with the estimated rate clamped to 100 ppm, in LOCKING; with none in time the grid starts from the RTC in state RTC
with rate 0. An offset of the source in use is shown in OFFSET with the rate it gives, within 100 ppm; the sixteenth good one in
LOCKING locks, the fourth bad one in LOCKED unlocks, and one over 1 ms is logged. A lost source in LOCKING or LOCKED is HOLDOVER
at the rate held. A pending leap changes the offset by its second and is cleared. A restep is accepted with a fresh offset and
refused with cause 1 or 2 otherwise. A request of a PTP port takes the next sequence number. (13_time) -/
def Obligations.NetworkTime : Prop :=
  ∀ s : State, s.coreOn = true →
      let o := s.fld R.TIME_UTC F.TIME_UTC_OFFSET
      (∃ t : State, exec .timeCtrlCapture s = .next t ∧ t.reg R.TIME_SEC_LO = w32 s.taiSec ∧
        s.tickNo * 1000000000 / 4800 ≤ (t.reg R.TIME_NS).toNat ∧ (t.reg R.TIME_NS).toNat < (s.tickNo + 1) * 1000000000 / 4800) ∧
      (∀ (n : Nat) (f : Int), s.timeState = tsACQUIRE → s.tick.running = false → s.phase < 13 → s.txStopped = false →
        ∃ t : State, exec (.timeAcquired n f) s = .next t ∧ t.timeState = tsLOCKING ∧ t.tick.running = true ∧
          t.tick.abs = n * 4800 / 1000000000 ∧ sval (t.reg R.TIME_RATE) = max (-100000000) (min f 100000000)) ∧
      (s.timeState = tsACQUIRE → s.tick.running = false → s.phase < 13 → s.txStopped = false → (∀ e ∈ s.sv, e.1 < 32) → ∃ t : State, exec .acquireTimeout s = .next t ∧
        t.timeState = tsRTC ∧ t.tick.running = true ∧ t.reg R.TIME_RATE = 0 ∧ t.flag R.SV_STAT F.SV_STAT_NOSYNC = true) ∧
      (∀ (m : Int) (at' : Nat), s.timeState = tsLOCKING ∨ s.timeState = tsLOCKED → -1000000 ≤ m → m ≤ 1000000 →
        ∃ t : State, exec (.offsetMeasurement s.beaconSource m at') s = .next t ∧ sval (t.reg R.TIME_OFFSET) = m ∧
          -100000000 ≤ sval (t.reg R.TIME_RATE) ∧ sval (t.reg R.TIME_RATE) ≤ 100000000 ∧
          (s.timeState = tsLOCKING → -1000 ≤ m → m ≤ 1000 → 15 ≤ s.time.good → t.timeState = tsLOCKED) ∧
          (s.timeState = tsLOCKED → 10000 < m → 3 ≤ s.time.bad → t.timeState = tsLOCKING) ∧
          (s.timeState = tsLOCKED → -10000 ≤ m → m ≤ 10000 → t.timeState = tsLOCKED)) ∧
      ((s.timeState = tsLOCKING ∨ s.timeState = tsLOCKED) → ∃ t : State, exec .timeLoss s = .next t ∧ t.timeState = tsHOLDOVER ∧
        t.reg R.TIME_HOLD = 0 ∧ t.reg R.TIME_RATE = s.reg R.TIME_RATE) ∧
      ((s.flag R.TIME_UTC F.TIME_UTC_LEAP61 = true → ∃ t : State, exec .leapSecond s = .next t ∧
          t.fld R.TIME_UTC F.TIME_UTC_OFFSET = (o + 1) % 65536 ∧ t.flag R.TIME_UTC F.TIME_UTC_LEAP61 = false) ∧
        (s.flag R.TIME_UTC F.TIME_UTC_LEAP61 = false → s.flag R.TIME_UTC F.TIME_UTC_LEAP59 = true → ∃ t : State, exec .leapSecond s = .next t ∧
          t.fld R.TIME_UTC F.TIME_UTC_OFFSET = (o + 65535) % 65536 ∧ t.flag R.TIME_UTC F.TIME_UTC_LEAP59 = false)) ∧
      (s.flag R.TIME_STAT F.TIME_STAT_RESTEP_PEND = false → ∀ k, s.time.lastOfs = some k → s.tick.count ≤ k + 4800 → s.timeState = tsLOCKED →
        ∃ t : State, exec .timeCtrlRestep s = .next t ∧ t.flag R.TIME_STAT F.TIME_STAT_RESTEP_PEND = true ∧
          t.time.step = some (s.time.m, s.tick.abs + 1)) ∧
      (s.flag R.TIME_STAT F.TIME_STAT_RESTEP_PEND = true → ∃ t : State, exec .timeCtrlRestep s = .next t ∧
        t.fld R.TIME_STAT F.TIME_STAT_RESTEP_ERR = 2 ∧ t.time.step = s.time.step) ∧
      (∀ p : Fin 4, (s.fld (R.TIME_PORT p) F.TIME_PORT_MODE = 1 → ∃ t : State, exec (.peerDelayRequest p) s = .next t ∧
          (t.ptpPort p).reqSeq = ((s.ptpPort p).reqSeq + 1) % 65536 ∧ (t.ptpPort p).t1 = none) ∧
        (s.fld (R.TIME_PORT p) F.TIME_PORT_PSTATE = 2 → s.mastersSend = true → ∃ t : State, exec (.ptpMasterSend p) s = .next t ∧
          (t.ptpPort p).seq = ((s.ptpPort p).seq + 1) % 65536))

/-- A write of partition 0 to a register it may write, which has no behaviour of its own, gives every RW bit the word's value, clears
every W1C bit written 1 and leaves every other bit and every other register; an access it may not make changes nothing. A
permitted read clears the RC fields. SYSRD and SYSWR are such accesses of a task of partition 0; one that gets ERR leaves its
record, with gx = 0 for a read, and of a task of another partition they raise PRIV. Partition 0 writes neither SAFE nor ID; an
address that is not word-aligned or names no register is never accessible. (01_architecture, 07_mitrane) -/
def Obligations.RegisterAccess : Prop :=
  ∀ s : State,
      (∀ (a : Nat) (w : Word) (r : RegRow), findReg a = some r →
        (∀ b, b ≠ a → (s.plainWrite a w).reg b = s.reg b) ∧
        ∀ i, i < 32 → ((s.plainWrite a w).reg a).getLsbD i =
          ((if r.rw.testBit i then w.getLsbD i else (s.reg a).getLsbD i) && !(w.getLsbD i && r.w1c.testBit i))) ∧
      (∀ a : Nat, (a % 4 ≠ 0 ∨ findReg a = none ∨ a / 0x10000 = 7 ∨ a / 0x10000 = 17) → s.srfOk .part0 a true = false) ∧
      (s.coreOn = true → ∀ (a : BitVec 32) (w : Word),
        (s.srfOk .part0 a.toNat true = false → exec (.registerWrite a w) s = .next s) ∧
        (a.toNat = R.TS_ALLOC_ATTR ∨ a.toNat = R.TS_ALLOC_ID ∨ a.toNat = R.TICK_SWAP_AT → s.srfOk .part0 a.toNat true = true →
          exec (.registerWrite a w) s = .next (s.plainWrite a.toNat w)) ∧
        (∀ r, findReg a.toNat = some r → s.srfOk .part0 a.toNat false = true → ∃ t : State, exec (.readClear a) s = .next t ∧
          t.reg a.toNat = s.reg a.toNat &&& ~~~ w32 r.rc ∧ ∀ b, b ≠ a.toNat → t.reg b = s.reg b) ∧
        (s.srfOk .part0 a.toNat false = false → exec (.readClear a) s = .next s)) ∧
      (s.coreOn = true → ∀ (l : Fin 64) (q : PQ) (gx ra : Fin 32) (x : TaskCtx), (s.lamp l).task = some x → x.safety = false →
        (s.lamp l).pend = none → s.takes l q = true →
        let a := (s.g l ra).toNat
        (x.part = 0 →
          (s.srfOk .part0 a false = true → exec (.sysrd l q gx ra) s = .next (((s.readEffect a).setG l gx (s.srfValue a)).advance l 1)) ∧
          (s.srfOk .part0 a false = false → exec (.sysrd l q gx ra) s =
            .next (((s.srfErr .part0 a false l x.handler).setG l gx 0).advance l 1)) ∧
          (s.srfOk .part0 a true = true → exec (.syswr l q gx ra) s = .next ((s.srfStore .part0 a (s.g l gx)).advance l 1)) ∧
          (s.srfOk .part0 a true = false → exec (.syswr l q gx ra) s = .next ((s.srfErr .part0 a true l x.handler).advance l 1))) ∧
        (x.part ≠ 0 → ∀ c ∈ ([.sysrd l q gx ra, .syswr l q gx ra] : List Instr), ∃ word,
          exec c s = .next ((s.kill l cPRIV word (s.lamp l).pc).advance l 1)))

/-- Of a loop slot allotted to its partition LOOPRD reads the field as it stood at the landing and LOOPWR stages its write for the
commit; of another slot each raises OWN, LOOPRD with 0. A staged write that breaks its word's rule leaves the word and sets the
write-reject bit of STATUS. An uncorrectable fault of a loaded slot's state memory counts and puts the slot in FAULT. A slot that
is not due computes nothing. A computation on a sample on hold leaves CV and shows HOLD; one that runs alone publishes the PV it
used, the CV its limits gave, clears CMD and stamps the tick. (10_loops, 07_mitrane) -/
def Obligations.LoopSlots : Prop :=
  ∀ s : State, s.coreOn = true →
      (∀ (l : Fin 64) (q : PQ) (rd ra rb : Fin 32) (fn : BitVec 7) (x : TaskCtx), (s.lamp l).task = some x → x.safety = false →
        (s.lamp l).pend = none → s.takes l q = true →
        let j := (s.g l ra).toNat
        (s.ownsLoop j x.part = true →
          exec (.looprd l q rd ra fn) s = .next ((s.setG l rd ((s.clus j).shown.getD fn.toNat 0)).advance l 1) ∧
          exec (.loopwr l q ra rb fn) s = .next ((s.modPart x.part (fun y => { y with loopw := y.loopw ++ [(j, fn.toNat, s.g l rb)] })).advance l 1)) ∧
        (s.ownsLoop j x.part = false → ∃ w1 w2,
          exec (.looprd l q rd ra fn) s = .next (((s.raise l cOWN w1 0 0 (s.lamp l).pc).setG l rd 0).advance l 1) ∧
          exec (.loopwr l q ra rb fn) s = .next ((s.raise l cOWN w2 0 0 (s.lamp l).pc).advance l 1))) ∧
      (∀ (j n : Nat) (v : Word), (s.clus j).words.length = 64 → n < 64 →
        let b := ((s.clus j).words.getD 8 0).getLsbD 4
        (loopwrOk b n v = true → ((s.loopwr j n v).clus j).words.getD n 0 = v) ∧
        (loopwrOk b n v = false → (((s.loopwr j n v).clus j).words.getD 8 0).getLsbD 16 = true ∧
          (n ≠ 8 → ((s.loopwr j n v).clus j).words.getD n 0 = (s.clus j).words.getD n 0))) ∧
      (∀ j : Fin 256,
        (s.cluState j = 2 → ∃ t : State, exec (.cluStateFault j) s = .next t ∧ t.cluState j = 4 ∧
          t.fld R.CLU_STAT F.CLU_STAT_UNCORR = min (s.fld R.CLU_STAT F.CLU_STAT_UNCORR + 1) 255) ∧
        (s.cluState j ≠ 2 → exec (.cluStateFault j) s = .next s ∧ exec (.cluCompute j) s = .next s) ∧
        (s.tick.abs % s.cluBits j 21 0 16 ≠ s.cluBits j 21 16 16 → exec (.cluCompute j) s = .next s) ∧
        (s.cluState j = 2 → s.cluBits j 21 0 16 ≠ 0 → s.tick.abs % s.cluBits j 21 0 16 = s.cluBits j 21 16 16 →
          (s.clus j).words.length = 64 → ∃ t : State, exec (.cluCompute j) s = .next t ∧
            (s.cluFront j = none → t.cluWord j 13 = s.cluWord j 13 ∧ (t.cluWord j 8).getLsbD 11 = true ∧ t.cluWord j 20 = s.absLo ∧
              (t.clus j).dirty = true) ∧
            (∀ c, s.cluFront j = some c → s.paired j = false → t.cluWord j 12 = c.pv ∧ t.cluWord j 1 = 0 ∧ t.cluWord j 20 = s.absLo ∧
              t.cluWord j 13 = (limitStep c.words c.set (sampleTime (s.cluBits j 21 0 16)) (s.cluWord j 13) ((s.cluWord j 8).getLsbD 5)
                c.handover c.i c.di c.uTry).cv ∧ (t.clus j).dirty = true)))

/-- A dataset that is SENDING and whose interval has expired is evaluated once for its tick's launch: with no capture in the tick it
goes out again with sqNum one higher and the interval of the next index, a power of two up to the heartbeat; with a captured
change stNum is one higher and sqNum 0; where its partition does not go on running it is SILENT. Both numbers go from
4,294,967,295 to 1. (11_protection) -/
def Obligations.TripDatasets : Prop :=
  ∀ (s : State) (j : Fin 64), s.coreOn = true → s.tripState j = tdSENDING → (s.tripSt j).left ≤ 1 → (s.tripSt j).done = false →
      let p := s.fld (R.SV_TRIP_CFG j) F.SV_TRIP_CFG_PART
      let hb := leAt (s.tripSt j).template 16 4
      let up (n : Nat) : Nat := if n = 4294967295 then 1 else n + 1
      let goes := s.running p = true ∧ (s.part p).stopReq = none ∧ (s.part p).endReq = false
      (goes → tget (s.part p).trips j = none → ∃ t : State, exec (.tripRepeatDue j) s = .next t ∧
        (t.reg (R.SV_TRIP_SQ j)).toNat = up (s.reg (R.SV_TRIP_SQ j)).toNat ∧ t.reg (R.SV_TRIP_ST j) = s.reg (R.SV_TRIP_ST j) ∧
        (t.tripSt j).idx = (s.tripSt j).idx + 1 ∧ (t.tripSt j).left = min (2 ^ (min ((s.tripSt j).idx + 1) 20)) hb ∧ (t.tripSt j).done = true) ∧
      (goes → ∀ d, tget (s.part p).trips j = some d → d ≠ (s.tripSt j).lastSent → ∃ t : State, exec (.tripRepeatDue j) s = .next t ∧
        (t.reg (R.SV_TRIP_ST j)).toNat = up (s.reg (R.SV_TRIP_ST j)).toNat ∧ t.reg (R.SV_TRIP_SQ j) = 0 ∧ (t.tripSt j).idx = 0 ∧
        (t.tripSt j).lastSent = d) ∧
      (¬ goes → ∃ t : State, exec (.tripRepeatDue j) s = .next t ∧ t.tripState j = tdSILENT ∧ t.out = s.out ∧ t.sw = s.sw)

/-- For ranges in a window that is not POISON: FSEND to a queue of the partition with room in its cells stages the frame for the
launch, or keeps it open where more follows, and answers status 0 with the length; to a handle that is not the partition's it
answers status 3. FRECV of a frame that fits writes its 16-byte receive header and its bytes, takes it from the ring and answers
its length with status 0, or 7 for a shortened one; from an empty ring it answers status 5. CSEND of a good record to a transmit
buffer of the partition stages it in place of one staged before and answers 0. (07_mitrane, 12_switch, 14_can) -/
def Obligations.Messaging : Prop :=
  ∀ (s : State) (l : Fin 64) (q : PQ) (rd ra rb : Fin 32) (sz : Fin 3) (h : Fin 16) (x : TaskCtx) (w : Fin 8),
      s.Inv → s.coreOn = true → (s.lamp l).task = some x → x.safety = false → (s.lamp l).pend = none → s.takes l q = true →
      let a := (s.g l ra).toNat
      let off := a % 4096
      let size := if sz = 0 then 256 else if sz = 1 then 1024 else 4096
      let len := (s.g l rb).toNat
      let view (i : Nat) : Byte := if (s.lamp l).win[w].lines.getLsbD (i / 64) then s.byte (winAddr l w + i) else 0
      a / 4096 = 16 + w.val → (s.lamp l).win[w].st ≠ .poison → rd ≠ 0 →
      (off + size ≤ 4096 → len ≤ size → (s.lamp l).chain = none →
        ((s.queueOf x.part h).isSome → cellsFor (len - 16) ≤ s.cellsFree (.part x.part) →
          let bytes := (List.range len).map (fun i => view (off + i))
          (∃ t : State, exec (.fsend l q rd ra rb false sz h) s = .next t ∧ t.g l rd = w32 len ∧
            (t.part x.part).frames = (s.part x.part).frames ++ [⟨h, bytes, s.sw.next⟩] ∧ (t.lamp l).chain = none) ∧
          (∃ t : State, exec (.fsend l q rd ra rb true sz h) s = .next t ∧ t.g l rd = w32 len ∧
            (t.part x.part).frames = (s.part x.part).frames ∧ (t.lamp l).chain = some ⟨h, bytes, s.sw.next⟩)) ∧
        (s.queueOf x.part h = none → s.uartOf x.part h = none → ∃ t : State, exec (.fsend l q rd ra rb false sz h) s = .next t ∧
          t.g l rd = w32 (3 * 2 ^ 24) ∧ (t.part x.part).frames = (s.part x.part).frames)) ∧
      (off + size ≤ 4096 → len ≤ size → ∀ r, s.ringByHandle x.part h = some r → (s.swRing r).rest = none →
        ((s.swRing r).ents = [] → exec (.frecv l q rd ra rb false sz h) s = .next ((s.setG l rd (w32 (5 * 2 ^ 24))).advance l 1)) ∧
        (∀ e es, (s.swRing r).ents = e :: es → (s.swRing r).snap ≠ 0 → 16 + e.bytes.length ≤ len →
          ∃ t : State, exec (.frecv l q rd ra rb false sz h) s = .next t ∧ (t.swRing r).ents = es ∧ (t.swRing r).snap = (s.swRing r).snap - 1 ∧
            t.g l rd = w32 ((if e.status.testBit 0 then 7 else 0) * 2 ^ 24 + (16 + e.bytes.length)) ∧
            t.winBytes l w off (16 + e.bytes.length) = leBytes 2 e.bytes.length ++ [BitVec.ofNat 8 e.status, BitVec.ofNat 8 e.port] ++
              leBytes 2 e.tci ++ [BitVec.ofNat 8 e.wake, 0] ++ leBytes 4 e.sec ++ leBytes 4 e.ns ++ e.bytes)) ∧
      (let c := len / 64
       let b := len % 64
       let n := 16 + (view (off + 6)).toNat + 256 * (view (off + 7)).toNat
       off + 80 ≤ 4096 → s.txBuf c b x.part = true → n ≤ 80 → s.canRecordOk c ((List.range 16).map (fun i => view (off + i))) = true →
        ∃ t : State, exec (.csend l q rd ra rb false) s = .next t ∧ t.g l rd = 0 ∧
          (t.part x.part).csends = (s.part x.part).csends.filter (fun e => !(e.chan == c && e.buf == b)) ++
            [⟨c, b, (List.range n).map (fun i => view (off + i))⟩])

/-- A frame at a port that is disabled or whose link is down has no effect on the switch. One of an unknown VLAN, or at a port that is
no member, counts in RX_VLAN_DROP alone. A good frame of a VLAN whose only destination is one port, with cells for it, no
learning, no wake pattern and no redundancy in play, stands at the end of the egress queue that its priority selects, in that
port's tagged or untagged form, and RX_FRAMES has counted it. (12_switch) -/
def Obligations.FrameReception : Prop :=
  ∀ (s : State) (f : RxFrame), s.coreOn = true →
      let p := f.port.val
      let b := f.bytes
      let lpc := R.SW_PCFG (s.logical p)
      let tci0 := if tagged b then tciOf b else s.fld lpc F.SW_PCFG_DPCP * 8192 + s.fld lpc F.SW_PCFG_PVID
      let tci := if tci0 % 4096 = 0 then tci0 + s.fld lpc F.SW_PCFG_PVID else tci0
      let open' := s.flag (R.SW_PCFG p) F.SW_PCFG_ENABLE = true ∧ s.flag (R.SW_PSTAT p) F.SW_PSTAT_LINK = true
      let pause := dstMac b = 0x0180C2000001 ∧ beNat (sub b 12 2) = 0x8808
      (¬ open' → exec (.frameReceived f) s = .next (s.portActive p)) ∧
      (open' → ¬ pause → s.vlanOf (tci % 4096) = none → exec (.frameReceived f) s = .next ((s.portActive p).swCount p cRX_VLAN_DROP)) ∧
      (∀ v, open' → ¬ pause → s.vlanOf (tci % 4096) = some v → s.vlanMember v p = false →
        exec (.frameReceived f) s = .next ((s.portActive p).swCount p cRX_VLAN_DROP)) ∧
      (∀ v q k, open' → ¬ pause → s.vlanOf (tci % 4096) = some v → s.vlanMember v p = true → s.mgmtKind b (tci % 4096) = none →
        s.flag (R.SW_PCFG p) F.SW_PCFG_SHUT_IN = false → (4 ≤ p ∨ etherType b ≠ 0x88F7) → etherType b ≠ 0x88BA → s.pairMode p = 0 →
        (dstMac b < 0x0180C2000000 ∨ 0x0180C200000F < dstMac b) → s.destinations v p b = ([q], false) →
        s.fld R.HAW_STAT F.HAW_STAT_ROLE ≠ 2 → f.fcsOk = true → f.codeErr = false → 60 ≤ b.length → b.length ≤ 9212 →
        cellsFor b.length ≤ s.cellsFree (.part (s.vlanPart v)) → s.flag (R.SW_VLAN_CTL v) F.SW_VLAN_CTL_LEARN = false →
        (∀ i, i < 32 → s.wakeMatch (32 * (p / 8) + i) p v b = false) → s.forwardQueue q (tci / 8192) (s.vlanPart v) = some k → s.pairMode q = 0 →
        ∃ t : State, exec (.frameReceived f) s = .next t ∧
          (t.swPort q).queue q k = (s.swPort q).queue q k ++ [⟨s.sw.next, padFrame (s.egressForm v q b tci), none, false, none⟩] ∧
          (t.reg (R.SW_CNT p cRX_FRAMES)).toNat = min ((s.reg (R.SW_CNT p cRX_FRAMES)).toNat + 1) 0xFFFFFFFF)

/-- A free port with its link up and open begins the frame at the head of the queue that the scheduler picks and takes it from there;
a port that is sending, or a module that has stopped sending, begins none. At its last bit the frame counts in TX_FRAMES and the
port is free. A learned address, a node or a duplicate entry leaves its table when it has not been refreshed for its time, and no
other entry does. A pair in PRP mode sends its supervision frame on both its ports. (12_switch) -/
def Obligations.FrameTransmission : Prop :=
  ∀ s : State, s.coreOn = true →
      (∀ (port : Fin 40) (c : Fin 83333) (t0 : Nat),
        ((s.swPort port).sending.isSome ∨ s.txStopped = true → exec (.portTxStart port c t0) s = .next s) ∧
        (∀ q f rest, (s.swPort port).sending = none → s.txStopped = false → s.flag (R.SW_PSTAT port) F.SW_PSTAT_LINK = true →
          s.flag (R.SW_PCFG port) F.SW_PCFG_SHUT_OUT = false → s.flag (R.SW_PCFG port) F.SW_PCFG_ENABLE = true → s.portRate port ≠ 0 →
          (s.swCredit port c).pickTx port c = some q → (s.swPort port).queue port q = f :: rest → f.ptp = none →
          ∃ t : State, exec (.portTxStart port c t0) s = .next t ∧ (t.swPort port).sending = some (f, q) ∧ (t.swPort port).stamp = t0 ∧
            (t.swPort port).queue port q = rest) ∧
        (∀ f q, (s.swPort port).sending = some (f, q) → ∃ t : State, exec (.portTxDone port) s = .next t ∧ (t.swPort port).sending = none ∧
          (t.reg (R.SW_CNT port cTX_FRAMES)).toNat = min ((s.reg (R.SW_CNT port cTX_FRAMES)).toNat + 1) 0xFFFFFFFF)) ∧
      (∀ (v : Fin 256) (mac : BitVec 48), ∃ t : State, exec (.fdbAgeOut v mac) s = .next t ∧ ∀ e, e ∈ t.sw.fdb ↔
        e ∈ s.sw.fdb ∧ ¬ (e.v = v ∧ e.mac = mac.toNat ∧ e.since + 1440000 ≤ s.tick.count)) ∧
      (∀ mac : BitVec 48, (∃ t : State, exec (.prpTableAgeOut true mac) s = .next t ∧ ∀ e, e ∈ t.sw.nodes ↔
          e ∈ s.sw.nodes ∧ ¬ (e.1 = mac.toNat ∧ e.2 + 288000 ≤ s.tick.count)) ∧
        (∃ t : State, exec (.prpTableAgeOut false mac) s = .next t ∧ ∀ e, e ∈ t.sw.drop ↔
          e ∈ s.sw.drop ∧ ¬ (e.mac = mac.toNat ∧ e.since + 1920 ≤ s.tick.count))) ∧
      (s.fld R.SW_PRP F.SW_PRP_MODE_B01 = 0 → s.fld R.SW_PRP F.SW_PRP_MODE_B23 = 0 → exec .prpSupervisionSend s = .next s) ∧
      (s.fld R.SW_PRP F.SW_PRP_MODE_B01 = 1 → s.fld R.SW_PRP F.SW_PRP_MODE_B23 = 0 → ∃ t : State, exec .prpSupervisionSend s = .next t ∧
        (t.swPort 0).own.length = (s.swPort 0).own.length + 1 ∧ (t.swPort 1).own.length = (s.swPort 1).own.length + 1)

/-- A link comes up at its speed on an enabled port; one that goes down counts in LINK_DOWN. The shutters applied take effect at a
tick's beginning. A queue in a clear table takes its word where its rate fits the port's cap, and not queue 7 of ports 0 to 3; a
refused one is logged with the register. A cell limit grows as far as all limits together stay within 5,184, and is lowered only
for a partition that does not run. (12_switch, 15_spe_serial) -/
def Obligations.SwitchControls : Prop :=
  ∀ s : State, s.coreOn = true →
      (∀ (port : Fin 40) (speed : Fin 4) (amp : Bool),
        (s.flag (R.SW_PSTAT port) F.SW_PSTAT_LINK = false → s.flag (R.SW_PCFG port) F.SW_PCFG_ENABLE = true → speed ≠ 0 →
          ∃ t : State, exec (.linkChange port speed amp) s = .next t ∧ t.flag (R.SW_PSTAT port) F.SW_PSTAT_LINK = true ∧
            t.fld (R.SW_PSTAT port) F.SW_PSTAT_SPEED = speed ∧ t.reg (R.SW_CNT port cLINK_DOWN) = s.reg (R.SW_CNT port cLINK_DOWN)) ∧
        (s.flag (R.SW_PSTAT port) F.SW_PSTAT_LINK = true → ∃ t : State, exec (.linkChange port 0 amp) s = .next t ∧
          t.flag (R.SW_PSTAT port) F.SW_PSTAT_LINK = false ∧
          (t.reg (R.SW_CNT port cLINK_DOWN)).toNat = min ((s.reg (R.SW_CNT port cLINK_DOWN)).toNat + 1) 0xFFFFFFFF)) ∧
      (∀ (p : Nat) (i o : Bool), s.sw.shut = [(p, (i, o))] → ∃ t : State, exec .shutterApply s = .next t ∧ t.sw.shut = [] ∧
        t.flag (R.SW_PCFG p) F.SW_PCFG_SHUT_IN = i ∧ t.flag (R.SW_PCFG p) F.SW_PCFG_SHUT_OUT = o) ∧
      (s.sw.shut = [] → ∃ t : State, exec .shutterApply s = .next t ∧ t.srf = s.srf) ∧
      (∀ (port : Fin 40) (q : Fin 8) (w : Word),
        let v := w &&& 0xFFF0FFFF
        ((∀ (m : Fin 40) (k : Fin 8), boundPart (s.reg (R.SW_QCFG m k)) = none) → F.SW_QCFG_RATE.get v ≤ s.rateCap port →
          ¬ (q = 7 ∧ port < 4) → s.pairMode port < 2 → ∃ t : State, exec (.swQcfgWrite port q w) s = .next t ∧ t.reg (R.SW_QCFG port q) = v ∧
            t.inEffect (R.SW_QCFG port q) = false) ∧
        (w.getLsbD 31 = true → q = 7 → port < 4 → exec (.swQcfgWrite port q w) s = .next (s.event Ev.SW_QCFG_REFUSED 0xFF (R.SW_QCFG port q)))) ∧
      (∀ (n : Fin 128) (w : Word),
        let new := F.SW_CELLS_LIMIT.get w
        let old := s.fld (R.SW_CELLS n) F.SW_CELLS_LIMIT
        let sum := (List.range 128).foldl (fun t k => t + if k = n.val then new else s.fld (R.SW_CELLS k) F.SW_CELLS_LIMIT) 0
        (old < new → sum ≤ 5184 → ∃ t : State, exec (.swCellsWrite n w) s = .next t ∧ t.fld (R.SW_CELLS n) F.SW_CELLS_LIMIT = new) ∧
        (old < new → 5184 < sum → exec (.swCellsWrite n w) s = .next (s.event Ev.SW_CELLS_OVER)) ∧
        (new < old → s.mayWithdraw n = true → ∃ t : State, exec (.swCellsWrite n w) s = .next t ∧ t.fld (R.SW_CELLS n) F.SW_CELLS_LIMIT = new) ∧
        (new < old → s.mayWithdraw n = false → exec (.swCellsWrite n w) s = .next (s.event Ev.ALLOT_BUSY n (R.SW_CELLS n))))

/-- A MODE written while another mode stands, or OFF, waits for the landing, and so does RECOVER. Integration and recovery end in
error active, recovery with both counters cleared. A transmit error adds 8 to TEC: above 127 the channel is error passive, above
255 bus off, which AUTO_REC leaves at once for recovery. With the bus free the pending buffer first in the arbitration order
becomes ACTIVE; a successful frame leaves it SENT. A received frame that matches nothing counts in NOMATCH; one that matches a
filter fills its buffer with its record and counts there. A point map whose source or image does not fit is refused. (14_can) -/
def Obligations.CanChannels : Prop :=
  ∀ (s : State) (c : Fin 16), s.coreOn = true →
      let tec := s.fld (R.CAN_ERRC c) F.CAN_ERRC_TEC
      let rec' := s.fld (R.CAN_ERRC c) F.CAN_ERRC_REC
      (∀ w : Word, (F.CAN_CTRL_MODE.get w = 0 ∨ s.canMode c ≠ 0) → ∃ t : State, exec (.canModeWrite c w) s = .next t ∧
        (t.canCh c).modeW = some (F.CAN_CTRL_MODE.get w) ∧ t.canMode c = s.canMode c ∧ t.bus c = s.bus c) ∧
      (∃ t : State, exec (.recover c) s = .next t ∧ (t.canCh c).recoverW = true ∧ t.srf = s.srf) ∧
      (s.bus c = busINTEGRATING → ∃ t : State, exec (.canIntegrated c) s = .next t ∧ t.bus c = busACTIVE) ∧
      (s.bus c = busRECOVERING → ∃ t : State, exec (.canRecovered c) s = .next t ∧ t.bus c = busACTIVE ∧
        t.fld (R.CAN_ERRC c) F.CAN_ERRC_TEC = 0 ∧ t.fld (R.CAN_ERRC c) F.CAN_ERRC_REC = 0) ∧
      (s.bus c = busACTIVE → s.canMode c ≠ 3 →
        (tec + 8 ≤ 255 → ∃ t : State, exec (.canError c true true) s = .next t ∧ t.fld (R.CAN_ERRC c) F.CAN_ERRC_TEC = tec + 8 ∧
          t.bus c = if 127 < tec + 8 ∨ 127 < rec' then busPASSIVE else busACTIVE) ∧
        (255 < tec + 8 → (s.canCh c).active = none → ∃ t : State, exec (.canError c true true) s = .next t ∧
          t.bus c = (if s.flag (R.CAN_CTRL c) F.CAN_CTRL_AUTO_REC then busRECOVERING else busBUS_OFF) ∧
          t.fld (R.CAN_STAT c) F.CAN_STAT_BOFF = min (s.fld (R.CAN_STAT c) F.CAN_STAT_BOFF + 1) 255)) ∧
      (∀ (sof : Word) (b : Nat), s.bus c = busACTIVE → s.canMode c = 1 → (s.canCh c).active = none → s.canWinner c = some b →
        (∃ t : State, exec (.canArbitrationStart c sof) s = .next t ∧ t.mbState c b = mbACTIVE ∧ (t.canCh c).active = some b) ∧
        s.mbState c b = mbPENDING ∧ ∀ k, k < 64 → s.mbState c k = mbPENDING → canRank (s.canBuf c b).rcd ≤ canRank (s.canBuf c k).rcd) ∧
      (∀ b, b < 64 → (s.canCh c).active = some b → s.flag (R.CAN_MB_STAT c b) F.CAN_MB_STAT_SHADOW = false →
        ∃ t : State, exec (.canTxEnd c .sent) s = .next t ∧ t.mbState c b = mbSENT ∧ (t.canCh c).active = none ∧
          t.fld (R.CAN_ERRC c) F.CAN_ERRC_TEC = tec - 1) ∧
      (∀ f : CanFrame, s.bus c = busACTIVE → tec ≤ 255 → f.fmt = 0 → f.data.length ≤ 8 → (∀ k, k < 8 → s.hpmMatch c k f = false) →
        ((∀ k, k < 256 → s.fltMatch c k f = false) → ∃ t : State, exec (.canFrameReceived c f) s = .next t ∧
          t.fld (R.CAN_STAT c) F.CAN_STAT_NOMATCH = min (s.fld (R.CAN_STAT c) F.CAN_STAT_NOMATCH + 1) 255) ∧
        (∀ k, (List.range 256).find? (fun k => s.fltMatch c k f) = some k →
          let b := s.fld (R.CAN_FLT_C c k) F.CAN_FLT_C_BUF
          b < 64 → F.CAN_MB_CFG_RING_EN.get (s.reg (R.CAN_MB_CFG c b)) = 0 → ∃ t : State, exec (.canFrameReceived c f) s = .next t ∧
            t.mbState c b = mbFULL ∧ (t.canBuf c b).rcd = canRecord f ∧
            t.fld (R.CAN_MB_STAT c b) F.CAN_MB_STAT_COUNT = min (s.fld (R.CAN_MB_STAT c b) F.CAN_MB_STAT_COUNT + 1) 255)) ∧
      (∀ (m : Fin 28) (w : Word),
        (w.getLsbD 31 = false → ∃ t : State, exec (.canPmapWrite c m false w) s = .next t ∧ t.reg (R.CAN_PMAP_A c m) = w &&& 0xFFFFFFF8) ∧
        (w.getLsbD 31 = true → s.pmapOk c (w &&& 0xFFFFFFF8) (s.reg (R.CAN_PMAP_B c m)) = false →
          exec (.canPmapWrite c m false w) s = .next (s.event Ev.CAN_MAP_REFUSED)))

/-- A port whose enable becomes true goes from OFF to DETECT, and one whose enable becomes false to OFF with no power on its line. A
valid signature goes to CLASSIFY; a class 10 or 11 within its budget is POWERED, anything else FAULT with cause DENIED. A short 48
ticks after power-up and an overload are FAULT with their cause and no power; a lost line is OFF with cause OPEN; the retry goes
back to DETECT. Budgets that would pass 64 W together are refused. A map that does not fit is refused. A received UART frame
enters its partition's ring; the first waiting one is sent, or deferred. (15_spe_serial) -/
def Obligations.FieldPowerAndSerial : Prop :=
  ∀ s : State, s.coreOn = true →
      (∀ n : Fin 32,
        let cause (t : State) : Nat := t.fld (R.SPE_PSTAT n) F.SPE_PSTAT_CAUSE
        (s.pseEnable n = true → (s.spePort n).en = false → s.pseState n = pwOFF →
          ∃ t : State, exec (.pseEnableChange n) s = .next t ∧ t.pseState n = pwDETECT) ∧
        (s.pseEnable n = false → s.pseState n ≠ pwOFF → ∃ t : State, exec (.pseEnableChange n) s = .next t ∧ t.pseState n = pwOFF ∧ n.val ∉ t.pins.pse) ∧
        (s.pseState n = pwDETECT → ∀ ok : Bool, ∃ t : State, exec (.pseDetectResult n ok) s = .next t ∧
          t.pseState n = if ok then pwCLASSIFY else pwDETECT) ∧
        (s.pseState n = pwCLASSIFY → s.flag (R.SPE_PWR n) F.SPE_PWR_CLASS_MODE = false → ∀ (k : Fin 16) (power : Nat),
          let fits := (k = 10 ∨ k = 11) ∧ power ≤ s.fld (R.SPE_PWR n) F.SPE_PWR_BUDGET
          (fits → ∃ t : State, exec (.pseClassified n k power) s = .next t ∧ t.pseState n = pwPOWERED ∧ n.val ∈ t.pins.pse) ∧
          (¬ fits → ∃ t : State, exec (.pseClassified n k power) s = .next t ∧ t.pseState n = pwFAULT ∧ cause t = pcDENIED ∧ n.val ∉ t.pins.pse)) ∧
        (s.pseState n = pwPOWERED →
          ((s.spePort n).since + 48 ≤ s.tick.count → ∃ t : State, exec (.pseShort n) s = .next t ∧ t.pseState n = pwFAULT ∧ cause t = pcSHORT ∧
            n.val ∉ t.pins.pse) ∧
          (∀ u : Fin 256, s.fld (R.SPE_PWR n) F.SPE_PWR_BUDGET < u.val → ∃ t : State, exec (.pseOverload n u) s = .next t ∧ t.pseState n = pwFAULT ∧
            cause t = pcOVERLOAD ∧ n.val ∉ t.pins.pse) ∧
          (∃ t : State, exec (.pseOpen n) s = .next t ∧ t.pseState n = pwOFF ∧ cause t = pcOPEN ∧ n.val ∉ t.pins.pse)) ∧
        (let r := s.fld (R.SPE_PWR n) F.SPE_PWR_RETRY
         s.pseState n = pwFAULT → r ≠ 0 → (s.spePort n).since + 480 * r ≤ s.tick.count → s.pseEnable n = true →
          ∃ t : State, exec (.pseRetry n) s = .next t ∧ t.pseState n = pwDETECT ∧ cause t = 0) ∧
        (∀ w : Word,
          let v := w &&& 0xC0FF003F
          (s.budgetSum n v ≤ 640 → ∃ t : State, exec (.spePwrWrite n w) s = .next t ∧ t.reg (R.SPE_PWR n) = v) ∧
          (640 < s.budgetSum n v → s.budgetSum n (s.reg (R.SPE_PWR n)) < s.budgetSum n v →
            exec (.spePwrWrite n w) s = .next (s.event Ev.SPE_BUDGET_OVER))) ∧
        (∀ (sm : Bool) (w : Word),
          (w.getLsbD 31 = false → ∃ t : State, exec (.speMapWrite n sm w) s = .next t ∧
            t.reg (if sm then R.SPE_SMAP n else R.SPE_PMAP n) = w &&& 0xFFFFFC00) ∧
          (w.getLsbD 31 = true → boundPart (s.reg (R.SPE_PCFG n)) = none →
            exec (.speMapWrite n sm w) s = .next (s.event Ev.SPE_MAP_REFUSED)))) ∧
      (∀ (c : Fin 8) (chars : List Byte) (errs p : Nat) (sof at' : Word),
        let r := s.fld (R.SPE_UBIND c) F.SPE_UBIND_RING
        let max' := s.fld (R.SPE_ULEN c) F.SPE_ULEN_MAXLEN
        boundPart (s.reg (R.SPE_UBIND c)) = some p → s.inEffect (R.SPE_UBIND c) = true → chars ≠ [] → max' ≠ 0 → chars.length ≤ max' →
        boundPart (s.reg (R.SW_RING r)) = some p → s.fld (R.SW_RING r) F.SW_RING_PART = p → s.running p = true →
        cellsFor (16 + chars.length) ≤ s.cellsFree (.part p) → (s.swRing r).ents.length < 1024 →
        ∃ t : State, exec (.uartFrameReceived c chars errs sof at') s = .next t ∧
          (t.swRing r).ents = (s.swRing r).ents ++ [⟨s.sw.next, 0, 80 + c, errs % 65536, 0, at'.toNat, sof.toNat, chars⟩]) ∧
      (∀ (c : Fin 8) (h : Nat) (b : List Byte) (rest : List (Nat × List Byte)), tget s.spe.uart c = some ((h, b) :: rest) →
        s.flag (R.SPE_UCFG c) F.SPE_UCFG_ENABLE = true →
        (∃ t : State, exec (.uartFrameSend c false) s = .next t ∧ t.out = s.out ++ [.uart c b] ∧ tgetD t.spe.uart c [] = rest) ∧
        (∃ t : State, exec (.uartFrameSend c true) s = .next t ∧ t.out = s.out ∧
          t.fld (R.SPE_USTAT c) F.SPE_USTAT_DEFER = min (s.fld (R.SPE_USTAT c) F.SPE_USTAT_DEFER + 1) 255))

/-- Inputs: a change of a filtered state is held, counted as a transition and shown; a check window latches STUCK or CROSS on each
assigned active input that fails it and on no other. Outputs: a pin off against its command latches READBACK and an overload
latches OVERLOAD, each with the output off; a pin on against its command, or a failed switch-off test, is STUCK_ON. A global fault
is latched once with its cause and switches every output off; the watchdog and a failed self-test raise theirs. A SAFE_ACK
releases what its target has latched where the cause has gone, and is otherwise refused; an accepted one of a global fault or an
output leaves the interlock. APPLY and writes of the configuration act only unlocked and with the safety partition at rest.
TIMEOUT, FOG_EXPIRED and the ends of an unlock and of LOCKOUT come at their times. (16_safety) -/
def Obligations.SafetyFunctions : Prop :=
  ∀ s : State, s.coreOn = true →
      let cfg := s.safeCfg
      let live : Bool := s.safe.act.isSome && s.boot.vso
      (∀ (i : Fin 16) (v : Bool),
        (s.siFilt i = v → exec (.siFilterChange false i v) s = .next s) ∧
        (s.siFilt i ≠ v → ∃ t : State, exec (.siFilterChange false i v) s = .next t ∧ t.siFilt i = v ∧
          t.flag (R.SAFE_SI_STAT i) F.SAFE_SI_STAT_EFF = (v && !s.siBad i) ∧
          (t.safeIn i).trans = s.tick.count :: (s.safeIn i).trans ∧ ∀ a, a ≠ R.SAFE_SI_STAT i → t.reg a = s.reg a) ∧
        (i.val < 8 → exec (.siFilterChange true i v) s = .next { s with safe := { s.safe with fb := setBit s.safe.fb i v } })) ∧
      (∀ (tp : Fin 4) (zeros : BitVec 16),
        ((live && cfgFlag cfg (R.SAFE_TP tp) F.SAFE_TP_EN) = false → exec (.tpCheckWindow tp zeros) s = .next s) ∧
        (live = true → cfgFlag cfg (R.SAFE_TP tp) F.SAFE_TP_EN = true → ∃ t : State, exec (.tpCheckWindow tp zeros) s = .next t ∧
          ∀ i, i < 16 →
            let own := cfgFld cfg (R.SAFE_SI_CFG i) F.SAFE_SI_CFG_TP
            (own = 0 ∨ s.siFilt i = false → (t.safeIn i).lat = (s.safeIn i).lat) ∧
            (own ≠ 0 → s.siFilt i = true →
              (own = tp.val + 1 → (bit zeros.toNat i = true → (t.safeIn i).lat = (s.safeIn i).lat) ∧
                (bit zeros.toNat i = false → siSTUCK ∈ (t.safeIn i).lat)) ∧
              (own ≠ tp.val + 1 → (bit zeros.toNat i = false → (t.safeIn i).lat = (s.safeIn i).lat) ∧
                (bit zeros.toNat i = true → siCROSS ∈ (t.safeIn i).lat))))) ∧
      (∀ c, 0 < c → c < 8 → s.safe.act.isSome = true →
        (s.safeCause = 0 → (s.safeGlobal c).safeCause = c ∧ (s.safeGlobal c).pins.sq = [] ∧ ∀ o, ((s.safeGlobal c).safeOut o).drive = false) ∧
        (s.safeCause ≠ 0 → s.safeGlobal c = s)) ∧
      (∀ o : Fin 8,
        (live = true → (s.safeOut o).drive = true → s.sqFault o = 0 → ∃ t : State, exec (.sqReadbackFault o) s = .next t ∧
          t.sqFault o = sqREADBACK ∧ (t.safeOut o).drive = false ∧ o.val ∉ t.pins.sq) ∧
        (live = true → (s.safeOut o).drive = false →
          exec (.sqReadbackFault o) s = .next ((s.setFlag (R.SAFE_SQ_STAT o) F.SAFE_SQ_STAT_PIN true).safeGlobal gfSTUCK_ON)) ∧
        (live = true → s.sqFault o = 0 → ∃ t : State, exec (.sqOverload o) s = .next t ∧ t.sqFault o = sqOVERLOAD ∧ (t.safeOut o).drive = false ∧
          o.val ∉ t.pins.sq) ∧
        (live = false → exec (.sqReadbackFault o) s = .next s ∧ exec (.sqOverload o) s = .next s) ∧
        (exec (.sqSwitchOffTest o true) s = .next s) ∧
        (live = true → cfgFlag cfg (R.SAFE_SQ_CFG o) F.SAFE_SQ_CFG_TEST_EN = true → (s.safeOut o).drive = true →
          s.tickNo = 600 * o.val + 300 → exec (.sqSwitchOffTest o false) s = .next (s.safeGlobal gfSTUCK_ON))) ∧
      (s.running s.safePart = true → (∃ e ∈ s.safe.miss, cfgFld cfg R.SAFE_CFG F.SAFE_CFG_SWD_TOL < e.2) →
        exec .safeWatchdog s = .next (s.safeGlobal gfWATCHDOG)) ∧
      ((∀ e ∈ s.safe.miss, e.2 ≤ cfgFld cfg R.SAFE_CFG F.SAFE_CFG_SWD_TOL) → exec .safeWatchdog s = .next s) ∧
      exec (.safeMonitorSelftest true) s = .next { s with safe := { s.safe with monBad := false } } ∧
      exec (.safeMonitorSelftest false) s = .next (({ s with safe := { s.safe with monBad := true } } : State).safeGlobal gfMONITOR) ∧
      (∀ sess : BitVec 32, s.safe.act.isSome = true →
        (∀ i : Fin 32, s.safeCause ≠ 0 →
          (s.running s.safePart = false ∨ s.causeRemains = true →
            exec (.safeAck sess 0 i) s = .next (s.ackRefused 0 i (s.certOf sess.toNat))) ∧
          (s.running s.safePart = true → s.causeRemains = false → ∃ t : State, exec (.safeAck sess 0 i) s = .next t ∧ t.safeCause = 0 ∧
            ∀ o, o < 8 → t.sqLocked o = true)) ∧
        (∀ i : Fin 32, i.val < 16 → siSTUCK ∈ (s.safeIn i).lat ∨ siCROSS ∈ (s.safeIn i).lat →
          ((s.safeIn i).edge = true → (s.safeIn i).winOk = false →
            exec (.safeAck sess 1 i) s = .next (s.ackRefused 1 i (s.certOf sess.toNat))) ∧
          ((s.safeIn i).edge = false ∨ (s.safeIn i).winOk = true → ∃ t : State, exec (.safeAck sess 1 i) s = .next t ∧
            (t.safeIn i).lat = ((s.safeIn i).lat.filter (fun f => f != siSTUCK)).filter (fun f => f != siCROSS))) ∧
        (∀ o : Fin 32, o.val < 8 → s.sqFault o ≠ 0 →
          let blocked := (s.sqFault o == sqREADBACK && s.flag (R.SAFE_SQ_STAT o) F.SAFE_SQ_STAT_PIN != (s.safeOut o).drive) ||
            (s.sqFault o == sqEDM && s.edmBad o)
          (blocked = true → exec (.safeAck sess 2 o) s = .next (s.ackRefused 2 o (s.certOf sess.toNat))) ∧
          (blocked = false → ∃ t : State, exec (.safeAck sess 2 o) s = .next t ∧ t.sqFault o = 0 ∧ t.sqLocked o = true ∧ t.safeCause = s.safeCause)) ∧
        (∀ c : Fin 32, (s.safeRx c).differ = true ∨ (s.safeRx c).expired = true → ∃ t : State, exec (.safeAck sess 3 c) s = .next t ∧
          (t.safeRx c).differ = ((s.safeRx c).differ && (s.safeRx c).split) ∧
          (t.safeRx c).expired = ((s.safeRx c).expired && decide ((s.safeRx c).run < 16)))) ∧
      (∀ sess : BitVec 32,
        (s.safeUnlocked = false → exec (.safeApply sess) s = .next (s.setFld R.SAFE_STAT F.SAFE_STAT_APPLY_ERR 2)) ∧
        (s.safeUnlocked = true → s.safeBusy = true → exec (.safeApply sess) s = .next (s.setFld R.SAFE_STAT F.SAFE_STAT_APPLY_ERR 1)) ∧
        (s.safeUnlocked = true → s.safeBusy = false → safeRangeOk s.safeRegs = false →
          exec (.safeApply sess) s = .next (s.setFld R.SAFE_STAT F.SAFE_STAT_APPLY_ERR 4)) ∧
        (s.safeUnlocked = true → s.safeBusy = false → safeRangeOk s.safeRegs = true → s.safeImagesOk s.safeRegs = false →
          exec (.safeApply sess) s = .next (s.setFld R.SAFE_STAT F.SAFE_STAT_APPLY_ERR 3)) ∧
        (s.safeUnlocked = true → s.safeBusy = false → safeRangeOk s.safeRegs = true → s.safeImagesOk s.safeRegs = true →
          ∃ t : State, exec (.safeApply sess) s = .next t ∧ t.fld R.SAFE_STAT F.SAFE_STAT_APPLY_ERR = 0 ∧
            t.safe.next = some (s.safeRegs, s.certOf sess.toNat) ∧ t.safe.act = s.safe.act) ∧
        (∃ t : State, exec (.safeLock sess) s = .next t ∧ t.safeUnlocked = false ∧ t.srf = s.srf ∧ t.safe.act = s.safe.act) ∧
        (∀ (a : BitVec 32) (w : Word), safeMask a.toNat ≠ 0 →
          ((s.safeUnlocked && !s.safeBusy) = false → exec (.safeCfgWrite sess a w) s = .next (s.event Ev.SAFE_CFG_BUSY)) ∧
          (s.safeUnlocked = true → s.safeBusy = false → ∃ t : State, exec (.safeCfgWrite sess a w) s = .next t ∧
            (∀ b, b ≠ a.toNat → t.reg b = s.reg b) ∧ t.safe = s.safe ∧
            ∀ i, i < 32 → (t.reg a.toNat).getLsbD i =
              if (safeMask a.toNat).testBit i then w.getLsbD i else (s.reg a.toNat).getLsbD i))) ∧
      (∀ c : Fin 32,
        (s.rxLive c = true → (s.safeRx c).since + cfgFld cfg (R.SAFE_RX_WD c) F.SAFE_RX_WD_T_WD ≤ s.tick.count →
          ∃ t : State, exec (.safeRxTimeout c) s = .next t ∧ t.fld (R.SAFE_RX_STAT c) F.SAFE_RX_STAT_STATE = 4 ∧ t.rxLive c = false) ∧
        (∀ k, (s.safeRx c).fog = some k → k + 288000 * cfgFld cfg R.SAFE_CFG F.SAFE_CFG_T_DEG ≤ s.tick.count →
          ∃ t : State, exec (.fogExpired c) s = .next t ∧ (t.safeRx c).expired = true ∧ t.rxLive c = false)) ∧
      (∀ e, s.safe.unlock = some e →
        (e.2 + 2880000 ≤ s.tick.count → ∃ t : State, exec .safeUnlockExpiry s = .next t ∧ t.safeUnlocked = false ∧ t.srf = s.srf) ∧
        (s.tick.count < e.2 + 2880000 → exec .safeUnlockExpiry s = .next s)) ∧
      (∀ k, s.safe.lockedAt = some k →
        (k + 2880000 ≤ s.tick.count → ∃ t : State, exec .lockoutExpiry s = .next t ∧ t.safe.lockedAt = none ∧
          t.flag R.SAFE_STAT F.SAFE_STAT_LOCKOUT = false) ∧
        (s.tick.count < k + 2880000 → exec .lockoutExpiry s = .next s))

/-- A link that goes down or comes up shows it and is logged with its port; a link up makes the lighthouse enumerate. A beacon that
passes R398 is held for its landing and raises the highest EPOCH, one with ROOT renews the watch on the lighthouse, and a
lighthouse that accepts a higher EPOCH with ROOT steps down; any other beacon changes nothing. Candidates without ROOT decide by
address 0 and serial number. A standby asks the takeover witness, which confirms only where it too misses ROOT, and takes over
with EPOCH + 1. Enumeration passes through every unit and ends in an ASSIGN, which gives a listed unit its role and address, or
NOT_JOINED with its error. Exchange records and management packets are forwarded while their TTL lasts; a safety telegram goes to
SAFE unmerged, any other record to its landing. Bindings and shares that break their limits are discarded and logged. (17_hawser) -/
def Obligations.HawserRings : Prop :=
  ∀ s : State, s.coreOn = true →
      (∀ h : Fin 4,
        let up := s.flag (R.HAW_LINK h) F.HAW_LINK_UP
        (up = true → exec (.hawserLinkDown h) s = .next ((s.setFlag (R.HAW_LINK h) F.HAW_LINK_UP false).event Ev.RING_BREAK 0xFF (4 + h.val))) ∧
        (up = false → exec (.hawserLinkDown h) s = .next s) ∧
        (∀ (nbr : Fin 64) (joined : Bool),
          (up = true → exec (.hawserLinkUp h nbr joined) s = .next s) ∧
          (up = false → ∃ t : State, exec (.hawserLinkUp h nbr joined) s = .next t ∧ t.flag (R.HAW_LINK h) F.HAW_LINK_UP = true ∧
            t.fld (R.HAW_LINK h) F.HAW_LINK_NBR = nbr ∧ t.flag (R.HAW_LINK h) F.HAW_LINK_NBR_JOINED = joined ∧
            t.haw.upAt = some (s.haw.upAt.getD s.tick.count) ∧
            (s.lighthouse = true → t.haw.enumAt = some s.tick.count ∧ t.out = s.out ++ [Msg.enum 4 [t.enumSelf], Msg.enum 6 [t.enumSelf]]) ∧
            (s.lighthouse = false → t.out = s.out)))) ∧
      (∀ (h : Fin 4) (b : Beacon),
        ((h ≠ 1 ∧ h ≠ 3) ∨ s.beaconOk b = false → exec (.beaconReceived h b) s = .next s) ∧
        (h = 1 ∨ h = 3 → s.beaconOk b = true → ∃ t : State, exec (.beaconReceived h b) s = .next t ∧
          t.haw.beacons = s.haw.beacons ++ [(if h = 1 then 0 else 1, b)] ∧ t.haw.top = some b.epoch ∧
          t.haw.rootAt = (if b.root then some s.tick.count else s.haw.rootAt) ∧
          (s.lighthouse = true → b.root = true → 0 < (b.epoch + 256 - s.fld R.HAW_STAT F.HAW_STAT_EPOCH) % 256 →
            (b.epoch + 256 - s.fld R.HAW_STAT F.HAW_STAT_EPOCH) % 256 < 128 → t.hawRole = hrSTANDBY) ∧
          (s.lighthouse = true → b.root = false → t.lighthouse = true)) ∧
        (64 ≤ b.hops ∨ b.chkOk = false → s.beaconOk b = false)) ∧
      (∀ (others : List (Nat × Bool)) (k : Nat), s.mastStrap = true → s.lighthouse = false → s.hawRole ≠ hrSTANDBY →
        s.haw.upAt = some k → k + 4800 ≤ s.tick.count → s.haw.rootAt = none →
        let first := others.filter (fun o => precedes o (s.boot.serial.toNat, s.haw.addr == some 0))
        (first = [] → ∃ t : State, exec (.lighthouseDecision others) s = .next t ∧ t.lighthouse = true ∧ t.haw.enumAt = some s.tick.count) ∧
        (first.length = 1 → exec (.lighthouseDecision others) s = .next (s.setFld R.HAW_STAT F.HAW_STAT_ROLE hrSTANDBY)) ∧
        (2 ≤ first.length → exec (.lighthouseDecision others) s = .next (s.event Ev.MASTER_EXTRA))) ∧
      (∀ w, s.haw.takeover = some w →
        (s.hawRole = hrSTANDBY → s.rootSilent 48 = true → s.haw.confirm = none → ∃ t : State, exec .lhConfirm s = .next t ∧
          t.out = s.out ++ [Msg.mgmt w mtLH_CONFIRM []] ∧ t.haw.confirm = some s.tick.count) ∧
        (s.rootSilent 48 = false → exec .lhConfirm s = .next s) ∧
        (∀ src : Fin 64, w = s.hawAddr → s.joined = true →
          (s.rootSilent 48 = true → ∃ t : State, exec (.lhConfirmRequest src) s = .next t ∧
            t.out = s.out ++ [Msg.mgmt src mtLH_CONFIRM [s.tick.abs + 48]] ∧ t.srf = s.srf) ∧
          (s.rootSilent 48 = false → exec (.lhConfirmRequest src) s = .next s))) ∧
      (∀ k, s.haw.confirm = some k → s.hawRole = hrSTANDBY →
        (∀ x, x ≤ s.tick.abs → ∃ t : State, exec (.lhTakeover x) s = .next t ∧ t.lighthouse = true ∧ t.hawAddr = s.hawAddr ∧
          t.fld R.HAW_STAT F.HAW_STAT_EPOCH = (s.haw.top.getD (s.fld R.HAW_STAT F.HAW_STAT_EPOCH) + 1) % 256 ∧ t.haw.confirm = none) ∧
        (∀ x, s.tick.abs < x → exec (.lhTakeover x) s = .next s) ∧
        (k + 96 ≤ s.tick.count → exec .lhNoConfirm s = .next (s.event Ev.LH_NO_CONFIRM)) ∧
        (s.tick.count < k + 96 → exec .lhNoConfirm s = .next s)) ∧
      (s.lighthouse = true → ∃ t : State, exec .hawEnum s = .next t ∧ t.out = s.out ++ [Msg.enum 4 [s.enumSelf], Msg.enum 6 [s.enumSelf]] ∧
        t.haw.enumAt = some s.tick.count ∧ t.srf = s.srf) ∧
      (s.lighthouse = false → exec .hawEnum s = .next (s.event Ev.ENUM_IGNORED)) ∧
      (∀ us : List EnumUnit, s.lighthouse = false →
        exec (.enumReceived 1 us) s = .next (s.send (Msg.enum 4 (us ++ [s.enumSelf]))) ∧
        exec (.enumReceived 3 us) s = .next (s.send (Msg.enum 6 (us ++ [s.enumSelf])))) ∧
      (∀ la lb : List EnumUnit, s.lighthouse = true → s.haw.enumAt.isSome = true → ∃ (t : State) (a : Assign), exec (.enumCollected la lb) s = .next t ∧
        t.out = s.out ++ [Msg.assign 4 a, Msg.assign 6 a] ∧ t.haw.enumAt = none ∧ a.eff = s.tick.abs + 48 ∧ a.units.length = (mergeUnits la lb).length) ∧
      (∀ (a : Assign) (i : Nat) (u : AssignUnit), a.units[i]? = some u → u.serial = s.boot.serial.toNat →
        (∀ j v, j < i → a.units[j]? = some v → v.serial ≠ s.boot.serial.toNat) → a.units.length ≤ 64 → u.err < 8 → u.role < 4 →
        ∃ t : State, exec (.assignEffect a) s = .next t ∧ t.boot.assigned = true ∧ t.fld R.HAW_STAT F.HAW_STAT_UNITS = a.units.length ∧
          t.haw.takeover = a.takeover ∧
          (∀ x, u.addr = some x → x < 64 → t.hawRole = u.role ∧ t.hawAddr = x ∧ t.fld R.HAW_STAT F.HAW_STAT_JOIN_ERR = 0 ∧ t.haw.addr = some x) ∧
          (u.addr = none → t.hawRole = hrNOT_JOINED ∧ t.fld R.HAW_STAT F.HAW_STAT_JOIN_ERR = u.err)) ∧
      (∀ (h : Fin 4) (r : ExRec),
        (h = 0 ∨ h = 2 ∨ s.ownRecord r = true → exec (.exchangeRecordReceived h r) s = .next s) ∧
        (h = 1 ∨ h = 3 → s.ownRecord r = false → ∃ t : State, exec (.exchangeRecordReceived h r) s = .next t ∧ t.srf = s.srf ∧
          t.out = (if 2 ≤ r.ttl then s.out ++ [Msg.exch (if h = 1 then 4 else 6) { r with ttl := r.ttl - 1 }] else s.out) ∧
          t.haw.px = (if r.crcOk = true ∧ r.kind ≠ 2 then s.haw.px ++ [(if h = 1 then 0 else 1, r)] else s.haw.px) ∧
          t.safe.inbox = (if r.crcOk = true ∧ r.kind = 2 then s.safe.inbox ++ [(if h = 1 then 0 else 1, r.body)] else s.safe.inbox))) ∧
      (∀ (c : Fin 256) (w : Word), let v := w &&& 0xFF000FFF
        let p := F.HAW_PUB_PART.get v
        let loc := F.HAW_PUB_LOC.get v
        (F.HAW_PUB_VALID.get v = 1 → s.pubImage p loc = none → exec (.hawBindWrite ⟨c, by omega⟩ false w) s = .next (s.event Ev.HAW_BIND_REFUSED)) ∧
        (∀ n : Fin 512, F.HAW_SUB_CTL_VALID.get v = 1 → s.inputImage p loc 1 = none →
          exec (.hawBindWrite n true w) s = .next (s.event Ev.HAW_BIND_REFUSED)) ∧
        (F.HAW_PUB_VALID.get v = 1 → (s.pubImage p loc).isSome = true → s.reg (R.HAW_PUB c) = 0 →
          s.pubUsed + s.pubCost v ≤ s.fld R.HAW_PX_STAT F.HAW_PX_STAT_SHARE → s.rebindOk (boundPart 0) (boundPart v) = true →
          ∃ t : State, exec (.hawBindWrite ⟨c, by omega⟩ false w) s = .next t ∧ t.reg (R.HAW_PUB c) = v)) ∧
      (∀ (a : Fin 64) (w : Word),
        let others := (List.range 64).foldl (fun n b => n + if b = a.val then 0 else s.fld (R.HAW_PX_SHARE b) F.HAW_PX_SHARE_SHARE) 0
        let share := F.HAW_PX_SHARE_SHARE.get w
        (9000 < others + share → exec (.hawShareWrite a w) s = .next (s.event Ev.HAW_SHARE_OVER)) ∧
        (others + share ≤ 9000 → ∃ t : State, exec (.hawShareWrite a w) s = .next t ∧ t.fld (R.HAW_PX_SHARE a) F.HAW_PX_SHARE_SHARE = share ∧
          ∀ b, b ≠ R.HAW_PX_SHARE a → t.reg b = s.reg b)) ∧
      (∀ (h : Fin 4) (p : MgmtPkt),
        (h = 0 ∨ h = 2 ∨ p.crcOk = false ∨ (s.joined = true ∧ p.src = s.hawAddr) → exec (.mgmtPacketReceived h p) s = .next s) ∧
        (h = 1 → p.crcOk = true → s.joined = true → p.src ≠ s.hawAddr → p.dst ≠ s.hawAddr → p.dst ≠ 0xFF →
          exec (.mgmtPacketReceived h p) s = .next (if 2 ≤ p.ttl then s.send (.relay 4 { p with ttl := p.ttl - 1 }) else s)) ∧
        (h = 1 ∨ h = 3 → p.crcOk = true → s.joined = true → p.src ≠ s.hawAddr → p.dst = s.hawAddr → (p.src, p.seq) ∉ s.haw.seen →
          ∃ t : State, exec (.mgmtPacketReceived h p) s = .next t ∧ (p.src, p.seq) ∈ t.haw.seen ∧ t.out = s.out))

/-- A lanyard record is taken once. A TILE record newer than the shadow of its identifier is written to it with its generation, an
older one changes nothing. A repair request is noted where this twin can answer it, an answer goes to the buffer that asked, a
force waits for its effect tick or, late, for the next landing, an LSTATE record is kept by a STANDBY twin, and a CONFIG record
sets the banks of a JOINING one. A join waits while an exchange is staged. A JOINING twin stands by where the pair agrees, and
where its partner is silent. SILENCE acts at once; SOLO and ADMIT wait for their effect tick, and then lead only from the states
R420 names. The witness grants an extraction to a member whose partner serves, refuses it with its cause otherwise, ignores it
without heartbeats, and answers a freeze as R432 says. (18_twins, 02_connectors, 09_online_change) -/
def Obligations.TwinPairs : Prop :=
  ∀ s : State, s.coreOn = true →
      let took (r : LanRec) : State := s.setTwin (fun x => { x with seen := (r.seq.toNat :: x.seen).take 64 })
      let st := s.twinState
      (∀ r : LanRec, s.twinOn = false ∨ r.crcOk = false ∨ r.seq.toNat ∈ s.twin.seen →
        ∀ (tile : List (Nat × Byte)) (p : Fin 128) (b : Bool) (i j : Nat) (v : Word) (es : List LEntry) (g : CfgSeg),
        ∀ c ∈ ([.lanyardTile r tile, .repairReq r, .repairAns r tile, .lanyardForce r p b i j v, .lstate r es, .twinConfig r g] : List Instr),
          exec c s = .next s) ∧
      (∀ r : LanRec, s.twinOn = true → r.crcOk = true → r.seq.toNat ∉ s.twin.seen →
        (∀ (tile : List (Nat × Byte)) (l : Nat), s.shadowOf r.ident.toNat = some l →
          (s.Inv → mirrorGood (expand 0 4096 0 tile) r = true → newer r.gen (s.dirGen l) = true → ∃ t : State, exec (.lanyardTile r tile) s = .next t ∧
            t.dirGen l = r.gen ∧ ∀ i, i < 4064 → t.byte (tileAddr l + i) = (expand 0 4096 0 tile).getD i 0) ∧
          (newer r.gen (s.dirGen l) = false ∨ mirrorGood (expand 0 4096 0 tile) r = false → exec (.lanyardTile r tile) s = .next (took r))) ∧
        (s.canAnswer r.ident.toNat = true → ∃ t : State, exec (.repairReq r) s = .next t ∧ r.ident.toNat ∈ t.twin.asked ∧ t.srf = s.srf ∧ t.mem = s.mem) ∧
        (s.canAnswer r.ident.toNat = false → exec (.repairReq r) s = .next (took r)) ∧
        (∀ (tile : List (Nat × Byte)),
          (∀ (b loc k : Nat), s.tiles.repairBuf = [(b, ⟨loc, .partner, k, none⟩)] → s.dirIdent loc = r.ident.toNat →
            ∃ t x, exec (.repairAns r tile) s = .next t ∧ t.tiles.repairBuf = [(b, ⟨loc, .partner, k, some x⟩)] ∧ t.mem = s.mem) ∧
          ((∀ e ∈ s.tiles.repairBuf, e.2.src ≠ .partner ∨ e.2.content.isSome = true ∨ s.dirIdent e.2.loc ≠ r.ident.toNat) →
            exec (.repairAns r tile) s = .next (took r))) ∧
        (∀ (p : Fin 128) (b : Bool) (i j : Nat) (v : Word), let e := s.absNear r.tstamp
          (s.tick.abs < e → exec (.lanyardForce r p b i j v) s =
            .next ((took r).setTwin (fun x => { x with forces := x.forces ++ [⟨e, p, b, i, j, v⟩] }))) ∧
          (e ≤ s.tick.abs → exec (.lanyardForce r p b i j v) s =
            .next (((took r).setTwin (fun x => { x with forces := x.forces ++ [⟨s.tick.abs + 1, p, b, i, j, v⟩] })).event Ev.FORCE_LATE p))) ∧
        (∀ es : List LEntry,
          (st = twSTANDBY → exec (.lstate r es) s = .next ((took r).setTwin (fun x => { x with lstate := some (s.absNear r.tstamp, es) }))) ∧
          (st ≠ twSTANDBY → exec (.lstate r es) s = .next (took r))) ∧
        (∀ (a : Nat) (v : Word),
          (st = twJOINING → bankAddr a = true → ∃ t : State, exec (.twinConfig r (.words [(a, v)])) s = .next t ∧ t.reg a = v ∧
            ∀ b, b ≠ a → t.reg b = s.reg b) ∧
          (st ≠ twJOINING ∨ bankAddr a = false → exec (.twinConfig r (.words [(a, v)])) s = .next (took r)))) ∧
      (∀ b, s.twinOn = false → exec (.twinJoinRequest b) s = .next s) ∧
      (s.twinOn = true → s.exchanging = false →
        (s.serves = true → ∃ t : State, exec (.twinJoinRequest true) s = .next t ∧ t.twin.step = 4 ∧ t.srf = s.srf ∧
          ∀ l ∈ s.allocated, s.dirFlag l fMIRROR = true → s.dirAct l = true → s.twinned (s.dirOwner l) = true → l ∈ t.twin.changed) ∧
        (st = twJOINING → ∃ t : State, exec (.twinJoinRequest false) s = .next t ∧ t.twin.step = 1 ∧ t.out = s.out ++ [Msg.mgmt s.partner mtTWIN [0]])) ∧
      (s.twinOn = true → s.exchanging = true → s.serves = true →
        exec (.twinJoinRequest true) s = .next (s.setTwin (fun x => { x with step := 6 }))) ∧
      (∀ (node : BitVec 48) (agrees : Bool), s.twinOn = true → st = twJOINING →
        ((agrees && s.pairingOk) = true → ∃ t : State, exec (.twinStandby agrees node) s = .next t ∧ t.twinState = twSTANDBY) ∧
        ((agrees && s.pairingOk) = false → exec (.twinStandby agrees node) s = .next (s.event Ev.TWIN_CFG_MISMATCH))) ∧
      (∀ d : Decision,
        (s.ourPair d = false → exec (.witnessDecisionReceived d) s = .next s) ∧
        (s.ourPair d = true → s.names d = true → d.cause < 8 → d.code = 1 ∨ d.code = 2 → st = twSERVING ∨ st = twSOLO ∨ st = twSTANDBY →
          ∃ t : State, exec (.witnessDecisionReceived d) s = .next t ∧ t.twinState = twSILENCED ∧ t.fld R.TWIN_STAT F.TWIN_STAT_CAUSE = d.cause) ∧
        (s.ourPair d = true → s.names d = true → s.twin.decided = none →
          ((d.code = 3 ∨ d.code = 4) ∧ (st = twSERVING ∨ st = twSTANDBY)) ∨ (5 ≤ d.code ∧ st = twSTANDBY) →
          exec (.witnessDecisionReceived d) s = .next (s.setTwin (fun x => { x with decided := some d })))) ∧
      (∀ d, s.twin.decided = some d →
        (s.tick.abs < s.absNear (w32 d.eff) → exec .twinDecisionEffect s = .next s) ∧
        (s.absNear (w32 d.eff) ≤ s.tick.abs → ∃ t : State, exec .twinDecisionEffect s = .next t ∧ t.twin.decided = none ∧
          (d.code = 3 ∨ d.code = 4 → st = twSERVING ∨ st = twSTANDBY → t.twinState = twSOLO) ∧
          (5 ≤ d.code → st = twSTANDBY ∨ st = twSOLO → t.twinState = twSERVING ∧ t.twin.joined = s.tick.abs) ∧
          (st ≠ twSERVING → st ≠ twSTANDBY → st ≠ twSOLO → t.twinState = st))) ∧
      (s.twin.pairs = [] →
        (s.twinOn = true → st = twJOINING → s.joined = true → (∀ k, s.twin.partnerAt = some k → k + 4800 ≤ s.tick.count) → 4800 ≤ s.tick.count →
          ∃ t : State, exec .partnerSilent s = .next t ∧ t.twinState = twSTANDBY) ∧
        (s.twinOn = false → exec .partnerSilent s = .next s)) ∧
      (∀ p : WitPair, s.twin.pairs = [p] → s.twin.decisions = [] → s.twinOn = false → 4800 ≤ p.missH → p.missL = 0 →
        stateOf p.hl = twSTANDBY → faultOf p.hl = false → ∃ t : State, exec .partnerSilent s = .next t ∧
          t.twin.decisions = [(s.tick.count, ⟨p.low, p.high, 3, 0, s.tick.abs + 3⟩)] ∧ t.srf = s.srf) ∧
      (∀ src : Fin 64,
        (s.pairNo src = none → ∀ both, exec (.witnessExtractRequest src both) s = .next s) ∧
        (s.pairNo src = none → s.isWitness = true → exec (.witnessFreezeConsentRequest src) s = .next (s.answer src 2 (some 1))) ∧
        ∀ i p, s.pairNo src = some (i, p) →
          (∀ both, p.missL ≠ 0 ∨ p.missH ≠ 0 → exec (.witnessExtractRequest src both) s = .next s) ∧
          (∀ both, p.missL = 0 → p.missH = 0 → ∀ c, s.extractCause p src both = some c →
            exec (.witnessExtractRequest src both) s = .next (s.answer src 1 (some c))) ∧
          (∀ both, p.missL = 0 → p.missH = 0 → s.extractCause p src both = none → ∃ t : State, exec (.witnessExtractRequest src both) s = .next t ∧
            t.twin.pairs = lset s.twin.pairs i { p with granted := some src.val } ∧ t.out = s.out ++ [Msg.mgmt src mtTWIN [1, 1]]) ∧
          exec (.witnessFreezeConsentRequest src) s = .next (s.answer src 2 (freezeCause p src)) ∧
          (∀ other, (src.val = p.low → other = p.hh) → (src.val ≠ p.low → other = p.hl) →
            stateOf other ≠ twSERVING → stateOf other ≠ twSOLO → ∀ both, s.extractCause p src both = some 1))

/-- A unit answers PREPARE with READY where its pending bank passes the check with its partitions ARMED, else with REFUSED and the
cause. After the last READY the lighthouse chooses the tick 480 ticks later and sends GO; a REFUSED, or a READY missing at 96
ticks, ends the change with MULTI_REFUSED. On GO a unit requests the swap at that tick. After the last ACK by 240 ticks before it
the lighthouse sends COMMIT, else ABORT; on ABORT, and without COMMIT 48 ticks before it, a unit cancels. 96 ticks after it the
lighthouse logs MULTI_DONE, or MULTI_SPLIT with the units that cancelled. An unanswered message is repeated every 48 ticks.
(09_online_change) -/
def Obligations.CoordinatedChange : Prop :=
  ∀ s : State, s.coreOn = true →
      let said (us : List Nat) (body : List Nat) : List Msg := us.map (fun a => Msg.mgmt a mtCHANGE body)
      (∀ parts : List Nat,
        (s.flag R.TICK_STAT F.TICK_STAT_SWAP_PEND = true ∨ (∃ p ∈ parts, s.xstate p ≠ xsARMED) →
          exec (.multiPrepare parts) s = .next (s.tellLighthouse [chREFUSED, 0])) ∧
        (s.flag R.TICK_STAT F.TICK_STAT_SWAP_PEND = false → (∀ p ∈ parts, s.xstate p = xsARMED) →
          ∀ u : State, u = ({ s with tick := { s.tick with swapMulti := true } } : State).setReg R.TICK_SWAP_AT 0 →
          ((u.rewrite (!u.bankB)).checkBank u = none → ∃ t : State, exec (.multiPrepare parts) s = .next t ∧ t.multi.unit = some ⟨parts, none, false⟩ ∧
            t.out = s.out ++ [Msg.mgmt 0xFF mtCHANGE [chREADY]] ∧ t.srf = s.srf) ∧
          (∀ e, (u.rewrite (!u.bankB)).checkBank u = some e → exec (.multiPrepare parts) s = .next (s.tellLighthouse [chREFUSED, e.1])))) ∧
      (∀ c, s.multi.change = some c →
        let us := c.units.map (fun e => e.1)
        (∀ a : Fin 64, c.x = none → a.val ∈ us →
          let got := luniq (c.ready ++ [a.val])
          ((∀ b ∈ us, b ∈ got) → ∃ t : State, exec (.multiReady a) s = .next t ∧ t.srf = s.srf ∧ t.out = s.out ++ said us [chGO, s.tick.abs + 480] ∧
            t.multi.change = some { c with ready := got, x := some (s.tick.abs + 480), sentAt := s.tick.abs }) ∧
          ((∃ b ∈ us, b ∉ got) → exec (.multiReady a) s = .next (s.setMulti (fun m => { m with change := some { c with ready := got } }))) ∧
          (∀ cause, ∃ t : State, exec (.multiRefused a cause) s = .next t ∧ t.multi.change = none ∧
            (c.reply = none → t = (s.event Ev.MULTI_REFUSED).setMulti (fun m => { m with change := none })))) ∧
        (∀ a : Fin 64, a.val ∉ us → exec (.multiReady a) s = .next s ∧ exec (.multiAck a) s = .next s ∧
          ∀ cause, exec (.multiRefused a cause) s = .next s) ∧
        (c.x = none → c.began + 96 ≤ s.tick.abs → ∃ t : State, exec .multiReadyTimeout s = .next t ∧ t.multi.change = none) ∧
        (s.tick.abs < c.began + 96 → exec .multiReadyTimeout s = .next s) ∧
        (c.x = none → exec .multiAckTimeout s = .next s ∧ ∀ l, exec (.multiCollectEnd l) s = .next s) ∧
        (s.tick.abs < c.sentAt + 48 → exec .multiRepeat s = .next s) ∧
        (∀ x, c.x = some x →
          (∀ a : Fin 64, c.committed = false → a.val ∈ us → s.tick.abs + 240 ≤ x →
            let got := luniq (c.acks ++ [a.val])
            ((∀ b ∈ us, b ∈ got) → ∃ t : State, exec (.multiAck a) s = .next t ∧ t.out = s.out ++ said us [chCOMMIT] ∧
              t.multi.change = some { c with acks := got, committed := true, sentAt := s.tick.abs }) ∧
            ((∃ b ∈ us, b ∉ got) → exec (.multiAck a) s = .next (s.setMulti (fun m => { m with change := some { c with acks := got } })))) ∧
          (c.committed = false → x ≤ s.tick.abs + 240 → c.sentAt ≠ 0 → ∃ t : State, exec .multiAckTimeout s = .next t ∧
            t.out = s.out ++ said us [chABORT] ∧ t.multi.change = some { c with sentAt := 0 }) ∧
          (c.committed = true ∨ s.tick.abs + 240 < x → exec .multiAckTimeout s = .next s) ∧
          (c.committed = false → c.sentAt ≠ 0 → c.sentAt + 48 ≤ s.tick.abs → ∃ t : State, exec .multiRepeat s = .next t ∧
            t.out = s.out ++ said (us.filter (fun a => !c.acks.contains a)) [chGO, x] ∧
            t.multi.change = some { c with sentAt := s.tick.abs }) ∧
          (∀ l : List Nat, (s.tick.abs < x + 96 → exec (.multiCollectEnd l) s = .next s) ∧
            (x + 96 ≤ s.tick.abs → c.reply = none →
              let bad := us.filter (fun a => l.contains a)
              (bad = [] → exec (.multiCollectEnd l) s = .next ((s.event Ev.MULTI_DONE).setMulti (fun m => { m with change := none }))) ∧
              (bad ≠ [] → exec (.multiCollectEnd l) s = .next ((s.event Ev.MULTI_SPLIT 0xFF (addrMask bad % 2 ^ 32) (addrMask bad / 2 ^ 32)).setMulti
                (fun m => { m with change := none }))))))) ∧
      (∀ u, s.multi.unit = some u →
        (∀ x, u.x = none → x < 4800 * 65536 → ∃ t : State, exec (.multiGo x) s = .next t ∧ t.multi.unit = some { u with x := some x } ∧
          swapTarget (t.reg R.TICK_SWAP_AT) 0 = some x ∧ t.flag R.TICK_SWAP_AT F.TICK_SWAP_AT_AT_EN = true ∧
          t.flag R.TICK_STAT F.TICK_STAT_SWAP_PEND = true) ∧
        (∀ x, u.x.isSome = true → exec (.multiGo x) s = .next s) ∧
        exec .multiCommit s = .next (s.setMulti (fun m => { m with unit := some { u with committed := u.committed || u.x.isSome } })) ∧
        (u.committed = false → ∃ t : State, exec .multiAbort s = .next t ∧ t.multi.unit = none ∧ Msg.mgmt 0xFF mtCHANGE [chCANCELLED] ∈ t.out) ∧
        (u.committed = true → exec .multiAbort s = .next s ∧ exec .multiNoCommit s = .next s) ∧
        (∀ x, u.x = some x → u.committed = false →
          (x ≤ s.tick.abs + 48 → ∃ t : State, exec .multiNoCommit s = .next t ∧ t.multi.unit = none ∧ Msg.mgmt 0xFF mtCHANGE [chCANCELLED] ∈ t.out ∧
            t.multi.change = s.multi.change) ∧
          (s.tick.abs + 48 < x → exec .multiNoCommit s = .next s)))

/-- On a lamp that runs a task with no operation in flight, a KEYOP with its request block inside a window that is not POISON runs
that request; an address in no window raises ADDR with rd = 0 and a block that leaves its window returns LEN. A handle the
partition does not own, or whose USAGE lacks the operation, raises OWN; an EMPTY slot and a slot without uses return their status.
A failing status zeroes the output area. ENC then DEC under one key and IV gives the plaintext back. KEYSTAGE replaces the pending
half and clears its verification, KEYVERIFY marks a pending half whose expected value matches, and KEYCOMMIT of a verified half
has it wait for the commit of the tick. Where the entropy source has failed RANDOM, GENERATE and WRAP return STATE. An asymmetric
request waits for a window of its partition that begins after it, one at a time; its window runs it and hands over the result for
the tick after. (19_security, 07_mitrane) -/
def Obligations.VaultRequests : Prop :=
  ∀ s : State, s.coreOn = true →
      (∀ (l : Fin 64) (q : PQ) (rd ra rb : Fin 32) (x : TaskCtx), (s.lamp l).task = some x → x.safety = false → (s.lamp l).pend = none →
        s.takes l q = true →
        let a := (s.g l ra).toNat
        ∀ e ∈ ([(.keyopEnc l q rd ra rb, koENC), (.keyopDec l q rd ra rb, koDEC), (.keyopSign l q rd ra rb, koSIGN),
            (.keyopVerify l q rd ra rb, koVERIFY), (.keyopDerive l q rd ra rb, koDERIVE), (.keyopWrap l q rd ra rb, koWRAP),
            (.keystage l q rd ra rb, koSTAGE), (.keyverify l q rd ra rb, koCHECK), (.keycommit l q rd ra rb, koCOMMIT),
            (.random l q rd ra rb, koRANDOM)] : List (Instr × Nat)), ∃ word,
          (winOf a = none → exec e.1 s = .next (((s.raise l cADDR word 0 0 a).setG l rd 0).advance l 1)) ∧
          (∀ w, winOf a = some w → (s.lamp l).win[w].st ≠ .poison →
            (4096 < a % 4096 + 32 → exec e.1 s = .next ((s.setG l rd (keyResult vsLEN 0)).advance l 1)) ∧
            (a % 4096 + 32 ≤ 4096 → exec e.1 s =
              .next ((s.keyRun l x.part e.2 rd (s.g l rb).toNat word w (keyReq (s.winBytes l w (a % 4096) 32))).advance l 1)))) ∧
      (∀ (l : Fin 64) (p fn : Nat) (rd : Fin 32) (h : Nat) (word : Word) (w : Fin 8) (q : KeyReq),
        (s.keyRef p h = none → fn < koSTAGE → s.keyRun l p fn rd h word w q = s.keyOwn l rd word) ∧
        (∀ n, n < 63 → s.keyRef p n = some (.slot n) → fn < koDERIVE →
          ((s.slot n).act.type = ktEMPTY → s.keyRun l p fn rd n word w q = s.keyEnd l rd w q vsEMPTY []) ∧
          ((s.slot n).act.type ≠ ktEMPTY → bit (s.slot n).act.usage fn = false → s.keyRun l p fn rd n word w q = s.keyOwn l rd word) ∧
          ((s.slot n).act.type ≠ ktEMPTY → bit (s.slot n).act.usage fn = true → q.fits fn (s.slot n).act.type = true → (s.slot n).act.uses = 0 →
            s.keyRun l p fn rd n word w q = s.keyEnd l rd w q vsEXHAUSTED [])) ∧
        (∀ st out, s.Inv → st ≠ vsOK → st ≠ vsQUEUED → q.outOff + q.outCap ≤ 4096 → ∀ i, i < q.outCap →
          (s.keyEnd l rd w q st out).byte (winAddr l w + q.outOff + i) = 0)) ∧
      (∀ (p : Nat) (h : KeyRef) (k : VKey) (q : KeyReq) (rd : Nat → Nat → List Byte),
        (s.entropyOk = false → (s.keySync p koRANDOM h k q rd).1 = vsSTATE) ∧
        (s.entropyOk = true → (s.keySync p koRANDOM h k q rd).1 = vsOK ∧ (s.keySync p koRANDOM h k q rd).2.1.length = q.outCap) ∧
        (∀ n, s.keyRef p q.dest = some (.slot n) → s.entropyOk = false → (s.keySync p koWRAP h k q rd).1 = vsSTATE ∧
          (q.src = 0 → (s.keySync p koSTAGE h k q rd).1 = vsSTATE)) ∧
        (∀ iv aad msg : List Byte, gcmDec k.key iv aad (gcmEnc k.key iv aad msg).1 (gcmEnc k.key iv aad msg).2 = some msg)) ∧
      (∀ (n : Nat) (k : VKey), (s.stage n k).slot n = { s.slot n with pend := k, verified := false } ∧
        (∀ m, m ≠ n → (s.stage n k).slot m = s.slot m)) ∧
      (∀ (n : Nat) (input expected : List Byte), let k := (s.slot n).pend
        (k.type = ktEMPTY → s.verifyKey n input expected = (vsNOT_STAGED, s)) ∧
        (k.type = ktAES ∨ k.type = ktHMAC → (hmac384 k.key (input.take 16)).take 16 = expected.take 16 → 16 ≤ expected.length → 16 ≤ input.length →
          (s.verifyKey n input expected).1 = vsOK ∧ ((s.verifyKey n input expected).2.slot n).verified = true) ∧
        ((s.slot n).verified = false → s.commitKey n = (vsNOT_STAGED, s)) ∧
        ((s.slot n).verified = true → (s.commitKey n).1 = vsOK ∧ ((s.commitKey n).2.slot n).commit = some k ∧
          ((s.commitKey n).2.slot n).act = (s.slot n).act)) ∧
      (∀ (p : Nat) (q : AsymReq), q.moor = none → s.isInbox q.reply = true → s.dirOwner q.reply = p →
        (s.hasWindow p = false → s.queueAsym p q = (vsNO_WINDOW, s)) ∧
        (s.hasWindow p = true → (tget s.vault.asym p).isSome = true → s.queueAsym p q = (vsBUSY, s)) ∧
        (s.hasWindow p = true → tget s.vault.asym p = none → (s.queueAsym p q).1 = vsQUEUED ∧ tget (s.queueAsym p q).2.vault.asym p = some q)) ∧
      (∀ w : Fin 8,
        let p := s.fld (R.VAULT_ASYM_WIN w) F.VAULT_ASYM_WIN_PART
        let start := s.tick.abs - s.tick.abs % 12
        (w.val < 7 → tget s.vault.asym p = none → exec (.asymWindowRun w) s = .next s) ∧
        (∀ q, w.val < 7 → tget s.vault.asym p = some q → s.flag (R.VAULT_ASYM_WIN w) F.VAULT_ASYM_WIN_VALID = true → s.tick.abs % 96 / 12 = w.val →
          (start ≤ q.since → exec (.asymWindowRun w) s = .next s) ∧
          (q.since < start → q.moor = none → ∃ t st out, exec (.asymWindowRun w) s = .next t ∧ tget t.vault.asym p = none ∧
            t.vault.results = s.vault.results ++ [(start + 12, q.reply, st, out)])))

/-- A LIMIT write within 16 and the sum of 1024 stands, one beyond is discarded and logged. A failed entropy test and a restart set
and clear ENTROPY_FAIL. A tamper event in normal running is latched and counted; MESH, CLOCK and every sensor set to ZEROISE leave
no key in any slot or derived entry and no Mooring session. Before the first key is unsealed it halts the boot. On the cell MESH
or LIGHT erases BK. A clock check outside its bounds is a CLOCK event, one inside changes nothing. A claim code ends with its 24
hours. A shutter frame acts, and moves the counter, only with the right CMAC, a higher counter and a port of the module; any other
is counted as bad. (19_security, 12_switch) -/
def Obligations.VaultEvents : Prop :=
  (∀ s : State, s.coreOn = true →
      (∀ (p : Fin 128) (w : Word), let n := F.VAULT_DRV_LIMIT.get w
        let old := s.fld (R.VAULT_DRV p) F.VAULT_DRV_LIMIT
        let sum := (List.range 128).foldl (fun k b => k + if b = p.val then n else s.fld (R.VAULT_DRV b) F.VAULT_DRV_LIMIT) 0
        (16 < n ∨ (old < n ∧ 1024 < sum) → exec (.vaultDrvWrite p w) s = .next (s.event Ev.VAULT_DRV_OVER 0xFF (R.VAULT_DRV p))) ∧
        (old ≤ n → n ≤ 16 → sum ≤ 1024 → ∃ t : State, exec (.vaultDrvWrite p w) s = .next t ∧ t.fld (R.VAULT_DRV p) F.VAULT_DRV_LIMIT = n ∧
          ∀ a, a ≠ R.VAULT_DRV p → t.reg a = s.reg a)) ∧
      (∃ t : State, exec .entropyFail s = .next t ∧ t.entropyOk = false) ∧
      (∃ t : State, exec .entropyRestart s = .next t ∧ t.entropyOk = true ∧ ∀ a, a ≠ R.VAULT_STAT → t.reg a = s.reg a) ∧
      (∀ b : BitVec 5, b ≠ 0 → s.vault.unsealed = true → s.vault.asym = [] → ∃ t : State, exec (.tamper b) s = .next t ∧
        (s.tamperZeroises b.toNat = true → t.vault.slots = [] ∧ t.vault.drv = [] ∧ t.moor.sessions = []) ∧
        (s.tamperZeroises b.toNat = false → t.vault.slots = s.vault.slots ∧ t.vault.drv = s.vault.drv ∧
          ∀ i, i < 5 → b.getLsbD i = true → (t.reg R.VAULT_TAMPER_STAT).getLsbD i = true) ∧
        (b.getLsbD 0 = true ∨ b.getLsbD 4 = true → s.tamperZeroises b.toNat = true)) ∧
      (∀ b : BitVec 5, b ≠ 0 → s.vault.unsealed = false → s.flag R.ID_PWR_STAT F.ID_PWR_STAT_HOLD_OK = true → ∃ t : State, exec (.tamper b) s = .next t ∧
        t.phase = 14 ∧ t.flag R.VAULT_STAT F.VAULT_STAT_HALT = true ∧ t.vault = s.vault) ∧
      (∀ n, (10900 ≤ n ∧ n ≤ 15300 → exec (.vaultClockCheck n) s = .next s) ∧
        (n < 10900 ∨ 15300 < n → exec (.vaultClockCheck n) s = .next (s.tamper 16))) ∧
      (∀ (p : Fin 128) c, tget s.vault.codes p = some c →
        (c.since + 414720000 ≤ s.tick.count → ∃ t : State, exec (.claimCodeExpiry p) s = .next t ∧ tget t.vault.codes p = none ∧ t.srf = s.srf) ∧
        (s.tick.count < c.since + 414720000 → exec (.claimCodeExpiry p) s = .next s)) ∧
      (∀ (port : Fin 40) (b : List Byte), ∃ t : State, exec (.shutter port b) s = .next t ∧
        t.fld R.SW_SHUT_STAT F.SW_SHUT_STAT_LAST = s.shutterCheck b ∧
        (s.shutterCheck b = shAPPLIED → (t.reg R.SW_SHUT_CTR).toNat = beNat (sub b 24 4) ∧ (s.reg R.SW_SHUT_CTR).toNat < (t.reg R.SW_SHUT_CTR).toNat ∧
          tget t.sw.shut (leAt b 28 1) = some (bit (leAt b 29 1) 0, bit (leAt b 29 1) 1)) ∧
        (s.shutterCheck b ≠ shAPPLIED → t.reg R.SW_SHUT_CTR = s.reg R.SW_SHUT_CTR ∧ t.sw.shut = s.sw.shut ∧
          t.fld R.SW_SHUT_STAT F.SW_SHUT_STAT_BAD = min (s.fld R.SW_SHUT_STAT F.SW_SHUT_STAT_BAD + 1) 255))) ∧
    (∀ s : State, s.rtc.onCell = true →
      (∀ mesh light : Bool, (mesh || light) = true → ∃ t : State, exec (.tamperCellEvent mesh light) s = .next t ∧ t.vault.bk = [] ∧
        t.fld R.RTC_TREC_CTL F.RTC_TREC_CTL_COUNT = min (s.fld R.RTC_TREC_CTL F.RTC_TREC_CTL_COUNT + 1) 65535) ∧
      exec (.tamperCellEvent false false) s = .next s)

/-- Whatever the main die does: at the end of an interval the energy of elements in use enters their registers modulo 2^64, none
during SW_FAULT, MEAS of 1,568 bytes is sent and the parameters and test output last set come into force. Each legal event raises
the counter and, while the log has room, adds its entry; registers do not change. The die stores its registers, counter and log at
a loss of supply and every hour, and starts again from them. A change request is executed only with the switch at CHANGE, in
range, with room in the log and without SW_FAULT, and is answered; one refused changes no parameter and no legal record, and is
counted. TEST_SEL selects the output, LOG_REQ is answered with IDENT and the log from its index, TIME gives the TAI reference, and
a bad frame is counted. (20_metrology) -/
def Obligations.MetrologyDie : Prop :=
  ∀ s : State,
      let d := s.met.die
      (∀ m : MeasIn,
        (d.on = false → exec (.measIntervalEnd m) s = .next s) ∧
        (d.on = true → ∃ (t : State) (f : LinkFrame), exec (.measIntervalEnd m) s = .next t ∧ t.met.toMain = s.met.toMain ++ [f] ∧ f.type = lfMEAS ∧ f.body.length = 1568 ∧
          t.met.die.interval = (d.interval + 1) % 2 ^ 32 ∧ t.met.die.force = d.params ∧ t.met.die.test = d.sel ∧ t.met.die.evcnt = d.evcnt ∧
          (d.fault = true → t.met.die.regs = d.regs) ∧
          (∀ e r : Nat, e < 24 → r < 6 → d.outOfUse e = true → tgetD t.met.die.regs (6 * e + r) 0 = tgetD d.regs (6 * e + r) 0) ∧
          (∀ k n : Nat, d.fault = false → m.energy = [(k, n)] → k < 144 → d.outOfUse (k / 6) = false →
            tgetD t.met.die.regs k 0 = (tgetD d.regs k 0 + n) % 2 ^ 64 ∧ ∀ j, j ≠ k → tgetD t.met.die.regs j 0 = tgetD d.regs j 0))) ∧
      (∀ e ∈ ([(.coverOpen, !d.cover, 2), (.coverClosed, d.cover, 3), (.switchChange, !d.change, 4), (.switchLocked, d.change, 5),
          (.swFault, !d.fault, 6)] : List (Instr × Bool × Nat)),
        ∃ t : State, exec e.1 s = .next t ∧ t.met.die.regs = d.regs ∧ t.met.die.params = d.params ∧ t.srf = s.srf ∧
          ((d.on && e.2.1) = true → t.met.die.evcnt = (d.evcnt + 1) % 2 ^ 32 ∧
            (d.log.length < 1024 → ∃ x : MetEntry, t.met.die.log = d.log ++ [x] ∧ x.kind = e.2.2 ∧ x.evcnt = (d.evcnt + 1) % 2 ^ 32) ∧
            (1024 ≤ d.log.length → t.met.die.log = d.log)) ∧
          ((d.on && e.2.1) = false → t.met.die.evcnt = d.evcnt ∧ t.met.die.log = d.log ∧ t.met.toMain = s.met.toMain)) ∧
      (∃ t : State, exec .coverOpen s = .next t ∧ t.met.die.cover = true) ∧ (∃ t : State, exec .coverClosed s = .next t ∧ t.met.die.cover = false) ∧
      (∃ t : State, exec .switchChange s = .next t ∧ t.met.die.change = true) ∧ (∃ t : State, exec .switchLocked s = .next t ∧ t.met.die.change = false) ∧
      (d.on = true →
        (∃ t : State, exec .metroSupplyLoss s = .next t ∧ t.met.die.kept = ⟨d.regs, d.evcnt, d.log⟩ ∧ t.met.die.on = false ∧ t.met.die.evcnt = d.evcnt ∧
          t.met.die.losses = d.losses + 1) ∧
        (∃ t : State, exec .metroHourlyStore s = .next t ∧ t.met.die = { d with kept := ⟨d.regs, d.evcnt, d.log⟩ }) ∧
        exec .metroStart s = .next s ∧ (∃ t : State, exec .swFault s = .next t ∧ t.met.die.fault = true)) ∧
      (d.on = false → ∃ (t : State) (f : LinkFrame), exec .metroStart s = .next t ∧ t.met.die.on = true ∧ t.met.die.regs = d.kept.regs ∧ t.met.die.evcnt = d.kept.evcnt ∧
        t.met.die.log = d.kept.log ∧ t.met.die.tai = 0 ∧ t.met.toMain = s.met.toMain ++ [f] ∧ f.type = lfIDENT) ∧
      (d.on = true →
        (∀ sec : BitVec 64, exec (.metTime sec true) s = .next (s.setDie (fun x => { x with tai := sec.toNat })) ∧
          exec (.metTime sec false) s = .next (s.setDie (fun x => { x with bad := x.bad + 1 }))) ∧
        ∀ (f : LinkFrame) (rest : List LinkFrame), s.met.toDie = f :: rest →
          (∀ e ∈ ([(.chgReq false, lfCHG_REQ), (.testSel false, lfTEST_SEL), (.logReq false, lfLOG_REQ)] : List (Instr × Nat)), f.type = e.2 →
            ∃ t : State, exec e.1 s = .next t ∧ t.met.toDie = rest ∧ t.met.die = { d with bad := d.bad + 1 }) ∧
          (f.type = lfCHG_REQ →
            let i := beNat (sub f.body 0 1)
            let v := beNat (sub f.body 4 4)
            (d.change = false → d.judge i v = crLOCKED) ∧
            (d.judge i v = crOK → d.change = true ∧ d.rangeOk i v = true ∧ d.log.length < 1008 ∧ d.fault = false) ∧
            ∃ t : State, exec (.chgReq true) s = .next t ∧ t.met.toDie = rest ∧ t.met.die.regs = d.regs ∧
              (d.judge i v = crOK → t.met.die.params = lset d.params i v ∧ t.met.die.evcnt = (d.evcnt + 1) % 2 ^ 32 ∧
                ∃ x : MetEntry, t.met.die.log = d.log ++ [x] ∧ x.kind = 1 ∧ x.param = i ∧ x.old = d.par i ∧ x.new = v) ∧
              (d.judge i v ≠ crOK → t.met.die.params = d.params ∧ t.met.die.evcnt = d.evcnt ∧ t.met.die.log = d.log ∧
                t.met.die.refused = d.refused + 1 ∧ ∃ x : LinkFrame, t.met.toMain = s.met.toMain ++ [x] ∧ x.type = lfCHG_RESULT ∧
                  beNat (sub x.body 1 1) = d.judge i v)) ∧
          (f.type = lfTEST_SEL → ∃ t : State, exec (.testSel true) s = .next t ∧ t.met.toDie = rest ∧
            t.met.die = { d with sel := (beNat (sub f.body 0 1), beNat (sub f.body 1 1) == 1) }) ∧
          (f.type = lfLOG_REQ → ∃ (t : State) (x : LinkFrame) (l : List LinkFrame), exec (.logReq true) s = .next t ∧ t.met.toDie = rest ∧ t.met.toMain = s.met.toMain ++ (x :: l) ∧
            x.type = lfIDENT ∧ l.map (fun y => y.body) = (d.log.drop (beNat (sub f.body 0 2))).map (fun y => y.bytes)))

/-- A frame of the die is complete on the main die for the next landing; a bad one is counted in FRAMES_BAD, and one that comes while
CORE is stopped is lost. A METL_CHG_CMD with GO sends the request and shows PENDING, ends at once with NO_LINK where the link is
down, and is discarded while one is PENDING; METL_TEST is stored and sent. Without a valid MEAS for 1440 ticks LINK falls, and a
request still PENDING ends with NO_LINK. An assignment whose points are not as they must be, or that takes an element from a
partition that is not FREE, is refused and logged; a good one of an element not assigned stands. (20_metrology) -/
def Obligations.MetrologyLink : Prop :=
  ∀ s : State,
      (∀ e ∈ ([(.meas, lfMEAS), (.metLog, lfLOG), (.metIdent, lfIDENT), (.chgResult, lfCHG_RESULT)] : List ((Bool → Instr) × Nat)),
        ∀ (f : LinkFrame) (rest : List LinkFrame), s.met.toMain = f :: rest → f.type = e.2 →
          (s.coreOn = true → (∃ t : State, exec (e.1 true) s = .next t ∧ t.met.toMain = rest ∧ t.met.arrived = s.met.arrived ++ [f] ∧ t.srf = s.srf) ∧
            (∃ t : State, exec (e.1 false) s = .next t ∧ t.met.toMain = rest ∧ t.met.arrived = s.met.arrived ∧
              t.fld R.METL_STAT F.METL_STAT_FRAMES_BAD = min (s.fld R.METL_STAT F.METL_STAT_FRAMES_BAD + 1) 255)) ∧
          (s.coreOn = false → ∀ ok : Bool, ∃ t : State, exec (e.1 ok) s = .next t ∧ t.met.toMain = rest ∧ t.met.arrived = s.met.arrived ∧ t.srf = s.srf)) ∧
      (s.coreOn = true →
        let result := s.fld R.METL_CHG_STAT F.METL_CHG_STAT_RESULT
        (∀ w : Word, F.METL_CHG_CMD_GO.get w = 1 →
          (result = crPENDING → exec (.metlChgGo w) s = .next s) ∧
          (result ≠ crPENDING → s.flag R.METL_STAT F.METL_STAT_LINK = false →
            exec (.metlChgGo w) s = .next (s.setFld R.METL_CHG_STAT F.METL_CHG_STAT_RESULT crNO_LINK)) ∧
          (result ≠ crPENDING → s.flag R.METL_STAT F.METL_STAT_LINK = true → ∃ (t : State) (f : LinkFrame), exec (.metlChgGo w) s = .next t ∧
            t.fld R.METL_CHG_STAT F.METL_CHG_STAT_RESULT = crPENDING ∧ t.met.toDie = s.met.toDie ++ [f] ∧ f.type = lfCHG_REQ ∧
            beNat (sub f.body 0 1) = F.METL_CHG_CMD_PARAM.get w ∧ beNat (sub f.body 4 4) = (s.reg R.METL_CHG_VAL).toNat)) ∧
        (∀ w : Word, ∃ (t : State) (f : LinkFrame), exec (.metlTestWrite w) s = .next t ∧ t.reg R.METL_TEST = w &&& 0x8000001F ∧ t.met.toDie = s.met.toDie ++ [f] ∧
          f.type = lfTEST_SEL ∧ beNat (sub f.body 0 1) = F.METL_TEST_ELEM.get w ∧ beNat (sub f.body 1 1) = F.METL_TEST_EN.get w) ∧
        (s.flag R.METL_STAT F.METL_STAT_LINK = true → (∀ b k, s.met.meas = some (b, k) → k + 1440 ≤ s.tick.count) →
          ∃ t : State, exec .metlLinkDown s = .next t ∧ t.flag R.METL_STAT F.METL_STAT_LINK = false ∧
            t.fld R.METL_CHG_STAT F.METL_CHG_STAT_RESULT = (if result = crPENDING then crNO_LINK else result) ∧ t.met = s.met) ∧
        (∀ b k, s.met.meas = some (b, k) → s.tick.count < k + 1440 → exec .metlLinkDown s = .next s) ∧
        (∀ (e : Fin 24) (w : Word), let v := w &&& 0xFF0FFFFF
          let old := s.reg (R.METL_ASSIGN e)
          let p := F.METL_ASSIGN_PART.get old
          (v.getLsbD 31 = true → s.assignOk v = false → exec (.metlAssignWrite e w) s = .next (s.event Ev.METL_MAP_REFUSED (F.METL_ASSIGN_PART.get v))) ∧
          (v.getLsbD 31 = false → old.getLsbD 31 = true → p ≠ 0 → s.pstate p ≠ psFree →
            exec (.metlAssignWrite e w) s = .next (s.event Ev.METL_MAP_REFUSED p)) ∧
          (v.getLsbD 31 = true → s.assignOk v = true → old.getLsbD 31 = false → ∃ t : State, exec (.metlAssignWrite e w) s = .next t ∧
            t.reg (R.METL_ASSIGN e) = v ∧ (∀ a, a ≠ R.METL_ASSIGN e → t.reg a = s.reg a) ∧ t.met = s.met)))

/-- A binding that R483 refuses is discarded and logged, one it allows stands. KEEP_CMD.STORE of a ring of partition 0 asks for a
store where its tile is dirty, is refused by a WORN ring, and has no effect on a clean tile. A capture whose conditions hold and
whose tile passes its checks takes the tile into a page write with the next SEQ and clears the request; one not asked for changes
nothing. A page write that ends well is the ring's newest record, is counted, and leaves the tile clean where its generation has
not moved; one whose read-back fails leaves a torn record, retires the page and goes on at the lowest free spare. (21_retained) -/
def Obligations.RetainedStorage : Prop :=
  ∀ s : State, s.coreOn = true →
      (∀ (r : Fin 256) (w : Word), let cfg := w &&& 0xFFC1FFFF
        let gap := s.reg (R.KEEP_RING_GAP r)
        F.KEEP_RING_CFG_VALID.get cfg = 1 → s.flag (R.KEEP_RING_CFG r) F.KEEP_RING_CFG_VALID = false →
        (s.ringRefused r cfg gap = true → exec (.keepRingWrite r 0 w) s = .next (s.event Ev.KEEP_RING_REFUSED 0xFF (R.KEEP_RING_CFG r))) ∧
        (s.ringRefused r cfg gap = false → F.KEEP_RING_CFG_SOF.get cfg = 0 → ∃ t : State, exec (.keepRingWrite r 0 w) s = .next t ∧
          t.reg (R.KEEP_RING_CFG r) = cfg) ∧
        (F.KEEP_RING_GAP_MIN_GAP.get gap * F.KEEP_RING_CFG_SIZE.get cfg < 3029530 → s.ringRefused r cfg gap = true)) ∧
      (∀ w : Word, let r := F.KEEP_CMD_RING.get w
        (F.KEEP_CMD_STORE.get w = 0 → exec (.keepStoreRequest w) s = .next s) ∧
        (F.KEEP_CMD_STORE.get w ≠ 0 → s.flag (R.KEEP_RING_CFG r) F.KEEP_RING_CFG_VALID = true → s.ringPart r = 0 →
          (s.ringState r = rgWORN → exec (.keepStoreRequest w) s = .next (s.setFld (R.KEEP_RING_STAT r) F.KEEP_RING_STAT_LAST_ERR 2)) ∧
          (s.ringState r ≠ rgWORN → s.ringBound r = true → s.ringDirty r = true →
            exec (.keepStoreRequest w) s = .next (s.setRing r { s.ring r with asked := true })) ∧
          (s.ringState r ≠ rgWORN → s.ringDirty r = false → exec (.keepStoreRequest w) s = .next s))) ∧
      (∀ (r : Fin 256) (loc n : Nat), s.ringTile r = some loc →
        (s.ringAsked r = false ∨ s.ringStores r = false ∨ s.stepTick (loc / 64) = false ∨ s.ringWriting r = true →
          exec (.keepCapture r) s = .next s) ∧
        (s.ringAsked r = true → s.ringStores r = true → s.stepTick (loc / 64) = true → s.ringWriting r = false → s.bankQ (loc / 64) = [] →
          s.repBuf (loc / 64) = none → (∀ c, (s.ring r).capAt = some c → c + s.fld (R.KEEP_RING_GAP r) F.KEEP_RING_GAP_MIN_GAP ≤ s.tick.count) →
          s.sealFail loc = none → s.nextSlot r = some n → ∃ t x, exec (.keepCapture r) s = .next t ∧ t.keep.writes = s.keep.writes ++ [x] ∧
            x.ring = r.val ∧ x.slot = n ∧ x.rcd.payload = sparse 0 0 (s.payload loc) ∧ x.rcd.gen = s.dirGen loc ∧
            x.rcd.seq = (if (s.ring r).newest.isNone then 1 else (s.ring r).seq + 1) ∧ (t.ring r).asked = false ∧
            (t.ring r).capAt = some s.tick.count ∧ t.mem = s.mem)) ∧
      (∀ (r : Fin 256) (ok : Bool), (∀ x ∈ s.keep.writes, x.ring ≠ r.val) → exec (.keepPageWriteDone r ok) s = .next s) ∧
      (∀ (r : Fin 256) (x : KeepWrite), s.keep.writes = [x] → x.ring = r →
        (∃ t : State, exec (.keepPageWriteDone r true) s = .next t ∧ tget t.keep.pages x.page = some x.rcd ∧ t.keep.writes = [] ∧
          (t.ring r).newest = some x.slot ∧ (t.ring r).seq = x.rcd.seq ∧
          t.fld (R.KEEP_RING_STAT r) F.KEEP_RING_STAT_STORES = min (s.fld (R.KEEP_RING_STAT r) F.KEEP_RING_STAT_STORES + 1) 65535 ∧
          (∀ l, s.ringTile r = some l → (s.dirGen l = x.rcd.gen → l ∉ t.keep.dirty) ∧ (s.dirGen l ≠ x.rcd.gen → t.keep.dirty = s.keep.dirty))) ∧
        (x.rcd.cause ≠ 2 → x.retried = false → 64 ≤ x.page → s.keep.subst = [] → s.keep.spent = [] → ∃ t : State,
          exec (.keepPageWriteDone r false) s = .next t ∧ tget t.keep.pages x.page = some { x.rcd with torn := true } ∧
          t.keep.subst = [(s.ringBase r + x.slot, 32)] ∧ t.keep.writes = [{ x with page := 32, retried := true }]))

/-- While the interface is not locked out: SET loads a staged time that names a second of 2000 to 2399, with its weekday, and sets
VALID, and discards any other as RTC_BAD_VALUE; CAPTURE copies time and date; TREC_CLR empties the record and is logged; ARM arms
the alarm, or fires it at once where its time has come; DISARM clears ARMED alone. Locked out, none has an effect. At a seconds
edge an armed alarm whose time has come fires once, with LATE where the time is past it. After the last second of 2399 the clock
rolls to 2000 and clears VALID. On the cell the interface is locked out; it is released only on main power. BK_LOST starts the
domain anew. (22_rtc) -/
def Obligations.BackupDomain : Prop :=
  ∀ s : State,
      let now := rtcKey (s.reg R.RTC_TIME) (s.reg R.RTC_DATE)
      let alm := rtcKey (s.reg R.RTC_ALM_TIME) (s.reg R.RTC_ALM_DATE)
      let ctl := R.RTC_ALM_CTRL
      (s.coreOn = true → s.rtc.locked = true → ∀ c ∈ ([.rtcSet, .rtcCapture, .trecClr, .rtcArm, .rtcDisarm] : List Instr), exec c s = .next s) ∧
      (s.coreOn = true → s.rtc.locked = false →
        (∀ n, rtcSeconds (s.reg R.RTC_SET_TIME) (s.reg R.RTC_SET_DATE) = some n → ∃ t : State, exec .rtcSet s = .next t ∧
          t.reg R.RTC_TIME = (rtcWords n).1 ∧ t.reg R.RTC_DATE = (rtcWords n).2 ∧ t.flag R.RTC_STAT F.RTC_STAT_VALID = true ∧
          (s.flag ctl F.RTC_ALM_CTRL_ARMED = false → t.reg ctl = s.reg ctl)) ∧
        (rtcSeconds (s.reg R.RTC_SET_TIME) (s.reg R.RTC_SET_DATE) = none → exec .rtcSet s = .next (s.event Ev.RTC_BAD_VALUE)) ∧
        (∃ t : State, exec .rtcCapture s = .next t ∧ t.reg R.RTC_TS_TIME = s.reg R.RTC_TIME ∧ t.reg R.RTC_TS_DATE = s.reg R.RTC_DATE ∧
          F.RTC_TS_REQ_TICK.get (t.reg R.RTC_TS_REQ) = s.tickNo % 8192 ∧ t.reg R.RTC_TIME = s.reg R.RTC_TIME) ∧
        (∃ t : State, exec .trecClr s = .next t ∧ t.reg R.RTC_TREC_CTL = 0 ∧ t.reg R.RTC_TREC_FIRST_TIME = 0 ∧ t.reg R.RTC_TREC_LAST_TIME = 0) ∧
        (now < alm → ∃ t : State, exec .rtcArm s = .next t ∧ t.flag ctl F.RTC_ALM_CTRL_ARMED = true ∧ t.flag ctl F.RTC_ALM_CTRL_FIRED = false ∧
          t.flag ctl F.RTC_ALM_CTRL_LATE = false) ∧
        (alm ≤ now → ∃ t : State, exec .rtcArm s = .next t ∧ t.flag ctl F.RTC_ALM_CTRL_ARMED = false ∧ t.flag ctl F.RTC_ALM_CTRL_FIRED = true ∧
          t.flag ctl F.RTC_ALM_CTRL_LATE = decide (alm < now)) ∧
        (∃ t : State, exec .rtcDisarm s = .next t ∧ t.flag ctl F.RTC_ALM_CTRL_ARMED = false ∧
          t.flag ctl F.RTC_ALM_CTRL_FIRED = s.flag ctl F.RTC_ALM_CTRL_FIRED ∧ ∀ a, a ≠ ctl → t.reg a = s.reg a)) ∧
      (s.flag ctl F.RTC_ALM_CTRL_ARMED = true → alm ≤ now → ∃ t : State, exec .rtcAlarm s = .next t ∧ t.flag ctl F.RTC_ALM_CTRL_FIRED = true ∧
        t.flag ctl F.RTC_ALM_CTRL_ARMED = false ∧ t.flag ctl F.RTC_ALM_CTRL_LATE = decide (alm < now)) ∧
      (s.flag ctl F.RTC_ALM_CTRL_ARMED = false ∨ now < alm → exec .rtcAlarm s = .next s) ∧
      (s.rtcNow + 1 = rtcEnd → ∃ t : State, exec .rtcRollover s = .next t ∧ t.flag R.RTC_STAT F.RTC_STAT_VALID = false ∧
        rtcFields (t.reg R.RTC_TIME) (t.reg R.RTC_DATE) = some (2000, 1, 1, 0, 0, 0)) ∧
      (s.rtcNow + 1 ≠ rtcEnd → exec .rtcRollover s = .next s) ∧
      (∃ t : State, exec .backupSwitchToCell s = .next t ∧ t.rtc.locked = true ∧ t.rtc.onCell = true ∧ t.srf = s.srf) ∧
      (∃ t : State, exec .backupSwitchToMain s = .next t ∧ t.rtc.onCell = false ∧ t.rtc.locked = s.rtc.locked ∧ t.srf = s.srf) ∧
      (s.rtc.onCell = true → exec .backupRelease s = .next s) ∧
      (s.rtc.onCell = false → ∃ t : State, exec .backupRelease s = .next t ∧ t.rtc.locked = false ∧ t.srf = s.srf) ∧
      (s.coreOn = true → ∀ mv : Fin 4096, ∃ t : State, exec (.cellLow mv) s = .next t ∧ t.fld R.RTC_STAT F.RTC_STAT_CELL = mv ∧
        t.flag R.RTC_STAT F.RTC_STAT_CELL_LOW = true) ∧
      (s.rtc.onCell = false → exec .bkLost s = .next s) ∧
      (s.rtc.onCell = true → ∃ t : State, exec .bkLost s = .next t ∧ t.flag R.RTC_STAT F.RTC_STAT_BK_LOST = true ∧
        t.flag R.RTC_STAT F.RTC_STAT_BKMEM_CLR = true ∧ t.flag R.RTC_STAT F.RTC_STAT_VALID = false ∧ t.reg ctl = 0 ∧ t.rtc.bk = false ∧
        rtcFields (t.reg R.RTC_TIME) (t.reg R.RTC_DATE) = some (2000, 1, 1, 0, 0, 0) ∧ ∀ n, n < 16 → t.reg (R.RTC_BKMEM n) = 0)

/-- A record offered to a queue of fewer than 16 enters it with the next SEQ; a full queue keeps its records, sets OVF and counts the
loss. The global log holds 64: with records lost, one enters only with two places free, after a LOG_LOST record that carries the
count; records of tenants are masked there. A read of word 0 marks the selected record read, FREE frees the read ones and CLR_OVF
clears OVF. An enabled pin or comparator asks for a freeze; a freeze is accepted only in RETURN, or in FIELD with consent, with
nothing barring it, stops CORE and takes every output to its reset state, and otherwise is counted as refused with its cause.
While CORE is stopped a command of CORE changes nothing. Consent lapses; the witness's answer, or 480 ticks without one, ends the
request. A TAP instruction acts only under VREF_DBG; ROREAD gives the word at the address, or zero outside a freeze, and moves on
by 4. (23_errors_freeze) -/
def Obligations.ErrorsAndFreeze : Prop :=
  ∀ s : State,
      (∀ (p : Nat) (r : ErrRec), p < 128 →
        let t := s.offerQueue p r
        let q := (s.part p).errq.recs
        t.fld (R.ERR_PQ_STAT p) F.ERR_PQ_STAT_SEQ = (s.fld (R.ERR_PQ_STAT p) F.ERR_PQ_STAT_SEQ + 1) % 65536 ∧
        (q.length < 16 → (t.part p).errq.recs = q ++ [{ r with seq := (s.fld (R.ERR_PQ_STAT p) F.ERR_PQ_STAT_SEQ + 1) % 65536 }] ∧
          t.flag (R.ERR_PQ_STAT p) F.ERR_PQ_STAT_OVF = s.flag (R.ERR_PQ_STAT p) F.ERR_PQ_STAT_OVF) ∧
        (16 ≤ q.length → (t.part p).errq.recs = q ∧ t.flag (R.ERR_PQ_STAT p) F.ERR_PQ_STAT_OVF = true ∧
          t.fld (R.ERR_PQ_STAT p) F.ERR_PQ_STAT_LOST = min (s.fld (R.ERR_PQ_STAT p) F.ERR_PQ_STAT_LOST + 1) 255)) ∧
      (∀ r : ErrRec, let t := s.offerGlobal r
        let lost := s.fld R.ERR_GSTAT F.ERR_GSTAT_LOST
        (lost = 0 → s.err.glob.length < 64 → ∃ g : GRec, t.err.glob = s.err.glob ++ [g] ∧ g.read = false ∧
          (r.part ≠ 0 → r.part ≠ 0xFF → g.r.address = 0 ∧ g.r.detail = 0 ∧ g.r.masked = true)) ∧
        (lost = 0 → 64 ≤ s.err.glob.length → t.err.glob = s.err.glob ∧ t.fld R.ERR_GSTAT F.ERR_GSTAT_LOST = 1 ∧
          t.flag R.ERR_GSTAT F.ERR_GSTAT_OVF = true) ∧
        (lost ≠ 0 → 62 < s.err.glob.length → t.err.glob = s.err.glob ∧ t.fld R.ERR_GSTAT F.ERR_GSTAT_LOST = min (lost + 1) 255) ∧
        (lost ≠ 0 → s.err.glob.length ≤ 62 → ∃ g h : GRec, t.err.glob = s.err.glob ++ [g, h] ∧ g.r.cls = 18 ∧ g.r.detail = BitVec.ofNat 64 lost ∧
          h.r.cls = r.cls ∧ t.fld R.ERR_GSTAT F.ERR_GSTAT_LOST = 0)) ∧
      (s.coreOn = true →
        (∀ g : GRec, s.err.glob[s.fld R.ERR_GSEL ⟨0, 6⟩]? = some g → ∃ t : State, exec .globalWordRead s = .next t ∧
          t.err.glob[s.fld R.ERR_GSEL ⟨0, 6⟩]? = some { g with read := true } ∧ t.err.glob.length = s.err.glob.length ∧ t.srf = s.srf) ∧
        (∃ t : State, exec .errFree s = .next t ∧ t.err.glob = s.err.glob.filter (fun g => !g.read) ∧ t.srf = s.srf) ∧
        (∃ t : State, exec .errClrOvf s = .next t ∧ t.flag R.ERR_GSTAT F.ERR_GSTAT_OVF = false ∧ t.err = s.err ∧
          t.fld R.ERR_GSTAT F.ERR_GSTAT_LOST = s.fld R.ERR_GSTAT F.ERR_GSTAT_LOST) ∧
        ((s.boot.vref && s.flag R.ERR_FRZ_CFG F.ERR_FRZ_CFG_PIN_EN) = true → exec .freezeN s = .next (s.freezeTrigger 1 none 0xFF 0xFF)) ∧
        ((s.boot.vref && s.flag R.ERR_FRZ_CFG F.ERR_FRZ_CFG_PIN_EN) = false → exec .freezeN s = .next s) ∧
        (s.tick.running = true → s.flag R.ERR_FRZ_CFG F.ERR_FRZ_CFG_CMP_EN = true → s.absLo = s.reg R.ERR_FRZ_TICK →
          exec .freezeComparator s = .next (s.freezeTrigger 2 (some (s.fld R.ERR_FRZ_CYCLE F.ERR_FRZ_CYCLE_CYCLE)) 0xFF 0xFF)) ∧
        (s.absLo ≠ s.reg R.ERR_FRZ_TICK → exec .freezeComparator s = .next s) ∧
        (∀ failed : Bool, s.flag R.ERR_FRZ_STAT F.ERR_FRZ_STAT_CONSENT = true →
          (failed = true ∨ s.err.consentAt + 2880000 ≤ s.tick.count → ∃ t : State, exec (.consentLapse failed) s = .next t ∧
            t.flag R.ERR_FRZ_STAT F.ERR_FRZ_STAT_CONSENT = false ∧ ∀ a, a ≠ R.ERR_FRZ_STAT → t.reg a = s.reg a) ∧
          (failed = false → s.tick.count < s.err.consentAt + 2880000 → exec (.consentLapse failed) s = .next s)) ∧
        (∀ sess req k : Nat, s.moor.freeze = some (sess, req, k) →
          (∃ t : State, exec (.freezeConsentAnswer none) s = .next t ∧ t.moor.freeze = none ∧ t.err.consentDue = true ∧
            t.out = s.out ++ [Msg.reply sess req msOK true []]) ∧
          (∀ c : Fin 4, ∃ t : State, exec (.freezeConsentAnswer (some c)) s = .next t ∧ t.moor.freeze = none ∧ t.err = s.err ∧
            t.out = s.out ++ [Msg.reply sess req msREFUSED true [BitVec.ofNat 8 c]]) ∧
          (k + 480 ≤ s.tick.count → ∃ t : State, exec .freezeConsentTimeout s = .next t ∧ t.moor.freeze = none ∧
            t.out = s.out ++ [Msg.reply sess req msREFUSED true [4]]) ∧
          (s.tick.count < k + 480 → exec .freezeConsentTimeout s = .next s))) ∧
      (∀ (src part lamp : Nat) (cycle : Option Nat), src < 8 → s.err.frozen = false → let t := s.freezeTrigger src cycle part lamp
        (s.freezeLife = true → s.freezeIdle = true → t.err.frozen = true ∧ t.coreOn = false ∧ t.fld R.ERR_LAST_FRZ F.ERR_LAST_FRZ_SOURCE = src ∧
          t.reg R.ERR_LAST_FRZ_ABS = s.absLo ∧ t.pins.sq = [] ∧ t.pins.pse = [] ∧ t.pins.cageTx = [] ∧ t.mem = s.mem ∧ t.lamps = s.lamps ∧ t.parts = s.parts) ∧
        (s.freezeLife = false ∨ s.freezeIdle = false → part < 128 → t.err.frozen = false ∧ t.lamps = s.lamps ∧ t.mem = s.mem ∧
          t.fld R.ERR_FRZ_STAT F.ERR_FRZ_STAT_REFUSED = min (s.fld R.ERR_FRZ_STAT F.ERR_FRZ_STAT_REFUSED + 1) 65535 ∧
          t.fld R.ERR_FRZ_STAT F.ERR_FRZ_STAT_RCAUSE = if s.freezeLife then 2 else 1)) ∧
      (s.err.frozen = true → ∀ (inp : LandIn) (a : BitVec 32) (w : Word) (l : Fin 64) (f : RxFrame),
        ∀ c ∈ ([.landing inp, .launch, .registerWrite a w, .freezeN, .tileOpComplete l, .swap, .safeWatchdog, .frameReceived f] : List Instr),
          exec c s = .next s) ∧
      (s.boot.vref = true →
        (∃ t : State, exec .tapBypass s = .next t ∧ t.err.tapOut = 0 ∧ t.srf = s.srf) ∧
        (∃ t : State, exec .tapReadId s = .next t ∧ (t.err.tapOut.extractLsb' 0 64) = s.boot.serial ∧ t.err.tapOut.getLsbD 72 = s.err.frozen) ∧
        (∀ a : BitVec 32, ∃ t : State, exec (.tapRoAddr a) s = .next t ∧ t.err.tapAddr = a &&& 0xFFFFFFFC ∧ t.srf = s.srf) ∧
        (∃ t : State, exec .tapRoRead s = .next t ∧ t.err.tapAddr = s.err.tapAddr + 4 ∧ t.srf = s.srf ∧
          t.err.tapOut = (if s.err.frozen then (s.readOut s.err.tapAddr.toNat).setWidth 96 else 0)) ∧
        (s.err.frozen = true → ∃ t : State, exec (.tapFrzReset true) s = .next t ∧ t.err.frozen = false ∧
          t.fld R.ID_RESET F.ID_RESET_CAUSE = rcFREEZE_EXIT) ∧
        (s.err.frozen = false → exec (.tapFrzReset true) s = .next s) ∧ exec (.tapFrzReset false) s = .next s) ∧
      (s.boot.vref = false → ∀ c ∈ ([.tapBypass, .tapReadId, .tapRoAddr 0, .tapRoRead, .tapFrzReset true] : List Instr), exec c s = .next s)

/-- A datagram whose header breaks a rule, of another type, or for another unit changes nothing. A complete OPEN is answered with a
REJECT that names the first cause that holds, or opens a set-up with the role and keys of the exchange; a part of one waits, and
48 ticks without the next discard it. A CONFIRM with valid signatures makes the session READY, ends an older session of its role
instance and is answered, one without is rejected and its set-up ends; 4800 ticks without one end it too. A RECORD already
accepted, below the window of 64, of a session not READY or that fails authentication changes nothing; an accepted one counts as
heard, and its command waits for the landing, the fifth unanswered one gets BUSY. A relayed datagram goes on to the unit it names
with an entry for its session, one of 32. Sessions end after 288,000 idle ticks or 17,280,000 ticks of life. (24_mooring) -/
def Obligations.MooringSessions : Prop :=
  ∀ s : State, s.coreOn = true →
      (∀ (path : MoorPath) (d : List Byte),
        (moorParse d = none → exec (.moorOpen path d) s = .next s ∧ exec (.moorConfirm path d) s = .next s ∧ exec (.moorRecord path d) s = .next s ∧
          exec (.moorRelay path d) s = .next s) ∧
        (∀ h : MoorHd, moorParse d = some h →
          (s.forUs h.target = false → exec (.moorOpen path d) s = .next s ∧ exec (.moorConfirm path d) s = .next s ∧
            exec (.moorRecord path d) s = .next s) ∧
          (h.type ≠ dtOPEN → exec (.moorOpen path d) s = .next s) ∧
          (h.type ≠ dtCONFIRM ∨ s.session h.sess = none → exec (.moorConfirm path d) s = .next s) ∧
          (h.type ≠ dtRECORD ∨ s.session h.sess = none → exec (.moorRecord path d) s = .next s) ∧
          (h.type = dtOPEN → s.forUs h.target = true → (∀ e ∈ s.moor.opens, e.1 ≠ path) →
            (h.last = 0 → exec (.moorOpen path d) s = .next (s.openMsg path (d.drop 24))) ∧
            (h.last ≠ 0 → exec (.moorOpen path d) s =
              .next (s.setMoor (fun m => { m with opens := m.opens ++ [(path, ([(h.idx, d.drop 24)], (h.last, s.tick.count)))] })))) ∧
          (∀ x : Session, h.type = dtCONFIRM → s.forUs h.target = true → s.session h.sess = some x → x.ready = false → x.frags = [] → h.last = 0 →
            let b := d.drop 24
            let ok := b.length == 3405 && pairVerify x.leaf x.th2 (sub b 0 96) (sub b 96 3309)
            (ok = false → ∃ t : State, exec (.moorConfirm path d) s = .next t ∧ t.session h.sess = none ∧ ∃ m, t.out = s.out ++ [m]) ∧
            (ok = true → s.moorFull x.role x.part = true → ∃ t : State, exec (.moorConfirm path d) s = .next t ∧ t.session h.sess = none) ∧
            (ok = true → s.moorFull x.role x.part = false → ∃ t y, exec (.moorConfirm path d) s = .next t ∧ t.session h.sess = some y ∧
              y.ready = true ∧ y.role = x.role ∧ y.part = x.part ∧ y.began = s.tick.count ∧ y.path = path ∧ y.kcm = x.kcm ∧ y.kmc = x.kmc ∧
              y.seqOut = x.seqOut + 1 ∧ ∀ o, s.sameInstance x.role x.part = some o → o ≠ h.sess → t.session o = none)) ∧
          (∀ x : Session, h.type = dtRECORD → s.forUs h.target = true → s.session h.sess = some x →
            let body := d.drop 24
            let n := body.length - 16
            let opened := gcmDec x.kcm (beBytes 4 1 ++ beBytes 8 h.seq) (d.take 24) (body.take n) (body.drop n)
            (x.ready = false ∨ body.length < 16 ∨ h.seq ∈ x.seqIn ∨ (∃ k ∈ x.seqIn, h.seq + 63 ≤ k) ∨ opened = none →
              exec (.moorRecord path d) s = .next s) ∧
            (∀ pt, x.ready = true → 16 ≤ body.length → h.seq ≠ 0 → (∀ k ∈ x.seqIn, k < h.seq + 63 ∧ k ≠ h.seq) → opened = some pt →
              x.frags = [] → h.last = 0 → 8 ≤ pt.length → bit (beNat (sub pt 6 1)) 0 = false →
              let code := beNat (sub pt 0 2)
              let req := beNat (sub pt 2 2)
              ∃ t y, exec (.moorRecord path d) s = .next t ∧ t.session h.sess = some y ∧ h.seq ∈ y.seqIn ∧ y.heard = s.tick.count ∧ y.path = path ∧
                y.openReqs = x.openReqs ++ [(req, code)] ∧
                (4 ≤ x.openReqs.length → t.out = s.out ++ [Msg.reply h.sess req msBUSY true []] ∧ t.moor.cmds = s.moor.cmds) ∧
                (x.openReqs.length < 4 → beNat (sub pt 4 2) + 8 = pt.length → beNat (sub pt 6 2) = 0 →
                  t.moor.cmds = s.moor.cmds ++ [⟨h.sess, req, code, pt.drop 8⟩] ∧ t.out = s.out))) ∧
          (s.joined = true → path.hawser = false →
            (h.target = s.hawAddr ∨ 64 ≤ h.target → exec (.moorRelay path d) s = .next s) ∧
            (h.target ≠ s.hawAddr → h.target < 64 → s.moor.relays.length < 32 → ∃ t m, exec (.moorRelay path d) s = .next t ∧
              t.out = s.out ++ [m] ∧ (path, h.sess, h.target, s.tick.count) ∈ t.moor.relays ∧ t.moor.relays.length ≤ 32) ∧
            (h.target ≠ s.hawAddr → h.target < 64 → 32 ≤ s.moor.relays.length → (∀ e ∈ s.moor.relays, e.1 ≠ path ∨ e.2.1 ≠ h.sess) →
              exec (.moorRelay path d) s = .next (s.event Ev.MOOR_RELAY_FULL))) ∧
          (s.joined = false → exec (.moorRelay path d) s = .next s))) ∧
      (∀ (path : MoorPath) (b : List Byte), let c := Config.certChain (b.drop 136)
        (∀ n, s.openRefused b c = some n → s.openMsg path b = s.reject path n) ∧
        (b.length < 136 → s.openRefused b c = some rjFORMAT) ∧
        (136 ≤ b.length → beNat (sub b 2 2) + 136 = b.length → beNat (sub b 36 1) = 4 → beNat (sub b 133 3) = 0 →
          (2 ≤ s.setUps.length → s.openRefused b c = some rjBUSY) ∧
          (s.setUps.length < 2 → s.lcState = 0 ∨ s.lcState = 4 → s.openRefused b c = some rjSTATE) ∧
          (s.setUps.length < 2 → 0 < s.lcState → s.lcState < 4 → roleFits (beNat (sub b 0 1)) (beNat (sub b 1 1)) c.attr = false →
            s.openRefused b c = some rjROLE)) ∧
        (∀ z, s.openRefused b c = none → Config.ecdh ((s.newSession.2.random 32).2.random 48).1 (sub b 36 97) = some z →
          ∃ n x, (s.openMsg path b).session n = some x ∧ x.ready = false ∧ x.role = beNat (sub b 0 1) ∧ x.part = beNat (sub b 1 1) ∧
            x.began = s.tick.count ∧ x.path = path ∧ x.leaf = c.leaf ∧ x.kcm ++ x.kmc = kdf (sub z 0 48) (ascii "MOORING") x.th2 64 ∧
            (s.openMsg path b).srf = s.srf)) ∧
      (∀ (n : BitVec 32) (x : Session), s.session n.toNat = some x →
        (x.ready = false → x.began + 4800 ≤ s.tick.count → ∃ t : State, exec (.setupAbandoned n) s = .next t ∧ t.session n.toNat = none ∧ t.out = s.out) ∧
        (x.ready = true ∨ s.tick.count < x.began + 4800 → exec (.setupAbandoned n) s = .next s) ∧
        (x.ready = true → x.heard + 288000 ≤ s.tick.count → ∃ t : State, exec (.sessionIdleEnd n) s = .next t ∧ t.session n.toNat = none ∧ t.out = s.out) ∧
        (x.ready = false ∨ s.tick.count < x.heard + 288000 → exec (.sessionIdleEnd n) s = .next s) ∧
        (x.ready = true → x.began + 17280000 ≤ s.tick.count → ∃ t : State, exec (.sessionLifetimeEnd n) s = .next t ∧ t.session n.toNat = none) ∧
        (x.ready = false ∨ s.tick.count < x.began + 17280000 → exec (.sessionLifetimeEnd n) s = .next s) ∧
        (∀ path : MoorPath, n ≠ 0 → (x.fragAt + 48 ≤ s.tick.count → ∃ t : State, exec (.reassemblyTimeout path n) s = .next t ∧
            t.session n.toNat = some { x with frags := [] }) ∧
          (s.tick.count < x.fragAt + 48 → exec (.reassemblyTimeout path n) s = .next s))) ∧
      (∀ path : MoorPath, ∃ t : State, exec (.reassemblyTimeout path 0) s = .next t ∧ t.moor.sessions = s.moor.sessions ∧
        ∀ e, e ∈ t.moor.opens ↔ e ∈ s.moor.opens ∧ ¬ (e.1 = path ∧ e.2.2.2 + 48 ≤ s.tick.count)) ∧
      (∀ (path : MoorPath) (n : BitVec 32), ∃ t : State, exec (.relayEntryExpiry path n) s = .next t ∧ t.moor.sessions = s.moor.sessions ∧
        ∀ e, e ∈ t.moor.relays ↔ e ∈ s.moor.relays ∧ ¬ (e.1 = path ∧ e.2.1 = n.toNat ∧ e.2.2.2 + 288000 ≤ s.tick.count))

/-- In a READY session with fewer than 4 requests open every such command is registered and carried out at once. NOP answers OK; CLOSE
ends the session; a command of a wrong length gets LEN, and a TENANT command of another role ROLE. A TENANT session reaches its
own partition and OWNER partition 0: IMG-BEGIN with a good header opens the transfer, whose signatures are checked in window 7;
IMG-DATA in order adds to the body; IMG-END of a good image leaves it received; IMG-ABORT drops it; XCHG-ARM, DISARM and DISCARD
move the exchange; forces are entered, cleared and listed; a tile of the partition is read in the next step of its bank; records
read leave the queue; ERR-CLEAR clears OVF and LOST. REG-READ and REG-WRITE go word by word under the permissions of the role.
(24_mooring, 08_cyclic, 09_online_change) -/
def Obligations.MooringProgramCommands : Prop :=
  ∀ (s : State) (sess : BitVec 32) (req : BitVec 16) (x : Session), s.coreOn = true → s.session sess.toNat = some x → x.ready = true →
      x.openReqs.length < 4 →
      let b : MoorBy := ⟨sess.toNat, req.toNat, x.role, x.part⟩
      let reg (code : Nat) : State := s.setSession sess.toNat { x with heard := s.tick.count, openReqs := x.openReqs ++ [(req.toNat, code)] }
      (∀ e ∈ ([(.moorNop sess req, 0x0001, State.doNop), (.moorClose sess req, 0x0002, State.doClose)] :
          List ((List Byte → Instr) × Nat × (State → MoorBy → List Byte → State))),
        ∀ args : List Byte, exec (e.1 args) s = .next (e.2.2 (reg e.2.1) b args) ∧ (args ≠ [] → exec (e.1 args) s = .next ((reg e.2.1).mAns b msLEN))) ∧
      exec (.moorNop sess req []) s = .next ((reg 0x0001).mAns b msOK) ∧
      (∃ t : State, exec (.moorClose sess req []) s = .next t ∧ t.session sess.toNat = none) ∧
      (x.claim = true → ∀ args : List Byte, ∀ e ∈ ([(.regRead sess req args, 0x0010), (.regWrite sess req args, 0x0011), (.imgBegin sess req args, 0x0020),
          (.imgData sess req args, 0x0021), (.imgEnd sess req args, 0x0022), (.imgAbort sess req args, 0x0023), (.coldLoad sess req args, 0x0024),
          (.xchgStage sess req args, 0x0030), (.xchgArm sess req args, 0x0031), (.xchgDisarm sess req args, 0x0032),
          (.xchgDiscard sess req args, 0x0033), (.forceSet sess req args, 0x0040), (.forceClear sess req args, 0x0041),
          (.forceList sess req args, 0x0042), (.partStatus sess req args, 0x0050), (.tileRead sess req args, 0x0051),
          (.rstore sess req args, 0x0052), (.errRead sess req args, 0x0053), (.errClear sess req args, 0x0054),
          (.errCfg sess req args, 0x0055)] : List (Instr × Nat)), exec e.1 s = .next ((reg e.2).mAns b msROLE)) ∧
      (x.claim = false →
        (x.role ≠ roTENANT →
          (∀ a : Word, let args := beBytes 4 a.toNat ++ [1]
            let r := (reg 0x0010).srfRead (.moor sess.toNat x.role) a.toNat 0xFF false
            exec (.regRead sess req args) s =
              .next (r.2.2.reply sess.toNat req.toNat (if r.1 then msOK else msERR) true (beBytes 8 (if r.1 then 0 else 1) ++ beBytes 4 r.2.1.toNat))) ∧
          (∀ a w : Word, let args := beBytes 4 a.toNat ++ [1, 0, 0, 0] ++ beBytes 4 w.toNat
            let r := (reg 0x0011).srfWrite (.moor sess.toNat x.role) a.toNat w 0xFF false
            exec (.regWrite sess req args) s =
              .next (r.2.reply sess.toNat req.toNat (if r.1 then msOK else msERR) true (beBytes 8 (if r.1 then 0 else 1))))) ∧
        (x.role = roTENANT → ∀ args : List Byte, exec (.regRead sess req args) s = .next ((reg 0x0010).mAns b msROLE) ∧
          exec (.regWrite sess req args) s = .next ((reg 0x0011).mAns b msROLE)) ∧
        (∀ p : Nat, s.mPart b = some p → p < 128 →
          (∀ args : List Byte, 3561 ≤ args.length → argAt args 0 1 = p → argAt args 1 3 = 0 → s.pstate p ≠ psFree → s.pstate p ≠ psZeroising →
            (s.part p).xfer = none → (s.part p).received = none →
            ((imgHead (sub args 4 96)).isNone = true → exec (.imgBegin sess req args) s = .next ((reg 0x0020).mRefuse b xrIMAGE)) ∧
            ((imgHead (sub args 4 96)).isNone = false → ∃ t : State, exec (.imgBegin sess req args) s = .next t ∧
              (t.part p).xfer = some ⟨sub args 4 96, args.drop 100, [], false, some (sess.toNat, req.toNat)⟩ ∧
              t.moor.work = s.moor.work ++ [MoorWork.image p sess.toNat req.toNat] ∧
              t.out = s.out ++ [Msg.reply sess.toNat req.toNat msPENDING false []])) ∧
          (∀ (v : Transfer) (args : List Byte), (s.part p).xfer = some v → v.verified = true → 4 ≤ args.length → argAt args 0 4 = v.body.length →
            v.body.length + (args.length - 4) ≤ v.bodyLen → ∃ t : State, exec (.imgData sess req args) s = .next t ∧
              (t.part p).xfer = some { v with body := v.body ++ args.drop 4 } ∧ t.out = s.out ++ [Msg.reply sess.toNat req.toNat msOK true []]) ∧
          (∀ (v : Transfer) (i : Image), (s.part p).xfer = some v → v.verified = true → (imgHead v.head).bind (fun h => parseImage sha384 h v.body) = some i →
            (∀ y ∈ i.tiles, y.ident < 0xFFFE0000 ∨ 0xFFFE0FFF < y.ident) → ∃ t : State, exec (.imgEnd sess req []) s = .next t ∧
              (t.part p).xfer = none ∧ (t.part p).received = some { i with head := v.head, block := v.sigs } ∧
              t.out = s.out ++ [Msg.reply sess.toNat req.toNat msPENDING false [], Msg.reply sess.toNat req.toNat msOK true []]) ∧
          (∃ t : State, exec (.imgAbort sess req []) s = .next t ∧ (t.part p).xfer = none ∧ (t.part p).received = none ∧ (t.part p).xferTiles = []) ∧
          ((s.part p).received = none → exec (.coldLoad sess req []) s = .next ((reg 0x0024).mAns b msSTATE)) ∧
          (∀ i : Image, (s.part p).received = some i → s.pstate p ≠ psFree → s.pstate p ≠ psZeroising → (s.part p).coldLoad = none →
            let old := match (s.part p).prog with
              | some g => g.map
              | none => []
            let hyp := old.foldl (fun (t : State) l => t.freeTileAt l) (reg 0x0024)
            (hyp.coldRefused p i ≠ 0 → exec (.coldLoad sess req []) s = .next ((reg 0x0024).mRefuse b (hyp.coldRefused p i))) ∧
            (hyp.coldRefused p i = 0 → (hyp.allotTiles (fun _ => none) i.tiles [] (reg 0x0024)).1.any (fun y => y.isNone) = false →
              ∃ (t : State) (map : List Nat), exec (.coldLoad sess req []) s = .next t ∧ (t.part p).received = none ∧
                (t.part p).coldLoad = some (⟨i, map⟩, sess.toNat, req.toNat, false) ∧ map.length = (hyp.allotTiles (fun _ => none) i.tiles [] (reg 0x0024)).1.length ∧
                Msg.reply sess.toNat req.toNat msPENDING false [] ∈ t.out)) ∧
          (let r := (reg 0x0030).xchgStage p (some (sess.toNat, req.toNat))
           exec (.xchgStage sess req []) s = .next (if r.1 = 0 then r.2.mPend b else r.2.mRefuse b r.1)) ∧
          (∀ e ∈ ([(.xchgArm sess req [], xsSTAGED, xsARMED), (.xchgDisarm sess req [], xsARMED, xsSTAGED)] : List (Instr × Nat × Nat)),
            (s.xstate p = e.2.1 → ∃ t : State, exec e.1 s = .next t ∧ t.xstate p = e.2.2 ∧ t.out = s.out ++ [Msg.reply sess.toNat req.toNat msOK true []] ∧
              (∀ a, a ≠ R.ENG_XCHG_STAT p → t.reg a = s.reg a)) ∧
            (s.xstate p ≠ e.2.1 → ∃ t : State, exec e.1 s = .next t ∧ t.srf = s.srf ∧ t.out = s.out ++ [Msg.reply sess.toNat req.toNat msSTATE true []])) ∧
          (xsSTAGING ≤ s.xstate p → s.xstate p ≤ xsARMED → exec (.xchgDiscard sess req []) s =
            .next (((reg 0x0033).xchgDrop p xrDISCARDED).mAns b msOK)) ∧
          (∀ (ident : Word) (i : BitVec 16) (v : Word),
            (∀ c : Nat, s.forceRefused p ident.toNat i.toNat = some c →
              exec (.forceSet sess req (beBytes 4 ident.toNat ++ beBytes 2 i.toNat ++ [0, 0] ++ beBytes 4 v.toNat)) s = .next ((reg 0x0040).mRefuse b c)) ∧
            (s.forceRefused p ident.toNat i.toNat = none → s.forceShared p = false → ∃ t : State,
              exec (.forceSet sess req (beBytes 4 ident.toNat ++ beBytes 2 i.toNat ++ [0, 0] ++ beBytes 4 v.toNat)) s = .next t ∧
                (⟨ident.toNat, i.toNat, v⟩ : Force) ∈ (t.part p).forces ∧ t.out = s.out ++ [Msg.reply sess.toNat req.toNat msOK true []]) ∧
            (s.forceShared p = false → ∃ t : State, exec (.forceClear sess req (beBytes 4 ident.toNat ++ beBytes 2 i.toNat)) s = .next t ∧
              (∀ f : Force, f ∈ (t.part p).forces ↔ f ∈ (s.part p).forces ∧ ¬ (ident.toNat = 0 ∨ (f.ident = ident.toNat ∧ f.index = i.toNat))))) ∧
          exec (.forceList sess req []) s = .next ((reg 0x0042).mData b ((s.part p).forces.flatMap (fun f =>
            beBytes 4 f.ident ++ beBytes 2 f.index ++ beBytes 2 0 ++ beBytes 4 f.value.toNat))) ∧
          (∃ (t : State) (data : List Byte), exec (.partStatus sess req []) s = .next t ∧ t.out = s.out ++ [Msg.reply sess.toNat req.toNat msOK true data] ∧
            data.take 20 = [R.ENG_PART_STAT p, R.ENG_XCHG_STAT p, R.ENG_XCHG_TICK p, R.ERR_PQ_STAT p, R.TS_QUOTA p].flatMap
              (fun a => beBytes 4 (s.srfValue a).toNat)) ∧
          (∀ loc : Fin 4096, exec (.tileRead sess req (beBytes 2 loc.val)) s =
            .next (if s.dirValid loc && s.dirOwner loc == p then
                (reg 0x0051).setSteps (loc / 64) (s.steps (loc / 64) ++ [StepCmd.readOut sess.toNat req.toNat p loc])
              else (reg 0x0051).mRefuse b 1)) ∧
          (∀ r : Byte, exec (.rstore sess req [r]) s = .next (
            if s.flag (R.KEEP_RING_CFG r.toNat) F.KEEP_RING_CFG_VALID && s.ringPart r.toNat == p then ((reg 0x0052).askStore r.toNat).mAns b msOK
              else (reg 0x0052).mAns b msROLE)) ∧
          (∀ n : Byte, 0 < n.toNat → n.toNat ≤ 16 → ∃ t : State, exec (.errRead sess req [n]) s = .next t ∧
            (t.part p).errq.recs = (s.part p).errq.recs.drop n.toNat ∧
            t.out = s.out ++ [Msg.reply sess.toNat req.toNat msOK true (((s.part p).errq.recs.take n.toNat).flatMap (fun r => r.bytes))]) ∧
          (∃ t : State, exec (.errClear sess req []) s = .next t ∧ t.flag (R.ERR_PQ_STAT p) F.ERR_PQ_STAT_OVF = false ∧
            t.fld (R.ERR_PQ_STAT p) F.ERR_PQ_STAT_LOST = 0 ∧ ∀ a, a ≠ R.ERR_PQ_STAT p → t.reg a = s.reg a) ∧
          (∀ w : Word, let l := F.ERR_PQ_CFG_LOC.get w
            (w.getLsbD 31 = false ∨ (s.dirValid l && s.isInbox l && s.dirOwner l == p) = true →
              ∃ t : State, exec (.errCfg sess req (beBytes 4 w.toNat)) s = .next t ∧ t.reg (R.ERR_PQ_CFG p) = w &&& 0xCFFFFFFF ∧
                ∀ a, a ≠ R.ERR_PQ_CFG p → t.reg a = s.reg a) ∧
            (w.getLsbD 31 = true → (s.dirValid l && s.isInbox l && s.dirOwner l == p) = false →
              exec (.errCfg sess req (beBytes 4 w.toNat)) s = .next ((reg 0x0055).mRefuse b 1)))) ∧
        (s.mPart b = none → ∀ args : List Byte, ∀ e ∈ ([(.imgBegin sess req args, 0x0020), (.coldLoad sess req args, 0x0024), (.xchgStage sess req args, 0x0030),
          (.forceSet sess req args, 0x0040), (.tileRead sess req args, 0x0051), (.errRead sess req args, 0x0053)] : List (Instr × Nat)),
          exec e.1 s = .next ((reg e.2).mAns b msROLE))) ∧
      (∀ (p : Fin 128) g se rq, (s.part p).coldLoad = some (g, se, rq, false) →
        (s.stepsWait p = true → exec (.coldLoadPlaced p) s = .next s) ∧
        (s.stepsWait p = false → ∃ t : State, exec (.coldLoadPlaced p) s = .next t ∧ (t.part p).coldLoad = some (g, se, rq, true) ∧ (t.part p).prog = some g))

/-- The CRC starts at 0xFFFF_FFFF; for each byte in ascending order it is XORed into the register, which is then shifted down eight
times, the polynomial 0x82F6_3B78 (0x1EDC_6F41 reflected) XORed in wherever the bit shifted out is 1; a final XOR with 0xFFFF_FFFF
ends it. Over the ASCII string "123456789" it gives 0xE306_9283. A tile written with a CRC of its own carries it over its bytes 0
to 4091, least significant byte first, in bytes 4092 to 4095. (R107) -/
def Obligations.TileChecksum : Prop :=
  (∀ bs : List Byte,
      let bit (c : BitVec 32) : BitVec 32 := if c.getLsbD 0 then (c >>> 1) ^^^ 0x82F63B78#32 else c >>> 1
      let step (c : BitVec 32) (b : Byte) : BitVec 32 := bit (bit (bit (bit (bit (bit (bit (bit (c ^^^ b.zeroExtend 32))))))))
      BitVec.ofNat 32 (crc32c bs) = (bs.foldl step 0xFFFFFFFF#32) ^^^ 0xFFFFFFFF#32 ∧ crc32c bs < 2 ^ 32) ∧
    (∀ i, i < 32 → (0x82F63B78#32).getLsbD i = (0x1EDC6F41#32).getLsbD (31 - i)) ∧
    crc32c [0x31, 0x32, 0x33, 0x34, 0x35, 0x36, 0x37, 0x38, 0x39] = 0xE3069283 ∧
    (∀ (payload : List Byte) (owner kind flags ident : Nat) (gen key : Word),
      let t := sealTile payload owner kind flags ident gen key
      t.length = 4096 ∧ ∀ i, i < 4 → t.getD (4092 + i) 0 = BitVec.ofNat 8 (crc32c (t.take 4092) / 2 ^ (8 * i))) ∧
    (∀ (s : State) (loc : Nat) (c : Nat), s.dirValid loc = true → s.tiles.dirBad.contains loc = false →
      crc32c ((s.bytes (tileAddr loc) 4096).take 4092) ≠ leAt (s.bytes (tileAddr loc) 4096) 4092 4 → s.sealFail loc = some wcCRC)

/-- Where its predicate is true, a scan-evaluated instruction whose instance address lies in a window but is not 16-byte aligned
raises ALIGN, one whose address lies outside the windows raises ADDR, and one whose address is aligned in a window that is POISON
raises SEAL (once for a poisoned window). In each case pd is 0 and nothing is written. An address that is both outside the windows
and misaligned raises ADDR, which is a choice of the model (log entry 39). (R176) -/
def Obligations.ScanAddressFaults : Prop :=
  ∀ (s : State) (l : Fin 64) (q : PQ) (pd ps rp : Fin 8) (ra rb : Fin 32),
      s.coreOn = true → (s.lamp l).task.isSome →
      ∀ e ∈ ([(.ton l q pd ps ra rb, 0), (.tof l q pd ps ra rb, 0), (.tp l q pd ps ra rb, 0), (.ctu l q pd ps ra rb rp, rp),
          (.ctd l q pd ps ra rb rp, rp), (.edgeup l q pd ps ra rb, 0), (.edgedn l q pd ps ra rb, 0)] : List (Instr × Fin 8)),
        let u := s.settleP l [q.p, pd, ps, e.2]
        let a := (u.g l ra).toNat
        u.takes l q = true →
        (winOf a = none → ∃ word, exec e.1 s = .next (((u.raise l cADDR word 0 0 a).setP l pd false).advance l 1)) ∧
        (∀ w, winOf a = some w → let v := u.settleW l w
          (a % 16 ≠ 0 → ∃ word, exec e.1 s = .next (((v.raise l cALIGN word 0 0 a).setP l pd false).advance l 1)) ∧
          (a % 16 = 0 → (v.lamp l).win[w].st = .poison → (v.lamp l).win[w].told = false →
            ∃ word, exec e.1 s = .next ((((v.raise l cSEAL word (v.lamp l).win[w].cause (v.lamp l).win[w].loc a).setWin l w
              { (v.lamp l).win[w] with told := true }).setP l pd false).advance l 1)) ∧
          (a % 16 = 0 → (v.lamp l).win[w].st = .poison → (v.lamp l).win[w].told = true →
            exec e.1 s = .next ((v.setP l pd false).advance l 1)) ∧
          ∀ (x : TaskCtx) (cls addr b loc : Nat) (word : Word), (v.lamp l).task = some x → x.handler = false →
            (v.raise l cls word b loc addr).mem = v.mem ∧ (v.raise l cls word b loc addr).lamps = v.lamps)

/-- In a READY session with fewer than 4 requests open: XCHG-STATUS gives the exchange state and the digest; XCHG-SAFETY-AUTH under
the session's own unlock authorises the digest named; MULTI-CHANGE starts a change at the lighthouse while none runs; LOG-READ
marks what it returns read and LOG-FREE frees it; TIME-RESTEP, LAMP-SELFTEST and EXTRACT ask for theirs; FREEZE-CONSENT asks the
witness; READOUT-CONSENT sets the partition's bit and no other; key commands reach own slots only; ATTEST, ANCHOR-REPLACE and
TENANT-CLAIM with the right code wait for window 7, and a third wrong code voids it; OPEN-TENANCY allots a FREE partition and
draws its code; CLAIM installs the owner anchor once; the life-cycle commands ask for their transition from their states only, LC-
RETURN with a good token in time; the safety password commands answer with their status. Window 7 does the next waiting work.
(24_mooring, 19_security, 16_safety, 23_errors_freeze) -/
def Obligations.MooringModuleCommands : Prop :=
  ∀ (s : State) (sess : BitVec 32) (req : BitVec 16) (x : Session), s.coreOn = true → s.session sess.toNat = some x → x.ready = true →
      x.openReqs.length < 4 →
      let b : MoorBy := ⟨sess.toNat, req.toNat, x.role, x.part⟩
      let reg (code : Nat) : State := s.setSession sess.toNat { x with heard := s.tick.count, openReqs := x.openReqs ++ [(req.toNat, code)] }
      let u := reg
      (x.claim = true → ∀ args : List Byte, ∀ e ∈ ([(.xchgStatus sess req args, 0x0034), (.xchgSafetyAuth sess req args, 0x0035),
          (.multiChange sess req args, 0x0036), (.logRead sess req args, 0x0056), (.logFree sess req args, 0x0057),
          (.timeRestep sess req args, 0x0060), (.lampSelftest sess req args, 0x0061), (.moorExtract sess req args, 0x0062),
          (.freezeConsent sess req args, 0x0063), (.readoutConsent sess req args, 0x0064), (.keyStage sess req args, 0x0070),
          (.keyVerify sess req args, 0x0071), (.keyCommit sess req args, 0x0072), (.attest sess req args, 0x0078),
          (.anchorReplace sess req args, 0x0079), (.openTenancy sess req args, 0x0080), (.lcField sess req args, 0x0089),
          (.lcReturn sess req args, 0x008A), (.lcDecommission sess req args, 0x008B), (.safeUnlock sess req args, 0x0090),
          (.safePassword sess req args, 0x0091), (.safeLogRead sess req args, 0x0092)] : List (Instr × Nat)),
        exec e.1 s = .next ((reg e.2).mAns b msROLE)) ∧
      (x.claim = false →
        (∀ p : Fin 128, (s.mRole b roSAFETY || s.mPart b == some p.val) = true → exec (.xchgStatus sess req [BitVec.ofNat 8 p]) s =
          .next ((u 0x0034).mData b (beBytes 4 ((u 0x0034).srfValue (R.ENG_XCHG_STAT p)).toNat ++
            sub ((u 0x0034).rewrite (!(u 0x0034).bankB)).authDigest 0 48))) ∧
        (s.mRole b roSAFETY = true →
          (∀ (k : Nat) (args : List Byte), s.safe.unlock = some (sess.toNat, k) → args.length = 48 → ∃ t : State, exec (.xchgSafetyAuth sess req args) s = .next t ∧
            t.tick.safetyAuth = some (args, s.tick.count) ∧ t.safe.lastAuth = args ∧ t.out = s.out ++ [Msg.reply sess.toNat req.toNat msOK true []]) ∧
          (∀ args : List Byte, s.safe.unlock = none → args.length = 48 → exec (.xchgSafetyAuth sess req args) s = .next ((u 0x0035).mAns b msSTATE)) ∧
          (∀ args : List Byte, let r := (u 0x0090).safeUnlock sess.toNat args
            exec (.safeUnlock sess req args) s = .next (r.2.mAns b r.1) ∧
            (s.nopw = false → s.safe.lockedAt = none → s.passwordFits args = true → r.1 = msOK ∧ r.2.safe.unlock = some (sess.toNat, s.tick.count)) ∧
            (s.nopw = true ∨ s.safe.lockedAt.isSome = true → r.1 = msSTATE) ∧
            (s.nopw = false → s.safe.lockedAt = none → s.passwordFits args = false → r.1 = msAUTH ∧ r.2.safe.unlock = s.safe.unlock)) ∧
          (∀ old new : List Byte, old.length < 256 → new.length < 256 →
            let r := (u 0x0091).safePassword sess.toNat old new
            exec (.safePassword sess req ([BitVec.ofNat 8 old.length] ++ old ++ [BitVec.ofNat 8 new.length] ++ new)) s = .next (r.2.mAns b r.1)) ∧
          (∀ f n : Byte, exec (.safeLogRead sess req [f, n]) s = .next ((u 0x0092).mData b (((s.safe.log.drop f.toNat).take n.toNat).flatMap
            (fun e => beBytes 4 e.abs.toNat ++ beBytes 1 e.kind ++ beBytes 3 0 ++ beBytes 4 e.value.toNat ++ beBytes 4 e.cert.toNat))))) ∧
        (s.mRole b roOWNER = true →
          (∀ (n : Nat) (args : List Byte), args.length = 1 + 2 * n → argAt args 0 1 = n → 0 < n → n ≤ 64 →
            (changeUnits args n).any (fun e => 64 ≤ e.1 || e.2.any (fun p => decide (128 ≤ p))) = false →
            (s.lighthouse = false → exec (.multiChange sess req args) s = .next ((u 0x0036).mAns b msSTATE)) ∧
            (s.lighthouse = true → s.multi.change.isSome = true → exec (.multiChange sess req args) s = .next ((u 0x0036).mData b [3])) ∧
            (s.lighthouse = true → s.multi.change = none → exec (.multiChange sess req args) s =
              .next (((u 0x0036).changeStart (changeUnits args n) (some (sess.toNat, req.toNat))).mPend b))) ∧
          (∃ t : State, exec (.logFree sess req []) s = .next t ∧ t.err.glob = s.err.glob.filter (fun g => !g.read) ∧ t.srf = s.srf) ∧
          (let r := (u 0x0060).restep
           exec (.timeRestep sess req []) s = .next (if r.1 then r.2.mAns b msOK else r.2.mRefuse b (r.2.fld R.TIME_STAT F.TIME_STAT_RESTEP_ERR))) ∧
          (∀ p : Fin 128, p.val ≠ 0 →
            (s.pstate p ≠ psFree ∨ s.entropyOk = false → exec (.openTenancy sess req [BitVec.ofNat 8 p]) s = .next ((u 0x0080).mAns b msSTATE)) ∧
            (s.pstate p = psFree → s.entropyOk = true → ∃ (t : State) (code : List Byte), exec (.openTenancy sess req [BitVec.ofNat 8 p]) s = .next t ∧
              code.length = 16 ∧ t.pstate p = psIdle ∧ tget t.vault.codes p = some ⟨code, s.tick.count, 0⟩ ∧
              t.out = s.out ++ [Msg.reply sess.toNat req.toNat msOK true code])) ∧
          (s.boot.lcTo = none →
            (s.lcState = 1 → exec (.lcField sess req []) s = .next ((u 0x0089).askLc b 2)) ∧
            (s.lcState ≠ 1 → exec (.lcField sess req []) s = .next ((u 0x0089).mAns b msSTATE)) ∧
            (0 < s.lcState → s.lcState < 4 → exec (.lcDecommission sess req []) s = .next ((u 0x008B).askLc b 4)) ∧
            (s.lcState = 0 ∨ s.lcState = 4 → exec (.lcDecommission sess req []) s = .next ((u 0x008B).mAns b msSTATE)) ∧
            (∀ args : List Byte, args.length = 3477 → s.lcState = 2 →
              (s.tokenGood args = false → exec (.lcReturn sess req args) s = .next (((u 0x008A).event Ev.RETURN_TOKEN_REFUSED).mAns b msAUTH)) ∧
              (s.tokenGood args = true → s.timeKnown = false ∨ leAt args 16 8 < s.taiSec →
                exec (.lcReturn sess req args) s = .next (((u 0x008A).event Ev.RETURN_TOKEN_REFUSED).mAns b msSTATE)) ∧
              (s.tokenGood args = true → s.timeKnown = true → s.taiSec ≤ leAt args 16 8 →
                exec (.lcReturn sess req args) s = .next ((u 0x008A).askLc b 3))))) ∧
        (s.mRole b roOWNER = false → ∀ args : List Byte, ∀ e ∈ ([(.multiChange sess req args, 0x0036), (.logFree sess req args, 0x0057),
            (.timeRestep sess req args, 0x0060), (.openTenancy sess req args, 0x0080), (.claimOwner sess req args, 0x0088),
            (.lcField sess req args, 0x0089), (.lcReturn sess req args, 0x008A), (.lcDecommission sess req args, 0x008B)] : List (Instr × Nat)),
          exec e.1 s = .next ((reg e.2).mAns b msROLE)) ∧
        ((s.mRole b roOWNER || s.mRole b roSAFETY || s.mRole b roSERVICE) = true → ∀ f n : Byte, n.toNat ≤ 64 →
          ∃ t : State, exec (.logRead sess req [f, n]) s = .next t ∧ t.err.glob.length = s.err.glob.length ∧
            t.out = s.out ++ [Msg.reply sess.toNat req.toNat msOK true (((s.err.glob.drop f.toNat).take n.toNat).flatMap (fun g => g.r.bytes))] ∧
            (∀ (i : Nat) (g : GRec), s.err.glob[i]? = some g →
              t.err.glob[i]? = some (if f.toNat ≤ i ∧ i < f.toNat + n.toNat then { g with read := true } else g))) ∧
        ((s.mRole b roSERVICE || s.mRole b roOWNER) = true → ∀ n : Fin 64,
          exec (.lampSelftest sess req [BitVec.ofNat 8 n]) s = .next (((u 0x0061).selftest n).mAns b msOK) ∧ n.val ∈ ((u 0x0061).selftest n).eng.passing) ∧
        (s.mRole b roSERVICE = true →
          (let v := (u 0x0062).exRequest 2
           exec (.moorExtract sess req []) s = .next (v.mData b (beBytes 4 (v.srfValue R.ID_EXTRACT).toNat))) ∧
          (s.moor.freeze.isSome = true → exec (.freezeConsent sess req []) s = .next ((u 0x0063).mAns b msBUSY)) ∧
          (s.moor.freeze = none → s.twinOn = false → exec (.freezeConsent sess req []) s = .next ((u 0x0063).mRefuse b 1)) ∧
          (s.moor.freeze = none → s.twinOn = true → s.twinState ≠ twSTANDBY → s.twinState ≠ twSILENCED →
            exec (.freezeConsent sess req []) s = .next ((u 0x0063).mRefuse b 2)) ∧
          (s.moor.freeze = none → s.twinOn = true → s.twinState = twSTANDBY ∨ s.twinState = twSILENCED → ∃ t : State, exec (.freezeConsent sess req []) s = .next t ∧
            t.moor.freeze = some (sess.toNat, req.toNat, s.tick.count) ∧
            t.out = s.out ++ [Msg.mgmt 0xFF mtTWIN [2], Msg.reply sess.toNat req.toNat msPENDING false []])) ∧
        (∀ p : Nat, s.mPart b = some p → p < 128 →
          (∀ g : Bool, ∃ t : State, exec (.readoutConsent sess req [if g then 1 else 0]) s = .next t ∧
            (∀ a, a ≠ R.ERR_CONSENT (p / 32) → t.reg a = s.reg a) ∧
            ∀ i, i < 32 → (t.reg (R.ERR_CONSENT (p / 32))).getLsbD i = if i = p % 32 then g else (s.reg (R.ERR_CONSENT (p / 32))).getLsbD i) ∧
          (∀ n : Fin 64, s.slotOwner n ≠ some p → exec (.keyCommit sess req [BitVec.ofNat 8 n]) s = .next ((u 0x0072).mAns b msROLE)) ∧
          (∀ n : Fin 64, s.slotOwner n = some p →
            (let r := (u 0x0072).commitKey n
             exec (.keyCommit sess req [BitVec.ofNat 8 n]) s = .next (r.2.mVault b r.1)) ∧
            (∀ args : List Byte, args.length = 36 ∨ args.length = 68 → argAt args 0 1 = n → argAt args 1 3 = 0 →
              let r := (u 0x0071).verifyKey n (sub args 4 16) (args.drop 20)
              exec (.keyVerify sess req args) s = .next (r.2.mVault b r.1)) ∧
            (∀ args : List Byte, args.length = 10 + argAt args 8 2 → argAt args 0 1 = n →
              let type := argAt args 2 1
              let usage := argAt args 3 1
              let param := usage + 64 * argAt args 4 1 + 256 * type
              0 < type → type ≤ 6 → usage < 64 → argAt args 4 1 ≤ 1 → stageOk n type usage = true →
              (argAt args 1 1 = 2 → argAt args 8 2 = materialLen type → exec (.keyStage sess req args) s =
                .next (((u 0x0070).stage n (paramKey param (argAt args 5 3) (args.drop 10))).mAns b msOK)) ∧
              (argAt args 1 1 = 2 → argAt args 8 2 ≠ materialLen type → exec (.keyStage sess req args) s = .next ((u 0x0070).mRefuse b vsLEN)) ∧
              (argAt args 1 1 = 0 → type = ktAES ∨ type = ktHMAC → let r := (u 0x0070).generate n param (argAt args 5 3)
                exec (.keyStage sess req args) s = .next (r.2.mVault b r.1)))) ∧
          (∀ args : List Byte, args.length = 48 → ∃ t : State, exec (.attest sess req args) s = .next t ∧ t.out = s.out ∧
            t.moor.work = s.moor.work ++ [.attest sess.toNat req.toNat ((u 0x0078).report p args)]) ∧
          (∀ args : List Byte, args.length = 5454 →
            (s.anchor p = none → exec (.anchorReplace sess req args) s = .next ((u 0x0079).mAns b msSTATE)) ∧
            (s.anchor p ≠ none → ∃ t : State, exec (.anchorReplace sess req args) s = .next t ∧
              t.moor.work = s.moor.work ++ [.anchor p sess.toNat req.toNat args] ∧ t.vault = s.vault)))) ∧
      (x.claim = true → x.role = roTENANT → ∀ code : List Byte, code.length = 16 →
        (tget s.vault.codes x.part = none → exec (.tenantClaim sess req code) s = .next ((u 0x0081).mAns b msAUTH)) ∧
        (∀ c : ClaimCode, tget s.vault.codes x.part = some c →
          (c.code = code → ∃ t : State, exec (.tenantClaim sess req code) s = .next t ∧ t.vault = s.vault ∧
            t.moor.work = s.moor.work ++ [.claim x.part sess.toNat req.toNat code]) ∧
          (c.code ≠ code → ∃ t : State, exec (.tenantClaim sess req code) s = .next t ∧ t.out = s.out ++ [Msg.reply sess.toNat req.toNat msAUTH true []] ∧
            tget t.vault.codes x.part = if 2 ≤ c.wrong then none else some { c with wrong := c.wrong + 1 }))) ∧
      (x.claim = false ∨ x.role ≠ roTENANT → ∀ args : List Byte, exec (.tenantClaim sess req args) s = .next ((u 0x0081).mAns b msROLE)) ∧
      (s.mRole b roOWNER = true →
        (s.lcState = 1 → x.claim = true → s.anchor 0 = none → ∃ (t : State) (y : Session), exec (.claimOwner sess req []) s = .next t ∧
          t.anchor 0 = some x.root ∧ t.session sess.toNat = some y ∧ y.claim = false ∧ t.out = s.out ++ [Msg.reply sess.toNat req.toNat msOK true []]) ∧
        (s.lcState ≠ 1 ∨ x.claim = false ∨ s.anchor 0 ≠ none → exec (.claimOwner sess req []) s = .next ((u 0x0088).mAns b msSTATE))) ∧
      (s.tick.abs % 96 / 12 ≠ 7 → exec (.asymWindowRun 7) s = .next s) ∧
      (s.tick.abs % 96 / 12 = 7 →
        (s.moor.work = [] → exec (.asymWindowRun 7) s = .next s) ∧
        (∀ (w : MoorWork) (rest : List MoorWork), s.moor.work = w :: rest → ∃ t : State, exec (.asymWindowRun 7) s = .next t ∧ t.moor.work = rest ∧
          (∀ (p se rq : Nat) (v : Transfer), w = .image p se rq → (s.part p).xfer = some v →
            let fits := s.fld (R.TS_QUOTA p) F.TS_QUOTA_USED + xferCount v.bodyLen ≤ s.fld (R.TS_QUOTA p) F.TS_QUOTA_LIMIT
            (s.signedFor p v.head v.sigs = false → (t.part p).xfer = none ∧ t.out = s.out ++ [Msg.reply se rq msREFUSED true [BitVec.ofNat 8 xrIMAGE]]) ∧
            (s.signedFor p v.head v.sigs = true → ¬ fits → (t.part p).xfer = none ∧ t.out = s.out ++ [Msg.reply se rq msREFUSED true [BitVec.ofNat 8 xrQUOTA]]) ∧
            (s.signedFor p v.head v.sigs = true → fits → (t.part p).xfer = some { v with verified := true, reply := none } ∧
              t.out = s.out ++ [Msg.reply se rq msOK true []])) ∧
          (∀ (se rq : Nat) (rep : List Byte), w = .attest se rq rep → ∃ sig : List Byte, t.out = s.out ++ [Msg.reply se rq msOK true (rep ++ sig)]) ∧
          (∀ (p se rq : Nat) (args old : List Byte), w = .anchor p se rq args → s.anchor p = some old →
            let good := pairVerify old (sha384 (args.take 2049) ++ beBytes 8 s.boot.serial.toNat ++ beBytes 4 (tgetD s.vault.ten p 0)) (sub args 2049 96)
              (sub args 2145 3309)
            t.anchor p = (if good then some (args.take 2049) else some old) ∧ t.out = s.out ++ [Msg.reply se rq (if good then msOK else msAUTH) true []]) ∧
          (∀ (p se rq : Nat) (code : List Byte) (y : Session) (c : ClaimCode), w = .claim p se rq code → s.session se = some y →
            tget s.vault.codes p = some c → c.code = code → t.anchor p = some y.root ∧ tget t.vault.codes p = none)))
end

