-- ==== Sys2Proof/Laws/State.lean ====
section
/-!
SUPPORT. What each update of the state leaves alone: one lemma for each field and each named update, so that no proof unfolds a record
update.
-/
namespace Sys2Proof.Machine


/-! ### setReg -/
@[simp] theorem State.setReg_pending (s : State) (a : Nat) (w : Word) : (s.setReg a w).pending = s.pending := rfl
@[simp] theorem State.setReg_free (s : State) (a : Nat) (w : Word) : (s.setReg a w).free = s.free := rfl
@[simp] theorem State.setReg_mem (s : State) (a : Nat) (w : Word) : (s.setReg a w).mem = s.mem := rfl
@[simp] theorem State.setReg_tick (s : State) (a : Nat) (w : Word) : (s.setReg a w).tick = s.tick := rfl
@[simp] theorem State.setReg_lamps (s : State) (a : Nat) (w : Word) : (s.setReg a w).lamps = s.lamps := rfl
@[simp] theorem State.setReg_parts (s : State) (a : Nat) (w : Word) : (s.setReg a w).parts = s.parts := rfl
@[simp] theorem State.setReg_tiles (s : State) (a : Nat) (w : Word) : (s.setReg a w).tiles = s.tiles := rfl
@[simp] theorem State.setReg_eng (s : State) (a : Nat) (w : Word) : (s.setReg a w).eng = s.eng := rfl
@[simp] theorem State.setReg_clu (s : State) (a : Nat) (w : Word) : (s.setReg a w).clu = s.clu := rfl
@[simp] theorem State.setReg_sv (s : State) (a : Nat) (w : Word) : (s.setReg a w).sv = s.sv := rfl
@[simp] theorem State.setReg_trip (s : State) (a : Nat) (w : Word) : (s.setReg a w).trip = s.trip := rfl
@[simp] theorem State.setReg_err (s : State) (a : Nat) (w : Word) : (s.setReg a w).err = s.err := rfl
@[simp] theorem State.setReg_boot (s : State) (a : Nat) (w : Word) : (s.setReg a w).boot = s.boot := rfl
@[simp] theorem State.setReg_pins (s : State) (a : Nat) (w : Word) : (s.setReg a w).pins = s.pins := rfl
@[simp] theorem State.setReg_rtc (s : State) (a : Nat) (w : Word) : (s.setReg a w).rtc = s.rtc := rfl
@[simp] theorem State.setReg_twin (s : State) (a : Nat) (w : Word) : (s.setReg a w).twin = s.twin := rfl
@[simp] theorem State.setReg_keep (s : State) (a : Nat) (w : Word) : (s.setReg a w).keep = s.keep := rfl
@[simp] theorem State.setReg_out (s : State) (a : Nat) (w : Word) : (s.setReg a w).out = s.out := rfl
@[simp] theorem State.setReg_sw (s : State) (a : Nat) (w : Word) : (s.setReg a w).sw = s.sw := rfl
@[simp] theorem State.setReg_time (s : State) (a : Nat) (w : Word) : (s.setReg a w).time = s.time := rfl
@[simp] theorem State.setReg_can (s : State) (a : Nat) (w : Word) : (s.setReg a w).can = s.can := rfl
@[simp] theorem State.setReg_spe (s : State) (a : Nat) (w : Word) : (s.setReg a w).spe = s.spe := rfl
@[simp] theorem State.setReg_safe (s : State) (a : Nat) (w : Word) : (s.setReg a w).safe = s.safe := rfl
@[simp] theorem State.setReg_moor (s : State) (a : Nat) (w : Word) : (s.setReg a w).moor = s.moor := rfl
@[simp] theorem State.setReg_haw (s : State) (a : Nat) (w : Word) : (s.setReg a w).haw = s.haw := rfl
@[simp] theorem State.setReg_multi (s : State) (a : Nat) (w : Word) : (s.setReg a w).multi = s.multi := rfl
@[simp] theorem State.setReg_vault (s : State) (a : Nat) (w : Word) : (s.setReg a w).vault = s.vault := rfl
@[simp] theorem State.setReg_met (s : State) (a : Nat) (w : Word) : (s.setReg a w).met = s.met := rfl

/-! ### setFld -/
@[simp] theorem State.setFld_pending (s : State) (a : Nat) (f : Fld) (v : Nat) : (s.setFld a f v).pending = s.pending := rfl
@[simp] theorem State.setFld_free (s : State) (a : Nat) (f : Fld) (v : Nat) : (s.setFld a f v).free = s.free := rfl
@[simp] theorem State.setFld_mem (s : State) (a : Nat) (f : Fld) (v : Nat) : (s.setFld a f v).mem = s.mem := rfl
@[simp] theorem State.setFld_tick (s : State) (a : Nat) (f : Fld) (v : Nat) : (s.setFld a f v).tick = s.tick := rfl
@[simp] theorem State.setFld_lamps (s : State) (a : Nat) (f : Fld) (v : Nat) : (s.setFld a f v).lamps = s.lamps := rfl
@[simp] theorem State.setFld_parts (s : State) (a : Nat) (f : Fld) (v : Nat) : (s.setFld a f v).parts = s.parts := rfl
@[simp] theorem State.setFld_tiles (s : State) (a : Nat) (f : Fld) (v : Nat) : (s.setFld a f v).tiles = s.tiles := rfl
@[simp] theorem State.setFld_eng (s : State) (a : Nat) (f : Fld) (v : Nat) : (s.setFld a f v).eng = s.eng := rfl
@[simp] theorem State.setFld_clu (s : State) (a : Nat) (f : Fld) (v : Nat) : (s.setFld a f v).clu = s.clu := rfl
@[simp] theorem State.setFld_sv (s : State) (a : Nat) (f : Fld) (v : Nat) : (s.setFld a f v).sv = s.sv := rfl
@[simp] theorem State.setFld_trip (s : State) (a : Nat) (f : Fld) (v : Nat) : (s.setFld a f v).trip = s.trip := rfl
@[simp] theorem State.setFld_err (s : State) (a : Nat) (f : Fld) (v : Nat) : (s.setFld a f v).err = s.err := rfl
@[simp] theorem State.setFld_boot (s : State) (a : Nat) (f : Fld) (v : Nat) : (s.setFld a f v).boot = s.boot := rfl
@[simp] theorem State.setFld_pins (s : State) (a : Nat) (f : Fld) (v : Nat) : (s.setFld a f v).pins = s.pins := rfl
@[simp] theorem State.setFld_rtc (s : State) (a : Nat) (f : Fld) (v : Nat) : (s.setFld a f v).rtc = s.rtc := rfl
@[simp] theorem State.setFld_twin (s : State) (a : Nat) (f : Fld) (v : Nat) : (s.setFld a f v).twin = s.twin := rfl
@[simp] theorem State.setFld_keep (s : State) (a : Nat) (f : Fld) (v : Nat) : (s.setFld a f v).keep = s.keep := rfl
@[simp] theorem State.setFld_out (s : State) (a : Nat) (f : Fld) (v : Nat) : (s.setFld a f v).out = s.out := rfl
@[simp] theorem State.setFld_sw (s : State) (a : Nat) (f : Fld) (v : Nat) : (s.setFld a f v).sw = s.sw := rfl
@[simp] theorem State.setFld_time (s : State) (a : Nat) (f : Fld) (v : Nat) : (s.setFld a f v).time = s.time := rfl
@[simp] theorem State.setFld_can (s : State) (a : Nat) (f : Fld) (v : Nat) : (s.setFld a f v).can = s.can := rfl
@[simp] theorem State.setFld_spe (s : State) (a : Nat) (f : Fld) (v : Nat) : (s.setFld a f v).spe = s.spe := rfl
@[simp] theorem State.setFld_safe (s : State) (a : Nat) (f : Fld) (v : Nat) : (s.setFld a f v).safe = s.safe := rfl
@[simp] theorem State.setFld_moor (s : State) (a : Nat) (f : Fld) (v : Nat) : (s.setFld a f v).moor = s.moor := rfl
@[simp] theorem State.setFld_haw (s : State) (a : Nat) (f : Fld) (v : Nat) : (s.setFld a f v).haw = s.haw := rfl
@[simp] theorem State.setFld_multi (s : State) (a : Nat) (f : Fld) (v : Nat) : (s.setFld a f v).multi = s.multi := rfl
@[simp] theorem State.setFld_vault (s : State) (a : Nat) (f : Fld) (v : Nat) : (s.setFld a f v).vault = s.vault := rfl
@[simp] theorem State.setFld_met (s : State) (a : Nat) (f : Fld) (v : Nat) : (s.setFld a f v).met = s.met := rfl

/-! ### setFlag -/
@[simp] theorem State.setFlag_pending (s : State) (a : Nat) (f : Fld) (b : Bool) : (s.setFlag a f b).pending = s.pending := rfl
@[simp] theorem State.setFlag_free (s : State) (a : Nat) (f : Fld) (b : Bool) : (s.setFlag a f b).free = s.free := rfl
@[simp] theorem State.setFlag_mem (s : State) (a : Nat) (f : Fld) (b : Bool) : (s.setFlag a f b).mem = s.mem := rfl
@[simp] theorem State.setFlag_tick (s : State) (a : Nat) (f : Fld) (b : Bool) : (s.setFlag a f b).tick = s.tick := rfl
@[simp] theorem State.setFlag_lamps (s : State) (a : Nat) (f : Fld) (b : Bool) : (s.setFlag a f b).lamps = s.lamps := rfl
@[simp] theorem State.setFlag_parts (s : State) (a : Nat) (f : Fld) (b : Bool) : (s.setFlag a f b).parts = s.parts := rfl
@[simp] theorem State.setFlag_tiles (s : State) (a : Nat) (f : Fld) (b : Bool) : (s.setFlag a f b).tiles = s.tiles := rfl
@[simp] theorem State.setFlag_eng (s : State) (a : Nat) (f : Fld) (b : Bool) : (s.setFlag a f b).eng = s.eng := rfl
@[simp] theorem State.setFlag_clu (s : State) (a : Nat) (f : Fld) (b : Bool) : (s.setFlag a f b).clu = s.clu := rfl
@[simp] theorem State.setFlag_sv (s : State) (a : Nat) (f : Fld) (b : Bool) : (s.setFlag a f b).sv = s.sv := rfl
@[simp] theorem State.setFlag_trip (s : State) (a : Nat) (f : Fld) (b : Bool) : (s.setFlag a f b).trip = s.trip := rfl
@[simp] theorem State.setFlag_err (s : State) (a : Nat) (f : Fld) (b : Bool) : (s.setFlag a f b).err = s.err := rfl
@[simp] theorem State.setFlag_boot (s : State) (a : Nat) (f : Fld) (b : Bool) : (s.setFlag a f b).boot = s.boot := rfl
@[simp] theorem State.setFlag_pins (s : State) (a : Nat) (f : Fld) (b : Bool) : (s.setFlag a f b).pins = s.pins := rfl
@[simp] theorem State.setFlag_rtc (s : State) (a : Nat) (f : Fld) (b : Bool) : (s.setFlag a f b).rtc = s.rtc := rfl
@[simp] theorem State.setFlag_twin (s : State) (a : Nat) (f : Fld) (b : Bool) : (s.setFlag a f b).twin = s.twin := rfl
@[simp] theorem State.setFlag_keep (s : State) (a : Nat) (f : Fld) (b : Bool) : (s.setFlag a f b).keep = s.keep := rfl
@[simp] theorem State.setFlag_out (s : State) (a : Nat) (f : Fld) (b : Bool) : (s.setFlag a f b).out = s.out := rfl
@[simp] theorem State.setFlag_sw (s : State) (a : Nat) (f : Fld) (b : Bool) : (s.setFlag a f b).sw = s.sw := rfl
@[simp] theorem State.setFlag_time (s : State) (a : Nat) (f : Fld) (b : Bool) : (s.setFlag a f b).time = s.time := rfl
@[simp] theorem State.setFlag_can (s : State) (a : Nat) (f : Fld) (b : Bool) : (s.setFlag a f b).can = s.can := rfl
@[simp] theorem State.setFlag_spe (s : State) (a : Nat) (f : Fld) (b : Bool) : (s.setFlag a f b).spe = s.spe := rfl
@[simp] theorem State.setFlag_safe (s : State) (a : Nat) (f : Fld) (b : Bool) : (s.setFlag a f b).safe = s.safe := rfl
@[simp] theorem State.setFlag_moor (s : State) (a : Nat) (f : Fld) (b : Bool) : (s.setFlag a f b).moor = s.moor := rfl
@[simp] theorem State.setFlag_haw (s : State) (a : Nat) (f : Fld) (b : Bool) : (s.setFlag a f b).haw = s.haw := rfl
@[simp] theorem State.setFlag_multi (s : State) (a : Nat) (f : Fld) (b : Bool) : (s.setFlag a f b).multi = s.multi := rfl
@[simp] theorem State.setFlag_vault (s : State) (a : Nat) (f : Fld) (b : Bool) : (s.setFlag a f b).vault = s.vault := rfl
@[simp] theorem State.setFlag_met (s : State) (a : Nat) (f : Fld) (b : Bool) : (s.setFlag a f b).met = s.met := rfl

/-! ### incFld -/
@[simp] theorem State.incFld_pending (s : State) (a : Nat) (f : Fld) (top : Nat) : (s.incFld a f top).pending = s.pending := rfl
@[simp] theorem State.incFld_free (s : State) (a : Nat) (f : Fld) (top : Nat) : (s.incFld a f top).free = s.free := rfl
@[simp] theorem State.incFld_mem (s : State) (a : Nat) (f : Fld) (top : Nat) : (s.incFld a f top).mem = s.mem := rfl
@[simp] theorem State.incFld_tick (s : State) (a : Nat) (f : Fld) (top : Nat) : (s.incFld a f top).tick = s.tick := rfl
@[simp] theorem State.incFld_lamps (s : State) (a : Nat) (f : Fld) (top : Nat) : (s.incFld a f top).lamps = s.lamps := rfl
@[simp] theorem State.incFld_parts (s : State) (a : Nat) (f : Fld) (top : Nat) : (s.incFld a f top).parts = s.parts := rfl
@[simp] theorem State.incFld_tiles (s : State) (a : Nat) (f : Fld) (top : Nat) : (s.incFld a f top).tiles = s.tiles := rfl
@[simp] theorem State.incFld_eng (s : State) (a : Nat) (f : Fld) (top : Nat) : (s.incFld a f top).eng = s.eng := rfl
@[simp] theorem State.incFld_clu (s : State) (a : Nat) (f : Fld) (top : Nat) : (s.incFld a f top).clu = s.clu := rfl
@[simp] theorem State.incFld_sv (s : State) (a : Nat) (f : Fld) (top : Nat) : (s.incFld a f top).sv = s.sv := rfl
@[simp] theorem State.incFld_trip (s : State) (a : Nat) (f : Fld) (top : Nat) : (s.incFld a f top).trip = s.trip := rfl
@[simp] theorem State.incFld_err (s : State) (a : Nat) (f : Fld) (top : Nat) : (s.incFld a f top).err = s.err := rfl
@[simp] theorem State.incFld_boot (s : State) (a : Nat) (f : Fld) (top : Nat) : (s.incFld a f top).boot = s.boot := rfl
@[simp] theorem State.incFld_pins (s : State) (a : Nat) (f : Fld) (top : Nat) : (s.incFld a f top).pins = s.pins := rfl
@[simp] theorem State.incFld_rtc (s : State) (a : Nat) (f : Fld) (top : Nat) : (s.incFld a f top).rtc = s.rtc := rfl
@[simp] theorem State.incFld_twin (s : State) (a : Nat) (f : Fld) (top : Nat) : (s.incFld a f top).twin = s.twin := rfl
@[simp] theorem State.incFld_keep (s : State) (a : Nat) (f : Fld) (top : Nat) : (s.incFld a f top).keep = s.keep := rfl
@[simp] theorem State.incFld_out (s : State) (a : Nat) (f : Fld) (top : Nat) : (s.incFld a f top).out = s.out := rfl
@[simp] theorem State.incFld_sw (s : State) (a : Nat) (f : Fld) (top : Nat) : (s.incFld a f top).sw = s.sw := rfl
@[simp] theorem State.incFld_time (s : State) (a : Nat) (f : Fld) (top : Nat) : (s.incFld a f top).time = s.time := rfl
@[simp] theorem State.incFld_can (s : State) (a : Nat) (f : Fld) (top : Nat) : (s.incFld a f top).can = s.can := rfl
@[simp] theorem State.incFld_spe (s : State) (a : Nat) (f : Fld) (top : Nat) : (s.incFld a f top).spe = s.spe := rfl
@[simp] theorem State.incFld_safe (s : State) (a : Nat) (f : Fld) (top : Nat) : (s.incFld a f top).safe = s.safe := rfl
@[simp] theorem State.incFld_moor (s : State) (a : Nat) (f : Fld) (top : Nat) : (s.incFld a f top).moor = s.moor := rfl
@[simp] theorem State.incFld_haw (s : State) (a : Nat) (f : Fld) (top : Nat) : (s.incFld a f top).haw = s.haw := rfl
@[simp] theorem State.incFld_multi (s : State) (a : Nat) (f : Fld) (top : Nat) : (s.incFld a f top).multi = s.multi := rfl
@[simp] theorem State.incFld_vault (s : State) (a : Nat) (f : Fld) (top : Nat) : (s.incFld a f top).vault = s.vault := rfl
@[simp] theorem State.incFld_met (s : State) (a : Nat) (f : Fld) (top : Nat) : (s.incFld a f top).met = s.met := rfl

/-! ### setPstate -/
@[simp] theorem State.setPstate_pending (s : State) (p v : Nat) : (s.setPstate p v).pending = s.pending := rfl
@[simp] theorem State.setPstate_free (s : State) (p v : Nat) : (s.setPstate p v).free = s.free := rfl
@[simp] theorem State.setPstate_mem (s : State) (p v : Nat) : (s.setPstate p v).mem = s.mem := rfl
@[simp] theorem State.setPstate_tick (s : State) (p v : Nat) : (s.setPstate p v).tick = s.tick := rfl
@[simp] theorem State.setPstate_lamps (s : State) (p v : Nat) : (s.setPstate p v).lamps = s.lamps := rfl
@[simp] theorem State.setPstate_parts (s : State) (p v : Nat) : (s.setPstate p v).parts = s.parts := rfl
@[simp] theorem State.setPstate_tiles (s : State) (p v : Nat) : (s.setPstate p v).tiles = s.tiles := rfl
@[simp] theorem State.setPstate_eng (s : State) (p v : Nat) : (s.setPstate p v).eng = s.eng := rfl
@[simp] theorem State.setPstate_clu (s : State) (p v : Nat) : (s.setPstate p v).clu = s.clu := rfl
@[simp] theorem State.setPstate_sv (s : State) (p v : Nat) : (s.setPstate p v).sv = s.sv := rfl
@[simp] theorem State.setPstate_trip (s : State) (p v : Nat) : (s.setPstate p v).trip = s.trip := rfl
@[simp] theorem State.setPstate_err (s : State) (p v : Nat) : (s.setPstate p v).err = s.err := rfl
@[simp] theorem State.setPstate_boot (s : State) (p v : Nat) : (s.setPstate p v).boot = s.boot := rfl
@[simp] theorem State.setPstate_pins (s : State) (p v : Nat) : (s.setPstate p v).pins = s.pins := rfl
@[simp] theorem State.setPstate_rtc (s : State) (p v : Nat) : (s.setPstate p v).rtc = s.rtc := rfl
@[simp] theorem State.setPstate_twin (s : State) (p v : Nat) : (s.setPstate p v).twin = s.twin := rfl
@[simp] theorem State.setPstate_keep (s : State) (p v : Nat) : (s.setPstate p v).keep = s.keep := rfl
@[simp] theorem State.setPstate_out (s : State) (p v : Nat) : (s.setPstate p v).out = s.out := rfl
@[simp] theorem State.setPstate_sw (s : State) (p v : Nat) : (s.setPstate p v).sw = s.sw := rfl
@[simp] theorem State.setPstate_time (s : State) (p v : Nat) : (s.setPstate p v).time = s.time := rfl
@[simp] theorem State.setPstate_can (s : State) (p v : Nat) : (s.setPstate p v).can = s.can := rfl
@[simp] theorem State.setPstate_spe (s : State) (p v : Nat) : (s.setPstate p v).spe = s.spe := rfl
@[simp] theorem State.setPstate_safe (s : State) (p v : Nat) : (s.setPstate p v).safe = s.safe := rfl
@[simp] theorem State.setPstate_moor (s : State) (p v : Nat) : (s.setPstate p v).moor = s.moor := rfl
@[simp] theorem State.setPstate_haw (s : State) (p v : Nat) : (s.setPstate p v).haw = s.haw := rfl
@[simp] theorem State.setPstate_multi (s : State) (p v : Nat) : (s.setPstate p v).multi = s.multi := rfl
@[simp] theorem State.setPstate_vault (s : State) (p v : Nat) : (s.setPstate p v).vault = s.vault := rfl
@[simp] theorem State.setPstate_met (s : State) (p v : Nat) : (s.setPstate p v).met = s.met := rfl

/-! ### setBytes -/
@[simp] theorem State.setBytes_pending (s : State) (a : Nat) (bs : List Byte) : (s.setBytes a bs).pending = s.pending := rfl
@[simp] theorem State.setBytes_free (s : State) (a : Nat) (bs : List Byte) : (s.setBytes a bs).free = s.free := rfl
@[simp] theorem State.setBytes_srf (s : State) (a : Nat) (bs : List Byte) : (s.setBytes a bs).srf = s.srf := rfl
@[simp] theorem State.setBytes_tick (s : State) (a : Nat) (bs : List Byte) : (s.setBytes a bs).tick = s.tick := rfl
@[simp] theorem State.setBytes_lamps (s : State) (a : Nat) (bs : List Byte) : (s.setBytes a bs).lamps = s.lamps := rfl
@[simp] theorem State.setBytes_parts (s : State) (a : Nat) (bs : List Byte) : (s.setBytes a bs).parts = s.parts := rfl
@[simp] theorem State.setBytes_tiles (s : State) (a : Nat) (bs : List Byte) : (s.setBytes a bs).tiles = s.tiles := rfl
@[simp] theorem State.setBytes_eng (s : State) (a : Nat) (bs : List Byte) : (s.setBytes a bs).eng = s.eng := rfl
@[simp] theorem State.setBytes_clu (s : State) (a : Nat) (bs : List Byte) : (s.setBytes a bs).clu = s.clu := rfl
@[simp] theorem State.setBytes_sv (s : State) (a : Nat) (bs : List Byte) : (s.setBytes a bs).sv = s.sv := rfl
@[simp] theorem State.setBytes_trip (s : State) (a : Nat) (bs : List Byte) : (s.setBytes a bs).trip = s.trip := rfl
@[simp] theorem State.setBytes_err (s : State) (a : Nat) (bs : List Byte) : (s.setBytes a bs).err = s.err := rfl
@[simp] theorem State.setBytes_boot (s : State) (a : Nat) (bs : List Byte) : (s.setBytes a bs).boot = s.boot := rfl
@[simp] theorem State.setBytes_pins (s : State) (a : Nat) (bs : List Byte) : (s.setBytes a bs).pins = s.pins := rfl
@[simp] theorem State.setBytes_rtc (s : State) (a : Nat) (bs : List Byte) : (s.setBytes a bs).rtc = s.rtc := rfl
@[simp] theorem State.setBytes_twin (s : State) (a : Nat) (bs : List Byte) : (s.setBytes a bs).twin = s.twin := rfl
@[simp] theorem State.setBytes_keep (s : State) (a : Nat) (bs : List Byte) : (s.setBytes a bs).keep = s.keep := rfl
@[simp] theorem State.setBytes_out (s : State) (a : Nat) (bs : List Byte) : (s.setBytes a bs).out = s.out := rfl
@[simp] theorem State.setBytes_sw (s : State) (a : Nat) (bs : List Byte) : (s.setBytes a bs).sw = s.sw := rfl
@[simp] theorem State.setBytes_time (s : State) (a : Nat) (bs : List Byte) : (s.setBytes a bs).time = s.time := rfl
@[simp] theorem State.setBytes_can (s : State) (a : Nat) (bs : List Byte) : (s.setBytes a bs).can = s.can := rfl
@[simp] theorem State.setBytes_spe (s : State) (a : Nat) (bs : List Byte) : (s.setBytes a bs).spe = s.spe := rfl
@[simp] theorem State.setBytes_safe (s : State) (a : Nat) (bs : List Byte) : (s.setBytes a bs).safe = s.safe := rfl
@[simp] theorem State.setBytes_moor (s : State) (a : Nat) (bs : List Byte) : (s.setBytes a bs).moor = s.moor := rfl
@[simp] theorem State.setBytes_haw (s : State) (a : Nat) (bs : List Byte) : (s.setBytes a bs).haw = s.haw := rfl
@[simp] theorem State.setBytes_multi (s : State) (a : Nat) (bs : List Byte) : (s.setBytes a bs).multi = s.multi := rfl
@[simp] theorem State.setBytes_vault (s : State) (a : Nat) (bs : List Byte) : (s.setBytes a bs).vault = s.vault := rfl
@[simp] theorem State.setBytes_met (s : State) (a : Nat) (bs : List Byte) : (s.setBytes a bs).met = s.met := rfl

/-! ### draw -/
@[simp] theorem State.draw_pending (s : State) : (s.draw).pending = s.pending := rfl
@[simp] theorem State.draw_srf (s : State) : (s.draw).srf = s.srf := rfl
@[simp] theorem State.draw_mem (s : State) : (s.draw).mem = s.mem := rfl
@[simp] theorem State.draw_tick (s : State) : (s.draw).tick = s.tick := rfl
@[simp] theorem State.draw_lamps (s : State) : (s.draw).lamps = s.lamps := rfl
@[simp] theorem State.draw_parts (s : State) : (s.draw).parts = s.parts := rfl
@[simp] theorem State.draw_tiles (s : State) : (s.draw).tiles = s.tiles := rfl
@[simp] theorem State.draw_eng (s : State) : (s.draw).eng = s.eng := rfl
@[simp] theorem State.draw_clu (s : State) : (s.draw).clu = s.clu := rfl
@[simp] theorem State.draw_sv (s : State) : (s.draw).sv = s.sv := rfl
@[simp] theorem State.draw_trip (s : State) : (s.draw).trip = s.trip := rfl
@[simp] theorem State.draw_err (s : State) : (s.draw).err = s.err := rfl
@[simp] theorem State.draw_boot (s : State) : (s.draw).boot = s.boot := rfl
@[simp] theorem State.draw_pins (s : State) : (s.draw).pins = s.pins := rfl
@[simp] theorem State.draw_rtc (s : State) : (s.draw).rtc = s.rtc := rfl
@[simp] theorem State.draw_twin (s : State) : (s.draw).twin = s.twin := rfl
@[simp] theorem State.draw_keep (s : State) : (s.draw).keep = s.keep := rfl
@[simp] theorem State.draw_out (s : State) : (s.draw).out = s.out := rfl
@[simp] theorem State.draw_sw (s : State) : (s.draw).sw = s.sw := rfl
@[simp] theorem State.draw_time (s : State) : (s.draw).time = s.time := rfl
@[simp] theorem State.draw_can (s : State) : (s.draw).can = s.can := rfl
@[simp] theorem State.draw_spe (s : State) : (s.draw).spe = s.spe := rfl
@[simp] theorem State.draw_safe (s : State) : (s.draw).safe = s.safe := rfl
@[simp] theorem State.draw_moor (s : State) : (s.draw).moor = s.moor := rfl
@[simp] theorem State.draw_haw (s : State) : (s.draw).haw = s.haw := rfl
@[simp] theorem State.draw_multi (s : State) : (s.draw).multi = s.multi := rfl
@[simp] theorem State.draw_vault (s : State) : (s.draw).vault = s.vault := rfl
@[simp] theorem State.draw_met (s : State) : (s.draw).met = s.met := rfl

/-! ### setLamp -/
@[simp] theorem State.setLamp_pending (s : State) (n : Nat) (x : Lamp) : (s.setLamp n x).pending = s.pending := rfl
@[simp] theorem State.setLamp_free (s : State) (n : Nat) (x : Lamp) : (s.setLamp n x).free = s.free := rfl
@[simp] theorem State.setLamp_srf (s : State) (n : Nat) (x : Lamp) : (s.setLamp n x).srf = s.srf := rfl
@[simp] theorem State.setLamp_mem (s : State) (n : Nat) (x : Lamp) : (s.setLamp n x).mem = s.mem := rfl
@[simp] theorem State.setLamp_tick (s : State) (n : Nat) (x : Lamp) : (s.setLamp n x).tick = s.tick := rfl
@[simp] theorem State.setLamp_parts (s : State) (n : Nat) (x : Lamp) : (s.setLamp n x).parts = s.parts := rfl
@[simp] theorem State.setLamp_tiles (s : State) (n : Nat) (x : Lamp) : (s.setLamp n x).tiles = s.tiles := rfl
@[simp] theorem State.setLamp_eng (s : State) (n : Nat) (x : Lamp) : (s.setLamp n x).eng = s.eng := rfl
@[simp] theorem State.setLamp_clu (s : State) (n : Nat) (x : Lamp) : (s.setLamp n x).clu = s.clu := rfl
@[simp] theorem State.setLamp_sv (s : State) (n : Nat) (x : Lamp) : (s.setLamp n x).sv = s.sv := rfl
@[simp] theorem State.setLamp_trip (s : State) (n : Nat) (x : Lamp) : (s.setLamp n x).trip = s.trip := rfl
@[simp] theorem State.setLamp_err (s : State) (n : Nat) (x : Lamp) : (s.setLamp n x).err = s.err := rfl
@[simp] theorem State.setLamp_boot (s : State) (n : Nat) (x : Lamp) : (s.setLamp n x).boot = s.boot := rfl
@[simp] theorem State.setLamp_pins (s : State) (n : Nat) (x : Lamp) : (s.setLamp n x).pins = s.pins := rfl
@[simp] theorem State.setLamp_rtc (s : State) (n : Nat) (x : Lamp) : (s.setLamp n x).rtc = s.rtc := rfl
@[simp] theorem State.setLamp_twin (s : State) (n : Nat) (x : Lamp) : (s.setLamp n x).twin = s.twin := rfl
@[simp] theorem State.setLamp_keep (s : State) (n : Nat) (x : Lamp) : (s.setLamp n x).keep = s.keep := rfl
@[simp] theorem State.setLamp_out (s : State) (n : Nat) (x : Lamp) : (s.setLamp n x).out = s.out := rfl
@[simp] theorem State.setLamp_sw (s : State) (n : Nat) (x : Lamp) : (s.setLamp n x).sw = s.sw := rfl
@[simp] theorem State.setLamp_time (s : State) (n : Nat) (x : Lamp) : (s.setLamp n x).time = s.time := rfl
@[simp] theorem State.setLamp_can (s : State) (n : Nat) (x : Lamp) : (s.setLamp n x).can = s.can := rfl
@[simp] theorem State.setLamp_spe (s : State) (n : Nat) (x : Lamp) : (s.setLamp n x).spe = s.spe := rfl
@[simp] theorem State.setLamp_safe (s : State) (n : Nat) (x : Lamp) : (s.setLamp n x).safe = s.safe := rfl
@[simp] theorem State.setLamp_moor (s : State) (n : Nat) (x : Lamp) : (s.setLamp n x).moor = s.moor := rfl
@[simp] theorem State.setLamp_haw (s : State) (n : Nat) (x : Lamp) : (s.setLamp n x).haw = s.haw := rfl
@[simp] theorem State.setLamp_multi (s : State) (n : Nat) (x : Lamp) : (s.setLamp n x).multi = s.multi := rfl
@[simp] theorem State.setLamp_vault (s : State) (n : Nat) (x : Lamp) : (s.setLamp n x).vault = s.vault := rfl
@[simp] theorem State.setLamp_met (s : State) (n : Nat) (x : Lamp) : (s.setLamp n x).met = s.met := rfl

/-! ### modLamp -/
@[simp] theorem State.modLamp_pending (s : State) (n : Nat) (f : Lamp → Lamp) : (s.modLamp n f).pending = s.pending := rfl
@[simp] theorem State.modLamp_free (s : State) (n : Nat) (f : Lamp → Lamp) : (s.modLamp n f).free = s.free := rfl
@[simp] theorem State.modLamp_srf (s : State) (n : Nat) (f : Lamp → Lamp) : (s.modLamp n f).srf = s.srf := rfl
@[simp] theorem State.modLamp_mem (s : State) (n : Nat) (f : Lamp → Lamp) : (s.modLamp n f).mem = s.mem := rfl
@[simp] theorem State.modLamp_tick (s : State) (n : Nat) (f : Lamp → Lamp) : (s.modLamp n f).tick = s.tick := rfl
@[simp] theorem State.modLamp_parts (s : State) (n : Nat) (f : Lamp → Lamp) : (s.modLamp n f).parts = s.parts := rfl
@[simp] theorem State.modLamp_tiles (s : State) (n : Nat) (f : Lamp → Lamp) : (s.modLamp n f).tiles = s.tiles := rfl
@[simp] theorem State.modLamp_eng (s : State) (n : Nat) (f : Lamp → Lamp) : (s.modLamp n f).eng = s.eng := rfl
@[simp] theorem State.modLamp_clu (s : State) (n : Nat) (f : Lamp → Lamp) : (s.modLamp n f).clu = s.clu := rfl
@[simp] theorem State.modLamp_sv (s : State) (n : Nat) (f : Lamp → Lamp) : (s.modLamp n f).sv = s.sv := rfl
@[simp] theorem State.modLamp_trip (s : State) (n : Nat) (f : Lamp → Lamp) : (s.modLamp n f).trip = s.trip := rfl
@[simp] theorem State.modLamp_err (s : State) (n : Nat) (f : Lamp → Lamp) : (s.modLamp n f).err = s.err := rfl
@[simp] theorem State.modLamp_boot (s : State) (n : Nat) (f : Lamp → Lamp) : (s.modLamp n f).boot = s.boot := rfl
@[simp] theorem State.modLamp_pins (s : State) (n : Nat) (f : Lamp → Lamp) : (s.modLamp n f).pins = s.pins := rfl
@[simp] theorem State.modLamp_rtc (s : State) (n : Nat) (f : Lamp → Lamp) : (s.modLamp n f).rtc = s.rtc := rfl
@[simp] theorem State.modLamp_twin (s : State) (n : Nat) (f : Lamp → Lamp) : (s.modLamp n f).twin = s.twin := rfl
@[simp] theorem State.modLamp_keep (s : State) (n : Nat) (f : Lamp → Lamp) : (s.modLamp n f).keep = s.keep := rfl
@[simp] theorem State.modLamp_out (s : State) (n : Nat) (f : Lamp → Lamp) : (s.modLamp n f).out = s.out := rfl
@[simp] theorem State.modLamp_sw (s : State) (n : Nat) (f : Lamp → Lamp) : (s.modLamp n f).sw = s.sw := rfl
@[simp] theorem State.modLamp_time (s : State) (n : Nat) (f : Lamp → Lamp) : (s.modLamp n f).time = s.time := rfl
@[simp] theorem State.modLamp_can (s : State) (n : Nat) (f : Lamp → Lamp) : (s.modLamp n f).can = s.can := rfl
@[simp] theorem State.modLamp_spe (s : State) (n : Nat) (f : Lamp → Lamp) : (s.modLamp n f).spe = s.spe := rfl
@[simp] theorem State.modLamp_safe (s : State) (n : Nat) (f : Lamp → Lamp) : (s.modLamp n f).safe = s.safe := rfl
@[simp] theorem State.modLamp_moor (s : State) (n : Nat) (f : Lamp → Lamp) : (s.modLamp n f).moor = s.moor := rfl
@[simp] theorem State.modLamp_haw (s : State) (n : Nat) (f : Lamp → Lamp) : (s.modLamp n f).haw = s.haw := rfl
@[simp] theorem State.modLamp_multi (s : State) (n : Nat) (f : Lamp → Lamp) : (s.modLamp n f).multi = s.multi := rfl
@[simp] theorem State.modLamp_vault (s : State) (n : Nat) (f : Lamp → Lamp) : (s.modLamp n f).vault = s.vault := rfl
@[simp] theorem State.modLamp_met (s : State) (n : Nat) (f : Lamp → Lamp) : (s.modLamp n f).met = s.met := rfl

/-! ### setPart -/
@[simp] theorem State.setPart_pending (s : State) (p : Nat) (x : PartSt) : (s.setPart p x).pending = s.pending := rfl
@[simp] theorem State.setPart_free (s : State) (p : Nat) (x : PartSt) : (s.setPart p x).free = s.free := rfl
@[simp] theorem State.setPart_srf (s : State) (p : Nat) (x : PartSt) : (s.setPart p x).srf = s.srf := rfl
@[simp] theorem State.setPart_mem (s : State) (p : Nat) (x : PartSt) : (s.setPart p x).mem = s.mem := rfl
@[simp] theorem State.setPart_tick (s : State) (p : Nat) (x : PartSt) : (s.setPart p x).tick = s.tick := rfl
@[simp] theorem State.setPart_lamps (s : State) (p : Nat) (x : PartSt) : (s.setPart p x).lamps = s.lamps := rfl
@[simp] theorem State.setPart_tiles (s : State) (p : Nat) (x : PartSt) : (s.setPart p x).tiles = s.tiles := rfl
@[simp] theorem State.setPart_eng (s : State) (p : Nat) (x : PartSt) : (s.setPart p x).eng = s.eng := rfl
@[simp] theorem State.setPart_clu (s : State) (p : Nat) (x : PartSt) : (s.setPart p x).clu = s.clu := rfl
@[simp] theorem State.setPart_sv (s : State) (p : Nat) (x : PartSt) : (s.setPart p x).sv = s.sv := rfl
@[simp] theorem State.setPart_trip (s : State) (p : Nat) (x : PartSt) : (s.setPart p x).trip = s.trip := rfl
@[simp] theorem State.setPart_err (s : State) (p : Nat) (x : PartSt) : (s.setPart p x).err = s.err := rfl
@[simp] theorem State.setPart_boot (s : State) (p : Nat) (x : PartSt) : (s.setPart p x).boot = s.boot := rfl
@[simp] theorem State.setPart_pins (s : State) (p : Nat) (x : PartSt) : (s.setPart p x).pins = s.pins := rfl
@[simp] theorem State.setPart_rtc (s : State) (p : Nat) (x : PartSt) : (s.setPart p x).rtc = s.rtc := rfl
@[simp] theorem State.setPart_twin (s : State) (p : Nat) (x : PartSt) : (s.setPart p x).twin = s.twin := rfl
@[simp] theorem State.setPart_keep (s : State) (p : Nat) (x : PartSt) : (s.setPart p x).keep = s.keep := rfl
@[simp] theorem State.setPart_out (s : State) (p : Nat) (x : PartSt) : (s.setPart p x).out = s.out := rfl
@[simp] theorem State.setPart_sw (s : State) (p : Nat) (x : PartSt) : (s.setPart p x).sw = s.sw := rfl
@[simp] theorem State.setPart_time (s : State) (p : Nat) (x : PartSt) : (s.setPart p x).time = s.time := rfl
@[simp] theorem State.setPart_can (s : State) (p : Nat) (x : PartSt) : (s.setPart p x).can = s.can := rfl
@[simp] theorem State.setPart_spe (s : State) (p : Nat) (x : PartSt) : (s.setPart p x).spe = s.spe := rfl
@[simp] theorem State.setPart_safe (s : State) (p : Nat) (x : PartSt) : (s.setPart p x).safe = s.safe := rfl
@[simp] theorem State.setPart_moor (s : State) (p : Nat) (x : PartSt) : (s.setPart p x).moor = s.moor := rfl
@[simp] theorem State.setPart_haw (s : State) (p : Nat) (x : PartSt) : (s.setPart p x).haw = s.haw := rfl
@[simp] theorem State.setPart_multi (s : State) (p : Nat) (x : PartSt) : (s.setPart p x).multi = s.multi := rfl
@[simp] theorem State.setPart_vault (s : State) (p : Nat) (x : PartSt) : (s.setPart p x).vault = s.vault := rfl
@[simp] theorem State.setPart_met (s : State) (p : Nat) (x : PartSt) : (s.setPart p x).met = s.met := rfl

/-! ### modPart -/
@[simp] theorem State.modPart_pending (s : State) (p : Nat) (f : PartSt → PartSt) : (s.modPart p f).pending = s.pending := rfl
@[simp] theorem State.modPart_free (s : State) (p : Nat) (f : PartSt → PartSt) : (s.modPart p f).free = s.free := rfl
@[simp] theorem State.modPart_srf (s : State) (p : Nat) (f : PartSt → PartSt) : (s.modPart p f).srf = s.srf := rfl
@[simp] theorem State.modPart_mem (s : State) (p : Nat) (f : PartSt → PartSt) : (s.modPart p f).mem = s.mem := rfl
@[simp] theorem State.modPart_tick (s : State) (p : Nat) (f : PartSt → PartSt) : (s.modPart p f).tick = s.tick := rfl
@[simp] theorem State.modPart_lamps (s : State) (p : Nat) (f : PartSt → PartSt) : (s.modPart p f).lamps = s.lamps := rfl
@[simp] theorem State.modPart_tiles (s : State) (p : Nat) (f : PartSt → PartSt) : (s.modPart p f).tiles = s.tiles := rfl
@[simp] theorem State.modPart_eng (s : State) (p : Nat) (f : PartSt → PartSt) : (s.modPart p f).eng = s.eng := rfl
@[simp] theorem State.modPart_clu (s : State) (p : Nat) (f : PartSt → PartSt) : (s.modPart p f).clu = s.clu := rfl
@[simp] theorem State.modPart_sv (s : State) (p : Nat) (f : PartSt → PartSt) : (s.modPart p f).sv = s.sv := rfl
@[simp] theorem State.modPart_trip (s : State) (p : Nat) (f : PartSt → PartSt) : (s.modPart p f).trip = s.trip := rfl
@[simp] theorem State.modPart_err (s : State) (p : Nat) (f : PartSt → PartSt) : (s.modPart p f).err = s.err := rfl
@[simp] theorem State.modPart_boot (s : State) (p : Nat) (f : PartSt → PartSt) : (s.modPart p f).boot = s.boot := rfl
@[simp] theorem State.modPart_pins (s : State) (p : Nat) (f : PartSt → PartSt) : (s.modPart p f).pins = s.pins := rfl
@[simp] theorem State.modPart_rtc (s : State) (p : Nat) (f : PartSt → PartSt) : (s.modPart p f).rtc = s.rtc := rfl
@[simp] theorem State.modPart_twin (s : State) (p : Nat) (f : PartSt → PartSt) : (s.modPart p f).twin = s.twin := rfl
@[simp] theorem State.modPart_keep (s : State) (p : Nat) (f : PartSt → PartSt) : (s.modPart p f).keep = s.keep := rfl
@[simp] theorem State.modPart_out (s : State) (p : Nat) (f : PartSt → PartSt) : (s.modPart p f).out = s.out := rfl
@[simp] theorem State.modPart_sw (s : State) (p : Nat) (f : PartSt → PartSt) : (s.modPart p f).sw = s.sw := rfl
@[simp] theorem State.modPart_time (s : State) (p : Nat) (f : PartSt → PartSt) : (s.modPart p f).time = s.time := rfl
@[simp] theorem State.modPart_can (s : State) (p : Nat) (f : PartSt → PartSt) : (s.modPart p f).can = s.can := rfl
@[simp] theorem State.modPart_spe (s : State) (p : Nat) (f : PartSt → PartSt) : (s.modPart p f).spe = s.spe := rfl
@[simp] theorem State.modPart_safe (s : State) (p : Nat) (f : PartSt → PartSt) : (s.modPart p f).safe = s.safe := rfl
@[simp] theorem State.modPart_moor (s : State) (p : Nat) (f : PartSt → PartSt) : (s.modPart p f).moor = s.moor := rfl
@[simp] theorem State.modPart_haw (s : State) (p : Nat) (f : PartSt → PartSt) : (s.modPart p f).haw = s.haw := rfl
@[simp] theorem State.modPart_multi (s : State) (p : Nat) (f : PartSt → PartSt) : (s.modPart p f).multi = s.multi := rfl
@[simp] theorem State.modPart_vault (s : State) (p : Nat) (f : PartSt → PartSt) : (s.modPart p f).vault = s.vault := rfl
@[simp] theorem State.modPart_met (s : State) (p : Nat) (f : PartSt → PartSt) : (s.modPart p f).met = s.met := rfl

/-! ### setAcc -/
@[simp] theorem State.setAcc_pending (s : State) (l : Nat) (i : Fin 4) (v : Dword) : (s.setAcc l i v).pending = s.pending := rfl
@[simp] theorem State.setAcc_free (s : State) (l : Nat) (i : Fin 4) (v : Dword) : (s.setAcc l i v).free = s.free := rfl
@[simp] theorem State.setAcc_srf (s : State) (l : Nat) (i : Fin 4) (v : Dword) : (s.setAcc l i v).srf = s.srf := rfl
@[simp] theorem State.setAcc_mem (s : State) (l : Nat) (i : Fin 4) (v : Dword) : (s.setAcc l i v).mem = s.mem := rfl
@[simp] theorem State.setAcc_tick (s : State) (l : Nat) (i : Fin 4) (v : Dword) : (s.setAcc l i v).tick = s.tick := rfl
@[simp] theorem State.setAcc_parts (s : State) (l : Nat) (i : Fin 4) (v : Dword) : (s.setAcc l i v).parts = s.parts := rfl
@[simp] theorem State.setAcc_tiles (s : State) (l : Nat) (i : Fin 4) (v : Dword) : (s.setAcc l i v).tiles = s.tiles := rfl
@[simp] theorem State.setAcc_eng (s : State) (l : Nat) (i : Fin 4) (v : Dword) : (s.setAcc l i v).eng = s.eng := rfl
@[simp] theorem State.setAcc_clu (s : State) (l : Nat) (i : Fin 4) (v : Dword) : (s.setAcc l i v).clu = s.clu := rfl
@[simp] theorem State.setAcc_sv (s : State) (l : Nat) (i : Fin 4) (v : Dword) : (s.setAcc l i v).sv = s.sv := rfl
@[simp] theorem State.setAcc_trip (s : State) (l : Nat) (i : Fin 4) (v : Dword) : (s.setAcc l i v).trip = s.trip := rfl
@[simp] theorem State.setAcc_err (s : State) (l : Nat) (i : Fin 4) (v : Dword) : (s.setAcc l i v).err = s.err := rfl
@[simp] theorem State.setAcc_boot (s : State) (l : Nat) (i : Fin 4) (v : Dword) : (s.setAcc l i v).boot = s.boot := rfl
@[simp] theorem State.setAcc_pins (s : State) (l : Nat) (i : Fin 4) (v : Dword) : (s.setAcc l i v).pins = s.pins := rfl
@[simp] theorem State.setAcc_rtc (s : State) (l : Nat) (i : Fin 4) (v : Dword) : (s.setAcc l i v).rtc = s.rtc := rfl
@[simp] theorem State.setAcc_twin (s : State) (l : Nat) (i : Fin 4) (v : Dword) : (s.setAcc l i v).twin = s.twin := rfl
@[simp] theorem State.setAcc_keep (s : State) (l : Nat) (i : Fin 4) (v : Dword) : (s.setAcc l i v).keep = s.keep := rfl
@[simp] theorem State.setAcc_out (s : State) (l : Nat) (i : Fin 4) (v : Dword) : (s.setAcc l i v).out = s.out := rfl
@[simp] theorem State.setAcc_sw (s : State) (l : Nat) (i : Fin 4) (v : Dword) : (s.setAcc l i v).sw = s.sw := rfl
@[simp] theorem State.setAcc_time (s : State) (l : Nat) (i : Fin 4) (v : Dword) : (s.setAcc l i v).time = s.time := rfl
@[simp] theorem State.setAcc_can (s : State) (l : Nat) (i : Fin 4) (v : Dword) : (s.setAcc l i v).can = s.can := rfl
@[simp] theorem State.setAcc_spe (s : State) (l : Nat) (i : Fin 4) (v : Dword) : (s.setAcc l i v).spe = s.spe := rfl
@[simp] theorem State.setAcc_safe (s : State) (l : Nat) (i : Fin 4) (v : Dword) : (s.setAcc l i v).safe = s.safe := rfl
@[simp] theorem State.setAcc_moor (s : State) (l : Nat) (i : Fin 4) (v : Dword) : (s.setAcc l i v).moor = s.moor := rfl
@[simp] theorem State.setAcc_haw (s : State) (l : Nat) (i : Fin 4) (v : Dword) : (s.setAcc l i v).haw = s.haw := rfl
@[simp] theorem State.setAcc_multi (s : State) (l : Nat) (i : Fin 4) (v : Dword) : (s.setAcc l i v).multi = s.multi := rfl
@[simp] theorem State.setAcc_vault (s : State) (l : Nat) (i : Fin 4) (v : Dword) : (s.setAcc l i v).vault = s.vault := rfl
@[simp] theorem State.setAcc_met (s : State) (l : Nat) (i : Fin 4) (v : Dword) : (s.setAcc l i v).met = s.met := rfl

/-! ### setWin -/
@[simp] theorem State.setWin_pending (s : State) (l : Nat) (w : Fin 8) (x : Window) : (s.setWin l w x).pending = s.pending := rfl
@[simp] theorem State.setWin_free (s : State) (l : Nat) (w : Fin 8) (x : Window) : (s.setWin l w x).free = s.free := rfl
@[simp] theorem State.setWin_srf (s : State) (l : Nat) (w : Fin 8) (x : Window) : (s.setWin l w x).srf = s.srf := rfl
@[simp] theorem State.setWin_mem (s : State) (l : Nat) (w : Fin 8) (x : Window) : (s.setWin l w x).mem = s.mem := rfl
@[simp] theorem State.setWin_tick (s : State) (l : Nat) (w : Fin 8) (x : Window) : (s.setWin l w x).tick = s.tick := rfl
@[simp] theorem State.setWin_parts (s : State) (l : Nat) (w : Fin 8) (x : Window) : (s.setWin l w x).parts = s.parts := rfl
@[simp] theorem State.setWin_tiles (s : State) (l : Nat) (w : Fin 8) (x : Window) : (s.setWin l w x).tiles = s.tiles := rfl
@[simp] theorem State.setWin_eng (s : State) (l : Nat) (w : Fin 8) (x : Window) : (s.setWin l w x).eng = s.eng := rfl
@[simp] theorem State.setWin_clu (s : State) (l : Nat) (w : Fin 8) (x : Window) : (s.setWin l w x).clu = s.clu := rfl
@[simp] theorem State.setWin_sv (s : State) (l : Nat) (w : Fin 8) (x : Window) : (s.setWin l w x).sv = s.sv := rfl
@[simp] theorem State.setWin_trip (s : State) (l : Nat) (w : Fin 8) (x : Window) : (s.setWin l w x).trip = s.trip := rfl
@[simp] theorem State.setWin_err (s : State) (l : Nat) (w : Fin 8) (x : Window) : (s.setWin l w x).err = s.err := rfl
@[simp] theorem State.setWin_boot (s : State) (l : Nat) (w : Fin 8) (x : Window) : (s.setWin l w x).boot = s.boot := rfl
@[simp] theorem State.setWin_pins (s : State) (l : Nat) (w : Fin 8) (x : Window) : (s.setWin l w x).pins = s.pins := rfl
@[simp] theorem State.setWin_rtc (s : State) (l : Nat) (w : Fin 8) (x : Window) : (s.setWin l w x).rtc = s.rtc := rfl
@[simp] theorem State.setWin_twin (s : State) (l : Nat) (w : Fin 8) (x : Window) : (s.setWin l w x).twin = s.twin := rfl
@[simp] theorem State.setWin_keep (s : State) (l : Nat) (w : Fin 8) (x : Window) : (s.setWin l w x).keep = s.keep := rfl
@[simp] theorem State.setWin_out (s : State) (l : Nat) (w : Fin 8) (x : Window) : (s.setWin l w x).out = s.out := rfl
@[simp] theorem State.setWin_sw (s : State) (l : Nat) (w : Fin 8) (x : Window) : (s.setWin l w x).sw = s.sw := rfl
@[simp] theorem State.setWin_time (s : State) (l : Nat) (w : Fin 8) (x : Window) : (s.setWin l w x).time = s.time := rfl
@[simp] theorem State.setWin_can (s : State) (l : Nat) (w : Fin 8) (x : Window) : (s.setWin l w x).can = s.can := rfl
@[simp] theorem State.setWin_spe (s : State) (l : Nat) (w : Fin 8) (x : Window) : (s.setWin l w x).spe = s.spe := rfl
@[simp] theorem State.setWin_safe (s : State) (l : Nat) (w : Fin 8) (x : Window) : (s.setWin l w x).safe = s.safe := rfl
@[simp] theorem State.setWin_moor (s : State) (l : Nat) (w : Fin 8) (x : Window) : (s.setWin l w x).moor = s.moor := rfl
@[simp] theorem State.setWin_haw (s : State) (l : Nat) (w : Fin 8) (x : Window) : (s.setWin l w x).haw = s.haw := rfl
@[simp] theorem State.setWin_multi (s : State) (l : Nat) (w : Fin 8) (x : Window) : (s.setWin l w x).multi = s.multi := rfl
@[simp] theorem State.setWin_vault (s : State) (l : Nat) (w : Fin 8) (x : Window) : (s.setWin l w x).vault = s.vault := rfl
@[simp] theorem State.setWin_met (s : State) (l : Nat) (w : Fin 8) (x : Window) : (s.setWin l w x).met = s.met := rfl

/-! ### setG -/
@[simp] theorem State.setG_pending (s : State) (l : Nat) (i : Fin 32) (w : Word) : (s.setG l i w).pending = s.pending := by unfold State.setG; split <;> rfl
@[simp] theorem State.setG_free (s : State) (l : Nat) (i : Fin 32) (w : Word) : (s.setG l i w).free = s.free := by unfold State.setG; split <;> rfl
@[simp] theorem State.setG_srf (s : State) (l : Nat) (i : Fin 32) (w : Word) : (s.setG l i w).srf = s.srf := by unfold State.setG; split <;> rfl
@[simp] theorem State.setG_mem (s : State) (l : Nat) (i : Fin 32) (w : Word) : (s.setG l i w).mem = s.mem := by unfold State.setG; split <;> rfl
@[simp] theorem State.setG_tick (s : State) (l : Nat) (i : Fin 32) (w : Word) : (s.setG l i w).tick = s.tick := by unfold State.setG; split <;> rfl
@[simp] theorem State.setG_parts (s : State) (l : Nat) (i : Fin 32) (w : Word) : (s.setG l i w).parts = s.parts := by unfold State.setG; split <;> rfl
@[simp] theorem State.setG_tiles (s : State) (l : Nat) (i : Fin 32) (w : Word) : (s.setG l i w).tiles = s.tiles := by unfold State.setG; split <;> rfl
@[simp] theorem State.setG_eng (s : State) (l : Nat) (i : Fin 32) (w : Word) : (s.setG l i w).eng = s.eng := by unfold State.setG; split <;> rfl
@[simp] theorem State.setG_clu (s : State) (l : Nat) (i : Fin 32) (w : Word) : (s.setG l i w).clu = s.clu := by unfold State.setG; split <;> rfl
@[simp] theorem State.setG_sv (s : State) (l : Nat) (i : Fin 32) (w : Word) : (s.setG l i w).sv = s.sv := by unfold State.setG; split <;> rfl
@[simp] theorem State.setG_trip (s : State) (l : Nat) (i : Fin 32) (w : Word) : (s.setG l i w).trip = s.trip := by unfold State.setG; split <;> rfl
@[simp] theorem State.setG_err (s : State) (l : Nat) (i : Fin 32) (w : Word) : (s.setG l i w).err = s.err := by unfold State.setG; split <;> rfl
@[simp] theorem State.setG_boot (s : State) (l : Nat) (i : Fin 32) (w : Word) : (s.setG l i w).boot = s.boot := by unfold State.setG; split <;> rfl
@[simp] theorem State.setG_pins (s : State) (l : Nat) (i : Fin 32) (w : Word) : (s.setG l i w).pins = s.pins := by unfold State.setG; split <;> rfl
@[simp] theorem State.setG_rtc (s : State) (l : Nat) (i : Fin 32) (w : Word) : (s.setG l i w).rtc = s.rtc := by unfold State.setG; split <;> rfl
@[simp] theorem State.setG_twin (s : State) (l : Nat) (i : Fin 32) (w : Word) : (s.setG l i w).twin = s.twin := by unfold State.setG; split <;> rfl
@[simp] theorem State.setG_keep (s : State) (l : Nat) (i : Fin 32) (w : Word) : (s.setG l i w).keep = s.keep := by unfold State.setG; split <;> rfl
@[simp] theorem State.setG_out (s : State) (l : Nat) (i : Fin 32) (w : Word) : (s.setG l i w).out = s.out := by unfold State.setG; split <;> rfl
@[simp] theorem State.setG_sw (s : State) (l : Nat) (i : Fin 32) (w : Word) : (s.setG l i w).sw = s.sw := by unfold State.setG; split <;> rfl
@[simp] theorem State.setG_time (s : State) (l : Nat) (i : Fin 32) (w : Word) : (s.setG l i w).time = s.time := by unfold State.setG; split <;> rfl
@[simp] theorem State.setG_can (s : State) (l : Nat) (i : Fin 32) (w : Word) : (s.setG l i w).can = s.can := by unfold State.setG; split <;> rfl
@[simp] theorem State.setG_spe (s : State) (l : Nat) (i : Fin 32) (w : Word) : (s.setG l i w).spe = s.spe := by unfold State.setG; split <;> rfl
@[simp] theorem State.setG_safe (s : State) (l : Nat) (i : Fin 32) (w : Word) : (s.setG l i w).safe = s.safe := by unfold State.setG; split <;> rfl
@[simp] theorem State.setG_moor (s : State) (l : Nat) (i : Fin 32) (w : Word) : (s.setG l i w).moor = s.moor := by unfold State.setG; split <;> rfl
@[simp] theorem State.setG_haw (s : State) (l : Nat) (i : Fin 32) (w : Word) : (s.setG l i w).haw = s.haw := by unfold State.setG; split <;> rfl
@[simp] theorem State.setG_multi (s : State) (l : Nat) (i : Fin 32) (w : Word) : (s.setG l i w).multi = s.multi := by unfold State.setG; split <;> rfl
@[simp] theorem State.setG_vault (s : State) (l : Nat) (i : Fin 32) (w : Word) : (s.setG l i w).vault = s.vault := by unfold State.setG; split <;> rfl
@[simp] theorem State.setG_met (s : State) (l : Nat) (i : Fin 32) (w : Word) : (s.setG l i w).met = s.met := by unfold State.setG; split <;> rfl

/-! ### setP -/
@[simp] theorem State.setP_pending (s : State) (l : Nat) (i : Fin 8) (b : Bool) : (s.setP l i b).pending = s.pending := by unfold State.setP; split <;> rfl
@[simp] theorem State.setP_free (s : State) (l : Nat) (i : Fin 8) (b : Bool) : (s.setP l i b).free = s.free := by unfold State.setP; split <;> rfl
@[simp] theorem State.setP_srf (s : State) (l : Nat) (i : Fin 8) (b : Bool) : (s.setP l i b).srf = s.srf := by unfold State.setP; split <;> rfl
@[simp] theorem State.setP_mem (s : State) (l : Nat) (i : Fin 8) (b : Bool) : (s.setP l i b).mem = s.mem := by unfold State.setP; split <;> rfl
@[simp] theorem State.setP_tick (s : State) (l : Nat) (i : Fin 8) (b : Bool) : (s.setP l i b).tick = s.tick := by unfold State.setP; split <;> rfl
@[simp] theorem State.setP_parts (s : State) (l : Nat) (i : Fin 8) (b : Bool) : (s.setP l i b).parts = s.parts := by unfold State.setP; split <;> rfl
@[simp] theorem State.setP_tiles (s : State) (l : Nat) (i : Fin 8) (b : Bool) : (s.setP l i b).tiles = s.tiles := by unfold State.setP; split <;> rfl
@[simp] theorem State.setP_eng (s : State) (l : Nat) (i : Fin 8) (b : Bool) : (s.setP l i b).eng = s.eng := by unfold State.setP; split <;> rfl
@[simp] theorem State.setP_clu (s : State) (l : Nat) (i : Fin 8) (b : Bool) : (s.setP l i b).clu = s.clu := by unfold State.setP; split <;> rfl
@[simp] theorem State.setP_sv (s : State) (l : Nat) (i : Fin 8) (b : Bool) : (s.setP l i b).sv = s.sv := by unfold State.setP; split <;> rfl
@[simp] theorem State.setP_trip (s : State) (l : Nat) (i : Fin 8) (b : Bool) : (s.setP l i b).trip = s.trip := by unfold State.setP; split <;> rfl
@[simp] theorem State.setP_err (s : State) (l : Nat) (i : Fin 8) (b : Bool) : (s.setP l i b).err = s.err := by unfold State.setP; split <;> rfl
@[simp] theorem State.setP_boot (s : State) (l : Nat) (i : Fin 8) (b : Bool) : (s.setP l i b).boot = s.boot := by unfold State.setP; split <;> rfl
@[simp] theorem State.setP_pins (s : State) (l : Nat) (i : Fin 8) (b : Bool) : (s.setP l i b).pins = s.pins := by unfold State.setP; split <;> rfl
@[simp] theorem State.setP_rtc (s : State) (l : Nat) (i : Fin 8) (b : Bool) : (s.setP l i b).rtc = s.rtc := by unfold State.setP; split <;> rfl
@[simp] theorem State.setP_twin (s : State) (l : Nat) (i : Fin 8) (b : Bool) : (s.setP l i b).twin = s.twin := by unfold State.setP; split <;> rfl
@[simp] theorem State.setP_keep (s : State) (l : Nat) (i : Fin 8) (b : Bool) : (s.setP l i b).keep = s.keep := by unfold State.setP; split <;> rfl
@[simp] theorem State.setP_out (s : State) (l : Nat) (i : Fin 8) (b : Bool) : (s.setP l i b).out = s.out := by unfold State.setP; split <;> rfl
@[simp] theorem State.setP_sw (s : State) (l : Nat) (i : Fin 8) (b : Bool) : (s.setP l i b).sw = s.sw := by unfold State.setP; split <;> rfl
@[simp] theorem State.setP_time (s : State) (l : Nat) (i : Fin 8) (b : Bool) : (s.setP l i b).time = s.time := by unfold State.setP; split <;> rfl
@[simp] theorem State.setP_can (s : State) (l : Nat) (i : Fin 8) (b : Bool) : (s.setP l i b).can = s.can := by unfold State.setP; split <;> rfl
@[simp] theorem State.setP_spe (s : State) (l : Nat) (i : Fin 8) (b : Bool) : (s.setP l i b).spe = s.spe := by unfold State.setP; split <;> rfl
@[simp] theorem State.setP_safe (s : State) (l : Nat) (i : Fin 8) (b : Bool) : (s.setP l i b).safe = s.safe := by unfold State.setP; split <;> rfl
@[simp] theorem State.setP_moor (s : State) (l : Nat) (i : Fin 8) (b : Bool) : (s.setP l i b).moor = s.moor := by unfold State.setP; split <;> rfl
@[simp] theorem State.setP_haw (s : State) (l : Nat) (i : Fin 8) (b : Bool) : (s.setP l i b).haw = s.haw := by unfold State.setP; split <;> rfl
@[simp] theorem State.setP_multi (s : State) (l : Nat) (i : Fin 8) (b : Bool) : (s.setP l i b).multi = s.multi := by unfold State.setP; split <;> rfl
@[simp] theorem State.setP_vault (s : State) (l : Nat) (i : Fin 8) (b : Bool) : (s.setP l i b).vault = s.vault := by unfold State.setP; split <;> rfl
@[simp] theorem State.setP_met (s : State) (l : Nat) (i : Fin 8) (b : Bool) : (s.setP l i b).met = s.met := by unfold State.setP; split <;> rfl

/-! ### advance -/
@[simp] theorem State.advance_pending (s : State) (l len : Nat) : (s.advance l len).pending = s.pending := by unfold State.advance; split <;> rfl
@[simp] theorem State.advance_free (s : State) (l len : Nat) : (s.advance l len).free = s.free := by unfold State.advance; split <;> rfl
@[simp] theorem State.advance_srf (s : State) (l len : Nat) : (s.advance l len).srf = s.srf := by unfold State.advance; split <;> rfl
@[simp] theorem State.advance_mem (s : State) (l len : Nat) : (s.advance l len).mem = s.mem := by unfold State.advance; split <;> rfl
@[simp] theorem State.advance_tick (s : State) (l len : Nat) : (s.advance l len).tick = s.tick := by unfold State.advance; split <;> rfl
@[simp] theorem State.advance_parts (s : State) (l len : Nat) : (s.advance l len).parts = s.parts := by unfold State.advance; split <;> rfl
@[simp] theorem State.advance_tiles (s : State) (l len : Nat) : (s.advance l len).tiles = s.tiles := by unfold State.advance; split <;> rfl
@[simp] theorem State.advance_eng (s : State) (l len : Nat) : (s.advance l len).eng = s.eng := by unfold State.advance; split <;> rfl
@[simp] theorem State.advance_clu (s : State) (l len : Nat) : (s.advance l len).clu = s.clu := by unfold State.advance; split <;> rfl
@[simp] theorem State.advance_sv (s : State) (l len : Nat) : (s.advance l len).sv = s.sv := by unfold State.advance; split <;> rfl
@[simp] theorem State.advance_trip (s : State) (l len : Nat) : (s.advance l len).trip = s.trip := by unfold State.advance; split <;> rfl
@[simp] theorem State.advance_err (s : State) (l len : Nat) : (s.advance l len).err = s.err := by unfold State.advance; split <;> rfl
@[simp] theorem State.advance_boot (s : State) (l len : Nat) : (s.advance l len).boot = s.boot := by unfold State.advance; split <;> rfl
@[simp] theorem State.advance_pins (s : State) (l len : Nat) : (s.advance l len).pins = s.pins := by unfold State.advance; split <;> rfl
@[simp] theorem State.advance_rtc (s : State) (l len : Nat) : (s.advance l len).rtc = s.rtc := by unfold State.advance; split <;> rfl
@[simp] theorem State.advance_twin (s : State) (l len : Nat) : (s.advance l len).twin = s.twin := by unfold State.advance; split <;> rfl
@[simp] theorem State.advance_keep (s : State) (l len : Nat) : (s.advance l len).keep = s.keep := by unfold State.advance; split <;> rfl
@[simp] theorem State.advance_out (s : State) (l len : Nat) : (s.advance l len).out = s.out := by unfold State.advance; split <;> rfl
@[simp] theorem State.advance_sw (s : State) (l len : Nat) : (s.advance l len).sw = s.sw := by unfold State.advance; split <;> rfl
@[simp] theorem State.advance_time (s : State) (l len : Nat) : (s.advance l len).time = s.time := by unfold State.advance; split <;> rfl
@[simp] theorem State.advance_can (s : State) (l len : Nat) : (s.advance l len).can = s.can := by unfold State.advance; split <;> rfl
@[simp] theorem State.advance_spe (s : State) (l len : Nat) : (s.advance l len).spe = s.spe := by unfold State.advance; split <;> rfl
@[simp] theorem State.advance_safe (s : State) (l len : Nat) : (s.advance l len).safe = s.safe := by unfold State.advance; split <;> rfl
@[simp] theorem State.advance_moor (s : State) (l len : Nat) : (s.advance l len).moor = s.moor := by unfold State.advance; split <;> rfl
@[simp] theorem State.advance_haw (s : State) (l len : Nat) : (s.advance l len).haw = s.haw := by unfold State.advance; split <;> rfl
@[simp] theorem State.advance_multi (s : State) (l len : Nat) : (s.advance l len).multi = s.multi := by unfold State.advance; split <;> rfl
@[simp] theorem State.advance_vault (s : State) (l len : Nat) : (s.advance l len).vault = s.vault := by unfold State.advance; split <;> rfl
@[simp] theorem State.advance_met (s : State) (l len : Nat) : (s.advance l len).met = s.met := by unfold State.advance; split <;> rfl

/-! ### safetyOff -/
@[simp] theorem State.safetyOff_pending (s : State)  : (s.safetyOff).pending = s.pending := by rfl
@[simp] theorem State.safetyOff_free (s : State)  : (s.safetyOff).free = s.free := by rfl
@[simp] theorem State.safetyOff_srf (s : State)  : (s.safetyOff).srf = s.srf := by rfl
@[simp] theorem State.safetyOff_mem (s : State)  : (s.safetyOff).mem = s.mem := by rfl
@[simp] theorem State.safetyOff_tick (s : State)  : (s.safetyOff).tick = s.tick := by rfl
@[simp] theorem State.safetyOff_lamps (s : State)  : (s.safetyOff).lamps = s.lamps := by rfl
@[simp] theorem State.safetyOff_parts (s : State)  : (s.safetyOff).parts = s.parts := by rfl
@[simp] theorem State.safetyOff_tiles (s : State)  : (s.safetyOff).tiles = s.tiles := by rfl
@[simp] theorem State.safetyOff_eng (s : State)  : (s.safetyOff).eng = s.eng := by rfl
@[simp] theorem State.safetyOff_clu (s : State)  : (s.safetyOff).clu = s.clu := by rfl
@[simp] theorem State.safetyOff_sv (s : State)  : (s.safetyOff).sv = s.sv := by rfl
@[simp] theorem State.safetyOff_trip (s : State)  : (s.safetyOff).trip = s.trip := by rfl
@[simp] theorem State.safetyOff_err (s : State)  : (s.safetyOff).err = s.err := by rfl
@[simp] theorem State.safetyOff_boot (s : State)  : (s.safetyOff).boot = s.boot := by rfl
@[simp] theorem State.safetyOff_rtc (s : State)  : (s.safetyOff).rtc = s.rtc := by rfl
@[simp] theorem State.safetyOff_twin (s : State)  : (s.safetyOff).twin = s.twin := by rfl
@[simp] theorem State.safetyOff_keep (s : State)  : (s.safetyOff).keep = s.keep := by rfl
@[simp] theorem State.safetyOff_out (s : State)  : (s.safetyOff).out = s.out := by rfl
@[simp] theorem State.safetyOff_sw (s : State)  : (s.safetyOff).sw = s.sw := by rfl
@[simp] theorem State.safetyOff_time (s : State)  : (s.safetyOff).time = s.time := by rfl
@[simp] theorem State.safetyOff_can (s : State)  : (s.safetyOff).can = s.can := by rfl
@[simp] theorem State.safetyOff_spe (s : State)  : (s.safetyOff).spe = s.spe := by rfl
@[simp] theorem State.safetyOff_safe (s : State)  : (s.safetyOff).safe = s.safe := by rfl
@[simp] theorem State.safetyOff_moor (s : State)  : (s.safetyOff).moor = s.moor := by rfl
@[simp] theorem State.safetyOff_haw (s : State)  : (s.safetyOff).haw = s.haw := by rfl
@[simp] theorem State.safetyOff_multi (s : State)  : (s.safetyOff).multi = s.multi := by rfl
@[simp] theorem State.safetyOff_vault (s : State)  : (s.safetyOff).vault = s.vault := by rfl
@[simp] theorem State.safetyOff_met (s : State)  : (s.safetyOff).met = s.met := by rfl

/-! ### outputsReset -/
@[simp] theorem State.outputsReset_pending (s : State)  : (s.outputsReset).pending = s.pending := by rfl
@[simp] theorem State.outputsReset_free (s : State)  : (s.outputsReset).free = s.free := by rfl
@[simp] theorem State.outputsReset_srf (s : State)  : (s.outputsReset).srf = s.srf := by rfl
@[simp] theorem State.outputsReset_mem (s : State)  : (s.outputsReset).mem = s.mem := by rfl
@[simp] theorem State.outputsReset_tick (s : State)  : (s.outputsReset).tick = s.tick := by rfl
@[simp] theorem State.outputsReset_lamps (s : State)  : (s.outputsReset).lamps = s.lamps := by rfl
@[simp] theorem State.outputsReset_parts (s : State)  : (s.outputsReset).parts = s.parts := by rfl
@[simp] theorem State.outputsReset_tiles (s : State)  : (s.outputsReset).tiles = s.tiles := by rfl
@[simp] theorem State.outputsReset_eng (s : State)  : (s.outputsReset).eng = s.eng := by rfl
@[simp] theorem State.outputsReset_clu (s : State)  : (s.outputsReset).clu = s.clu := by rfl
@[simp] theorem State.outputsReset_sv (s : State)  : (s.outputsReset).sv = s.sv := by rfl
@[simp] theorem State.outputsReset_trip (s : State)  : (s.outputsReset).trip = s.trip := by rfl
@[simp] theorem State.outputsReset_err (s : State)  : (s.outputsReset).err = s.err := by rfl
@[simp] theorem State.outputsReset_boot (s : State)  : (s.outputsReset).boot = s.boot := by rfl
@[simp] theorem State.outputsReset_rtc (s : State)  : (s.outputsReset).rtc = s.rtc := by rfl
@[simp] theorem State.outputsReset_twin (s : State)  : (s.outputsReset).twin = s.twin := by rfl
@[simp] theorem State.outputsReset_keep (s : State)  : (s.outputsReset).keep = s.keep := by rfl
@[simp] theorem State.outputsReset_out (s : State)  : (s.outputsReset).out = s.out := by rfl
@[simp] theorem State.outputsReset_sw (s : State)  : (s.outputsReset).sw = s.sw := by rfl
@[simp] theorem State.outputsReset_time (s : State)  : (s.outputsReset).time = s.time := by rfl
@[simp] theorem State.outputsReset_can (s : State)  : (s.outputsReset).can = s.can := by rfl
@[simp] theorem State.outputsReset_spe (s : State)  : (s.outputsReset).spe = s.spe := by rfl
@[simp] theorem State.outputsReset_safe (s : State)  : (s.outputsReset).safe = s.safe := by rfl
@[simp] theorem State.outputsReset_moor (s : State)  : (s.outputsReset).moor = s.moor := by rfl
@[simp] theorem State.outputsReset_haw (s : State)  : (s.outputsReset).haw = s.haw := by rfl
@[simp] theorem State.outputsReset_multi (s : State)  : (s.outputsReset).multi = s.multi := by rfl
@[simp] theorem State.outputsReset_vault (s : State)  : (s.outputsReset).vault = s.vault := by rfl
@[simp] theorem State.outputsReset_met (s : State)  : (s.outputsReset).met = s.met := by rfl

/-! ### offerQueue -/
@[simp] theorem State.offerQueue_pending (s : State) (p : Nat) (r : ErrRec) : (s.offerQueue p r).pending = s.pending := by simp only [State.offerQueue]; split <;> rfl
@[simp] theorem State.offerQueue_free (s : State) (p : Nat) (r : ErrRec) : (s.offerQueue p r).free = s.free := by simp only [State.offerQueue]; split <;> rfl
@[simp] theorem State.offerQueue_mem (s : State) (p : Nat) (r : ErrRec) : (s.offerQueue p r).mem = s.mem := by simp only [State.offerQueue]; split <;> rfl
@[simp] theorem State.offerQueue_tick (s : State) (p : Nat) (r : ErrRec) : (s.offerQueue p r).tick = s.tick := by simp only [State.offerQueue]; split <;> rfl
@[simp] theorem State.offerQueue_lamps (s : State) (p : Nat) (r : ErrRec) : (s.offerQueue p r).lamps = s.lamps := by simp only [State.offerQueue]; split <;> rfl
@[simp] theorem State.offerQueue_tiles (s : State) (p : Nat) (r : ErrRec) : (s.offerQueue p r).tiles = s.tiles := by simp only [State.offerQueue]; split <;> rfl
@[simp] theorem State.offerQueue_eng (s : State) (p : Nat) (r : ErrRec) : (s.offerQueue p r).eng = s.eng := by simp only [State.offerQueue]; split <;> rfl
@[simp] theorem State.offerQueue_clu (s : State) (p : Nat) (r : ErrRec) : (s.offerQueue p r).clu = s.clu := by simp only [State.offerQueue]; split <;> rfl
@[simp] theorem State.offerQueue_sv (s : State) (p : Nat) (r : ErrRec) : (s.offerQueue p r).sv = s.sv := by simp only [State.offerQueue]; split <;> rfl
@[simp] theorem State.offerQueue_trip (s : State) (p : Nat) (r : ErrRec) : (s.offerQueue p r).trip = s.trip := by simp only [State.offerQueue]; split <;> rfl
@[simp] theorem State.offerQueue_err (s : State) (p : Nat) (r : ErrRec) : (s.offerQueue p r).err = s.err := by simp only [State.offerQueue]; split <;> rfl
@[simp] theorem State.offerQueue_boot (s : State) (p : Nat) (r : ErrRec) : (s.offerQueue p r).boot = s.boot := by simp only [State.offerQueue]; split <;> rfl
@[simp] theorem State.offerQueue_pins (s : State) (p : Nat) (r : ErrRec) : (s.offerQueue p r).pins = s.pins := by simp only [State.offerQueue]; split <;> rfl
@[simp] theorem State.offerQueue_rtc (s : State) (p : Nat) (r : ErrRec) : (s.offerQueue p r).rtc = s.rtc := by simp only [State.offerQueue]; split <;> rfl
@[simp] theorem State.offerQueue_twin (s : State) (p : Nat) (r : ErrRec) : (s.offerQueue p r).twin = s.twin := by simp only [State.offerQueue]; split <;> rfl
@[simp] theorem State.offerQueue_keep (s : State) (p : Nat) (r : ErrRec) : (s.offerQueue p r).keep = s.keep := by simp only [State.offerQueue]; split <;> rfl
@[simp] theorem State.offerQueue_out (s : State) (p : Nat) (r : ErrRec) : (s.offerQueue p r).out = s.out := by simp only [State.offerQueue]; split <;> rfl
@[simp] theorem State.offerQueue_sw (s : State) (p : Nat) (r : ErrRec) : (s.offerQueue p r).sw = s.sw := by simp only [State.offerQueue]; split <;> rfl
@[simp] theorem State.offerQueue_time (s : State) (p : Nat) (r : ErrRec) : (s.offerQueue p r).time = s.time := by simp only [State.offerQueue]; split <;> rfl
@[simp] theorem State.offerQueue_can (s : State) (p : Nat) (r : ErrRec) : (s.offerQueue p r).can = s.can := by simp only [State.offerQueue]; split <;> rfl
@[simp] theorem State.offerQueue_spe (s : State) (p : Nat) (r : ErrRec) : (s.offerQueue p r).spe = s.spe := by simp only [State.offerQueue]; split <;> rfl
@[simp] theorem State.offerQueue_safe (s : State) (p : Nat) (r : ErrRec) : (s.offerQueue p r).safe = s.safe := by simp only [State.offerQueue]; split <;> rfl
@[simp] theorem State.offerQueue_moor (s : State) (p : Nat) (r : ErrRec) : (s.offerQueue p r).moor = s.moor := by simp only [State.offerQueue]; split <;> rfl
@[simp] theorem State.offerQueue_haw (s : State) (p : Nat) (r : ErrRec) : (s.offerQueue p r).haw = s.haw := by simp only [State.offerQueue]; split <;> rfl
@[simp] theorem State.offerQueue_multi (s : State) (p : Nat) (r : ErrRec) : (s.offerQueue p r).multi = s.multi := by simp only [State.offerQueue]; split <;> rfl
@[simp] theorem State.offerQueue_vault (s : State) (p : Nat) (r : ErrRec) : (s.offerQueue p r).vault = s.vault := by simp only [State.offerQueue]; split <;> rfl
@[simp] theorem State.offerQueue_met (s : State) (p : Nat) (r : ErrRec) : (s.offerQueue p r).met = s.met := by simp only [State.offerQueue]; split <;> rfl

/-! ### offerGlobal -/
@[simp] theorem State.offerGlobal_pending (s : State) (r : ErrRec) : (s.offerGlobal r).pending = s.pending := by simp only [State.offerGlobal]; split <;> split <;> rfl
@[simp] theorem State.offerGlobal_free (s : State) (r : ErrRec) : (s.offerGlobal r).free = s.free := by simp only [State.offerGlobal]; split <;> split <;> rfl
@[simp] theorem State.offerGlobal_mem (s : State) (r : ErrRec) : (s.offerGlobal r).mem = s.mem := by simp only [State.offerGlobal]; split <;> split <;> rfl
@[simp] theorem State.offerGlobal_tick (s : State) (r : ErrRec) : (s.offerGlobal r).tick = s.tick := by simp only [State.offerGlobal]; split <;> split <;> rfl
@[simp] theorem State.offerGlobal_lamps (s : State) (r : ErrRec) : (s.offerGlobal r).lamps = s.lamps := by simp only [State.offerGlobal]; split <;> split <;> rfl
@[simp] theorem State.offerGlobal_parts (s : State) (r : ErrRec) : (s.offerGlobal r).parts = s.parts := by simp only [State.offerGlobal]; split <;> split <;> rfl
@[simp] theorem State.offerGlobal_tiles (s : State) (r : ErrRec) : (s.offerGlobal r).tiles = s.tiles := by simp only [State.offerGlobal]; split <;> split <;> rfl
@[simp] theorem State.offerGlobal_eng (s : State) (r : ErrRec) : (s.offerGlobal r).eng = s.eng := by simp only [State.offerGlobal]; split <;> split <;> rfl
@[simp] theorem State.offerGlobal_clu (s : State) (r : ErrRec) : (s.offerGlobal r).clu = s.clu := by simp only [State.offerGlobal]; split <;> split <;> rfl
@[simp] theorem State.offerGlobal_sv (s : State) (r : ErrRec) : (s.offerGlobal r).sv = s.sv := by simp only [State.offerGlobal]; split <;> split <;> rfl
@[simp] theorem State.offerGlobal_trip (s : State) (r : ErrRec) : (s.offerGlobal r).trip = s.trip := by simp only [State.offerGlobal]; split <;> split <;> rfl
@[simp] theorem State.offerGlobal_boot (s : State) (r : ErrRec) : (s.offerGlobal r).boot = s.boot := by simp only [State.offerGlobal]; split <;> split <;> rfl
@[simp] theorem State.offerGlobal_pins (s : State) (r : ErrRec) : (s.offerGlobal r).pins = s.pins := by simp only [State.offerGlobal]; split <;> split <;> rfl
@[simp] theorem State.offerGlobal_rtc (s : State) (r : ErrRec) : (s.offerGlobal r).rtc = s.rtc := by simp only [State.offerGlobal]; split <;> split <;> rfl
@[simp] theorem State.offerGlobal_twin (s : State) (r : ErrRec) : (s.offerGlobal r).twin = s.twin := by simp only [State.offerGlobal]; split <;> split <;> rfl
@[simp] theorem State.offerGlobal_keep (s : State) (r : ErrRec) : (s.offerGlobal r).keep = s.keep := by simp only [State.offerGlobal]; split <;> split <;> rfl
@[simp] theorem State.offerGlobal_out (s : State) (r : ErrRec) : (s.offerGlobal r).out = s.out := by simp only [State.offerGlobal]; split <;> split <;> rfl
@[simp] theorem State.offerGlobal_sw (s : State) (r : ErrRec) : (s.offerGlobal r).sw = s.sw := by simp only [State.offerGlobal]; split <;> split <;> rfl
@[simp] theorem State.offerGlobal_time (s : State) (r : ErrRec) : (s.offerGlobal r).time = s.time := by simp only [State.offerGlobal]; split <;> split <;> rfl
@[simp] theorem State.offerGlobal_can (s : State) (r : ErrRec) : (s.offerGlobal r).can = s.can := by simp only [State.offerGlobal]; split <;> split <;> rfl
@[simp] theorem State.offerGlobal_spe (s : State) (r : ErrRec) : (s.offerGlobal r).spe = s.spe := by simp only [State.offerGlobal]; split <;> split <;> rfl
@[simp] theorem State.offerGlobal_safe (s : State) (r : ErrRec) : (s.offerGlobal r).safe = s.safe := by simp only [State.offerGlobal]; split <;> split <;> rfl
@[simp] theorem State.offerGlobal_moor (s : State) (r : ErrRec) : (s.offerGlobal r).moor = s.moor := by simp only [State.offerGlobal]; split <;> split <;> rfl
@[simp] theorem State.offerGlobal_haw (s : State) (r : ErrRec) : (s.offerGlobal r).haw = s.haw := by simp only [State.offerGlobal]; split <;> split <;> rfl
@[simp] theorem State.offerGlobal_multi (s : State) (r : ErrRec) : (s.offerGlobal r).multi = s.multi := by simp only [State.offerGlobal]; split <;> split <;> rfl
@[simp] theorem State.offerGlobal_vault (s : State) (r : ErrRec) : (s.offerGlobal r).vault = s.vault := by simp only [State.offerGlobal]; split <;> split <;> rfl
@[simp] theorem State.offerGlobal_met (s : State) (r : ErrRec) : (s.offerGlobal r).met = s.met := by simp only [State.offerGlobal]; split <;> split <;> rfl

/-! ### enter -/
@[simp] theorem State.enter_pending (s : State) (r : RecIn) (q : Option Nat) (g : Bool) : (s.enter r q g).pending = s.pending := by cases q <;> simp only [State.enter] <;> split <;> split <;> simp
@[simp] theorem State.enter_mem (s : State) (r : RecIn) (q : Option Nat) (g : Bool) : (s.enter r q g).mem = s.mem := by cases q <;> simp only [State.enter] <;> split <;> split <;> simp
@[simp] theorem State.enter_tick (s : State) (r : RecIn) (q : Option Nat) (g : Bool) : (s.enter r q g).tick = s.tick := by cases q <;> simp only [State.enter] <;> split <;> split <;> simp
@[simp] theorem State.enter_lamps (s : State) (r : RecIn) (q : Option Nat) (g : Bool) : (s.enter r q g).lamps = s.lamps := by cases q <;> simp only [State.enter] <;> split <;> split <;> simp
@[simp] theorem State.enter_tiles (s : State) (r : RecIn) (q : Option Nat) (g : Bool) : (s.enter r q g).tiles = s.tiles := by cases q <;> simp only [State.enter] <;> split <;> split <;> simp
@[simp] theorem State.enter_eng (s : State) (r : RecIn) (q : Option Nat) (g : Bool) : (s.enter r q g).eng = s.eng := by cases q <;> simp only [State.enter] <;> split <;> split <;> simp
@[simp] theorem State.enter_clu (s : State) (r : RecIn) (q : Option Nat) (g : Bool) : (s.enter r q g).clu = s.clu := by cases q <;> simp only [State.enter] <;> split <;> split <;> simp
@[simp] theorem State.enter_sv (s : State) (r : RecIn) (q : Option Nat) (g : Bool) : (s.enter r q g).sv = s.sv := by cases q <;> simp only [State.enter] <;> split <;> split <;> simp
@[simp] theorem State.enter_trip (s : State) (r : RecIn) (q : Option Nat) (g : Bool) : (s.enter r q g).trip = s.trip := by cases q <;> simp only [State.enter] <;> split <;> split <;> simp
@[simp] theorem State.enter_boot (s : State) (r : RecIn) (q : Option Nat) (g : Bool) : (s.enter r q g).boot = s.boot := by cases q <;> simp only [State.enter] <;> split <;> split <;> simp
@[simp] theorem State.enter_pins (s : State) (r : RecIn) (q : Option Nat) (g : Bool) : (s.enter r q g).pins = s.pins := by cases q <;> simp only [State.enter] <;> split <;> split <;> simp
@[simp] theorem State.enter_rtc (s : State) (r : RecIn) (q : Option Nat) (g : Bool) : (s.enter r q g).rtc = s.rtc := by cases q <;> simp only [State.enter] <;> split <;> split <;> simp
@[simp] theorem State.enter_twin (s : State) (r : RecIn) (q : Option Nat) (g : Bool) : (s.enter r q g).twin = s.twin := by cases q <;> simp only [State.enter] <;> split <;> split <;> simp
@[simp] theorem State.enter_keep (s : State) (r : RecIn) (q : Option Nat) (g : Bool) : (s.enter r q g).keep = s.keep := by cases q <;> simp only [State.enter] <;> split <;> split <;> simp
@[simp] theorem State.enter_out (s : State) (r : RecIn) (q : Option Nat) (g : Bool) : (s.enter r q g).out = s.out := by cases q <;> simp only [State.enter] <;> split <;> split <;> simp
@[simp] theorem State.enter_sw (s : State) (r : RecIn) (q : Option Nat) (g : Bool) : (s.enter r q g).sw = s.sw := by cases q <;> simp only [State.enter] <;> split <;> split <;> simp
@[simp] theorem State.enter_time (s : State) (r : RecIn) (q : Option Nat) (g : Bool) : (s.enter r q g).time = s.time := by cases q <;> simp only [State.enter] <;> split <;> split <;> simp
@[simp] theorem State.enter_can (s : State) (r : RecIn) (q : Option Nat) (g : Bool) : (s.enter r q g).can = s.can := by cases q <;> simp only [State.enter] <;> split <;> split <;> simp
@[simp] theorem State.enter_spe (s : State) (r : RecIn) (q : Option Nat) (g : Bool) : (s.enter r q g).spe = s.spe := by cases q <;> simp only [State.enter] <;> split <;> split <;> simp
@[simp] theorem State.enter_safe (s : State) (r : RecIn) (q : Option Nat) (g : Bool) : (s.enter r q g).safe = s.safe := by cases q <;> simp only [State.enter] <;> split <;> split <;> simp
@[simp] theorem State.enter_moor (s : State) (r : RecIn) (q : Option Nat) (g : Bool) : (s.enter r q g).moor = s.moor := by cases q <;> simp only [State.enter] <;> split <;> split <;> simp
@[simp] theorem State.enter_haw (s : State) (r : RecIn) (q : Option Nat) (g : Bool) : (s.enter r q g).haw = s.haw := by cases q <;> simp only [State.enter] <;> split <;> split <;> simp
@[simp] theorem State.enter_multi (s : State) (r : RecIn) (q : Option Nat) (g : Bool) : (s.enter r q g).multi = s.multi := by cases q <;> simp only [State.enter] <;> split <;> split <;> simp
@[simp] theorem State.enter_vault (s : State) (r : RecIn) (q : Option Nat) (g : Bool) : (s.enter r q g).vault = s.vault := by cases q <;> simp only [State.enter] <;> split <;> split <;> simp
@[simp] theorem State.enter_met (s : State) (r : RecIn) (q : Option Nat) (g : Bool) : (s.enter r q g).met = s.met := by cases q <;> simp only [State.enter] <;> split <;> split <;> simp

/-! ### freezeTrigger -/
@[simp] theorem State.freezeTrigger_pending (s : State) (src : Nat) (c : Option Nat) (p e : Nat) : (s.freezeTrigger src c p e).pending = s.pending := by cases c <;> simp only [State.freezeTrigger] <;> (repeat' split) <;> simp_all
@[simp] theorem State.freezeTrigger_mem (s : State) (src : Nat) (c : Option Nat) (p e : Nat) : (s.freezeTrigger src c p e).mem = s.mem := by cases c <;> simp only [State.freezeTrigger] <;> (repeat' split) <;> simp_all
@[simp] theorem State.freezeTrigger_tick (s : State) (src : Nat) (c : Option Nat) (p e : Nat) : (s.freezeTrigger src c p e).tick = s.tick := by cases c <;> simp only [State.freezeTrigger] <;> (repeat' split) <;> simp_all
@[simp] theorem State.freezeTrigger_lamps (s : State) (src : Nat) (c : Option Nat) (p e : Nat) : (s.freezeTrigger src c p e).lamps = s.lamps := by cases c <;> simp only [State.freezeTrigger] <;> (repeat' split) <;> simp_all
@[simp] theorem State.freezeTrigger_tiles (s : State) (src : Nat) (c : Option Nat) (p e : Nat) : (s.freezeTrigger src c p e).tiles = s.tiles := by cases c <;> simp only [State.freezeTrigger] <;> (repeat' split) <;> simp_all
@[simp] theorem State.freezeTrigger_eng (s : State) (src : Nat) (c : Option Nat) (p e : Nat) : (s.freezeTrigger src c p e).eng = s.eng := by cases c <;> simp only [State.freezeTrigger] <;> (repeat' split) <;> simp_all
@[simp] theorem State.freezeTrigger_clu (s : State) (src : Nat) (c : Option Nat) (p e : Nat) : (s.freezeTrigger src c p e).clu = s.clu := by cases c <;> simp only [State.freezeTrigger] <;> (repeat' split) <;> simp_all
@[simp] theorem State.freezeTrigger_sv (s : State) (src : Nat) (c : Option Nat) (p e : Nat) : (s.freezeTrigger src c p e).sv = s.sv := by cases c <;> simp only [State.freezeTrigger] <;> (repeat' split) <;> simp_all
@[simp] theorem State.freezeTrigger_trip (s : State) (src : Nat) (c : Option Nat) (p e : Nat) : (s.freezeTrigger src c p e).trip = s.trip := by cases c <;> simp only [State.freezeTrigger] <;> (repeat' split) <;> simp_all
@[simp] theorem State.freezeTrigger_boot (s : State) (src : Nat) (c : Option Nat) (p e : Nat) : (s.freezeTrigger src c p e).boot = s.boot := by cases c <;> simp only [State.freezeTrigger] <;> (repeat' split) <;> simp_all
@[simp] theorem State.freezeTrigger_rtc (s : State) (src : Nat) (c : Option Nat) (p e : Nat) : (s.freezeTrigger src c p e).rtc = s.rtc := by cases c <;> simp only [State.freezeTrigger] <;> (repeat' split) <;> simp_all
@[simp] theorem State.freezeTrigger_twin (s : State) (src : Nat) (c : Option Nat) (p e : Nat) : (s.freezeTrigger src c p e).twin = s.twin := by cases c <;> simp only [State.freezeTrigger] <;> (repeat' split) <;> simp_all
@[simp] theorem State.freezeTrigger_keep (s : State) (src : Nat) (c : Option Nat) (p e : Nat) : (s.freezeTrigger src c p e).keep = s.keep := by cases c <;> simp only [State.freezeTrigger] <;> (repeat' split) <;> simp_all
@[simp] theorem State.freezeTrigger_out (s : State) (src : Nat) (c : Option Nat) (p e : Nat) : (s.freezeTrigger src c p e).out = s.out := by cases c <;> simp only [State.freezeTrigger] <;> (repeat' split) <;> simp_all
@[simp] theorem State.freezeTrigger_sw (s : State) (src : Nat) (c : Option Nat) (p e : Nat) : (s.freezeTrigger src c p e).sw = s.sw := by cases c <;> simp only [State.freezeTrigger] <;> (repeat' split) <;> simp_all
@[simp] theorem State.freezeTrigger_time (s : State) (src : Nat) (c : Option Nat) (p e : Nat) : (s.freezeTrigger src c p e).time = s.time := by cases c <;> simp only [State.freezeTrigger] <;> (repeat' split) <;> simp_all
@[simp] theorem State.freezeTrigger_can (s : State) (src : Nat) (c : Option Nat) (p e : Nat) : (s.freezeTrigger src c p e).can = s.can := by cases c <;> simp only [State.freezeTrigger] <;> (repeat' split) <;> simp_all
@[simp] theorem State.freezeTrigger_spe (s : State) (src : Nat) (c : Option Nat) (p e : Nat) : (s.freezeTrigger src c p e).spe = s.spe := by cases c <;> simp only [State.freezeTrigger] <;> (repeat' split) <;> simp_all
@[simp] theorem State.freezeTrigger_safe (s : State) (src : Nat) (c : Option Nat) (p e : Nat) : (s.freezeTrigger src c p e).safe = s.safe := by cases c <;> simp only [State.freezeTrigger] <;> (repeat' split) <;> simp_all
@[simp] theorem State.freezeTrigger_moor (s : State) (src : Nat) (c : Option Nat) (p e : Nat) : (s.freezeTrigger src c p e).moor = s.moor := by cases c <;> simp only [State.freezeTrigger] <;> (repeat' split) <;> simp_all
@[simp] theorem State.freezeTrigger_haw (s : State) (src : Nat) (c : Option Nat) (p e : Nat) : (s.freezeTrigger src c p e).haw = s.haw := by cases c <;> simp only [State.freezeTrigger] <;> (repeat' split) <;> simp_all
@[simp] theorem State.freezeTrigger_multi (s : State) (src : Nat) (c : Option Nat) (p e : Nat) : (s.freezeTrigger src c p e).multi = s.multi := by cases c <;> simp only [State.freezeTrigger] <;> (repeat' split) <;> simp_all
@[simp] theorem State.freezeTrigger_vault (s : State) (src : Nat) (c : Option Nat) (p e : Nat) : (s.freezeTrigger src c p e).vault = s.vault := by cases c <;> simp only [State.freezeTrigger] <;> (repeat' split) <;> simp_all
@[simp] theorem State.freezeTrigger_met (s : State) (src : Nat) (c : Option Nat) (p e : Nat) : (s.freezeTrigger src c p e).met = s.met := by cases c <;> simp only [State.freezeTrigger] <;> (repeat' split) <;> simp_all

/-! ### log -/
@[simp] theorem State.log_pending (s : State) (r : RecIn) (q : Option Nat) (g : Bool) : (s.log r q g).pending = s.pending := by simp only [State.log]; split <;> simp
@[simp] theorem State.log_mem (s : State) (r : RecIn) (q : Option Nat) (g : Bool) : (s.log r q g).mem = s.mem := by simp only [State.log]; split <;> simp
@[simp] theorem State.log_tick (s : State) (r : RecIn) (q : Option Nat) (g : Bool) : (s.log r q g).tick = s.tick := by simp only [State.log]; split <;> simp
@[simp] theorem State.log_lamps (s : State) (r : RecIn) (q : Option Nat) (g : Bool) : (s.log r q g).lamps = s.lamps := by simp only [State.log]; split <;> simp
@[simp] theorem State.log_tiles (s : State) (r : RecIn) (q : Option Nat) (g : Bool) : (s.log r q g).tiles = s.tiles := by simp only [State.log]; split <;> simp
@[simp] theorem State.log_eng (s : State) (r : RecIn) (q : Option Nat) (g : Bool) : (s.log r q g).eng = s.eng := by simp only [State.log]; split <;> simp
@[simp] theorem State.log_clu (s : State) (r : RecIn) (q : Option Nat) (g : Bool) : (s.log r q g).clu = s.clu := by simp only [State.log]; split <;> simp
@[simp] theorem State.log_sv (s : State) (r : RecIn) (q : Option Nat) (g : Bool) : (s.log r q g).sv = s.sv := by simp only [State.log]; split <;> simp
@[simp] theorem State.log_trip (s : State) (r : RecIn) (q : Option Nat) (g : Bool) : (s.log r q g).trip = s.trip := by simp only [State.log]; split <;> simp
@[simp] theorem State.log_boot (s : State) (r : RecIn) (q : Option Nat) (g : Bool) : (s.log r q g).boot = s.boot := by simp only [State.log]; split <;> simp
@[simp] theorem State.log_rtc (s : State) (r : RecIn) (q : Option Nat) (g : Bool) : (s.log r q g).rtc = s.rtc := by simp only [State.log]; split <;> simp
@[simp] theorem State.log_twin (s : State) (r : RecIn) (q : Option Nat) (g : Bool) : (s.log r q g).twin = s.twin := by simp only [State.log]; split <;> simp
@[simp] theorem State.log_keep (s : State) (r : RecIn) (q : Option Nat) (g : Bool) : (s.log r q g).keep = s.keep := by simp only [State.log]; split <;> simp
@[simp] theorem State.log_out (s : State) (r : RecIn) (q : Option Nat) (g : Bool) : (s.log r q g).out = s.out := by simp only [State.log]; split <;> simp
@[simp] theorem State.log_sw (s : State) (r : RecIn) (q : Option Nat) (g : Bool) : (s.log r q g).sw = s.sw := by simp only [State.log]; split <;> simp
@[simp] theorem State.log_time (s : State) (r : RecIn) (q : Option Nat) (g : Bool) : (s.log r q g).time = s.time := by simp only [State.log]; split <;> simp
@[simp] theorem State.log_can (s : State) (r : RecIn) (q : Option Nat) (g : Bool) : (s.log r q g).can = s.can := by simp only [State.log]; split <;> simp
@[simp] theorem State.log_spe (s : State) (r : RecIn) (q : Option Nat) (g : Bool) : (s.log r q g).spe = s.spe := by simp only [State.log]; split <;> simp
@[simp] theorem State.log_safe (s : State) (r : RecIn) (q : Option Nat) (g : Bool) : (s.log r q g).safe = s.safe := by simp only [State.log]; split <;> simp
@[simp] theorem State.log_moor (s : State) (r : RecIn) (q : Option Nat) (g : Bool) : (s.log r q g).moor = s.moor := by simp only [State.log]; split <;> simp
@[simp] theorem State.log_haw (s : State) (r : RecIn) (q : Option Nat) (g : Bool) : (s.log r q g).haw = s.haw := by simp only [State.log]; split <;> simp
@[simp] theorem State.log_multi (s : State) (r : RecIn) (q : Option Nat) (g : Bool) : (s.log r q g).multi = s.multi := by simp only [State.log]; split <;> simp
@[simp] theorem State.log_vault (s : State) (r : RecIn) (q : Option Nat) (g : Bool) : (s.log r q g).vault = s.vault := by simp only [State.log]; split <;> simp
@[simp] theorem State.log_met (s : State) (r : RecIn) (q : Option Nat) (g : Bool) : (s.log r q g).met = s.met := by simp only [State.log]; split <;> simp

/-! ### event -/
@[simp] theorem State.event_pending (s : State) (c p v v2 : Nat) (y : Option Nat) : (s.event c p v v2 y).pending = s.pending := by simp [State.event]
@[simp] theorem State.event_mem (s : State) (c p v v2 : Nat) (y : Option Nat) : (s.event c p v v2 y).mem = s.mem := by simp [State.event]
@[simp] theorem State.event_tick (s : State) (c p v v2 : Nat) (y : Option Nat) : (s.event c p v v2 y).tick = s.tick := by simp [State.event]
@[simp] theorem State.event_lamps (s : State) (c p v v2 : Nat) (y : Option Nat) : (s.event c p v v2 y).lamps = s.lamps := by simp [State.event]
@[simp] theorem State.event_tiles (s : State) (c p v v2 : Nat) (y : Option Nat) : (s.event c p v v2 y).tiles = s.tiles := by simp [State.event]
@[simp] theorem State.event_eng (s : State) (c p v v2 : Nat) (y : Option Nat) : (s.event c p v v2 y).eng = s.eng := by simp [State.event]
@[simp] theorem State.event_clu (s : State) (c p v v2 : Nat) (y : Option Nat) : (s.event c p v v2 y).clu = s.clu := by simp [State.event]
@[simp] theorem State.event_sv (s : State) (c p v v2 : Nat) (y : Option Nat) : (s.event c p v v2 y).sv = s.sv := by simp [State.event]
@[simp] theorem State.event_trip (s : State) (c p v v2 : Nat) (y : Option Nat) : (s.event c p v v2 y).trip = s.trip := by simp [State.event]
@[simp] theorem State.event_boot (s : State) (c p v v2 : Nat) (y : Option Nat) : (s.event c p v v2 y).boot = s.boot := by simp [State.event]
@[simp] theorem State.event_rtc (s : State) (c p v v2 : Nat) (y : Option Nat) : (s.event c p v v2 y).rtc = s.rtc := by simp [State.event]
@[simp] theorem State.event_twin (s : State) (c p v v2 : Nat) (y : Option Nat) : (s.event c p v v2 y).twin = s.twin := by simp [State.event]
@[simp] theorem State.event_keep (s : State) (c p v v2 : Nat) (y : Option Nat) : (s.event c p v v2 y).keep = s.keep := by simp [State.event]
@[simp] theorem State.event_out (s : State) (c p v v2 : Nat) (y : Option Nat) : (s.event c p v v2 y).out = s.out := by simp [State.event]
@[simp] theorem State.event_sw (s : State) (c p v v2 : Nat) (y : Option Nat) : (s.event c p v v2 y).sw = s.sw := by simp [State.event]
@[simp] theorem State.event_time (s : State) (c p v v2 : Nat) (y : Option Nat) : (s.event c p v v2 y).time = s.time := by simp [State.event]
@[simp] theorem State.event_can (s : State) (c p v v2 : Nat) (y : Option Nat) : (s.event c p v v2 y).can = s.can := by simp [State.event]
@[simp] theorem State.event_spe (s : State) (c p v v2 : Nat) (y : Option Nat) : (s.event c p v v2 y).spe = s.spe := by simp [State.event]
@[simp] theorem State.event_safe (s : State) (c p v v2 : Nat) (y : Option Nat) : (s.event c p v v2 y).safe = s.safe := by simp [State.event]
@[simp] theorem State.event_moor (s : State) (c p v v2 : Nat) (y : Option Nat) : (s.event c p v v2 y).moor = s.moor := by simp [State.event]
@[simp] theorem State.event_haw (s : State) (c p v v2 : Nat) (y : Option Nat) : (s.event c p v v2 y).haw = s.haw := by simp [State.event]
@[simp] theorem State.event_multi (s : State) (c p v v2 : Nat) (y : Option Nat) : (s.event c p v v2 y).multi = s.multi := by simp [State.event]
@[simp] theorem State.event_vault (s : State) (c p v v2 : Nat) (y : Option Nat) : (s.event c p v v2 y).vault = s.vault := by simp [State.event]
@[simp] theorem State.event_met (s : State) (c p v v2 : Nat) (y : Option Nat) : (s.event c p v v2 y).met = s.met := by simp [State.event]

/-! ### eventQ -/
@[simp] theorem State.eventQ_pending (s : State) (c p v v2 h : Nat) (y : Option Nat) : (s.eventQ c p v v2 h y).pending = s.pending := by simp [State.eventQ]
@[simp] theorem State.eventQ_mem (s : State) (c p v v2 h : Nat) (y : Option Nat) : (s.eventQ c p v v2 h y).mem = s.mem := by simp [State.eventQ]
@[simp] theorem State.eventQ_tick (s : State) (c p v v2 h : Nat) (y : Option Nat) : (s.eventQ c p v v2 h y).tick = s.tick := by simp [State.eventQ]
@[simp] theorem State.eventQ_lamps (s : State) (c p v v2 h : Nat) (y : Option Nat) : (s.eventQ c p v v2 h y).lamps = s.lamps := by simp [State.eventQ]
@[simp] theorem State.eventQ_tiles (s : State) (c p v v2 h : Nat) (y : Option Nat) : (s.eventQ c p v v2 h y).tiles = s.tiles := by simp [State.eventQ]
@[simp] theorem State.eventQ_eng (s : State) (c p v v2 h : Nat) (y : Option Nat) : (s.eventQ c p v v2 h y).eng = s.eng := by simp [State.eventQ]
@[simp] theorem State.eventQ_clu (s : State) (c p v v2 h : Nat) (y : Option Nat) : (s.eventQ c p v v2 h y).clu = s.clu := by simp [State.eventQ]
@[simp] theorem State.eventQ_sv (s : State) (c p v v2 h : Nat) (y : Option Nat) : (s.eventQ c p v v2 h y).sv = s.sv := by simp [State.eventQ]
@[simp] theorem State.eventQ_trip (s : State) (c p v v2 h : Nat) (y : Option Nat) : (s.eventQ c p v v2 h y).trip = s.trip := by simp [State.eventQ]
@[simp] theorem State.eventQ_boot (s : State) (c p v v2 h : Nat) (y : Option Nat) : (s.eventQ c p v v2 h y).boot = s.boot := by simp [State.eventQ]
@[simp] theorem State.eventQ_rtc (s : State) (c p v v2 h : Nat) (y : Option Nat) : (s.eventQ c p v v2 h y).rtc = s.rtc := by simp [State.eventQ]
@[simp] theorem State.eventQ_twin (s : State) (c p v v2 h : Nat) (y : Option Nat) : (s.eventQ c p v v2 h y).twin = s.twin := by simp [State.eventQ]
@[simp] theorem State.eventQ_keep (s : State) (c p v v2 h : Nat) (y : Option Nat) : (s.eventQ c p v v2 h y).keep = s.keep := by simp [State.eventQ]
@[simp] theorem State.eventQ_out (s : State) (c p v v2 h : Nat) (y : Option Nat) : (s.eventQ c p v v2 h y).out = s.out := by simp [State.eventQ]
@[simp] theorem State.eventQ_sw (s : State) (c p v v2 h : Nat) (y : Option Nat) : (s.eventQ c p v v2 h y).sw = s.sw := by simp [State.eventQ]
@[simp] theorem State.eventQ_time (s : State) (c p v v2 h : Nat) (y : Option Nat) : (s.eventQ c p v v2 h y).time = s.time := by simp [State.eventQ]
@[simp] theorem State.eventQ_can (s : State) (c p v v2 h : Nat) (y : Option Nat) : (s.eventQ c p v v2 h y).can = s.can := by simp [State.eventQ]
@[simp] theorem State.eventQ_spe (s : State) (c p v v2 h : Nat) (y : Option Nat) : (s.eventQ c p v v2 h y).spe = s.spe := by simp [State.eventQ]
@[simp] theorem State.eventQ_safe (s : State) (c p v v2 h : Nat) (y : Option Nat) : (s.eventQ c p v v2 h y).safe = s.safe := by simp [State.eventQ]
@[simp] theorem State.eventQ_moor (s : State) (c p v v2 h : Nat) (y : Option Nat) : (s.eventQ c p v v2 h y).moor = s.moor := by simp [State.eventQ]
@[simp] theorem State.eventQ_haw (s : State) (c p v v2 h : Nat) (y : Option Nat) : (s.eventQ c p v v2 h y).haw = s.haw := by simp [State.eventQ]
@[simp] theorem State.eventQ_multi (s : State) (c p v v2 h : Nat) (y : Option Nat) : (s.eventQ c p v v2 h y).multi = s.multi := by simp [State.eventQ]
@[simp] theorem State.eventQ_vault (s : State) (c p v v2 h : Nat) (y : Option Nat) : (s.eventQ c p v v2 h y).vault = s.vault := by simp [State.eventQ]
@[simp] theorem State.eventQ_met (s : State) (c p v v2 h : Nat) (y : Option Nat) : (s.eventQ c p v v2 h y).met = s.met := by simp [State.eventQ]

end Sys2Proof.Machine
end

