-- ==== Sys2Proof/Laws/Tbl.lean ====
section
/-!
SUPPORT. Sparse tables: what a read gives after a write, and that every write keeps the canonical form.
-/
namespace Sys2Proof.Machine

/-! ### Reads after writes -/

@[simp] theorem tget_nil {α : Type} (x : Nat) : tget ([] : List (Nat × α)) x = none := rfl

theorem tget_tput {α : Type} (t : List (Nat × α)) (x y : Nat) (a : α) :
    tget (tput t x a) y = if y = x then some a else tget t y := by
  induction t with
  | nil => simp only [tput, tget, eq_comm]
  | cons e t ih =>
    obtain ⟨k, v⟩ := e
    by_cases h1 : x < k
    · by_cases h2 : y = x
      · simp [tput, tget, h1, h2]
      · simp [tput, tget, h1, h2, Ne.symm h2]
    · by_cases h3 : x = k
      · subst h3
        by_cases h2 : y = x
        · simp [tput, tget, h2]
        · simp [tput, tget, h2, Ne.symm h2]
      · by_cases h2 : y = x
        · subst h2
          simp [tput, tget, h1, h3, Ne.symm h3, ih]
        · simp [tput, tget, h1, h3, h2, ih]

theorem tget_tdel {α : Type} (t : List (Nat × α)) (x y : Nat) :
    tget (tdel t x) y = if y = x then none else tget t y := by
  induction t with
  | nil => simp [tdel, tget]
  | cons e t ih =>
    obtain ⟨k, v⟩ := e
    have ih' : tget (List.filter (fun e => e.1 != x) t) y = if y = x then none else tget t y := ih
    by_cases h : k = x
    · subst h
      by_cases h2 : y = k
      · simp [tdel, h2]
        simpa [h2] using ih'
      · simp [tdel, tget, h2, Ne.symm h2, ih']
    · by_cases h2 : y = x
      · subst h2
        simpa [tdel, tget, h] using ih'
      · simp [tdel, tget, h, h2, ih']

@[simp] theorem tgetD_tput_same {α : Type} (t : List (Nat × α)) (x : Nat) (a d : α) : tgetD (tput t x a) x d = a := by
  simp [tgetD, tget_tput]

theorem tgetD_tput_ne {α : Type} (t : List (Nat × α)) (x y : Nat) (a d : α) (h : y ≠ x) :
    tgetD (tput t x a) y d = tgetD t y d := by simp [tgetD, tget_tput, h]

/-- A read after a write of a table with defaults. -/
theorem dget_dput {α : Type} [DecidableEq α] (d : Nat → α) (t : List (Nat × α)) (x y : Nat) (a : α) :
    dget d (dput d t x a) y = if y = x then a else dget d t y := by
  by_cases h : a = d x
  · by_cases h2 : y = x
    · simp [dput, h, dget, tgetD, tget_tdel, h2]
    · simp [dput, h, dget, tgetD, tget_tdel, h2]
  · by_cases h2 : y = x
    · simp [dput, h, dget, tgetD, tget_tput, h2]
    · simp [dput, h, dget, tgetD, tget_tput, h2]

/-! ### The canonical form -/

/-- The keys of a table rise strictly, as a statement about every pair. -/
theorem tsorted_iff {α : Type} (t : List (Nat × α)) : tsorted t = true ↔ t.Pairwise (fun a b => a.1 < b.1) := by
  induction t with
  | nil => simp [tsorted]
  | cons e t ih =>
    obtain ⟨k, v⟩ := e
    cases t with
    | nil => simp [tsorted]
    | cons f u =>
      obtain ⟨k', v'⟩ := f
      simp only [tsorted, Bool.and_eq_true, decide_eq_true_eq, ih]
      constructor
      · rintro ⟨h1, h2⟩
        refine List.pairwise_cons.2 ⟨?_, h2⟩
        intro b hb
        rcases List.mem_cons.1 hb with rfl | hb
        · exact h1
        · exact lt_trans h1 ((List.pairwise_cons.1 h2).1 b hb)
      · intro h
        exact ⟨(List.pairwise_cons.1 h).1 _ (List.mem_cons_self ..), (List.pairwise_cons.1 h).2⟩

theorem dcanon_iff {α : Type} [DecidableEq α] (d : Nat → α) (t : List (Nat × α)) :
    dcanon d t = true ↔ t.Pairwise (fun a b => a.1 < b.1) ∧ ∀ e ∈ t, e.2 ≠ d e.1 := by
  simp [dcanon, tsorted_iff, List.all_eq_true]

theorem mem_tput {α : Type} (t : List (Nat × α)) (x : Nat) (a : α) (e : Nat × α) (h : e ∈ tput t x a) :
    e = (x, a) ∨ e ∈ t := by
  induction t with
  | nil => simpa [tput] using h
  | cons f t ih =>
    obtain ⟨k, v⟩ := f
    simp only [tput] at h
    split at h
    · simpa using h
    · split at h
      · rcases List.mem_cons.1 h with h | h
        · exact Or.inl h
        · exact Or.inr (List.mem_cons_of_mem _ h)
      · rcases List.mem_cons.1 h with h | h
        · exact Or.inr (h ▸ List.mem_cons_self ..)
        · exact (ih h).imp id (List.mem_cons_of_mem _)

theorem tput_pairwise {α : Type} (t : List (Nat × α)) (x : Nat) (a : α) (h : t.Pairwise (fun a b => a.1 < b.1)) :
    (tput t x a).Pairwise (fun a b => a.1 < b.1) := by
  induction t with
  | nil => simp [tput]
  | cons f t ih =>
    obtain ⟨k, v⟩ := f
    obtain ⟨h1, h2⟩ := List.pairwise_cons.1 h
    simp only [tput]
    split
    · rename_i hx
      refine List.pairwise_cons.2 ⟨?_, h⟩
      intro b hb
      rcases List.mem_cons.1 hb with rfl | hb
      · exact hx
      · exact lt_trans hx (h1 b hb)
    · split
      · rename_i hx
        subst hx
        exact List.pairwise_cons.2 ⟨h1, h2⟩
      · rename_i hx hy
        refine List.pairwise_cons.2 ⟨?_, ih h2⟩
        intro b hb
        rcases mem_tput t x a b hb with rfl | hb
        · show k < x
          omega
        · exact h1 b hb

/-- A write keeps the canonical form of a table with defaults. -/
theorem dput_canon {α : Type} [DecidableEq α] (d : Nat → α) (t : List (Nat × α)) (x : Nat) (a : α)
    (h : dcanon d t = true) : dcanon d (dput d t x a) = true := by
  rw [dcanon_iff] at h ⊢
  obtain ⟨h1, h2⟩ := h
  by_cases hx : a = d x
  · simp only [dput, hx, if_true, tdel]
    exact ⟨h1.sublist List.filter_sublist, fun e he => h2 e (List.mem_filter.1 he).1⟩
  · simp only [dput, hx, if_false]
    refine ⟨tput_pairwise t x a h1, ?_⟩
    intro e he
    rcases mem_tput t x a e he with rfl | he
    · exact hx
    · exact h2 e he

theorem mem_blockCells {α : Type} [DecidableEq α] (d : Nat → α) (a : Nat) (vs : List α) (e : Nat × α)
    (h : e ∈ blockCells d a vs) : a ≤ e.1 ∧ e.1 < a + vs.length ∧ e.2 ≠ d e.1 := by
  induction vs generalizing a with
  | nil => simp [blockCells] at h
  | cons v vs ih =>
    simp only [blockCells] at h
    split at h
    · obtain ⟨h1, h2, h3⟩ := ih (a + 1) h
      exact ⟨by omega, by simp; omega, h3⟩
    · rename_i hv
      rcases List.mem_cons.1 h with rfl | h
      · exact ⟨le_refl _, by simp, hv⟩
      · obtain ⟨h1, h2, h3⟩ := ih (a + 1) h
        exact ⟨by omega, by simp; omega, h3⟩

theorem blockCells_pairwise {α : Type} [DecidableEq α] (d : Nat → α) (a : Nat) (vs : List α) :
    (blockCells d a vs).Pairwise (fun a b => a.1 < b.1) := by
  induction vs generalizing a with
  | nil => simp [blockCells]
  | cons v vs ih =>
    simp only [blockCells]
    split
    · exact ih (a + 1)
    · refine List.pairwise_cons.2 ⟨?_, ih (a + 1)⟩
      intro b hb
      have := (mem_blockCells d (a + 1) vs b hb).1
      show a < b.1
      omega

/-- Replacing a block keeps the canonical form of a table with defaults. -/
theorem bput_canon {α : Type} [DecidableEq α] (d : Nat → α) (t : List (Nat × α)) (a : Nat) (vs : List α)
    (h : dcanon d t = true) : dcanon d (bput d t a vs) = true := by
  rw [dcanon_iff] at h ⊢
  obtain ⟨h1, h2⟩ := h
  constructor
  · simp only [bput]
    refine List.pairwise_append.2 ⟨List.pairwise_append.2 ⟨h1.sublist List.filter_sublist, blockCells_pairwise d a vs, ?_⟩,
      h1.sublist List.filter_sublist, ?_⟩
    · intro e he f hf
      have := of_decide_eq_true (List.mem_filter.1 he).2
      have := (mem_blockCells d a vs f hf).1
      omega
    · intro e he f hf
      have hf' := of_decide_eq_true (List.mem_filter.1 hf).2
      rcases List.mem_append.1 he with he | he
      · have := of_decide_eq_true (List.mem_filter.1 he).2
        omega
      · have := (mem_blockCells d a vs e he).2.1
        omega
  · intro e he
    simp only [bput] at he
    rcases List.mem_append.1 he with he | he
    · rcases List.mem_append.1 he with he | he
      · exact h2 e (List.mem_filter.1 he).1
      · exact (mem_blockCells d a vs e he).2.2
    · exact h2 e (List.mem_filter.1 he).1

/-- What a table holds at a key of a part of it. -/
theorem tget_filter {α : Type} (t : List (Nat × α)) (p : Nat → Bool) (x : Nat) :
    tget (t.filter (fun e => p e.1)) x = if p x then tget t x else none := by
  induction t with
  | nil => simp [tget]
  | cons e t ih =>
    obtain ⟨k, v⟩ := e
    by_cases h : p k
    · simp only [List.filter_cons, h, if_true, tget]
      by_cases hk : k = x
      · subst hk; simp [h]
      · simp [hk, ih]
    · by_cases hk : k = x
      · subst hk; simpa [List.filter_cons, h, tget] using ih
      · simp [h, tget, hk, ih]

theorem tget_append {α : Type} (t u : List (Nat × α)) (x : Nat) : tget (t ++ u) x = (tget t x).or (tget u x) := by
  induction t with
  | nil => simp [tget]
  | cons e t ih =>
    obtain ⟨k, v⟩ := e
    by_cases h : k = x
    · simp [tget, h]
    · simp [tget, h, ih]

theorem tget_blockCells {α : Type} [DecidableEq α] (d : Nat → α) (a : Nat) (vs : List α) (x : Nat) :
    tget (blockCells d a vs) x = if a ≤ x then (vs[x - a]?).bind (fun v => if v = d x then none else some v) else none := by
  induction vs generalizing a with
  | nil => simp [blockCells]
  | cons v vs ih =>
    simp only [blockCells]
    by_cases hx : a ≤ x
    · by_cases he : x = a
      · subst he
        by_cases hv : v = d x
        · simp [hv, ih]
        · simp [hv, tget]
      · have h1 : a + 1 ≤ x := by omega
        have h2 : x - a = (x - (a + 1)) + 1 := by omega
        by_cases hv : v = d a
        · simp [hv, ih, hx, h1, h2]
        · simp [hv, tget, Ne.symm he, ih, hx, h1, h2]
    · have h1 : ¬ a + 1 ≤ x := by omega
      have h2 : a ≠ x := by omega
      by_cases hv : v = d a
      · simp [hv, ih, hx, h1]
      · simp [hv, tget, h2, ih, hx, h1]

/-- A read of one cell after a block has been replaced: the block's value inside it, the old value outside it. -/
theorem dget_bput {α : Type} [DecidableEq α] (d : Nat → α) (t : List (Nat × α)) (a : Nat) (vs : List α) (x : Nat) :
    dget d (bput d t a vs) x = if h : a ≤ x ∧ x < a + vs.length then vs[x - a]'(by omega) else dget d t x := by
  simp only [dget, tgetD, bput, tget_append, tget_filter t (fun k => decide (k < a)),
    tget_filter t (fun k => decide (a + vs.length ≤ k)), tget_blockCells]
  by_cases h1 : x < a
  · have h2 : ¬ a ≤ x := by omega
    have h3 : ¬ (a + vs.length ≤ x) := by omega
    simp [h1, h2, h3]
  · have h2 : a ≤ x := by omega
    by_cases h3 : x < a + vs.length
    · have h4 : ¬ (a + vs.length ≤ x) := by omega
      have h5 : x - a < vs.length := by omega
      by_cases h6 : vs[x - a] = d x
      · simp [h1, h2, h3, h4, h5, h6]
      · simp [h1, h2, h3, h4, h5, h6]
    · have h4 : a + vs.length ≤ x := by omega
      have h5 : vs[x - a]? = none := by simp; omega
      simp [h1, h2, h3, h4, h5]

/-- Each value of a block read. -/
theorem mergeFrom_getElem {α : Type} (d : Nat → α) (n a : Nat) (t : List (Nat × α)) (ht : t.Pairwise (fun a b => a.1 < b.1))
    (hl : ∀ e ∈ t, a ≤ e.1) : mergeFrom d n a t = (List.range' a n).map (fun x => dget d t x) := by
  induction n generalizing a t with
  | zero => simp [mergeFrom]
  | succ n ih =>
    cases t with
    | nil =>
      have := ih (a + 1) [] List.Pairwise.nil (by simp)
      simp [mergeFrom, List.range'_succ, this, dget, tgetD]
    | cons e t =>
      obtain ⟨k, v⟩ := e
      obtain ⟨h1, h2⟩ := List.pairwise_cons.1 ht
      have hk : a ≤ k := hl (k, v) (List.mem_cons_self ..)
      by_cases he : k = a
      · subst he
        have hl' : ∀ e ∈ t, k + 1 ≤ e.1 := fun e he => h1 e he
        simp only [mergeFrom, if_true, List.range'_succ, List.map_cons, ih (k + 1) t h2 hl']
        congr 1
        · simp [dget, tgetD, tget]
        · apply List.map_congr_left
          intro x hx
          have : k + 1 ≤ x := (List.mem_range'_1.1 hx).1
          have : k ≠ x := by omega
          simp [dget, tgetD, tget, this]
      · have hl' : ∀ e ∈ (k, v) :: t, a + 1 ≤ e.1 := by
          intro e h
          rcases List.mem_cons.1 h with rfl | h
          · show a + 1 ≤ k
            omega
          · have := h1 e h
            show a + 1 ≤ e.1
            simp at this
            omega
        simp only [mergeFrom, he, if_false, List.range'_succ, List.map_cons, ih (a + 1) _ ht hl']
        congr 1
        have : tget t a = none := by
          have := tget_filter t (fun x => decide (a < x)) a
          simp at this
          rw [← this]
          congr 1
          refine (List.filter_eq_self.2 ?_).symm
          intro e h
          have := h1 e h
          simp at this
          simp
          omega
        simp [dget, tgetD, tget, he, this]

/-- A block read is its cells read one by one. -/
theorem dread_eq {α : Type} [DecidableEq α] (d : Nat → α) (t : List (Nat × α)) (a n : Nat) (h : dcanon d t = true) :
    dread d t a n = (List.range' a n).map (fun x => dget d t x) := by
  rw [dcanon_iff] at h
  have h2 := mergeFrom_getElem d n a (t.filter (fun e => decide (a ≤ e.1))) (h.1.sublist List.filter_sublist)
    (fun e he => of_decide_eq_true (List.mem_filter.1 he).2)
  rw [dread, h2]
  apply List.map_congr_left
  intro x hx
  have : a ≤ x := (List.mem_range'_1.1 hx).1
  simp [dget, tgetD, tget_filter t (fun k => decide (a ≤ k)), this]

theorem mergeFrom_length {α : Type} (d : Nat → α) (n a : Nat) (t : List (Nat × α)) : (mergeFrom d n a t).length = n := by
  induction n generalizing a t with
  | zero => simp [mergeFrom]
  | succ n ih =>
    cases t with
    | nil => simp [mergeFrom, ih]
    | cons e t => obtain ⟨k, v⟩ := e; simp only [mergeFrom]; split <;> simp [ih]

@[simp] theorem dread_length {α : Type} (d : Nat → α) (t : List (Nat × α)) (a n : Nat) : (dread d t a n).length = n :=
  mergeFrom_length ..

end Sys2Proof.Machine
end

