-- ==== Sys2Proof/Laws/Ops.lean ====
section
/-!
SUPPORT. What the named operations do: fields of a word, registers, bytes of memory, lamps and partitions read after a write, and the
canonical form of the stores.
-/
namespace Sys2Proof.Machine

/-! ### Fields of a word -/

theorem Fld.get_eq_extract (f : Fld) (w : Word) : f.get w = (w >>> f.lo).toNat % 2 ^ f.len := by
  simp [Fld.get, BitVec.toNat_ushiftRight]

/-- A bit of a field. -/
theorem Fld.testBit_get (f : Fld) (w : Word) (i : Nat) : (f.get w).testBit i = (decide (i < f.len) && w.getLsbD (f.lo + i)) := by
  simp [Fld.get, Nat.testBit_mod_two_pow, Nat.testBit_shiftRight, BitVec.getLsbD]

theorem Fld.getLsbD_mask (f : Fld) (i : Nat) : f.mask.testBit i = (decide (f.lo ≤ i) && decide (i < f.lo + f.len)) := by
  unfold Fld.mask
  rw [Nat.testBit_shiftLeft]
  by_cases h : f.lo ≤ i
  · have : (i - f.lo < f.len) ↔ (i < f.lo + f.len) := by omega
    simp [h, Nat.testBit_two_pow_sub_one, this]
  · simp [h]

/-- A bit of a word after one of its fields has been replaced. -/
theorem Fld.getLsbD_put (f : Fld) (w : Word) (v i : Nat) (hi : i < 32) :
    (f.put w v).getLsbD i = if f.lo ≤ i ∧ i < f.lo + f.len then v.testBit (i - f.lo) else w.getLsbD i := by
  simp only [Fld.put, BitVec.getLsbD_or, BitVec.getLsbD_and, BitVec.getLsbD_not, BitVec.getLsbD_ofNat, hi, decide_true, Bool.true_and,
    Fld.getLsbD_mask, Nat.testBit_shiftLeft, Nat.testBit_mod_two_pow]
  by_cases h1 : f.lo ≤ i
  · by_cases h2 : i < f.lo + f.len
    · have : i - f.lo < f.len := by omega
      simp [h1, h2, this]
    · have : ¬ i - f.lo < f.len := by omega
      simp [h1, h2, this]
  · simp [h1]

/-- The field written reads as the low bits of the value. -/
@[simp] theorem Fld.get_put (f : Fld) (w : Word) (v : Nat) (h : f.lo + f.len ≤ 32) : f.get (f.put w v) = v % 2 ^ f.len := by
  apply Nat.eq_of_testBit_eq
  intro i
  rw [Fld.testBit_get, Nat.testBit_mod_two_pow]
  by_cases hi : i < f.len
  · rw [Fld.getLsbD_put f w v (f.lo + i) (by omega)]
    have : f.lo + i < f.lo + f.len := by omega
    simp [hi, this]
  · simp [hi]

/-- A field that shares no bit with the one written reads as before. -/
theorem Fld.get_put_ne (f g : Fld) (w : Word) (v : Nat) (h : g.lo + g.len ≤ f.lo ∨ f.lo + f.len ≤ g.lo) : g.get (f.put w v) = g.get w := by
  apply Nat.eq_of_testBit_eq
  intro i
  rw [Fld.testBit_get, Fld.testBit_get]
  by_cases hi : i < g.len
  · by_cases h32 : g.lo + i < 32
    · rw [Fld.getLsbD_put f w v _ h32]
      have : ¬ (f.lo ≤ g.lo + i ∧ g.lo + i < f.lo + f.len) := by omega
      simp only [this, if_false]
    · have h1 : (f.put w v).getLsbD (g.lo + i) = false := BitVec.getLsbD_of_ge _ _ (by omega)
      have h2 : w.getLsbD (g.lo + i) = false := BitVec.getLsbD_of_ge _ _ (by omega)
      rw [h1, h2]
  · simp [hi]

theorem Fld.get_lt (f : Fld) (w : Word) : f.get w < 2 ^ f.len := Nat.mod_lt _ (Nat.two_pow_pos _)

/-! ### Registers -/

/-- A register read after a write. -/
theorem State.reg_setReg (s : State) (a b : Nat) (w : Word) : (s.setReg a w).reg b = if b = a then w else s.reg b :=
  dget_dput resetWord s.srf a b w

@[simp] theorem State.reg_setReg_same (s : State) (a : Nat) (w : Word) : (s.setReg a w).reg a = w := by simp [State.reg_setReg]

theorem State.reg_setReg_ne (s : State) (a b : Nat) (w : Word) (h : b ≠ a) : (s.setReg a w).reg b = s.reg b := by
  simp [State.reg_setReg, h]

theorem State.fld_setReg (s : State) (a b : Nat) (w : Word) (g : Fld) :
    (s.setReg a w).fld b g = if b = a then g.get w else s.fld b g := by
  simp only [State.fld, State.reg_setReg]; split <;> rfl

theorem State.reg_setFld (s : State) (a b : Nat) (f : Fld) (v : Nat) :
    (s.setFld a f v).reg b = if b = a then f.put (s.reg a) v else s.reg b := State.reg_setReg ..

theorem State.reg_setFlag (s : State) (a b : Nat) (f : Fld) (v : Bool) :
    (s.setFlag a f v).reg b = if b = a then f.put (s.reg a) (b2n v) else s.reg b := State.reg_setReg ..

theorem State.reg_setFld_ne (s : State) (a b : Nat) (f : Fld) (v : Nat) (h : b ≠ a) : (s.setFld a f v).reg b = s.reg b := by
  simp [State.reg_setFld, h]

theorem State.reg_setFlag_ne (s : State) (a b : Nat) (f : Fld) (v : Bool) (h : b ≠ a) : (s.setFlag a f v).reg b = s.reg b := by
  simp [State.reg_setFlag, h]

/-- The field written, read back. -/
theorem State.fld_setFld_same (s : State) (a : Nat) (f : Fld) (v : Nat) (h : f.lo + f.len ≤ 32) :
    (s.setFld a f v).fld a f = v % 2 ^ f.len := by simp [State.fld, State.reg_setFld, Fld.get_put, h]

/-- Another field of the same register. -/
theorem State.fld_setFld_ne (s : State) (a : Nat) (f g : Fld) (v : Nat) (h : g.lo + g.len ≤ f.lo ∨ f.lo + f.len ≤ g.lo) :
    (s.setFld a f v).fld a g = s.fld a g := by simp [State.fld, State.reg_setFld, Fld.get_put_ne, h]

/-- A field of another register. -/
theorem State.fld_setFld_other (s : State) (a b : Nat) (f g : Fld) (v : Nat) (h : b ≠ a) : (s.setFld a f v).fld b g = s.fld b g := by
  simp [State.fld, State.reg_setFld, h]

theorem State.fld_setFlag_other (s : State) (a b : Nat) (f g : Fld) (v : Bool) (h : b ≠ a) : (s.setFlag a f v).fld b g = s.fld b g :=
  State.fld_setFld_other s a b f g _ h

theorem State.flag_setFlag_same (s : State) (a : Nat) (f : Fld) (v : Bool) (h : f.lo + f.len ≤ 32) (h1 : f.len = 1) :
    (s.setFlag a f v).flag a f = v := by
  unfold State.flag State.setFlag
  rw [State.fld_setFld_same s a f _ h, h1]
  cases v <;> rfl

/-- What does not touch the SRF's store leaves every register alone. -/
theorem State.reg_congr {s t : State} (h : t.srf = s.srf) (a : Nat) : t.reg a = s.reg a := by simp only [State.reg, h]
theorem State.fld_congr {s t : State} (h : t.srf = s.srf) (a : Nat) (f : Fld) : t.fld a f = s.fld a f := by
  simp only [State.fld, State.reg_congr h]
theorem State.flag_congr {s t : State} (h : t.srf = s.srf) (a : Nat) (f : Fld) : t.flag a f = s.flag a f := by
  simp only [State.flag, State.fld_congr h]

@[simp] theorem State.reg_setBytes (s : State) (a b : Nat) (bs : List Byte) : (s.setBytes a bs).reg b = s.reg b := rfl
@[simp] theorem State.reg_draw (s : State) (b : Nat) : s.draw.reg b = s.reg b := rfl
@[simp] theorem State.reg_setLamp (s : State) (n b : Nat) (x : Lamp) : (s.setLamp n x).reg b = s.reg b := rfl
@[simp] theorem State.reg_modLamp (s : State) (n b : Nat) (f : Lamp → Lamp) : (s.modLamp n f).reg b = s.reg b := rfl
@[simp] theorem State.reg_setPart (s : State) (p b : Nat) (x : PartSt) : (s.setPart p x).reg b = s.reg b := rfl
@[simp] theorem State.reg_modPart (s : State) (p b : Nat) (f : PartSt → PartSt) : (s.modPart p f).reg b = s.reg b := rfl

/-- A register word is replaced in canonical form. -/
theorem State.srfCanon_setReg (s : State) (a : Nat) (w : Word) (h : s.srfCanon = true) : (s.setReg a w).srfCanon = true :=
  dput_canon resetWord s.srf a w h

/-! ### Memory -/

/-- A byte of memory after a block has been written: the block's byte inside it, the old byte outside it. -/
theorem State.byte_setBytes (s : State) (a x : Nat) (bs : List Byte) :
    (s.setBytes a bs).byte x = if h : a ≤ x ∧ x < a + bs.length then bs[x - a]'(by omega) else s.byte x :=
  dget_bput memReset s.mem a bs x

/-- Writing a block keeps memory's canonical form. -/
theorem State.memCanon_setBytes (s : State) (a : Nat) (bs : List Byte) (h : s.memCanon = true) : (s.setBytes a bs).memCanon = true :=
  bput_canon memReset s.mem a bs h

/-- Reading a block gives its bytes one by one. -/
theorem State.bytes_eq (s : State) (a n : Nat) (h : s.memCanon = true) :
    s.bytes a n = (List.range' a n).map (fun x => s.byte x) := dread_eq memReset s.mem a n h

@[simp] theorem State.bytes_length (s : State) (a n : Nat) : (s.bytes a n).length = n := dread_length ..

/-! ### Lamps and partitions -/

@[simp] theorem State.lamp_setLamp_same (s : State) (n : Nat) (x : Lamp) : (s.setLamp n x).lamp n = x := tgetD_tput_same ..
theorem State.lamp_setLamp_ne (s : State) (n m : Nat) (x : Lamp) (h : m ≠ n) : (s.setLamp n x).lamp m = s.lamp m := tgetD_tput_ne _ _ _ _ _ h
@[simp] theorem State.lamp_modLamp_same (s : State) (n : Nat) (f : Lamp → Lamp) : (s.modLamp n f).lamp n = f (s.lamp n) := tgetD_tput_same ..
theorem State.lamp_modLamp_ne (s : State) (n m : Nat) (f : Lamp → Lamp) (h : m ≠ n) : (s.modLamp n f).lamp m = s.lamp m := tgetD_tput_ne _ _ _ _ _ h
@[simp] theorem State.part_setPart_same (s : State) (p : Nat) (x : PartSt) : (s.setPart p x).part p = x := tgetD_tput_same ..
theorem State.part_setPart_ne (s : State) (p r : Nat) (x : PartSt) (h : r ≠ p) : (s.setPart p x).part r = s.part r := tgetD_tput_ne _ _ _ _ _ h
@[simp] theorem State.part_modPart_same (s : State) (p : Nat) (f : PartSt → PartSt) : (s.modPart p f).part p = f (s.part p) := tgetD_tput_same ..
theorem State.part_modPart_ne (s : State) (p r : Nat) (f : PartSt → PartSt) (h : r ≠ p) : (s.modPart p f).part r = s.part r := tgetD_tput_ne _ _ _ _ _ h

theorem State.lamp_congr {s t : State} (h : t.lamps = s.lamps) (n : Nat) : t.lamp n = s.lamp n := by simp only [State.lamp, h]
theorem State.part_congr {s t : State} (h : t.parts = s.parts) (n : Nat) : t.part n = s.part n := by simp only [State.part, h]

/-- A register of a lamp after a write: the written one, but g0, which stays 0 (R141). -/
theorem State.g_setG (s : State) (l m : Nat) (i j : Fin 32) (w : Word) :
    (s.setG l i w).g m j = if m = l ∧ j = i ∧ i ≠ 0 then w else s.g m j := by
  unfold State.setG
  by_cases hi : i = 0
  · simp [hi]
  · by_cases hm : m = l
    · subst hm
      by_cases hj : j = i
      · subst hj; simp [hi, State.g]
      · have : (i : Nat) ≠ j := fun h => hj (Fin.ext h.symm)
        simp [hi, hj, State.g, Vector.getElem_set_ne _ _ this]
    · simp [hi, hm, State.g, State.lamp_modLamp_ne]

/-- A predicate of a lamp after a write: the written one, but p0, which stays 1 (R141). -/
theorem State.pr_setP (s : State) (l m : Nat) (i j : Fin 8) (b : Bool) :
    (s.setP l i b).pr m j = if m = l ∧ j = i ∧ i ≠ 0 then b else s.pr m j := by
  unfold State.setP
  by_cases hi : i = 0
  · simp [hi]
  · by_cases hm : m = l
    · subst hm
      by_cases hj : j = i
      · subst hj; simp [hi, State.pr]
      · have : (i : Nat) ≠ j := fun h => hj (Fin.ext h.symm)
        simp [hi, hj, State.pr, Vector.getElem_set_ne _ _ this]
    · simp [hi, hm, State.pr, State.lamp_modLamp_ne]

/-! ### Records -/

/-- The registers a record or a freeze may write: those of block ERR. -/
theorem State.reg_offerQueue (s : State) (p : Nat) (r : ErrRec) (a : Nat) (h : a < 0x100000) : (s.offerQueue p r).reg a = s.reg a := by
  have h1 : a ≠ R.ERR_PQ_STAT p := by show a ≠ 0x100300 + 4 * p; omega
  simp only [State.offerQueue]
  split
  · simp [State.incFld, State.reg_setFld_ne, State.reg_setFlag_ne, h1]
  · simp [State.reg_setFld_ne, h1]

theorem State.reg_offerGlobal (s : State) (r : ErrRec) (a : Nat) (h : a ≠ 0x100000) : (s.offerGlobal r).reg a = s.reg a := by
  simp only [State.offerGlobal]
  have h5 : ∀ t : State, ∀ e' : ErrSt, ({ t with err := e' } : State).reg a = t.reg a := fun _ _ => rfl
  split <;> split <;> simp [State.incFld, State.reg_setFld_ne, State.reg_setFlag_ne, h, h5]

theorem State.reg_enter (s : State) (r : RecIn) (q : Option Nat) (g : Bool) (a : Nat) (h : a < 0x100000 ∨ (q = none ∧ a ≠ 0x100000)) :
    (s.enter r q g).reg a = s.reg a := by
  have h0 : a ≠ 0x100000 := by omega
  cases q with
  | none => simp only [State.enter]; split <;> split <;> simp [State.reg_offerGlobal, h0]
  | some p =>
    have h1 : a < 0x100000 := by simpa using h
    simp only [State.enter]; split <;> split <;> simp [State.reg_offerGlobal, State.reg_offerQueue, h0, h1]

theorem State.reg_freezeTrigger (s : State) (src : Nat) (c : Option Nat) (p e : Nat) (a : Nat)
    (h : a < 0x100000 ∨ 0x110000 ≤ a ∧ src ≠ 4) : (s.freezeTrigger src c p e).reg a = s.reg a := by
  have h1 : a ≠ 0x100610 := by omega
  have h2 : a ≠ 0x100614 := by omega
  have h3 : a ≠ 0x100618 := by omega
  simp only [State.freezeTrigger]
  split
  · rfl
  · split
    · have h4 : ∀ t : State, ∀ e' : ErrSt, ({ t.outputsReset.draw with err := e' }).reg a = t.reg a := fun _ _ => rfl
      rw [h4]
      cases c <;> simp [State.reg_setReg, State.reg_setFld, h2, h3]
    · rw [State.reg_enter]
      · simp [State.incFld, State.reg_setFld, h1]
      · rcases h with h | h
        · exact Or.inl h
        · exact Or.inr ⟨by simp [h.2], by omega⟩

/-- A record leaves every register outside block ERR alone. -/
theorem State.reg_log (s : State) (r : RecIn) (q : Option Nat) (g : Bool) (a : Nat)
    (h : a < 0x100000 ∨ 0x110000 ≤ a ∧ q = none) : (s.log r q g).reg a = s.reg a := by
  have h1 : (s.enter r q g).reg a = s.reg a := State.reg_enter s r q g a (by
    rcases h with h | h
    · exact Or.inl h
    · exact Or.inr ⟨h.2, by omega⟩)
  simp only [State.log]
  split
  · rw [State.reg_freezeTrigger _ _ _ _ _ _ (by omega), h1]
  · exact h1

theorem State.reg_event (s : State) (c p v v2 : Nat) (y : Option Nat) (a : Nat) (h : a < 0x100000 ∨ 0x110000 ≤ a) :
    (s.event c p v v2 y).reg a = s.reg a := State.reg_log _ _ _ _ _ (by tauto)

theorem State.reg_eventQ (s : State) (c p v v2 hi : Nat) (y : Option Nat) (a : Nat) (h : a < 0x100000) :
    (s.eventQ c p v v2 hi y).reg a = s.reg a := State.reg_log _ _ _ _ _ (Or.inl h)

theorem State.fld_event (s : State) (c p v v2 : Nat) (y : Option Nat) (a : Nat) (f : Fld) (h : a < 0x100000 ∨ 0x110000 ≤ a) :
    (s.event c p v v2 y).fld a f = s.fld a f := by simp only [State.fld, State.reg_event _ _ _ _ _ _ _ h]

theorem State.fld_eventQ (s : State) (c p v v2 hi : Nat) (y : Option Nat) (a : Nat) (f : Fld) (h : a < 0x100000) :
    (s.eventQ c p v v2 hi y).fld a f = s.fld a f := by simp only [State.fld, State.reg_eventQ _ _ _ _ _ _ _ _ h]

/-- A record changes nothing of a partition but its error queue. -/
theorem State.part_offerQueue (s : State) (p : Nat) (r : ErrRec) (n : Nat) :
    ∃ e, (s.offerQueue p r).part n = { s.part n with errq := e } := by
  simp only [State.offerQueue]
  split
  · exact ⟨(s.part n).errq, rfl⟩
  · by_cases h : n = p
    · subst h; exact ⟨_, State.part_modPart_same ..⟩
    · exact ⟨(s.part n).errq, by rw [State.part_modPart_ne _ _ _ _ h]; rfl⟩

theorem State.part_offerGlobal (s : State) (r : ErrRec) (n : Nat) : (s.offerGlobal r).part n = s.part n := State.part_congr (by simp) n

theorem State.part_enter (s : State) (r : RecIn) (q : Option Nat) (g : Bool) (n : Nat) :
    ∃ e, (s.enter r q g).part n = { s.part n with errq := e } := by
  have hd : ∀ c : Prop, [Decidable c] → (if c then s.draw else s).part n = s.part n := by intro c _; split <;> rfl
  cases q with
  | none => exact ⟨(s.part n).errq, by simp only [State.enter]; split <;> simp [State.part_offerGlobal, hd]⟩
  | some p =>
    obtain ⟨e, he⟩ := State.part_offerQueue (if r.cycle.isNone then s.draw else s) p (s.mkRec r g) n
    refine ⟨e, ?_⟩
    simp only [State.enter]
    split
    · rw [State.part_offerGlobal, he, hd]
    · rw [he, hd]

theorem State.part_freezeTrigger (s : State) (src : Nat) (c : Option Nat) (p e n : Nat) :
    ∃ x, (s.freezeTrigger src c p e).part n = { s.part n with errq := x } := by
  simp only [State.freezeTrigger]
  split
  · exact ⟨(s.part n).errq, rfl⟩
  · split
    · refine ⟨(s.part n).errq, ?_⟩
      have h4 : ∀ t : State, ∀ e' : ErrSt, ({ t.outputsReset.draw with err := e' }).part n = t.part n := fun _ _ => rfl
      rw [h4]
      cases c <;> rfl
    · exact State.part_enter ..

theorem State.part_log (s : State) (r : RecIn) (q : Option Nat) (g : Bool) (n : Nat) :
    ∃ x, (s.log r q g).part n = { s.part n with errq := x } := by
  simp only [State.log]
  obtain ⟨e, he⟩ := State.part_enter s r q g n
  split
  · obtain ⟨x, hx⟩ := State.part_freezeTrigger (s.enter r q g) 3 r.cycle r.part r.engine n
    exact ⟨x, by rw [hx, he]⟩
  · exact ⟨e, he⟩

end Sys2Proof.Machine
end

