-- ==== Sys2Proof/Laws/Keeps.lean ====
section
/-!
SUPPORT. The relation every operation of the model keeps: the queue stays as it is and the stores stay in their canonical form.
-/
namespace Sys2Proof.Machine

/-- From `s` to `t` the queue is unchanged and the stores have kept their canonical form. -/
structure Keeps (s t : State) : Prop where
  queue : t.pending = s.pending
  inv : s.Inv → t.Inv

theorem Keeps.refl (s : State) : Keeps s s := ⟨rfl, id⟩
theorem Keeps.ofId (s : State) : Keeps s (id s) := ⟨rfl, id⟩
theorem Keeps.trans {s t u : State} (h : Keeps s t) (k : Keeps t u) : Keeps s u := ⟨k.queue.trans h.queue, fun i => k.inv (h.inv i)⟩

theorem Keeps.comp {s t u : State} (k : Keeps t u) (h : Keeps s t) : Keeps s u := h.trans k

/-- An update of anything but the queue, the SRF's store and memory. -/
theorem Keeps.upd {s t : State} (h : Keeps s t) {free tick lamps parts tiles eng clu sv trip err boot pins rtc twin keep out sw time can spe safe moor haw multi vault met} :
    Keeps s ⟨t.pending, free, t.srf, t.mem, tick, lamps, parts, tiles, eng, clu, sv, trip, err, boot, pins, rtc, twin, keep, out, sw, time, can, spe, safe, moor, haw, multi, vault, met⟩ :=
  Keeps.trans h ⟨rfl, id⟩

theorem Keeps.upd_iff {s t : State} {free tick lamps parts tiles eng clu sv trip err boot pins rtc twin keep out sw time can spe safe moor haw multi vault met} :
    Keeps s ⟨t.pending, free, t.srf, t.mem, tick, lamps, parts, tiles, eng, clu, sv, trip, err, boot, pins, rtc, twin, keep, out, sw, time, can, spe, safe, moor, haw, multi, vault, met⟩ ↔ Keeps s t :=
  ⟨fun h => ⟨h.queue, h.inv⟩, fun h => Keeps.upd h⟩

theorem Keeps.cut {s x y : State} (h : Keeps s x) (k : Keeps s x → Keeps s y) : Keeps s y := k h
theorem Keeps.cutF0 {s y : State} {f : State → State} (h : ∀ t, Keeps t (f t)) (k : (∀ t, Keeps t (f t)) → Keeps s y) : Keeps s y := k h
theorem Keeps.cutF1 {s y : State} {α : Type} {f : State → α → State} (h : ∀ t a, Keeps t (f t a)) (k : (∀ t a, Keeps t (f t a)) → Keeps s y) : Keeps s y := k h
theorem Keeps.cutF2 {s y : State} {α : Type} {f : α → State → State} (h : ∀ a t, Keeps t (f a t)) (k : (∀ a t, Keeps t (f a t)) → Keeps s y) : Keeps s y := k h
theorem Keeps.cutF3 {s y : State} {α β : Type} {f : State → α → β → State} (h : ∀ t a b, Keeps t (f t a b)) (k : (∀ t a b, Keeps t (f t a b)) → Keeps s y) : Keeps s y := k h
theorem Keeps.cutF4 {s y : State} {α β γ : Type} {f : State → α → β → γ → State} (h : ∀ t a b c, Keeps t (f t a b c)) (k : (∀ t a b c, Keeps t (f t a b c)) → Keeps s y) : Keeps s y := k h
theorem Keeps.ite {s a b : State} {c : Prop} [Decidable c] (h : Keeps s a) (k : Keeps s b) : Keeps s (if c then a else b) := by
  split
  · exact h
  · exact k
theorem Keeps.foldl {s t : State} {α : Type} {l : List α} {f : State → α → State} (h : Keeps s t) (k : ∀ u x, Keeps u (f u x)) :
    Keeps s (l.foldl f t) := by
  induction l generalizing t with
  | nil => exact h
  | cons x l ih => exact ih (h.trans (k t x))
theorem Keeps.foldl1 {s : State} {α β : Type} {l : List α} {t : State × β} {f : State × β → α → State × β} (h : Keeps s t.1)
    (k : ∀ u x, Keeps u.1 (f u x).1) : Keeps s (l.foldl f t).1 := by
  induction l generalizing t with
  | nil => exact h
  | cons x l ih => exact ih (h.trans (k t x))
theorem Keeps.foldl2 {s : State} {α β : Type} {l : List α} {t : β × State} {f : β × State → α → β × State} (h : Keeps s t.2)
    (k : ∀ u x, Keeps u.2 (f u x).2) : Keeps s (l.foldl f t).2 := by
  induction l generalizing t with
  | nil => exact h
  | cons x l ih => exact ih (h.trans (k t x))
theorem Keeps.foldl3 {s : State} {α β γ : Type} {l : List α} {t : β × γ × State} {f : β × γ × State → α → β × γ × State} (h : Keeps s t.2.2)
    (k : ∀ u x, Keeps u.2.2 (f u x).2.2) : Keeps s (l.foldl f t).2.2 := by
  induction l generalizing t with
  | nil => exact h
  | cons x l ih => exact ih (h.trans (k t x))
theorem Keeps.fstOf {s t : State} {β : Type} {o : State × β} {b : β} (h : o = (t, b)) (k : Keeps s o.1) : Keeps s t := by subst h; exact k
theorem Keeps.sndOf {s t : State} {β : Type} {o : β × State} {b : β} (h : o = (b, t)) (k : Keeps s o.2) : Keeps s t := by subst h; exact k

/-- The meaning answers a next state that keeps. -/
def OutKeeps (s : State) (o : Out) : Prop := ∃ t, o = .next t ∧ Keeps s t
theorem OutKeeps.next {s t : State} (h : Keeps s t) : OutKeeps s (.next t) := ⟨t, rfl, h⟩
theorem OutKeeps.onCore {s : State} {f : State → State} (h : Keeps s (f s)) : OutKeeps s (s.onCore f) :=
  ⟨_, rfl, Keeps.ite h (Keeps.refl s)⟩

theorem State.setReg_keeps (s : State) (a : Nat) (w : Word) : Keeps s (s.setReg a w) := ⟨rfl, fun h => ⟨s.srfCanon_setReg a w h.1, h.2⟩⟩
theorem State.setBytes_keeps (s : State) (a : Nat) (bs : List Byte) : Keeps s (s.setBytes a bs) := ⟨rfl, fun h => ⟨h.1, s.memCanon_setBytes a bs h.2⟩⟩

end Sys2Proof.Machine
end

