-- ==== Sys2Proof/Laws/KeepsLamps.lean ====
section
/-!
SUPPORT. Every operation of the lamps leaves the queue as it is and keeps the canonical form of the stores.
-/
namespace Sys2Proof.Machine

theorem State.setFld_keeps (s : State) (a : Nat) (f : Fld) (v : Nat) : Keeps s (State.setFld s a f v) := by
  unfold State.setFld
  with_reducible repeat' first
    | exact Keeps.refl _ | apply Keeps.comp (State.setReg_keeps ..)

theorem State.setFlag_keeps (s : State) (a : Nat) (f : Fld) (b : Bool) : Keeps s (State.setFlag s a f b) := by
  unfold State.setFlag
  with_reducible repeat' first
    | exact Keeps.refl _ | apply Keeps.comp (State.setFld_keeps ..)

theorem State.incFld_keeps (s : State) (a : Nat) (f : Fld) (top : Nat) : Keeps s (State.incFld s a f top) := by
  unfold State.incFld
  with_reducible repeat' first
    | exact Keeps.refl _ | apply Keeps.comp (State.setFld_keeps ..)

theorem State.draw_keeps (s : State) : Keeps s (State.draw s) := by
  unfold State.draw
  with_reducible repeat' first
    | exact Keeps.refl _ | simp -zeta only [Keeps.upd_iff]

theorem State.setLamp_keeps (s : State) (n : Nat) (x : Lamp) : Keeps s (State.setLamp s n x) := by
  unfold State.setLamp
  with_reducible repeat' first
    | exact Keeps.refl _ | simp -zeta only [Keeps.upd_iff]

theorem State.modLamp_keeps (s : State) (n : Nat) (f : Lamp → Lamp) : Keeps s (State.modLamp s n f) := by
  unfold State.modLamp
  with_reducible repeat' first
    | exact Keeps.refl _ | apply Keeps.comp (State.setLamp_keeps ..)

theorem State.setPart_keeps (s : State) (p : Nat) (x : PartSt) : Keeps s (State.setPart s p x) := by
  unfold State.setPart
  with_reducible repeat' first
    | exact Keeps.refl _ | simp -zeta only [Keeps.upd_iff]

theorem State.modPart_keeps (s : State) (p : Nat) (f : PartSt → PartSt) : Keeps s (State.modPart s p f) := by
  unfold State.modPart
  with_reducible repeat' first
    | exact Keeps.refl _ | apply Keeps.comp (State.setPart_keeps ..)

theorem State.setPstate_keeps (s : State) (p v : Nat) : Keeps s (State.setPstate s p v) := by
  unfold State.setPstate
  with_reducible repeat' first
    | exact Keeps.refl _ | apply Keeps.comp (State.setFld_keeps ..)

theorem State.offerQueue_keeps (s : State) (p : Nat) (r : ErrRec) : Keeps s (State.offerQueue s p r) := by
  unfold State.offerQueue
  with_reducible repeat' first
    | assumption | exact Keeps.refl _
    | (extract_lets +onlyGivenNames x; refine Keeps.cut (x := x) ?_ ?_; rotate_left; intro hx; clear_value x; rotate_right; subst x)
    | (extract_lets +onlyGivenNames x; clear_value x) | refine Keeps.ite ?_ ?_ | apply Keeps.comp (State.setFld_keeps ..)
    | apply Keeps.comp (State.setFlag_keeps ..) | apply Keeps.comp (State.incFld_keeps ..) | apply Keeps.comp (State.modPart_keeps ..)

theorem State.offerGlobal_keeps (s : State) (r : ErrRec) : Keeps s (State.offerGlobal s r) := by
  unfold State.offerGlobal
  with_reducible repeat' first
    | assumption | exact Keeps.refl _
    | (extract_lets +onlyGivenNames x; refine Keeps.cut (x := x) ?_ ?_; rotate_left; intro hx; clear_value x; rotate_right; subst x)
    | (extract_lets +onlyGivenNames x; clear_value x) | refine Keeps.ite ?_ ?_ | simp -zeta only [Keeps.upd_iff]
    | apply Keeps.comp (State.setFld_keeps ..) | apply Keeps.comp (State.setFlag_keeps ..) | apply Keeps.comp (State.incFld_keeps ..)

theorem State.enter_keeps (s : State) (r : RecIn) (queue : Option Nat) (glob : Bool) : Keeps s (State.enter s r queue glob) := by
  unfold State.enter
  with_reducible repeat' first
    | assumption | exact Keeps.refl _
    | (extract_lets +onlyGivenNames x; refine Keeps.cut (x := x) ?_ ?_; rotate_left; intro hx; clear_value x; rotate_right; subst x)
    | (extract_lets +onlyGivenNames x; clear_value x) | refine Keeps.ite ?_ ?_ | split | apply Keeps.comp (State.draw_keeps ..)
    | apply Keeps.comp (State.offerQueue_keeps ..) | apply Keeps.comp (State.offerGlobal_keeps ..)

theorem State.safetyOff_keeps (s : State) : Keeps s (State.safetyOff s) := by
  unfold State.safetyOff
  with_reducible repeat' first
    | exact Keeps.refl _ | (extract_lets +onlyGivenNames x; clear_value x) | simp -zeta only [Keeps.upd_iff]

theorem State.outputsReset_keeps (s : State) : Keeps s (State.outputsReset s) := by
  unfold State.outputsReset
  with_reducible repeat' first
    | assumption | exact Keeps.refl _
    | (extract_lets +onlyGivenNames x; refine Keeps.cut (x := x) ?_ ?_; rotate_left; intro hx; clear_value x; rotate_right; subst x)
    | (extract_lets +onlyGivenNames x; clear_value x) | simp -zeta only [Keeps.upd_iff] | apply Keeps.comp (State.safetyOff_keeps ..)

theorem State.freezeTrigger_keeps (s : State) (src : Nat) (cycle : Option Nat) (part engine : Nat) : Keeps s (State.freezeTrigger s src cycle part engine) := by
  unfold State.freezeTrigger
  with_reducible repeat' first
    | assumption | exact Keeps.refl _
    | (extract_lets +onlyGivenNames x; refine Keeps.cut (x := x) ?_ ?_; rotate_left; intro hx; clear_value x; rotate_right; subst x)
    | (extract_lets +onlyGivenNames x; clear_value x) | refine Keeps.ite ?_ ?_ | simp -zeta only [Keeps.upd_iff] | split
    | apply Keeps.comp (State.setReg_keeps ..) | apply Keeps.comp (State.setFld_keeps ..) | apply Keeps.comp (State.incFld_keeps ..)
    | apply Keeps.comp (State.draw_keeps ..) | apply Keeps.comp (State.enter_keeps ..) | apply Keeps.comp (State.outputsReset_keeps ..)

theorem State.log_keeps (s : State) (r : RecIn) (queue : Option Nat) (glob : Bool) : Keeps s (State.log s r queue glob) := by
  unfold State.log
  with_reducible repeat' first
    | assumption | exact Keeps.refl _
    | (extract_lets +onlyGivenNames x; refine Keeps.cut (x := x) ?_ ?_; rotate_left; intro hx; clear_value x; rotate_right; subst x)
    | (extract_lets +onlyGivenNames x; clear_value x) | refine Keeps.ite ?_ ?_ | apply Keeps.comp (State.enter_keeps ..)
    | apply Keeps.comp (State.freezeTrigger_keeps ..)

theorem State.event_keeps (s : State) (code : Nat) (part : Nat) (v : Nat) (v2 : Nat) (cycle : Option Nat) : Keeps s (State.event s code part v v2 cycle) := by
  unfold State.event
  with_reducible repeat' first
    | exact Keeps.refl _ | apply Keeps.comp (State.log_keeps ..)

theorem State.eventQ_keeps (s : State) (code : Nat) (part : Nat) (v : Nat) (v2 : Nat) (hi : Nat) (cycle : Option Nat) : Keeps s (State.eventQ s code part v v2 hi cycle) := by
  unfold State.eventQ
  with_reducible repeat' first
    | exact Keeps.refl _ | apply Keeps.comp (State.log_keeps ..)

theorem State.onCore_keeps (s : State) (f : State → State) (hf : ∀ x0, Keeps x0 (f x0)): OutKeeps s (State.onCore s f) := by
  unfold State.onCore
  first | refine OutKeeps.onCore ?_ | refine OutKeeps.next ?_
  try beta_reduce
  with_reducible repeat' first
    | exact Keeps.refl _ | apply Keeps.comp (hf ..)

theorem State.setSwPort_keeps (s : State) (p : Nat) (x : SwPort) : Keeps s (State.setSwPort s p x) := by
  unfold State.setSwPort
  with_reducible repeat' first
    | exact Keeps.refl _ | (extract_lets +onlyGivenNames x; clear_value x) | simp -zeta only [Keeps.upd_iff]

theorem State.setSwRing_keeps (s : State) (r : Nat) (x : SwRing) : Keeps s (State.setSwRing s r x) := by
  unfold State.setSwRing
  with_reducible repeat' first
    | exact Keeps.refl _ | (extract_lets +onlyGivenNames x; clear_value x) | simp -zeta only [Keeps.upd_iff]

theorem State.portActive_keeps (s : State) (port : Nat) : Keeps s (State.portActive s port) := by
  unfold State.portActive
  with_reducible repeat' first
    | exact Keeps.refl _ | (extract_lets +onlyGivenNames x; clear_value x) | refine Keeps.ite ?_ ?_ | simp -zeta only [Keeps.upd_iff]

theorem State.swCount_keeps (s : State) (p i : Nat) (d : Nat) : Keeps s (State.swCount s p i d) := by
  unfold State.swCount
  with_reducible repeat' first
    | exact Keeps.refl _ | apply Keeps.comp (State.setReg_keeps ..)

theorem State.newHold_keeps (s : State) (o : CellOwner) (cells refs : Nat) : Keeps s (State.newHold s o cells refs).2 := by
  unfold State.newHold
  with_reducible repeat' first
    | exact Keeps.refl _ | (extract_lets +onlyGivenNames x; clear_value x) | simp -zeta only [Keeps.upd_iff]

theorem State.modHold_keeps (s : State) (n : Nat) (f : CellHold → CellHold) : Keeps s (State.modHold s n f) := by
  unfold State.modHold
  with_reducible repeat' first
    | exact Keeps.refl _ | (extract_lets +onlyGivenNames x; clear_value x) | simp -zeta only [Keeps.upd_iff] | split

theorem State.unref_keeps (s : State) (n : Nat) : Keeps s (State.unref s n) := by
  unfold State.unref
  with_reducible repeat' first
    | exact Keeps.refl _ | apply Keeps.comp (State.modHold_keeps ..)

theorem State.addRef_keeps (s : State) (n : Nat) : Keeps s (State.addRef s n) := by
  unfold State.addRef
  with_reducible repeat' first
    | exact Keeps.refl _ | apply Keeps.comp (State.modHold_keeps ..)

theorem State.dropHold_keeps (s : State) (n : Nat) : Keeps s (State.dropHold s n) := by
  unfold State.dropHold
  with_reducible repeat' first
    | exact Keeps.refl _ | apply Keeps.comp (State.modHold_keeps ..)

theorem State.freeCells_keeps (s : State) : Keeps s (State.freeCells s) := by
  unfold State.freeCells
  with_reducible repeat' first
    | exact Keeps.refl _ | (extract_lets +onlyGivenNames x; clear_value x) | simp -zeta only [Keeps.upd_iff]

theorem State.ringPush_keeps (s : State) (r : Nat) (e : RingEnt) : Keeps s (State.ringPush s r e) := by
  unfold State.ringPush
  with_reducible repeat' first
    | exact Keeps.refl _ | (extract_lets +onlyGivenNames x; clear_value x) | refine Keeps.ite ?_ ?_ | split
    | apply Keeps.comp (State.setSwRing_keeps ..) | apply Keeps.comp (State.swCount_keeps ..) | apply Keeps.comp (State.unref_keeps ..)

theorem State.ringPop_keeps (s : State) (r : Nat) : Keeps s (State.ringPop s r) := by
  unfold State.ringPop
  with_reducible repeat' first
    | exact Keeps.refl _ | split | apply Keeps.comp (State.setSwRing_keeps ..) | apply Keeps.comp (State.unref_keeps ..)

theorem State.ringClear_keeps (s : State) (r : Nat) : Keeps s (State.ringClear s r) := by
  unfold State.ringClear
  with_reducible repeat' first
    | exact Keeps.refl _ | apply Keeps.comp (State.setSwRing_keeps ..) | apply Keeps.comp (State.unref_keeps ..)
    | refine Keeps.foldl ?_ ?_ | (intro _; beta_reduce)

theorem State.ringsStart_keeps (s : State) (p : Nat) : Keeps s (State.ringsStart s p) := by
  unfold State.ringsStart
  with_reducible repeat' first
    | exact Keeps.refl _ | apply Keeps.comp (State.ringClear_keeps ..) | refine Keeps.foldl ?_ ?_ | (intro _; beta_reduce)

theorem State.ringSnap_keeps (s : State) : Keeps s (State.ringSnap s) := by
  unfold State.ringSnap
  with_reducible repeat' first
    | exact Keeps.refl _ | (extract_lets +onlyGivenNames x; clear_value x) | simp -zeta only [Keeps.upd_iff]

theorem State.tsRecord_keeps (s : State) (port : Nat) (f : TxFrame) (t : TsReq) (stamp : Nat) (lost : Bool) : Keeps s (State.tsRecord s port f t stamp lost) := by
  unfold State.tsRecord
  with_reducible repeat' first
    | assumption | exact Keeps.refl _
    | (extract_lets +onlyGivenNames x; refine Keeps.cut (x := x) ?_ ?_; rotate_left; intro hx; clear_value x; rotate_right; subst x)
    | (extract_lets +onlyGivenNames x; clear_value x) | refine Keeps.ite ?_ ?_ | simp -zeta only [Keeps.upd_iff] | split
    | apply Keeps.comp (State.swCount_keeps ..) | apply Keeps.comp (State.ringPush_keeps ..)

theorem State.takeTs_keeps (s : State) (port q : Nat) (tag : Word) : Keeps s (State.takeTs s port q tag).2 := by
  unfold State.takeTs
  with_reducible repeat' first
    | exact Keeps.refl _ | (extract_lets +onlyGivenNames x; clear_value x) | simp -zeta only [Keeps.upd_iff] | split
    | apply Keeps.comp (State.setFld_keeps ..) | apply Keeps.comp (State.swCount_keeps ..)

theorem State.freeStamps_keeps (s : State) : Keeps s (State.freeStamps s) := by
  unfold State.freeStamps
  with_reducible repeat' first
    | assumption | exact Keeps.refl _
    | (extract_lets +onlyGivenNames x; refine Keeps.cut (x := x) ?_ ?_; rotate_left; intro hx; clear_value x; rotate_right; subst x)
    | (extract_lets +onlyGivenNames x; clear_value x) | simp -zeta only [Keeps.upd_iff] | apply Keeps.comp (State.setFld_keeps ..)
    | refine Keeps.foldl ?_ ?_ | (intro _; beta_reduce)

theorem State.swLanding_keeps (s : State) : Keeps s (State.swLanding s) := by
  unfold State.swLanding
  with_reducible repeat' first
    | assumption | exact Keeps.refl _
    | (extract_lets +onlyGivenNames x; refine Keeps.cut (x := x) ?_ ?_; rotate_left; intro hx; clear_value x; rotate_right; subst x)
    | (extract_lets +onlyGivenNames x; clear_value x) | simp -zeta only [Keeps.upd_iff] | apply Keeps.comp (State.setFlag_keeps ..)
    | apply Keeps.comp (State.freeCells_keeps ..) | apply Keeps.comp (State.ringSnap_keeps ..)
    | apply Keeps.comp (State.freeStamps_keeps ..) | refine Keeps.foldl ?_ ?_ | (intro _; beta_reduce)

theorem State.txDiscard_keeps (s : State) (port : Nat) (f : TxFrame) : Keeps s (State.txDiscard s port f) := by
  unfold State.txDiscard
  with_reducible repeat' first
    | assumption | exact Keeps.refl _
    | (extract_lets +onlyGivenNames x; refine Keeps.cut (x := x) ?_ ?_; rotate_left; intro hx; clear_value x; rotate_right; subst x)
    | (extract_lets +onlyGivenNames x; clear_value x) | simp -zeta only [Keeps.upd_iff] | split
    | apply Keeps.comp (State.swCount_keeps ..) | apply Keeps.comp (State.unref_keeps ..) | apply Keeps.comp (State.tsRecord_keeps ..)

theorem State.putTx_keeps (s : State) (port q : Nat) (f : TxFrame) : Keeps s (State.putTx s port q f) := by
  unfold State.putTx
  with_reducible repeat' first
    | exact Keeps.refl _ | (extract_lets +onlyGivenNames x; clear_value x) | apply Keeps.comp (State.setSwPort_keeps ..)
    | apply Keeps.comp (State.addRef_keeps ..)

theorem State.pairSeq_keeps (s : State) (port : Nat) : Keeps s (State.pairSeq s port).2 := by
  unfold State.pairSeq
  with_reducible repeat' first
    | exact Keeps.refl _ | (extract_lets +onlyGivenNames x; clear_value x) | simp -zeta only [Keeps.upd_iff]

theorem State.release_keeps (s : State) (port q hold : Nat) (bytes : List Byte) (ts : Option Word) (seg : Bool) : Keeps s (State.release s port q hold bytes ts seg) := by
  unfold State.release
  with_reducible repeat' first
    | assumption | exact Keeps.refl _
    | (extract_lets +onlyGivenNames x; refine Keeps.cut (x := x) ?_ ?_; rotate_left; intro hx; clear_value x; rotate_right; subst x)
    | (extract_lets +onlyGivenNames x; refine Keeps.cut (x := x.2) ?_ ?_; rotate_left; intro hx; clear_value x; rotate_right; subst x)
    | (extract_lets +onlyGivenNames x; clear_value x) | refine Keeps.ite ?_ ?_ | simp -zeta only [Keeps.upd_iff] | split
    | apply Keeps.comp (State.incFld_keeps ..) | apply Keeps.comp (State.swCount_keeps ..) | apply Keeps.comp (State.takeTs_keeps ..)
    | apply Keeps.comp (State.putTx_keeps ..) | apply Keeps.comp (State.pairSeq_keeps ..) | refine Keeps.foldl ?_ ?_
    | (intro _; beta_reduce)

theorem State.forward_keeps (s : State) (port q hold : Nat) (bytes : List Byte) : Keeps s (State.forward s port q hold bytes) := by
  unfold State.forward
  with_reducible repeat' first
    | assumption | exact Keeps.refl _
    | (extract_lets +onlyGivenNames x; refine Keeps.cut (x := x.2) ?_ ?_; rotate_left; intro hx; clear_value x; rotate_right; subst x)
    | (extract_lets +onlyGivenNames x; clear_value x) | refine Keeps.ite ?_ ?_ | apply Keeps.comp (State.putTx_keeps ..)
    | apply Keeps.comp (State.pairSeq_keeps ..) | refine Keeps.foldl ?_ ?_ | (intro _; beta_reduce)

theorem State.setG_keeps (s : State) (l : Nat) (i : Fin 32) (w : Word) : Keeps s (State.setG s l i w) := by
  unfold State.setG
  with_reducible repeat' first
    | exact Keeps.refl _ | refine Keeps.ite ?_ ?_ | apply Keeps.comp (State.modLamp_keeps ..)

theorem State.setP_keeps (s : State) (l : Nat) (i : Fin 8) (b : Bool) : Keeps s (State.setP s l i b) := by
  unfold State.setP
  with_reducible repeat' first
    | exact Keeps.refl _ | refine Keeps.ite ?_ ?_ | apply Keeps.comp (State.modLamp_keeps ..)

theorem State.setAcc_keeps (s : State) (l : Nat) (i : Fin 4) (v : Dword) : Keeps s (State.setAcc s l i v) := by
  unfold State.setAcc
  with_reducible repeat' first
    | exact Keeps.refl _ | apply Keeps.comp (State.modLamp_keeps ..)

theorem State.setWin_keeps (s : State) (l : Nat) (w : Fin 8) (x : Window) : Keeps s (State.setWin s l w x) := by
  unfold State.setWin
  with_reducible repeat' first
    | exact Keeps.refl _ | apply Keeps.comp (State.modLamp_keeps ..)

theorem State.dropTask_keeps (s : State) (l : Nat) : Keeps s (State.dropTask s l) := by
  unfold State.dropTask
  with_reducible repeat' first
    | assumption | exact Keeps.refl _
    | (extract_lets +onlyGivenNames x; refine Keeps.cut (x := x) ?_ ?_; rotate_left; intro hx; clear_value x; rotate_right; subst x)
    | split | apply Keeps.comp (State.modLamp_keeps ..) | apply Keeps.comp (State.dropHold_keeps ..)

theorem State.abandonPart_keeps (s : State) (p : Nat) : Keeps s (State.abandonPart s p) := by
  unfold State.abandonPart
  with_reducible repeat' first
    | exact Keeps.refl _ | apply Keeps.comp (State.modPart_keeps ..) | apply Keeps.comp (State.dropTask_keeps ..)
    | refine Keeps.foldl ?_ ?_ | (intro _; beta_reduce)

theorem State.askStop_keeps (s : State) (p : Nat) (c : StopReq) : Keeps s (State.askStop s p c) := by
  unfold State.askStop
  with_reducible repeat' first
    | assumption | exact Keeps.refl _
    | (extract_lets +onlyGivenNames x; refine Keeps.cut (x := x) ?_ ?_; rotate_left; intro hx; clear_value x; rotate_right; subst x)
    | (extract_lets +onlyGivenNames x; clear_value x) | refine Keeps.ite ?_ ?_ | split | apply Keeps.comp (State.modPart_keeps ..)
    | apply Keeps.comp (State.event_keeps ..)

theorem State.faultStop_keeps (s : State) (p : Nat) (c : StopReq) : Keeps s (State.faultStop s p c) := by
  unfold State.faultStop
  with_reducible repeat' first
    | exact Keeps.refl _ | apply Keeps.comp (State.abandonPart_keeps ..) | apply Keeps.comp (State.askStop_keeps ..)

theorem State.raise_keeps (s : State) (l : Nat) (cls : Nat) (word : Word) (b4 loc : Nat) (addr : Nat) : Keeps s (State.raise s l cls word b4 loc addr) := by
  unfold State.raise
  with_reducible repeat' first
    | assumption | exact Keeps.refl _
    | (extract_lets +onlyGivenNames x; refine Keeps.cut (x := x) ?_ ?_; rotate_left; intro hx; clear_value x; rotate_right; subst x)
    | (extract_lets +onlyGivenNames x; clear_value x) | refine Keeps.ite ?_ ?_ | split | apply Keeps.comp (State.log_keeps ..)
    | apply Keeps.comp (State.faultStop_keeps ..)

theorem State.endTask_keeps (s : State) (l : Nat) (word : Word) : Keeps s (State.endTask s l word) := by
  unfold State.endTask
  with_reducible repeat' first
    | assumption | exact Keeps.refl _
    | (extract_lets +onlyGivenNames x; refine Keeps.cut (x := x) ?_ ?_; rotate_left; intro hx; clear_value x; rotate_right; subst x)
    | split | apply Keeps.comp (State.dropTask_keeps ..) | apply Keeps.comp (State.raise_keeps ..)

theorem State.kill_keeps (s : State) (l : Nat) (cls : Nat) (word : Word) (addr : Nat) : Keeps s (State.kill s l cls word addr) := by
  unfold State.kill
  with_reducible repeat' first
    | exact Keeps.refl _ | apply Keeps.comp (State.raise_keeps ..) | apply Keeps.comp (State.endTask_keeps ..)

theorem State.advance_keeps (s : State) (l : Nat) (len : Nat) : Keeps s (State.advance s l len) := by
  unfold State.advance
  with_reducible repeat' first
    | exact Keeps.refl _ | refine Keeps.ite ?_ ?_ | apply Keeps.comp (State.modLamp_keeps ..)

theorem State.setBankQ_keeps (s : State) (b : Nat) (q : List Nat) : Keeps s (State.setBankQ s b q) := by
  unfold State.setBankQ
  with_reducible repeat' first
    | exact Keeps.refl _ | (extract_lets +onlyGivenNames x; clear_value x) | simp -zeta only [Keeps.upd_iff]

theorem State.setSteps_keeps (s : State) (b : Nat) (q : List StepCmd) : Keeps s (State.setSteps s b q) := by
  unfold State.setSteps
  with_reducible repeat' first
    | exact Keeps.refl _ | (extract_lets +onlyGivenNames x; clear_value x) | simp -zeta only [Keeps.upd_iff]

theorem State.startRepair_keeps (s : State) (loc : Nat) : Keeps s (State.startRepair s loc) := by
  unfold State.startRepair
  with_reducible repeat' first
    | assumption | exact Keeps.refl _
    | (extract_lets +onlyGivenNames x; refine Keeps.cut (x := x) ?_ ?_; rotate_left; intro hx; clear_value x; rotate_right; subst x)
    | (extract_lets +onlyGivenNames x; clear_value x) | refine Keeps.ite ?_ ?_ | apply Keeps.comp (State.setFld_keeps ..)
    | apply Keeps.comp (State.incFld_keeps ..) | apply Keeps.comp (State.setBankQ_keeps ..)

theorem State.rejoin_keeps (s : State) (loc : Nat) : Keeps s (State.rejoin s loc) := by
  unfold State.rejoin
  with_reducible repeat' first
    | assumption | exact Keeps.refl _
    | (extract_lets +onlyGivenNames x; refine Keeps.cut (x := x) ?_ ?_; rotate_left; intro hx; clear_value x; rotate_right; subst x)
    | (extract_lets +onlyGivenNames x; clear_value x) | refine Keeps.ite ?_ ?_ | simp -zeta only [Keeps.upd_iff]
    | apply Keeps.comp (State.setBankQ_keeps ..)

theorem State.repairDone_keeps (s : State) (loc : Nat) : Keeps s (State.repairDone s loc) := by
  unfold State.repairDone
  with_reducible repeat' first
    | assumption | exact Keeps.refl _
    | (extract_lets +onlyGivenNames x; refine Keeps.cut (x := x) ?_ ?_; rotate_left; intro hx; clear_value x; rotate_right; subst x)
    | (extract_lets +onlyGivenNames x; clear_value x) | refine Keeps.ite ?_ ?_ | simp -zeta only [Keeps.upd_iff]
    | apply Keeps.comp (State.setFld_keeps ..) | apply Keeps.comp (State.setBankQ_keeps ..) | apply Keeps.comp (State.rejoin_keeps ..)

theorem State.supersede_keeps (s : State) (loc : Nat) : Keeps s (State.supersede s loc) := by
  unfold State.supersede
  with_reducible repeat' first
    | exact Keeps.refl _ | refine Keeps.ite ?_ ?_ | apply Keeps.comp (State.event_keeps ..) | apply Keeps.comp (State.repairDone_keeps ..)

theorem State.putTile_keeps (s : State) (loc : Nat) (b : List Byte) (gen : Word) : Keeps s (State.putTile s loc b gen) := by
  unfold State.putTile
  with_reducible repeat' first
    | assumption | exact Keeps.refl _
    | (extract_lets +onlyGivenNames x; refine Keeps.cut (x := x) ?_ ?_; rotate_left; intro hx; clear_value x; rotate_right; subst x)
    | (extract_lets +onlyGivenNames x; clear_value x) | refine Keeps.ite ?_ ?_ | apply Keeps.comp (State.setReg_keeps ..)
    | apply Keeps.comp (State.setBytes_keeps ..) | apply Keeps.comp (State.repairDone_keeps ..)

theorem State.sealWrite_keeps (s : State) (loc : Nat) (payload : List Byte) (restored : Bool) : Keeps s (State.sealWrite s loc payload restored) := by
  unfold State.sealWrite
  with_reducible repeat' first
    | exact Keeps.refl _ | (extract_lets +onlyGivenNames x; clear_value x) | apply Keeps.comp (State.putTile_keeps ..)

theorem State.storeTile_keeps (s : State) (loc : Nat) (payload : List Byte) : Keeps s (State.storeTile s loc payload) := by
  unfold State.storeTile
  with_reducible repeat' first
    | exact Keeps.refl _ | apply Keeps.comp (State.supersede_keeps ..) | apply Keeps.comp (State.sealWrite_keeps ..)

theorem State.noteStore_keeps (s : State) (loc : Nat) (payload : List Byte) : Keeps s (State.noteStore s loc payload) := by
  unfold State.noteStore
  with_reducible repeat' first
    | assumption | exact Keeps.refl _
    | (extract_lets +onlyGivenNames x; refine Keeps.cut (x := x) ?_ ?_; rotate_left; intro hx; clear_value x; rotate_right; subst x)
    | (extract_lets +onlyGivenNames x; clear_value x) | refine Keeps.ite ?_ ?_ | simp -zeta only [Keeps.upd_iff] | split
    | apply Keeps.comp (State.modPart_keeps ..)

theorem State.raiseOp_keeps (s : State) (l : Nat) (o : TileOp) (cls b4 : Nat) : Keeps s (State.raiseOp s l o cls b4) := by
  unfold State.raiseOp
  with_reducible repeat' first
    | exact Keeps.refl _ | refine Keeps.ite ?_ ?_ | split | apply Keeps.comp (State.log_keeps ..)
    | apply Keeps.comp (State.raise_keeps ..)

theorem State.opComplete_keeps (s : State) (l : Nat) (o : TileOp) : Keeps s (State.opComplete s l o) := by
  unfold State.opComplete
  with_reducible repeat' first
    | assumption | exact Keeps.refl _
    | (extract_lets +onlyGivenNames x; refine Keeps.cut (x := x) ?_ ?_; rotate_left; intro hx; clear_value x; rotate_right; subst x)
    | (extract_lets +onlyGivenNames x; clear_value x) | refine Keeps.ite ?_ ?_ | simp -zeta only [Keeps.upd_iff] | split
    | apply Keeps.comp (State.setBytes_keeps ..) | apply Keeps.comp (State.modLamp_keeps ..) | apply Keeps.comp (State.setP_keeps ..)
    | apply Keeps.comp (State.setWin_keeps ..) | apply Keeps.comp (State.startRepair_keeps ..)
    | apply Keeps.comp (State.storeTile_keeps ..) | apply Keeps.comp (State.noteStore_keeps ..)
    | apply Keeps.comp (State.raiseOp_keeps ..)

theorem State.settle_keeps (s : State) (l : Nat) : Keeps s (State.settle s l) := by
  unfold State.settle
  with_reducible repeat' first
    | exact Keeps.refl _ | split | apply Keeps.comp (State.opComplete_keeps ..)

theorem State.settleP_keeps (s : State) (l : Nat) (ps : List (Fin 8)) : Keeps s (State.settleP s l ps) := by
  unfold State.settleP
  with_reducible repeat' first
    | exact Keeps.refl _ | refine Keeps.ite ?_ ?_ | split | apply Keeps.comp (State.opComplete_keeps ..)

theorem State.instr_keeps (s : State) (l : Nat) (q : PQ) (word : Word) (len : Nat) (inS : Bool) (ps : List (Fin 8)) (body : TaskCtx → State → State) (hbody : ∀ x0 x1, Keeps x1 (body x0 x1)): Keeps s (State.instr s l q word len inS ps body) := by
  unfold State.instr
  with_reducible repeat' first
    | assumption | exact Keeps.refl _
    | (extract_lets +onlyGivenNames x; refine Keeps.cut (x := x) ?_ ?_; rotate_left; intro hx; clear_value x; rotate_right; subst x)
    | refine Keeps.ite ?_ ?_ | split | apply Keeps.comp (State.kill_keeps ..) | apply Keeps.comp (State.advance_keeps ..)
    | apply Keeps.comp (State.settleP_keeps ..) | apply Keeps.comp (hbody ..)

theorem State.plain_keeps (s : State) (l : Nat) (q : PQ) (ps : List (Fin 8)) (body : State → State) (hbody : ∀ x0, Keeps x0 (body x0)): Keeps s (State.plain s l q ps body) := by
  unfold State.plain
  with_reducible repeat' first
    | assumption | exact Keeps.refl _ | apply Keeps.comp (State.instr_keeps (hbody := ?_) ..) | (intro _; beta_reduce)

theorem State.alu2_keeps (s : State) (l : Nat) (q : PQ) (rd ra rb : Fin 32) (f : Word → Word → Word) : Keeps s (State.alu2 s l q rd ra rb f) := by
  unfold State.alu2
  with_reducible repeat' first
    | exact Keeps.refl _ | apply Keeps.comp (State.setG_keeps ..) | apply Keeps.comp (State.plain_keeps (hbody := ?_) ..)
    | (intro _; beta_reduce)

theorem State.alu1_keeps (s : State) (l : Nat) (q : PQ) (rd ra : Fin 32) (f : Word → Word) : Keeps s (State.alu1 s l q rd ra f) := by
  unfold State.alu1
  with_reducible repeat' first
    | exact Keeps.refl _ | apply Keeps.comp (State.setG_keeps ..) | apply Keeps.comp (State.plain_keeps (hbody := ?_) ..)
    | (intro _; beta_reduce)

theorem State.cmp2_keeps (s : State) (l : Nat) (q : PQ) (pd : Fin 8) (ra rb : Fin 32) (f : Word → Word → Bool) : Keeps s (State.cmp2 s l q pd ra rb f) := by
  unfold State.cmp2
  with_reducible repeat' first
    | exact Keeps.refl _ | apply Keeps.comp (State.setP_keeps ..) | apply Keeps.comp (State.plain_keeps (hbody := ?_) ..)
    | (intro _; beta_reduce)

theorem State.cmpI_keeps (s : State) (l : Nat) (q : PQ) (pd : Fin 8) (ra : Fin 32) (imm : BitVec 12) (f : Word → Word → Bool) : Keeps s (State.cmpI s l q pd ra imm f) := by
  unfold State.cmpI
  with_reducible repeat' first
    | exact Keeps.refl _ | apply Keeps.comp (State.setP_keeps ..) | apply Keeps.comp (State.plain_keeps (hbody := ?_) ..)
    | (intro _; beta_reduce)

theorem State.predOp_keeps (s : State) (l : Nat) (q : PQ) (pd pa pb : Fin 8) (f : Bool → Bool → Bool) : Keeps s (State.predOp s l q pd pa pb f) := by
  unfold State.predOp
  with_reducible repeat' first
    | exact Keeps.refl _ | apply Keeps.comp (State.setP_keeps ..) | apply Keeps.comp (State.plain_keeps (hbody := ?_) ..)
    | (intro _; beta_reduce)

theorem execAdd_keeps (l : Fin 64) (q : PQ) (rd ra rb : Fin 32) (s : State) : OutKeeps s (execAdd l q rd ra rb s) := by
  unfold execAdd
  first | refine OutKeeps.onCore ?_ | refine OutKeeps.next ?_
  try beta_reduce
  with_reducible repeat' first
    | exact Keeps.refl _ | apply Keeps.comp (State.alu2_keeps ..)

theorem execSub_keeps (l : Fin 64) (q : PQ) (rd ra rb : Fin 32) (s : State) : OutKeeps s (execSub l q rd ra rb s) := by
  unfold execSub
  first | refine OutKeeps.onCore ?_ | refine OutKeeps.next ?_
  try beta_reduce
  with_reducible repeat' first
    | exact Keeps.refl _ | apply Keeps.comp (State.alu2_keeps ..)

theorem execAnd_keeps (l : Fin 64) (q : PQ) (rd ra rb : Fin 32) (s : State) : OutKeeps s (execAnd l q rd ra rb s) := by
  unfold execAnd
  first | refine OutKeeps.onCore ?_ | refine OutKeeps.next ?_
  try beta_reduce
  with_reducible repeat' first
    | exact Keeps.refl _ | apply Keeps.comp (State.alu2_keeps ..)

theorem execOr_keeps (l : Fin 64) (q : PQ) (rd ra rb : Fin 32) (s : State) : OutKeeps s (execOr l q rd ra rb s) := by
  unfold execOr
  first | refine OutKeeps.onCore ?_ | refine OutKeeps.next ?_
  try beta_reduce
  with_reducible repeat' first
    | exact Keeps.refl _ | apply Keeps.comp (State.alu2_keeps ..)

theorem execXor_keeps (l : Fin 64) (q : PQ) (rd ra rb : Fin 32) (s : State) : OutKeeps s (execXor l q rd ra rb s) := by
  unfold execXor
  first | refine OutKeeps.onCore ?_ | refine OutKeeps.next ?_
  try beta_reduce
  with_reducible repeat' first
    | exact Keeps.refl _ | apply Keeps.comp (State.alu2_keeps ..)

theorem execShl_keeps (l : Fin 64) (q : PQ) (rd ra rb : Fin 32) (s : State) : OutKeeps s (execShl l q rd ra rb s) := by
  unfold execShl
  first | refine OutKeeps.onCore ?_ | refine OutKeeps.next ?_
  try beta_reduce
  with_reducible repeat' first
    | exact Keeps.refl _ | apply Keeps.comp (State.alu2_keeps ..)

theorem execShr_keeps (l : Fin 64) (q : PQ) (rd ra rb : Fin 32) (s : State) : OutKeeps s (execShr l q rd ra rb s) := by
  unfold execShr
  first | refine OutKeeps.onCore ?_ | refine OutKeeps.next ?_
  try beta_reduce
  with_reducible repeat' first
    | exact Keeps.refl _ | apply Keeps.comp (State.alu2_keeps ..)

theorem execSra_keeps (l : Fin 64) (q : PQ) (rd ra rb : Fin 32) (s : State) : OutKeeps s (execSra l q rd ra rb s) := by
  unfold execSra
  first | refine OutKeeps.onCore ?_ | refine OutKeeps.next ?_
  try beta_reduce
  with_reducible repeat' first
    | exact Keeps.refl _ | apply Keeps.comp (State.alu2_keeps ..)

theorem execMin_keeps (l : Fin 64) (q : PQ) (rd ra rb : Fin 32) (s : State) : OutKeeps s (execMin l q rd ra rb s) := by
  unfold execMin
  first | refine OutKeeps.onCore ?_ | refine OutKeeps.next ?_
  try beta_reduce
  with_reducible repeat' first
    | exact Keeps.refl _ | apply Keeps.comp (State.alu2_keeps ..)

theorem execMax_keeps (l : Fin 64) (q : PQ) (rd ra rb : Fin 32) (s : State) : OutKeeps s (execMax l q rd ra rb s) := by
  unfold execMax
  first | refine OutKeeps.onCore ?_ | refine OutKeeps.next ?_
  try beta_reduce
  with_reducible repeat' first
    | exact Keeps.refl _ | apply Keeps.comp (State.alu2_keeps ..)

theorem execMinu_keeps (l : Fin 64) (q : PQ) (rd ra rb : Fin 32) (s : State) : OutKeeps s (execMinu l q rd ra rb s) := by
  unfold execMinu
  first | refine OutKeeps.onCore ?_ | refine OutKeeps.next ?_
  try beta_reduce
  with_reducible repeat' first
    | exact Keeps.refl _ | apply Keeps.comp (State.alu2_keeps ..)

theorem execMaxu_keeps (l : Fin 64) (q : PQ) (rd ra rb : Fin 32) (s : State) : OutKeeps s (execMaxu l q rd ra rb s) := by
  unfold execMaxu
  first | refine OutKeeps.onCore ?_ | refine OutKeeps.next ?_
  try beta_reduce
  with_reducible repeat' first
    | exact Keeps.refl _ | apply Keeps.comp (State.alu2_keeps ..)

theorem execAdds_keeps (l : Fin 64) (q : PQ) (rd ra rb : Fin 32) (s : State) : OutKeeps s (execAdds l q rd ra rb s) := by
  unfold execAdds
  first | refine OutKeeps.onCore ?_ | refine OutKeeps.next ?_
  try beta_reduce
  with_reducible repeat' first
    | exact Keeps.refl _ | apply Keeps.comp (State.alu2_keeps ..)

theorem execSubs_keeps (l : Fin 64) (q : PQ) (rd ra rb : Fin 32) (s : State) : OutKeeps s (execSubs l q rd ra rb s) := by
  unfold execSubs
  first | refine OutKeeps.onCore ?_ | refine OutKeeps.next ?_
  try beta_reduce
  with_reducible repeat' first
    | exact Keeps.refl _ | apply Keeps.comp (State.alu2_keeps ..)

theorem execMul_keeps (l : Fin 64) (q : PQ) (rd ra rb : Fin 32) (s : State) : OutKeeps s (execMul l q rd ra rb s) := by
  unfold execMul
  first | refine OutKeeps.onCore ?_ | refine OutKeeps.next ?_
  try beta_reduce
  with_reducible repeat' first
    | exact Keeps.refl _ | apply Keeps.comp (State.alu2_keeps ..)

theorem execMulh_keeps (l : Fin 64) (q : PQ) (rd ra rb : Fin 32) (s : State) : OutKeeps s (execMulh l q rd ra rb s) := by
  unfold execMulh
  first | refine OutKeeps.onCore ?_ | refine OutKeeps.next ?_
  try beta_reduce
  with_reducible repeat' first
    | exact Keeps.refl _ | apply Keeps.comp (State.alu2_keeps ..)

theorem execMulhu_keeps (l : Fin 64) (q : PQ) (rd ra rb : Fin 32) (s : State) : OutKeeps s (execMulhu l q rd ra rb s) := by
  unfold execMulhu
  first | refine OutKeeps.onCore ?_ | refine OutKeeps.next ?_
  try beta_reduce
  with_reducible repeat' first
    | exact Keeps.refl _ | apply Keeps.comp (State.alu2_keeps ..)

theorem execDiv_keeps (l : Fin 64) (q : PQ) (rd ra rb : Fin 32) (s : State) : OutKeeps s (execDiv l q rd ra rb s) := by
  unfold execDiv
  first | refine OutKeeps.onCore ?_ | refine OutKeeps.next ?_
  try beta_reduce
  with_reducible repeat' first
    | exact Keeps.refl _ | apply Keeps.comp (State.alu2_keeps ..)

theorem execDivu_keeps (l : Fin 64) (q : PQ) (rd ra rb : Fin 32) (s : State) : OutKeeps s (execDivu l q rd ra rb s) := by
  unfold execDivu
  first | refine OutKeeps.onCore ?_ | refine OutKeeps.next ?_
  try beta_reduce
  with_reducible repeat' first
    | exact Keeps.refl _ | apply Keeps.comp (State.alu2_keeps ..)

theorem execRem_keeps (l : Fin 64) (q : PQ) (rd ra rb : Fin 32) (s : State) : OutKeeps s (execRem l q rd ra rb s) := by
  unfold execRem
  first | refine OutKeeps.onCore ?_ | refine OutKeeps.next ?_
  try beta_reduce
  with_reducible repeat' first
    | exact Keeps.refl _ | apply Keeps.comp (State.alu2_keeps ..)

theorem execRemu_keeps (l : Fin 64) (q : PQ) (rd ra rb : Fin 32) (s : State) : OutKeeps s (execRemu l q rd ra rb s) := by
  unfold execRemu
  first | refine OutKeeps.onCore ?_ | refine OutKeeps.next ?_
  try beta_reduce
  with_reducible repeat' first
    | exact Keeps.refl _ | apply Keeps.comp (State.alu2_keeps ..)

theorem execAddi_keeps (l : Fin 64) (q : PQ) (rd ra : Fin 32) (imm : BitVec 12) (s : State) : OutKeeps s (execAddi l q rd ra imm s) := by
  unfold execAddi
  first | refine OutKeeps.onCore ?_ | refine OutKeeps.next ?_
  try beta_reduce
  with_reducible repeat' first
    | exact Keeps.refl _ | apply Keeps.comp (State.alu1_keeps ..)

theorem execAndi_keeps (l : Fin 64) (q : PQ) (rd ra : Fin 32) (imm : BitVec 12) (s : State) : OutKeeps s (execAndi l q rd ra imm s) := by
  unfold execAndi
  first | refine OutKeeps.onCore ?_ | refine OutKeeps.next ?_
  try beta_reduce
  with_reducible repeat' first
    | exact Keeps.refl _ | apply Keeps.comp (State.alu1_keeps ..)

theorem execOri_keeps (l : Fin 64) (q : PQ) (rd ra : Fin 32) (imm : BitVec 12) (s : State) : OutKeeps s (execOri l q rd ra imm s) := by
  unfold execOri
  first | refine OutKeeps.onCore ?_ | refine OutKeeps.next ?_
  try beta_reduce
  with_reducible repeat' first
    | exact Keeps.refl _ | apply Keeps.comp (State.alu1_keeps ..)

theorem execXori_keeps (l : Fin 64) (q : PQ) (rd ra : Fin 32) (imm : BitVec 12) (s : State) : OutKeeps s (execXori l q rd ra imm s) := by
  unfold execXori
  first | refine OutKeeps.onCore ?_ | refine OutKeeps.next ?_
  try beta_reduce
  with_reducible repeat' first
    | exact Keeps.refl _ | apply Keeps.comp (State.alu1_keeps ..)

theorem execShi_keeps (l : Fin 64) (q : PQ) (rd ra : Fin 32) (dir : ShDir) (amt : Fin 32) (s : State) : OutKeeps s (execShi l q rd ra dir amt s) := by
  unfold execShi
  first | refine OutKeeps.onCore ?_ | refine OutKeeps.next ?_
  try beta_reduce
  with_reducible repeat' first
    | exact Keeps.refl _ | split | apply Keeps.comp (State.alu1_keeps ..)

theorem execMovx_keeps (l : Fin 64) (q : PQ) (rd : Fin 32) (imm : Word) (s : State) : OutKeeps s (execMovx l q rd imm s) := by
  unfold execMovx
  first | refine OutKeeps.onCore ?_ | refine OutKeeps.next ?_
  try beta_reduce
  with_reducible repeat' first
    | exact Keeps.refl _ | apply Keeps.comp (State.setG_keeps ..) | apply Keeps.comp (State.instr_keeps (hbody := ?_) ..)
    | (intro _; beta_reduce)

theorem execCmpEq_keeps (l : Fin 64) (q : PQ) (pd : Fin 8) (ra rb : Fin 32) (s : State) : OutKeeps s (execCmpEq l q pd ra rb s) := by
  unfold execCmpEq
  first | refine OutKeeps.onCore ?_ | refine OutKeeps.next ?_
  try beta_reduce
  with_reducible repeat' first
    | exact Keeps.refl _ | apply Keeps.comp (State.cmp2_keeps ..)

theorem execCmpLt_keeps (l : Fin 64) (q : PQ) (pd : Fin 8) (ra rb : Fin 32) (s : State) : OutKeeps s (execCmpLt l q pd ra rb s) := by
  unfold execCmpLt
  first | refine OutKeeps.onCore ?_ | refine OutKeeps.next ?_
  try beta_reduce
  with_reducible repeat' first
    | exact Keeps.refl _ | apply Keeps.comp (State.cmp2_keeps ..)

theorem execCmpLtu_keeps (l : Fin 64) (q : PQ) (pd : Fin 8) (ra rb : Fin 32) (s : State) : OutKeeps s (execCmpLtu l q pd ra rb s) := by
  unfold execCmpLtu
  first | refine OutKeeps.onCore ?_ | refine OutKeeps.next ?_
  try beta_reduce
  with_reducible repeat' first
    | exact Keeps.refl _ | apply Keeps.comp (State.cmp2_keeps ..)

theorem execCmpTst_keeps (l : Fin 64) (q : PQ) (pd : Fin 8) (ra rb : Fin 32) (s : State) : OutKeeps s (execCmpTst l q pd ra rb s) := by
  unfold execCmpTst
  first | refine OutKeeps.onCore ?_ | refine OutKeeps.next ?_
  try beta_reduce
  with_reducible repeat' first
    | exact Keeps.refl _ | apply Keeps.comp (State.cmp2_keeps ..)

theorem execCmpeqi_keeps (l : Fin 64) (q : PQ) (pd : Fin 8) (ra : Fin 32) (imm : BitVec 12) (s : State) : OutKeeps s (execCmpeqi l q pd ra imm s) := by
  unfold execCmpeqi
  first | refine OutKeeps.onCore ?_ | refine OutKeeps.next ?_
  try beta_reduce
  with_reducible repeat' first
    | exact Keeps.refl _ | apply Keeps.comp (State.cmpI_keeps ..)

theorem execCmplti_keeps (l : Fin 64) (q : PQ) (pd : Fin 8) (ra : Fin 32) (imm : BitVec 12) (s : State) : OutKeeps s (execCmplti l q pd ra imm s) := by
  unfold execCmplti
  first | refine OutKeeps.onCore ?_ | refine OutKeeps.next ?_
  try beta_reduce
  with_reducible repeat' first
    | exact Keeps.refl _ | apply Keeps.comp (State.cmpI_keeps ..)

theorem execCmpltui_keeps (l : Fin 64) (q : PQ) (pd : Fin 8) (ra : Fin 32) (imm : BitVec 12) (s : State) : OutKeeps s (execCmpltui l q pd ra imm s) := by
  unfold execCmpltui
  first | refine OutKeeps.onCore ?_ | refine OutKeeps.next ?_
  try beta_reduce
  with_reducible repeat' first
    | exact Keeps.refl _ | apply Keeps.comp (State.cmpI_keeps ..)

theorem execPand_keeps (l : Fin 64) (q : PQ) (pd pa pb : Fin 8) (s : State) : OutKeeps s (execPand l q pd pa pb s) := by
  unfold execPand
  first | refine OutKeeps.onCore ?_ | refine OutKeeps.next ?_
  try beta_reduce
  with_reducible repeat' first
    | exact Keeps.refl _ | apply Keeps.comp (State.predOp_keeps ..)

theorem execPor_keeps (l : Fin 64) (q : PQ) (pd pa pb : Fin 8) (s : State) : OutKeeps s (execPor l q pd pa pb s) := by
  unfold execPor
  first | refine OutKeeps.onCore ?_ | refine OutKeeps.next ?_
  try beta_reduce
  with_reducible repeat' first
    | exact Keeps.refl _ | apply Keeps.comp (State.predOp_keeps ..)

theorem execPxor_keeps (l : Fin 64) (q : PQ) (pd pa pb : Fin 8) (s : State) : OutKeeps s (execPxor l q pd pa pb s) := by
  unfold execPxor
  first | refine OutKeeps.onCore ?_ | refine OutKeeps.next ?_
  try beta_reduce
  with_reducible repeat' first
    | exact Keeps.refl _ | apply Keeps.comp (State.predOp_keeps ..)

theorem execPandn_keeps (l : Fin 64) (q : PQ) (pd pa pb : Fin 8) (s : State) : OutKeeps s (execPandn l q pd pa pb s) := by
  unfold execPandn
  first | refine OutKeeps.onCore ?_ | refine OutKeeps.next ?_
  try beta_reduce
  with_reducible repeat' first
    | exact Keeps.refl _ | apply Keeps.comp (State.predOp_keeps ..)

theorem execPget_keeps (l : Fin 64) (q : PQ) (pd : Fin 8) (ra b : Fin 32) (s : State) : OutKeeps s (execPget l q pd ra b s) := by
  unfold execPget
  first | refine OutKeeps.onCore ?_ | refine OutKeeps.next ?_
  try beta_reduce
  with_reducible repeat' first
    | exact Keeps.refl _ | apply Keeps.comp (State.setP_keeps ..) | apply Keeps.comp (State.plain_keeps (hbody := ?_) ..)
    | (intro _; beta_reduce)

theorem execPput_keeps (l : Fin 64) (q : PQ) (rd : Fin 32) (pa : Fin 8) (b : Fin 32) (s : State) : OutKeeps s (execPput l q rd pa b s) := by
  unfold execPput
  first | refine OutKeeps.onCore ?_ | refine OutKeeps.next ?_
  try beta_reduce
  with_reducible repeat' first
    | exact Keeps.refl _ | apply Keeps.comp (State.setG_keeps ..) | apply Keeps.comp (State.plain_keeps (hbody := ?_) ..)
    | (intro _; beta_reduce)

theorem execPopc_keeps (l : Fin 64) (q : PQ) (rd ra : Fin 32) (s : State) : OutKeeps s (execPopc l q rd ra s) := by
  unfold execPopc
  first | refine OutKeeps.onCore ?_ | refine OutKeeps.next ?_
  try beta_reduce
  with_reducible repeat' first
    | exact Keeps.refl _ | apply Keeps.comp (State.alu1_keeps ..)

theorem execClz_keeps (l : Fin 64) (q : PQ) (rd ra : Fin 32) (s : State) : OutKeeps s (execClz l q rd ra s) := by
  unfold execClz
  first | refine OutKeeps.onCore ?_ | refine OutKeeps.next ?_
  try beta_reduce
  with_reducible repeat' first
    | exact Keeps.refl _ | apply Keeps.comp (State.alu1_keeps ..)

theorem execBfxu_keeps (l : Fin 64) (q : PQ) (rd ra rb : Fin 32) (s : State) : OutKeeps s (execBfxu l q rd ra rb s) := by
  unfold execBfxu
  first | refine OutKeeps.onCore ?_ | refine OutKeeps.next ?_
  try beta_reduce
  with_reducible repeat' first
    | exact Keeps.refl _ | apply Keeps.comp (State.alu2_keeps ..)

theorem execBfi_keeps (l : Fin 64) (q : PQ) (rd ra rb : Fin 32) (s : State) : OutKeeps s (execBfi l q rd ra rb s) := by
  unfold execBfi
  first | refine OutKeeps.onCore ?_ | refine OutKeeps.next ?_
  try beta_reduce
  with_reducible repeat' first
    | exact Keeps.refl _ | apply Keeps.comp (State.setG_keeps ..) | apply Keeps.comp (State.plain_keeps (hbody := ?_) ..)
    | (intro _; beta_reduce)

theorem State.settleW_keeps (s : State) (l : Nat) (w : Fin 8) : Keeps s (State.settleW s l w) := by
  unfold State.settleW
  with_reducible repeat' first
    | exact Keeps.refl _ | refine Keeps.ite ?_ ?_ | split | apply Keeps.comp (State.opComplete_keeps ..)

theorem State.winWrite_keeps (s : State) (l : Nat) (w : Fin 8) (off : Nat) (bs : List Byte) : Keeps s (State.winWrite s l w off bs) := by
  unfold State.winWrite
  with_reducible repeat' first
    | exact Keeps.refl _ | (extract_lets +onlyGivenNames x; clear_value x) | apply Keeps.comp (State.setBytes_keeps ..)
    | apply Keeps.comp (State.setWin_keeps ..)

theorem State.poisonHit_keeps (s : State) (l : Nat) (w : Fin 8) (word : Word) (a : Nat) : Keeps s (State.poisonHit s l w word a) := by
  unfold State.poisonHit
  with_reducible repeat' first
    | exact Keeps.refl _ | (extract_lets +onlyGivenNames x; clear_value x) | refine Keeps.ite ?_ ?_
    | apply Keeps.comp (State.setWin_keeps ..) | apply Keeps.comp (State.raise_keeps ..)

theorem State.mLoad_keeps (s : State) (l : Nat) (t : TaskCtx) (word : Word) (a width : Nat) : Keeps s (State.mLoad s l t word a width).2 := by
  unfold State.mLoad
  with_reducible repeat' first
    | assumption | exact Keeps.refl _
    | (extract_lets +onlyGivenNames x; refine Keeps.cut (x := x) ?_ ?_; rotate_left; intro hx; clear_value x; rotate_right; subst x)
    | refine Keeps.ite ?_ ?_ | simp -zeta only [Keeps.upd_iff] | split | apply Keeps.comp (State.draw_keeps ..)
    | apply Keeps.comp (State.raise_keeps ..) | apply Keeps.comp (State.settleW_keeps ..) | apply Keeps.comp (State.poisonHit_keeps ..)

theorem State.mStore_keeps (s : State) (l : Nat) (word : Word) (a : Nat) (bs : List Byte) : Keeps s (State.mStore s l word a bs) := by
  unfold State.mStore
  with_reducible repeat' first
    | assumption | exact Keeps.refl _
    | (extract_lets +onlyGivenNames x; refine Keeps.cut (x := x) ?_ ?_; rotate_left; intro hx; clear_value x; rotate_right; subst x)
    | refine Keeps.ite ?_ ?_ | split | apply Keeps.comp (State.raise_keeps ..) | apply Keeps.comp (State.settleW_keeps ..)
    | apply Keeps.comp (State.winWrite_keeps ..) | apply Keeps.comp (State.poisonHit_keeps ..)

theorem State.loadIns_keeps (s : State) (l : Nat) (q : PQ) (op : Nat) (rd ra : Fin 32) (off : BitVec 12) (width : Nat) (ext : Nat → Word) : Keeps s (State.loadIns s l q op rd ra off width ext) := by
  unfold State.loadIns
  with_reducible repeat' first
    | assumption | exact Keeps.refl _
    | (extract_lets +onlyGivenNames x; refine Keeps.cut (x := x.2) ?_ ?_; rotate_left; intro hx; clear_value x; rotate_right; subst x)
    | (extract_lets +onlyGivenNames x; clear_value x) | apply Keeps.comp (State.setG_keeps ..)
    | apply Keeps.comp (State.instr_keeps (hbody := ?_) ..) | apply Keeps.comp (State.mLoad_keeps ..) | (intro _; beta_reduce)

theorem State.storeIns_keeps (s : State) (l : Nat) (q : PQ) (op : Nat) (rs ra : Fin 32) (off : BitVec 12) (width : Nat) : Keeps s (State.storeIns s l q op rs ra off width) := by
  unfold State.storeIns
  with_reducible repeat' first
    | exact Keeps.refl _ | (extract_lets +onlyGivenNames x; clear_value x) | apply Keeps.comp (State.instr_keeps (hbody := ?_) ..)
    | apply Keeps.comp (State.mStore_keeps ..) | (intro _; beta_reduce)

theorem execLdw_keeps (l : Fin 64) (q : PQ) (rd ra : Fin 32) (off : BitVec 12) (s : State) : OutKeeps s (execLdw l q rd ra off s) := by
  unfold execLdw
  first | refine OutKeeps.onCore ?_ | refine OutKeeps.next ?_
  try beta_reduce
  with_reducible repeat' first
    | exact Keeps.refl _ | apply Keeps.comp (State.loadIns_keeps ..)

theorem execLdh_keeps (l : Fin 64) (q : PQ) (rd ra : Fin 32) (off : BitVec 12) (s : State) : OutKeeps s (execLdh l q rd ra off s) := by
  unfold execLdh
  first | refine OutKeeps.onCore ?_ | refine OutKeeps.next ?_
  try beta_reduce
  with_reducible repeat' first
    | exact Keeps.refl _ | apply Keeps.comp (State.loadIns_keeps ..)

theorem execLdhu_keeps (l : Fin 64) (q : PQ) (rd ra : Fin 32) (off : BitVec 12) (s : State) : OutKeeps s (execLdhu l q rd ra off s) := by
  unfold execLdhu
  first | refine OutKeeps.onCore ?_ | refine OutKeeps.next ?_
  try beta_reduce
  with_reducible repeat' first
    | exact Keeps.refl _ | apply Keeps.comp (State.loadIns_keeps ..)

theorem execLdb_keeps (l : Fin 64) (q : PQ) (rd ra : Fin 32) (off : BitVec 12) (s : State) : OutKeeps s (execLdb l q rd ra off s) := by
  unfold execLdb
  first | refine OutKeeps.onCore ?_ | refine OutKeeps.next ?_
  try beta_reduce
  with_reducible repeat' first
    | exact Keeps.refl _ | apply Keeps.comp (State.loadIns_keeps ..)

theorem execLdbu_keeps (l : Fin 64) (q : PQ) (rd ra : Fin 32) (off : BitVec 12) (s : State) : OutKeeps s (execLdbu l q rd ra off s) := by
  unfold execLdbu
  first | refine OutKeeps.onCore ?_ | refine OutKeeps.next ?_
  try beta_reduce
  with_reducible repeat' first
    | exact Keeps.refl _ | apply Keeps.comp (State.loadIns_keeps ..)

theorem execStw_keeps (l : Fin 64) (q : PQ) (rs ra : Fin 32) (off : BitVec 12) (s : State) : OutKeeps s (execStw l q rs ra off s) := by
  unfold execStw
  first | refine OutKeeps.onCore ?_ | refine OutKeeps.next ?_
  try beta_reduce
  with_reducible repeat' first
    | exact Keeps.refl _ | apply Keeps.comp (State.storeIns_keeps ..)

theorem execSth_keeps (l : Fin 64) (q : PQ) (rs ra : Fin 32) (off : BitVec 12) (s : State) : OutKeeps s (execSth l q rs ra off s) := by
  unfold execSth
  first | refine OutKeeps.onCore ?_ | refine OutKeeps.next ?_
  try beta_reduce
  with_reducible repeat' first
    | exact Keeps.refl _ | apply Keeps.comp (State.storeIns_keeps ..)

theorem execStb_keeps (l : Fin 64) (q : PQ) (rs ra : Fin 32) (off : BitVec 12) (s : State) : OutKeeps s (execStb l q rs ra off s) := by
  unfold execStb
  first | refine OutKeeps.onCore ?_ | refine OutKeeps.next ?_
  try beta_reduce
  with_reducible repeat' first
    | exact Keeps.refl _ | apply Keeps.comp (State.storeIns_keeps ..)

theorem State.notLast_keeps (s : State) (l : Nat) (word : Word) (len : Nat) (f : State → State) (hf : ∀ x0, Keeps x0 (f x0)): Keeps s (State.notLast s l word len f) := by
  unfold State.notLast
  with_reducible repeat' first
    | exact Keeps.refl _ | refine Keeps.ite ?_ ?_ | apply Keeps.comp (State.kill_keeps ..) | apply Keeps.comp (hf ..)

theorem State.loopIns_keeps (s : State) (l : Nat) (q : PQ) (word : Word) (len body : Nat) (n : State → Nat) (ceil : Option Nat) :
    Keeps s (State.loopIns s l q word len body n ceil) := by
  unfold State.loopIns
  apply Keeps.comp (State.notLast_keeps (hf := ?_) ..) (Keeps.refl _)
  intro u
  beta_reduce
  split
  · exact Keeps.refl _
  · refine Keeps.ite (State.kill_keeps ..) ?_
    have h := State.settleP_keeps u l [q.p]
    generalize u.settleP l [q.p] = v at h ⊢
    dsimp only
    with_reducible repeat' first
      | refine Keeps.ite ?_ ?_ | apply Keeps.comp (State.modLamp_keeps ..) | apply Keeps.comp (State.raise_keeps ..)
      | apply Keeps.comp (State.kill_keeps ..) | exact h

theorem execBr_keeps (l : Fin 64) (q : PQ) (off : BitVec 22) (s : State) : OutKeeps s (execBr l q off s) := by
  unfold execBr
  first | refine OutKeeps.onCore ?_ | refine OutKeeps.next ?_
  try beta_reduce
  with_reducible repeat' first
    | assumption | exact Keeps.refl _
    | (extract_lets +onlyGivenNames x; refine Keeps.cut (x := x) ?_ ?_; rotate_left; intro hx; clear_value x; rotate_right; subst x)
    | (extract_lets +onlyGivenNames x; clear_value x) | refine Keeps.ite ?_ ?_ | split | apply Keeps.comp (State.modLamp_keeps ..)
    | apply Keeps.comp (State.kill_keeps ..) | apply Keeps.comp (State.advance_keeps ..) | apply Keeps.comp (State.settleP_keeps ..)
    | apply Keeps.comp (State.notLast_keeps (hf := ?_) ..) | (intro _; beta_reduce)

theorem execLoopi_keeps (l : Fin 64) (q : PQ) (count : BitVec 12) (body : BitVec 10) (s : State) : OutKeeps s (execLoopi l q count body s) := by
  unfold execLoopi
  first | refine OutKeeps.onCore ?_ | refine OutKeeps.next ?_
  try beta_reduce
  with_reducible repeat' first
    | exact Keeps.refl _ | apply Keeps.comp (State.loopIns_keeps ..)

theorem execLoopr_keeps (l : Fin 64) (q : PQ) (rs : Fin 32) (body : BitVec 10) (ceil : Word) (s : State) : OutKeeps s (execLoopr l q rs body ceil s) := by
  unfold execLoopr
  first | refine OutKeeps.onCore ?_ | refine OutKeeps.next ?_
  try beta_reduce
  with_reducible repeat' first
    | exact Keeps.refl _ | apply Keeps.comp (State.loopIns_keeps ..)

theorem execIllegalInstruction_keeps (l : Fin 64) (word : Word) (s : State) : OutKeeps s (execIllegalInstruction l word s) := by
  unfold execIllegalInstruction
  first | refine OutKeeps.onCore ?_ | refine OutKeeps.next ?_
  try beta_reduce
  with_reducible repeat' first
    | exact Keeps.refl _ | apply Keeps.comp (State.kill_keeps ..)

theorem execFetchFault_keeps (l : Fin 64) (s : State) : OutKeeps s (execFetchFault l s) := by
  unfold execFetchFault
  first | refine OutKeeps.onCore ?_ | refine OutKeeps.next ?_
  try beta_reduce
  with_reducible repeat' first
    | exact Keeps.refl _ | apply Keeps.comp (State.kill_keeps ..)

theorem State.rtcTest_keeps (s : State) : Keeps s (State.rtcTest s) := by
  unfold State.rtcTest
  with_reducible repeat' first
    | assumption | exact Keeps.refl _
    | (extract_lets +onlyGivenNames x; refine Keeps.cut (x := x) ?_ ?_; rotate_left; intro hx; clear_value x; rotate_right; subst x)
    | (extract_lets +onlyGivenNames x; clear_value x) | refine Keeps.ite ?_ ?_ | simp -zeta only [Keeps.upd_iff]
    | apply Keeps.comp (State.setFlag_keeps ..) | apply Keeps.comp (State.event_keeps ..)

theorem State.rtcLoad_keeps (s : State) (n : Nat) : Keeps s (State.rtcLoad s n) := by
  unfold State.rtcLoad
  with_reducible repeat' first
    | exact Keeps.refl _ | (extract_lets +onlyGivenNames x; clear_value x) | apply Keeps.comp (State.setReg_keeps ..)
    | apply Keeps.comp (State.setFlag_keeps ..) | apply Keeps.comp (State.rtcTest_keeps ..)

theorem State.rtcSetCmd_keeps (s : State) : Keeps s (State.rtcSetCmd s) := by
  unfold State.rtcSetCmd
  with_reducible repeat' first
    | exact Keeps.refl _ | refine Keeps.ite ?_ ?_ | split | apply Keeps.comp (State.event_keeps ..)
    | apply Keeps.comp (State.rtcLoad_keeps ..)

theorem State.rtcCaptureCmd_keeps (s : State) : Keeps s (State.rtcCaptureCmd s) := by
  unfold State.rtcCaptureCmd
  with_reducible repeat' first
    | assumption | exact Keeps.refl _
    | (extract_lets +onlyGivenNames x; refine Keeps.cut (x := x) ?_ ?_; rotate_left; intro hx; clear_value x; rotate_right; subst x)
    | (extract_lets +onlyGivenNames x; clear_value x) | refine Keeps.ite ?_ ?_ | apply Keeps.comp (State.setReg_keeps ..)
    | apply Keeps.comp (State.draw_keeps ..)

theorem State.trecEmpty_keeps (s : State) : Keeps s (State.trecEmpty s) := by
  unfold State.trecEmpty
  with_reducible repeat' first
    | assumption | exact Keeps.refl _
    | (extract_lets +onlyGivenNames x; refine Keeps.cut (x := x) ?_ ?_; rotate_left; intro hx; clear_value x; rotate_right; subst x)
    | apply Keeps.comp (State.setReg_keeps ..) | refine Keeps.foldl ?_ ?_ | (intro _; beta_reduce)

theorem State.trecClr_keeps (s : State) : Keeps s (State.trecClr s) := by
  unfold State.trecClr
  with_reducible repeat' first
    | exact Keeps.refl _ | refine Keeps.ite ?_ ?_ | apply Keeps.comp (State.event_keeps ..) | apply Keeps.comp (State.trecEmpty_keeps ..)

theorem State.trecAdd_keeps (s : State) (sens : Nat) : Keeps s (State.trecAdd s sens) := by
  unfold State.trecAdd
  with_reducible repeat' first
    | assumption | exact Keeps.refl _
    | (extract_lets +onlyGivenNames x; refine Keeps.cut (x := x) ?_ ?_; rotate_left; intro hx; clear_value x; rotate_right; subst x)
    | (extract_lets +onlyGivenNames x; clear_value x) | refine Keeps.ite ?_ ?_ | apply Keeps.comp (State.setReg_keeps ..)
    | apply Keeps.comp (State.setFld_keeps ..) | apply Keeps.comp (State.setFlag_keeps ..) | apply Keeps.comp (State.incFld_keeps ..)

theorem State.rtcArmCmd_keeps (s : State) : Keeps s (State.rtcArmCmd s) := by
  unfold State.rtcArmCmd
  with_reducible repeat' first
    | exact Keeps.refl _ | (extract_lets +onlyGivenNames x; clear_value x) | refine Keeps.ite ?_ ?_
    | apply Keeps.comp (State.setFlag_keeps ..) | apply Keeps.comp (State.rtcTest_keeps ..)

theorem State.rtcDisarmCmd_keeps (s : State) : Keeps s (State.rtcDisarmCmd s) := by
  unfold State.rtcDisarmCmd
  with_reducible repeat' first
    | exact Keeps.refl _ | refine Keeps.ite ?_ ?_ | apply Keeps.comp (State.setFlag_keeps ..)

theorem execRtcSet_keeps (s : State) : OutKeeps s (execRtcSet s) := by
  unfold execRtcSet
  first | refine OutKeeps.onCore ?_ | refine OutKeeps.next ?_
  try beta_reduce
  with_reducible repeat' first
    | exact Keeps.refl _ | apply Keeps.comp (State.rtcSetCmd_keeps ..)

theorem execRtcCapture_keeps (s : State) : OutKeeps s (execRtcCapture s) := by
  unfold execRtcCapture
  first | refine OutKeeps.onCore ?_ | refine OutKeeps.next ?_
  try beta_reduce
  with_reducible repeat' first
    | exact Keeps.refl _ | apply Keeps.comp (State.rtcCaptureCmd_keeps ..)

theorem execTrecClr_keeps (s : State) : OutKeeps s (execTrecClr s) := by
  unfold execTrecClr
  first | refine OutKeeps.onCore ?_ | refine OutKeeps.next ?_
  try beta_reduce
  with_reducible repeat' first
    | exact Keeps.refl _ | apply Keeps.comp (State.trecClr_keeps ..)

theorem execRtcArm_keeps (s : State) : OutKeeps s (execRtcArm s) := by
  unfold execRtcArm
  first | refine OutKeeps.onCore ?_ | refine OutKeeps.next ?_
  try beta_reduce
  with_reducible repeat' first
    | exact Keeps.refl _ | apply Keeps.comp (State.rtcArmCmd_keeps ..)

theorem execRtcDisarm_keeps (s : State) : OutKeeps s (execRtcDisarm s) := by
  unfold execRtcDisarm
  first | refine OutKeeps.onCore ?_ | refine OutKeeps.next ?_
  try beta_reduce
  with_reducible repeat' first
    | exact Keeps.refl _ | apply Keeps.comp (State.rtcDisarmCmd_keeps ..)

theorem State.rtcRoll_keeps (s : State) : Keeps s (State.rtcRoll s) := by
  unfold State.rtcRoll
  with_reducible repeat' first
    | exact Keeps.refl _ | (extract_lets +onlyGivenNames x; clear_value x) | apply Keeps.comp (State.setReg_keeps ..)
    | apply Keeps.comp (State.setFlag_keeps ..)

theorem State.rtcEdge_keeps (s : State) : Keeps s (State.rtcEdge s) := by
  unfold State.rtcEdge
  with_reducible repeat' first
    | exact Keeps.refl _ | (extract_lets +onlyGivenNames x; clear_value x) | refine Keeps.ite ?_ ?_
    | apply Keeps.comp (State.setReg_keeps ..) | apply Keeps.comp (State.rtcTest_keeps ..) | apply Keeps.comp (State.rtcRoll_keeps ..)

theorem execRtcAlarm_keeps (s : State) : OutKeeps s (execRtcAlarm s) := by
  unfold execRtcAlarm
  first | refine OutKeeps.onCore ?_ | refine OutKeeps.next ?_
  try beta_reduce
  with_reducible repeat' first
    | exact Keeps.refl _ | apply Keeps.comp (State.rtcTest_keeps ..)

theorem execRtcRollover_keeps (s : State) : OutKeeps s (execRtcRollover s) := by
  unfold execRtcRollover
  first | refine OutKeeps.onCore ?_ | refine OutKeeps.next ?_
  try beta_reduce
  with_reducible repeat' first
    | exact Keeps.refl _ | refine Keeps.ite ?_ ?_ | apply Keeps.comp (State.rtcTest_keeps ..) | apply Keeps.comp (State.rtcRoll_keeps ..)

theorem execBackupSwitchToCell_keeps (s : State) : OutKeeps s (execBackupSwitchToCell s) := by
  unfold execBackupSwitchToCell
  first | refine OutKeeps.onCore ?_ | refine OutKeeps.next ?_
  try beta_reduce
  with_reducible repeat' first
    | exact Keeps.refl _ | (extract_lets +onlyGivenNames x; clear_value x) | simp -zeta only [Keeps.upd_iff]

theorem execBackupSwitchToMain_keeps (s : State) : OutKeeps s (execBackupSwitchToMain s) := by
  unfold execBackupSwitchToMain
  first | refine OutKeeps.onCore ?_ | refine OutKeeps.next ?_
  try beta_reduce
  with_reducible repeat' first
    | exact Keeps.refl _ | (extract_lets +onlyGivenNames x; clear_value x) | simp -zeta only [Keeps.upd_iff]

theorem execBackupRelease_keeps (s : State) : OutKeeps s (execBackupRelease s) := by
  unfold execBackupRelease
  first | refine OutKeeps.onCore ?_ | refine OutKeeps.next ?_
  try beta_reduce
  with_reducible repeat' first
    | exact Keeps.refl _ | (extract_lets +onlyGivenNames x; clear_value x) | refine Keeps.ite ?_ ?_ | simp -zeta only [Keeps.upd_iff]

theorem execCellLow_keeps (mv : Fin 4096) (s : State) : OutKeeps s (execCellLow mv s) := by
  unfold execCellLow
  first | refine OutKeeps.onCore ?_ | refine OutKeeps.next ?_
  try beta_reduce
  with_reducible repeat' first
    | exact Keeps.refl _ | apply Keeps.comp (State.setFld_keeps ..) | apply Keeps.comp (State.setFlag_keeps ..)
    | apply Keeps.comp (State.event_keeps ..)

theorem execBkLost_keeps (s : State) : OutKeeps s (execBkLost s) := by
  unfold execBkLost
  first | refine OutKeeps.onCore ?_ | refine OutKeeps.next ?_
  try beta_reduce
  with_reducible repeat' first
    | assumption | exact Keeps.refl _
    | (extract_lets +onlyGivenNames x; refine Keeps.cut (x := x) ?_ ?_; rotate_left; intro hx; clear_value x; rotate_right; subst x)
    | (extract_lets +onlyGivenNames x; clear_value x) | refine Keeps.ite ?_ ?_ | simp -zeta only [Keeps.upd_iff]
    | apply Keeps.comp (State.setReg_keeps ..) | apply Keeps.comp (State.setFld_keeps ..) | apply Keeps.comp (State.setFlag_keeps ..)
    | apply Keeps.comp (State.trecEmpty_keeps ..) | apply Keeps.comp (State.rtcRoll_keeps ..) | refine Keeps.foldl ?_ ?_
    | (intro _; beta_reduce)

theorem State.scanIns_keeps (s : State) (l : Nat) (q : PQ) (type : Nat) (pd ps rp : Fin 8) (ra rb : Fin 32) (ev : TaskCtx → State → Bool → Inst → Inst × Bool) : Keeps s (State.scanIns s l q type pd ps rp ra rb ev) := by
  unfold State.scanIns
  with_reducible repeat' first
    | assumption | exact Keeps.refl _
    | (extract_lets +onlyGivenNames x; refine Keeps.cut (x := x) ?_ ?_; rotate_left; intro hx; clear_value x; rotate_right; subst x)
    | (extract_lets +onlyGivenNames x; clear_value x) | refine Keeps.ite ?_ ?_ | split | apply Keeps.comp (State.setP_keeps ..)
    | apply Keeps.comp (State.raise_keeps ..) | apply Keeps.comp (State.instr_keeps (hbody := ?_) ..)
    | apply Keeps.comp (State.settleW_keeps ..) | apply Keeps.comp (State.winWrite_keeps ..) | apply Keeps.comp (State.poisonHit_keeps ..)
    | (intro _; beta_reduce)

theorem execTon_keeps (l : Fin 64) (q : PQ) (pd ps : Fin 8) (ra rb : Fin 32) (s : State) : OutKeeps s (execTon l q pd ps ra rb s) := by
  unfold execTon
  first | refine OutKeeps.onCore ?_ | refine OutKeeps.next ?_
  try beta_reduce
  with_reducible repeat' first
    | exact Keeps.refl _ | apply Keeps.comp (State.scanIns_keeps ..)

theorem execTof_keeps (l : Fin 64) (q : PQ) (pd ps : Fin 8) (ra rb : Fin 32) (s : State) : OutKeeps s (execTof l q pd ps ra rb s) := by
  unfold execTof
  first | refine OutKeeps.onCore ?_ | refine OutKeeps.next ?_
  try beta_reduce
  with_reducible repeat' first
    | exact Keeps.refl _ | apply Keeps.comp (State.scanIns_keeps ..)

theorem execTp_keeps (l : Fin 64) (q : PQ) (pd ps : Fin 8) (ra rb : Fin 32) (s : State) : OutKeeps s (execTp l q pd ps ra rb s) := by
  unfold execTp
  first | refine OutKeeps.onCore ?_ | refine OutKeeps.next ?_
  try beta_reduce
  with_reducible repeat' first
    | exact Keeps.refl _ | apply Keeps.comp (State.scanIns_keeps ..)

theorem execCtu_keeps (l : Fin 64) (q : PQ) (pd ps : Fin 8) (ra rb : Fin 32) (rp : Fin 8) (s : State) : OutKeeps s (execCtu l q pd ps ra rb rp s) := by
  unfold execCtu
  first | refine OutKeeps.onCore ?_ | refine OutKeeps.next ?_
  try beta_reduce
  with_reducible repeat' first
    | exact Keeps.refl _ | apply Keeps.comp (State.scanIns_keeps ..)

theorem execCtd_keeps (l : Fin 64) (q : PQ) (pd ps : Fin 8) (ra rb : Fin 32) (rp : Fin 8) (s : State) : OutKeeps s (execCtd l q pd ps ra rb rp s) := by
  unfold execCtd
  first | refine OutKeeps.onCore ?_ | refine OutKeeps.next ?_
  try beta_reduce
  with_reducible repeat' first
    | exact Keeps.refl _ | apply Keeps.comp (State.scanIns_keeps ..)

theorem execEdgeup_keeps (l : Fin 64) (q : PQ) (pd ps : Fin 8) (ra rb : Fin 32) (s : State) : OutKeeps s (execEdgeup l q pd ps ra rb s) := by
  unfold execEdgeup
  first | refine OutKeeps.onCore ?_ | refine OutKeeps.next ?_
  try beta_reduce
  with_reducible repeat' first
    | exact Keeps.refl _ | apply Keeps.comp (State.scanIns_keeps ..)

theorem execEdgedn_keeps (l : Fin 64) (q : PQ) (pd ps : Fin 8) (ra rb : Fin 32) (s : State) : OutKeeps s (execEdgedn l q pd ps ra rb s) := by
  unfold execEdgedn
  first | refine OutKeeps.onCore ?_ | refine OutKeeps.next ?_
  try beta_reduce
  with_reducible repeat' first
    | exact Keeps.refl _ | apply Keeps.comp (State.scanIns_keeps ..)

theorem State.fl2_keeps (s : State) (l : Nat) (q : PQ) (fn : Nat) (rd ra rb : Fin 32) (f : Word → Word → Word) : Keeps s (State.fl2 s l q fn rd ra rb f) := by
  unfold State.fl2
  with_reducible repeat' first
    | exact Keeps.refl _ | apply Keeps.comp (State.setG_keeps ..) | apply Keeps.comp (State.instr_keeps (hbody := ?_) ..)
    | (intro _; beta_reduce)

theorem State.fl1_keeps (s : State) (l : Nat) (q : PQ) (fn : Nat) (rd ra : Fin 32) (f : Word → Word) : Keeps s (State.fl1 s l q fn rd ra f) := by
  unfold State.fl1
  with_reducible repeat' first
    | exact Keeps.refl _ | apply Keeps.comp (State.setG_keeps ..) | apply Keeps.comp (State.instr_keeps (hbody := ?_) ..)
    | (intro _; beta_reduce)

theorem State.flCmp_keeps (s : State) (l : Nat) (q : PQ) (fn : Nat) (pd : Fin 8) (ra rb : Fin 32) (f : Word → Word → Bool) : Keeps s (State.flCmp s l q fn pd ra rb f) := by
  unfold State.flCmp
  with_reducible repeat' first
    | exact Keeps.refl _ | apply Keeps.comp (State.setP_keeps ..) | apply Keeps.comp (State.instr_keeps (hbody := ?_) ..)
    | (intro _; beta_reduce)

theorem execFadd_keeps (l : Fin 64) (q : PQ) (rd ra rb : Fin 32) (s : State) : OutKeeps s (execFadd l q rd ra rb s) := by
  unfold execFadd
  first | refine OutKeeps.onCore ?_ | refine OutKeeps.next ?_
  try beta_reduce
  with_reducible repeat' first
    | exact Keeps.refl _ | apply Keeps.comp (State.fl2_keeps ..)

theorem execFsub_keeps (l : Fin 64) (q : PQ) (rd ra rb : Fin 32) (s : State) : OutKeeps s (execFsub l q rd ra rb s) := by
  unfold execFsub
  first | refine OutKeeps.onCore ?_ | refine OutKeeps.next ?_
  try beta_reduce
  with_reducible repeat' first
    | exact Keeps.refl _ | apply Keeps.comp (State.fl2_keeps ..)

theorem execFmul_keeps (l : Fin 64) (q : PQ) (rd ra rb : Fin 32) (s : State) : OutKeeps s (execFmul l q rd ra rb s) := by
  unfold execFmul
  first | refine OutKeeps.onCore ?_ | refine OutKeeps.next ?_
  try beta_reduce
  with_reducible repeat' first
    | exact Keeps.refl _ | apply Keeps.comp (State.fl2_keeps ..)

theorem execFdiv_keeps (l : Fin 64) (q : PQ) (rd ra rb : Fin 32) (s : State) : OutKeeps s (execFdiv l q rd ra rb s) := by
  unfold execFdiv
  first | refine OutKeeps.onCore ?_ | refine OutKeeps.next ?_
  try beta_reduce
  with_reducible repeat' first
    | exact Keeps.refl _ | apply Keeps.comp (State.fl2_keeps ..)

theorem execFmin_keeps (l : Fin 64) (q : PQ) (rd ra rb : Fin 32) (s : State) : OutKeeps s (execFmin l q rd ra rb s) := by
  unfold execFmin
  first | refine OutKeeps.onCore ?_ | refine OutKeeps.next ?_
  try beta_reduce
  with_reducible repeat' first
    | exact Keeps.refl _ | apply Keeps.comp (State.fl2_keeps ..)

theorem execFmax_keeps (l : Fin 64) (q : PQ) (rd ra rb : Fin 32) (s : State) : OutKeeps s (execFmax l q rd ra rb s) := by
  unfold execFmax
  first | refine OutKeeps.onCore ?_ | refine OutKeeps.next ?_
  try beta_reduce
  with_reducible repeat' first
    | exact Keeps.refl _ | apply Keeps.comp (State.fl2_keeps ..)

theorem execFsqrt_keeps (l : Fin 64) (q : PQ) (rd ra : Fin 32) (s : State) : OutKeeps s (execFsqrt l q rd ra s) := by
  unfold execFsqrt
  first | refine OutKeeps.onCore ?_ | refine OutKeeps.next ?_
  try beta_reduce
  with_reducible repeat' first
    | exact Keeps.refl _ | apply Keeps.comp (State.fl1_keeps ..)

theorem execFabs_keeps (l : Fin 64) (q : PQ) (rd ra : Fin 32) (s : State) : OutKeeps s (execFabs l q rd ra s) := by
  unfold execFabs
  first | refine OutKeeps.onCore ?_ | refine OutKeeps.next ?_
  try beta_reduce
  with_reducible repeat' first
    | exact Keeps.refl _ | apply Keeps.comp (State.fl1_keeps ..)

theorem execFneg_keeps (l : Fin 64) (q : PQ) (rd ra : Fin 32) (s : State) : OutKeeps s (execFneg l q rd ra s) := by
  unfold execFneg
  first | refine OutKeeps.onCore ?_ | refine OutKeeps.next ?_
  try beta_reduce
  with_reducible repeat' first
    | exact Keeps.refl _ | apply Keeps.comp (State.fl1_keeps ..)

theorem execFcvtis_keeps (l : Fin 64) (q : PQ) (rd ra : Fin 32) (s : State) : OutKeeps s (execFcvtis l q rd ra s) := by
  unfold execFcvtis
  first | refine OutKeeps.onCore ?_ | refine OutKeeps.next ?_
  try beta_reduce
  with_reducible repeat' first
    | exact Keeps.refl _ | apply Keeps.comp (State.fl1_keeps ..)

theorem execFcvtsi_keeps (l : Fin 64) (q : PQ) (rd ra : Fin 32) (s : State) : OutKeeps s (execFcvtsi l q rd ra s) := by
  unfold execFcvtsi
  first | refine OutKeeps.onCore ?_ | refine OutKeeps.next ?_
  try beta_reduce
  with_reducible repeat' first
    | exact Keeps.refl _ | apply Keeps.comp (State.fl1_keeps ..)

theorem execFcmpEq_keeps (l : Fin 64) (q : PQ) (pd : Fin 8) (ra rb : Fin 32) (s : State) : OutKeeps s (execFcmpEq l q pd ra rb s) := by
  unfold execFcmpEq
  first | refine OutKeeps.onCore ?_ | refine OutKeeps.next ?_
  try beta_reduce
  with_reducible repeat' first
    | exact Keeps.refl _ | apply Keeps.comp (State.flCmp_keeps ..)

theorem execFcmpLt_keeps (l : Fin 64) (q : PQ) (pd : Fin 8) (ra rb : Fin 32) (s : State) : OutKeeps s (execFcmpLt l q pd ra rb s) := by
  unfold execFcmpLt
  first | refine OutKeeps.onCore ?_ | refine OutKeeps.next ?_
  try beta_reduce
  with_reducible repeat' first
    | exact Keeps.refl _ | apply Keeps.comp (State.flCmp_keeps ..)

theorem execFcmpLe_keeps (l : Fin 64) (q : PQ) (pd : Fin 8) (ra rb : Fin 32) (s : State) : OutKeeps s (execFcmpLe l q pd ra rb s) := by
  unfold execFcmpLe
  first | refine OutKeeps.onCore ?_ | refine OutKeeps.next ?_
  try beta_reduce
  with_reducible repeat' first
    | exact Keeps.refl _ | apply Keeps.comp (State.flCmp_keeps ..)

theorem execFcmpUn_keeps (l : Fin 64) (q : PQ) (pd : Fin 8) (ra rb : Fin 32) (s : State) : OutKeeps s (execFcmpUn l q pd ra rb s) := by
  unfold execFcmpUn
  first | refine OutKeeps.onCore ?_ | refine OutKeeps.next ?_
  try beta_reduce
  with_reducible repeat' first
    | exact Keeps.refl _ | apply Keeps.comp (State.flCmp_keeps ..)

theorem State.mac_keeps (s : State) (l : Nat) (q : PQ) (ac : Fin 4) (ra rb : Fin 32) (f : Dword → Word → Word → Dword) : Keeps s (State.mac s l q ac ra rb f) := by
  unfold State.mac
  with_reducible repeat' first
    | exact Keeps.refl _ | apply Keeps.comp (State.setAcc_keeps ..) | apply Keeps.comp (State.plain_keeps (hbody := ?_) ..)
    | (intro _; beta_reduce)

theorem execMac_keeps (l : Fin 64) (q : PQ) (ac : Fin 4) (ra rb : Fin 32) (s : State) : OutKeeps s (execMac l q ac ra rb s) := by
  unfold execMac
  first | refine OutKeeps.onCore ?_ | refine OutKeeps.next ?_
  try beta_reduce
  with_reducible repeat' first
    | exact Keeps.refl _ | apply Keeps.comp (State.mac_keeps ..)

theorem execMacu_keeps (l : Fin 64) (q : PQ) (ac : Fin 4) (ra rb : Fin 32) (s : State) : OutKeeps s (execMacu l q ac ra rb s) := by
  unfold execMacu
  first | refine OutKeeps.onCore ?_ | refine OutKeeps.next ?_
  try beta_reduce
  with_reducible repeat' first
    | exact Keeps.refl _ | apply Keeps.comp (State.mac_keeps ..)

theorem execMsu_keeps (l : Fin 64) (q : PQ) (ac : Fin 4) (ra rb : Fin 32) (s : State) : OutKeeps s (execMsu l q ac ra rb s) := by
  unfold execMsu
  first | refine OutKeeps.onCore ?_ | refine OutKeeps.next ?_
  try beta_reduce
  with_reducible repeat' first
    | exact Keeps.refl _ | apply Keeps.comp (State.mac_keeps ..)

theorem execAcclr_keeps (l : Fin 64) (q : PQ) (ac : Fin 4) (s : State) : OutKeeps s (execAcclr l q ac s) := by
  unfold execAcclr
  first | refine OutKeeps.onCore ?_ | refine OutKeeps.next ?_
  try beta_reduce
  with_reducible repeat' first
    | exact Keeps.refl _ | apply Keeps.comp (State.setAcc_keeps ..) | apply Keeps.comp (State.plain_keeps (hbody := ?_) ..)
    | (intro _; beta_reduce)

theorem execAccwr_keeps (l : Fin 64) (q : PQ) (ac : Fin 4) (ra rb : Fin 32) (s : State) : OutKeeps s (execAccwr l q ac ra rb s) := by
  unfold execAccwr
  first | refine OutKeeps.onCore ?_ | refine OutKeeps.next ?_
  try beta_reduce
  with_reducible repeat' first
    | exact Keeps.refl _ | apply Keeps.comp (State.setAcc_keeps ..) | apply Keeps.comp (State.plain_keeps (hbody := ?_) ..)
    | (intro _; beta_reduce)

theorem execAccrd_keeps (l : Fin 64) (q : PQ) (rd : Fin 32) (ac : Fin 4) (sh : Fin 32) (s : State) : OutKeeps s (execAccrd l q rd ac sh s) := by
  unfold execAccrd
  first | refine OutKeeps.onCore ?_ | refine OutKeeps.next ?_
  try beta_reduce
  with_reducible repeat' first
    | exact Keeps.refl _ | apply Keeps.comp (State.setG_keeps ..) | apply Keeps.comp (State.plain_keeps (hbody := ?_) ..)
    | (intro _; beta_reduce)

theorem execAccrdh_keeps (l : Fin 64) (q : PQ) (rd : Fin 32) (ac : Fin 4) (s : State) : OutKeeps s (execAccrdh l q rd ac s) := by
  unfold execAccrdh
  first | refine OutKeeps.onCore ?_ | refine OutKeeps.next ?_
  try beta_reduce
  with_reducible repeat' first
    | exact Keeps.refl _ | apply Keeps.comp (State.setG_keeps ..) | apply Keeps.comp (State.plain_keeps (hbody := ?_) ..)
    | (intro _; beta_reduce)

theorem execSdft_keeps (l : Fin 64) (q : PQ) (ac : Fin 4) (ra rb : Fin 32) (n80 : Bool) (k : Fin 64) (s : State) : OutKeeps s (execSdft l q ac ra rb n80 k s) := by
  unfold execSdft
  first | refine OutKeeps.onCore ?_ | refine OutKeeps.next ?_
  try beta_reduce
  with_reducible repeat' first
    | exact Keeps.refl _ | apply Keeps.comp (State.setAcc_keeps ..) | apply Keeps.comp (State.plain_keeps (hbody := ?_) ..)
    | (intro _; beta_reduce)

theorem State.seq_keeps (s : State) (l : Nat) (q : PQ) (ac : Fin 4) (r i : Int) : Keeps s (State.seq s l q ac r i) := by
  unfold State.seq
  with_reducible repeat' first
    | exact Keeps.refl _ | apply Keeps.comp (State.setAcc_keeps ..) | apply Keeps.comp (State.plain_keeps (hbody := ?_) ..)
    | (intro _; beta_reduce)

theorem execSeq0_keeps (l : Fin 64) (q : PQ) (ac : Fin 4) (s : State) : OutKeeps s (execSeq0 l q ac s) := by
  unfold execSeq0
  first | refine OutKeeps.onCore ?_ | refine OutKeeps.next ?_
  try beta_reduce
  with_reducible repeat' first
    | exact Keeps.refl _ | apply Keeps.comp (State.seq_keeps ..)

theorem execSeq1_keeps (l : Fin 64) (q : PQ) (ac : Fin 4) (s : State) : OutKeeps s (execSeq1 l q ac s) := by
  unfold execSeq1
  first | refine OutKeeps.onCore ?_ | refine OutKeeps.next ?_
  try beta_reduce
  with_reducible repeat' first
    | exact Keeps.refl _ | apply Keeps.comp (State.seq_keeps ..)

theorem execSeq2_keeps (l : Fin 64) (q : PQ) (ac : Fin 4) (s : State) : OutKeeps s (execSeq2 l q ac s) := by
  unfold execSeq2
  first | refine OutKeeps.onCore ?_ | refine OutKeeps.next ?_
  try beta_reduce
  with_reducible repeat' first
    | exact Keeps.refl _ | apply Keeps.comp (State.seq_keeps ..)

theorem State.cordic_keeps (s : State) (l : Nat) (q : PQ) (word : Word) (rd : Fin 32) (f : State → Word × Word) : Keeps s (State.cordic s l q word rd f) := by
  unfold State.cordic
  with_reducible repeat' first
    | exact Keeps.refl _ | (extract_lets +onlyGivenNames x; clear_value x) | refine Keeps.ite ?_ ?_
    | apply Keeps.comp (State.draw_keeps ..) | apply Keeps.comp (State.setG_keeps ..) | apply Keeps.comp (State.kill_keeps ..)
    | apply Keeps.comp (State.plain_keeps (hbody := ?_) ..) | (intro _; beta_reduce)

theorem execCordv_keeps (l : Fin 64) (q : PQ) (rd ra rb : Fin 32) (s : State) : OutKeeps s (execCordv l q rd ra rb s) := by
  unfold execCordv
  first | refine OutKeeps.onCore ?_ | refine OutKeeps.next ?_
  try beta_reduce
  with_reducible repeat' first
    | exact Keeps.refl _ | apply Keeps.comp (State.cordic_keeps ..)

theorem execCordr_keeps (l : Fin 64) (q : PQ) (rd ra : Fin 32) (s : State) : OutKeeps s (execCordr l q rd ra s) := by
  unfold execCordr
  first | refine OutKeeps.onCore ?_ | refine OutKeeps.next ?_
  try beta_reduce
  with_reducible repeat' first
    | exact Keeps.refl _ | apply Keeps.comp (State.cordic_keeps ..)

theorem execIsqrt_keeps (l : Fin 64) (q : PQ) (rd ra : Fin 32) (s : State) : OutKeeps s (execIsqrt l q rd ra s) := by
  unfold execIsqrt
  first | refine OutKeeps.onCore ?_ | refine OutKeeps.next ?_
  try beta_reduce
  with_reducible repeat' first
    | exact Keeps.refl _ | apply Keeps.comp (State.alu1_keeps ..)

end Sys2Proof.Machine
end

