-- ==== Sys2Proof/Laws/KeepsTiles.lean ====
section
/-!
SUPPORT. Every operation of the tile store, the engine tables and program exchange leaves the queue as it is and keeps the canonical form of the stores.
-/
namespace Sys2Proof.Machine

theorem State.setPage_keeps (s : State) (n v : Nat) : Keeps s (State.setPage s n v) := by
  unfold State.setPage
  with_reducible repeat' first
    | exact Keeps.refl _ | apply Keeps.comp (State.setFld_keeps ..)

theorem State.overrun_keeps (s : State) (l : Nat) : Keeps s (State.overrun s l) := by
  unfold State.overrun
  with_reducible repeat' first
    | assumption | exact Keeps.refl _
    | (extract_lets +onlyGivenNames x; refine Keeps.cut (x := x) ?_ ?_; rotate_left; intro hx; clear_value x; rotate_right; subst x)
    | split | apply Keeps.comp (State.incFld_keeps ..) | apply Keeps.comp (State.log_keeps ..)
    | apply Keeps.comp (State.faultStop_keeps ..)

theorem execOverrun_keeps (l : Fin 64) (s : State) : OutKeeps s (execOverrun l s) := by
  unfold execOverrun
  first | refine OutKeeps.onCore ?_ | refine OutKeeps.next ?_
  try beta_reduce
  with_reducible repeat' first
    | exact Keeps.refl _ | apply Keeps.comp (State.overrun_keeps ..)

theorem State.clearLamp_keeps (s : State) (l : Nat) : Keeps s (State.clearLamp s l) := by
  unfold State.clearLamp
  with_reducible repeat' first
    | exact Keeps.refl _ | (extract_lets +onlyGivenNames x; clear_value x) | apply Keeps.comp (State.modLamp_keeps ..)
    | apply Keeps.comp (State.settle_keeps ..) | apply Keeps.comp (State.overrun_keeps ..)

theorem State.startTask_keeps (s : State) (l p slot n : Nat) : Keeps s (State.startTask s l p slot n) := by
  unfold State.startTask
  with_reducible repeat' first
    | assumption | exact Keeps.refl _
    | (extract_lets +onlyGivenNames x; refine Keeps.cut (x := x) ?_ ?_; rotate_left; intro hx; clear_value x; rotate_right; subst x)
    | (extract_lets +onlyGivenNames x; clear_value x) | apply Keeps.comp (State.modLamp_keeps ..)
    | apply Keeps.comp (State.modPart_keeps ..)

theorem execSlotEntry_keeps (l : Fin 64) (slot : Fin 16) (s : State) : OutKeeps s (execSlotEntry l slot s) := by
  unfold execSlotEntry
  first | refine OutKeeps.onCore ?_ | refine OutKeeps.next ?_
  try beta_reduce
  with_reducible repeat' first
    | assumption | exact Keeps.refl _
    | (extract_lets +onlyGivenNames x; refine Keeps.cut (x := x) ?_ ?_; rotate_left; intro hx; clear_value x; rotate_right; subst x)
    | (extract_lets +onlyGivenNames x; clear_value x) | refine Keeps.ite ?_ ?_ | simp -zeta only [Keeps.upd_iff] | split
    | apply Keeps.comp (State.modPart_keeps ..) | apply Keeps.comp (State.clearLamp_keeps ..)
    | apply Keeps.comp (State.startTask_keeps ..)

theorem State.tileIns_keeps (s : State) (l : Nat) (q : PQ) (k : TileKind) (sb : Nat) (pd w : Fin 8) (loc : Fin 4096) : Keeps s (State.tileIns s l q k sb pd w loc) := by
  unfold State.tileIns
  with_reducible repeat' first
    | assumption | exact Keeps.refl _
    | (extract_lets +onlyGivenNames x; refine Keeps.cut (x := x) ?_ ?_; rotate_left; intro hx; clear_value x; rotate_right; subst x)
    | (extract_lets +onlyGivenNames x; clear_value x) | apply Keeps.comp (State.modLamp_keeps ..)
    | apply Keeps.comp (State.settle_keeps ..) | apply Keeps.comp (State.instr_keeps (hbody := ?_) ..) | (intro _; beta_reduce)

theorem execTload_keeps (l : Fin 64) (q : PQ) (pd w : Fin 8) (loc : Fin 4096) (s : State) : OutKeeps s (execTload l q pd w loc s) := by
  unfold execTload
  first | refine OutKeeps.onCore ?_ | refine OutKeeps.next ?_
  try beta_reduce
  with_reducible repeat' first
    | exact Keeps.refl _ | apply Keeps.comp (State.tileIns_keeps ..)

theorem execTstore_keeps (l : Fin 64) (q : PQ) (pd w : Fin 8) (loc : Fin 4096) (s : State) : OutKeeps s (execTstore l q pd w loc s) := by
  unfold execTstore
  first | refine OutKeeps.onCore ?_ | refine OutKeeps.next ?_
  try beta_reduce
  with_reducible repeat' first
    | exact Keeps.refl _ | apply Keeps.comp (State.tileIns_keeps ..)

theorem execMbx_keeps (l : Fin 64) (q : PQ) (pd w : Fin 8) (loc : Fin 4096) (s : State) : OutKeeps s (execMbx l q pd w loc s) := by
  unfold execMbx
  first | refine OutKeeps.onCore ?_ | refine OutKeeps.next ?_
  try beta_reduce
  with_reducible repeat' first
    | exact Keeps.refl _ | apply Keeps.comp (State.tileIns_keeps ..)

theorem execTrel_keeps (l : Fin 64) (q : PQ) (w : Fin 8) (s : State) : OutKeeps s (execTrel l q w s) := by
  unfold execTrel
  first | refine OutKeeps.onCore ?_ | refine OutKeeps.next ?_
  try beta_reduce
  with_reducible repeat' first
    | assumption | exact Keeps.refl _
    | (extract_lets +onlyGivenNames x; refine Keeps.cut (x := x) ?_ ?_; rotate_left; intro hx; clear_value x; rotate_right; subst x)
    | (extract_lets +onlyGivenNames x; clear_value x) | apply Keeps.comp (State.setWin_keeps ..)
    | apply Keeps.comp (State.plain_keeps (hbody := ?_) ..) | apply Keeps.comp (State.settleW_keeps ..) | (intro _; beta_reduce)

theorem execTileOpComplete_keeps (l : Fin 64) (s : State) : OutKeeps s (execTileOpComplete l s) := by
  unfold execTileOpComplete
  first | refine OutKeeps.onCore ?_ | refine OutKeeps.next ?_
  try beta_reduce
  with_reducible repeat' first
    | exact Keeps.refl _ | apply Keeps.comp (State.settle_keeps ..)

theorem execEndslot_keeps (l : Fin 64) (q : PQ) (s : State) : OutKeeps s (execEndslot l q s) := by
  unfold execEndslot
  first | refine OutKeeps.onCore ?_ | refine OutKeeps.next ?_
  try beta_reduce
  with_reducible repeat' first
    | assumption | exact Keeps.refl _
    | (extract_lets +onlyGivenNames x; refine Keeps.cut (x := x) ?_ ?_; rotate_left; intro hx; clear_value x; rotate_right; subst x)
    | apply Keeps.comp (State.modPart_keeps ..) | apply Keeps.comp (State.endTask_keeps ..) | apply Keeps.comp (State.settle_keeps ..)
    | apply Keeps.comp (State.instr_keeps (hbody := ?_) ..) | apply Keeps.comp (State.notLast_keeps (hf := ?_) ..)
    | (intro _; beta_reduce)

theorem execTrap_keeps (l : Fin 64) (q : PQ) (code : BitVec 8) (s : State) : OutKeeps s (execTrap l q code s) := by
  unfold execTrap
  first | refine OutKeeps.onCore ?_ | refine OutKeeps.next ?_
  try beta_reduce
  with_reducible repeat' first
    | assumption | exact Keeps.refl _
    | (extract_lets +onlyGivenNames x; refine Keeps.cut (x := x) ?_ ?_; rotate_left; intro hx; clear_value x; rotate_right; subst x)
    | apply Keeps.comp (State.raise_keeps ..) | apply Keeps.comp (State.endTask_keeps ..) | apply Keeps.comp (State.settle_keeps ..)
    | apply Keeps.comp (State.instr_keeps (hbody := ?_) ..) | (intro _; beta_reduce)

theorem execBelay_keeps (l : Fin 64) (q : PQ) (s : State) : OutKeeps s (execBelay l q s) := by
  unfold execBelay
  first | refine OutKeeps.onCore ?_ | refine OutKeeps.next ?_
  try beta_reduce
  with_reducible repeat' first
    | exact Keeps.refl _ | refine Keeps.ite ?_ ?_ | apply Keeps.comp (State.freezeTrigger_keeps ..)
    | apply Keeps.comp (State.instr_keeps (hbody := ?_) ..) | (intro _; beta_reduce)

theorem State.migrationEnd_keeps (s : State) : Keeps s (State.migrationEnd s) := by
  unfold State.migrationEnd
  with_reducible repeat' first
    | assumption | exact Keeps.refl _
    | (extract_lets +onlyGivenNames x; refine Keeps.cut (x := x) ?_ ?_; rotate_left; intro hx; clear_value x; rotate_right; subst x)
    | (extract_lets +onlyGivenNames x; clear_value x) | refine Keeps.ite ?_ ?_ | simp -zeta only [Keeps.upd_iff] | split
    | apply Keeps.comp (State.setFld_keeps ..) | apply Keeps.comp (State.setFlag_keeps ..) | apply Keeps.comp (State.event_keeps ..)

theorem execCodePageCopy_keeps (l : Fin 64) (page : Fin 16) (s : State) : OutKeeps s (execCodePageCopy l page s) := by
  unfold execCodePageCopy
  first | refine OutKeeps.onCore ?_ | refine OutKeeps.next ?_
  try beta_reduce
  with_reducible repeat' first
    | assumption | exact Keeps.refl _
    | (extract_lets +onlyGivenNames x; refine Keeps.cut (x := x) ?_ ?_; rotate_left; intro hx; clear_value x; rotate_right; subst x)
    | (extract_lets +onlyGivenNames x; clear_value x) | refine Keeps.ite ?_ ?_ | split | apply Keeps.comp (State.setFld_keeps ..)
    | apply Keeps.comp (State.setBytes_keeps ..) | apply Keeps.comp (State.modPart_keeps ..)
    | apply Keeps.comp (State.startRepair_keeps ..) | apply Keeps.comp (State.setPage_keeps ..)
    | apply Keeps.comp (State.migrationEnd_keeps ..)

theorem State.toStarting_keeps (s : State) (p : Nat) : Keeps s (State.toStarting s p) := by
  unfold State.toStarting
  with_reducible repeat' first
    | exact Keeps.refl _ | apply Keeps.comp (State.modPart_keeps ..) | apply Keeps.comp (State.setPstate_keeps ..)
    | apply Keeps.comp (State.ringsStart_keeps ..) | apply Keeps.comp (State.setPage_keeps ..) | refine Keeps.foldl ?_ ?_
    | (intro _; beta_reduce)

theorem State.cmdRefused_keeps (s : State) (p : Nat) : Keeps s (State.cmdRefused s p) := by
  unfold State.cmdRefused
  with_reducible repeat' first
    | exact Keeps.refl _ | apply Keeps.comp (State.event_keeps ..)

theorem State.partCmd_keeps (s : State) (p cmd : Nat) (owner : Bool) : Keeps s (State.partCmd s p cmd owner) := by
  unfold State.partCmd
  with_reducible repeat' first
    | exact Keeps.refl _ | (extract_lets +onlyGivenNames x; clear_value x) | refine Keeps.ite ?_ ?_ | split
    | apply Keeps.comp (State.modPart_keeps ..) | apply Keeps.comp (State.setPstate_keeps ..) | apply Keeps.comp (State.event_keeps ..)
    | apply Keeps.comp (State.askStop_keeps ..) | apply Keeps.comp (State.toStarting_keeps ..)
    | apply Keeps.comp (State.cmdRefused_keeps ..)

theorem execPartAllot_keeps (part : Fin 128) (owner : Bool) (s : State) : OutKeeps s (execPartAllot part owner s) := by
  unfold execPartAllot
  first | refine OutKeeps.onCore ?_ | refine OutKeeps.next ?_
  try beta_reduce
  with_reducible repeat' first
    | exact Keeps.refl _ | apply Keeps.comp (State.partCmd_keeps ..)

theorem execPartStart_keeps (part : Fin 128) (owner : Bool) (s : State) : OutKeeps s (execPartStart part owner s) := by
  unfold execPartStart
  first | refine OutKeeps.onCore ?_ | refine OutKeeps.next ?_
  try beta_reduce
  with_reducible repeat' first
    | exact Keeps.refl _ | apply Keeps.comp (State.partCmd_keeps ..)

theorem execPartStop_keeps (part : Fin 128) (owner : Bool) (s : State) : OutKeeps s (execPartStop part owner s) := by
  unfold execPartStop
  first | refine OutKeeps.onCore ?_ | refine OutKeeps.next ?_
  try beta_reduce
  with_reducible repeat' first
    | exact Keeps.refl _ | apply Keeps.comp (State.partCmd_keeps ..)

theorem execPartRestart_keeps (part : Fin 128) (owner : Bool) (s : State) : OutKeeps s (execPartRestart part owner s) := by
  unfold execPartRestart
  first | refine OutKeeps.onCore ?_ | refine OutKeeps.next ?_
  try beta_reduce
  with_reducible repeat' first
    | exact Keeps.refl _ | apply Keeps.comp (State.partCmd_keeps ..)

theorem execEndTenancy_keeps (part : Fin 128) (owner : Bool) (s : State) : OutKeeps s (execEndTenancy part owner s) := by
  unfold execEndTenancy
  first | refine OutKeeps.onCore ?_ | refine OutKeeps.next ?_
  try beta_reduce
  with_reducible repeat' first
    | exact Keeps.refl _ | apply Keeps.comp (State.partCmd_keeps ..)

theorem State.toRunning_keeps (s : State) (p : Nat) : Keeps s (State.toRunning s p) := by
  unfold State.toRunning
  with_reducible repeat' first
    | assumption | exact Keeps.refl _
    | (extract_lets +onlyGivenNames x; refine Keeps.cut (x := x) ?_ ?_; rotate_left; intro hx; clear_value x; rotate_right; subst x)
    | apply Keeps.comp (State.setFld_keeps ..) | apply Keeps.comp (State.modPart_keeps ..) | apply Keeps.comp (State.setPstate_keeps ..)

theorem execPartitionRunning_keeps (part : Fin 128) (s : State) : OutKeeps s (execPartitionRunning part s) := by
  unfold execPartitionRunning
  first | refine OutKeeps.onCore ?_ | refine OutKeeps.next ?_
  try beta_reduce
  with_reducible repeat' first
    | exact Keeps.refl _ | (extract_lets +onlyGivenNames x; clear_value x) | refine Keeps.ite ?_ ?_
    | apply Keeps.comp (State.toRunning_keeps ..)

theorem State.fire_keeps (s : State) (type idx : Nat) : Keeps s (State.fire s type idx) := by
  unfold State.fire
  with_reducible repeat' first
    | exact Keeps.refl _ | (extract_lets +onlyGivenNames x; clear_value x) | apply Keeps.comp (State.modPart_keeps ..)
    | refine Keeps.foldl ?_ ?_ | (intro _; beta_reduce)

theorem State.bindWrite_keeps (s : State) (a : Nat) (w : Word) : Keeps s (State.bindWrite s a w) := by
  unfold State.bindWrite
  with_reducible repeat' first
    | assumption | exact Keeps.refl _
    | (extract_lets +onlyGivenNames x; refine Keeps.cut (x := x) ?_ ?_; rotate_left; intro hx; clear_value x; rotate_right; subst x)
    | (extract_lets +onlyGivenNames x; clear_value x) | simp -zeta only [Keeps.upd_iff] | apply Keeps.comp (State.setReg_keeps ..)

theorem State.allotBusy_keeps (s : State) (p a : Nat) : Keeps s (State.allotBusy s p a) := by
  unfold State.allotBusy
  with_reducible repeat' first
    | exact Keeps.refl _ | apply Keeps.comp (State.event_keeps ..)

theorem State.evtRouteWrite_keeps (s : State) (n : Nat) (w : Word) : Keeps s (State.evtRouteWrite s n w) := by
  unfold State.evtRouteWrite
  with_reducible repeat' first
    | exact Keeps.refl _ | (extract_lets +onlyGivenNames x; clear_value x) | refine Keeps.ite ?_ ?_
    | apply Keeps.comp (State.event_keeps ..) | apply Keeps.comp (State.bindWrite_keeps ..) | apply Keeps.comp (State.allotBusy_keeps ..)

theorem execEvtRouteWrite_keeps (n : Fin 512) (w : Word) (s : State) : OutKeeps s (execEvtRouteWrite n w s) := by
  unfold execEvtRouteWrite
  first | refine OutKeeps.onCore ?_ | refine OutKeeps.next ?_
  try beta_reduce
  with_reducible repeat' first
    | exact Keeps.refl _ | apply Keeps.comp (State.evtRouteWrite_keeps ..)

theorem State.spareCountWrite_keeps (s : State) (v : Word) : Keeps s (State.spareCountWrite s v) := by
  unfold State.spareCountWrite
  with_reducible repeat' first
    | exact Keeps.refl _ | (extract_lets +onlyGivenNames x; clear_value x) | refine Keeps.ite ?_ ?_
    | apply Keeps.comp (State.setFld_keeps ..) | apply Keeps.comp (State.event_keeps ..)

theorem execSpareCountWrite_keeps (v : Word) (s : State) : OutKeeps s (execSpareCountWrite v s) := by
  unfold execSpareCountWrite
  first | refine OutKeeps.onCore ?_ | refine OutKeeps.next ?_
  try beta_reduce
  with_reducible repeat' first
    | exact Keeps.refl _ | apply Keeps.comp (State.spareCountWrite_keeps ..)

theorem State.spareStat_keeps (s : State) : Keeps s (State.spareStat s) := by
  unfold State.spareStat
  with_reducible repeat' first
    | exact Keeps.refl _ | (extract_lets +onlyGivenNames x; clear_value x) | apply Keeps.comp (State.setFld_keeps ..)
    | apply Keeps.comp (State.setFlag_keeps ..)

theorem State.applySpares_keeps (s : State) (c : Nat) : Keeps s (State.applySpares s c) := by
  unfold State.applySpares
  with_reducible repeat' first
    | assumption | exact Keeps.refl _
    | (extract_lets +onlyGivenNames x; refine Keeps.cut (x := x) ?_ ?_; rotate_left; intro hx; clear_value x; rotate_right; subst x)
    | (extract_lets +onlyGivenNames x; clear_value x) | refine Keeps.ite ?_ ?_ | simp -zeta only [Keeps.upd_iff]
    | apply Keeps.comp (State.setFld_keeps ..) | apply Keeps.comp (State.spareStat_keeps ..) | refine Keeps.foldl ?_ ?_
    | (intro _; beta_reduce)

theorem State.selftest_keeps (s : State) (pos : Nat) : Keeps s (State.selftest s pos) := by
  unfold State.selftest
  with_reducible repeat' first
    | exact Keeps.refl _ | (extract_lets +onlyGivenNames x; clear_value x) | simp -zeta only [Keeps.upd_iff]

theorem execSelftestStart_keeps (pos : Fin 64) (s : State) : OutKeeps s (execSelftestStart pos s) := by
  unfold execSelftestStart
  first | refine OutKeeps.onCore ?_ | refine OutKeeps.next ?_
  try beta_reduce
  with_reducible repeat' first
    | exact Keeps.refl _ | apply Keeps.comp (State.setFld_keeps ..) | apply Keeps.comp (State.selftest_keeps ..)

theorem State.askRetire_keeps (s : State) (pos : Nat) : Keeps s (State.askRetire s pos) := by
  unfold State.askRetire
  with_reducible repeat' first
    | exact Keeps.refl _ | (extract_lets +onlyGivenNames x; clear_value x) | simp -zeta only [Keeps.upd_iff]

theorem execSelftestPassDone_keeps (pos : Fin 64) (ok : Bool) (s : State) : OutKeeps s (execSelftestPassDone pos ok s) := by
  unfold execSelftestPassDone
  first | refine OutKeeps.onCore ?_ | refine OutKeeps.next ?_
  try beta_reduce
  with_reducible repeat' first
    | assumption | exact Keeps.refl _
    | (extract_lets +onlyGivenNames x; refine Keeps.cut (x := x) ?_ ?_; rotate_left; intro hx; clear_value x; rotate_right; subst x)
    | (extract_lets +onlyGivenNames x; clear_value x) | refine Keeps.ite ?_ ?_ | simp -zeta only [Keeps.upd_iff]
    | apply Keeps.comp (State.incFld_keeps ..) | apply Keeps.comp (State.event_keeps ..) | apply Keeps.comp (State.askRetire_keeps ..)

theorem State.retire_keeps (s : State) (pos : Nat) : Keeps s (State.retire s pos) := by
  unfold State.retire
  with_reducible repeat' first
    | assumption | exact Keeps.refl _
    | (extract_lets +onlyGivenNames x; refine Keeps.cut (x := x) ?_ ?_; rotate_left; intro hx; clear_value x; rotate_right; subst x)
    | (extract_lets +onlyGivenNames x; clear_value x) | refine Keeps.ite ?_ ?_ | simp -zeta only [Keeps.upd_iff]
    | apply Keeps.comp (State.setFld_keeps ..) | apply Keeps.comp (State.incFld_keeps ..) | apply Keeps.comp (State.askStop_keeps ..)
    | apply Keeps.comp (State.spareStat_keeps ..) | refine Keeps.foldl ?_ ?_ | (intro _; beta_reduce)

theorem execLampMigrationStart_keeps (pos : Fin 64) (s : State) : OutKeeps s (execLampMigrationStart pos s) := by
  unfold execLampMigrationStart
  first | refine OutKeeps.onCore ?_ | refine OutKeeps.next ?_
  try beta_reduce
  with_reducible repeat' first
    | assumption | exact Keeps.refl _
    | (extract_lets +onlyGivenNames x; refine Keeps.cut (x := x) ?_ ?_; rotate_left; intro hx; clear_value x; rotate_right; subst x)
    | (extract_lets +onlyGivenNames x; clear_value x) | refine Keeps.ite ?_ ?_ | simp -zeta only [Keeps.upd_iff] | split
    | apply Keeps.comp (State.setFld_keeps ..) | apply Keeps.comp (State.setFlag_keeps ..) | apply Keeps.comp (State.setPage_keeps ..)
    | apply Keeps.comp (State.migrationEnd_keeps ..) | apply Keeps.comp (State.spareStat_keeps ..) | refine Keeps.foldl ?_ ?_
    | (intro _; beta_reduce)

theorem State.forceSet_keeps (s : State) (p ident idx : Nat) (v : Word) : Keeps s (State.forceSet s p ident idx v) := by
  unfold State.forceSet
  with_reducible repeat' first
    | exact Keeps.refl _ | (extract_lets +onlyGivenNames x; clear_value x) | apply Keeps.comp (State.modPart_keeps ..)
    | apply Keeps.comp (State.eventQ_keeps ..)

theorem State.forceClear_keeps (s : State) (p ident idx : Nat) : Keeps s (State.forceClear s p ident idx) := by
  unfold State.forceClear
  with_reducible repeat' first
    | assumption | exact Keeps.refl _
    | (extract_lets +onlyGivenNames x; refine Keeps.cut (x := x) ?_ ?_; rotate_left; intro hx; clear_value x; rotate_right; subst x)
    | (extract_lets +onlyGivenNames x; clear_value x) | apply Keeps.comp (State.modPart_keeps ..)
    | apply Keeps.comp (State.eventQ_keeps ..) | refine Keeps.foldl ?_ ?_ | (intro _; beta_reduce)

theorem State.dropForces_keeps (s : State) (p : Nat) : Keeps s (State.dropForces s p) := by
  unfold State.dropForces
  with_reducible repeat' first
    | assumption | exact Keeps.refl _
    | (extract_lets +onlyGivenNames x; refine Keeps.cut (x := x) ?_ ?_; rotate_left; intro hx; clear_value x; rotate_right; subst x)
    | (extract_lets +onlyGivenNames x; clear_value x) | apply Keeps.comp (State.modPart_keeps ..)
    | apply Keeps.comp (State.eventQ_keeps ..) | refine Keeps.foldl ?_ ?_ | (intro _; beta_reduce)

theorem State.setClu_keeps (s : State) (j : Nat) (x : CluSlot) : Keeps s (State.setClu s j x) := by
  unfold State.setClu
  with_reducible repeat' first
    | exact Keeps.refl _ | simp -zeta only [Keeps.upd_iff]

theorem State.commitPart_keeps (s : State) (p : Nat) : Keeps s (State.commitPart s p) := by
  unfold State.commitPart
  with_reducible repeat' first
    | assumption | exact Keeps.refl _
    | (extract_lets +onlyGivenNames x; refine Keeps.cut (x := x) ?_ ?_; rotate_left; intro hx; clear_value x; rotate_right; subst x)
    | (extract_lets +onlyGivenNames x; clear_value x) | refine Keeps.ite ?_ ?_ | apply Keeps.comp (State.modPart_keeps ..)
    | apply Keeps.comp (State.event_keeps ..) | apply Keeps.comp (State.startRepair_keeps ..) | refine Keeps.foldl ?_ ?_
    | (intro _; beta_reduce)

theorem State.keepImage_keeps (s : State) (p loc : Nat) (t : ImgTile) : Keeps s (State.keepImage s p loc t) := by
  unfold State.keepImage
  with_reducible repeat' first
    | exact Keeps.refl _ | (extract_lets +onlyGivenNames x; clear_value x) | refine Keeps.ite ?_ ?_ | split
    | apply Keeps.comp (State.modPart_keeps ..)

theorem State.storeImage_keeps (s : State) (p : Nat) : Keeps s (State.storeImage s p) := by
  unfold State.storeImage
  with_reducible repeat' first
    | exact Keeps.refl _ | (extract_lets +onlyGivenNames x; clear_value x) | simp -zeta only [Keeps.upd_iff] | split

theorem State.installProgram_keeps (s : State) (p : Nat) (g : Program) : Keeps s (State.installProgram s p g) := by
  unfold State.installProgram
  with_reducible repeat' first
    | assumption | exact Keeps.refl _
    | (extract_lets +onlyGivenNames x; refine Keeps.cut (x := x) ?_ ?_; rotate_left; intro hx; clear_value x; rotate_right; subst x)
    | (extract_lets +onlyGivenNames x; clear_value x) | refine Keeps.ite ?_ ?_ | simp -zeta only [Keeps.upd_iff] | split
    | apply Keeps.comp (State.setFld_keeps ..) | apply Keeps.comp (State.modPart_keeps ..) | apply Keeps.comp (State.setPage_keeps ..)
    | apply Keeps.comp (State.keepImage_keeps ..) | apply Keeps.comp (State.storeImage_keeps ..) | refine Keeps.foldl ?_ ?_
    | (intro _; beta_reduce)

theorem State.send_keeps (s : State) (m : Msg) : Keeps s (State.send s m) := by
  unfold State.send
  with_reducible repeat' first
    | exact Keeps.refl _ | simp -zeta only [Keeps.upd_iff]

theorem State.setRing_keeps (s : State) (r : Nat) (x : RingSt) : Keeps s (State.setRing s r x) := by
  unfold State.setRing
  with_reducible repeat' first
    | exact Keeps.refl _ | (extract_lets +onlyGivenNames x; clear_value x) | simp -zeta only [Keeps.upd_iff]

theorem State.clearBuf_keeps (s : State) (b : Nat) : Keeps s (State.clearBuf s b) := by
  unfold State.clearBuf
  with_reducible repeat' first
    | exact Keeps.refl _ | (extract_lets +onlyGivenNames x; clear_value x) | simp -zeta only [Keeps.upd_iff]

theorem State.lose_keeps (s : State) (loc : Nat) : Keeps s (State.lose s loc) := by
  unfold State.lose
  with_reducible repeat' first
    | assumption | exact Keeps.refl _
    | (extract_lets +onlyGivenNames x; refine Keeps.cut (x := x) ?_ ?_; rotate_left; intro hx; clear_value x; rotate_right; subst x)
    | (extract_lets +onlyGivenNames x; clear_value x) | split | apply Keeps.comp (State.setFld_keeps ..)
    | apply Keeps.comp (State.incFld_keeps ..) | apply Keeps.comp (State.event_keeps ..) | apply Keeps.comp (State.askStop_keeps ..)
    | apply Keeps.comp (State.repairDone_keeps ..)

theorem State.loseAll_keeps (s : State) (loc : Nat) : Keeps s (State.loseAll s loc) := by
  unfold State.loseAll
  with_reducible repeat' first
    | assumption | exact Keeps.refl _
    | (extract_lets +onlyGivenNames x; refine Keeps.cut (x := x) ?_ ?_; rotate_left; intro hx; clear_value x; rotate_right; subst x)
    | (extract_lets +onlyGivenNames x; clear_value x) | refine Keeps.ite ?_ ?_ | simp -zeta only [Keeps.upd_iff]
    | apply Keeps.comp (State.lose_keeps ..)

theorem State.failSrc_keeps (s : State) (loc : Nat) (x : RepSrc) : Keeps s (State.failSrc s loc x) := by
  unfold State.failSrc
  with_reducible repeat' first
    | assumption | exact Keeps.refl _
    | (extract_lets +onlyGivenNames x; refine Keeps.cut (x := x) ?_ ?_; rotate_left; intro hx; clear_value x; rotate_right; subst x)
    | (extract_lets +onlyGivenNames x; clear_value x) | refine Keeps.ite ?_ ?_ | simp -zeta only [Keeps.upd_iff]
    | apply Keeps.comp (State.loseAll_keeps ..)

theorem State.repaired_keeps (s : State) (loc : Nat) : Keeps s (State.repaired s loc) := by
  unfold State.repaired
  with_reducible repeat' first
    | exact Keeps.refl _ | apply Keeps.comp (State.incFld_keeps ..) | apply Keeps.comp (State.repairDone_keeps ..)

theorem State.foundIntact_keeps (s : State) (loc : Nat) : Keeps s (State.foundIntact s loc) := by
  unfold State.foundIntact
  with_reducible repeat' first
    | assumption | exact Keeps.refl _
    | (extract_lets +onlyGivenNames x; refine Keeps.cut (x := x) ?_ ?_; rotate_left; intro hx; clear_value x; rotate_right; subst x)
    | (extract_lets +onlyGivenNames x; clear_value x) | refine Keeps.ite ?_ ?_ | simp -zeta only [Keeps.upd_iff] | split
    | apply Keeps.comp (State.askRetire_keeps ..) | refine Keeps.foldl ?_ ?_ | (intro _; beta_reduce)

theorem State.requestNext_keeps (s : State) (b : Nat) : Keeps s (State.requestNext s b) := by
  unfold State.requestNext
  with_reducible repeat' first
    | assumption | exact Keeps.refl _
    | (extract_lets +onlyGivenNames x; refine Keeps.cut (x := x) ?_ ?_; rotate_left; intro hx; clear_value x; rotate_right; subst x)
    | (extract_lets +onlyGivenNames x; clear_value x) | refine Keeps.ite ?_ ?_ | simp -zeta only [Keeps.upd_iff] | split
    | apply Keeps.comp (State.send_keeps ..)

theorem State.writeBuf_keeps (s : State) (b : Nat) (x : RepBuf) (c : List (Nat × Byte)) : Keeps s (State.writeBuf s b x c) := by
  unfold State.writeBuf
  with_reducible repeat' first
    | assumption | exact Keeps.refl _
    | (extract_lets +onlyGivenNames x; refine Keeps.cut (x := x) ?_ ?_; rotate_left; intro hx; clear_value x; rotate_right; subst x)
    | (extract_lets +onlyGivenNames x; clear_value x) | refine Keeps.ite ?_ ?_ | simp -zeta only [Keeps.upd_iff] | split
    | apply Keeps.comp (State.repairDone_keeps ..) | apply Keeps.comp (State.putTile_keeps ..)
    | apply Keeps.comp (State.sealWrite_keeps ..) | apply Keeps.comp (State.clearBuf_keeps ..) | apply Keeps.comp (State.failSrc_keeps ..)
    | apply Keeps.comp (State.repaired_keeps ..) | apply Keeps.comp (State.foundIntact_keeps ..)

theorem State.serveQ_keeps (s : State) (l : List Nat) : Keeps s (State.serveQ s l).1 := by
  induction l generalizing s with
  | nil => exact Keeps.refl _
  | cons loc rest ih =>
  unfold State.serveQ
  with_reducible repeat' first
    | assumption | exact Keeps.refl _
    | (extract_lets +onlyGivenNames x; refine Keeps.cut (x := x) ?_ ?_; rotate_left; intro hx; clear_value x; rotate_right; subst x)
    | (extract_lets +onlyGivenNames x; refine Keeps.cutF0 (f := x) ?_ ?_; rotate_left; intro hf0; clear_value x; rotate_right; subst x)
    | (extract_lets +onlyGivenNames x; clear_value x) | simp -zeta only [Keeps.upd_iff] | split | apply Keeps.comp (ih _)
    | apply Keeps.comp (State.setReg_keeps ..) | apply Keeps.comp (State.setBytes_keeps ..) | apply Keeps.comp (State.setBankQ_keeps ..)
    | apply Keeps.comp (State.startRepair_keeps ..) | apply Keeps.comp (State.repairDone_keeps ..)
    | apply Keeps.comp (State.sealWrite_keeps ..) | apply Keeps.comp (State.lose_keeps ..) | apply Keeps.comp (State.loseAll_keeps ..)
    | apply Keeps.comp (State.failSrc_keeps ..) | apply Keeps.comp (State.repaired_keeps ..)
    | apply Keeps.comp (State.foundIntact_keeps ..) | apply Keeps.comp (hf0 ..) | (intro _; beta_reduce)

theorem State.freeLoc_keeps (s : State) (loc : Nat) : Keeps s (State.freeLoc s loc) := by
  unfold State.freeLoc
  with_reducible repeat' first
    | assumption | exact Keeps.refl _
    | (extract_lets +onlyGivenNames x; refine Keeps.cut (x := x) ?_ ?_; rotate_left; intro hx; clear_value x; rotate_right; subst x)
    | (extract_lets +onlyGivenNames x; clear_value x) | refine Keeps.ite ?_ ?_ | apply Keeps.comp (State.setReg_keeps ..)
    | apply Keeps.comp (State.setBytes_keeps ..) | apply Keeps.comp (State.repairDone_keeps ..) | refine Keeps.foldl ?_ ?_
    | (intro _; beta_reduce)

theorem State.freeTileAt_keeps (s : State) (loc : Nat) : Keeps s (State.freeTileAt s loc) := by
  unfold State.freeTileAt
  with_reducible repeat' first
    | assumption | exact Keeps.refl _
    | (extract_lets +onlyGivenNames x; refine Keeps.cut (x := x) ?_ ?_; rotate_left; intro hx; clear_value x; rotate_right; subst x)
    | (extract_lets +onlyGivenNames x; clear_value x) | refine Keeps.ite ?_ ?_ | apply Keeps.comp (State.setFld_keeps ..)
    | apply Keeps.comp (State.freeLoc_keeps ..)

theorem State.writeNew_keeps (s : State) (loc : Nat) (ctl ident : Word) (payload : List Byte) : Keeps s (State.writeNew s loc ctl ident payload) := by
  unfold State.writeNew
  with_reducible repeat' first
    | assumption | exact Keeps.refl _
    | (extract_lets +onlyGivenNames x; refine Keeps.cut (x := x) ?_ ?_; rotate_left; intro hx; clear_value x; rotate_right; subst x)
    | (extract_lets +onlyGivenNames x; refine Keeps.cutF3 (f := x) ?_ ?_; rotate_left; intro hf3; clear_value x; rotate_right; subst x)
    | (extract_lets +onlyGivenNames x; clear_value x) | refine Keeps.ite ?_ ?_ | simp -zeta only [Keeps.upd_iff] | split
    | apply Keeps.comp (State.setReg_keeps ..) | apply Keeps.comp (State.setFld_keeps ..) | apply Keeps.comp (State.setBytes_keeps ..)
    | apply Keeps.comp (hf3 ..) | (intro _; beta_reduce)

theorem State.allocDone_keeps (s : State) (r : Nat) : Keeps s (State.allocDone s r) := by
  unfold State.allocDone
  with_reducible repeat' first
    | exact Keeps.refl _ | apply Keeps.comp (State.setFld_keeps ..)

theorem State.runStep_keeps (s : State) (b : Nat) : Keeps s (State.runStep s b) := by
  unfold State.runStep
  with_reducible repeat' first
    | assumption | exact Keeps.refl _
    | (extract_lets +onlyGivenNames x; refine Keeps.cut (x := x) ?_ ?_; rotate_left; intro hx; clear_value x; rotate_right; subst x)
    | (extract_lets +onlyGivenNames x; clear_value x) | refine Keeps.ite ?_ ?_ | split | apply Keeps.comp (State.setSteps_keeps ..)
    | apply Keeps.comp (State.send_keeps ..) | apply Keeps.comp (State.freeTileAt_keeps ..) | apply Keeps.comp (State.writeNew_keeps ..)
    | apply Keeps.comp (State.allocDone_keeps ..)

theorem execBankStep_keeps (b : Fin 64) (s : State) : OutKeeps s (execBankStep b s) := by
  unfold execBankStep
  first | refine OutKeeps.onCore ?_ | refine OutKeeps.next ?_
  try beta_reduce
  with_reducible repeat' first
    | assumption | exact Keeps.refl _
    | (extract_lets +onlyGivenNames x; refine Keeps.cut (x := x) ?_ ?_; rotate_left; intro hx; clear_value x; rotate_right; subst x)
    | (extract_lets +onlyGivenNames x; refine Keeps.cut (x := x.1) ?_ ?_; rotate_left; intro hx; clear_value x; rotate_right; subst x)
    | refine Keeps.ite ?_ ?_ | split | apply Keeps.comp (State.requestNext_keeps ..) | apply Keeps.comp (State.writeBuf_keeps ..)
    | apply Keeps.comp (State.runStep_keeps ..) | apply Keeps.comp (State.serveQ_keeps ..)

theorem State.deliver_keeps (s : State) (b : Nat) (tile : List (Nat × Byte)) : Keeps s (State.deliver s b tile) := by
  unfold State.deliver
  with_reducible repeat' first
    | exact Keeps.refl _ | (extract_lets +onlyGivenNames x; clear_value x) | simp -zeta only [Keeps.upd_iff] | split

theorem execRepairSourceDelivered_keeps (b : Fin 64) (tile : List (Nat × Byte)) (s : State) : OutKeeps s (execRepairSourceDelivered b tile s) := by
  unfold execRepairSourceDelivered
  first | refine OutKeeps.onCore ?_ | refine OutKeeps.next ?_
  try beta_reduce
  with_reducible repeat' first
    | exact Keeps.refl _ | apply Keeps.comp (State.requestNext_keeps ..) | apply Keeps.comp (State.deliver_keeps ..)

theorem execRepairSourceTimeout_keeps (b : Fin 64) (s : State) : OutKeeps s (execRepairSourceTimeout b s) := by
  unfold execRepairSourceTimeout
  first | refine OutKeeps.onCore ?_ | refine OutKeeps.next ?_
  try beta_reduce
  with_reducible repeat' first
    | exact Keeps.refl _ | refine Keeps.ite ?_ ?_ | split | apply Keeps.comp (State.clearBuf_keeps ..)
    | apply Keeps.comp (State.failSrc_keeps ..) | apply Keeps.comp (State.requestNext_keeps ..)

theorem State.scrubLoc_keeps (s : State) (loc : Nat) : Keeps s (State.scrubLoc s loc) := by
  unfold State.scrubLoc
  with_reducible repeat' first
    | assumption | exact Keeps.refl _
    | (extract_lets +onlyGivenNames x; refine Keeps.cut (x := x) ?_ ?_; rotate_left; intro hx; clear_value x; rotate_right; subst x)
    | (extract_lets +onlyGivenNames x; clear_value x) | refine Keeps.ite ?_ ?_ | apply Keeps.comp (State.setFld_keeps ..)
    | apply Keeps.comp (State.incFld_keeps ..) | apply Keeps.comp (State.setBytes_keeps ..) | apply Keeps.comp (State.event_keeps ..)
    | apply Keeps.comp (State.startRepair_keeps ..) | apply Keeps.comp (State.requestNext_keeps ..)

theorem execScrub_keeps (s : State) : OutKeeps s (execScrub s) := by
  unfold execScrub
  first | refine OutKeeps.onCore ?_ | refine OutKeeps.next ?_
  try beta_reduce
  with_reducible repeat' first
    | assumption | exact Keeps.refl _
    | (extract_lets +onlyGivenNames x; refine Keeps.cut (x := x) ?_ ?_; rotate_left; intro hx; clear_value x; rotate_right; subst x)
    | (extract_lets +onlyGivenNames x; clear_value x) | refine Keeps.ite ?_ ?_ | apply Keeps.comp (State.setFld_keeps ..)
    | apply Keeps.comp (State.incFld_keeps ..) | apply Keeps.comp (State.scrubLoc_keeps ..) | refine Keeps.foldl ?_ ?_
    | (intro _; beta_reduce)

theorem State.allocCmd_keeps (s : State) (c : StepCmd) (loc : Nat) : Keeps s (State.allocCmd s c loc) := by
  unfold State.allocCmd
  with_reducible repeat' first
    | exact Keeps.refl _ | refine Keeps.ite ?_ ?_ | apply Keeps.comp (State.setSteps_keeps ..)
    | apply Keeps.comp (State.allocDone_keeps ..)

theorem execTsAlloc_keeps (loc : Fin 4096) (link : Fin 64) (s : State) : OutKeeps s (execTsAlloc loc link s) := by
  unfold execTsAlloc
  first | refine OutKeeps.onCore ?_ | refine OutKeeps.next ?_
  try beta_reduce
  with_reducible repeat' first
    | exact Keeps.refl _ | apply Keeps.comp (State.allocCmd_keeps ..)

theorem execTsFree_keeps (loc : Fin 4096) (s : State) : OutKeeps s (execTsFree loc s) := by
  unfold execTsFree
  first | refine OutKeeps.onCore ?_ | refine OutKeeps.next ?_
  try beta_reduce
  with_reducible repeat' first
    | exact Keeps.refl _ | apply Keeps.comp (State.allocCmd_keeps ..)

theorem State.mbxBind_keeps (s : State) (m : Nat) (w : Word) : Keeps s (State.mbxBind s m w) := by
  unfold State.mbxBind
  with_reducible repeat' first
    | exact Keeps.refl _ | (extract_lets +onlyGivenNames x; clear_value x) | refine Keeps.ite ?_ ?_ | split
    | apply Keeps.comp (State.event_keeps ..) | apply Keeps.comp (State.bindWrite_keeps ..) | apply Keeps.comp (State.allotBusy_keeps ..)

theorem execMbxBind_keeps (m : Fin 512) (w : Word) (s : State) : OutKeeps s (execMbxBind m w s) := by
  unfold execMbxBind
  first | refine OutKeeps.onCore ?_ | refine OutKeeps.next ?_
  try beta_reduce
  with_reducible repeat' first
    | exact Keeps.refl _ | apply Keeps.comp (State.mbxBind_keeps ..)

theorem State.setXstate_keeps (s : State) (p v : Nat) : Keeps s (State.setXstate s p v) := by
  unfold State.setXstate
  with_reducible repeat' first
    | exact Keeps.refl _ | apply Keeps.comp (State.setFld_keeps ..)

theorem State.swapResult_keeps (s : State) (err tab idx : Nat) : Keeps s (State.swapResult s err tab idx) := by
  unfold State.swapResult
  with_reducible repeat' first
    | exact Keeps.refl _ | apply Keeps.comp (State.setFld_keeps ..)

theorem State.swapRequest_keeps (s : State) (multi : Bool) : Keeps s (State.swapRequest s multi) := by
  unfold State.swapRequest
  with_reducible repeat' first
    | assumption | exact Keeps.refl _
    | (extract_lets +onlyGivenNames x; refine Keeps.cut (x := x) ?_ ?_; rotate_left; intro hx; clear_value x; rotate_right; subst x)
    | (extract_lets +onlyGivenNames x; clear_value x) | refine Keeps.ite ?_ ?_ | simp -zeta only [Keeps.upd_iff]
    | apply Keeps.comp (State.setFlag_keeps ..) | apply Keeps.comp (State.event_keeps ..)

theorem State.unride_keeps (s : State) : Keeps s (State.unride s) := by
  unfold State.unride
  with_reducible repeat' first
    | exact Keeps.refl _ | apply Keeps.comp (State.setXstate_keeps ..) | refine Keeps.foldl ?_ ?_ | (intro _; beta_reduce)

theorem State.swapEnd_keeps (s : State) (err tab idx : Nat) : Keeps s (State.swapEnd s err tab idx) := by
  unfold State.swapEnd
  with_reducible repeat' first
    | exact Keeps.refl _ | apply Keeps.comp (State.setFlag_keeps ..) | apply Keeps.comp (State.swapResult_keeps ..)
    | apply Keeps.comp (State.unride_keeps ..)

theorem State.swapCancel_keeps (s : State) : Keeps s (State.swapCancel s) := by
  unfold State.swapCancel
  with_reducible repeat' first
    | exact Keeps.refl _ | refine Keeps.ite ?_ ?_ | apply Keeps.comp (State.swapEnd_keeps ..)

theorem execSwap_keeps (s : State) : OutKeeps s (execSwap s) := by
  unfold execSwap
  first | refine OutKeeps.onCore ?_ | refine OutKeeps.next ?_
  try beta_reduce
  with_reducible repeat' first
    | exact Keeps.refl _ | apply Keeps.comp (State.swapRequest_keeps ..)

theorem execCancel_keeps (s : State) : OutKeeps s (execCancel s) := by
  unfold execCancel
  first | refine OutKeeps.onCore ?_ | refine OutKeeps.next ?_
  try beta_reduce
  with_reducible repeat' first
    | exact Keeps.refl _ | apply Keeps.comp (State.swapCancel_keeps ..)

theorem State.rewrite_keeps (s : State) (b : Bool) : Keeps s (State.rewrite s b) := by
  unfold State.rewrite
  with_reducible repeat' first
    | exact Keeps.refl _ | refine Keeps.ite ?_ ?_ | split | apply Keeps.comp (State.setFld_keeps ..) | refine Keeps.foldl ?_ ?_
    | (intro _; beta_reduce)

theorem State.xbarStat_keeps (s : State) (g : Option (Nat × Nat)) : Keeps s (State.xbarStat s g) := by
  unfold State.xbarStat
  with_reducible repeat' first
    | exact Keeps.refl _ | split | apply Keeps.comp (State.setReg_keeps ..)

theorem State.swapCheck_keeps (s : State) : Keeps s (State.swapCheck s) := by
  unfold State.swapCheck
  with_reducible repeat' first
    | assumption | exact Keeps.refl _
    | (extract_lets +onlyGivenNames x; refine Keeps.cut (x := x) ?_ ?_; rotate_left; intro hx; clear_value x; rotate_right; subst x)
    | (extract_lets +onlyGivenNames x; clear_value x) | simp -zeta only [Keeps.upd_iff] | split
    | apply Keeps.comp (State.setFlag_keeps ..) | apply Keeps.comp (State.event_keeps ..) | apply Keeps.comp (State.setXstate_keeps ..)
    | apply Keeps.comp (State.swapResult_keeps ..) | apply Keeps.comp (State.swapEnd_keeps ..) | apply Keeps.comp (State.rewrite_keeps ..)
    | apply Keeps.comp (State.xbarStat_keeps ..) | refine Keeps.foldl ?_ ?_ | (intro _; beta_reduce)

theorem execSwapCheck_keeps (s : State) : OutKeeps s (execSwapCheck s) := by
  unfold execSwapCheck
  first | refine OutKeeps.onCore ?_ | refine OutKeeps.next ?_
  try beta_reduce
  with_reducible repeat' first
    | exact Keeps.refl _ | refine Keeps.ite ?_ ?_ | apply Keeps.comp (State.swapCheck_keeps ..)

theorem State.setXres_keeps (s : State) (p v : Nat) : Keeps s (State.setXres s p v) := by
  unfold State.setXres
  with_reducible repeat' first
    | exact Keeps.refl _ | apply Keeps.comp (State.setFld_keeps ..)

theorem State.dropXfer_keeps (s : State) (p : Nat) : Keeps s (State.dropXfer s p) := by
  unfold State.dropXfer
  with_reducible repeat' first
    | assumption | exact Keeps.refl _
    | (extract_lets +onlyGivenNames x; refine Keeps.cut (x := x) ?_ ?_; rotate_left; intro hx; clear_value x; rotate_right; subst x)
    | (extract_lets +onlyGivenNames x; clear_value x) | split | apply Keeps.comp (State.modPart_keeps ..)
    | apply Keeps.comp (State.setSteps_keeps ..) | refine Keeps.foldl ?_ ?_ | (intro _; beta_reduce)

theorem State.allotTiles_keeps (s : State) (f : ImgTile → Option Nat) (l : List ImgTile) (used : List Nat) (st : State) :
    Keeps st (s.allotTiles f l used st).2 := by
  induction l generalizing used st with
  | nil => exact Keeps.refl _
  | cons t rest ih =>
    simp only [State.allotTiles]
    refine Keeps.trans ?_ (ih _ _)
    unfold State.allotOne
    split
    · exact Keeps.refl _
    · dsimp only
      split
      · exact Keeps.refl _
      · exact (State.draw_keeps st).trans (State.draw_keeps _)

theorem State.placeNew_keeps (s : State) (p : Nat) (i : Image) (spots : List (Option (Nat × Nat))) (news : List Nat) :
    Keeps s (s.placeNew p i spots news) := by
  unfold State.placeNew
  refine Keeps.foldl (Keeps.refl _) ?_
  intro u k
  beta_reduce
  split
  · exact State.setSteps_keeps ..
  · exact Keeps.refl _

theorem State.xchgStage_keeps (s : State) (p : Nat) (reply : Option (Nat × Nat)) : Keeps s (State.xchgStage s p reply).2 := by
  unfold State.xchgStage
  with_reducible repeat' first
    | assumption | exact Keeps.refl _
    | (extract_lets +onlyGivenNames x; refine Keeps.cut (x := x) ?_ ?_; rotate_left; intro hx; clear_value x; rotate_right; subst x)
    | (extract_lets +onlyGivenNames x; refine Keeps.cut (x := x.2) ?_ ?_; rotate_left; intro hx; clear_value x; rotate_right; subst x)
    | (extract_lets +onlyGivenNames x; clear_value x) | simp -zeta only [Keeps.upd_iff] | split | apply Keeps.comp (State.setFld_keeps ..)
    | apply Keeps.comp (State.modPart_keeps ..) | apply Keeps.comp (State.setPage_keeps ..) | apply Keeps.comp (State.setXstate_keeps ..)
    | apply Keeps.comp (State.setXres_keeps ..) | apply Keeps.comp (State.dropXfer_keeps ..) | apply Keeps.comp (State.placeNew_keeps ..)
    | apply Keeps.comp (State.allotTiles_keeps ..) | refine Keeps.foldl ?_ ?_ | (intro _; beta_reduce)

theorem State.xchgDrop_keeps (s : State) (p res : Nat) : Keeps s (State.xchgDrop s p res) := by
  unfold State.xchgDrop
  with_reducible repeat' first
    | assumption | exact Keeps.refl _
    | (extract_lets +onlyGivenNames x; refine Keeps.cut (x := x) ?_ ?_; rotate_left; intro hx; clear_value x; rotate_right; subst x)
    | (extract_lets +onlyGivenNames x; clear_value x) | split | apply Keeps.comp (State.setFld_keeps ..)
    | apply Keeps.comp (State.modPart_keeps ..) | apply Keeps.comp (State.setSteps_keeps ..) | apply Keeps.comp (State.setPage_keeps ..)
    | apply Keeps.comp (State.send_keeps ..) | apply Keeps.comp (State.setXstate_keeps ..) | apply Keeps.comp (State.setXres_keeps ..)
    | refine Keeps.foldl ?_ ?_ | (intro _; beta_reduce)

theorem execXchgStaged_keeps (part : Fin 128) (s : State) : OutKeeps s (execXchgStaged part s) := by
  unfold execXchgStaged
  first | refine OutKeeps.onCore ?_ | refine OutKeeps.next ?_
  try beta_reduce
  with_reducible repeat' first
    | assumption | exact Keeps.refl _
    | (extract_lets +onlyGivenNames x; refine Keeps.cut (x := x) ?_ ?_; rotate_left; intro hx; clear_value x; rotate_right; subst x)
    | (extract_lets +onlyGivenNames x; clear_value x) | refine Keeps.ite ?_ ?_ | split | apply Keeps.comp (State.modPart_keeps ..)
    | apply Keeps.comp (State.send_keeps ..) | apply Keeps.comp (State.setXstate_keeps ..)

theorem execXchgTimeout_keeps (part : Fin 128) (s : State) : OutKeeps s (execXchgTimeout part s) := by
  unfold execXchgTimeout
  first | refine OutKeeps.onCore ?_ | refine OutKeeps.next ?_
  try beta_reduce
  with_reducible repeat' first
    | exact Keeps.refl _ | refine Keeps.ite ?_ ?_ | split | apply Keeps.comp (State.xchgDrop_keeps ..)

theorem State.logInsts_keeps (s : State) (p : Nat) (g h : Program) : Keeps s (State.logInsts s p g h) := by
  unfold State.logInsts
  with_reducible repeat' first
    | assumption | exact Keeps.refl _
    | (extract_lets +onlyGivenNames x; refine Keeps.cut (x := x) ?_ ?_; rotate_left; intro hx; clear_value x; rotate_right; subst x)
    | apply Keeps.comp (State.eventQ_keeps ..) | refine Keeps.foldl ?_ ?_ | (intro _; beta_reduce)

theorem State.exchange_keeps (s : State) (p : Nat) : Keeps s (State.exchange s p) := by
  unfold State.exchange
  with_reducible repeat' first
    | assumption | exact Keeps.refl _
    | (extract_lets +onlyGivenNames x; refine Keeps.cut (x := x) ?_ ?_; rotate_left; intro hx; clear_value x; rotate_right; subst x)
    | (extract_lets +onlyGivenNames x; clear_value x) | simp -zeta only [Keeps.upd_iff] | split | apply Keeps.comp (State.setReg_keeps ..)
    | apply Keeps.comp (State.incFld_keeps ..) | apply Keeps.comp (State.modPart_keeps ..) | apply Keeps.comp (State.setPage_keeps ..)
    | apply Keeps.comp (State.dropForces_keeps ..) | apply Keeps.comp (State.installProgram_keeps ..)
    | apply Keeps.comp (State.setXstate_keeps ..) | apply Keeps.comp (State.setXres_keeps ..) | apply Keeps.comp (State.logInsts_keeps ..)
    | refine Keeps.foldl ?_ ?_ | (intro _; beta_reduce)

theorem State.swapActivate_keeps (s : State) : Keeps s (State.swapActivate s) := by
  unfold State.swapActivate
  with_reducible repeat' first
    | assumption | exact Keeps.refl _
    | (extract_lets +onlyGivenNames x; refine Keeps.cut (x := x) ?_ ?_; rotate_left; intro hx; clear_value x; rotate_right; subst x)
    | refine Keeps.ite ?_ ?_ | apply Keeps.comp (State.setFlag_keeps ..) | apply Keeps.comp (State.applySpares_keeps ..)
    | apply Keeps.comp (State.exchange_keeps ..) | refine Keeps.foldl ?_ ?_ | (intro _; beta_reduce)

end Sys2Proof.Machine
end

