-- ==== Sys2Proof/Laws/KeepsFrames.lean ====
section
/-!
SUPPORT. Every operation of loops, streams, network time, the switch and the CAN channels leaves the queue as it is and keeps the canonical form of the stores.
-/
namespace Sys2Proof.Machine

theorem State.loopwr_keeps (s : State) (j n : Nat) (v : Word) : Keeps s (State.loopwr s j n v) := by
  unfold State.loopwr
  with_reducible repeat' first
    | exact Keeps.refl _ | (extract_lets +onlyGivenNames x; clear_value x) | refine Keeps.ite ?_ ?_
    | apply Keeps.comp (State.setClu_keeps ..)

theorem State.bindLoops_keeps (s : State) (p : Nat) : Keeps s (State.bindLoops s p) := by
  unfold State.bindLoops
  with_reducible repeat' first
    | assumption | exact Keeps.refl _
    | (extract_lets +onlyGivenNames x; refine Keeps.cut (x := x) ?_ ?_; rotate_left; intro hx; clear_value x; rotate_right; subst x)
    | (extract_lets +onlyGivenNames x; clear_value x) | refine Keeps.ite ?_ ?_ | simp -zeta only [Keeps.upd_iff] | split
    | apply Keeps.comp (State.setFld_keeps ..) | apply Keeps.comp (State.setClu_keeps ..) | refine Keeps.foldl ?_ ?_
    | (intro _; beta_reduce)

theorem State.loadLoop_keeps (s : State) (j : Nat) : Keeps s (State.loadLoop s j) := by
  unfold State.loadLoop
  with_reducible repeat' first
    | assumption | exact Keeps.refl _
    | (extract_lets +onlyGivenNames x; refine Keeps.cut (x := x) ?_ ?_; rotate_left; intro hx; clear_value x; rotate_right; subst x)
    | (extract_lets +onlyGivenNames x; clear_value x) | refine Keeps.ite ?_ ?_ | split | apply Keeps.comp (State.setFld_keeps ..)
    | apply Keeps.comp (State.startRepair_keeps ..) | apply Keeps.comp (State.setClu_keeps ..)

theorem State.landLoop_keeps (s : State) (j : Nat) : Keeps s (State.landLoop s j) := by
  unfold State.landLoop
  with_reducible repeat' first
    | assumption | exact Keeps.refl _
    | (extract_lets +onlyGivenNames x; refine Keeps.cut (x := x) ?_ ?_; rotate_left; intro hx; clear_value x; rotate_right; subst x)
    | (extract_lets +onlyGivenNames x; clear_value x) | refine Keeps.ite ?_ ?_ | apply Keeps.comp (State.setFld_keeps ..)
    | apply Keeps.comp (State.setClu_keeps ..) | apply Keeps.comp (State.loadLoop_keeps ..)

theorem State.writeLoopTile_keeps (s : State) (loc : Nat) : Keeps s (State.writeLoopTile s loc) := by
  unfold State.writeLoopTile
  with_reducible repeat' first
    | exact Keeps.refl _ | (extract_lets +onlyGivenNames x; clear_value x) | apply Keeps.comp (State.storeTile_keeps ..)
    | apply Keeps.comp (State.noteStore_keeps ..)

theorem State.writeLoops_keeps (s : State) : Keeps s (State.writeLoops s) := by
  unfold State.writeLoops
  with_reducible repeat' first
    | assumption | exact Keeps.refl _
    | (extract_lets +onlyGivenNames x; refine Keeps.cut (x := x) ?_ ?_; rotate_left; intro hx; clear_value x; rotate_right; subst x)
    | (extract_lets +onlyGivenNames x; clear_value x) | apply Keeps.comp (State.setClu_keeps ..)
    | apply Keeps.comp (State.writeLoopTile_keeps ..) | refine Keeps.foldl ?_ ?_ | (intro _; beta_reduce)

theorem execCluStateFault_keeps (j : Fin 256) (s : State) : OutKeeps s (execCluStateFault j s) := by
  unfold execCluStateFault
  first | refine OutKeeps.onCore ?_ | refine OutKeeps.next ?_
  try beta_reduce
  with_reducible repeat' first
    | exact Keeps.refl _ | refine Keeps.ite ?_ ?_ | apply Keeps.comp (State.setFld_keeps ..) | apply Keeps.comp (State.incFld_keeps ..)

theorem State.cluFinish_keeps (s : State) (j : Nat) (c : CluPart) (l : Limited) (sel hold : Bool) : Keeps s (State.cluFinish s j c l sel hold) := by
  unfold State.cluFinish
  with_reducible repeat' first
    | assumption | exact Keeps.refl _
    | (extract_lets +onlyGivenNames x; refine Keeps.cut (x := x) ?_ ?_; rotate_left; intro hx; clear_value x; rotate_right; subst x)
    | (extract_lets +onlyGivenNames x; clear_value x) | refine Keeps.ite ?_ ?_ | split | apply Keeps.comp (State.fire_keeps ..)
    | apply Keeps.comp (State.setClu_keeps ..)

theorem State.cluAlone_keeps (s : State) (j : Nat) (c : CluPart) : Keeps s (State.cluAlone s j c) := by
  unfold State.cluAlone
  with_reducible repeat' first
    | exact Keeps.refl _ | (extract_lets +onlyGivenNames x; clear_value x) | apply Keeps.comp (State.cluFinish_keeps ..)

theorem State.cluPair_keeps (s : State) (j : Nat) (a b : CluPart) : Keeps s (State.cluPair s j a b) := by
  unfold State.cluPair
  with_reducible repeat' first
    | assumption | exact Keeps.refl _
    | (extract_lets +onlyGivenNames x; refine Keeps.cut (x := x) ?_ ?_; rotate_left; intro hx; clear_value x; rotate_right; subst x)
    | (extract_lets +onlyGivenNames x; clear_value x) | split | apply Keeps.comp (State.cluFinish_keeps ..)

theorem State.cluCompute_keeps (s : State) (j : Nat) : Keeps s (State.cluCompute s j) := by
  unfold State.cluCompute
  with_reducible repeat' first
    | exact Keeps.refl _ | (extract_lets +onlyGivenNames x; clear_value x) | refine Keeps.ite ?_ ?_ | split
    | apply Keeps.comp (State.setClu_keeps ..) | apply Keeps.comp (State.cluFinish_keeps ..) | apply Keeps.comp (State.cluAlone_keeps ..)
    | apply Keeps.comp (State.cluPair_keeps ..)

theorem execCluCompute_keeps (j : Fin 256) (s : State) : OutKeeps s (execCluCompute j s) := by
  unfold execCluCompute
  first | refine OutKeeps.onCore ?_ | refine OutKeeps.next ?_
  try beta_reduce
  with_reducible repeat' first
    | exact Keeps.refl _ | apply Keeps.comp (State.cluCompute_keeps ..)

theorem execLooprd_keeps (l : Fin 64) (q : PQ) (rd ra : Fin 32) (fn : BitVec 7) (s : State) : OutKeeps s (execLooprd l q rd ra fn s) := by
  unfold execLooprd
  first | refine OutKeeps.onCore ?_ | refine OutKeeps.next ?_
  try beta_reduce
  with_reducible repeat' first
    | exact Keeps.refl _ | (extract_lets +onlyGivenNames x; clear_value x) | refine Keeps.ite ?_ ?_
    | apply Keeps.comp (State.setG_keeps ..) | apply Keeps.comp (State.raise_keeps ..)
    | apply Keeps.comp (State.instr_keeps (hbody := ?_) ..) | (intro _; beta_reduce)

theorem execLoopwr_keeps (l : Fin 64) (q : PQ) (ra rb : Fin 32) (fn : BitVec 7) (s : State) : OutKeeps s (execLoopwr l q ra rb fn s) := by
  unfold execLoopwr
  first | refine OutKeeps.onCore ?_ | refine OutKeeps.next ?_
  try beta_reduce
  with_reducible repeat' first
    | exact Keeps.refl _ | (extract_lets +onlyGivenNames x; clear_value x) | refine Keeps.ite ?_ ?_
    | apply Keeps.comp (State.modPart_keeps ..) | apply Keeps.comp (State.raise_keeps ..)
    | apply Keeps.comp (State.instr_keeps (hbody := ?_) ..) | (intro _; beta_reduce)

theorem State.setStream_keeps (s : State) (n : Nat) (x : SvStream) : Keeps s (State.setStream s n x) := by
  unfold State.setStream
  with_reducible repeat' first
    | exact Keeps.refl _ | simp -zeta only [Keeps.upd_iff]

theorem State.bindStreams_keeps (s : State) (p : Nat) : Keeps s (State.bindStreams s p) := by
  unfold State.bindStreams
  with_reducible repeat' first
    | assumption | exact Keeps.refl _
    | (extract_lets +onlyGivenNames x; refine Keeps.cut (x := x) ?_ ?_; rotate_left; intro hx; clear_value x; rotate_right; subst x)
    | (extract_lets +onlyGivenNames x; clear_value x) | refine Keeps.ite ?_ ?_ | simp -zeta only [Keeps.upd_iff] | split
    | apply Keeps.comp (State.setReg_keeps ..) | apply Keeps.comp (State.setFld_keeps ..) | apply Keeps.comp (State.setStream_keeps ..)
    | refine Keeps.foldl ?_ ?_ | (intro _; beta_reduce)

theorem State.svCount_keeps (s : State) (a : Nat) (f : Fld) : Keeps s (State.svCount s a f) := by
  unfold State.svCount
  with_reducible repeat' first
    | exact Keeps.refl _ | apply Keeps.comp (State.incFld_keeps ..)

theorem State.svAsdu_keeps (s : State) (n : Nat) (sim : Bool) (x : SvAsdu) : Keeps s (State.svAsdu s n sim x) := by
  unfold State.svAsdu
  with_reducible repeat' first
    | exact Keeps.refl _ | (extract_lets +onlyGivenNames x; clear_value x) | refine Keeps.ite ?_ ?_
    | apply Keeps.comp (State.setStream_keeps ..) | apply Keeps.comp (State.svCount_keeps ..)

theorem State.svFrame_keeps (s : State) (n : Nat) (sim : Bool) (xs : List SvAsdu) : Keeps s (State.svFrame s n sim xs) := by
  unfold State.svFrame
  with_reducible repeat' first
    | exact Keeps.refl _ | refine Keeps.ite ?_ ?_ | apply Keeps.comp (State.svCount_keeps ..) | apply Keeps.comp (State.svAsdu_keeps ..)
    | refine Keeps.foldl ?_ ?_ | (intro _; beta_reduce)

theorem State.svAlign_keeps (s : State) (n : Nat) : Keeps s (State.svAlign s n) := by
  unfold State.svAlign
  with_reducible repeat' first
    | assumption | exact Keeps.refl _
    | (extract_lets +onlyGivenNames x; refine Keeps.cut (x := x) ?_ ?_; rotate_left; intro hx; clear_value x; rotate_right; subst x)
    | (extract_lets +onlyGivenNames x; clear_value x) | refine Keeps.ite ?_ ?_ | apply Keeps.comp (State.setStream_keeps ..)
    | apply Keeps.comp (State.svCount_keeps ..) | refine Keeps.foldl ?_ ?_ | (intro _; beta_reduce)

theorem State.svState_keeps (s : State) (n : Nat) (inv : Bool) (cause run : Nat) : Keeps s (State.svState s n inv cause run) := by
  unfold State.svState
  with_reducible repeat' first
    | assumption | exact Keeps.refl _
    | (extract_lets +onlyGivenNames x; refine Keeps.cut (x := x) ?_ ?_; rotate_left; intro hx; clear_value x; rotate_right; subst x)
    | (extract_lets +onlyGivenNames x; clear_value x) | refine Keeps.ite ?_ ?_ | apply Keeps.comp (State.setFld_keeps ..)
    | apply Keeps.comp (State.setFlag_keeps ..) | apply Keeps.comp (State.fire_keeps ..)

theorem State.svNext_keeps (s : State) (n : Nat) (present : Bool) : Keeps s (State.svNext s n present) := by
  unfold State.svNext
  with_reducible repeat' first
    | assumption | exact Keeps.refl _
    | (extract_lets +onlyGivenNames x; refine Keeps.cut (x := x) ?_ ?_; rotate_left; intro hx; clear_value x; rotate_right; subst x)
    | (extract_lets +onlyGivenNames x; clear_value x) | refine Keeps.ite ?_ ?_ | apply Keeps.comp (State.setStream_keeps ..)
    | apply Keeps.comp (State.svState_keeps ..)

theorem State.svRelease_keeps (s : State) (n : Nat) : Keeps s (State.svRelease s n) := by
  unfold State.svRelease
  with_reducible repeat' first
    | assumption | exact Keeps.refl _
    | (extract_lets +onlyGivenNames x; refine Keeps.cut (x := x) ?_ ?_; rotate_left; intro hx; clear_value x; rotate_right; subst x)
    | (extract_lets +onlyGivenNames x; clear_value x) | refine Keeps.ite ?_ ?_ | apply Keeps.comp (State.setFld_keeps ..)
    | apply Keeps.comp (State.storeTile_keeps ..) | apply Keeps.comp (State.setStream_keeps ..)
    | apply Keeps.comp (State.svCount_keeps ..) | apply Keeps.comp (State.svNext_keeps ..)

theorem State.svSnapshot_keeps (s : State) : Keeps s (State.svSnapshot s) := by
  unfold State.svSnapshot
  with_reducible repeat' first
    | exact Keeps.refl _ | apply Keeps.comp (State.svAlign_keeps ..) | refine Keeps.foldl ?_ ?_ | (intro _; beta_reduce)

theorem State.svReleaseAll_keeps (s : State) : Keeps s (State.svReleaseAll s) := by
  unfold State.svReleaseAll
  with_reducible repeat' first
    | exact Keeps.refl _ | (extract_lets +onlyGivenNames x; clear_value x) | apply Keeps.comp (State.setFld_keeps ..)
    | apply Keeps.comp (State.svRelease_keeps ..) | refine Keeps.foldl ?_ ?_ | (intro _; beta_reduce)

theorem State.svStep_keeps (s : State) : Keeps s (State.svStep s) := by
  unfold State.svStep
  with_reducible repeat' first
    | assumption | exact Keeps.refl _
    | (extract_lets +onlyGivenNames x; refine Keeps.cut (x := x) ?_ ?_; rotate_left; intro hx; clear_value x; rotate_right; subst x)
    | (extract_lets +onlyGivenNames x; clear_value x) | apply Keeps.comp (State.setFld_keeps ..)
    | apply Keeps.comp (State.setStream_keeps ..) | apply Keeps.comp (State.svState_keeps ..) | refine Keeps.foldl ?_ ?_
    | (intro _; beta_reduce)

theorem State.svNosync_keeps (s : State) : Keeps s (State.svNosync s) := by
  unfold State.svNosync
  with_reducible repeat' first
    | assumption | exact Keeps.refl _
    | (extract_lets +onlyGivenNames x; refine Keeps.cut (x := x) ?_ ?_; rotate_left; intro hx; clear_value x; rotate_right; subst x)
    | apply Keeps.comp (State.setFlag_keeps ..) | apply Keeps.comp (State.svState_keeps ..) | refine Keeps.foldl ?_ ?_
    | (intro _; beta_reduce)

theorem State.setPtpPort_keeps (s : State) (p : Nat) (x : PtpPort) : Keeps s (State.setPtpPort s p x) := by
  unfold State.setPtpPort
  with_reducible repeat' first
    | exact Keeps.refl _ | (extract_lets +onlyGivenNames x; clear_value x) | simp -zeta only [Keeps.upd_iff]

theorem State.timeCapture_keeps (s : State) : Keeps s (State.timeCapture s) := by
  unfold State.timeCapture
  with_reducible repeat' first
    | assumption | exact Keeps.refl _
    | (extract_lets +onlyGivenNames x; refine Keeps.cut (x := x) ?_ ?_; rotate_left; intro hx; clear_value x; rotate_right; subst x)
    | (extract_lets +onlyGivenNames x; clear_value x) | apply Keeps.comp (State.setReg_keeps ..) | apply Keeps.comp (State.draw_keeps ..)

theorem execTimeCtrlCapture_keeps (s : State) : OutKeeps s (execTimeCtrlCapture s) := by
  unfold execTimeCtrlCapture
  first | refine OutKeeps.onCore ?_ | refine OutKeeps.next ?_
  try beta_reduce
  with_reducible repeat' first
    | exact Keeps.refl _ | apply Keeps.comp (State.timeCapture_keeps ..)

theorem State.ptpSend_keeps (s : State) (p : Nat) (bytes : List Byte) (ev : Option PtpTx) : Keeps s (State.ptpSend s p bytes ev) := by
  unfold State.ptpSend
  with_reducible repeat' first
    | assumption | exact Keeps.refl _
    | (extract_lets +onlyGivenNames x; refine Keeps.cut (x := x) ?_ ?_; rotate_left; intro hx; clear_value x; rotate_right; subst x)
    | (extract_lets +onlyGivenNames x; refine Keeps.cut (x := x.2) ?_ ?_; rotate_left; intro hx; clear_value x; rotate_right; subst x)
    | (extract_lets +onlyGivenNames x; clear_value x) | refine Keeps.ite ?_ ?_ | apply Keeps.comp (State.setFld_keeps ..)
    | apply Keeps.comp (State.newHold_keeps ..) | apply Keeps.comp (State.putTx_keeps ..)

theorem State.ptpStates_keeps (s : State) : Keeps s (State.ptpStates s) := by
  unfold State.ptpStates
  with_reducible repeat' first
    | exact Keeps.refl _ | (extract_lets +onlyGivenNames x; clear_value x) | split | apply Keeps.comp (State.setFld_keeps ..)
    | refine Keeps.foldl ?_ ?_ | (intro _; beta_reduce)

theorem State.setUtc_keeps (s : State) (offset : Nat) (leap61 leap59 : Bool) : Keeps s (State.setUtc s offset leap61 leap59) := by
  unfold State.setUtc
  with_reducible repeat' first
    | assumption | exact Keeps.refl _
    | (extract_lets +onlyGivenNames x; refine Keeps.cut (x := x) ?_ ?_; rotate_left; intro hx; clear_value x; rotate_right; subst x)
    | (extract_lets +onlyGivenNames x; clear_value x) | simp -zeta only [Keeps.upd_iff] | apply Keeps.comp (State.setFld_keeps ..)
    | apply Keeps.comp (State.setFlag_keeps ..)

theorem State.ptpAnnounce_keeps (s : State) (p : Nat) (m : List Byte) : Keeps s (State.ptpAnnounce s p m) := by
  unfold State.ptpAnnounce
  with_reducible repeat' first
    | assumption | exact Keeps.refl _
    | (extract_lets +onlyGivenNames x; refine Keeps.cut (x := x) ?_ ?_; rotate_left; intro hx; clear_value x; rotate_right; subst x)
    | (extract_lets +onlyGivenNames x; clear_value x) | refine Keeps.ite ?_ ?_ | split | apply Keeps.comp (State.setReg_keeps ..)
    | apply Keeps.comp (State.setPtpPort_keeps ..) | apply Keeps.comp (State.ptpStates_keeps ..)
    | apply Keeps.comp (State.setUtc_keeps ..)

theorem State.ptpBad_keeps (s : State) (p : Nat) : Keeps s (State.ptpBad s p) := by
  unfold State.ptpBad
  with_reducible repeat' first
    | exact Keeps.refl _ | apply Keeps.comp (State.incFld_keeps ..)

theorem State.ptpMessage_keeps (s : State) (p : Nat) (b : List Byte) (t : Nat) : Keeps s (State.ptpMessage s p b t) := by
  unfold State.ptpMessage
  with_reducible repeat' first
    | assumption | exact Keeps.refl _
    | (extract_lets +onlyGivenNames x; refine Keeps.cut (x := x) ?_ ?_; rotate_left; intro hx; clear_value x; rotate_right; subst x)
    | (extract_lets +onlyGivenNames x; clear_value x) | refine Keeps.ite ?_ ?_ | split | apply Keeps.comp (State.setReg_keeps ..)
    | apply Keeps.comp (State.setPtpPort_keeps ..) | apply Keeps.comp (State.ptpSend_keeps ..)
    | apply Keeps.comp (State.ptpAnnounce_keeps ..) | apply Keeps.comp (State.ptpBad_keeps ..) | refine Keeps.foldl ?_ ?_
    | (intro _; beta_reduce)

theorem State.ptpBegin_keeps (s : State) (p : Nat) (b : List Byte) (ev : PtpTx) (t : Nat) : Keeps s (State.ptpBegin s p b ev t).2 := by
  unfold State.ptpBegin
  with_reducible repeat' first
    | exact Keeps.refl _ | (extract_lets +onlyGivenNames x; clear_value x) | refine Keeps.ite ?_ ?_ | simp -zeta only [Keeps.upd_iff]
    | split | apply Keeps.comp (State.setPtpPort_keeps ..) | apply Keeps.comp (State.ptpSend_keeps ..)

theorem State.ptpMaster_keeps (s : State) (p : Nat) : Keeps s (State.ptpMaster s p) := by
  unfold State.ptpMaster
  with_reducible repeat' first
    | assumption | exact Keeps.refl _
    | (extract_lets +onlyGivenNames x; refine Keeps.cut (x := x) ?_ ?_; rotate_left; intro hx; clear_value x; rotate_right; subst x)
    | (extract_lets +onlyGivenNames x; clear_value x) | refine Keeps.ite ?_ ?_ | apply Keeps.comp (State.setPtpPort_keeps ..)
    | apply Keeps.comp (State.ptpSend_keeps ..)

theorem execPtpMasterSend_keeps (p : Fin 4) (s : State) : OutKeeps s (execPtpMasterSend p s) := by
  unfold execPtpMasterSend
  first | refine OutKeeps.onCore ?_ | refine OutKeeps.next ?_
  try beta_reduce
  with_reducible repeat' first
    | exact Keeps.refl _ | apply Keeps.comp (State.ptpMaster_keeps ..)

theorem State.peerDelay_keeps (s : State) (p : Nat) : Keeps s (State.peerDelay s p) := by
  unfold State.peerDelay
  with_reducible repeat' first
    | assumption | exact Keeps.refl _
    | (extract_lets +onlyGivenNames x; refine Keeps.cut (x := x) ?_ ?_; rotate_left; intro hx; clear_value x; rotate_right; subst x)
    | (extract_lets +onlyGivenNames x; clear_value x) | refine Keeps.ite ?_ ?_ | apply Keeps.comp (State.setPtpPort_keeps ..)
    | apply Keeps.comp (State.ptpSend_keeps ..)

theorem execPeerDelayRequest_keeps (p : Fin 4) (s : State) : OutKeeps s (execPeerDelayRequest p s) := by
  unfold execPeerDelayRequest
  first | refine OutKeeps.onCore ?_ | refine OutKeeps.next ?_
  try beta_reduce
  with_reducible repeat' first
    | exact Keeps.refl _ | apply Keeps.comp (State.peerDelay_keeps ..)

theorem State.setTimeState_keeps (s : State) (v : Nat) : Keeps s (State.setTimeState s v) := by
  unfold State.setTimeState
  with_reducible repeat' first
    | exact Keeps.refl _ | apply Keeps.comp (State.setFld_keeps ..)

theorem State.rtcSync_keeps (s : State) (sec : Nat) : Keeps s (State.rtcSync s sec) := by
  unfold State.rtcSync
  with_reducible repeat' first
    | assumption | exact Keeps.refl _
    | (extract_lets +onlyGivenNames x; refine Keeps.cut (x := x) ?_ ?_; rotate_left; intro hx; clear_value x; rotate_right; subst x)
    | (extract_lets +onlyGivenNames x; clear_value x) | refine Keeps.ite ?_ ?_ | simp -zeta only [Keeps.upd_iff]
    | apply Keeps.comp (State.rtcLoad_keeps ..)

theorem State.offsetMeasured_keeps (s : State) (beacon : Bool) (m : Int) (t : Nat) : Keeps s (State.offsetMeasured s beacon m t) := by
  unfold State.offsetMeasured
  with_reducible repeat' first
    | assumption | exact Keeps.refl _
    | (extract_lets +onlyGivenNames x; refine Keeps.cut (x := x) ?_ ?_; rotate_left; intro hx; clear_value x; rotate_right; subst x)
    | (extract_lets +onlyGivenNames x; clear_value x) | refine Keeps.ite ?_ ?_ | simp -zeta only [Keeps.upd_iff]
    | apply Keeps.comp (State.setReg_keeps ..) | apply Keeps.comp (State.setFlag_keeps ..) | apply Keeps.comp (State.event_keeps ..)
    | apply Keeps.comp (State.ptpStates_keeps ..) | apply Keeps.comp (State.setTimeState_keeps ..)
    | apply Keeps.comp (State.rtcSync_keeps ..)

theorem execOffsetMeasurement_keeps (beacon : Bool) (m : Int) (t : Nat) (s : State) : OutKeeps s (execOffsetMeasurement beacon m t s) := by
  unfold execOffsetMeasurement
  first | refine OutKeeps.onCore ?_ | refine OutKeeps.next ?_
  try beta_reduce
  with_reducible repeat' first
    | exact Keeps.refl _ | apply Keeps.comp (State.offsetMeasured_keeps ..)

theorem State.startGrid_keeps (s : State) (t : Nat) : Keeps s (State.startGrid s t) := by
  unfold State.startGrid
  with_reducible repeat' first
    | exact Keeps.refl _ | (extract_lets +onlyGivenNames x; clear_value x) | simp -zeta only [Keeps.upd_iff]

theorem State.timeAcquired_keeps (s : State) (t : Nat) (f : Int) : Keeps s (State.timeAcquired s t f) := by
  unfold State.timeAcquired
  with_reducible repeat' first
    | assumption | exact Keeps.refl _
    | (extract_lets +onlyGivenNames x; refine Keeps.cut (x := x) ?_ ?_; rotate_left; intro hx; clear_value x; rotate_right; subst x)
    | (extract_lets +onlyGivenNames x; clear_value x) | refine Keeps.ite ?_ ?_ | simp -zeta only [Keeps.upd_iff]
    | apply Keeps.comp (State.setReg_keeps ..) | apply Keeps.comp (State.setFlag_keeps ..) | apply Keeps.comp (State.ptpStates_keeps ..)
    | apply Keeps.comp (State.setTimeState_keeps ..) | apply Keeps.comp (State.rtcSync_keeps ..)
    | apply Keeps.comp (State.startGrid_keeps ..)

theorem execTimeAcquired_keeps (t : Nat) (f : Int) (s : State) : OutKeeps s (execTimeAcquired t f s) := by
  unfold execTimeAcquired
  first | refine OutKeeps.onCore ?_ | refine OutKeeps.next ?_
  try beta_reduce
  with_reducible repeat' first
    | exact Keeps.refl _ | apply Keeps.comp (State.timeAcquired_keeps ..)

theorem State.acquireTimeout_keeps (s : State) : Keeps s (State.acquireTimeout s) := by
  unfold State.acquireTimeout
  with_reducible repeat' first
    | assumption | exact Keeps.refl _
    | (extract_lets +onlyGivenNames x; refine Keeps.cut (x := x) ?_ ?_; rotate_left; intro hx; clear_value x; rotate_right; subst x)
    | (extract_lets +onlyGivenNames x; clear_value x) | refine Keeps.ite ?_ ?_ | apply Keeps.comp (State.setReg_keeps ..)
    | apply Keeps.comp (State.setFld_keeps ..) | apply Keeps.comp (State.setFlag_keeps ..) | apply Keeps.comp (State.svNosync_keeps ..)
    | apply Keeps.comp (State.setTimeState_keeps ..) | apply Keeps.comp (State.startGrid_keeps ..)

theorem execAcquireTimeout_keeps (s : State) : OutKeeps s (execAcquireTimeout s) := by
  unfold execAcquireTimeout
  first | refine OutKeeps.onCore ?_ | refine OutKeeps.next ?_
  try beta_reduce
  with_reducible repeat' first
    | exact Keeps.refl _ | apply Keeps.comp (State.acquireTimeout_keeps ..)

theorem State.timeLoss_keeps (s : State) : Keeps s (State.timeLoss s) := by
  unfold State.timeLoss
  with_reducible repeat' first
    | assumption | exact Keeps.refl _
    | (extract_lets +onlyGivenNames x; refine Keeps.cut (x := x) ?_ ?_; rotate_left; intro hx; clear_value x; rotate_right; subst x)
    | (extract_lets +onlyGivenNames x; clear_value x) | refine Keeps.ite ?_ ?_ | simp -zeta only [Keeps.upd_iff]
    | apply Keeps.comp (State.setReg_keeps ..) | apply Keeps.comp (State.ptpStates_keeps ..)
    | apply Keeps.comp (State.setTimeState_keeps ..)

theorem execTimeLoss_keeps (s : State) : OutKeeps s (execTimeLoss s) := by
  unfold execTimeLoss
  first | refine OutKeeps.onCore ?_ | refine OutKeeps.next ?_
  try beta_reduce
  with_reducible repeat' first
    | exact Keeps.refl _ | apply Keeps.comp (State.timeLoss_keeps ..)

theorem State.holdSec_keeps (s : State) : Keeps s (State.holdSec s) := by
  unfold State.holdSec
  with_reducible repeat' first
    | exact Keeps.refl _ | refine Keeps.ite ?_ ?_ | split | apply Keeps.comp (State.setReg_keeps ..)

theorem State.leapSecond_keeps (s : State) : Keeps s (State.leapSecond s) := by
  unfold State.leapSecond
  with_reducible repeat' first
    | assumption | exact Keeps.refl _
    | (extract_lets +onlyGivenNames x; refine Keeps.cut (x := x) ?_ ?_; rotate_left; intro hx; clear_value x; rotate_right; subst x)
    | (extract_lets +onlyGivenNames x; clear_value x) | refine Keeps.ite ?_ ?_ | simp -zeta only [Keeps.upd_iff]
    | apply Keeps.comp (State.setFld_keeps ..) | apply Keeps.comp (State.setFlag_keeps ..)

theorem execLeapSecond_keeps (s : State) : OutKeeps s (execLeapSecond s) := by
  unfold execLeapSecond
  first | refine OutKeeps.onCore ?_ | refine OutKeeps.next ?_
  try beta_reduce
  with_reducible repeat' first
    | exact Keeps.refl _ | apply Keeps.comp (State.leapSecond_keeps ..)

theorem State.restep_keeps (s : State) : Keeps s (State.restep s).2 := by
  unfold State.restep
  with_reducible repeat' first
    | assumption | exact Keeps.refl _
    | (extract_lets +onlyGivenNames x; refine Keeps.cut (x := x) ?_ ?_; rotate_left; intro hx; clear_value x; rotate_right; subst x)
    | (extract_lets +onlyGivenNames x; clear_value x) | simp -zeta only [Keeps.upd_iff] | split | apply Keeps.comp (State.setFld_keeps ..)
    | apply Keeps.comp (State.setFlag_keeps ..) | apply Keeps.comp (State.event_keeps ..)

theorem execTimeCtrlRestep_keeps (s : State) : OutKeeps s (execTimeCtrlRestep s) := by
  unfold execTimeCtrlRestep
  first | refine OutKeeps.onCore ?_ | refine OutKeeps.next ?_
  try beta_reduce
  with_reducible repeat' first
    | exact Keeps.refl _ | apply Keeps.comp (State.restep_keeps ..)

theorem State.uartRelease_keeps (s : State) (p : Nat) (f : FStage) : Keeps s (State.uartRelease s p f) := by
  unfold State.uartRelease
  with_reducible repeat' first
    | exact Keeps.refl _ | (extract_lets +onlyGivenNames x; clear_value x) | refine Keeps.ite ?_ ?_ | simp -zeta only [Keeps.upd_iff]
    | split | apply Keeps.comp (State.incFld_keeps ..) | apply Keeps.comp (State.unref_keeps ..)

theorem State.releaseFrame_keeps (s : State) (p : Nat) (f : FStage) : Keeps s (State.releaseFrame s p f) := by
  unfold State.releaseFrame
  with_reducible repeat' first
    | assumption | exact Keeps.refl _
    | (extract_lets +onlyGivenNames x; refine Keeps.cut (x := x) ?_ ?_; rotate_left; intro hx; clear_value x; rotate_right; subst x)
    | (extract_lets +onlyGivenNames x; clear_value x) | refine Keeps.ite ?_ ?_ | simp -zeta only [Keeps.upd_iff] | split
    | apply Keeps.comp (State.swCount_keeps ..) | apply Keeps.comp (State.unref_keeps ..) | apply Keeps.comp (State.release_keeps ..)
    | apply Keeps.comp (State.uartRelease_keeps ..) | refine Keeps.foldl ?_ ?_ | (intro _; beta_reduce)

theorem State.releaseFrames_keeps (s : State) (ps : List Nat) : Keeps s (State.releaseFrames s ps) := by
  unfold State.releaseFrames
  with_reducible repeat' first
    | assumption | exact Keeps.refl _
    | (extract_lets +onlyGivenNames x; refine Keeps.cut (x := x) ?_ ?_; rotate_left; intro hx; clear_value x; rotate_right; subst x)
    | (extract_lets +onlyGivenNames x; clear_value x) | apply Keeps.comp (State.modPart_keeps ..)
    | apply Keeps.comp (State.releaseFrame_keeps ..) | refine Keeps.foldl ?_ ?_ | (intro _; beta_reduce)

theorem State.discardFrames_keeps (s : State) (p : Nat) : Keeps s (State.discardFrames s p) := by
  unfold State.discardFrames
  with_reducible repeat' first
    | assumption | exact Keeps.refl _
    | (extract_lets +onlyGivenNames x; refine Keeps.cut (x := x) ?_ ?_; rotate_left; intro hx; clear_value x; rotate_right; subst x)
    | (extract_lets +onlyGivenNames x; clear_value x) | refine Keeps.ite ?_ ?_ | simp -zeta only [Keeps.upd_iff] | split
    | apply Keeps.comp (State.incFld_keeps ..) | apply Keeps.comp (State.modPart_keeps ..) | apply Keeps.comp (State.setSwPort_keeps ..)
    | apply Keeps.comp (State.swCount_keeps ..) | apply Keeps.comp (State.unref_keeps ..) | apply Keeps.comp (State.txDiscard_keeps ..)
    | refine Keeps.foldl ?_ ?_ | (intro _; beta_reduce)

theorem State.msgFail_keeps (s : State) (l : Nat) (rd : Fin 32) (word : Word) (status : Nat) : Keeps s (State.msgFail s l rd word status) := by
  unfold State.msgFail
  with_reducible repeat' first
    | exact Keeps.refl _ | apply Keeps.comp (State.setG_keeps ..) | apply Keeps.comp (State.raise_keeps ..)

theorem State.msgWindow_keeps (s : State) (l : Nat) (rd ra : Fin 32) (word : Word) (size len : Nat) (tooLong : State → State) (body : Fin 8 → Nat → State → State) (htooLong : ∀ x0, Keeps x0 (tooLong x0)) (hbody : ∀ x0 x1 x2, Keeps x2 (body x0 x1 x2)): Keeps s (State.msgWindow s l rd ra word size len tooLong body) := by
  unfold State.msgWindow
  with_reducible repeat' first
    | assumption | exact Keeps.refl _
    | (extract_lets +onlyGivenNames x; refine Keeps.cut (x := x) ?_ ?_; rotate_left; intro hx; clear_value x; rotate_right; subst x)
    | (extract_lets +onlyGivenNames x; clear_value x) | refine Keeps.ite ?_ ?_ | split | apply Keeps.comp (State.setG_keeps ..)
    | apply Keeps.comp (State.raise_keeps ..) | apply Keeps.comp (State.settleW_keeps ..) | apply Keeps.comp (State.poisonHit_keeps ..)
    | apply Keeps.comp (State.msgFail_keeps ..) | apply Keeps.comp (htooLong ..) | apply Keeps.comp (hbody ..)

theorem State.dropChain_keeps (s : State) (l : Nat) : Keeps s (State.dropChain s l) := by
  unfold State.dropChain
  with_reducible repeat' first
    | exact Keeps.refl _ | split | apply Keeps.comp (State.modLamp_keeps ..) | apply Keeps.comp (State.dropHold_keeps ..)

theorem State.fsend_keeps (s : State) (l : Nat) (t : TaskCtx) (rd ra rb : Fin 32) (word : Word) (more : Bool) (size h : Nat) : Keeps s (State.fsend s l t rd ra rb word more size h) := by
  unfold State.fsend
  with_reducible repeat' first
    | assumption | exact Keeps.refl _
    | (extract_lets +onlyGivenNames x; refine Keeps.cut (x := x) ?_ ?_; rotate_left; intro hx; clear_value x; rotate_right; subst x)
    | (extract_lets +onlyGivenNames x; refine Keeps.cut (x := x.2) ?_ ?_; rotate_left; intro hx; clear_value x; rotate_right; subst x)
    | (extract_lets +onlyGivenNames x; clear_value x) | refine Keeps.ite ?_ ?_ | simp -zeta only [Keeps.upd_iff] | split
    | apply Keeps.comp (State.modLamp_keeps ..) | apply Keeps.comp (State.modPart_keeps ..) | apply Keeps.comp (State.newHold_keeps ..)
    | apply Keeps.comp (State.modHold_keeps ..) | apply Keeps.comp (State.setG_keeps ..) | apply Keeps.comp (State.msgFail_keeps ..)
    | apply Keeps.comp (State.msgWindow_keeps (htooLong := ?_) (hbody := ?_) ..) | apply Keeps.comp (State.dropChain_keeps ..)
    | (intro _; beta_reduce)

theorem State.msgIns_keeps (s : State) (l : Nat) (q : PQ) (word : Word) (sz : Nat) (body : TaskCtx → State → State) (hbody : ∀ x0 x1, Keeps x1 (body x0 x1)): Keeps s (State.msgIns s l q word sz body) := by
  unfold State.msgIns
  with_reducible repeat' first
    | assumption | exact Keeps.refl _ | split | apply Keeps.comp (State.kill_keeps ..)
    | apply Keeps.comp (State.instr_keeps (hbody := ?_) ..) | (intro _; beta_reduce)

theorem execFsend_keeps (l : Fin 64) (q : PQ) (rd ra rb : Fin 32) (more : Bool) (sz : Fin 3) (hd : Fin 16) (s : State) : OutKeeps s (execFsend l q rd ra rb more sz hd s) := by
  unfold execFsend
  first | refine OutKeeps.onCore ?_ | refine OutKeeps.next ?_
  try beta_reduce
  with_reducible repeat' first
    | exact Keeps.refl _ | (extract_lets +onlyGivenNames x; clear_value x) | apply Keeps.comp (State.fsend_keeps ..)
    | apply Keeps.comp (State.msgIns_keeps (hbody := ?_) ..) | (intro _; beta_reduce)

theorem State.frecv_keeps (s : State) (l : Nat) (t : TaskCtx) (rd ra rb : Fin 32) (word : Word) (cont : Bool) (size h : Nat) : Keeps s (State.frecv s l t rd ra rb word cont size h) := by
  unfold State.frecv
  with_reducible repeat' first
    | assumption | exact Keeps.refl _
    | (extract_lets +onlyGivenNames x; refine Keeps.cut (x := x) ?_ ?_; rotate_left; intro hx; clear_value x; rotate_right; subst x)
    | (extract_lets +onlyGivenNames x; clear_value x) | refine Keeps.ite ?_ ?_ | split | apply Keeps.comp (State.setSwRing_keeps ..)
    | apply Keeps.comp (State.ringPop_keeps ..) | apply Keeps.comp (State.setG_keeps ..) | apply Keeps.comp (State.winWrite_keeps ..)
    | apply Keeps.comp (State.msgFail_keeps ..) | apply Keeps.comp (State.msgWindow_keeps (htooLong := ?_) (hbody := ?_) ..)
    | exact Keeps.ofId _ | (intro _; beta_reduce)

theorem execFrecv_keeps (l : Fin 64) (q : PQ) (rd ra rb : Fin 32) (cont : Bool) (sz : Fin 3) (hd : Fin 16) (s : State) : OutKeeps s (execFrecv l q rd ra rb cont sz hd s) := by
  unfold execFrecv
  first | refine OutKeeps.onCore ?_ | refine OutKeeps.next ?_
  try beta_reduce
  with_reducible repeat' first
    | exact Keeps.refl _ | (extract_lets +onlyGivenNames x; clear_value x) | apply Keeps.comp (State.msgIns_keeps (hbody := ?_) ..)
    | apply Keeps.comp (State.frecv_keeps ..) | (intro _; beta_reduce)

theorem State.rxGood_keeps (s : State) (f : RxFrame) : Keeps s (State.rxGood s f) := by
  unfold State.rxGood
  with_reducible repeat' first
    | exact Keeps.refl _ | (extract_lets +onlyGivenNames x; clear_value x) | split | apply Keeps.comp (State.swCount_keeps ..)

theorem State.rxCheck_keeps (s : State) (f : RxFrame) (g : State → State) (hg : ∀ x0, Keeps x0 (g x0)): Keeps s (State.rxCheck s f g) := by
  unfold State.rxCheck
  with_reducible repeat' first
    | exact Keeps.refl _ | split | apply Keeps.comp (State.swCount_keeps ..) | apply Keeps.comp (State.rxGood_keeps ..)
    | apply Keeps.comp (hg ..)

theorem State.laneSend_keeps (s : State) (port : Nat) (b : List Byte) : Keeps s (State.laneSend s port b) := by
  unfold State.laneSend
  with_reducible repeat' first
    | assumption | exact Keeps.refl _
    | (extract_lets +onlyGivenNames x; refine Keeps.cut (x := x.2) ?_ ?_; rotate_left; intro hx; clear_value x; rotate_right; subst x)
    | (extract_lets +onlyGivenNames x; clear_value x) | refine Keeps.ite ?_ ?_ | apply Keeps.comp (State.swCount_keeps ..)
    | apply Keeps.comp (State.newHold_keeps ..) | apply Keeps.comp (State.putTx_keeps ..)

theorem State.laneAnswer_keeps (s : State) (port v tci : Nat) (b : List Byte) (k : MgmtKind) : Keeps s (State.laneAnswer s port v tci b k) := by
  unfold State.laneAnswer
  with_reducible repeat' first
    | exact Keeps.refl _ | (extract_lets +onlyGivenNames x; clear_value x) | split | apply Keeps.comp (State.laneSend_keeps ..)

theorem State.prpReceive_keeps (s : State) (p : Nat) (b : List Byte) : Keeps s (State.prpReceive s p b).2 := by
  unfold State.prpReceive
  with_reducible repeat' first
    | exact Keeps.refl _ | (extract_lets +onlyGivenNames x; clear_value x) | simp -zeta only [Keeps.upd_iff] | split
    | apply Keeps.comp (State.swCount_keeps ..)

theorem State.learn_keeps (s : State) (v port : Nat) (b : List Byte) : Keeps s (State.learn s v port b) := by
  unfold State.learn
  with_reducible repeat' first
    | exact Keeps.refl _ | (extract_lets +onlyGivenNames x; clear_value x) | refine Keeps.ite ?_ ?_ | simp -zeta only [Keeps.upd_iff]
    | apply Keeps.comp (State.swCount_keeps ..)

theorem State.rxDeliver_keeps (s : State) (v tci hold : Nat) (f : RxFrame) (b : List Byte) (outs : List Nat) (ring : Bool) (status wake : Nat) : Keeps s (State.rxDeliver s v tci hold f b outs ring status wake) := by
  unfold State.rxDeliver
  with_reducible repeat' first
    | assumption | exact Keeps.refl _
    | (extract_lets +onlyGivenNames x; refine Keeps.cut (x := x) ?_ ?_; rotate_left; intro hx; clear_value x; rotate_right; subst x)
    | (extract_lets +onlyGivenNames x; clear_value x) | refine Keeps.ite ?_ ?_ | split | apply Keeps.comp (State.swCount_keeps ..)
    | apply Keeps.comp (State.unref_keeps ..) | apply Keeps.comp (State.addRef_keeps ..) | apply Keeps.comp (State.ringPush_keeps ..)
    | apply Keeps.comp (State.forward_keeps ..) | refine Keeps.foldl ?_ ?_ | (intro _; beta_reduce)

theorem State.nodeSeen_keeps (s : State) (mac : Nat) : Keeps s (State.nodeSeen s mac) := by
  unfold State.nodeSeen
  with_reducible repeat' first
    | exact Keeps.refl _ | (extract_lets +onlyGivenNames x; clear_value x) | refine Keeps.ite ?_ ?_ | simp -zeta only [Keeps.upd_iff]

theorem State.rxForward_keeps (s : State) (f : RxFrame) (v tci : Nat) : Keeps s (State.rxForward s f v tci) := by
  unfold State.rxForward
  with_reducible repeat' first
    | assumption | exact Keeps.refl _
    | (extract_lets +onlyGivenNames x; refine Keeps.cut (x := x) ?_ ?_; rotate_left; intro hx; clear_value x; rotate_right; subst x)
    | (extract_lets +onlyGivenNames x; refine Keeps.cut (x := x.2) ?_ ?_; rotate_left; intro hx; clear_value x; rotate_right; subst x)
    | (extract_lets +onlyGivenNames x; clear_value x) | refine Keeps.ite ?_ ?_ | split | apply Keeps.comp (State.swCount_keeps ..)
    | apply Keeps.comp (State.newHold_keeps ..) | apply Keeps.comp (State.fire_keeps ..) | apply Keeps.comp (State.rxGood_keeps ..)
    | apply Keeps.comp (State.prpReceive_keeps ..) | apply Keeps.comp (State.learn_keeps ..) | apply Keeps.comp (State.rxDeliver_keeps ..)
    | refine Keeps.foldl ?_ ?_ | (intro _; beta_reduce)

theorem State.frameReceived_keeps (s : State) (f : RxFrame) : Keeps s (State.frameReceived s f) := by
  unfold State.frameReceived
  with_reducible repeat' first
    | assumption | exact Keeps.refl _
    | (extract_lets +onlyGivenNames x; refine Keeps.cut (x := x) ?_ ?_; rotate_left; intro hx; clear_value x; rotate_right; subst x)
    | (extract_lets +onlyGivenNames x; refine Keeps.cut (x := x.2) ?_ ?_; rotate_left; intro hx; clear_value x; rotate_right; subst x)
    | (extract_lets +onlyGivenNames x; clear_value x) | refine Keeps.ite ?_ ?_ | split | apply Keeps.comp (State.swCount_keeps ..)
    | apply Keeps.comp (State.newHold_keeps ..) | apply Keeps.comp (State.svFrame_keeps ..) | apply Keeps.comp (State.ptpMessage_keeps ..)
    | apply Keeps.comp (State.rxCheck_keeps (hg := ?_) ..) | apply Keeps.comp (State.laneAnswer_keeps ..)
    | apply Keeps.comp (State.prpReceive_keeps ..) | apply Keeps.comp (State.nodeSeen_keeps ..)
    | apply Keeps.comp (State.rxForward_keeps ..) | (intro _; beta_reduce)

theorem execFrameReceived_keeps (f : RxFrame) (s : State) : OutKeeps s (execFrameReceived f s) := by
  unfold execFrameReceived
  first | refine OutKeeps.onCore ?_ | refine OutKeeps.next ?_
  try beta_reduce
  with_reducible repeat' first
    | exact Keeps.refl _ | apply Keeps.comp (State.portActive_keeps ..) | apply Keeps.comp (State.frameReceived_keeps ..)

theorem execFdbAgeOut_keeps (v : Fin 256) (mac : BitVec 48) (s : State) : OutKeeps s (execFdbAgeOut v mac s) := by
  unfold execFdbAgeOut
  first | refine OutKeeps.onCore ?_ | refine OutKeeps.next ?_
  try beta_reduce
  with_reducible repeat' first
    | exact Keeps.refl _ | (extract_lets +onlyGivenNames x; clear_value x) | simp -zeta only [Keeps.upd_iff]

theorem execPrpTableAgeOut_keeps (node : Bool) (mac : BitVec 48) (s : State) : OutKeeps s (execPrpTableAgeOut node mac s) := by
  unfold execPrpTableAgeOut
  first | refine OutKeeps.onCore ?_ | refine OutKeeps.next ?_
  try beta_reduce
  with_reducible repeat' first
    | exact Keeps.refl _ | (extract_lets +onlyGivenNames x; clear_value x) | refine Keeps.ite ?_ ?_ | simp -zeta only [Keeps.upd_iff]

theorem State.supervise_keeps (s : State) : Keeps s (State.supervise s) := by
  unfold State.supervise
  with_reducible repeat' first
    | exact Keeps.refl _ | (extract_lets +onlyGivenNames x; clear_value x) | refine Keeps.ite ?_ ?_
    | apply Keeps.comp (State.forward_keeps ..) | refine Keeps.foldl ?_ ?_ | (intro _; beta_reduce)

theorem execPrpSupervisionSend_keeps (s : State) : OutKeeps s (execPrpSupervisionSend s) := by
  unfold execPrpSupervisionSend
  first | refine OutKeeps.onCore ?_ | refine OutKeeps.next ?_
  try beta_reduce
  with_reducible repeat' first
    | exact Keeps.refl _ | apply Keeps.comp (State.supervise_keeps ..)

theorem State.swCredit_keeps (s : State) (port c : Nat) : Keeps s (State.swCredit s port c) := by
  unfold State.swCredit
  with_reducible repeat' first
    | exact Keeps.refl _ | (extract_lets +onlyGivenNames x; clear_value x) | apply Keeps.comp (State.setSwPort_keeps ..)

theorem State.purgeTx_keeps (s : State) (port : Nat) : Keeps s (State.purgeTx s port) := by
  unfold State.purgeTx
  with_reducible repeat' first
    | exact Keeps.refl _ | (extract_lets +onlyGivenNames x; clear_value x) | refine Keeps.ite ?_ ?_
    | apply Keeps.comp (State.setSwPort_keeps ..) | apply Keeps.comp (State.txDiscard_keeps ..) | refine Keeps.foldl ?_ ?_
    | (intro _; beta_reduce)

theorem State.txStart_keeps (s : State) (port c t : Nat) : Keeps s (State.txStart s port c t) := by
  unfold State.txStart
  with_reducible repeat' first
    | assumption | exact Keeps.refl _
    | (extract_lets +onlyGivenNames x; refine Keeps.cut (x := x) ?_ ?_; rotate_left; intro hx; clear_value x; rotate_right; subst x)
    | (extract_lets +onlyGivenNames x; refine Keeps.cut (x := x.2) ?_ ?_; rotate_left; intro hx; clear_value x; rotate_right; subst x)
    | (extract_lets +onlyGivenNames x; clear_value x) | refine Keeps.ite ?_ ?_ | split | apply Keeps.comp (State.setSwPort_keeps ..)
    | apply Keeps.comp (State.portActive_keeps ..) | apply Keeps.comp (State.swCount_keeps ..)
    | apply Keeps.comp (State.ptpBegin_keeps ..) | apply Keeps.comp (State.swCredit_keeps ..) | apply Keeps.comp (State.purgeTx_keeps ..)

theorem execPortTxStart_keeps (port : Fin 40) (c : Fin 83333) (t : Nat) (s : State) : OutKeeps s (execPortTxStart port c t s) := by
  unfold execPortTxStart
  first | refine OutKeeps.onCore ?_ | refine OutKeeps.next ?_
  try beta_reduce
  with_reducible repeat' first
    | exact Keeps.refl _ | apply Keeps.comp (State.txStart_keeps ..)

theorem State.txDone_keeps (s : State) (port : Nat) : Keeps s (State.txDone s port) := by
  unfold State.txDone
  with_reducible repeat' first
    | assumption | exact Keeps.refl _
    | (extract_lets +onlyGivenNames x; refine Keeps.cut (x := x) ?_ ?_; rotate_left; intro hx; clear_value x; rotate_right; subst x)
    | (extract_lets +onlyGivenNames x; clear_value x) | refine Keeps.ite ?_ ?_ | simp -zeta only [Keeps.upd_iff] | split
    | apply Keeps.comp (State.setSwPort_keeps ..) | apply Keeps.comp (State.swCount_keeps ..) | apply Keeps.comp (State.unref_keeps ..)
    | apply Keeps.comp (State.tsRecord_keeps ..)

theorem execPortTxDone_keeps (port : Fin 40) (s : State) : OutKeeps s (execPortTxDone port s) := by
  unfold execPortTxDone
  first | refine OutKeeps.onCore ?_ | refine OutKeeps.next ?_
  try beta_reduce
  with_reducible repeat' first
    | exact Keeps.refl _ | apply Keeps.comp (State.txDone_keeps ..)

theorem State.qcfgWrite_keeps (s : State) (port q : Nat) (w : Word) : Keeps s (State.qcfgWrite s port q w) := by
  unfold State.qcfgWrite
  with_reducible repeat' first
    | exact Keeps.refl _ | (extract_lets +onlyGivenNames x; clear_value x) | refine Keeps.ite ?_ ?_
    | apply Keeps.comp (State.event_keeps ..) | apply Keeps.comp (State.bindWrite_keeps ..) | apply Keeps.comp (State.allotBusy_keeps ..)

theorem execSwQcfgWrite_keeps (port : Fin 40) (q : Fin 8) (w : Word) (s : State) : OutKeeps s (execSwQcfgWrite port q w s) := by
  unfold execSwQcfgWrite
  first | refine OutKeeps.onCore ?_ | refine OutKeeps.next ?_
  try beta_reduce
  with_reducible repeat' first
    | exact Keeps.refl _ | apply Keeps.comp (State.qcfgWrite_keeps ..)

theorem State.cellsWrite_keeps (s : State) (n : Nat) (w : Word) : Keeps s (State.cellsWrite s n w) := by
  unfold State.cellsWrite
  with_reducible repeat' first
    | exact Keeps.refl _ | (extract_lets +onlyGivenNames x; clear_value x) | refine Keeps.ite ?_ ?_
    | apply Keeps.comp (State.setFld_keeps ..) | apply Keeps.comp (State.event_keeps ..) | apply Keeps.comp (State.allotBusy_keeps ..)

theorem execSwCellsWrite_keeps (n : Fin 128) (w : Word) (s : State) : OutKeeps s (execSwCellsWrite n w s) := by
  unfold execSwCellsWrite
  first | refine OutKeeps.onCore ?_ | refine OutKeeps.next ?_
  try beta_reduce
  with_reducible repeat' first
    | exact Keeps.refl _ | apply Keeps.comp (State.cellsWrite_keeps ..)

theorem State.swEntryWrite_keeps (s : State) (a : Nat) (w : Word) (bad : Bool) : Keeps s (State.swEntryWrite s a w bad) := by
  unfold State.swEntryWrite
  with_reducible repeat' first
    | exact Keeps.refl _ | (extract_lets +onlyGivenNames x; clear_value x) | refine Keeps.ite ?_ ?_
    | apply Keeps.comp (State.event_keeps ..) | apply Keeps.comp (State.bindWrite_keeps ..) | apply Keeps.comp (State.allotBusy_keeps ..)

theorem State.vlanWrite_keeps (s : State) (v : Nat) (w : Word) : Keeps s (State.vlanWrite s v w) := by
  unfold State.vlanWrite
  with_reducible repeat' first
    | exact Keeps.refl _ | (extract_lets +onlyGivenNames x; clear_value x) | apply Keeps.comp (State.swEntryWrite_keeps ..)

theorem State.ringWrite_keeps (s : State) (r : Nat) (w : Word) : Keeps s (State.ringWrite s r w) := by
  unfold State.ringWrite
  with_reducible repeat' first
    | exact Keeps.refl _ | (extract_lets +onlyGivenNames x; clear_value x) | apply Keeps.comp (State.swEntryWrite_keeps ..)

theorem State.wakeWrite_keeps (s : State) (n : Nat) (w : Word) : Keeps s (State.wakeWrite s n w) := by
  unfold State.wakeWrite
  with_reducible repeat' first
    | exact Keeps.refl _ | apply Keeps.comp (State.swEntryWrite_keeps ..)

theorem State.qtsWrite_keeps (s : State) (port q : Nat) (w : Word) : Keeps s (State.qtsWrite s port q w) := by
  unfold State.qtsWrite
  with_reducible repeat' first
    | exact Keeps.refl _ | (extract_lets +onlyGivenNames x; clear_value x) | refine Keeps.ite ?_ ?_
    | apply Keeps.comp (State.setReg_keeps ..) | apply Keeps.comp (State.event_keeps ..)

theorem State.pcfgWrite_keeps (s : State) (port : Nat) (w : Word) : Keeps s (State.pcfgWrite s port w) := by
  unfold State.pcfgWrite
  with_reducible repeat' first
    | assumption | exact Keeps.refl _
    | (extract_lets +onlyGivenNames x; refine Keeps.cut (x := x) ?_ ?_; rotate_left; intro hx; clear_value x; rotate_right; subst x)
    | (extract_lets +onlyGivenNames x; clear_value x) | refine Keeps.ite ?_ ?_ | simp -zeta only [Keeps.upd_iff]
    | apply Keeps.comp (State.setReg_keeps ..)

theorem State.shutterApply_keeps (s : State) : Keeps s (State.shutterApply s) := by
  unfold State.shutterApply
  with_reducible repeat' first
    | assumption | exact Keeps.refl _
    | (extract_lets +onlyGivenNames x; refine Keeps.cut (x := x) ?_ ?_; rotate_left; intro hx; clear_value x; rotate_right; subst x)
    | (extract_lets +onlyGivenNames x; clear_value x) | simp -zeta only [Keeps.upd_iff] | apply Keeps.comp (State.setFlag_keeps ..)
    | refine Keeps.foldl ?_ ?_ | (intro _; beta_reduce)

theorem execShutterApply_keeps (s : State) : OutKeeps s (execShutterApply s) := by
  unfold execShutterApply
  first | refine OutKeeps.onCore ?_ | refine OutKeeps.next ?_
  try beta_reduce
  with_reducible repeat' first
    | exact Keeps.refl _ | apply Keeps.comp (State.shutterApply_keeps ..)

theorem State.setTrip_keeps (s : State) (j : Nat) (x : TripSt) : Keeps s (State.setTrip s j x) := by
  unfold State.setTrip
  with_reducible repeat' first
    | exact Keeps.refl _ | simp -zeta only [Keeps.upd_iff]

theorem State.setTripState_keeps (s : State) (j v : Nat) : Keeps s (State.setTripState s j v) := by
  unfold State.setTripState
  with_reducible repeat' first
    | exact Keeps.refl _ | apply Keeps.comp (State.setFld_keeps ..)

theorem State.bindTrip_keeps (s : State) (j loc : Nat) (template : List Byte) : Keeps s (State.bindTrip s j loc template) := by
  unfold State.bindTrip
  with_reducible repeat' first
    | assumption | exact Keeps.refl _
    | (extract_lets +onlyGivenNames x; refine Keeps.cut (x := x) ?_ ?_; rotate_left; intro hx; clear_value x; rotate_right; subst x)
    | apply Keeps.comp (State.setReg_keeps ..) | apply Keeps.comp (State.setFld_keeps ..) | apply Keeps.comp (State.setTrip_keeps ..)
    | apply Keeps.comp (State.setTripState_keeps ..)

theorem State.unbindTrip_keeps (s : State) (j : Nat) : Keeps s (State.unbindTrip s j) := by
  unfold State.unbindTrip
  with_reducible repeat' first
    | assumption | exact Keeps.refl _
    | (extract_lets +onlyGivenNames x; refine Keeps.cut (x := x) ?_ ?_; rotate_left; intro hx; clear_value x; rotate_right; subst x)
    | simp -zeta only [Keeps.upd_iff] | apply Keeps.comp (State.setReg_keeps ..) | apply Keeps.comp (State.setFld_keeps ..)
    | apply Keeps.comp (State.setTripState_keeps ..)

theorem State.bindTrips_keeps (s : State) (p : Nat) : Keeps s (State.bindTrips s p) := by
  unfold State.bindTrips
  with_reducible repeat' first
    | assumption | exact Keeps.refl _
    | (extract_lets +onlyGivenNames x; refine Keeps.cut (x := x) ?_ ?_; rotate_left; intro hx; clear_value x; rotate_right; subst x)
    | (extract_lets +onlyGivenNames x; clear_value x) | refine Keeps.ite ?_ ?_ | split | apply Keeps.comp (State.bindTrip_keeps ..)
    | apply Keeps.comp (State.unbindTrip_keeps ..) | refine Keeps.foldl ?_ ?_ | (intro _; beta_reduce)

theorem State.tripSend_keeps (s : State) (j : Nat) : Keeps s (State.tripSend s j) := by
  unfold State.tripSend
  with_reducible repeat' first
    | assumption | exact Keeps.refl _
    | (extract_lets +onlyGivenNames x; refine Keeps.cut (x := x) ?_ ?_; rotate_left; intro hx; clear_value x; rotate_right; subst x)
    | (extract_lets +onlyGivenNames x; refine Keeps.cut (x := x.2) ?_ ?_; rotate_left; intro hx; clear_value x; rotate_right; subst x)
    | (extract_lets +onlyGivenNames x; clear_value x) | refine Keeps.ite ?_ ?_ | simp -zeta only [Keeps.upd_iff]
    | apply Keeps.comp (State.setFld_keeps ..) | apply Keeps.comp (State.swCount_keeps ..) | apply Keeps.comp (State.newHold_keeps ..)
    | apply Keeps.comp (State.release_keeps ..) | apply Keeps.comp (State.setTrip_keeps ..) | refine Keeps.foldl ?_ ?_
    | (intro _; beta_reduce)

theorem State.tripEval_keeps (s : State) (j : Nat) : Keeps s (State.tripEval s j) := by
  unfold State.tripEval
  with_reducible repeat' first
    | assumption | exact Keeps.refl _
    | (extract_lets +onlyGivenNames x; refine Keeps.cut (x := x) ?_ ?_; rotate_left; intro hx; clear_value x; rotate_right; subst x)
    | (extract_lets +onlyGivenNames x; refine Keeps.cutF2 (f := x) ?_ ?_; rotate_left; intro hf2; clear_value x; rotate_right; subst x)
    | (extract_lets +onlyGivenNames x; clear_value x) | refine Keeps.ite ?_ ?_ | simp -zeta only [Keeps.upd_iff] | split
    | apply Keeps.comp (State.setReg_keeps ..) | apply Keeps.comp (State.setFlag_keeps ..) | apply Keeps.comp (State.setTrip_keeps ..)
    | apply Keeps.comp (State.setTripState_keeps ..) | apply Keeps.comp (State.tripSend_keeps ..) | apply Keeps.comp (hf2 ..)
    | (intro _; beta_reduce)

theorem State.tripLaunch_keeps (s : State) : Keeps s (State.tripLaunch s) := by
  unfold State.tripLaunch
  with_reducible repeat' first
    | assumption | exact Keeps.refl _
    | (extract_lets +onlyGivenNames x; refine Keeps.cut (x := x) ?_ ?_; rotate_left; intro hx; clear_value x; rotate_right; subst x)
    | apply Keeps.comp (State.modPart_keeps ..) | apply Keeps.comp (State.tripEval_keeps ..) | refine Keeps.foldl ?_ ?_
    | (intro _; beta_reduce)

theorem State.tripLanding_keeps (s : State) : Keeps s (State.tripLanding s) := by
  unfold State.tripLanding
  with_reducible repeat' first
    | exact Keeps.refl _ | simp -zeta only [Keeps.upd_iff]

theorem execTripRepeatDue_keeps (j : Fin 64) (s : State) : OutKeeps s (execTripRepeatDue j s) := by
  unfold execTripRepeatDue
  first | refine OutKeeps.onCore ?_ | refine OutKeeps.next ?_
  try beta_reduce
  with_reducible repeat' first
    | exact Keeps.refl _ | refine Keeps.ite ?_ ?_ | apply Keeps.comp (State.tripEval_keeps ..)

theorem State.tripGates_keeps (s : State) : Keeps s (State.tripGates s) := by
  unfold State.tripGates
  with_reducible repeat' first
    | exact Keeps.refl _ | apply Keeps.comp (State.setFlag_keeps ..) | refine Keeps.foldl ?_ ?_ | (intro _; beta_reduce)

theorem State.tripCfgWrite_keeps (s : State) (j : Nat) (w : Word) : Keeps s (State.tripCfgWrite s j w) := by
  unfold State.tripCfgWrite
  with_reducible repeat' first
    | exact Keeps.refl _ | (extract_lets +onlyGivenNames x; clear_value x) | refine Keeps.ite ?_ ?_
    | apply Keeps.comp (State.event_keeps ..) | apply Keeps.comp (State.bindWrite_keeps ..) | apply Keeps.comp (State.allotBusy_keeps ..)
    | apply Keeps.comp (State.tripGates_keeps ..)

theorem State.setCanCh_keeps (s : State) (c : Nat) (x : CanCh) : Keeps s (State.setCanCh s c x) := by
  unfold State.setCanCh
  with_reducible repeat' first
    | exact Keeps.refl _ | simp -zeta only [Keeps.upd_iff]

theorem State.setCanBuf_keeps (s : State) (c b : Nat) (x : CanBuf) : Keeps s (State.setCanBuf s c b x) := by
  unfold State.setCanBuf
  with_reducible repeat' first
    | exact Keeps.refl _ | (extract_lets +onlyGivenNames x; clear_value x) | apply Keeps.comp (State.setCanCh_keeps ..)

theorem State.setMb_keeps (s : State) (c b v : Nat) : Keeps s (State.setMb s c b v) := by
  unfold State.setMb
  with_reducible repeat' first
    | exact Keeps.refl _ | apply Keeps.comp (State.setFld_keeps ..)

theorem State.setBus_keeps (s : State) (c v : Nat) : Keeps s (State.setBus s c v) := by
  unfold State.setBus
  with_reducible repeat' first
    | exact Keeps.refl _ | apply Keeps.comp (State.setFld_keeps ..)

theorem State.mbAll_keeps (s : State) (c : Nat) (frm dst : Nat) : Keeps s (State.mbAll s c frm dst) := by
  unfold State.mbAll
  with_reducible repeat' first
    | exact Keeps.refl _ | refine Keeps.ite ?_ ?_ | apply Keeps.comp (State.setMb_keeps ..) | refine Keeps.foldl ?_ ?_
    | (intro _; beta_reduce)

theorem State.canCtrlWrite_keeps (s : State) (c : Nat) (w : Word) : Keeps s (State.canCtrlWrite s c w) := by
  unfold State.canCtrlWrite
  with_reducible repeat' first
    | assumption | exact Keeps.refl _
    | (extract_lets +onlyGivenNames x; refine Keeps.cut (x := x) ?_ ?_; rotate_left; intro hx; clear_value x; rotate_right; subst x)
    | (extract_lets +onlyGivenNames x; clear_value x) | refine Keeps.ite ?_ ?_ | apply Keeps.comp (State.setReg_keeps ..)
    | apply Keeps.comp (State.event_keeps ..) | apply Keeps.comp (State.setCanCh_keeps ..)

theorem execCanModeWrite_keeps (ch : Fin 16) (w : Word) (s : State) : OutKeeps s (execCanModeWrite ch w s) := by
  unfold execCanModeWrite
  first | refine OutKeeps.onCore ?_ | refine OutKeeps.next ?_
  try beta_reduce
  with_reducible repeat' first
    | exact Keeps.refl _ | apply Keeps.comp (State.canCtrlWrite_keeps ..)

theorem execRecover_keeps (ch : Fin 16) (s : State) : OutKeeps s (execRecover ch s) := by
  unfold execRecover
  first | refine OutKeeps.onCore ?_ | refine OutKeeps.next ?_
  try beta_reduce
  with_reducible repeat' first
    | exact Keeps.refl _ | (extract_lets +onlyGivenNames x; clear_value x) | apply Keeps.comp (State.setCanCh_keeps ..)

theorem State.canBtWrite_keeps (s : State) (c a : Nat) (w : Word) : Keeps s (State.canBtWrite s c a w) := by
  unfold State.canBtWrite
  with_reducible repeat' first
    | exact Keeps.refl _ | refine Keeps.ite ?_ ?_ | apply Keeps.comp (State.setReg_keeps ..) | apply Keeps.comp (State.event_keeps ..)

theorem State.canModeLand_keeps (s : State) (c m : Nat) : Keeps s (State.canModeLand s c m) := by
  unfold State.canModeLand
  with_reducible repeat' first
    | assumption | exact Keeps.refl _
    | (extract_lets +onlyGivenNames x; refine Keeps.cut (x := x) ?_ ?_; rotate_left; intro hx; clear_value x; rotate_right; subst x)
    | (extract_lets +onlyGivenNames x; clear_value x) | refine Keeps.ite ?_ ?_ | apply Keeps.comp (State.setFld_keeps ..)
    | apply Keeps.comp (State.setCanCh_keeps ..) | apply Keeps.comp (State.setBus_keeps ..) | apply Keeps.comp (State.mbAll_keeps ..)

theorem State.canRecover_keeps (s : State) (c : Nat) : Keeps s (State.canRecover s c) := by
  unfold State.canRecover
  with_reducible repeat' first
    | exact Keeps.refl _ | refine Keeps.ite ?_ ?_ | apply Keeps.comp (State.setBus_keeps ..)

theorem State.canIntegrated_keeps (s : State) (c : Nat) : Keeps s (State.canIntegrated s c) := by
  unfold State.canIntegrated
  with_reducible repeat' first
    | assumption | exact Keeps.refl _
    | (extract_lets +onlyGivenNames x; refine Keeps.cut (x := x) ?_ ?_; rotate_left; intro hx; clear_value x; rotate_right; subst x)
    | refine Keeps.ite ?_ ?_ | apply Keeps.comp (State.setBus_keeps ..) | apply Keeps.comp (State.mbAll_keeps ..)

theorem execCanIntegrated_keeps (ch : Fin 16) (s : State) : OutKeeps s (execCanIntegrated ch s) := by
  unfold execCanIntegrated
  first | refine OutKeeps.onCore ?_ | refine OutKeeps.next ?_
  try beta_reduce
  with_reducible repeat' first
    | exact Keeps.refl _ | apply Keeps.comp (State.canIntegrated_keeps ..)

theorem State.canRecovered_keeps (s : State) (c : Nat) : Keeps s (State.canRecovered s c) := by
  unfold State.canRecovered
  with_reducible repeat' first
    | assumption | exact Keeps.refl _
    | (extract_lets +onlyGivenNames x; refine Keeps.cut (x := x) ?_ ?_; rotate_left; intro hx; clear_value x; rotate_right; subst x)
    | refine Keeps.ite ?_ ?_ | apply Keeps.comp (State.setFld_keeps ..) | apply Keeps.comp (State.fire_keeps ..)
    | apply Keeps.comp (State.setBus_keeps ..) | apply Keeps.comp (State.mbAll_keeps ..)

theorem execCanRecovered_keeps (ch : Fin 16) (s : State) : OutKeeps s (execCanRecovered ch s) := by
  unfold execCanRecovered
  first | refine OutKeeps.onCore ?_ | refine OutKeeps.next ?_
  try beta_reduce
  with_reducible repeat' first
    | exact Keeps.refl _ | apply Keeps.comp (State.canRecovered_keeps ..)

theorem State.canBusOff_keeps (s : State) (c : Nat) : Keeps s (State.canBusOff s c) := by
  unfold State.canBusOff
  with_reducible repeat' first
    | assumption | exact Keeps.refl _
    | (extract_lets +onlyGivenNames x; refine Keeps.cut (x := x) ?_ ?_; rotate_left; intro hx; clear_value x; rotate_right; subst x)
    | (extract_lets +onlyGivenNames x; clear_value x) | refine Keeps.ite ?_ ?_ | split | apply Keeps.comp (State.setFlag_keeps ..)
    | apply Keeps.comp (State.incFld_keeps ..) | apply Keeps.comp (State.fire_keeps ..) | apply Keeps.comp (State.setCanCh_keeps ..)
    | apply Keeps.comp (State.setCanBuf_keeps ..) | apply Keeps.comp (State.setMb_keeps ..) | apply Keeps.comp (State.setBus_keeps ..)
    | apply Keeps.comp (State.mbAll_keeps ..) | apply Keeps.comp (State.canRecover_keeps ..)

theorem State.canConfine_keeps (s : State) (c : Nat) : Keeps s (State.canConfine s c) := by
  unfold State.canConfine
  with_reducible repeat' first
    | exact Keeps.refl _ | (extract_lets +onlyGivenNames x; clear_value x) | refine Keeps.ite ?_ ?_ | split
    | apply Keeps.comp (State.setBus_keeps ..) | apply Keeps.comp (State.canBusOff_keeps ..)

theorem State.canError_keeps (s : State) (c : Nat) (tx eight : Bool) : Keeps s (State.canError s c tx eight) := by
  unfold State.canError
  with_reducible repeat' first
    | assumption | exact Keeps.refl _
    | (extract_lets +onlyGivenNames x; refine Keeps.cut (x := x) ?_ ?_; rotate_left; intro hx; clear_value x; rotate_right; subst x)
    | (extract_lets +onlyGivenNames x; clear_value x) | refine Keeps.ite ?_ ?_ | apply Keeps.comp (State.setFld_keeps ..)
    | apply Keeps.comp (State.canConfine_keeps ..)

theorem execCanError_keeps (ch : Fin 16) (tx eight : Bool) (s : State) : OutKeeps s (execCanError ch tx eight s) := by
  unfold execCanError
  first | refine OutKeeps.onCore ?_ | refine OutKeeps.next ?_
  try beta_reduce
  with_reducible repeat' first
    | exact Keeps.refl _ | apply Keeps.comp (State.canError_keeps ..)

theorem State.csend_keeps (s : State) (l : Nat) (t : TaskCtx) (rd ra rb : Fin 32) (word : Word) (size : Nat) : Keeps s (State.csend s l t rd ra rb word size) := by
  unfold State.csend
  with_reducible repeat' first
    | exact Keeps.refl _ | (extract_lets +onlyGivenNames x; clear_value x) | refine Keeps.ite ?_ ?_
    | apply Keeps.comp (State.modPart_keeps ..) | apply Keeps.comp (State.setG_keeps ..) | apply Keeps.comp (State.msgFail_keeps ..)
    | apply Keeps.comp (State.msgWindow_keeps (htooLong := ?_) (hbody := ?_) ..) | exact Keeps.ofId _ | (intro _; beta_reduce)

theorem execCsend_keeps (l : Fin 64) (q : PQ) (rd ra rb : Fin 32) (sz : Bool) (s : State) : OutKeeps s (execCsend l q rd ra rb sz s) := by
  unfold execCsend
  first | refine OutKeeps.onCore ?_ | refine OutKeeps.next ?_
  try beta_reduce
  with_reducible repeat' first
    | exact Keeps.refl _ | (extract_lets +onlyGivenNames x; clear_value x) | split
    | apply Keeps.comp (State.msgIns_keeps (hbody := ?_) ..) | apply Keeps.comp (State.csend_keeps ..) | (intro _; beta_reduce)

theorem State.canEnter_keeps (s : State) (e : CStage) : Keeps s (State.canEnter s e) := by
  unfold State.canEnter
  with_reducible repeat' first
    | assumption | exact Keeps.refl _
    | (extract_lets +onlyGivenNames x; refine Keeps.cut (x := x) ?_ ?_; rotate_left; intro hx; clear_value x; rotate_right; subst x)
    | (extract_lets +onlyGivenNames x; clear_value x) | refine Keeps.ite ?_ ?_ | split | apply Keeps.comp (State.setFld_keeps ..)
    | apply Keeps.comp (State.setFlag_keeps ..) | apply Keeps.comp (State.incFld_keeps ..) | apply Keeps.comp (State.setCanBuf_keeps ..)
    | apply Keeps.comp (State.setMb_keeps ..)

theorem State.canRelease_keeps (s : State) (p : Nat) : Keeps s (State.canRelease s p) := by
  unfold State.canRelease
  with_reducible repeat' first
    | exact Keeps.refl _ | (extract_lets +onlyGivenNames x; clear_value x) | refine Keeps.ite ?_ ?_
    | apply Keeps.comp (State.modPart_keeps ..) | apply Keeps.comp (State.canEnter_keeps ..) | refine Keeps.foldl ?_ ?_
    | (intro _; beta_reduce)

theorem State.canStop_keeps (s : State) (p : Nat) : Keeps s (State.canStop s p) := by
  unfold State.canStop
  with_reducible repeat' first
    | assumption | exact Keeps.refl _
    | (extract_lets +onlyGivenNames x; refine Keeps.cut (x := x) ?_ ?_; rotate_left; intro hx; clear_value x; rotate_right; subst x)
    | (extract_lets +onlyGivenNames x; clear_value x) | refine Keeps.ite ?_ ?_ | split | apply Keeps.comp (State.modPart_keeps ..)
    | apply Keeps.comp (State.setCanCh_keeps ..) | apply Keeps.comp (State.setMb_keeps ..) | refine Keeps.foldl ?_ ?_
    | (intro _; beta_reduce)

theorem State.canStart_keeps (s : State) (c : Nat) (sof : Word) : Keeps s (State.canStart s c sof) := by
  unfold State.canStart
  with_reducible repeat' first
    | assumption | exact Keeps.refl _
    | (extract_lets +onlyGivenNames x; refine Keeps.cut (x := x) ?_ ?_; rotate_left; intro hx; clear_value x; rotate_right; subst x)
    | (extract_lets +onlyGivenNames x; clear_value x) | refine Keeps.ite ?_ ?_ | split | apply Keeps.comp (State.incFld_keeps ..)
    | apply Keeps.comp (State.setCanCh_keeps ..) | apply Keeps.comp (State.setCanBuf_keeps ..) | apply Keeps.comp (State.setMb_keeps ..)

theorem execCanArbitrationStart_keeps (ch : Fin 16) (sof : Word) (s : State) : OutKeeps s (execCanArbitrationStart ch sof s) := by
  unfold execCanArbitrationStart
  first | refine OutKeeps.onCore ?_ | refine OutKeeps.next ?_
  try beta_reduce
  with_reducible repeat' first
    | exact Keeps.refl _ | apply Keeps.comp (State.canStart_keeps ..)

theorem State.canTxEnd_keeps (s : State) (c : Nat) (r : CanTxEnd) : Keeps s (State.canTxEnd s c r) := by
  unfold State.canTxEnd
  with_reducible repeat' first
    | assumption | exact Keeps.refl _
    | (extract_lets +onlyGivenNames x; refine Keeps.cut (x := x) ?_ ?_; rotate_left; intro hx; clear_value x; rotate_right; subst x)
    | (extract_lets +onlyGivenNames x; refine Keeps.cutF0 (f := x) ?_ ?_; rotate_left; intro hf0; clear_value x; rotate_right; subst x)
    | (extract_lets +onlyGivenNames x; clear_value x) | refine Keeps.ite ?_ ?_ | simp -zeta only [Keeps.upd_iff] | split
    | apply Keeps.comp (State.setFld_keeps ..) | apply Keeps.comp (State.setFlag_keeps ..) | apply Keeps.comp (State.incFld_keeps ..)
    | apply Keeps.comp (State.fire_keeps ..) | apply Keeps.comp (State.setCanCh_keeps ..) | apply Keeps.comp (State.setCanBuf_keeps ..)
    | apply Keeps.comp (State.setMb_keeps ..) | apply Keeps.comp (State.canConfine_keeps ..) | apply Keeps.comp (hf0 ..)
    | (intro _; beta_reduce)

theorem execCanTxEnd_keeps (ch : Fin 16) (r : CanTxEnd) (s : State) : OutKeeps s (execCanTxEnd ch r s) := by
  unfold execCanTxEnd
  first | refine OutKeeps.onCore ?_ | refine OutKeeps.next ?_
  try beta_reduce
  with_reducible repeat' first
    | exact Keeps.refl _ | apply Keeps.comp (State.canTxEnd_keeps ..)

theorem State.canAccept_keeps (s : State) (c b : Nat) (f : CanFrame) : Keeps s (State.canAccept s c b f) := by
  unfold State.canAccept
  with_reducible repeat' first
    | assumption | exact Keeps.refl _
    | (extract_lets +onlyGivenNames x; refine Keeps.cut (x := x) ?_ ?_; rotate_left; intro hx; clear_value x; rotate_right; subst x)
    | (extract_lets +onlyGivenNames x; refine Keeps.cut (x := x.2) ?_ ?_; rotate_left; intro hx; clear_value x; rotate_right; subst x)
    | (extract_lets +onlyGivenNames x; clear_value x) | refine Keeps.ite ?_ ?_ | apply Keeps.comp (State.setFld_keeps ..)
    | apply Keeps.comp (State.incFld_keeps ..) | apply Keeps.comp (State.newHold_keeps ..) | apply Keeps.comp (State.ringPush_keeps ..)
    | apply Keeps.comp (State.setCanBuf_keeps ..) | apply Keeps.comp (State.setMb_keeps ..)

theorem State.canReceive_keeps (s : State) (c : Nat) (f : CanFrame) : Keeps s (State.canReceive s c f) := by
  unfold State.canReceive
  with_reducible repeat' first
    | assumption | exact Keeps.refl _
    | (extract_lets +onlyGivenNames x; refine Keeps.cut (x := x) ?_ ?_; rotate_left; intro hx; clear_value x; rotate_right; subst x)
    | (extract_lets +onlyGivenNames x; refine Keeps.cutF0 (f := x) ?_ ?_; rotate_left; intro hf0; clear_value x; rotate_right; subst x)
    | (extract_lets +onlyGivenNames x; clear_value x) | refine Keeps.ite ?_ ?_ | simp -zeta only [Keeps.upd_iff] | split
    | apply Keeps.comp (State.setFld_keeps ..) | apply Keeps.comp (State.incFld_keeps ..) | apply Keeps.comp (State.draw_keeps ..)
    | apply Keeps.comp (State.fire_keeps ..) | apply Keeps.comp (State.canConfine_keeps ..) | apply Keeps.comp (State.canAccept_keeps ..)
    | apply Keeps.comp (hf0 ..) | (intro _; beta_reduce)

theorem execCanFrameReceived_keeps (ch : Fin 16) (f : CanFrame) (s : State) : OutKeeps s (execCanFrameReceived ch f s) := by
  unfold execCanFrameReceived
  first | refine OutKeeps.onCore ?_ | refine OutKeeps.next ?_
  try beta_reduce
  with_reducible repeat' first
    | exact Keeps.refl _ | apply Keeps.comp (State.canReceive_keeps ..)

theorem State.pmapWrite_keeps (s : State) (c m : Nat) (hi : Bool) (w : Word) : Keeps s (State.pmapWrite s c m hi w) := by
  unfold State.pmapWrite
  with_reducible repeat' first
    | assumption | exact Keeps.refl _
    | (extract_lets +onlyGivenNames x; refine Keeps.cut (x := x) ?_ ?_; rotate_left; intro hx; clear_value x; rotate_right; subst x)
    | (extract_lets +onlyGivenNames x; clear_value x) | refine Keeps.ite ?_ ?_ | split | apply Keeps.comp (State.event_keeps ..)
    | apply Keeps.comp (State.bindWrite_keeps ..) | apply Keeps.comp (State.setCanCh_keeps ..)

theorem execCanPmapWrite_keeps (ch : Fin 16) (m : Fin 28) (hi : Bool) (w : Word) (s : State) : OutKeeps s (execCanPmapWrite ch m hi w s) := by
  unfold execCanPmapWrite
  first | refine OutKeeps.onCore ?_ | refine OutKeeps.next ?_
  try beta_reduce
  with_reducible repeat' first
    | exact Keeps.refl _ | apply Keeps.comp (State.pmapWrite_keeps ..)

theorem State.canMapsStale_keeps (s : State) : Keeps s (State.canMapsStale s) := by
  unfold State.canMapsStale
  with_reducible repeat' first
    | exact Keeps.refl _ | (extract_lets +onlyGivenNames x; clear_value x) | refine Keeps.ite ?_ ?_
    | apply Keeps.comp (State.event_keeps ..) | apply Keeps.comp (State.setCanCh_keeps ..) | refine Keeps.foldl ?_ ?_
    | (intro _; beta_reduce)

theorem State.canSnap_keeps (s : State) : Keeps s (State.canSnap s) := by
  unfold State.canSnap
  with_reducible repeat' first
    | exact Keeps.refl _ | apply Keeps.comp (State.setFld_keeps ..) | refine Keeps.foldl ?_ ?_ | (intro _; beta_reduce)

theorem State.canLanding_keeps (s : State) : Keeps s (State.canLanding s) := by
  unfold State.canLanding
  with_reducible repeat' first
    | assumption | exact Keeps.refl _
    | (extract_lets +onlyGivenNames x; refine Keeps.cut (x := x) ?_ ?_; rotate_left; intro hx; clear_value x; rotate_right; subst x)
    | (extract_lets +onlyGivenNames x; clear_value x) | refine Keeps.ite ?_ ?_ | split | apply Keeps.comp (State.setReg_keeps ..)
    | apply Keeps.comp (State.setCanCh_keeps ..) | apply Keeps.comp (State.canModeLand_keeps ..)
    | apply Keeps.comp (State.canRecover_keeps ..) | refine Keeps.foldl ?_ ?_ | (intro _; beta_reduce)

theorem State.canAllotWrite_keeps (s : State) (c b a : Nat) (w : Word) : Keeps s (State.canAllotWrite s c b a w) := by
  unfold State.canAllotWrite
  with_reducible repeat' first
    | exact Keeps.refl _ | (extract_lets +onlyGivenNames x; clear_value x) | refine Keeps.ite ?_ ?_
    | apply Keeps.comp (State.setReg_keeps ..) | apply Keeps.comp (State.bindWrite_keeps ..) | apply Keeps.comp (State.allotBusy_keeps ..)
    | apply Keeps.comp (State.setCanBuf_keeps ..)

end Sys2Proof.Machine
end

