-- ==== Sys2Proof/Laws/KeepsUnits.lean ====
section
/-!
SUPPORT. Every operation of safety functions, the hawser, coordinated change and twins leaves the queue as it is and keeps the canonical form of the stores.
-/
namespace Sys2Proof.Machine

theorem State.setSafeIn_keeps (s : State) (i : Nat) (x : SafeIn) : Keeps s (State.setSafeIn s i x) := by
  unfold State.setSafeIn
  with_reducible repeat' first
    | exact Keeps.refl _ | (extract_lets +onlyGivenNames x; clear_value x) | simp -zeta only [Keeps.upd_iff]

theorem State.setSafeOut_keeps (s : State) (o : Nat) (x : SafeOut) : Keeps s (State.setSafeOut s o x) := by
  unfold State.setSafeOut
  with_reducible repeat' first
    | exact Keeps.refl _ | (extract_lets +onlyGivenNames x; clear_value x) | simp -zeta only [Keeps.upd_iff]

theorem State.setSafeRx_keeps (s : State) (c : Nat) (x : SafeRx) : Keeps s (State.setSafeRx s c x) := by
  unfold State.setSafeRx
  with_reducible repeat' first
    | exact Keeps.refl _ | (extract_lets +onlyGivenNames x; clear_value x) | simp -zeta only [Keeps.upd_iff]

theorem State.safeLog_keeps (s : State) (kind : Nat) (v cert : Word) : Keeps s (State.safeLog s kind v cert) := by
  unfold State.safeLog
  with_reducible repeat' first
    | assumption | exact Keeps.refl _
    | (extract_lets +onlyGivenNames x; refine Keeps.cut (x := x) ?_ ?_; rotate_left; intro hx; clear_value x; rotate_right; subst x)
    | (extract_lets +onlyGivenNames x; clear_value x) | refine Keeps.ite ?_ ?_ | simp -zeta only [Keeps.upd_iff]
    | apply Keeps.comp (State.setFld_keeps ..) | apply Keeps.comp (State.incFld_keeps ..)

theorem State.safeCheck_keeps (s : State) (cert : Word) : Keeps s (State.safeCheck s cert) := by
  unfold State.safeCheck
  with_reducible repeat' first
    | assumption | exact Keeps.refl _
    | (extract_lets +onlyGivenNames x; refine Keeps.cut (x := x) ?_ ?_; rotate_left; intro hx; clear_value x; rotate_right; subst x)
    | (extract_lets +onlyGivenNames x; clear_value x) | refine Keeps.ite ?_ ?_ | simp -zeta only [Keeps.upd_iff]
    | apply Keeps.comp (State.setFld_keeps ..)

theorem State.safeApply_keeps (s : State) (sess : Nat) : Keeps s (State.safeApply s sess) := by
  unfold State.safeApply
  with_reducible repeat' first
    | exact Keeps.refl _ | refine Keeps.ite ?_ ?_ | apply Keeps.comp (State.setFld_keeps ..) | apply Keeps.comp (State.safeCheck_keeps ..)

theorem State.safeLock_keeps (s : State) : Keeps s (State.safeLock s) := by
  unfold State.safeLock
  with_reducible repeat' first
    | exact Keeps.refl _ | (extract_lets +onlyGivenNames x; clear_value x) | simp -zeta only [Keeps.upd_iff]

theorem State.safeCfgWrite_keeps (s : State) (a : Nat) (w : Word) : Keeps s (State.safeCfgWrite s a w) := by
  unfold State.safeCfgWrite
  with_reducible repeat' first
    | exact Keeps.refl _ | (extract_lets +onlyGivenNames x; clear_value x) | refine Keeps.ite ?_ ?_
    | apply Keeps.comp (State.setReg_keeps ..) | apply Keeps.comp (State.event_keeps ..)

theorem execSafeApply_keeps (sess : BitVec 32) (s : State) : OutKeeps s (execSafeApply sess s) := by
  unfold execSafeApply
  first | refine OutKeeps.onCore ?_ | refine OutKeeps.next ?_
  try beta_reduce
  with_reducible repeat' first
    | exact Keeps.refl _ | apply Keeps.comp (State.safeApply_keeps ..)

theorem execSafeLock_keeps (_sess : BitVec 32) (s : State) : OutKeeps s (execSafeLock _sess s) := by
  unfold execSafeLock
  first | refine OutKeeps.onCore ?_ | refine OutKeeps.next ?_
  try beta_reduce
  with_reducible repeat' first
    | exact Keeps.refl _ | apply Keeps.comp (State.safeLock_keeps ..)

theorem execSafeCfgWrite_keeps (_sess a : BitVec 32) (w : Word) (s : State) : OutKeeps s (execSafeCfgWrite _sess a w s) := by
  unfold execSafeCfgWrite
  first | refine OutKeeps.onCore ?_ | refine OutKeeps.next ?_
  try beta_reduce
  with_reducible repeat' first
    | exact Keeps.refl _ | refine Keeps.ite ?_ ?_ | apply Keeps.comp (State.safeCfgWrite_keeps ..)

theorem State.safeActivate_keeps (s : State) : Keeps s (State.safeActivate s) := by
  unfold State.safeActivate
  with_reducible repeat' first
    | assumption | exact Keeps.refl _
    | (extract_lets +onlyGivenNames x; refine Keeps.cut (x := x) ?_ ?_; rotate_left; intro hx; clear_value x; rotate_right; subst x)
    | (extract_lets +onlyGivenNames x; clear_value x) | simp -zeta only [Keeps.upd_iff] | split | apply Keeps.comp (State.setReg_keeps ..)
    | apply Keeps.comp (State.setFld_keeps ..) | apply Keeps.comp (State.safeLog_keeps ..) | refine Keeps.foldl ?_ ?_
    | (intro _; beta_reduce)

theorem State.safeAllOff_keeps (s : State) : Keeps s (State.safeAllOff s) := by
  unfold State.safeAllOff
  with_reducible repeat' first
    | exact Keeps.refl _ | (extract_lets +onlyGivenNames x; clear_value x) | simp -zeta only [Keeps.upd_iff]

theorem State.safeGlobal_keeps (s : State) (cause : Nat) : Keeps s (State.safeGlobal s cause) := by
  unfold State.safeGlobal
  with_reducible repeat' first
    | exact Keeps.refl _ | refine Keeps.ite ?_ ?_ | apply Keeps.comp (State.setFld_keeps ..) | apply Keeps.comp (State.event_keeps ..)
    | apply Keeps.comp (State.safeAllOff_keeps ..)

theorem State.siShow_keeps (s : State) (i : Nat) : Keeps s (State.siShow s i) := by
  unfold State.siShow
  with_reducible repeat' first
    | assumption | exact Keeps.refl _
    | (extract_lets +onlyGivenNames x; refine Keeps.cut (x := x) ?_ ?_; rotate_left; intro hx; clear_value x; rotate_right; subst x)
    | apply Keeps.comp (State.setFld_keeps ..) | apply Keeps.comp (State.setFlag_keeps ..)

theorem State.siFault_keeps (s : State) (i code : Nat) : Keeps s (State.siFault s i code) := by
  unfold State.siFault
  with_reducible repeat' first
    | exact Keeps.refl _ | (extract_lets +onlyGivenNames x; clear_value x) | refine Keeps.ite ?_ ?_ | split
    | apply Keeps.comp (State.setSafeIn_keeps ..) | apply Keeps.comp (State.siShow_keeps ..)

theorem State.siFree_keeps (s : State) (i code : Nat) : Keeps s (State.siFree s i code) := by
  unfold State.siFree
  with_reducible repeat' first
    | exact Keeps.refl _ | (extract_lets +onlyGivenNames x; clear_value x) | apply Keeps.comp (State.setSafeIn_keeps ..)
    | apply Keeps.comp (State.siShow_keeps ..)

theorem State.siChange_keeps (s : State) (fb : Bool) (i : Nat) (v : Bool) : Keeps s (State.siChange s fb i v) := by
  unfold State.siChange
  with_reducible repeat' first
    | assumption | exact Keeps.refl _
    | (extract_lets +onlyGivenNames x; refine Keeps.cut (x := x) ?_ ?_; rotate_left; intro hx; clear_value x; rotate_right; subst x)
    | (extract_lets +onlyGivenNames x; clear_value x) | refine Keeps.ite ?_ ?_ | simp -zeta only [Keeps.upd_iff]
    | apply Keeps.comp (State.setFlag_keeps ..) | apply Keeps.comp (State.setSafeIn_keeps ..) | apply Keeps.comp (State.siShow_keeps ..)

theorem execSiFilterChange_keeps (fb : Bool) (i : Fin 16) (v : Bool) (s : State) : OutKeeps s (execSiFilterChange fb i v s) := by
  unfold execSiFilterChange
  first | refine OutKeeps.onCore ?_ | refine OutKeeps.next ?_
  try beta_reduce
  with_reducible repeat' first
    | exact Keeps.refl _ | apply Keeps.comp (State.siChange_keeps ..)

theorem State.tpWindow_keeps (s : State) (t zeros : Nat) : Keeps s (State.tpWindow s t zeros) := by
  unfold State.tpWindow
  with_reducible repeat' first
    | assumption | exact Keeps.refl _
    | (extract_lets +onlyGivenNames x; refine Keeps.cut (x := x) ?_ ?_; rotate_left; intro hx; clear_value x; rotate_right; subst x)
    | (extract_lets +onlyGivenNames x; clear_value x) | refine Keeps.ite ?_ ?_ | split | apply Keeps.comp (State.setSafeIn_keeps ..)
    | apply Keeps.comp (State.siFault_keeps ..) | refine Keeps.foldl ?_ ?_ | (intro _; beta_reduce)

theorem execTpCheckWindow_keeps (t : Fin 4) (zeros : BitVec 16) (s : State) : OutKeeps s (execTpCheckWindow t zeros s) := by
  unfold execTpCheckWindow
  first | refine OutKeeps.onCore ?_ | refine OutKeeps.next ?_
  try beta_reduce
  with_reducible repeat' first
    | exact Keeps.refl _ | apply Keeps.comp (State.tpWindow_keeps ..)

theorem State.siChatter_keeps (s : State) (i : Nat) : Keeps s (State.siChatter s i) := by
  unfold State.siChatter
  with_reducible repeat' first
    | assumption | exact Keeps.refl _
    | (extract_lets +onlyGivenNames x; refine Keeps.cut (x := x) ?_ ?_; rotate_left; intro hx; clear_value x; rotate_right; subst x)
    | (extract_lets +onlyGivenNames x; clear_value x) | refine Keeps.ite ?_ ?_ | apply Keeps.comp (State.setFld_keeps ..)
    | apply Keeps.comp (State.setSafeIn_keeps ..) | apply Keeps.comp (State.siFault_keeps ..) | apply Keeps.comp (State.siFree_keeps ..)

theorem State.siPair_keeps (s : State) (p : Nat) : Keeps s (State.siPair s p) := by
  unfold State.siPair
  with_reducible repeat' first
    | assumption | exact Keeps.refl _
    | (extract_lets +onlyGivenNames x; refine Keeps.cut (x := x) ?_ ?_; rotate_left; intro hx; clear_value x; rotate_right; subst x)
    | (extract_lets +onlyGivenNames x; clear_value x) | refine Keeps.ite ?_ ?_ | apply Keeps.comp (State.setFld_keeps ..)
    | apply Keeps.comp (State.siFault_keeps ..) | apply Keeps.comp (State.siFree_keeps ..)

theorem State.sqDrive_keeps (s : State) (o : Nat) (b : Bool) : Keeps s (State.sqDrive s o b) := by
  unfold State.sqDrive
  with_reducible repeat' first
    | assumption | exact Keeps.refl _
    | (extract_lets +onlyGivenNames x; refine Keeps.cut (x := x) ?_ ?_; rotate_left; intro hx; clear_value x; rotate_right; subst x)
    | (extract_lets +onlyGivenNames x; clear_value x) | simp -zeta only [Keeps.upd_iff] | apply Keeps.comp (State.setSafeOut_keeps ..)

theorem State.sqFail_keeps (s : State) (o code : Nat) : Keeps s (State.sqFail s o code) := by
  unfold State.sqFail
  with_reducible repeat' first
    | exact Keeps.refl _ | refine Keeps.ite ?_ ?_ | apply Keeps.comp (State.setFld_keeps ..) | apply Keeps.comp (State.sqDrive_keeps ..)

theorem State.sqReadback_keeps (s : State) (o : Nat) : Keeps s (State.sqReadback s o) := by
  unfold State.sqReadback
  with_reducible repeat' first
    | assumption | exact Keeps.refl _
    | (extract_lets +onlyGivenNames x; refine Keeps.cut (x := x) ?_ ?_; rotate_left; intro hx; clear_value x; rotate_right; subst x)
    | (extract_lets +onlyGivenNames x; clear_value x) | refine Keeps.ite ?_ ?_ | apply Keeps.comp (State.setFlag_keeps ..)
    | apply Keeps.comp (State.safeGlobal_keeps ..) | apply Keeps.comp (State.sqFail_keeps ..)

theorem execSqReadbackFault_keeps (o : Fin 8) (s : State) : OutKeeps s (execSqReadbackFault o s) := by
  unfold execSqReadbackFault
  first | refine OutKeeps.onCore ?_ | refine OutKeeps.next ?_
  try beta_reduce
  with_reducible repeat' first
    | exact Keeps.refl _ | apply Keeps.comp (State.sqReadback_keeps ..)

theorem State.sqTest_keeps (s : State) (o : Nat) (opened : Bool) : Keeps s (State.sqTest s o opened) := by
  unfold State.sqTest
  with_reducible repeat' first
    | exact Keeps.refl _ | refine Keeps.ite ?_ ?_ | apply Keeps.comp (State.safeGlobal_keeps ..)

theorem execSqSwitchOffTest_keeps (o : Fin 8) (opened : Bool) (s : State) : OutKeeps s (execSqSwitchOffTest o opened s) := by
  unfold execSqSwitchOffTest
  first | refine OutKeeps.onCore ?_ | refine OutKeeps.next ?_
  try beta_reduce
  with_reducible repeat' first
    | exact Keeps.refl _ | apply Keeps.comp (State.sqTest_keeps ..)

theorem State.sqOverload_keeps (s : State) (o : Nat) : Keeps s (State.sqOverload s o) := by
  unfold State.sqOverload
  with_reducible repeat' first
    | exact Keeps.refl _ | refine Keeps.ite ?_ ?_ | apply Keeps.comp (State.event_keeps ..) | apply Keeps.comp (State.sqFail_keeps ..)

theorem execSqOverload_keeps (o : Fin 8) (s : State) : OutKeeps s (execSqOverload o s) := by
  unfold execSqOverload
  first | refine OutKeeps.onCore ?_ | refine OutKeeps.next ?_
  try beta_reduce
  with_reducible repeat' first
    | exact Keeps.refl _ | apply Keeps.comp (State.sqOverload_keeps ..)

theorem State.sqEdm_keeps (s : State) (o : Nat) : Keeps s (State.sqEdm s o) := by
  unfold State.sqEdm
  with_reducible repeat' first
    | assumption | exact Keeps.refl _
    | (extract_lets +onlyGivenNames x; refine Keeps.cut (x := x) ?_ ?_; rotate_left; intro hx; clear_value x; rotate_right; subst x)
    | (extract_lets +onlyGivenNames x; clear_value x) | refine Keeps.ite ?_ ?_ | apply Keeps.comp (State.setSafeOut_keeps ..)
    | apply Keeps.comp (State.sqFail_keeps ..)

theorem State.sqEdge_keeps (s : State) : Keeps s (State.sqEdge s) := by
  unfold State.sqEdge
  with_reducible repeat' first
    | exact Keeps.refl _ | apply Keeps.comp (State.sqDrive_keeps ..) | refine Keeps.foldl ?_ ?_ | (intro _; beta_reduce)

theorem State.sqLockAll_keeps (s : State) : Keeps s (State.sqLockAll s) := by
  unfold State.sqLockAll
  with_reducible repeat' first
    | exact Keeps.refl _ | apply Keeps.comp (State.setFlag_keeps ..) | refine Keeps.foldl ?_ ?_ | (intro _; beta_reduce)

theorem State.vsoOff_keeps (s : State) : Keeps s (State.vsoOff s) := by
  unfold State.vsoOff
  with_reducible repeat' first
    | assumption | exact Keeps.refl _
    | (extract_lets +onlyGivenNames x; refine Keeps.cut (x := x) ?_ ?_; rotate_left; intro hx; clear_value x; rotate_right; subst x)
    | (extract_lets +onlyGivenNames x; clear_value x) | simp -zeta only [Keeps.upd_iff] | apply Keeps.comp (State.setFlag_keeps ..)
    | apply Keeps.comp (State.safeAllOff_keeps ..)

theorem State.vsoOn_keeps (s : State) : Keeps s (State.vsoOn s) := by
  unfold State.vsoOn
  with_reducible repeat' first
    | assumption | exact Keeps.refl _
    | (extract_lets +onlyGivenNames x; refine Keeps.cut (x := x) ?_ ?_; rotate_left; intro hx; clear_value x; rotate_right; subst x)
    | (extract_lets +onlyGivenNames x; clear_value x) | refine Keeps.ite ?_ ?_ | simp -zeta only [Keeps.upd_iff]
    | apply Keeps.comp (State.setFlag_keeps ..) | apply Keeps.comp (State.sqLockAll_keeps ..)

theorem State.ackDone_keeps (s : State) (cls idx : Nat) (cert : Word) : Keeps s (State.ackDone s cls idx cert) := by
  unfold State.ackDone
  with_reducible repeat' first
    | exact Keeps.refl _ | apply Keeps.comp (State.safeLog_keeps ..)

theorem State.ackRefused_keeps (s : State) (cls idx : Nat) (cert : Word) : Keeps s (State.ackRefused s cls idx cert) := by
  unfold State.ackRefused
  with_reducible repeat' first
    | exact Keeps.refl _ | apply Keeps.comp (State.event_keeps ..) | apply Keeps.comp (State.safeLog_keeps ..)

theorem State.rxShow_keeps (s : State) (c : Nat) : Keeps s (State.rxShow s c) := by
  unfold State.rxShow
  with_reducible repeat' first
    | assumption | exact Keeps.refl _
    | (extract_lets +onlyGivenNames x; refine Keeps.cut (x := x) ?_ ?_; rotate_left; intro hx; clear_value x; rotate_right; subst x)
    | (extract_lets +onlyGivenNames x; clear_value x) | split | apply Keeps.comp (State.setFld_keeps ..)

theorem State.safeAck1_keeps (s : State) (cls idx : Nat) (cert : Word) : Keeps s (State.safeAck1 s cls idx cert) := by
  unfold State.safeAck1
  with_reducible repeat' first
    | assumption | exact Keeps.refl _
    | (extract_lets +onlyGivenNames x; refine Keeps.cut (x := x) ?_ ?_; rotate_left; intro hx; clear_value x; rotate_right; subst x)
    | (extract_lets +onlyGivenNames x; clear_value x) | refine Keeps.ite ?_ ?_ | split | apply Keeps.comp (State.setFld_keeps ..)
    | apply Keeps.comp (State.setFlag_keeps ..) | apply Keeps.comp (State.setSafeOut_keeps ..)
    | apply Keeps.comp (State.setSafeRx_keeps ..) | apply Keeps.comp (State.siFree_keeps ..) | apply Keeps.comp (State.sqLockAll_keeps ..)
    | apply Keeps.comp (State.ackDone_keeps ..) | apply Keeps.comp (State.ackRefused_keeps ..) | apply Keeps.comp (State.rxShow_keeps ..)

theorem State.safeAckAll_keeps (s : State) : Keeps s (State.safeAckAll s) := by
  unfold State.safeAckAll
  with_reducible repeat' first
    | assumption | exact Keeps.refl _
    | (extract_lets +onlyGivenNames x; refine Keeps.cut (x := x) ?_ ?_; rotate_left; intro hx; clear_value x; rotate_right; subst x)
    | apply Keeps.comp (State.safeAck1_keeps ..) | refine Keeps.foldl ?_ ?_ | (intro _; beta_reduce)

theorem execSafeAck_keeps (sess : BitVec 32) (cls : Fin 4) (idx : Fin 32) (s : State) : OutKeeps s (execSafeAck sess cls idx s) := by
  unfold execSafeAck
  first | refine OutKeeps.onCore ?_ | refine OutKeeps.next ?_
  try beta_reduce
  with_reducible repeat' first
    | exact Keeps.refl _ | apply Keeps.comp (State.safeAck1_keeps ..)

theorem State.safeCommit_keeps (s : State) : Keeps s (State.safeCommit s) := by
  unfold State.safeCommit
  with_reducible repeat' first
    | assumption | exact Keeps.refl _
    | (extract_lets +onlyGivenNames x; refine Keeps.cut (x := x) ?_ ?_; rotate_left; intro hx; clear_value x; rotate_right; subst x)
    | (extract_lets +onlyGivenNames x; clear_value x) | refine Keeps.ite ?_ ?_ | simp -zeta only [Keeps.upd_iff]
    | apply Keeps.comp (State.setFld_keeps ..) | apply Keeps.comp (State.setFlag_keeps ..) | refine Keeps.foldl ?_ ?_
    | (intro _; beta_reduce)

theorem execSafeWatchdog_keeps (s : State) : OutKeeps s (execSafeWatchdog s) := by
  unfold execSafeWatchdog
  first | refine OutKeeps.onCore ?_ | refine OutKeeps.next ?_
  try beta_reduce
  with_reducible repeat' first
    | exact Keeps.refl _ | refine Keeps.ite ?_ ?_ | apply Keeps.comp (State.safeGlobal_keeps ..)

theorem execSafeMonitorSelftest_keeps (ok : Bool) (s : State) : OutKeeps s (execSafeMonitorSelftest ok s) := by
  unfold execSafeMonitorSelftest
  first | refine OutKeeps.onCore ?_ | refine OutKeeps.next ?_
  try beta_reduce
  with_reducible repeat' first
    | assumption | exact Keeps.refl _
    | (extract_lets +onlyGivenNames x; refine Keeps.cut (x := x) ?_ ?_; rotate_left; intro hx; clear_value x; rotate_right; subst x)
    | (extract_lets +onlyGivenNames x; clear_value x) | refine Keeps.ite ?_ ?_ | simp -zeta only [Keeps.upd_iff]
    | apply Keeps.comp (State.safeGlobal_keeps ..)

theorem State.telegrams_keeps (s : State) : Keeps s (State.telegrams s).2 := by
  unfold State.telegrams
  with_reducible repeat' first
    | assumption | exact Keeps.refl _
    | (extract_lets +onlyGivenNames x; refine Keeps.cut (x := x) ?_ ?_; rotate_left; intro hx; clear_value x; rotate_right; subst x)
    | (extract_lets +onlyGivenNames x; clear_value x) | simp -zeta only [Keeps.upd_iff] | split

theorem State.rxLand_keeps (s : State) (c : Nat) : Keeps s (State.rxLand s c) := by
  unfold State.rxLand
  with_reducible repeat' first
    | assumption | exact Keeps.refl _
    | (extract_lets +onlyGivenNames x; refine Keeps.cut (x := x) ?_ ?_; rotate_left; intro hx; clear_value x; rotate_right; subst x)
    | (extract_lets +onlyGivenNames x; clear_value x) | refine Keeps.ite ?_ ?_ | split | apply Keeps.comp (State.setFld_keeps ..)
    | apply Keeps.comp (State.setSafeRx_keeps ..) | apply Keeps.comp (State.rxShow_keeps ..)

theorem execSafeRxTimeout_keeps (c : Fin 32) (s : State) : OutKeeps s (execSafeRxTimeout c s) := by
  unfold execSafeRxTimeout
  first | refine OutKeeps.onCore ?_ | refine OutKeeps.next ?_
  try beta_reduce
  with_reducible repeat' first
    | exact Keeps.refl _ | (extract_lets +onlyGivenNames x; clear_value x) | refine Keeps.ite ?_ ?_
    | apply Keeps.comp (State.setFld_keeps ..)

theorem execFogExpired_keeps (c : Fin 32) (s : State) : OutKeeps s (execFogExpired c s) := by
  unfold execFogExpired
  first | refine OutKeeps.onCore ?_ | refine OutKeeps.next ?_
  try beta_reduce
  with_reducible repeat' first
    | exact Keeps.refl _ | (extract_lets +onlyGivenNames x; clear_value x) | refine Keeps.ite ?_ ?_ | split
    | apply Keeps.comp (State.setSafeRx_keeps ..) | apply Keeps.comp (State.rxShow_keeps ..)

theorem State.safeEdge_keeps (s : State) (si sq : Nat) : Keeps s (State.safeEdge s si sq) := by
  unfold State.safeEdge
  with_reducible repeat' first
    | assumption | exact Keeps.refl _
    | (extract_lets +onlyGivenNames x; refine Keeps.cut (x := x) ?_ ?_; rotate_left; intro hx; clear_value x; rotate_right; subst x)
    | (extract_lets +onlyGivenNames x; clear_value x) | refine Keeps.ite ?_ ?_ | simp -zeta only [Keeps.upd_iff]
    | apply Keeps.comp (State.setFlag_keeps ..) | apply Keeps.comp (State.setSafeIn_keeps ..)
    | apply Keeps.comp (State.safeActivate_keeps ..) | apply Keeps.comp (State.safeGlobal_keeps ..)
    | apply Keeps.comp (State.siShow_keeps ..) | apply Keeps.comp (State.siChatter_keeps ..) | apply Keeps.comp (State.siPair_keeps ..)
    | apply Keeps.comp (State.sqEdm_keeps ..) | apply Keeps.comp (State.sqEdge_keeps ..) | apply Keeps.comp (State.safeAckAll_keeps ..)
    | apply Keeps.comp (State.rxLand_keeps ..) | refine Keeps.foldl ?_ ?_ | (intro _; beta_reduce)

theorem State.presentFailed_keeps (s : State) (cert : Word) : Keeps s (State.presentFailed s cert) := by
  unfold State.presentFailed
  with_reducible repeat' first
    | assumption | exact Keeps.refl _
    | (extract_lets +onlyGivenNames x; refine Keeps.cut (x := x) ?_ ?_; rotate_left; intro hx; clear_value x; rotate_right; subst x)
    | (extract_lets +onlyGivenNames x; clear_value x) | refine Keeps.ite ?_ ?_ | simp -zeta only [Keeps.upd_iff]
    | apply Keeps.comp (State.setFlag_keeps ..) | apply Keeps.comp (State.safeLog_keeps ..)

theorem State.setPassword_keeps (s : State) (b : List Byte) (cert : Word) : Keeps s (State.setPassword s b cert) := by
  unfold State.setPassword
  with_reducible repeat' first
    | assumption | exact Keeps.refl _
    | (extract_lets +onlyGivenNames x; refine Keeps.cut (x := x) ?_ ?_; rotate_left; intro hx; clear_value x; rotate_right; subst x)
    | (extract_lets +onlyGivenNames x; clear_value x) | simp -zeta only [Keeps.upd_iff] | apply Keeps.comp (State.setFlag_keeps ..)
    | apply Keeps.comp (State.safeLog_keeps ..)

theorem State.safeUnlock_keeps (s : State) (sess : Nat) (b : List Byte) : Keeps s (State.safeUnlock s sess b).2 := by
  unfold State.safeUnlock
  with_reducible repeat' first
    | exact Keeps.refl _ | (extract_lets +onlyGivenNames x; clear_value x) | simp -zeta only [Keeps.upd_iff] | split
    | apply Keeps.comp (State.presentFailed_keeps ..)

theorem State.safePassword_keeps (s : State) (sess : Nat) (old new' : List Byte) : Keeps s (State.safePassword s sess old new').2 := by
  unfold State.safePassword
  with_reducible repeat' first
    | exact Keeps.refl _ | simp -zeta only [Keeps.upd_iff] | split | apply Keeps.comp (State.presentFailed_keeps ..)
    | apply Keeps.comp (State.setPassword_keeps ..)

theorem execSafeUnlockExpiry_keeps (s : State) : OutKeeps s (execSafeUnlockExpiry s) := by
  unfold execSafeUnlockExpiry
  first | refine OutKeeps.onCore ?_ | refine OutKeeps.next ?_
  try beta_reduce
  with_reducible repeat' first
    | exact Keeps.refl _ | refine Keeps.ite ?_ ?_ | split | apply Keeps.comp (State.safeLock_keeps ..)

theorem execLockoutExpiry_keeps (s : State) : OutKeeps s (execLockoutExpiry s) := by
  unfold execLockoutExpiry
  first | refine OutKeeps.onCore ?_ | refine OutKeeps.next ?_
  try beta_reduce
  with_reducible repeat' first
    | assumption | exact Keeps.refl _
    | (extract_lets +onlyGivenNames x; refine Keeps.cut (x := x) ?_ ?_; rotate_left; intro hx; clear_value x; rotate_right; subst x)
    | (extract_lets +onlyGivenNames x; clear_value x) | refine Keeps.ite ?_ ?_ | simp -zeta only [Keeps.upd_iff] | split
    | apply Keeps.comp (State.setFlag_keeps ..)

theorem State.setHaw_keeps (s : State) (f : HawSt → HawSt) : Keeps s (State.setHaw s f) := by
  unfold State.setHaw
  with_reducible repeat' first
    | exact Keeps.refl _ | simp -zeta only [Keeps.upd_iff]

theorem State.manage_keeps (s : State) (dst kind : Nat) (body : List Nat) : Keeps s (State.manage s dst kind body) := by
  unfold State.manage
  with_reducible repeat' first
    | exact Keeps.refl _ | apply Keeps.comp (State.send_keeps ..) | apply Keeps.comp (State.setHaw_keeps ..)

theorem State.enumerate_keeps (s : State) : Keeps s (State.enumerate s) := by
  unfold State.enumerate
  with_reducible repeat' first
    | assumption | exact Keeps.refl _
    | (extract_lets +onlyGivenNames x; refine Keeps.cut (x := x) ?_ ?_; rotate_left; intro hx; clear_value x; rotate_right; subst x)
    | refine Keeps.ite ?_ ?_ | apply Keeps.comp (State.send_keeps ..) | apply Keeps.comp (State.setHaw_keeps ..)

theorem execHawEnum_keeps (s : State) : OutKeeps s (execHawEnum s) := by
  unfold execHawEnum
  first | refine OutKeeps.onCore ?_ | refine OutKeeps.next ?_
  try beta_reduce
  with_reducible repeat' first
    | exact Keeps.refl _ | refine Keeps.ite ?_ ?_ | apply Keeps.comp (State.event_keeps ..) | apply Keeps.comp (State.enumerate_keeps ..)

theorem execEnumReceived_keeps (h : Fin 4) (units : List EnumUnit) (s : State) : OutKeeps s (execEnumReceived h units s) := by
  unfold execEnumReceived
  first | refine OutKeeps.onCore ?_ | refine OutKeeps.next ?_
  try beta_reduce
  with_reducible repeat' first
    | exact Keeps.refl _ | refine Keeps.ite ?_ ?_ | apply Keeps.comp (State.send_keeps ..)

theorem execEnumCollected_keeps (la lb : List EnumUnit) (s : State) : OutKeeps s (execEnumCollected la lb s) := by
  unfold execEnumCollected
  first | refine OutKeeps.onCore ?_ | refine OutKeeps.next ?_
  try beta_reduce
  with_reducible repeat' first
    | exact Keeps.refl _ | (extract_lets +onlyGivenNames x; clear_value x) | refine Keeps.ite ?_ ?_
    | apply Keeps.comp (State.send_keeps ..) | apply Keeps.comp (State.setHaw_keeps ..)

theorem State.assignEffect_keeps (s : State) (a : Assign) : Keeps s (State.assignEffect s a) := by
  unfold State.assignEffect
  with_reducible repeat' first
    | assumption | exact Keeps.refl _
    | (extract_lets +onlyGivenNames x; refine Keeps.cut (x := x) ?_ ?_; rotate_left; intro hx; clear_value x; rotate_right; subst x)
    | (extract_lets +onlyGivenNames x; clear_value x) | refine Keeps.ite ?_ ?_ | simp -zeta only [Keeps.upd_iff] | split
    | apply Keeps.comp (State.setFld_keeps ..) | apply Keeps.comp (State.event_keeps ..) | apply Keeps.comp (State.setHaw_keeps ..)

theorem execAssignEffect_keeps (a : Assign) (s : State) : OutKeeps s (execAssignEffect a s) := by
  unfold execAssignEffect
  first | refine OutKeeps.onCore ?_ | refine OutKeeps.next ?_
  try beta_reduce
  with_reducible repeat' first
    | exact Keeps.refl _ | apply Keeps.comp (State.assignEffect_keeps ..)

theorem execHawserLinkDown_keeps (h : Fin 4) (s : State) : OutKeeps s (execHawserLinkDown h s) := by
  unfold execHawserLinkDown
  first | refine OutKeeps.onCore ?_ | refine OutKeeps.next ?_
  try beta_reduce
  with_reducible repeat' first
    | exact Keeps.refl _ | refine Keeps.ite ?_ ?_ | apply Keeps.comp (State.setFlag_keeps ..) | apply Keeps.comp (State.event_keeps ..)

theorem execHawserLinkUp_keeps (h : Fin 4) (nbr : Fin 64) (joined : Bool) (s : State) : OutKeeps s (execHawserLinkUp h nbr joined s) := by
  unfold execHawserLinkUp
  first | refine OutKeeps.onCore ?_ | refine OutKeeps.next ?_
  try beta_reduce
  with_reducible repeat' first
    | assumption | exact Keeps.refl _
    | (extract_lets +onlyGivenNames x; refine Keeps.cut (x := x) ?_ ?_; rotate_left; intro hx; clear_value x; rotate_right; subst x)
    | refine Keeps.ite ?_ ?_ | apply Keeps.comp (State.setFld_keeps ..) | apply Keeps.comp (State.setFlag_keeps ..)
    | apply Keeps.comp (State.event_keeps ..) | apply Keeps.comp (State.setHaw_keeps ..) | apply Keeps.comp (State.enumerate_keeps ..)

theorem State.stepNotice_keeps (s : State) (b : Beacon) : Keeps s (State.stepNotice s b) := by
  unfold State.stepNotice
  with_reducible repeat' first
    | assumption | exact Keeps.refl _
    | (extract_lets +onlyGivenNames x; refine Keeps.cut (x := x) ?_ ?_; rotate_left; intro hx; clear_value x; rotate_right; subst x)
    | (extract_lets +onlyGivenNames x; clear_value x) | refine Keeps.ite ?_ ?_ | simp -zeta only [Keeps.upd_iff]
    | apply Keeps.comp (State.setFlag_keeps ..)

theorem State.beaconUtc_keeps (s : State) (b : Beacon) : Keeps s (State.beaconUtc s b) := by
  unfold State.beaconUtc
  with_reducible repeat' first
    | exact Keeps.refl _ | (extract_lets +onlyGivenNames x; clear_value x) | refine Keeps.ite ?_ ?_
    | apply Keeps.comp (State.setUtc_keeps ..)

theorem State.beacon_keeps (s : State) (h : Nat) (b : Beacon) : Keeps s (State.beacon s h b) := by
  unfold State.beacon
  with_reducible repeat' first
    | assumption | exact Keeps.refl _
    | (extract_lets +onlyGivenNames x; refine Keeps.cut (x := x) ?_ ?_; rotate_left; intro hx; clear_value x; rotate_right; subst x)
    | (extract_lets +onlyGivenNames x; clear_value x) | refine Keeps.ite ?_ ?_ | apply Keeps.comp (State.setFld_keeps ..)
    | apply Keeps.comp (State.event_keeps ..) | apply Keeps.comp (State.setHaw_keeps ..) | apply Keeps.comp (State.stepNotice_keeps ..)
    | apply Keeps.comp (State.beaconUtc_keeps ..)

theorem execBeaconReceived_keeps (h : Fin 4) (b : Beacon) (s : State) : OutKeeps s (execBeaconReceived h b s) := by
  unfold execBeaconReceived
  first | refine OutKeeps.onCore ?_ | refine OutKeeps.next ?_
  try beta_reduce
  with_reducible repeat' first
    | exact Keeps.refl _ | apply Keeps.comp (State.beacon_keeps ..)

theorem State.beaconLand_keeps (s : State) : Keeps s (State.beaconLand s) := by
  unfold State.beaconLand
  with_reducible repeat' first
    | assumption | exact Keeps.refl _
    | (extract_lets +onlyGivenNames x; refine Keeps.cut (x := x) ?_ ?_; rotate_left; intro hx; clear_value x; rotate_right; subst x)
    | (extract_lets +onlyGivenNames x; clear_value x) | refine Keeps.ite ?_ ?_ | split | apply Keeps.comp (State.setFld_keeps ..)
    | apply Keeps.comp (State.setFlag_keeps ..) | apply Keeps.comp (State.incFld_keeps ..) | apply Keeps.comp (State.setHaw_keeps ..)

theorem State.beaconSend_keeps (s : State) : Keeps s (State.beaconSend s) := by
  unfold State.beaconSend
  with_reducible repeat' first
    | exact Keeps.refl _ | refine Keeps.ite ?_ ?_ | apply Keeps.comp (State.draw_keeps ..) | apply Keeps.comp (State.send_keeps ..)

theorem State.linkDelays_keeps (s : State) (ds : List (Nat × Nat)) : Keeps s (State.linkDelays s ds) := by
  unfold State.linkDelays
  with_reducible repeat' first
    | exact Keeps.refl _ | (extract_lets +onlyGivenNames x; clear_value x) | refine Keeps.ite ?_ ?_
    | apply Keeps.comp (State.setFld_keeps ..) | refine Keeps.foldl ?_ ?_ | (intro _; beta_reduce)

theorem State.becomeLighthouse_keeps (s : State) : Keeps s (State.becomeLighthouse s) := by
  unfold State.becomeLighthouse
  with_reducible repeat' first
    | exact Keeps.refl _ | apply Keeps.comp (State.setFld_keeps ..) | apply Keeps.comp (State.enumerate_keeps ..)

theorem execLighthouseDecision_keeps (others : List (Nat × Bool)) (s : State) : OutKeeps s (execLighthouseDecision others s) := by
  unfold execLighthouseDecision
  first | refine OutKeeps.onCore ?_ | refine OutKeeps.next ?_
  try beta_reduce
  with_reducible repeat' first
    | exact Keeps.refl _ | (extract_lets +onlyGivenNames x; clear_value x) | refine Keeps.ite ?_ ?_ | split
    | apply Keeps.comp (State.setFld_keeps ..) | apply Keeps.comp (State.event_keeps ..)
    | apply Keeps.comp (State.becomeLighthouse_keeps ..)

theorem execLhConfirm_keeps (s : State) : OutKeeps s (execLhConfirm s) := by
  unfold execLhConfirm
  first | refine OutKeeps.onCore ?_ | refine OutKeeps.next ?_
  try beta_reduce
  with_reducible repeat' first
    | exact Keeps.refl _ | (extract_lets +onlyGivenNames x; clear_value x) | refine Keeps.ite ?_ ?_ | split
    | apply Keeps.comp (State.setHaw_keeps ..) | apply Keeps.comp (State.manage_keeps ..)

theorem execLhConfirmRequest_keeps (src : Fin 64) (s : State) : OutKeeps s (execLhConfirmRequest src s) := by
  unfold execLhConfirmRequest
  first | refine OutKeeps.onCore ?_ | refine OutKeeps.next ?_
  try beta_reduce
  with_reducible repeat' first
    | exact Keeps.refl _ | refine Keeps.ite ?_ ?_ | apply Keeps.comp (State.manage_keeps ..)

theorem execLhTakeover_keeps (x : Nat) (s : State) : OutKeeps s (execLhTakeover x s) := by
  unfold execLhTakeover
  first | refine OutKeeps.onCore ?_ | refine OutKeeps.next ?_
  try beta_reduce
  with_reducible repeat' first
    | assumption | exact Keeps.refl _
    | (extract_lets +onlyGivenNames x; refine Keeps.cut (x := x) ?_ ?_; rotate_left; intro hx; clear_value x; rotate_right; subst x)
    | (extract_lets +onlyGivenNames x; clear_value x) | refine Keeps.ite ?_ ?_ | apply Keeps.comp (State.setFld_keeps ..)
    | apply Keeps.comp (State.setHaw_keeps ..) | apply Keeps.comp (State.becomeLighthouse_keeps ..)

theorem execLhNoConfirm_keeps (s : State) : OutKeeps s (execLhNoConfirm s) := by
  unfold execLhNoConfirm
  first | refine OutKeeps.onCore ?_ | refine OutKeeps.next ?_
  try beta_reduce
  with_reducible repeat' first
    | exact Keeps.refl _ | refine Keeps.ite ?_ ?_ | split | apply Keeps.comp (State.event_keeps ..)

theorem State.hawBind_keeps (s : State) (n : Nat) (subscription : Bool) (w : Word) : Keeps s (State.hawBind s n subscription w) := by
  unfold State.hawBind
  with_reducible repeat' first
    | exact Keeps.refl _ | (extract_lets +onlyGivenNames x; clear_value x) | refine Keeps.ite ?_ ?_
    | apply Keeps.comp (State.event_keeps ..) | apply Keeps.comp (State.bindWrite_keeps ..) | apply Keeps.comp (State.allotBusy_keeps ..)

theorem execHawBindWrite_keeps (n : Fin 512) (subscription : Bool) (w : Word) (s : State) : OutKeeps s (execHawBindWrite n subscription w s) := by
  unfold execHawBindWrite
  first | refine OutKeeps.onCore ?_ | refine OutKeeps.next ?_
  try beta_reduce
  with_reducible repeat' first
    | exact Keeps.refl _ | apply Keeps.comp (State.hawBind_keeps ..)

theorem State.hawShare_keeps (s : State) (a : Nat) (w : Word) : Keeps s (State.hawShare s a w) := by
  unfold State.hawShare
  with_reducible repeat' first
    | exact Keeps.refl _ | (extract_lets +onlyGivenNames x; clear_value x) | refine Keeps.ite ?_ ?_
    | apply Keeps.comp (State.setFld_keeps ..) | apply Keeps.comp (State.event_keeps ..)

theorem execHawShareWrite_keeps (a : Fin 64) (w : Word) (s : State) : OutKeeps s (execHawShareWrite a w s) := by
  unfold execHawShareWrite
  first | refine OutKeeps.onCore ?_ | refine OutKeeps.next ?_
  try beta_reduce
  with_reducible repeat' first
    | exact Keeps.refl _ | apply Keeps.comp (State.hawShare_keeps ..)

theorem State.sendRec_keeps (s : State) (r : ExRec) : Keeps s (State.sendRec s r) := by
  unfold State.sendRec
  with_reducible repeat' first
    | exact Keeps.refl _ | apply Keeps.comp (State.send_keeps ..)

theorem State.publish_keeps (s : State) : Keeps s (State.publish s) := by
  unfold State.publish
  with_reducible repeat' first
    | assumption | exact Keeps.refl _
    | (extract_lets +onlyGivenNames x; refine Keeps.cut (x := x) ?_ ?_; rotate_left; intro hx; clear_value x; rotate_right; subst x)
    | refine Keeps.ite ?_ ?_ | simp -zeta only [Keeps.upd_iff] | split | apply Keeps.comp (State.telegrams_keeps ..)
    | apply Keeps.comp (State.sendRec_keeps ..) | refine Keeps.foldl ?_ ?_ | (intro _; beta_reduce)

theorem State.exchRecord_keeps (s : State) (h : Nat) (r : ExRec) : Keeps s (State.exchRecord s h r) := by
  unfold State.exchRecord
  with_reducible repeat' first
    | assumption | exact Keeps.refl _
    | (extract_lets +onlyGivenNames x; refine Keeps.cut (x := x) ?_ ?_; rotate_left; intro hx; clear_value x; rotate_right; subst x)
    | (extract_lets +onlyGivenNames x; clear_value x) | refine Keeps.ite ?_ ?_ | simp -zeta only [Keeps.upd_iff]
    | apply Keeps.comp (State.send_keeps ..) | apply Keeps.comp (State.setHaw_keeps ..)

theorem execExchangeRecordReceived_keeps (h : Fin 4) (r : ExRec) (s : State) : OutKeeps s (execExchangeRecordReceived h r s) := by
  unfold execExchangeRecordReceived
  first | refine OutKeeps.onCore ?_ | refine OutKeeps.next ?_
  try beta_reduce
  with_reducible repeat' first
    | exact Keeps.refl _ | apply Keeps.comp (State.exchRecord_keeps ..)

theorem State.subMiss_keeps (s : State) (n : Nat) : Keeps s (State.subMiss s n) := by
  unfold State.subMiss
  with_reducible repeat' first
    | exact Keeps.refl _ | (extract_lets +onlyGivenNames x; clear_value x) | split | apply Keeps.comp (State.setFld_keeps ..)

theorem State.subLand_keeps (s : State) (n : Nat) : Keeps s (State.subLand s n) := by
  unfold State.subLand
  with_reducible repeat' first
    | assumption | exact Keeps.refl _
    | (extract_lets +onlyGivenNames x; refine Keeps.cut (x := x) ?_ ?_; rotate_left; intro hx; clear_value x; rotate_right; subst x)
    | (extract_lets +onlyGivenNames x; clear_value x) | refine Keeps.ite ?_ ?_ | split | apply Keeps.comp (State.setFld_keeps ..)
    | apply Keeps.comp (State.incFld_keeps ..) | apply Keeps.comp (State.setHaw_keeps ..) | apply Keeps.comp (State.subMiss_keeps ..)

theorem State.exchangeLand_keeps (s : State) : Keeps s (State.exchangeLand s) := by
  unfold State.exchangeLand
  with_reducible repeat' first
    | assumption | exact Keeps.refl _
    | (extract_lets +onlyGivenNames x; refine Keeps.cut (x := x) ?_ ?_; rotate_left; intro hx; clear_value x; rotate_right; subst x)
    | apply Keeps.comp (State.setHaw_keeps ..) | apply Keeps.comp (State.subLand_keeps ..) | refine Keeps.foldl ?_ ?_
    | (intro _; beta_reduce)

theorem State.mgmt_keeps (s : State) (h : Nat) (p : MgmtPkt) : Keeps s (State.mgmt s h p) := by
  unfold State.mgmt
  with_reducible repeat' first
    | assumption | exact Keeps.refl _
    | (extract_lets +onlyGivenNames x; refine Keeps.cut (x := x) ?_ ?_; rotate_left; intro hx; clear_value x; rotate_right; subst x)
    | (extract_lets +onlyGivenNames x; clear_value x) | refine Keeps.ite ?_ ?_ | apply Keeps.comp (State.event_keeps ..)
    | apply Keeps.comp (State.send_keeps ..) | apply Keeps.comp (State.setHaw_keeps ..)

theorem execMgmtPacketReceived_keeps (h : Fin 4) (p : MgmtPkt) (s : State) : OutKeeps s (execMgmtPacketReceived h p s) := by
  unfold execMgmtPacketReceived
  first | refine OutKeeps.onCore ?_ | refine OutKeeps.next ?_
  try beta_reduce
  with_reducible repeat' first
    | exact Keeps.refl _ | apply Keeps.comp (State.mgmt_keeps ..)

theorem State.setMulti_keeps (s : State) (f : MultiSt → MultiSt) : Keeps s (State.setMulti s f) := by
  unfold State.setMulti
  with_reducible repeat' first
    | exact Keeps.refl _ | simp -zeta only [Keeps.upd_iff]

theorem State.reply_keeps (s : State) (sess req status : Nat) (final : Bool) (data : List Byte) : Keeps s (State.reply s sess req status final data) := by
  unfold State.reply
  with_reducible repeat' first
    | exact Keeps.refl _ | apply Keeps.comp (State.send_keeps ..)

theorem State.tellUnits_keeps (s : State) (us : List Nat) (body : List Nat) : Keeps s (State.tellUnits s us body) := by
  unfold State.tellUnits
  with_reducible repeat' first
    | exact Keeps.refl _ | apply Keeps.comp (State.manage_keeps ..) | refine Keeps.foldl ?_ ?_ | (intro _; beta_reduce)

theorem State.tellLighthouse_keeps (s : State) (body : List Nat) : Keeps s (State.tellLighthouse s body) := by
  unfold State.tellLighthouse
  with_reducible repeat' first
    | exact Keeps.refl _ | apply Keeps.comp (State.manage_keeps ..)

theorem State.changeEnd_keeps (s : State) (c : Change) (code : Nat) (data : List Nat) : Keeps s (State.changeEnd s c code data) := by
  unfold State.changeEnd
  with_reducible repeat' first
    | assumption | exact Keeps.refl _
    | (extract_lets +onlyGivenNames x; refine Keeps.cut (x := x) ?_ ?_; rotate_left; intro hx; clear_value x; rotate_right; subst x)
    | split | apply Keeps.comp (State.setMulti_keeps ..) | apply Keeps.comp (State.reply_keeps ..)

theorem State.changeStart_keeps (s : State) (units : List (Nat × List Nat)) (reply : Option (Nat × Nat)) : Keeps s (State.changeStart s units reply) := by
  unfold State.changeStart
  with_reducible repeat' first
    | assumption | exact Keeps.refl _
    | (extract_lets +onlyGivenNames x; refine Keeps.cut (x := x) ?_ ?_; rotate_left; intro hx; clear_value x; rotate_right; subst x)
    | apply Keeps.comp (State.manage_keeps ..) | apply Keeps.comp (State.setMulti_keeps ..) | refine Keeps.foldl ?_ ?_
    | (intro _; beta_reduce)

theorem State.changeCancel_keeps (s : State) : Keeps s (State.changeCancel s) := by
  unfold State.changeCancel
  with_reducible repeat' first
    | assumption | exact Keeps.refl _
    | (extract_lets +onlyGivenNames x; refine Keeps.cut (x := x) ?_ ?_; rotate_left; intro hx; clear_value x; rotate_right; subst x)
    | refine Keeps.ite ?_ ?_ | apply Keeps.comp (State.swapCancel_keeps ..) | apply Keeps.comp (State.setMulti_keeps ..)
    | apply Keeps.comp (State.tellLighthouse_keeps ..)

theorem State.prepare_keeps (s : State) (parts : List Nat) : Keeps s (State.prepare s parts) := by
  unfold State.prepare
  with_reducible repeat' first
    | exact Keeps.refl _
    | (extract_lets +onlyGivenNames x; refine Keeps.cut (x := x) ?_ ?_; rotate_left; intro hx; clear_value x; rotate_right; subst x)
    | (extract_lets +onlyGivenNames x; clear_value x) | simp -zeta only [Keeps.upd_iff] | split | apply Keeps.comp (State.setReg_keeps ..)
    | apply Keeps.comp (State.setMulti_keeps ..) | apply Keeps.comp (State.tellLighthouse_keeps ..)

theorem execMultiPrepare_keeps (parts : List Nat) (s : State) : OutKeeps s (execMultiPrepare parts s) := by
  unfold execMultiPrepare
  first | refine OutKeeps.onCore ?_ | refine OutKeeps.next ?_
  try beta_reduce
  with_reducible repeat' first
    | exact Keeps.refl _ | apply Keeps.comp (State.prepare_keeps ..)

theorem State.changeReady_keeps (s : State) (a : Nat) : Keeps s (State.changeReady s a) := by
  unfold State.changeReady
  with_reducible repeat' first
    | assumption | exact Keeps.refl _
    | (extract_lets +onlyGivenNames x; refine Keeps.cut (x := x) ?_ ?_; rotate_left; intro hx; clear_value x; rotate_right; subst x)
    | (extract_lets +onlyGivenNames x; clear_value x) | refine Keeps.ite ?_ ?_ | split | apply Keeps.comp (State.setMulti_keeps ..)
    | apply Keeps.comp (State.tellUnits_keeps ..)

theorem execMultiReady_keeps (addr : Fin 64) (s : State) : OutKeeps s (execMultiReady addr s) := by
  unfold execMultiReady
  first | refine OutKeeps.onCore ?_ | refine OutKeeps.next ?_
  try beta_reduce
  with_reducible repeat' first
    | exact Keeps.refl _ | apply Keeps.comp (State.changeReady_keeps ..)

theorem execMultiRefused_keeps (addr : Fin 64) (_cause : Nat) (s : State) : OutKeeps s (execMultiRefused addr _cause s) := by
  unfold execMultiRefused
  first | refine OutKeeps.onCore ?_ | refine OutKeeps.next ?_
  try beta_reduce
  with_reducible repeat' first
    | exact Keeps.refl _ | refine Keeps.ite ?_ ?_ | split | apply Keeps.comp (State.event_keeps ..)
    | apply Keeps.comp (State.changeEnd_keeps ..)

theorem State.changeGo_keeps (s : State) (x : Nat) : Keeps s (State.changeGo s x) := by
  unfold State.changeGo
  with_reducible repeat' first
    | assumption | exact Keeps.refl _
    | (extract_lets +onlyGivenNames x; refine Keeps.cut (x := x) ?_ ?_; rotate_left; intro hx; clear_value x; rotate_right; subst x)
    | (extract_lets +onlyGivenNames x; clear_value x) | refine Keeps.ite ?_ ?_ | split | apply Keeps.comp (State.setReg_keeps ..)
    | apply Keeps.comp (State.swapRequest_keeps ..) | apply Keeps.comp (State.setMulti_keeps ..)

theorem execMultiGo_keeps (x : Nat) (s : State) : OutKeeps s (execMultiGo x s) := by
  unfold execMultiGo
  first | refine OutKeeps.onCore ?_ | refine OutKeeps.next ?_
  try beta_reduce
  with_reducible repeat' first
    | exact Keeps.refl _ | apply Keeps.comp (State.changeGo_keeps ..)

theorem State.changeAck_keeps (s : State) : Keeps s (State.changeAck s) := by
  unfold State.changeAck
  with_reducible repeat' first
    | exact Keeps.refl _ | refine Keeps.ite ?_ ?_ | split | apply Keeps.comp (State.tellLighthouse_keeps ..)

theorem State.changeAcked_keeps (s : State) (a : Nat) : Keeps s (State.changeAcked s a) := by
  unfold State.changeAcked
  with_reducible repeat' first
    | assumption | exact Keeps.refl _
    | (extract_lets +onlyGivenNames x; refine Keeps.cut (x := x) ?_ ?_; rotate_left; intro hx; clear_value x; rotate_right; subst x)
    | (extract_lets +onlyGivenNames x; clear_value x) | refine Keeps.ite ?_ ?_ | split | apply Keeps.comp (State.setMulti_keeps ..)
    | apply Keeps.comp (State.tellUnits_keeps ..)

theorem execMultiAck_keeps (addr : Fin 64) (s : State) : OutKeeps s (execMultiAck addr s) := by
  unfold execMultiAck
  first | refine OutKeeps.onCore ?_ | refine OutKeeps.next ?_
  try beta_reduce
  with_reducible repeat' first
    | exact Keeps.refl _ | apply Keeps.comp (State.changeAcked_keeps ..)

theorem execMultiCommit_keeps (s : State) : OutKeeps s (execMultiCommit s) := by
  unfold execMultiCommit
  first | refine OutKeeps.onCore ?_ | refine OutKeeps.next ?_
  try beta_reduce
  with_reducible repeat' first
    | exact Keeps.refl _ | apply Keeps.comp (State.setMulti_keeps ..)

theorem execMultiAbort_keeps (s : State) : OutKeeps s (execMultiAbort s) := by
  unfold execMultiAbort
  first | refine OutKeeps.onCore ?_ | refine OutKeeps.next ?_
  try beta_reduce
  with_reducible repeat' first
    | exact Keeps.refl _ | refine Keeps.ite ?_ ?_ | split | apply Keeps.comp (State.changeCancel_keeps ..)

theorem execMultiReadyTimeout_keeps (s : State) : OutKeeps s (execMultiReadyTimeout s) := by
  unfold execMultiReadyTimeout
  first | refine OutKeeps.onCore ?_ | refine OutKeeps.next ?_
  try beta_reduce
  with_reducible repeat' first
    | exact Keeps.refl _ | refine Keeps.ite ?_ ?_ | split | apply Keeps.comp (State.event_keeps ..)
    | apply Keeps.comp (State.changeEnd_keeps ..)

theorem execMultiAckTimeout_keeps (s : State) : OutKeeps s (execMultiAckTimeout s) := by
  unfold execMultiAckTimeout
  first | refine OutKeeps.onCore ?_ | refine OutKeeps.next ?_
  try beta_reduce
  with_reducible repeat' first
    | assumption | exact Keeps.refl _
    | (extract_lets +onlyGivenNames x; refine Keeps.cut (x := x) ?_ ?_; rotate_left; intro hx; clear_value x; rotate_right; subst x)
    | refine Keeps.ite ?_ ?_ | split | apply Keeps.comp (State.setMulti_keeps ..) | apply Keeps.comp (State.tellUnits_keeps ..)

theorem execMultiNoCommit_keeps (s : State) : OutKeeps s (execMultiNoCommit s) := by
  unfold execMultiNoCommit
  first | refine OutKeeps.onCore ?_ | refine OutKeeps.next ?_
  try beta_reduce
  with_reducible repeat' first
    | exact Keeps.refl _ | refine Keeps.ite ?_ ?_ | split | apply Keeps.comp (State.event_keeps ..)
    | apply Keeps.comp (State.changeCancel_keeps ..)

theorem execMultiRepeat_keeps (s : State) : OutKeeps s (execMultiRepeat s) := by
  unfold execMultiRepeat
  first | refine OutKeeps.onCore ?_ | refine OutKeeps.next ?_
  try beta_reduce
  with_reducible repeat' first
    | assumption | exact Keeps.refl _
    | (extract_lets +onlyGivenNames x; refine Keeps.cut (x := x) ?_ ?_; rotate_left; intro hx; clear_value x; rotate_right; subst x)
    | (extract_lets +onlyGivenNames x; clear_value x) | refine Keeps.ite ?_ ?_ | split | apply Keeps.comp (State.manage_keeps ..)
    | apply Keeps.comp (State.setMulti_keeps ..) | apply Keeps.comp (State.tellUnits_keeps ..) | refine Keeps.foldl ?_ ?_
    | (intro _; beta_reduce)

theorem execMultiCollectEnd_keeps (cancelled : List Nat) (s : State) : OutKeeps s (execMultiCollectEnd cancelled s) := by
  unfold execMultiCollectEnd
  first | refine OutKeeps.onCore ?_ | refine OutKeeps.next ?_
  try beta_reduce
  with_reducible repeat' first
    | exact Keeps.refl _ | (extract_lets +onlyGivenNames x; clear_value x) | refine Keeps.ite ?_ ?_ | split
    | apply Keeps.comp (State.event_keeps ..) | apply Keeps.comp (State.changeEnd_keeps ..)

theorem State.changeDone_keeps (s : State) : Keeps s (State.changeDone s) := by
  unfold State.changeDone
  with_reducible repeat' first
    | exact Keeps.refl _ | split | apply Keeps.comp (State.setMulti_keeps ..) | apply Keeps.comp (State.tellLighthouse_keeps ..)

theorem State.setTwin_keeps (s : State) (f : TwinSt → TwinSt) : Keeps s (State.setTwin s f) := by
  unfold State.setTwin
  with_reducible repeat' first
    | exact Keeps.refl _ | simp -zeta only [Keeps.upd_iff]

theorem State.setTwinState_keeps (s : State) (v : Nat) : Keeps s (State.setTwinState s v) := by
  unfold State.setTwinState
  with_reducible repeat' first
    | exact Keeps.refl _ | apply Keeps.comp (State.setFld_keeps ..)

theorem State.twinCfgWrite_keeps (s : State) (w : Word) : Keeps s (State.twinCfgWrite s w) := by
  unfold State.twinCfgWrite
  with_reducible repeat' first
    | assumption | exact Keeps.refl _
    | (extract_lets +onlyGivenNames x; refine Keeps.cut (x := x) ?_ ?_; rotate_left; intro hx; clear_value x; rotate_right; subst x)
    | (extract_lets +onlyGivenNames x; clear_value x) | refine Keeps.ite ?_ ?_ | apply Keeps.comp (State.setReg_keeps ..)
    | apply Keeps.comp (State.event_keeps ..) | apply Keeps.comp (State.allotBusy_keeps ..)
    | apply Keeps.comp (State.setTwinState_keeps ..)

theorem State.twinPartWrite_keeps (s : State) (n : Nat) (w : Word) : Keeps s (State.twinPartWrite s n w) := by
  unfold State.twinPartWrite
  with_reducible repeat' first
    | exact Keeps.refl _ | (extract_lets +onlyGivenNames x; clear_value x) | split | apply Keeps.comp (State.setReg_keeps ..)
    | apply Keeps.comp (State.allotBusy_keeps ..)

theorem State.lanyard_keeps (s : State) (type ident : Nat) (gen tstamp : Word) (body : List Nat) : Keeps s (State.lanyard s type ident gen tstamp body) := by
  unfold State.lanyard
  with_reducible repeat' first
    | exact Keeps.refl _ | (extract_lets +onlyGivenNames x; clear_value x) | apply Keeps.comp (State.send_keeps ..)
    | apply Keeps.comp (State.setTwin_keeps ..)

theorem State.lanyardTake_keeps (s : State) (r : LanRec) (f : State → State) (hf : ∀ x0, Keeps x0 (f x0)): Keeps s (State.lanyardTake s r f) := by
  unfold State.lanyardTake
  with_reducible repeat' first
    | exact Keeps.refl _ | refine Keeps.ite ?_ ?_ | apply Keeps.comp (State.setTwin_keeps ..) | apply Keeps.comp (hf ..)

theorem State.shadowWrite_keeps (s : State) (loc : Nat) (b : List Byte) (gen : Word) : Keeps s (State.shadowWrite s loc b gen) := by
  unfold State.shadowWrite
  with_reducible repeat' first
    | exact Keeps.refl _ | (extract_lets +onlyGivenNames x; clear_value x) | apply Keeps.comp (State.supersede_keeps ..)
    | apply Keeps.comp (State.putTile_keeps ..)

theorem State.lanyardTile_keeps (s : State) (r : LanRec) (b : List Byte) : Keeps s (State.lanyardTile s r b) := by
  unfold State.lanyardTile
  with_reducible repeat' first
    | assumption | exact Keeps.refl _
    | (extract_lets +onlyGivenNames x; refine Keeps.cut (x := x) ?_ ?_; rotate_left; intro hx; clear_value x; rotate_right; subst x)
    | (extract_lets +onlyGivenNames x; clear_value x) | refine Keeps.ite ?_ ?_ | split | apply Keeps.comp (State.incFld_keeps ..)
    | apply Keeps.comp (State.setTwin_keeps ..) | apply Keeps.comp (State.shadowWrite_keeps ..)

theorem execLanyardTile_keeps (r : LanRec) (tile : List (Nat × Byte)) (s : State) : OutKeeps s (execLanyardTile r tile s) := by
  unfold execLanyardTile
  first | refine OutKeeps.onCore ?_ | refine OutKeeps.next ?_
  try beta_reduce
  with_reducible repeat' first
    | exact Keeps.refl _ | apply Keeps.comp (State.lanyardTake_keeps (hf := ?_) ..) | apply Keeps.comp (State.lanyardTile_keeps ..)
    | (intro _; beta_reduce)

theorem execRepairReq_keeps (r : LanRec) (s : State) : OutKeeps s (execRepairReq r s) := by
  unfold execRepairReq
  first | refine OutKeeps.onCore ?_ | refine OutKeeps.next ?_
  try beta_reduce
  with_reducible repeat' first
    | exact Keeps.refl _ | refine Keeps.ite ?_ ?_ | apply Keeps.comp (State.setTwin_keeps ..)
    | apply Keeps.comp (State.lanyardTake_keeps (hf := ?_) ..) | (intro _; beta_reduce)

theorem State.repairAns_keeps (s : State) (r : LanRec) (b : List Byte) : Keeps s (State.repairAns s r b) := by
  unfold State.repairAns
  with_reducible repeat' first
    | exact Keeps.refl _ | refine Keeps.ite ?_ ?_ | apply Keeps.comp (State.deliver_keeps ..) | refine Keeps.foldl ?_ ?_
    | (intro _; beta_reduce)

theorem execRepairAns_keeps (r : LanRec) (tile : List (Nat × Byte)) (s : State) : OutKeeps s (execRepairAns r tile s) := by
  unfold execRepairAns
  first | refine OutKeeps.onCore ?_ | refine OutKeeps.next ?_
  try beta_reduce
  with_reducible repeat' first
    | exact Keeps.refl _ | apply Keeps.comp (State.lanyardTake_keeps (hf := ?_) ..) | apply Keeps.comp (State.repairAns_keeps ..)
    | (intro _; beta_reduce)

theorem execLanyardForce_keeps (r : LanRec) (part : Fin 128) (set : Bool) (ident idx : Nat) (v : Word) (s : State) : OutKeeps s (execLanyardForce r part set ident idx v s) := by
  unfold execLanyardForce
  first | refine OutKeeps.onCore ?_ | refine OutKeeps.next ?_
  try beta_reduce
  with_reducible repeat' first
    | assumption | exact Keeps.refl _
    | (extract_lets +onlyGivenNames x; refine Keeps.cut (x := x) ?_ ?_; rotate_left; intro hx; clear_value x; rotate_right; subst x)
    | (extract_lets +onlyGivenNames x; clear_value x) | refine Keeps.ite ?_ ?_ | apply Keeps.comp (State.event_keeps ..)
    | apply Keeps.comp (State.setTwin_keeps ..) | apply Keeps.comp (State.lanyardTake_keeps (hf := ?_) ..) | (intro _; beta_reduce)

theorem State.twinForce_keeps (s : State) (p : Nat) (set : Bool) (ident idx : Nat) (v : Word) : Keeps s (State.twinForce s p set ident idx v) := by
  unfold State.twinForce
  with_reducible repeat' first
    | assumption | exact Keeps.refl _
    | (extract_lets +onlyGivenNames x; refine Keeps.cut (x := x) ?_ ?_; rotate_left; intro hx; clear_value x; rotate_right; subst x)
    | (extract_lets +onlyGivenNames x; clear_value x) | apply Keeps.comp (State.setTwin_keeps ..)
    | apply Keeps.comp (State.lanyard_keeps ..)

theorem State.forcesLand_keeps (s : State) : Keeps s (State.forcesLand s) := by
  unfold State.forcesLand
  with_reducible repeat' first
    | assumption | exact Keeps.refl _
    | (extract_lets +onlyGivenNames x; refine Keeps.cut (x := x) ?_ ?_; rotate_left; intro hx; clear_value x; rotate_right; subst x)
    | (extract_lets +onlyGivenNames x; clear_value x) | refine Keeps.ite ?_ ?_ | apply Keeps.comp (State.forceSet_keeps ..)
    | apply Keeps.comp (State.forceClear_keeps ..) | apply Keeps.comp (State.setTwin_keeps ..) | refine Keeps.foldl ?_ ?_
    | (intro _; beta_reduce)

theorem execLstate_keeps (r : LanRec) (es : List LEntry) (s : State) : OutKeeps s (execLstate r es s) := by
  unfold execLstate
  first | refine OutKeeps.onCore ?_ | refine OutKeeps.next ?_
  try beta_reduce
  with_reducible repeat' first
    | exact Keeps.refl _ | refine Keeps.ite ?_ ?_ | apply Keeps.comp (State.setTwin_keeps ..)
    | apply Keeps.comp (State.lanyardTake_keeps (hf := ?_) ..) | (intro _; beta_reduce)

theorem State.adopt_keeps (s : State) (e : LEntry) : Keeps s (State.adopt s e) := by
  unfold State.adopt
  with_reducible repeat' first
    | assumption | exact Keeps.refl _
    | (extract_lets +onlyGivenNames x; refine Keeps.cut (x := x) ?_ ?_; rotate_left; intro hx; clear_value x; rotate_right; subst x)
    | (extract_lets +onlyGivenNames x; clear_value x) | apply Keeps.comp (State.setReg_keeps ..)
    | apply Keeps.comp (State.setTrip_keeps ..)

theorem State.replay_keeps (s : State) (u j : Nat) : Keeps s (State.replay s u j) := by
  unfold State.replay
  with_reducible repeat' first
    | assumption | exact Keeps.refl _
    | (extract_lets +onlyGivenNames x; refine Keeps.cut (x := x) ?_ ?_; rotate_left; intro hx; clear_value x; rotate_right; subst x)
    | (extract_lets +onlyGivenNames x; clear_value x) | simp -zeta only [Keeps.upd_iff] | split
    | apply Keeps.comp (State.modPart_keeps ..) | apply Keeps.comp (State.setTrip_keeps ..) | apply Keeps.comp (State.tripEval_keeps ..)

theorem State.lstateApply_keeps (s : State) : Keeps s (State.lstateApply s) := by
  unfold State.lstateApply
  with_reducible repeat' first
    | assumption | exact Keeps.refl _
    | (extract_lets +onlyGivenNames x; refine Keeps.cut (x := x) ?_ ?_; rotate_left; intro hx; clear_value x; rotate_right; subst x)
    | refine Keeps.ite ?_ ?_ | split | apply Keeps.comp (State.setTwin_keeps ..) | apply Keeps.comp (State.adopt_keeps ..)
    | apply Keeps.comp (State.replay_keeps ..) | refine Keeps.foldl ?_ ?_ | (intro _; beta_reduce)

theorem State.keepCaps_keeps (s : State) : Keeps s (State.keepCaps s) := by
  unfold State.keepCaps
  with_reducible repeat' first
    | exact Keeps.refl _ | (extract_lets +onlyGivenNames x; clear_value x) | refine Keeps.ite ?_ ?_
    | apply Keeps.comp (State.setTwin_keeps ..)

theorem State.lanyardSend_keeps (s : State) : Keeps s (State.lanyardSend s) := by
  unfold State.lanyardSend
  with_reducible repeat' first
    | assumption | exact Keeps.refl _
    | (extract_lets +onlyGivenNames x; refine Keeps.cut (x := x) ?_ ?_; rotate_left; intro hx; clear_value x; rotate_right; subst x)
    | (extract_lets +onlyGivenNames x; clear_value x) | refine Keeps.ite ?_ ?_ | split | apply Keeps.comp (State.setFld_keeps ..)
    | apply Keeps.comp (State.startRepair_keeps ..) | apply Keeps.comp (State.setTwin_keeps ..)
    | apply Keeps.comp (State.lanyard_keeps ..) | refine Keeps.foldl ?_ ?_ | (intro _; beta_reduce)

theorem State.heartbeat_keeps (s : State) : Keeps s (State.heartbeat s) := by
  unfold State.heartbeat
  with_reducible repeat' first
    | assumption | exact Keeps.refl _
    | (extract_lets +onlyGivenNames x; refine Keeps.cut (x := x) ?_ ?_; rotate_left; intro hx; clear_value x; rotate_right; subst x)
    | (extract_lets +onlyGivenNames x; clear_value x) | refine Keeps.ite ?_ ?_ | apply Keeps.comp (State.setReg_keeps ..)
    | apply Keeps.comp (State.setFlag_keeps ..) | apply Keeps.comp (State.sendRec_keeps ..) | apply Keeps.comp (State.setTwin_keeps ..)

theorem State.joinServe_keeps (s : State) : Keeps s (State.joinServe s) := by
  unfold State.joinServe
  with_reducible repeat' first
    | assumption | exact Keeps.refl _
    | (extract_lets +onlyGivenNames x; refine Keeps.cut (x := x) ?_ ?_; rotate_left; intro hx; clear_value x; rotate_right; subst x)
    | (extract_lets +onlyGivenNames x; clear_value x) | apply Keeps.comp (State.send_keeps ..) | apply Keeps.comp (State.setTwin_keeps ..)
    | refine Keeps.foldl ?_ ?_ | (intro _; beta_reduce)

theorem State.joinRequest_keeps (s : State) (asked : Bool) : Keeps s (State.joinRequest s asked) := by
  unfold State.joinRequest
  with_reducible repeat' first
    | exact Keeps.refl _ | refine Keeps.ite ?_ ?_ | apply Keeps.comp (State.manage_keeps ..) | apply Keeps.comp (State.setTwin_keeps ..)
    | apply Keeps.comp (State.joinServe_keeps ..)

theorem execTwinJoinRequest_keeps (asked : Bool) (s : State) : OutKeeps s (execTwinJoinRequest asked s) := by
  unfold execTwinJoinRequest
  first | refine OutKeeps.onCore ?_ | refine OutKeeps.next ?_
  try beta_reduce
  with_reducible repeat' first
    | exact Keeps.refl _ | refine Keeps.ite ?_ ?_ | apply Keeps.comp (State.joinRequest_keeps ..)

theorem State.joinLand_keeps (s : State) : Keeps s (State.joinLand s) := by
  unfold State.joinLand
  with_reducible repeat' first
    | exact Keeps.refl _ | refine Keeps.ite ?_ ?_ | apply Keeps.comp (State.joinRequest_keeps ..)

theorem State.joinPlace_keeps (s : State) (p : Nat) (i : Image) (map : List (Nat × Nat)) : Keeps s (State.joinPlace s p i map) := by
  unfold State.joinPlace
  with_reducible repeat' first
    | assumption | exact Keeps.refl _
    | (extract_lets +onlyGivenNames x; refine Keeps.cut (x := x) ?_ ?_; rotate_left; intro hx; clear_value x; rotate_right; subst x)
    | (extract_lets +onlyGivenNames x; clear_value x) | refine Keeps.ite ?_ ?_ | split | apply Keeps.comp (State.toStarting_keeps ..)
    | apply Keeps.comp (State.installProgram_keeps ..) | apply Keeps.comp (State.freeTileAt_keeps ..)
    | apply Keeps.comp (State.writeNew_keeps ..) | apply Keeps.comp (State.bindLoops_keeps ..)
    | apply Keeps.comp (State.bindStreams_keeps ..) | apply Keeps.comp (State.bindTrips_keeps ..) | refine Keeps.foldl ?_ ?_
    | (intro _; beta_reduce)

theorem State.joinConfig_keeps (s : State) (g : CfgSeg) : Keeps s (State.joinConfig s g) := by
  unfold State.joinConfig
  with_reducible repeat' first
    | exact Keeps.refl _ | refine Keeps.ite ?_ ?_ | split | apply Keeps.comp (State.setReg_keeps ..)
    | apply Keeps.comp (State.setPstate_keeps ..) | apply Keeps.comp (State.setTwin_keeps ..)
    | apply Keeps.comp (State.joinPlace_keeps ..) | refine Keeps.foldl ?_ ?_ | (intro _; beta_reduce)

theorem execTwinConfig_keeps (r : LanRec) (seg : CfgSeg) (s : State) : OutKeeps s (execTwinConfig r seg s) := by
  unfold execTwinConfig
  first | refine OutKeeps.onCore ?_ | refine OutKeeps.next ?_
  try beta_reduce
  with_reducible repeat' first
    | exact Keeps.refl _ | apply Keeps.comp (State.lanyardTake_keeps (hf := ?_) ..) | apply Keeps.comp (State.joinConfig_keeps ..)
    | (intro _; beta_reduce)

theorem State.setNode_keeps (s : State) (node : Nat) : Keeps s (State.setNode s node) := by
  unfold State.setNode
  with_reducible repeat' first
    | exact Keeps.refl _ | (extract_lets +onlyGivenNames x; clear_value x) | apply Keeps.comp (State.setReg_keeps ..)
    | apply Keeps.comp (State.setFlag_keeps ..)

theorem State.standby_keeps (s : State) : Keeps s (State.standby s) := by
  unfold State.standby
  with_reducible repeat' first
    | assumption | exact Keeps.refl _
    | (extract_lets +onlyGivenNames x; refine Keeps.cut (x := x) ?_ ?_; rotate_left; intro hx; clear_value x; rotate_right; subst x)
    | refine Keeps.ite ?_ ?_ | apply Keeps.comp (State.toRunning_keeps ..) | apply Keeps.comp (State.setTwin_keeps ..)
    | apply Keeps.comp (State.setTwinState_keeps ..) | refine Keeps.foldl ?_ ?_ | (intro _; beta_reduce)

theorem execTwinStandby_keeps (agrees : Bool) (node : BitVec 48) (s : State) : OutKeeps s (execTwinStandby agrees node s) := by
  unfold execTwinStandby
  first | refine OutKeeps.onCore ?_ | refine OutKeeps.next ?_
  try beta_reduce
  with_reducible repeat' first
    | exact Keeps.refl _ | refine Keeps.ite ?_ ?_ | apply Keeps.comp (State.event_keeps ..) | apply Keeps.comp (State.setNode_keeps ..)
    | apply Keeps.comp (State.standby_keeps ..)

theorem State.twinLand_keeps (s : State) : Keeps s (State.twinLand s) := by
  unfold State.twinLand
  with_reducible repeat' first
    | assumption | exact Keeps.refl _
    | (extract_lets +onlyGivenNames x; refine Keeps.cut (x := x) ?_ ?_; rotate_left; intro hx; clear_value x; rotate_right; subst x)
    | (extract_lets +onlyGivenNames x; clear_value x) | refine Keeps.ite ?_ ?_ | split | apply Keeps.comp (State.setFld_keeps ..)
    | apply Keeps.comp (State.setFlag_keeps ..) | apply Keeps.comp (State.setTwin_keeps ..)
    | apply Keeps.comp (State.setTwinState_keeps ..)

theorem State.seeDecision_keeps (s : State) (d : Decision) : Keeps s (State.seeDecision s d) := by
  unfold State.seeDecision
  with_reducible repeat' first
    | exact Keeps.refl _ | (extract_lets +onlyGivenNames x; clear_value x) | refine Keeps.ite ?_ ?_
    | apply Keeps.comp (State.setFld_keeps ..) | apply Keeps.comp (State.setTwin_keeps ..)
    | apply Keeps.comp (State.setTwinState_keeps ..)

theorem execWitnessDecisionReceived_keeps (d : Decision) (s : State) : OutKeeps s (execWitnessDecisionReceived d s) := by
  unfold execWitnessDecisionReceived
  first | refine OutKeeps.onCore ?_ | refine OutKeeps.next ?_
  try beta_reduce
  with_reducible repeat' first
    | exact Keeps.refl _ | apply Keeps.comp (State.seeDecision_keeps ..)

theorem State.admitParts_keeps (s : State) : Keeps s (State.admitParts s) := by
  unfold State.admitParts
  with_reducible repeat' first
    | exact Keeps.refl _ | refine Keeps.ite ?_ ?_ | apply Keeps.comp (State.modPart_keeps ..) | refine Keeps.foldl ?_ ?_
    | (intro _; beta_reduce)

theorem State.decisionEffect_keeps (s : State) (d : Decision) : Keeps s (State.decisionEffect s d) := by
  unfold State.decisionEffect
  with_reducible repeat' first
    | assumption | exact Keeps.refl _
    | (extract_lets +onlyGivenNames x; refine Keeps.cut (x := x) ?_ ?_; rotate_left; intro hx; clear_value x; rotate_right; subst x)
    | (extract_lets +onlyGivenNames x; refine Keeps.cutF0 (f := x) ?_ ?_; rotate_left; intro hf0; clear_value x; rotate_right; subst x)
    | (extract_lets +onlyGivenNames x; clear_value x) | refine Keeps.ite ?_ ?_ | simp -zeta only [Keeps.upd_iff]
    | apply Keeps.comp (State.setTwin_keeps ..) | apply Keeps.comp (State.setTwinState_keeps ..)
    | apply Keeps.comp (State.admitParts_keeps ..) | apply Keeps.comp (hf0 ..) | (intro _; beta_reduce)

theorem execTwinDecisionEffect_keeps (s : State) : OutKeeps s (execTwinDecisionEffect s) := by
  unfold execTwinDecisionEffect
  first | refine OutKeeps.onCore ?_ | refine OutKeeps.next ?_
  try beta_reduce
  with_reducible repeat' first
    | exact Keeps.refl _ | refine Keeps.ite ?_ ?_ | split | apply Keeps.comp (State.decisionEffect_keeps ..)

theorem State.decisionsLand_keeps (s : State) : Keeps s (State.decisionsLand s) := by
  unfold State.decisionsLand
  with_reducible repeat' first
    | exact Keeps.refl _ | (extract_lets +onlyGivenNames x; clear_value x) | refine Keeps.ite ?_ ?_
    | apply Keeps.comp (State.seeDecision_keeps ..) | refine Keeps.foldl ?_ ?_ | (intro _; beta_reduce)

theorem State.showPair_keeps (s : State) (i : Nat) (p : WitPair) : Keeps s (State.showPair s i p) := by
  unfold State.showPair
  with_reducible repeat' first
    | exact Keeps.refl _ | apply Keeps.comp (State.setReg_keeps ..)

theorem State.showPairs_keeps (s : State) : Keeps s (State.showPairs s) := by
  unfold State.showPairs
  with_reducible repeat' first
    | exact Keeps.refl _ | split | apply Keeps.comp (State.setReg_keeps ..) | apply Keeps.comp (State.showPair_keeps ..)
    | refine Keeps.foldl ?_ ?_ | (intro _; beta_reduce)

theorem State.enterDecision_keeps (s : State) (i : Nat) (code cause : Nat) : Keeps s (State.enterDecision s i code cause) := by
  unfold State.enterDecision
  with_reducible repeat' first
    | exact Keeps.refl _ | split | apply Keeps.comp (State.setTwin_keeps ..)

theorem State.witnessLand_keeps (s : State) : Keeps s (State.witnessLand s) := by
  unfold State.witnessLand
  with_reducible repeat' first
    | assumption | exact Keeps.refl _
    | (extract_lets +onlyGivenNames x; refine Keeps.cut (x := x) ?_ ?_; rotate_left; intro hx; clear_value x; rotate_right; subst x)
    | (extract_lets +onlyGivenNames x; clear_value x) | refine Keeps.ite ?_ ?_ | split | apply Keeps.comp (State.setTwin_keeps ..)
    | apply Keeps.comp (State.showPairs_keeps ..) | apply Keeps.comp (State.enterDecision_keeps ..) | refine Keeps.foldl ?_ ?_
    | (intro _; beta_reduce)

theorem State.decisionsPublish_keeps (s : State) : Keeps s (State.decisionsPublish s) := by
  unfold State.decisionsPublish
  with_reducible repeat' first
    | exact Keeps.refl _ | (extract_lets +onlyGivenNames x; clear_value x) | refine Keeps.ite ?_ ?_
    | apply Keeps.comp (State.sendRec_keeps ..)

theorem State.partnerSilent_keeps (s : State) : Keeps s (State.partnerSilent s) := by
  unfold State.partnerSilent
  with_reducible repeat' first
    | assumption | exact Keeps.refl _
    | (extract_lets +onlyGivenNames x; refine Keeps.cut (x := x) ?_ ?_; rotate_left; intro hx; clear_value x; rotate_right; subst x)
    | (extract_lets +onlyGivenNames x; clear_value x) | refine Keeps.ite ?_ ?_ | split | apply Keeps.comp (State.toStarting_keeps ..)
    | apply Keeps.comp (State.standby_keeps ..) | apply Keeps.comp (State.enterDecision_keeps ..) | refine Keeps.foldl ?_ ?_
    | (intro _; beta_reduce)

theorem execPartnerSilent_keeps (s : State) : OutKeeps s (execPartnerSilent s) := by
  unfold execPartnerSilent
  first | refine OutKeeps.onCore ?_ | refine OutKeeps.next ?_
  try beta_reduce
  with_reducible repeat' first
    | exact Keeps.refl _ | apply Keeps.comp (State.partnerSilent_keeps ..)

theorem State.answer_keeps (s : State) (a what : Nat) (cause : Option Nat) : Keeps s (State.answer s a what cause) := by
  unfold State.answer
  with_reducible repeat' first
    | exact Keeps.refl _ | split | apply Keeps.comp (State.manage_keeps ..)

theorem execWitnessExtractRequest_keeps (src : Fin 64) (both : Bool) (s : State) : OutKeeps s (execWitnessExtractRequest src both s) := by
  unfold execWitnessExtractRequest
  first | refine OutKeeps.onCore ?_ | refine OutKeeps.next ?_
  try beta_reduce
  with_reducible repeat' first
    | exact Keeps.refl _ | refine Keeps.ite ?_ ?_ | split | apply Keeps.comp (State.setTwin_keeps ..)
    | apply Keeps.comp (State.answer_keeps ..)

theorem execWitnessFreezeConsentRequest_keeps (src : Fin 64) (s : State) : OutKeeps s (execWitnessFreezeConsentRequest src s) := by
  unfold execWitnessFreezeConsentRequest
  first | refine OutKeeps.onCore ?_ | refine OutKeeps.next ?_
  try beta_reduce
  with_reducible repeat' first
    | exact Keeps.refl _ | refine Keeps.ite ?_ ?_ | split | apply Keeps.comp (State.answer_keeps ..)

end Sys2Proof.Machine
end

