-- ==== Sys2Proof/Laws/KeepsVault.lean ====
section
/-!
SUPPORT. Every operation of the vault, the metrology section, retained storage and the field ports leaves the queue as it is and keeps the canonical form of the stores.
-/
namespace Sys2Proof.Machine

theorem State.setVault_keeps (s : State) (f : VaultSt → VaultSt) : Keeps s (State.setVault s f) := by
  unfold State.setVault
  with_reducible repeat' first
    | exact Keeps.refl _ | simp -zeta only [Keeps.upd_iff]

theorem State.showSlot_keeps (s : State) (n : Nat) : Keeps s (State.showSlot s n) := by
  unfold State.showSlot
  with_reducible repeat' first
    | assumption | exact Keeps.refl _
    | (extract_lets +onlyGivenNames x; refine Keeps.cut (x := x) ?_ ?_; rotate_left; intro hx; clear_value x; rotate_right; subst x)
    | (extract_lets +onlyGivenNames x; clear_value x) | apply Keeps.comp (State.setFld_keeps ..)
    | apply Keeps.comp (State.setFlag_keeps ..)

theorem State.setSlot_keeps (s : State) (n : Nat) (x : VSlot) : Keeps s (State.setSlot s n x) := by
  unfold State.setSlot
  with_reducible repeat' first
    | exact Keeps.refl _ | apply Keeps.comp (State.setVault_keeps ..) | apply Keeps.comp (State.showSlot_keeps ..)

theorem State.showDrv_keeps (s : State) (p : Nat) : Keeps s (State.showDrv s p) := by
  unfold State.showDrv
  with_reducible repeat' first
    | exact Keeps.refl _ | apply Keeps.comp (State.setFld_keeps ..)

theorem State.setDrv_keeps (s : State) (p i : Nat) (k : VKey) : Keeps s (State.setDrv s p i k) := by
  unfold State.setDrv
  with_reducible repeat' first
    | exact Keeps.refl _ | apply Keeps.comp (State.setVault_keeps ..) | apply Keeps.comp (State.showDrv_keeps ..)

theorem State.random_keeps (s : State) (n : Nat) : Keeps s (State.random s n).2 := by
  unfold State.random
  with_reducible repeat' first
    | exact Keeps.refl _ | simp -zeta only [Keeps.upd_iff] | apply Keeps.comp (State.draw_keeps ..)

theorem State.useKey_keeps (s : State) (r : KeyRef) : Keeps s (State.useKey s r) := by
  unfold State.useKey
  with_reducible repeat' first
    | exact Keeps.refl _ | (extract_lets +onlyGivenNames x; clear_value x) | refine Keeps.ite ?_ ?_ | split
    | apply Keeps.comp (State.setSlot_keeps ..)

theorem State.stage_keeps (s : State) (n : Nat) (k : VKey) : Keeps s (State.stage s n k) := by
  unfold State.stage
  with_reducible repeat' first
    | exact Keeps.refl _ | (extract_lets +onlyGivenNames x; clear_value x) | apply Keeps.comp (State.setSlot_keeps ..)

theorem State.verifyKey_keeps (s : State) (n : Nat) (input expected : List Byte) : Keeps s (State.verifyKey s n input expected).2 := by
  unfold State.verifyKey
  with_reducible repeat' first
    | exact Keeps.refl _ | (extract_lets +onlyGivenNames x; clear_value x) | simp -zeta only [Keeps.upd_iff] | split
    | apply Keeps.comp (State.setSlot_keeps ..)

theorem State.commitKey_keeps (s : State) (n : Nat) : Keeps s (State.commitKey s n).2 := by
  unfold State.commitKey
  with_reducible repeat' first
    | exact Keeps.refl _ | (extract_lets +onlyGivenNames x; clear_value x) | simp -zeta only [Keeps.upd_iff] | split
    | apply Keeps.comp (State.setSlot_keeps ..)

theorem State.commitKeys_keeps (s : State) : Keeps s (State.commitKeys s) := by
  unfold State.commitKeys
  with_reducible repeat' first
    | assumption | exact Keeps.refl _
    | (extract_lets +onlyGivenNames x; refine Keeps.cut (x := x) ?_ ?_; rotate_left; intro hx; clear_value x; rotate_right; subst x)
    | (extract_lets +onlyGivenNames x; clear_value x) | refine Keeps.ite ?_ ?_ | simp -zeta only [Keeps.upd_iff] | split
    | apply Keeps.comp (State.setReg_keeps ..) | apply Keeps.comp (State.setVault_keeps ..) | apply Keeps.comp (State.setSlot_keeps ..)
    | refine Keeps.foldl ?_ ?_ | (intro _; beta_reduce)

theorem State.keepKeys_keeps (s : State) : Keeps s (State.keepKeys s) := by
  unfold State.keepKeys
  with_reducible repeat' first
    | assumption | exact Keeps.refl _
    | (extract_lets +onlyGivenNames x; refine Keeps.cut (x := x) ?_ ?_; rotate_left; intro hx; clear_value x; rotate_right; subst x)
    | (extract_lets +onlyGivenNames x; clear_value x) | split | apply Keeps.comp (State.setVault_keeps ..) | refine Keeps.foldl ?_ ?_
    | (intro _; beta_reduce)

theorem State.deriveTo_keeps (s : State) (p dest param uses : Nat) (parent : VKey) (label : List Byte) : Keeps s (State.deriveTo s p dest param uses parent label).2 := by
  unfold State.deriveTo
  with_reducible repeat' first
    | exact Keeps.refl _ | (extract_lets +onlyGivenNames x; clear_value x) | simp -zeta only [Keeps.upd_iff] | split
    | apply Keeps.comp (State.setDrv_keeps ..) | apply Keeps.comp (State.stage_keeps ..)

theorem State.showAsym_keeps (s : State) : Keeps s (State.showAsym s) := by
  unfold State.showAsym
  with_reducible repeat' first
    | exact Keeps.refl _ | apply Keeps.comp (State.setFld_keeps ..)

theorem State.queueAsym_keeps (s : State) (p : Nat) (q : AsymReq) : Keeps s (State.queueAsym s p q).2 := by
  unfold State.queueAsym
  with_reducible repeat' first
    | exact Keeps.refl _ | simp -zeta only [Keeps.upd_iff] | split | apply Keeps.comp (State.setVault_keeps ..)
    | apply Keeps.comp (State.showAsym_keeps ..)

theorem State.generate_keeps (s : State) (n param uses : Nat) : Keeps s (State.generate s n param uses).2 := by
  unfold State.generate
  with_reducible repeat' first
    | assumption | exact Keeps.refl _
    | (extract_lets +onlyGivenNames x; refine Keeps.cut (x := x.2) ?_ ?_; rotate_left; intro hx; clear_value x; rotate_right; subst x)
    | (extract_lets +onlyGivenNames x; clear_value x) | simp -zeta only [Keeps.upd_iff] | split | apply Keeps.comp (State.random_keeps ..)
    | apply Keeps.comp (State.stage_keeps ..)

theorem State.unwrap_keeps (s : State) (n param uses : Nat) (wk : VKey) (blob : List Byte) : Keeps s (State.unwrap s n param uses wk blob).2 := by
  unfold State.unwrap
  with_reducible repeat' first
    | exact Keeps.refl _ | simp -zeta only [Keeps.upd_iff] | split | apply Keeps.comp (State.stage_keeps ..)

theorem State.keySync_keeps (s : State) (p fn : Nat) (h : KeyRef) (k : VKey) (q : KeyReq) (rd : Nat → Nat → List Byte) :
    Keeps s (State.keySync s p fn h k q rd).2.2 := by
  unfold State.keySync
  dsimp only
  with_reducible repeat' first
    | exact Keeps.refl _ | split | exact State.deriveTo_keeps .. | exact State.unwrap_keeps .. | exact State.generate_keeps ..
    | exact State.verifyKey_keeps .. | exact State.commitKey_keeps .. | apply Keeps.comp (State.stage_keeps ..)
    | exact State.random_keeps ..

theorem State.keyEnd_keeps (s : State) (l : Nat) (rd : Fin 32) (w : Fin 8) (q : KeyReq) (st : Nat) (out : List Byte) : Keeps s (State.keyEnd s l rd w q st out) := by
  unfold State.keyEnd
  with_reducible repeat' first
    | assumption | exact Keeps.refl _
    | (extract_lets +onlyGivenNames x; refine Keeps.cut (x := x) ?_ ?_; rotate_left; intro hx; clear_value x; rotate_right; subst x)
    | (extract_lets +onlyGivenNames x; clear_value x) | refine Keeps.ite ?_ ?_ | split | apply Keeps.comp (State.setG_keeps ..)
    | apply Keeps.comp (State.winWrite_keeps ..)

theorem State.keyOwn_keeps (s : State) (l : Nat) (rd : Fin 32) (word : Word) : Keeps s (State.keyOwn s l rd word) := by
  unfold State.keyOwn
  with_reducible repeat' first
    | exact Keeps.refl _ | apply Keeps.comp (State.setG_keeps ..) | apply Keeps.comp (State.raise_keeps ..)

theorem State.keyRun_keeps (s : State) (l : Nat) (p fn : Nat) (rd : Fin 32) (rb : Nat) (word : Word) (w : Fin 8) (q : KeyReq) : Keeps s (State.keyRun s l p fn rd rb word w q) := by
  unfold State.keyRun
  with_reducible repeat' first
    | assumption | exact Keeps.refl _
    | (extract_lets +onlyGivenNames x; refine Keeps.cut (x := x) ?_ ?_; rotate_left; intro hx; clear_value x; rotate_right; subst x)
    | (extract_lets +onlyGivenNames x; refine Keeps.cut (x := x.2) ?_ ?_; rotate_left; intro hx; clear_value x; rotate_right; subst x)
    | (extract_lets +onlyGivenNames x; refine Keeps.cut (x := x.2.2) ?_ ?_; rotate_left; intro hx; clear_value x; rotate_right; subst x)
    | (extract_lets +onlyGivenNames x; clear_value x) | refine Keeps.ite ?_ ?_ | apply Keeps.comp (State.useKey_keeps ..)
    | apply Keeps.comp (State.queueAsym_keeps ..) | apply Keeps.comp (State.keySync_keeps ..) | apply Keeps.comp (State.keyEnd_keeps ..)
    | apply Keeps.comp (State.keyOwn_keeps ..)

theorem State.keyop_keeps (s : State) (l : Nat) (q : PQ) (fn : Nat) (rd ra rb : Fin 32) : Keeps s (State.keyop s l q fn rd ra rb) := by
  unfold State.keyop
  with_reducible repeat' first
    | assumption | exact Keeps.refl _
    | (extract_lets +onlyGivenNames x; refine Keeps.cut (x := x) ?_ ?_; rotate_left; intro hx; clear_value x; rotate_right; subst x)
    | (extract_lets +onlyGivenNames x; clear_value x) | refine Keeps.ite ?_ ?_ | split | apply Keeps.comp (State.setG_keeps ..)
    | apply Keeps.comp (State.raise_keeps ..) | apply Keeps.comp (State.instr_keeps (hbody := ?_) ..)
    | apply Keeps.comp (State.settleW_keeps ..) | apply Keeps.comp (State.poisonHit_keeps ..) | apply Keeps.comp (State.keyRun_keeps ..)
    | (intro _; beta_reduce)

theorem execKeyopEnc_keeps (l : Fin 64) (q : PQ) (rd ra rb : Fin 32) (s : State) : OutKeeps s (execKeyopEnc l q rd ra rb s) := by
  unfold execKeyopEnc
  first | refine OutKeeps.onCore ?_ | refine OutKeeps.next ?_
  try beta_reduce
  with_reducible repeat' first
    | exact Keeps.refl _ | apply Keeps.comp (State.keyop_keeps ..)

theorem execKeyopDec_keeps (l : Fin 64) (q : PQ) (rd ra rb : Fin 32) (s : State) : OutKeeps s (execKeyopDec l q rd ra rb s) := by
  unfold execKeyopDec
  first | refine OutKeeps.onCore ?_ | refine OutKeeps.next ?_
  try beta_reduce
  with_reducible repeat' first
    | exact Keeps.refl _ | apply Keeps.comp (State.keyop_keeps ..)

theorem execKeyopSign_keeps (l : Fin 64) (q : PQ) (rd ra rb : Fin 32) (s : State) : OutKeeps s (execKeyopSign l q rd ra rb s) := by
  unfold execKeyopSign
  first | refine OutKeeps.onCore ?_ | refine OutKeeps.next ?_
  try beta_reduce
  with_reducible repeat' first
    | exact Keeps.refl _ | apply Keeps.comp (State.keyop_keeps ..)

theorem execKeyopVerify_keeps (l : Fin 64) (q : PQ) (rd ra rb : Fin 32) (s : State) : OutKeeps s (execKeyopVerify l q rd ra rb s) := by
  unfold execKeyopVerify
  first | refine OutKeeps.onCore ?_ | refine OutKeeps.next ?_
  try beta_reduce
  with_reducible repeat' first
    | exact Keeps.refl _ | apply Keeps.comp (State.keyop_keeps ..)

theorem execKeyopDerive_keeps (l : Fin 64) (q : PQ) (rd ra rb : Fin 32) (s : State) : OutKeeps s (execKeyopDerive l q rd ra rb s) := by
  unfold execKeyopDerive
  first | refine OutKeeps.onCore ?_ | refine OutKeeps.next ?_
  try beta_reduce
  with_reducible repeat' first
    | exact Keeps.refl _ | apply Keeps.comp (State.keyop_keeps ..)

theorem execKeyopWrap_keeps (l : Fin 64) (q : PQ) (rd ra rb : Fin 32) (s : State) : OutKeeps s (execKeyopWrap l q rd ra rb s) := by
  unfold execKeyopWrap
  first | refine OutKeeps.onCore ?_ | refine OutKeeps.next ?_
  try beta_reduce
  with_reducible repeat' first
    | exact Keeps.refl _ | apply Keeps.comp (State.keyop_keeps ..)

theorem execKeystage_keeps (l : Fin 64) (q : PQ) (rd ra rb : Fin 32) (s : State) : OutKeeps s (execKeystage l q rd ra rb s) := by
  unfold execKeystage
  first | refine OutKeeps.onCore ?_ | refine OutKeeps.next ?_
  try beta_reduce
  with_reducible repeat' first
    | exact Keeps.refl _ | apply Keeps.comp (State.keyop_keeps ..)

theorem execKeyverify_keeps (l : Fin 64) (q : PQ) (rd ra rb : Fin 32) (s : State) : OutKeeps s (execKeyverify l q rd ra rb s) := by
  unfold execKeyverify
  first | refine OutKeeps.onCore ?_ | refine OutKeeps.next ?_
  try beta_reduce
  with_reducible repeat' first
    | exact Keeps.refl _ | apply Keeps.comp (State.keyop_keeps ..)

theorem execKeycommit_keeps (l : Fin 64) (q : PQ) (rd ra rb : Fin 32) (s : State) : OutKeeps s (execKeycommit l q rd ra rb s) := by
  unfold execKeycommit
  first | refine OutKeeps.onCore ?_ | refine OutKeeps.next ?_
  try beta_reduce
  with_reducible repeat' first
    | exact Keeps.refl _ | apply Keeps.comp (State.keyop_keeps ..)

theorem execRandom_keeps (l : Fin 64) (q : PQ) (rd ra rb : Fin 32) (s : State) : OutKeeps s (execRandom l q rd ra rb s) := by
  unfold execRandom
  first | refine OutKeeps.onCore ?_ | refine OutKeeps.next ?_
  try beta_reduce
  with_reducible repeat' first
    | exact Keeps.refl _ | apply Keeps.comp (State.keyop_keeps ..)

theorem State.asymRun_keeps (s : State) (p : Nat) (q : AsymReq) : Keeps s (State.asymRun s p q).2.2 := by
  unfold State.asymRun
  with_reducible repeat' first
    | assumption | exact Keeps.refl _
    | (extract_lets +onlyGivenNames x; refine Keeps.cut (x := x) ?_ ?_; rotate_left; intro hx; clear_value x; rotate_right; subst x)
    | (extract_lets +onlyGivenNames x; refine Keeps.cut (x := x.2) ?_ ?_; rotate_left; intro hx; clear_value x; rotate_right; subst x)
    | (extract_lets +onlyGivenNames x; clear_value x) | simp -zeta only [Keeps.upd_iff] | split | apply Keeps.comp (State.draw_keeps ..)
    | apply Keeps.comp (State.useKey_keeps ..) | apply Keeps.comp (State.deriveTo_keeps ..) | apply Keeps.comp (State.generate_keeps ..)

theorem State.asymEnd_keeps (s : State) (q : AsymReq) (st : Nat) (out : List Byte) (due : Nat) : Keeps s (State.asymEnd s q st out due) := by
  unfold State.asymEnd
  with_reducible repeat' first
    | exact Keeps.refl _ | split | apply Keeps.comp (State.reply_keeps ..) | apply Keeps.comp (State.setVault_keeps ..)

theorem State.asymWindow_keeps (s : State) (w : Nat) : Keeps s (State.asymWindow s w) := by
  unfold State.asymWindow
  with_reducible repeat' first
    | assumption | exact Keeps.refl _
    | (extract_lets +onlyGivenNames x; refine Keeps.cut (x := x) ?_ ?_; rotate_left; intro hx; clear_value x; rotate_right; subst x)
    | (extract_lets +onlyGivenNames x; refine Keeps.cut (x := x.2.2) ?_ ?_; rotate_left; intro hx; clear_value x; rotate_right; subst x)
    | (extract_lets +onlyGivenNames x; clear_value x) | refine Keeps.ite ?_ ?_ | split | apply Keeps.comp (State.setVault_keeps ..)
    | apply Keeps.comp (State.showAsym_keeps ..) | apply Keeps.comp (State.asymRun_keeps ..) | apply Keeps.comp (State.asymEnd_keeps ..)

theorem State.vaultBind_keeps (s : State) (a : Nat) (w : Word) : Keeps s (State.vaultBind s a w) := by
  unfold State.vaultBind
  with_reducible repeat' first
    | exact Keeps.refl _ | (extract_lets +onlyGivenNames x; clear_value x) | refine Keeps.ite ?_ ?_
    | apply Keeps.comp (State.setReg_keeps ..) | apply Keeps.comp (State.allotBusy_keeps ..)

theorem State.drvWrite_keeps (s : State) (p : Nat) (w : Word) : Keeps s (State.drvWrite s p w) := by
  unfold State.drvWrite
  with_reducible repeat' first
    | assumption | exact Keeps.refl _
    | (extract_lets +onlyGivenNames x; refine Keeps.cut (x := x) ?_ ?_; rotate_left; intro hx; clear_value x; rotate_right; subst x)
    | (extract_lets +onlyGivenNames x; clear_value x) | refine Keeps.ite ?_ ?_ | apply Keeps.comp (State.setFld_keeps ..)
    | apply Keeps.comp (State.event_keeps ..) | apply Keeps.comp (State.allotBusy_keeps ..) | apply Keeps.comp (State.setVault_keeps ..)
    | apply Keeps.comp (State.showDrv_keeps ..)

theorem execVaultDrvWrite_keeps (part : Fin 128) (w : Word) (s : State) : OutKeeps s (execVaultDrvWrite part w s) := by
  unfold execVaultDrvWrite
  first | refine OutKeeps.onCore ?_ | refine OutKeeps.next ?_
  try beta_reduce
  with_reducible repeat' first
    | exact Keeps.refl _ | apply Keeps.comp (State.drvWrite_keeps ..)

theorem execEntropyFail_keeps (s : State) : OutKeeps s (execEntropyFail s) := by
  unfold execEntropyFail
  first | refine OutKeeps.onCore ?_ | refine OutKeeps.next ?_
  try beta_reduce
  with_reducible repeat' first
    | exact Keeps.refl _ | apply Keeps.comp (State.setFlag_keeps ..) | apply Keeps.comp (State.event_keeps ..)

theorem execEntropyRestart_keeps (s : State) : OutKeeps s (execEntropyRestart s) := by
  unfold execEntropyRestart
  first | refine OutKeeps.onCore ?_ | refine OutKeeps.next ?_
  try beta_reduce
  with_reducible repeat' first
    | exact Keeps.refl _ | apply Keeps.comp (State.setFlag_keeps ..)

theorem State.vaultEnd_keeps (s : State) (p : Nat) : Keeps s (State.vaultEnd s p) := by
  unfold State.vaultEnd
  with_reducible repeat' first
    | assumption | exact Keeps.refl _
    | (extract_lets +onlyGivenNames x; refine Keeps.cut (x := x) ?_ ?_; rotate_left; intro hx; clear_value x; rotate_right; subst x)
    | (extract_lets +onlyGivenNames x; clear_value x) | apply Keeps.comp (State.setVault_keeps ..)
    | apply Keeps.comp (State.setSlot_keeps ..) | apply Keeps.comp (State.showDrv_keeps ..) | apply Keeps.comp (State.showAsym_keeps ..)
    | refine Keeps.foldl ?_ ?_ | (intro _; beta_reduce)

theorem State.vaultZero_keeps (s : State) : Keeps s (State.vaultZero s) := by
  unfold State.vaultZero
  with_reducible repeat' first
    | assumption | exact Keeps.refl _
    | (extract_lets +onlyGivenNames x; refine Keeps.cut (x := x) ?_ ?_; rotate_left; intro hx; clear_value x; rotate_right; subst x)
    | (extract_lets +onlyGivenNames x; clear_value x) | apply Keeps.comp (State.setVault_keeps ..)
    | apply Keeps.comp (State.showSlot_keeps ..) | apply Keeps.comp (State.showDrv_keeps ..) | refine Keeps.foldl ?_ ?_
    | (intro _; beta_reduce)

theorem State.endSession_keeps (s : State) (sess cause : Nat) : Keeps s (State.endSession s sess cause) := by
  unfold State.endSession
  with_reducible repeat' first
    | assumption | exact Keeps.refl _
    | (extract_lets +onlyGivenNames x; refine Keeps.cut (x := x) ?_ ?_; rotate_left; intro hx; clear_value x; rotate_right; subst x)
    | (extract_lets +onlyGivenNames x; clear_value x) | refine Keeps.ite ?_ ?_ | simp -zeta only [Keeps.upd_iff] | split
    | apply Keeps.comp (State.event_keeps ..) | apply Keeps.comp (State.safeLock_keeps ..)

theorem State.endSessions_keeps (s : State) (cause : Nat) : Keeps s (State.endSessions s cause) := by
  unfold State.endSessions
  with_reducible repeat' first
    | exact Keeps.refl _ | apply Keeps.comp (State.endSession_keeps ..) | refine Keeps.foldl ?_ ?_ | (intro _; beta_reduce)

theorem State.zeroKey_keeps (s : State) (p h : Nat) : Keeps s (State.zeroKey s p h) := by
  unfold State.zeroKey
  with_reducible repeat' first
    | exact Keeps.refl _ | split | apply Keeps.comp (State.setVault_keeps ..) | apply Keeps.comp (State.setSlot_keeps ..)
    | apply Keeps.comp (State.showDrv_keeps ..)

theorem State.abortAsym_keeps (s : State) : Keeps s (State.abortAsym s) := by
  unfold State.abortAsym
  with_reducible repeat' first
    | assumption | exact Keeps.refl _
    | (extract_lets +onlyGivenNames x; refine Keeps.cut (x := x) ?_ ?_; rotate_left; intro hx; clear_value x; rotate_right; subst x)
    | (extract_lets +onlyGivenNames x; clear_value x) | split | apply Keeps.comp (State.setVault_keeps ..)
    | apply Keeps.comp (State.showAsym_keeps ..) | apply Keeps.comp (State.asymEnd_keeps ..) | apply Keeps.comp (State.zeroKey_keeps ..)
    | refine Keeps.foldl ?_ ?_ | (intro _; beta_reduce)

theorem State.zeroiseKeys_keeps (s : State) : Keeps s (State.zeroiseKeys s) := by
  unfold State.zeroiseKeys
  with_reducible repeat' first
    | assumption | exact Keeps.refl _
    | (extract_lets +onlyGivenNames x; refine Keeps.cut (x := x) ?_ ?_; rotate_left; intro hx; clear_value x; rotate_right; subst x)
    | (extract_lets +onlyGivenNames x; refine Keeps.cut (x := x.2) ?_ ?_; rotate_left; intro hx; clear_value x; rotate_right; subst x)
    | apply Keeps.comp (State.setVault_keeps ..) | apply Keeps.comp (State.random_keeps ..) | apply Keeps.comp (State.vaultZero_keeps ..)
    | apply Keeps.comp (State.endSessions_keeps ..)

theorem State.tamper_keeps (s : State) (bits : Nat) : Keeps s (State.tamper s bits) := by
  unfold State.tamper
  with_reducible repeat' first
    | assumption | exact Keeps.refl _
    | (extract_lets +onlyGivenNames x; refine Keeps.cut (x := x) ?_ ?_; rotate_left; intro hx; clear_value x; rotate_right; subst x)
    | (extract_lets +onlyGivenNames x; clear_value x) | refine Keeps.ite ?_ ?_ | apply Keeps.comp (State.setReg_keeps ..)
    | apply Keeps.comp (State.setFld_keeps ..) | apply Keeps.comp (State.event_keeps ..) | apply Keeps.comp (State.trecAdd_keeps ..)
    | apply Keeps.comp (State.abortAsym_keeps ..) | apply Keeps.comp (State.zeroiseKeys_keeps ..)

theorem State.tamperHalt_keeps (s : State) (bits : Nat) : Keeps s (State.tamperHalt s bits) := by
  unfold State.tamperHalt
  with_reducible repeat' first
    | assumption | exact Keeps.refl _
    | (extract_lets +onlyGivenNames x; refine Keeps.cut (x := x) ?_ ?_; rotate_left; intro hx; clear_value x; rotate_right; subst x)
    | apply Keeps.comp (State.setReg_keeps ..) | apply Keeps.comp (State.setFld_keeps ..) | apply Keeps.comp (State.setFlag_keeps ..)
    | apply Keeps.comp (State.trecAdd_keeps ..)

theorem execTamper_keeps (sensors : BitVec 5) (s : State) : OutKeeps s (execTamper sensors s) := by
  unfold execTamper
  first | refine OutKeeps.onCore ?_ | refine OutKeeps.next ?_
  try beta_reduce
  with_reducible repeat' first
    | exact Keeps.refl _ | refine Keeps.ite ?_ ?_ | apply Keeps.comp (State.tamper_keeps ..)
    | apply Keeps.comp (State.tamperHalt_keeps ..)

theorem execTamperCellEvent_keeps (mesh light : Bool) (s : State) : OutKeeps s (execTamperCellEvent mesh light s) := by
  unfold execTamperCellEvent
  first | refine OutKeeps.onCore ?_ | refine OutKeeps.next ?_
  try beta_reduce
  with_reducible repeat' first
    | assumption | exact Keeps.refl _
    | (extract_lets +onlyGivenNames x; refine Keeps.cut (x := x) ?_ ?_; rotate_left; intro hx; clear_value x; rotate_right; subst x)
    | (extract_lets +onlyGivenNames x; clear_value x) | refine Keeps.ite ?_ ?_ | simp -zeta only [Keeps.upd_iff]
    | apply Keeps.comp (State.trecAdd_keeps ..) | apply Keeps.comp (State.setVault_keeps ..)

theorem execVaultClockCheck_keeps (count : Nat) (s : State) : OutKeeps s (execVaultClockCheck count s) := by
  unfold execVaultClockCheck
  first | refine OutKeeps.onCore ?_ | refine OutKeeps.next ?_
  try beta_reduce
  with_reducible repeat' first
    | exact Keeps.refl _ | refine Keeps.ite ?_ ?_ | apply Keeps.comp (State.tamper_keeps ..)

theorem execClaimCodeExpiry_keeps (part : Fin 128) (s : State) : OutKeeps s (execClaimCodeExpiry part s) := by
  unfold execClaimCodeExpiry
  first | refine OutKeeps.onCore ?_ | refine OutKeeps.next ?_
  try beta_reduce
  with_reducible repeat' first
    | exact Keeps.refl _ | refine Keeps.ite ?_ ?_ | split | apply Keeps.comp (State.setVault_keeps ..)

theorem State.shutter_keeps (s : State) (port : Nat) (b : List Byte) : Keeps s (State.shutter s port b) := by
  unfold State.shutter
  with_reducible repeat' first
    | assumption | exact Keeps.refl _
    | (extract_lets +onlyGivenNames x; refine Keeps.cut (x := x) ?_ ?_; rotate_left; intro hx; clear_value x; rotate_right; subst x)
    | (extract_lets +onlyGivenNames x; clear_value x) | refine Keeps.ite ?_ ?_ | simp -zeta only [Keeps.upd_iff]
    | apply Keeps.comp (State.setReg_keeps ..) | apply Keeps.comp (State.setFld_keeps ..) | apply Keeps.comp (State.incFld_keeps ..)
    | apply Keeps.comp (State.event_keeps ..) | apply Keeps.comp (State.swCount_keeps ..)

theorem execShutter_keeps (port : Fin 40) (datagram : List Byte) (s : State) : OutKeeps s (execShutter port datagram s) := by
  unfold execShutter
  first | refine OutKeeps.onCore ?_ | refine OutKeeps.next ?_
  try beta_reduce
  with_reducible repeat' first
    | exact Keeps.refl _ | apply Keeps.comp (State.shutter_keeps ..)

theorem State.setMet_keeps (s : State) (f : MetSt → MetSt) : Keeps s (State.setMet s f) := by
  unfold State.setMet
  with_reducible repeat' first
    | exact Keeps.refl _ | simp -zeta only [Keeps.upd_iff]

theorem State.setDie_keeps (s : State) (f : MetDie → MetDie) : Keeps s (State.setDie s f) := by
  unfold State.setDie
  with_reducible repeat' first
    | exact Keeps.refl _ | apply Keeps.comp (State.setMet_keeps ..)

theorem State.dieSend_keeps (s : State) (type : Nat) (body : List Byte) : Keeps s (State.dieSend s type body) := by
  unfold State.dieSend
  with_reducible repeat' first
    | exact Keeps.refl _ | apply Keeps.comp (State.setMet_keeps ..)

theorem State.mainSend_keeps (s : State) (type : Nat) (body : List Byte) : Keeps s (State.mainSend s type body) := by
  unfold State.mainSend
  with_reducible repeat' first
    | exact Keeps.refl _ | apply Keeps.comp (State.setMet_keeps ..)

theorem State.legal_keeps (s : State) (kind param old new : Nat) : Keeps s (State.legal s kind param old new) := by
  unfold State.legal
  with_reducible repeat' first
    | assumption | exact Keeps.refl _
    | (extract_lets +onlyGivenNames x; refine Keeps.cut (x := x) ?_ ?_; rotate_left; intro hx; clear_value x; rotate_right; subst x)
    | (extract_lets +onlyGivenNames x; clear_value x) | refine Keeps.ite ?_ ?_ | apply Keeps.comp (State.setDie_keeps ..)
    | apply Keeps.comp (State.dieSend_keeps ..)

theorem State.sendIdent_keeps (s : State) : Keeps s (State.sendIdent s) := by
  unfold State.sendIdent
  with_reducible repeat' first
    | exact Keeps.refl _ | (extract_lets +onlyGivenNames x; clear_value x) | apply Keeps.comp (State.dieSend_keeps ..)

theorem State.intervalEnd_keeps (s : State) (m : MeasIn) : Keeps s (State.intervalEnd s m) := by
  unfold State.intervalEnd
  with_reducible repeat' first
    | assumption | exact Keeps.refl _
    | (extract_lets +onlyGivenNames x; refine Keeps.cut (x := x) ?_ ?_; rotate_left; intro hx; clear_value x; rotate_right; subst x)
    | refine Keeps.ite ?_ ?_ | apply Keeps.comp (State.setDie_keeps ..) | apply Keeps.comp (State.dieSend_keeps ..)

theorem execMeasIntervalEnd_keeps (m : MeasIn) (s : State) : OutKeeps s (execMeasIntervalEnd m s) := by
  unfold execMeasIntervalEnd
  first | refine OutKeeps.onCore ?_ | refine OutKeeps.next ?_
  try beta_reduce
  with_reducible repeat' first
    | exact Keeps.refl _ | apply Keeps.comp (State.intervalEnd_keeps ..)

theorem State.seal_keeps (s : State) (moved : MetDie → Bool) (f : MetDie → MetDie) (kind : Nat) : Keeps s (State.seal s moved f kind) := by
  unfold State.seal
  with_reducible repeat' first
    | exact Keeps.refl _ | refine Keeps.ite ?_ ?_ | apply Keeps.comp (State.setDie_keeps ..) | apply Keeps.comp (State.legal_keeps ..)

theorem execCoverOpen_keeps (s : State) : OutKeeps s (execCoverOpen s) := by
  unfold execCoverOpen
  first | refine OutKeeps.onCore ?_ | refine OutKeeps.next ?_
  try beta_reduce
  with_reducible repeat' first
    | exact Keeps.refl _ | apply Keeps.comp (State.seal_keeps ..)

theorem execCoverClosed_keeps (s : State) : OutKeeps s (execCoverClosed s) := by
  unfold execCoverClosed
  first | refine OutKeeps.onCore ?_ | refine OutKeeps.next ?_
  try beta_reduce
  with_reducible repeat' first
    | exact Keeps.refl _ | apply Keeps.comp (State.seal_keeps ..)

theorem execSwitchChange_keeps (s : State) : OutKeeps s (execSwitchChange s) := by
  unfold execSwitchChange
  first | refine OutKeeps.onCore ?_ | refine OutKeeps.next ?_
  try beta_reduce
  with_reducible repeat' first
    | exact Keeps.refl _ | apply Keeps.comp (State.seal_keeps ..)

theorem execSwitchLocked_keeps (s : State) : OutKeeps s (execSwitchLocked s) := by
  unfold execSwitchLocked
  first | refine OutKeeps.onCore ?_ | refine OutKeeps.next ?_
  try beta_reduce
  with_reducible repeat' first
    | exact Keeps.refl _ | apply Keeps.comp (State.seal_keeps ..)

theorem execSwFault_keeps (s : State) : OutKeeps s (execSwFault s) := by
  unfold execSwFault
  first | refine OutKeeps.onCore ?_ | refine OutKeeps.next ?_
  try beta_reduce
  with_reducible repeat' first
    | exact Keeps.refl _ | refine Keeps.ite ?_ ?_ | apply Keeps.comp (State.setDie_keeps ..) | apply Keeps.comp (State.legal_keeps ..)

theorem execMetroSupplyLoss_keeps (s : State) : OutKeeps s (execMetroSupplyLoss s) := by
  unfold execMetroSupplyLoss
  first | refine OutKeeps.onCore ?_ | refine OutKeeps.next ?_
  try beta_reduce
  with_reducible repeat' first
    | exact Keeps.refl _ | refine Keeps.ite ?_ ?_ | apply Keeps.comp (State.setDie_keeps ..)

theorem execMetroHourlyStore_keeps (s : State) : OutKeeps s (execMetroHourlyStore s) := by
  unfold execMetroHourlyStore
  first | refine OutKeeps.onCore ?_ | refine OutKeeps.next ?_
  try beta_reduce
  with_reducible repeat' first
    | exact Keeps.refl _ | refine Keeps.ite ?_ ?_ | apply Keeps.comp (State.setDie_keeps ..)

theorem execMetroStart_keeps (s : State) : OutKeeps s (execMetroStart s) := by
  unfold execMetroStart
  first | refine OutKeeps.onCore ?_ | refine OutKeeps.next ?_
  try beta_reduce
  with_reducible repeat' first
    | exact Keeps.refl _ | refine Keeps.ite ?_ ?_ | apply Keeps.comp (State.setDie_keeps ..) | apply Keeps.comp (State.sendIdent_keeps ..)

theorem State.dieTake_keeps (s : State) (type : Nat) (ok : Bool) : Keeps s (State.dieTake s type ok).2 := by
  unfold State.dieTake
  with_reducible repeat' first
    | assumption | exact Keeps.refl _
    | (extract_lets +onlyGivenNames x; refine Keeps.cut (x := x) ?_ ?_; rotate_left; intro hx; clear_value x; rotate_right; subst x)
    | simp -zeta only [Keeps.upd_iff] | split | apply Keeps.comp (State.setMet_keeps ..) | apply Keeps.comp (State.setDie_keeps ..)

theorem execMetTime_keeps (sec : BitVec 64) (crcOk : Bool) (s : State) : OutKeeps s (execMetTime sec crcOk s) := by
  unfold execMetTime
  first | refine OutKeeps.onCore ?_ | refine OutKeeps.next ?_
  try beta_reduce
  with_reducible repeat' first
    | exact Keeps.refl _ | refine Keeps.ite ?_ ?_ | split | apply Keeps.comp (State.setDie_keeps ..)

theorem execTestSel_keeps (crcOk : Bool) (s : State) : OutKeeps s (execTestSel crcOk s) := by
  unfold execTestSel
  first | refine OutKeeps.onCore ?_ | refine OutKeeps.next ?_
  try beta_reduce
  with_reducible repeat' first
    | exact Keeps.refl _ | split | apply Keeps.comp (State.setDie_keeps ..) | apply Keeps.comp (State.dieTake_keeps ..)
    | refine Keeps.sndOf (by assumption) ?_

theorem execLogReq_keeps (crcOk : Bool) (s : State) : OutKeeps s (execLogReq crcOk s) := by
  unfold execLogReq
  first | refine OutKeeps.onCore ?_ | refine OutKeeps.next ?_
  try beta_reduce
  with_reducible repeat' first
    | exact Keeps.refl _ | split | apply Keeps.comp (State.dieSend_keeps ..) | apply Keeps.comp (State.sendIdent_keeps ..)
    | apply Keeps.comp (State.dieTake_keeps ..) | refine Keeps.foldl ?_ ?_ | (intro _; beta_reduce)
    | refine Keeps.sndOf (by assumption) ?_

theorem State.changeReq_keeps (s : State) (i v : Nat) : Keeps s (State.changeReq s i v) := by
  unfold State.changeReq
  with_reducible repeat' first
    | assumption | exact Keeps.refl _
    | (extract_lets +onlyGivenNames x; refine Keeps.cut (x := x) ?_ ?_; rotate_left; intro hx; clear_value x; rotate_right; subst x)
    | (extract_lets +onlyGivenNames x; clear_value x) | refine Keeps.ite ?_ ?_ | apply Keeps.comp (State.setDie_keeps ..)
    | apply Keeps.comp (State.dieSend_keeps ..) | apply Keeps.comp (State.legal_keeps ..)

theorem execChgReq_keeps (crcOk : Bool) (s : State) : OutKeeps s (execChgReq crcOk s) := by
  unfold execChgReq
  first | refine OutKeeps.onCore ?_ | refine OutKeeps.next ?_
  try beta_reduce
  with_reducible repeat' first
    | exact Keeps.refl _ | split | apply Keeps.comp (State.dieTake_keeps ..) | apply Keeps.comp (State.changeReq_keeps ..)
    | refine Keeps.sndOf (by assumption) ?_

theorem State.mainTake_keeps (s : State) (type : Nat) (ok : Bool) : Keeps s (State.mainTake s type ok) := by
  unfold State.mainTake
  with_reducible repeat' first
    | assumption | exact Keeps.refl _
    | (extract_lets +onlyGivenNames x; refine Keeps.cut (x := x) ?_ ?_; rotate_left; intro hx; clear_value x; rotate_right; subst x)
    | refine Keeps.ite ?_ ?_ | split | apply Keeps.comp (State.incFld_keeps ..) | apply Keeps.comp (State.setMet_keeps ..)

theorem execMeas_keeps (crcOk : Bool) (s : State) : OutKeeps s (execMeas crcOk s) := by
  unfold execMeas
  first | refine OutKeeps.onCore ?_ | refine OutKeeps.next ?_
  try beta_reduce
  with_reducible repeat' first
    | exact Keeps.refl _ | apply Keeps.comp (State.mainTake_keeps ..)

theorem execMetLog_keeps (crcOk : Bool) (s : State) : OutKeeps s (execMetLog crcOk s) := by
  unfold execMetLog
  first | refine OutKeeps.onCore ?_ | refine OutKeeps.next ?_
  try beta_reduce
  with_reducible repeat' first
    | exact Keeps.refl _ | apply Keeps.comp (State.mainTake_keeps ..)

theorem execMetIdent_keeps (crcOk : Bool) (s : State) : OutKeeps s (execMetIdent crcOk s) := by
  unfold execMetIdent
  first | refine OutKeeps.onCore ?_ | refine OutKeeps.next ?_
  try beta_reduce
  with_reducible repeat' first
    | exact Keeps.refl _ | apply Keeps.comp (State.mainTake_keeps ..)

theorem execChgResult_keeps (crcOk : Bool) (s : State) : OutKeeps s (execChgResult crcOk s) := by
  unfold execChgResult
  first | refine OutKeeps.onCore ?_ | refine OutKeeps.next ?_
  try beta_reduce
  with_reducible repeat' first
    | exact Keeps.refl _ | apply Keeps.comp (State.mainTake_keeps ..)

theorem State.measLand_keeps (s : State) (b : List Byte) : Keeps s (State.measLand s b) := by
  unfold State.measLand
  with_reducible repeat' first
    | assumption | exact Keeps.refl _
    | (extract_lets +onlyGivenNames x; refine Keeps.cut (x := x) ?_ ?_; rotate_left; intro hx; clear_value x; rotate_right; subst x)
    | (extract_lets +onlyGivenNames x; clear_value x) | refine Keeps.ite ?_ ?_ | apply Keeps.comp (State.setReg_keeps ..)
    | apply Keeps.comp (State.setFlag_keeps ..) | apply Keeps.comp (State.event_keeps ..) | apply Keeps.comp (State.setMet_keeps ..)
    | refine Keeps.foldl ?_ ?_ | (intro _; beta_reduce)

theorem State.logLand_keeps (s : State) (b : List Byte) : Keeps s (State.logLand s b) := by
  unfold State.logLand
  with_reducible repeat' first
    | exact Keeps.refl _ | refine Keeps.ite ?_ ?_ | apply Keeps.comp (State.setMet_keeps ..)

theorem State.identLand_keeps (s : State) (b : List Byte) : Keeps s (State.identLand s b) := by
  unfold State.identLand
  with_reducible repeat' first
    | assumption | exact Keeps.refl _
    | (extract_lets +onlyGivenNames x; refine Keeps.cut (x := x) ?_ ?_; rotate_left; intro hx; clear_value x; rotate_right; subst x)
    | apply Keeps.comp (State.setReg_keeps ..) | apply Keeps.comp (State.setFld_keeps ..) | refine Keeps.foldl ?_ ?_
    | (intro _; beta_reduce)

theorem State.metLand_keeps (s : State) : Keeps s (State.metLand s) := by
  unfold State.metLand
  with_reducible repeat' first
    | assumption | exact Keeps.refl _
    | (extract_lets +onlyGivenNames x; refine Keeps.cut (x := x) ?_ ?_; rotate_left; intro hx; clear_value x; rotate_right; subst x)
    | (extract_lets +onlyGivenNames x; clear_value x) | refine Keeps.ite ?_ ?_ | apply Keeps.comp (State.setFld_keeps ..)
    | apply Keeps.comp (State.setMet_keeps ..) | apply Keeps.comp (State.measLand_keeps ..) | apply Keeps.comp (State.logLand_keeps ..)
    | apply Keeps.comp (State.identLand_keeps ..) | refine Keeps.foldl ?_ ?_ | (intro _; beta_reduce)

theorem State.chgGo_keeps (s : State) (w : Word) : Keeps s (State.chgGo s w) := by
  unfold State.chgGo
  with_reducible repeat' first
    | exact Keeps.refl _ | (extract_lets +onlyGivenNames x; clear_value x) | refine Keeps.ite ?_ ?_
    | apply Keeps.comp (State.setFld_keeps ..) | apply Keeps.comp (State.mainSend_keeps ..)

theorem execMetlChgGo_keeps (w : Word) (s : State) : OutKeeps s (execMetlChgGo w s) := by
  unfold execMetlChgGo
  first | refine OutKeeps.onCore ?_ | refine OutKeeps.next ?_
  try beta_reduce
  with_reducible repeat' first
    | exact Keeps.refl _ | apply Keeps.comp (State.chgGo_keeps ..)

theorem State.testWrite_keeps (s : State) (w : Word) : Keeps s (State.testWrite s w) := by
  unfold State.testWrite
  with_reducible repeat' first
    | assumption | exact Keeps.refl _
    | (extract_lets +onlyGivenNames x; refine Keeps.cut (x := x) ?_ ?_; rotate_left; intro hx; clear_value x; rotate_right; subst x)
    | apply Keeps.comp (State.setReg_keeps ..) | apply Keeps.comp (State.mainSend_keeps ..)

theorem execMetlTestWrite_keeps (w : Word) (s : State) : OutKeeps s (execMetlTestWrite w s) := by
  unfold execMetlTestWrite
  first | refine OutKeeps.onCore ?_ | refine OutKeeps.next ?_
  try beta_reduce
  with_reducible repeat' first
    | exact Keeps.refl _ | apply Keeps.comp (State.testWrite_keeps ..)

theorem execMetlLinkDown_keeps (s : State) : OutKeeps s (execMetlLinkDown s) := by
  unfold execMetlLinkDown
  first | refine OutKeeps.onCore ?_ | refine OutKeeps.next ?_
  try beta_reduce
  with_reducible repeat' first
    | assumption | exact Keeps.refl _
    | (extract_lets +onlyGivenNames x; refine Keeps.cut (x := x) ?_ ?_; rotate_left; intro hx; clear_value x; rotate_right; subst x)
    | (extract_lets +onlyGivenNames x; clear_value x) | refine Keeps.ite ?_ ?_ | apply Keeps.comp (State.setFld_keeps ..)
    | apply Keeps.comp (State.setFlag_keeps ..) | apply Keeps.comp (State.event_keeps ..)

theorem State.assignWrite_keeps (s : State) (e : Nat) (w : Word) : Keeps s (State.assignWrite s e w) := by
  unfold State.assignWrite
  with_reducible repeat' first
    | exact Keeps.refl _ | (extract_lets +onlyGivenNames x; clear_value x) | refine Keeps.ite ?_ ?_
    | apply Keeps.comp (State.event_keeps ..) | apply Keeps.comp (State.bindWrite_keeps ..) | apply Keeps.comp (State.allotBusy_keeps ..)

theorem execMetlAssignWrite_keeps (e : Fin 24) (w : Word) (s : State) : OutKeeps s (execMetlAssignWrite e w s) := by
  unfold execMetlAssignWrite
  first | refine OutKeeps.onCore ?_ | refine OutKeeps.next ?_
  try beta_reduce
  with_reducible repeat' first
    | exact Keeps.refl _ | apply Keeps.comp (State.assignWrite_keeps ..)

theorem State.assignEnd_keeps (s : State) (p : Nat) : Keeps s (State.assignEnd s p) := by
  unfold State.assignEnd
  with_reducible repeat' first
    | exact Keeps.refl _ | (extract_lets +onlyGivenNames x; clear_value x) | refine Keeps.ite ?_ ?_
    | apply Keeps.comp (State.setReg_keeps ..) | refine Keeps.foldl ?_ ?_ | (intro _; beta_reduce)

theorem State.setKeep_keeps (s : State) (f : KeepSt → KeepSt) : Keeps s (State.setKeep s f) := by
  unfold State.setKeep
  with_reducible repeat' first
    | exact Keeps.refl _ | simp -zeta only [Keeps.upd_iff]

theorem State.ringIndex_keeps (s : State) (r : Nat) : Keeps s (State.ringIndex s r) := by
  unfold State.ringIndex
  with_reducible repeat' first
    | assumption | exact Keeps.refl _
    | (extract_lets +onlyGivenNames x; refine Keeps.cut (x := x) ?_ ?_; rotate_left; intro hx; clear_value x; rotate_right; subst x)
    | (extract_lets +onlyGivenNames x; clear_value x) | refine Keeps.ite ?_ ?_ | split | apply Keeps.comp (State.event_keeps ..)
    | apply Keeps.comp (State.setRing_keeps ..)

theorem State.eraseRun_keeps (s : State) (base n : Nat) : Keeps s (State.eraseRun s base n) := by
  unfold State.eraseRun
  with_reducible repeat' first
    | exact Keeps.refl _ | apply Keeps.comp (State.setKeep_keeps ..)

theorem State.keepRingWrite_keeps (s : State) (r k : Nat) (w : Word) : Keeps s (State.keepRingWrite s r k w) := by
  unfold State.keepRingWrite
  with_reducible repeat' first
    | assumption | exact Keeps.refl _
    | (extract_lets +onlyGivenNames x; refine Keeps.cut (x := x) ?_ ?_; rotate_left; intro hx; clear_value x; rotate_right; subst x)
    | (extract_lets +onlyGivenNames x; clear_value x) | refine Keeps.ite ?_ ?_ | apply Keeps.comp (State.setReg_keeps ..)
    | apply Keeps.comp (State.event_keeps ..) | apply Keeps.comp (State.bindWrite_keeps ..) | apply Keeps.comp (State.allotBusy_keeps ..)
    | apply Keeps.comp (State.setRing_keeps ..) | apply Keeps.comp (State.setKeep_keeps ..) | apply Keeps.comp (State.ringIndex_keeps ..)
    | apply Keeps.comp (State.eraseRun_keeps ..)

theorem execKeepRingWrite_keeps (r : Fin 256) (k : Fin 3) (w : Word) (s : State) : OutKeeps s (execKeepRingWrite r k w s) := by
  unfold execKeepRingWrite
  first | refine OutKeeps.onCore ?_ | refine OutKeeps.next ?_
  try beta_reduce
  with_reducible repeat' first
    | exact Keeps.refl _ | apply Keeps.comp (State.keepRingWrite_keeps ..)

theorem State.ringsTell_keeps (s : State) : Keeps s (State.ringsTell s) := by
  unfold State.ringsTell
  with_reducible repeat' first
    | exact Keeps.refl _ | (extract_lets +onlyGivenNames x; clear_value x) | refine Keeps.ite ?_ ?_
    | apply Keeps.comp (State.event_keeps ..) | apply Keeps.comp (State.setRing_keeps ..) | refine Keeps.foldl ?_ ?_
    | (intro _; beta_reduce)

theorem State.keepEnd_keeps (s : State) (p : Nat) : Keeps s (State.keepEnd s p) := by
  unfold State.keepEnd
  with_reducible repeat' first
    | assumption | exact Keeps.refl _
    | (extract_lets +onlyGivenNames x; refine Keeps.cut (x := x) ?_ ?_; rotate_left; intro hx; clear_value x; rotate_right; subst x)
    | apply Keeps.comp (State.setRing_keeps ..) | apply Keeps.comp (State.setKeep_keeps ..) | apply Keeps.comp (State.eraseRun_keeps ..)
    | refine Keeps.foldl ?_ ?_ | (intro _; beta_reduce)

theorem State.askStore_keeps (s : State) (r : Nat) : Keeps s (State.askStore s r) := by
  unfold State.askStore
  with_reducible repeat' first
    | exact Keeps.refl _ | (extract_lets +onlyGivenNames x; clear_value x) | refine Keeps.ite ?_ ?_
    | apply Keeps.comp (State.setFld_keeps ..) | apply Keeps.comp (State.setRing_keeps ..)

theorem State.keepCmd_keeps (s : State) (w : Word) : Keeps s (State.keepCmd s w) := by
  unfold State.keepCmd
  with_reducible repeat' first
    | exact Keeps.refl _ | (extract_lets +onlyGivenNames x; clear_value x) | refine Keeps.ite ?_ ?_
    | apply Keeps.comp (State.event_keeps ..) | apply Keeps.comp (State.askStore_keeps ..)

theorem execKeepStoreRequest_keeps (w : Word) (s : State) : OutKeeps s (execKeepStoreRequest w s) := by
  unfold execKeepStoreRequest
  first | refine OutKeeps.onCore ?_ | refine OutKeeps.next ?_
  try beta_reduce
  with_reducible repeat' first
    | exact Keeps.refl _ | apply Keeps.comp (State.keepCmd_keeps ..)

theorem State.beginWrite_keeps (s : State) (r loc cause : Nat) : Keeps s (State.beginWrite s r loc cause) := by
  unfold State.beginWrite
  with_reducible repeat' first
    | exact Keeps.refl _ | split | apply Keeps.comp (State.setKeep_keeps ..)

theorem State.capture_keeps (s : State) (r : Nat) : Keeps s (State.capture s r) := by
  unfold State.capture
  with_reducible repeat' first
    | exact Keeps.refl _ | (extract_lets +onlyGivenNames x; clear_value x) | refine Keeps.ite ?_ ?_ | split
    | apply Keeps.comp (State.setFld_keeps ..) | apply Keeps.comp (State.startRepair_keeps ..) | apply Keeps.comp (State.setRing_keeps ..)
    | apply Keeps.comp (State.beginWrite_keeps ..)

theorem execKeepCapture_keeps (r : Fin 256) (s : State) : OutKeeps s (execKeepCapture r s) := by
  unfold execKeepCapture
  first | refine OutKeeps.onCore ?_ | refine OutKeeps.next ?_
  try beta_reduce
  with_reducible repeat' first
    | exact Keeps.refl _ | apply Keeps.comp (State.capture_keeps ..)

theorem State.writeDone_keeps (s : State) (x : KeepWrite) : Keeps s (State.writeDone s x) := by
  unfold State.writeDone
  with_reducible repeat' first
    | assumption | exact Keeps.refl _
    | (extract_lets +onlyGivenNames x; refine Keeps.cut (x := x) ?_ ?_; rotate_left; intro hx; clear_value x; rotate_right; subst x)
    | (extract_lets +onlyGivenNames x; clear_value x) | refine Keeps.ite ?_ ?_ | split | apply Keeps.comp (State.incFld_keeps ..)
    | apply Keeps.comp (State.setRing_keeps ..) | apply Keeps.comp (State.setKeep_keeps ..)

theorem State.writeFailed_keeps (s : State) (x : KeepWrite) : Keeps s (State.writeFailed s x) := by
  unfold State.writeFailed
  with_reducible repeat' first
    | assumption | exact Keeps.refl _
    | (extract_lets +onlyGivenNames x; refine Keeps.cut (x := x) ?_ ?_; rotate_left; intro hx; clear_value x; rotate_right; subst x)
    | (extract_lets +onlyGivenNames x; refine Keeps.cutF0 (f := x) ?_ ?_; rotate_left; intro hf0; clear_value x; rotate_right; subst x)
    | (extract_lets +onlyGivenNames x; clear_value x) | refine Keeps.ite ?_ ?_ | simp -zeta only [Keeps.upd_iff] | split
    | apply Keeps.comp (State.setFld_keeps ..) | apply Keeps.comp (State.event_keeps ..) | apply Keeps.comp (State.setRing_keeps ..)
    | apply Keeps.comp (State.setKeep_keeps ..) | apply Keeps.comp (hf0 ..) | (intro _; beta_reduce)

theorem execKeepPageWriteDone_keeps (r : Fin 256) (ok : Bool) (s : State) : OutKeeps s (execKeepPageWriteDone r ok s) := by
  unfold execKeepPageWriteDone
  first | refine OutKeeps.onCore ?_ | refine OutKeeps.next ?_
  try beta_reduce
  with_reducible repeat' first
    | exact Keeps.refl _ | (extract_lets +onlyGivenNames x; clear_value x) | refine Keeps.ite ?_ ?_ | split
    | apply Keeps.comp (State.setKeep_keeps ..) | apply Keeps.comp (State.writeDone_keeps ..)
    | apply Keeps.comp (State.writeFailed_keeps ..)

theorem State.keepAbandon_keeps (s : State) : Keeps s (State.keepAbandon s) := by
  unfold State.keepAbandon
  with_reducible repeat' first
    | assumption | exact Keeps.refl _
    | (extract_lets +onlyGivenNames x; refine Keeps.cut (x := x) ?_ ?_; rotate_left; intro hx; clear_value x; rotate_right; subst x)
    | (extract_lets +onlyGivenNames x; clear_value x) | refine Keeps.ite ?_ ?_ | apply Keeps.comp (State.setFld_keeps ..)
    | apply Keeps.comp (State.setRing_keeps ..) | apply Keeps.comp (State.setKeep_keeps ..) | refine Keeps.foldl ?_ ?_
    | (intro _; beta_reduce)

theorem State.shutdownStore_keeps (s : State) : Keeps s (State.shutdownStore s) := by
  unfold State.shutdownStore
  with_reducible repeat' first
    | exact Keeps.refl _ | refine Keeps.ite ?_ ?_ | split | apply Keeps.comp (State.beginWrite_keeps ..) | refine Keeps.foldl ?_ ?_
    | (intro _; beta_reduce)

theorem State.keepPowerOff_keeps (s : State) : Keeps s (State.keepPowerOff s) := by
  unfold State.keepPowerOff
  with_reducible repeat' first
    | assumption | exact Keeps.refl _
    | (extract_lets +onlyGivenNames x; refine Keeps.cut (x := x) ?_ ?_; rotate_left; intro hx; clear_value x; rotate_right; subst x)
    | (extract_lets +onlyGivenNames x; clear_value x) | apply Keeps.comp (State.setKeep_keeps ..) | refine Keeps.foldl ?_ ?_
    | (intro _; beta_reduce)

theorem State.ringFill_keeps (s : State) (r : Nat) : Keeps s (State.ringFill s r) := by
  unfold State.ringFill
  with_reducible repeat' first
    | exact Keeps.refl _ | (extract_lets +onlyGivenNames x; clear_value x) | split | apply Keeps.comp (State.putTile_keeps ..)

theorem State.linkChange_keeps (s : State) (port speed : Nat) (amp : Bool) : Keeps s (State.linkChange s port speed amp) := by
  unfold State.linkChange
  with_reducible repeat' first
    | assumption | exact Keeps.refl _
    | (extract_lets +onlyGivenNames x; refine Keeps.cut (x := x) ?_ ?_; rotate_left; intro hx; clear_value x; rotate_right; subst x)
    | (extract_lets +onlyGivenNames x; clear_value x) | refine Keeps.ite ?_ ?_ | split | apply Keeps.comp (State.setFld_keeps ..)
    | apply Keeps.comp (State.setFlag_keeps ..) | apply Keeps.comp (State.swCount_keeps ..) | apply Keeps.comp (State.fire_keeps ..)

theorem execLinkChange_keeps (port : Fin 40) (speed : Fin 4) (amp : Bool) (s : State) : OutKeeps s (execLinkChange port speed amp s) := by
  unfold execLinkChange
  first | refine OutKeeps.onCore ?_ | refine OutKeeps.next ?_
  try beta_reduce
  with_reducible repeat' first
    | exact Keeps.refl _ | apply Keeps.comp (State.linkChange_keeps ..)

theorem State.setSpePort_keeps (s : State) (n : Nat) (x : SpePort) : Keeps s (State.setSpePort s n x) := by
  unfold State.setSpePort
  with_reducible repeat' first
    | exact Keeps.refl _ | (extract_lets +onlyGivenNames x; clear_value x) | simp -zeta only [Keeps.upd_iff]

theorem State.setPse_keeps (s : State) (n v : Nat) : Keeps s (State.setPse s n v) := by
  unfold State.setPse
  with_reducible repeat' first
    | assumption | exact Keeps.refl _
    | (extract_lets +onlyGivenNames x; refine Keeps.cut (x := x) ?_ ?_; rotate_left; intro hx; clear_value x; rotate_right; subst x)
    | (extract_lets +onlyGivenNames x; clear_value x) | simp -zeta only [Keeps.upd_iff] | apply Keeps.comp (State.setFld_keeps ..)
    | apply Keeps.comp (State.setSpePort_keeps ..)

theorem State.setPseCause_keeps (s : State) (n c : Nat) : Keeps s (State.setPseCause s n c) := by
  unfold State.setPseCause
  with_reducible repeat' first
    | exact Keeps.refl _ | apply Keeps.comp (State.setFld_keeps ..)

theorem State.pseFault_keeps (s : State) (n cause : Nat) : Keeps s (State.pseFault s n cause) := by
  unfold State.pseFault
  with_reducible repeat' first
    | assumption | exact Keeps.refl _
    | (extract_lets +onlyGivenNames x; refine Keeps.cut (x := x) ?_ ?_; rotate_left; intro hx; clear_value x; rotate_right; subst x)
    | apply Keeps.comp (State.incFld_keeps ..) | apply Keeps.comp (State.event_keeps ..) | apply Keeps.comp (State.fire_keeps ..)
    | apply Keeps.comp (State.setPse_keeps ..) | apply Keeps.comp (State.setPseCause_keeps ..)

theorem State.pseDetect_keeps (s : State) (n : Nat) : Keeps s (State.pseDetect s n) := by
  unfold State.pseDetect
  with_reducible repeat' first
    | exact Keeps.refl _ | apply Keeps.comp (State.setPse_keeps ..) | apply Keeps.comp (State.setPseCause_keeps ..)

theorem State.pseChange_keeps (s : State) (n : Nat) : Keeps s (State.pseChange s n) := by
  unfold State.pseChange
  with_reducible repeat' first
    | assumption | exact Keeps.refl _
    | (extract_lets +onlyGivenNames x; refine Keeps.cut (x := x) ?_ ?_; rotate_left; intro hx; clear_value x; rotate_right; subst x)
    | (extract_lets +onlyGivenNames x; clear_value x) | refine Keeps.ite ?_ ?_ | apply Keeps.comp (State.setSpePort_keeps ..)
    | apply Keeps.comp (State.setPse_keeps ..) | apply Keeps.comp (State.pseDetect_keeps ..)

theorem execPseEnableChange_keeps (n : Fin 32) (s : State) : OutKeeps s (execPseEnableChange n s) := by
  unfold execPseEnableChange
  first | refine OutKeeps.onCore ?_ | refine OutKeeps.next ?_
  try beta_reduce
  with_reducible repeat' first
    | exact Keeps.refl _ | apply Keeps.comp (State.pseChange_keeps ..)

theorem State.pseAllOff_keeps (s : State) : Keeps s (State.pseAllOff s) := by
  unfold State.pseAllOff
  with_reducible repeat' first
    | exact Keeps.refl _ | (extract_lets +onlyGivenNames x; clear_value x) | refine Keeps.ite ?_ ?_
    | apply Keeps.comp (State.setSpePort_keeps ..) | apply Keeps.comp (State.setPse_keeps ..) | refine Keeps.foldl ?_ ?_
    | (intro _; beta_reduce)

theorem State.pseReconnect_keeps (s : State) : Keeps s (State.pseReconnect s) := by
  unfold State.pseReconnect
  with_reducible repeat' first
    | exact Keeps.refl _ | apply Keeps.comp (State.pseChange_keeps ..) | refine Keeps.foldl ?_ ?_ | (intro _; beta_reduce)

theorem State.pseDetected_keeps (s : State) (n : Nat) (ok : Bool) : Keeps s (State.pseDetected s n ok) := by
  unfold State.pseDetected
  with_reducible repeat' first
    | exact Keeps.refl _ | refine Keeps.ite ?_ ?_ | apply Keeps.comp (State.setPse_keeps ..)

theorem execPseDetectResult_keeps (n : Fin 32) (ok : Bool) (s : State) : OutKeeps s (execPseDetectResult n ok s) := by
  unfold execPseDetectResult
  first | refine OutKeeps.onCore ?_ | refine OutKeeps.next ?_
  try beta_reduce
  with_reducible repeat' first
    | exact Keeps.refl _ | apply Keeps.comp (State.pseDetected_keeps ..)

theorem State.pseClassified_keeps (s : State) (n cls power : Nat) : Keeps s (State.pseClassified s n cls power) := by
  unfold State.pseClassified
  with_reducible repeat' first
    | assumption | exact Keeps.refl _
    | (extract_lets +onlyGivenNames x; refine Keeps.cut (x := x) ?_ ?_; rotate_left; intro hx; clear_value x; rotate_right; subst x)
    | (extract_lets +onlyGivenNames x; clear_value x) | refine Keeps.ite ?_ ?_ | apply Keeps.comp (State.setFld_keeps ..)
    | apply Keeps.comp (State.setPse_keeps ..) | apply Keeps.comp (State.pseFault_keeps ..)

theorem execPseClassified_keeps (n : Fin 32) (cls : Fin 16) (power : Nat) (s : State) : OutKeeps s (execPseClassified n cls power s) := by
  unfold execPseClassified
  first | refine OutKeeps.onCore ?_ | refine OutKeeps.next ?_
  try beta_reduce
  with_reducible repeat' first
    | exact Keeps.refl _ | apply Keeps.comp (State.pseClassified_keeps ..)

theorem execPseShort_keeps (n : Fin 32) (s : State) : OutKeeps s (execPseShort n s) := by
  unfold execPseShort
  first | refine OutKeeps.onCore ?_ | refine OutKeeps.next ?_
  try beta_reduce
  with_reducible repeat' first
    | exact Keeps.refl _ | refine Keeps.ite ?_ ?_ | apply Keeps.comp (State.pseFault_keeps ..)

theorem execPseOverload_keeps (n : Fin 32) (watts : Fin 256) (s : State) : OutKeeps s (execPseOverload n watts s) := by
  unfold execPseOverload
  first | refine OutKeeps.onCore ?_ | refine OutKeeps.next ?_
  try beta_reduce
  with_reducible repeat' first
    | exact Keeps.refl _ | refine Keeps.ite ?_ ?_ | apply Keeps.comp (State.setFld_keeps ..) | apply Keeps.comp (State.pseFault_keeps ..)

theorem execPseOpen_keeps (n : Fin 32) (s : State) : OutKeeps s (execPseOpen n s) := by
  unfold execPseOpen
  first | refine OutKeeps.onCore ?_ | refine OutKeeps.next ?_
  try beta_reduce
  with_reducible repeat' first
    | exact Keeps.refl _ | refine Keeps.ite ?_ ?_ | apply Keeps.comp (State.setPse_keeps ..)
    | apply Keeps.comp (State.setPseCause_keeps ..)

theorem execPseRetry_keeps (n : Fin 32) (s : State) : OutKeeps s (execPseRetry n s) := by
  unfold execPseRetry
  first | refine OutKeeps.onCore ?_ | refine OutKeeps.next ?_
  try beta_reduce
  with_reducible repeat' first
    | exact Keeps.refl _ | (extract_lets +onlyGivenNames x; clear_value x) | refine Keeps.ite ?_ ?_
    | apply Keeps.comp (State.pseDetect_keeps ..)

theorem State.spePwrWrite_keeps (s : State) (n : Nat) (w : Word) : Keeps s (State.spePwrWrite s n w) := by
  unfold State.spePwrWrite
  with_reducible repeat' first
    | assumption | exact Keeps.refl _
    | (extract_lets +onlyGivenNames x; refine Keeps.cut (x := x) ?_ ?_; rotate_left; intro hx; clear_value x; rotate_right; subst x)
    | (extract_lets +onlyGivenNames x; clear_value x) | refine Keeps.ite ?_ ?_ | apply Keeps.comp (State.setReg_keeps ..)
    | apply Keeps.comp (State.event_keeps ..) | apply Keeps.comp (State.pseDetect_keeps ..)

theorem execSpePwrWrite_keeps (n : Fin 32) (w : Word) (s : State) : OutKeeps s (execSpePwrWrite n w s) := by
  unfold execSpePwrWrite
  first | refine OutKeeps.onCore ?_ | refine OutKeeps.next ?_
  try beta_reduce
  with_reducible repeat' first
    | exact Keeps.refl _ | apply Keeps.comp (State.spePwrWrite_keeps ..)

theorem State.speMapWrite_keeps (s : State) (n : Nat) (sm : Bool) (w : Word) : Keeps s (State.speMapWrite s n sm w) := by
  unfold State.speMapWrite
  with_reducible repeat' first
    | exact Keeps.refl _ | (extract_lets +onlyGivenNames x; clear_value x) | refine Keeps.ite ?_ ?_
    | apply Keeps.comp (State.event_keeps ..) | apply Keeps.comp (State.bindWrite_keeps ..)

theorem execSpeMapWrite_keeps (n : Fin 32) (sm : Bool) (w : Word) (s : State) : OutKeeps s (execSpeMapWrite n sm w s) := by
  unfold execSpeMapWrite
  first | refine OutKeeps.onCore ?_ | refine OutKeeps.next ?_
  try beta_reduce
  with_reducible repeat' first
    | exact Keeps.refl _ | apply Keeps.comp (State.speMapWrite_keeps ..)

theorem State.uartReceive_keeps (s : State) (c : Nat) (chars : List Byte) (errs : Nat) (sof sofTick : Word) : Keeps s (State.uartReceive s c chars errs sof sofTick) := by
  unfold State.uartReceive
  with_reducible repeat' first
    | assumption | exact Keeps.refl _
    | (extract_lets +onlyGivenNames x; refine Keeps.cut (x := x) ?_ ?_; rotate_left; intro hx; clear_value x; rotate_right; subst x)
    | (extract_lets +onlyGivenNames x; refine Keeps.cut (x := x.2) ?_ ?_; rotate_left; intro hx; clear_value x; rotate_right; subst x)
    | (extract_lets +onlyGivenNames x; clear_value x) | refine Keeps.ite ?_ ?_ | split | apply Keeps.comp (State.setFld_keeps ..)
    | apply Keeps.comp (State.newHold_keeps ..) | apply Keeps.comp (State.ringPush_keeps ..)

theorem execUartFrameReceived_keeps (c : Fin 8) (chars : List Byte) (errs : Nat) (sof sofTick : Word) (s : State) : OutKeeps s (execUartFrameReceived c chars errs sof sofTick s) := by
  unfold execUartFrameReceived
  first | refine OutKeeps.onCore ?_ | refine OutKeeps.next ?_
  try beta_reduce
  with_reducible repeat' first
    | exact Keeps.refl _ | apply Keeps.comp (State.uartReceive_keeps ..)

theorem State.uartSend_keeps (s : State) (c : Nat) (late : Bool) : Keeps s (State.uartSend s c late) := by
  unfold State.uartSend
  with_reducible repeat' first
    | assumption | exact Keeps.refl _
    | (extract_lets +onlyGivenNames x; refine Keeps.cut (x := x) ?_ ?_; rotate_left; intro hx; clear_value x; rotate_right; subst x)
    | (extract_lets +onlyGivenNames x; clear_value x) | refine Keeps.ite ?_ ?_ | simp -zeta only [Keeps.upd_iff] | split
    | apply Keeps.comp (State.incFld_keeps ..) | apply Keeps.comp (State.unref_keeps ..)

theorem execUartFrameSend_keeps (c : Fin 8) (late : Bool) (s : State) : OutKeeps s (execUartFrameSend c late s) := by
  unfold execUartFrameSend
  first | refine OutKeeps.onCore ?_ | refine OutKeeps.next ?_
  try beta_reduce
  with_reducible repeat' first
    | exact Keeps.refl _ | apply Keeps.comp (State.uartSend_keeps ..)

theorem State.ubindWrite_keeps (s : State) (c : Nat) (w : Word) : Keeps s (State.ubindWrite s c w) := by
  unfold State.ubindWrite
  with_reducible repeat' first
    | exact Keeps.refl _ | (extract_lets +onlyGivenNames x; clear_value x) | refine Keeps.ite ?_ ?_
    | apply Keeps.comp (State.bindWrite_keeps ..) | apply Keeps.comp (State.allotBusy_keeps ..)

end Sys2Proof.Machine
end

