-- ==== Sys2Proof/Laws/KeepsModule.lean ====
section
/-!
SUPPORT. Every operation of the register file, power and freezes leaves the queue as it is and keeps the canonical form of the stores.
-/
namespace Sys2Proof.Machine

theorem State.srfErr_keeps (s : State) (who : SrfBy) (a : Nat) (write : Bool) (engine : Nat) (handler : Bool) : Keeps s (State.srfErr s who a write engine handler) := by
  unfold State.srfErr
  with_reducible repeat' first
    | exact Keeps.refl _ | split | apply Keeps.comp (State.log_keeps ..)

theorem State.markRead_keeps (s : State) (i : Nat) : Keeps s (State.markRead s i) := by
  unfold State.markRead
  with_reducible repeat' first
    | exact Keeps.refl _ | (extract_lets +onlyGivenNames x; clear_value x) | simp -zeta only [Keeps.upd_iff] | split

theorem State.readEffect_keeps (s : State) (a : Nat) : Keeps s (State.readEffect s a) := by
  unfold State.readEffect
  with_reducible repeat' first
    | assumption | exact Keeps.refl _
    | (extract_lets +onlyGivenNames x; refine Keeps.cut (x := x) ?_ ?_; rotate_left; intro hx; clear_value x; rotate_right; subst x)
    | (extract_lets +onlyGivenNames x; clear_value x) | refine Keeps.ite ?_ ?_ | simp -zeta only [Keeps.upd_iff] | split
    | apply Keeps.comp (State.setReg_keeps ..) | apply Keeps.comp (State.draw_keeps ..) | apply Keeps.comp (State.markRead_keeps ..)

theorem State.plainWrite_keeps (s : State) (a : Nat) (w : Word) : Keeps s (State.plainWrite s a w) := by
  unfold State.plainWrite
  with_reducible repeat' first
    | exact Keeps.refl _ | (extract_lets +onlyGivenNames x; clear_value x) | split | apply Keeps.comp (State.setReg_keeps ..)

theorem State.bankWrite_keeps (s : State) (b : Bool) (a : Nat) (w : Word) : Keeps s (State.bankWrite s b a w) := by
  unfold State.bankWrite
  with_reducible repeat' first
    | exact Keeps.refl _ | refine Keeps.ite ?_ ?_ | apply Keeps.comp (State.event_keeps ..) | apply Keeps.comp (State.plainWrite_keeps ..)

theorem State.allotWrite_keeps (s : State) (a : Nat) (w : Word) (unbind : State → State) (hunbind : ∀ x0, Keeps x0 (unbind x0)): Keeps s (State.allotWrite s a w unbind) := by
  unfold State.allotWrite
  with_reducible repeat' first
    | exact Keeps.refl _ | (extract_lets +onlyGivenNames x; clear_value x) | refine Keeps.ite ?_ ?_ | split
    | apply Keeps.comp (State.setReg_keeps ..) | apply Keeps.comp (State.bindWrite_keeps ..) | apply Keeps.comp (State.allotBusy_keeps ..)
    | apply Keeps.comp (hunbind ..)

theorem State.writeTick_keeps (s : State) (a : Nat) (w : Word) : Keeps s (State.writeTick s a w) := by
  unfold State.writeTick
  with_reducible repeat' first
    | assumption | exact Keeps.refl _
    | (extract_lets +onlyGivenNames x; refine Keeps.cut (x := x) ?_ ?_; rotate_left; intro hx; clear_value x; rotate_right; subst x)
    | refine Keeps.ite ?_ ?_ | apply Keeps.comp (State.swapRequest_keeps ..) | apply Keeps.comp (State.swapCancel_keeps ..)
    | apply Keeps.comp (State.plainWrite_keeps ..) | apply Keeps.comp (State.bankWrite_keeps ..)

theorem State.writeTs_keeps (s : State) (a : Nat) (w : Word) : Keeps s (State.writeTs s a w) := by
  unfold State.writeTs
  with_reducible repeat' first
    | exact Keeps.refl _ | (extract_lets +onlyGivenNames x; clear_value x) | refine Keeps.ite ?_ ?_ | split
    | apply Keeps.comp (State.allocCmd_keeps ..) | apply Keeps.comp (State.mbxBind_keeps ..)
    | apply Keeps.comp (State.plainWrite_keeps ..)

theorem State.writeEng_keeps (s : State) (owner : Bool) (a : Nat) (w : Word) : Keeps s (State.writeEng s owner a w) := by
  unfold State.writeEng
  with_reducible repeat' first
    | assumption | exact Keeps.refl _
    | (extract_lets +onlyGivenNames x; refine Keeps.cut (x := x) ?_ ?_; rotate_left; intro hx; clear_value x; rotate_right; subst x)
    | (extract_lets +onlyGivenNames x; clear_value x) | refine Keeps.ite ?_ ?_ | simp -zeta only [Keeps.upd_iff]
    | apply Keeps.comp (State.setReg_keeps ..) | apply Keeps.comp (State.partCmd_keeps ..)
    | apply Keeps.comp (State.evtRouteWrite_keeps ..) | apply Keeps.comp (State.spareCountWrite_keeps ..)
    | apply Keeps.comp (State.selftest_keeps ..) | apply Keeps.comp (State.plainWrite_keeps ..)
    | apply Keeps.comp (State.bankWrite_keeps ..) | apply Keeps.comp (State.allotWrite_keeps (hunbind := ?_) ..) | (intro _; beta_reduce)

theorem State.fdbWrite_keeps (s : State) (n : Nat) (w : Word) : Keeps s (State.fdbWrite s n w) := by
  unfold State.fdbWrite
  with_reducible repeat' first
    | exact Keeps.refl _ | (extract_lets +onlyGivenNames x; clear_value x) | refine Keeps.ite ?_ ?_
    | apply Keeps.comp (State.allotBusy_keeps ..) | apply Keeps.comp (State.plainWrite_keeps ..)

theorem State.writeSw_keeps (s : State) (a : Nat) (w : Word) : Keeps s (State.writeSw s a w) := by
  unfold State.writeSw
  with_reducible repeat' first
    | exact Keeps.refl _ | (extract_lets +onlyGivenNames x; clear_value x) | refine Keeps.ite ?_ ?_
    | apply Keeps.comp (State.qcfgWrite_keeps ..) | apply Keeps.comp (State.cellsWrite_keeps ..)
    | apply Keeps.comp (State.vlanWrite_keeps ..) | apply Keeps.comp (State.ringWrite_keeps ..)
    | apply Keeps.comp (State.wakeWrite_keeps ..) | apply Keeps.comp (State.qtsWrite_keeps ..)
    | apply Keeps.comp (State.pcfgWrite_keeps ..) | apply Keeps.comp (State.plainWrite_keeps ..)
    | apply Keeps.comp (State.fdbWrite_keeps ..)

theorem State.writeTime_keeps (s : State) (a : Nat) (w : Word) : Keeps s (State.writeTime s a w) := by
  unfold State.writeTime
  with_reducible repeat' first
    | assumption | exact Keeps.refl _
    | (extract_lets +onlyGivenNames x; refine Keeps.cut (x := x) ?_ ?_; rotate_left; intro hx; clear_value x; rotate_right; subst x)
    | (extract_lets +onlyGivenNames x; clear_value x) | refine Keeps.ite ?_ ?_ | apply Keeps.comp (State.timeCapture_keeps ..)
    | apply Keeps.comp (State.restep_keeps ..) | apply Keeps.comp (State.plainWrite_keeps ..)

theorem State.writeCan_keeps (s : State) (a : Nat) (w : Word) : Keeps s (State.writeCan s a w) := by
  unfold State.writeCan
  with_reducible repeat' first
    | exact Keeps.refl _ | (extract_lets +onlyGivenNames x; clear_value x) | refine Keeps.ite ?_ ?_
    | apply Keeps.comp (State.canCtrlWrite_keeps ..) | apply Keeps.comp (State.canBtWrite_keeps ..)
    | apply Keeps.comp (State.pmapWrite_keeps ..) | apply Keeps.comp (State.canAllotWrite_keeps ..)
    | apply Keeps.comp (State.plainWrite_keeps ..)

theorem State.writeSpe_keeps (s : State) (a : Nat) (w : Word) : Keeps s (State.writeSpe s a w) := by
  unfold State.writeSpe
  with_reducible repeat' first
    | exact Keeps.refl _ | (extract_lets +onlyGivenNames x; clear_value x) | refine Keeps.ite ?_ ?_ | split
    | apply Keeps.comp (State.spePwrWrite_keeps ..) | apply Keeps.comp (State.speMapWrite_keeps ..)
    | apply Keeps.comp (State.ubindWrite_keeps ..) | apply Keeps.comp (State.plainWrite_keeps ..)
    | apply Keeps.comp (State.allotWrite_keeps (hunbind := ?_) ..) | (intro _; beta_reduce)

theorem State.writeSafe_keeps (s : State) (who : SrfBy) (a : Nat) (w : Word) : Keeps s (State.writeSafe s who a w) := by
  unfold State.writeSafe
  with_reducible repeat' first
    | assumption | exact Keeps.refl _
    | (extract_lets +onlyGivenNames x; refine Keeps.cut (x := x) ?_ ?_; rotate_left; intro hx; clear_value x; rotate_right; subst x)
    | refine Keeps.ite ?_ ?_ | split | apply Keeps.comp (State.safeApply_keeps ..) | apply Keeps.comp (State.safeLock_keeps ..)
    | apply Keeps.comp (State.safeCfgWrite_keeps ..) | apply Keeps.comp (State.safeAck1_keeps ..)

theorem State.writeCluSv_keeps (s : State) (a : Nat) (w : Word) : Keeps s (State.writeCluSv s a w) := by
  unfold State.writeCluSv
  with_reducible repeat' first
    | assumption | exact Keeps.refl _
    | (extract_lets +onlyGivenNames x; refine Keeps.cut (x := x) ?_ ?_; rotate_left; intro hx; clear_value x; rotate_right; subst x)
    | (extract_lets +onlyGivenNames x; clear_value x) | refine Keeps.ite ?_ ?_ | simp -zeta only [Keeps.upd_iff]
    | apply Keeps.comp (State.setReg_keeps ..) | apply Keeps.comp (State.tripCfgWrite_keeps ..)
    | apply Keeps.comp (State.plainWrite_keeps ..) | apply Keeps.comp (State.allotWrite_keeps (hunbind := ?_) ..) | (intro _; beta_reduce)

theorem State.writeHaw_keeps (s : State) (a : Nat) (w : Word) : Keeps s (State.writeHaw s a w) := by
  unfold State.writeHaw
  with_reducible repeat' first
    | exact Keeps.refl _ | refine Keeps.ite ?_ ?_ | apply Keeps.comp (State.enumerate_keeps ..)
    | apply Keeps.comp (State.hawBind_keeps ..) | apply Keeps.comp (State.hawShare_keeps ..)
    | apply Keeps.comp (State.plainWrite_keeps ..)

theorem State.writeTwin_keeps (s : State) (a : Nat) (w : Word) : Keeps s (State.writeTwin s a w) := by
  unfold State.writeTwin
  with_reducible repeat' first
    | exact Keeps.refl _ | refine Keeps.ite ?_ ?_ | apply Keeps.comp (State.twinCfgWrite_keeps ..)
    | apply Keeps.comp (State.twinPartWrite_keeps ..) | apply Keeps.comp (State.plainWrite_keeps ..)

theorem State.writeVault_keeps (s : State) (a : Nat) (w : Word) : Keeps s (State.writeVault s a w) := by
  unfold State.writeVault
  with_reducible repeat' first
    | exact Keeps.refl _ | refine Keeps.ite ?_ ?_ | apply Keeps.comp (State.vaultBind_keeps ..)
    | apply Keeps.comp (State.drvWrite_keeps ..) | apply Keeps.comp (State.plainWrite_keeps ..)

theorem State.writeMetl_keeps (s : State) (a : Nat) (w : Word) : Keeps s (State.writeMetl s a w) := by
  unfold State.writeMetl
  with_reducible repeat' first
    | exact Keeps.refl _ | refine Keeps.ite ?_ ?_ | apply Keeps.comp (State.chgGo_keeps ..) | apply Keeps.comp (State.testWrite_keeps ..)
    | apply Keeps.comp (State.assignWrite_keeps ..) | apply Keeps.comp (State.plainWrite_keeps ..)

theorem State.writeKeep_keeps (s : State) (a : Nat) (w : Word) : Keeps s (State.writeKeep s a w) := by
  unfold State.writeKeep
  with_reducible repeat' first
    | exact Keeps.refl _ | refine Keeps.ite ?_ ?_ | apply Keeps.comp (State.keepRingWrite_keeps ..)
    | apply Keeps.comp (State.keepCmd_keeps ..) | apply Keeps.comp (State.plainWrite_keeps ..)

theorem State.writeRtc_keeps (s : State) (a : Nat) (w : Word) : Keeps s (State.writeRtc s a w) := by
  unfold State.writeRtc
  with_reducible repeat' first
    | assumption | exact Keeps.refl _
    | (extract_lets +onlyGivenNames x; refine Keeps.cut (x := x) ?_ ?_; rotate_left; intro hx; clear_value x; rotate_right; subst x)
    | refine Keeps.ite ?_ ?_ | apply Keeps.comp (State.rtcSetCmd_keeps ..) | apply Keeps.comp (State.rtcCaptureCmd_keeps ..)
    | apply Keeps.comp (State.trecClr_keeps ..) | apply Keeps.comp (State.rtcArmCmd_keeps ..)
    | apply Keeps.comp (State.rtcDisarmCmd_keeps ..) | apply Keeps.comp (State.plainWrite_keeps ..)

theorem State.freeRead_keeps (s : State) : Keeps s (State.freeRead s) := by
  unfold State.freeRead
  with_reducible repeat' first
    | exact Keeps.refl _ | (extract_lets +onlyGivenNames x; clear_value x) | simp -zeta only [Keeps.upd_iff]

theorem State.clearGOvf_keeps (s : State) : Keeps s (State.clearGOvf s) := by
  unfold State.clearGOvf
  with_reducible repeat' first
    | exact Keeps.refl _ | apply Keeps.comp (State.setFlag_keeps ..)

theorem State.writeErr_keeps (s : State) (a : Nat) (w : Word) : Keeps s (State.writeErr s a w) := by
  unfold State.writeErr
  with_reducible repeat' first
    | assumption | exact Keeps.refl _
    | (extract_lets +onlyGivenNames x; refine Keeps.cut (x := x) ?_ ?_; rotate_left; intro hx; clear_value x; rotate_right; subst x)
    | refine Keeps.ite ?_ ?_ | apply Keeps.comp (State.setFld_keeps ..) | apply Keeps.comp (State.setFlag_keeps ..)
    | apply Keeps.comp (State.event_keeps ..) | apply Keeps.comp (State.plainWrite_keeps ..) | apply Keeps.comp (State.freeRead_keeps ..)
    | apply Keeps.comp (State.clearGOvf_keeps ..)

theorem State.srfStore_keeps (s : State) (who : SrfBy) (a : Nat) (w : Word) : Keeps s (State.srfStore s who a w) := by
  unfold State.srfStore
  with_reducible repeat' first
    | exact Keeps.refl _ | split | apply Keeps.comp (State.writeTick_keeps ..) | apply Keeps.comp (State.writeTs_keeps ..)
    | apply Keeps.comp (State.writeEng_keeps ..) | apply Keeps.comp (State.writeSw_keeps ..) | apply Keeps.comp (State.writeTime_keeps ..)
    | apply Keeps.comp (State.writeCan_keeps ..) | apply Keeps.comp (State.writeSpe_keeps ..)
    | apply Keeps.comp (State.writeSafe_keeps ..) | apply Keeps.comp (State.writeCluSv_keeps ..)
    | apply Keeps.comp (State.writeHaw_keeps ..) | apply Keeps.comp (State.writeTwin_keeps ..)
    | apply Keeps.comp (State.writeVault_keeps ..) | apply Keeps.comp (State.writeMetl_keeps ..)
    | apply Keeps.comp (State.writeKeep_keeps ..) | apply Keeps.comp (State.writeRtc_keeps ..)
    | apply Keeps.comp (State.writeErr_keeps ..)

theorem State.srfRead_keeps (s : State) (who : SrfBy) (a engine : Nat) (handler : Bool) : Keeps s (State.srfRead s who a engine handler).2.2 := by
  unfold State.srfRead
  with_reducible repeat' first
    | exact Keeps.refl _ | simp -zeta only [Keeps.upd_iff] | split | apply Keeps.comp (State.srfErr_keeps ..)
    | apply Keeps.comp (State.readEffect_keeps ..)

theorem State.srfWrite_keeps (s : State) (who : SrfBy) (a : Nat) (w : Word) (engine : Nat) (handler : Bool) : Keeps s (State.srfWrite s who a w engine handler).2 := by
  unfold State.srfWrite
  with_reducible repeat' first
    | exact Keeps.refl _ | simp -zeta only [Keeps.upd_iff] | split | apply Keeps.comp (State.srfErr_keeps ..)
    | apply Keeps.comp (State.srfStore_keeps ..)

theorem execSysrd_keeps (l : Fin 64) (q : PQ) (gx ra : Fin 32) (s : State) : OutKeeps s (execSysrd l q gx ra s) := by
  unfold execSysrd
  first | refine OutKeeps.onCore ?_ | refine OutKeeps.next ?_
  try beta_reduce
  with_reducible repeat' first
    | assumption | exact Keeps.refl _
    | (extract_lets +onlyGivenNames x; refine Keeps.cut (x := x.2.2) ?_ ?_; rotate_left; intro hx; clear_value x; rotate_right; subst x)
    | split | apply Keeps.comp (State.setG_keeps ..) | apply Keeps.comp (State.kill_keeps ..)
    | apply Keeps.comp (State.instr_keeps (hbody := ?_) ..) | apply Keeps.comp (State.srfRead_keeps ..) | (intro _; beta_reduce)

theorem execSyswr_keeps (l : Fin 64) (q : PQ) (gx ra : Fin 32) (s : State) : OutKeeps s (execSyswr l q gx ra s) := by
  unfold execSyswr
  first | refine OutKeeps.onCore ?_ | refine OutKeeps.next ?_
  try beta_reduce
  with_reducible repeat' first
    | exact Keeps.refl _ | split | apply Keeps.comp (State.kill_keeps ..) | apply Keeps.comp (State.instr_keeps (hbody := ?_) ..)
    | apply Keeps.comp (State.srfWrite_keeps ..) | (intro _; beta_reduce)

theorem execRegisterWrite_keeps (a : BitVec 32) (w : Word) (s : State) : OutKeeps s (execRegisterWrite a w s) := by
  unfold execRegisterWrite
  first | refine OutKeeps.onCore ?_ | refine OutKeeps.next ?_
  try beta_reduce
  with_reducible repeat' first
    | exact Keeps.refl _ | refine Keeps.ite ?_ ?_ | apply Keeps.comp (State.srfStore_keeps ..)

theorem execReadClear_keeps (a : BitVec 32) (s : State) : OutKeeps s (execReadClear a s) := by
  unfold execReadClear
  first | refine OutKeeps.onCore ?_ | refine OutKeeps.next ?_
  try beta_reduce
  with_reducible repeat' first
    | exact Keeps.refl _ | refine Keeps.ite ?_ ?_ | apply Keeps.comp (State.readEffect_keeps ..)

theorem State.setBoot_keeps (s : State) (f : BootSt → BootSt) : Keeps s (State.setBoot s f) := by
  unfold State.setBoot
  with_reducible repeat' first
    | exact Keeps.refl _ | simp -zeta only [Keeps.upd_iff]

theorem State.leaveRunning_keeps (s : State) (p st : Nat) : Keeps s (State.leaveRunning s p st) := by
  unfold State.leaveRunning
  with_reducible repeat' first
    | assumption | exact Keeps.refl _
    | (extract_lets +onlyGivenNames x; refine Keeps.cut (x := x) ?_ ?_; rotate_left; intro hx; clear_value x; rotate_right; subst x)
    | apply Keeps.comp (State.modPart_keeps ..) | apply Keeps.comp (State.setPstate_keeps ..)
    | apply Keeps.comp (State.abandonPart_keeps ..) | apply Keeps.comp (State.commitPart_keeps ..)
    | apply Keeps.comp (State.discardFrames_keeps ..) | apply Keeps.comp (State.canStop_keeps ..)

theorem State.stopAll_keeps (s : State) : Keeps s (State.stopAll s) := by
  unfold State.stopAll
  with_reducible repeat' first
    | exact Keeps.refl _ | apply Keeps.comp (State.leaveRunning_keeps ..) | refine Keeps.foldl ?_ ?_ | (intro _; beta_reduce)

theorem State.powerOutputsOff_keeps (s : State) : Keeps s (State.powerOutputsOff s) := by
  unfold State.powerOutputsOff
  with_reducible repeat' first
    | assumption | exact Keeps.refl _
    | (extract_lets +onlyGivenNames x; refine Keeps.cut (x := x) ?_ ?_; rotate_left; intro hx; clear_value x; rotate_right; subst x)
    | (extract_lets +onlyGivenNames x; clear_value x) | simp -zeta only [Keeps.upd_iff] | apply Keeps.comp (State.vsoOff_keeps ..)
    | apply Keeps.comp (State.pseAllOff_keeps ..) | apply Keeps.comp (State.setBoot_keeps ..)

theorem State.afterReset_keeps (s : State) : Keeps s s.afterReset := by
  refine ⟨rfl, fun h => ⟨?_, rfl⟩⟩
  have h1 := (dcanon_iff resetWord s.srf).1 h.1
  exact (dcanon_iff resetWord (s.srf.filter (fun e => keptReg e.1))).2
    ⟨h1.1.sublist List.filter_sublist, fun e he => h1.2 e (List.mem_filter.1 he).1⟩

theorem State.moduleReset_keeps (s : State) (cause : Nat) : Keeps s (s.moduleReset cause) := by
  unfold State.moduleReset
  refine Keeps.trans (State.keepPowerOff_keeps s) ?_
  generalize s.keepPowerOff = u
  dsimp only
  with_reducible repeat' first
    | exact State.afterReset_keeps _ | apply Keeps.comp (State.setFld_keeps ..) | apply Keeps.comp (State.setFlag_keeps ..)
    | apply Keeps.comp (State.setReg_keeps ..) | refine Keeps.ite ?_ ?_

theorem State.setPhase_keeps (s : State) (n : Nat) : Keeps s (State.setPhase s n) := by
  unfold State.setPhase
  with_reducible repeat' first
    | exact Keeps.refl _ | apply Keeps.comp (State.setFld_keeps ..)

theorem State.cageEnable_keeps (s : State) (c : Nat) : Keeps s (State.cageEnable s c) := by
  unfold State.cageEnable
  with_reducible repeat' first
    | exact Keeps.refl _ | (extract_lets +onlyGivenNames x; clear_value x) | refine Keeps.ite ?_ ?_ | simp -zeta only [Keeps.upd_iff]

theorem execCageModulePresent_keeps (cage : Fin 8) (x : Xcvr) (s : State) : OutKeeps s (execCageModulePresent cage x s) := by
  unfold execCageModulePresent
  first | refine OutKeeps.onCore ?_ | refine OutKeeps.next ?_
  try beta_reduce
  with_reducible repeat' first
    | assumption | exact Keeps.refl _
    | (extract_lets +onlyGivenNames x; refine Keeps.cut (x := x) ?_ ?_; rotate_left; intro hx; clear_value x; rotate_right; subst x)
    | (extract_lets +onlyGivenNames x; clear_value x) | refine Keeps.ite ?_ ?_ | simp -zeta only [Keeps.upd_iff]
    | apply Keeps.comp (State.event_keeps ..) | apply Keeps.comp (State.linkChange_keeps ..) | apply Keeps.comp (State.setBoot_keeps ..)
    | apply Keeps.comp (State.cageEnable_keeps ..)

theorem execTransceiverRemoved_keeps (cage : Fin 8) (s : State) : OutKeeps s (execTransceiverRemoved cage s) := by
  unfold execTransceiverRemoved
  first | refine OutKeeps.onCore ?_ | refine OutKeeps.next ?_
  try beta_reduce
  with_reducible repeat' first
    | assumption | exact Keeps.refl _
    | (extract_lets +onlyGivenNames x; refine Keeps.cut (x := x) ?_ ?_; rotate_left; intro hx; clear_value x; rotate_right; subst x)
    | (extract_lets +onlyGivenNames x; clear_value x) | simp -zeta only [Keeps.upd_iff] | apply Keeps.comp (State.linkChange_keeps ..)
    | apply Keeps.comp (State.setBoot_keeps ..)

theorem execProbeVrefChange_keeps (up : Bool) (s : State) : OutKeeps s (execProbeVrefChange up s) := by
  unfold execProbeVrefChange
  first | refine OutKeeps.onCore ?_ | refine OutKeeps.next ?_
  try beta_reduce
  with_reducible repeat' first
    | exact Keeps.refl _ | apply Keeps.comp (State.setBoot_keeps ..)

theorem execSeatDebounceDone_keeps (s : State) : OutKeeps s (execSeatDebounceDone s) := by
  unfold execSeatDebounceDone
  first | refine OutKeeps.onCore ?_ | refine OutKeeps.next ?_
  try beta_reduce
  with_reducible repeat' first
    | exact Keeps.refl _ | apply Keeps.comp (State.setFlag_keeps ..) | apply Keeps.comp (State.setBoot_keeps ..)

theorem execNotSeatedTimeout_keeps (s : State) : OutKeeps s (execNotSeatedTimeout s) := by
  unfold execNotSeatedTimeout
  first | refine OutKeeps.onCore ?_ | refine OutKeeps.next ?_
  try beta_reduce
  with_reducible repeat' first
    | exact Keeps.refl _ | refine Keeps.ite ?_ ?_ | apply Keeps.comp (State.setBoot_keeps ..)

theorem execStrapChanged_keeps (s : State) : OutKeeps s (execStrapChanged s) := by
  unfold execStrapChanged
  first | refine OutKeeps.onCore ?_ | refine OutKeeps.next ?_
  try beta_reduce
  with_reducible repeat' first
    | assumption | exact Keeps.refl _
    | (extract_lets +onlyGivenNames x; refine Keeps.cut (x := x) ?_ ?_; rotate_left; intro hx; clear_value x; rotate_right; subst x)
    | refine Keeps.ite ?_ ?_ | apply Keeps.comp (State.setFlag_keeps ..) | apply Keeps.comp (State.event_keeps ..)
    | apply Keeps.comp (State.setBoot_keeps ..)

theorem State.setExState_keeps (s : State) (n : Nat) : Keeps s (State.setExState s n) := by
  unfold State.setExState
  with_reducible repeat' first
    | exact Keeps.refl _ | apply Keeps.comp (State.setFld_keeps ..)

theorem State.exSafing_keeps (s : State) : Keeps s (State.exSafing s) := by
  unfold State.exSafing
  with_reducible repeat' first
    | assumption | exact Keeps.refl _
    | (extract_lets +onlyGivenNames x; refine Keeps.cut (x := x) ?_ ?_; rotate_left; intro hx; clear_value x; rotate_right; subst x)
    | (extract_lets +onlyGivenNames x; clear_value x) | apply Keeps.comp (State.modPart_keeps ..)
    | apply Keeps.comp (State.discardFrames_keeps ..) | apply Keeps.comp (State.keepAbandon_keeps ..)
    | apply Keeps.comp (State.shutdownStore_keeps ..) | apply Keeps.comp (State.setBoot_keeps ..)
    | apply Keeps.comp (State.setExState_keeps ..) | refine Keeps.foldl ?_ ?_ | (intro _; beta_reduce)

theorem State.exRequest_keeps (s : State) (source : Nat) : Keeps s (State.exRequest s source) := by
  unfold State.exRequest
  with_reducible repeat' first
    | assumption | exact Keeps.refl _
    | (extract_lets +onlyGivenNames x; refine Keeps.cut (x := x) ?_ ?_; rotate_left; intro hx; clear_value x; rotate_right; subst x)
    | refine Keeps.ite ?_ ?_ | apply Keeps.comp (State.setReg_keeps ..) | apply Keeps.comp (State.setFld_keeps ..)
    | apply Keeps.comp (State.setBoot_keeps ..) | apply Keeps.comp (State.setExState_keeps ..)
    | apply Keeps.comp (State.exSafing_keeps ..)

theorem execExtractReqAsserted_keeps (s : State) : OutKeeps s (execExtractReqAsserted s) := by
  unfold execExtractReqAsserted
  first | refine OutKeeps.onCore ?_ | refine OutKeeps.next ?_
  try beta_reduce
  with_reducible repeat' first
    | exact Keeps.refl _ | refine Keeps.ite ?_ ?_ | apply Keeps.comp (State.setFlag_keeps ..)
    | apply Keeps.comp (State.exRequest_keeps ..)

theorem execExtractReqReleased_keeps (s : State) : OutKeeps s (execExtractReqReleased s) := by
  unfold execExtractReqReleased
  first | refine OutKeeps.onCore ?_ | refine OutKeeps.next ?_
  try beta_reduce
  with_reducible repeat' first
    | exact Keeps.refl _ | apply Keeps.comp (State.setFlag_keeps ..)

theorem execExtractConsent_keeps (s : State) : OutKeeps s (execExtractConsent s) := by
  unfold execExtractConsent
  first | refine OutKeeps.onCore ?_ | refine OutKeeps.next ?_
  try beta_reduce
  with_reducible repeat' first
    | exact Keeps.refl _ | refine Keeps.ite ?_ ?_ | apply Keeps.comp (State.exSafing_keeps ..)

theorem State.exRefuse_keeps (s : State) (cause : Nat) : Keeps s (State.exRefuse s cause) := by
  unfold State.exRefuse
  with_reducible repeat' first
    | assumption | exact Keeps.refl _
    | (extract_lets +onlyGivenNames x; refine Keeps.cut (x := x) ?_ ?_; rotate_left; intro hx; clear_value x; rotate_right; subst x)
    | apply Keeps.comp (State.setFld_keeps ..) | apply Keeps.comp (State.setBoot_keeps ..) | apply Keeps.comp (State.setExState_keeps ..)

theorem execExtractRefused_keeps (partnerServing : Bool) (s : State) : OutKeeps s (execExtractRefused partnerServing s) := by
  unfold execExtractRefused
  first | refine OutKeeps.onCore ?_ | refine OutKeeps.next ?_
  try beta_reduce
  with_reducible repeat' first
    | exact Keeps.refl _ | refine Keeps.ite ?_ ?_ | split | apply Keeps.comp (State.exRefuse_keeps ..)

theorem execExtractConsentTimeout_keeps (s : State) : OutKeeps s (execExtractConsentTimeout s) := by
  unfold execExtractConsentTimeout
  first | refine OutKeeps.onCore ?_ | refine OutKeeps.next ?_
  try beta_reduce
  with_reducible repeat' first
    | exact Keeps.refl _ | refine Keeps.ite ?_ ?_ | apply Keeps.comp (State.exRefuse_keeps ..)

theorem execExtractReady_keeps (s : State) : OutKeeps s (execExtractReady s) := by
  unfold execExtractReady
  first | refine OutKeeps.onCore ?_ | refine OutKeeps.next ?_
  try beta_reduce
  with_reducible repeat' first
    | exact Keeps.refl _ | refine Keeps.ite ?_ ?_ | apply Keeps.comp (State.safetyOff_keeps ..)
    | apply Keeps.comp (State.powerOutputsOff_keeps ..) | apply Keeps.comp (State.setExState_keeps ..)

theorem execExtractRefusedLedEnd_keeps (s : State) : OutKeeps s (execExtractRefusedLedEnd s) := by
  unfold execExtractRefusedLedEnd
  first | refine OutKeeps.onCore ?_ | refine OutKeeps.next ?_
  try beta_reduce
  with_reducible repeat' first
    | exact Keeps.refl _ | refine Keeps.ite ?_ ?_ | apply Keeps.comp (State.setBoot_keeps ..)

theorem State.setPf_keeps (s : State) (n : Nat) : Keeps s (State.setPf s n) := by
  unfold State.setPf
  with_reducible repeat' first
    | exact Keeps.refl _ | apply Keeps.comp (State.setFld_keeps ..)

theorem State.pfCommit_keeps (s : State) : Keeps s (State.pfCommit s) := by
  unfold State.pfCommit
  with_reducible repeat' first
    | exact Keeps.refl _ | apply Keeps.comp (State.safetyOff_keeps ..) | apply Keeps.comp (State.keepAbandon_keeps ..)
    | apply Keeps.comp (State.shutdownStore_keeps ..) | apply Keeps.comp (State.pseAllOff_keeps ..)
    | apply Keeps.comp (State.stopAll_keeps ..) | apply Keeps.comp (State.setPf_keeps ..)

theorem State.goDown_keeps (s : State) : Keeps s (State.goDown s) := by
  unfold State.goDown
  with_reducible repeat' first
    | assumption | exact Keeps.refl _
    | (extract_lets +onlyGivenNames x; refine Keeps.cut (x := x) ?_ ?_; rotate_left; intro hx; clear_value x; rotate_right; subst x)
    | split | apply Keeps.comp (State.setFlag_keeps ..) | apply Keeps.comp (State.setBoot_keeps ..)
    | apply Keeps.comp (State.moduleReset_keeps ..)

theorem State.dip_keeps (s : State) : Keeps s (State.dip s) := by
  unfold State.dip
  with_reducible repeat' first
    | assumption | exact Keeps.refl _
    | (extract_lets +onlyGivenNames x; refine Keeps.cut (x := x) ?_ ?_; rotate_left; intro hx; clear_value x; rotate_right; subst x)
    | (extract_lets +onlyGivenNames x; clear_value x) | refine Keeps.ite ?_ ?_ | apply Keeps.comp (State.setReg_keeps ..)
    | apply Keeps.comp (State.setFlag_keeps ..) | apply Keeps.comp (State.incFld_keeps ..) | apply Keeps.comp (State.event_keeps ..)
    | apply Keeps.comp (State.setBoot_keeps ..) | apply Keeps.comp (State.moduleReset_keeps ..) | apply Keeps.comp (State.setPf_keeps ..)
    | apply Keeps.comp (State.goDown_keeps ..)

theorem execPfDip_keeps (s : State) : OutKeeps s (execPfDip s) := by
  unfold execPfDip
  first | refine OutKeeps.onCore ?_ | refine OutKeeps.next ?_
  try beta_reduce
  with_reducible repeat' first
    | exact Keeps.refl _ | apply Keeps.comp (State.dip_keeps ..)

theorem execV24Ov_keeps (s : State) : OutKeeps s (execV24Ov s) := by
  unfold execV24Ov
  first | refine OutKeeps.onCore ?_ | refine OutKeeps.next ?_
  try beta_reduce
  with_reducible repeat' first
    | exact Keeps.refl _ | apply Keeps.comp (State.setFlag_keeps ..) | apply Keeps.comp (State.dip_keeps ..)

theorem execDipRecovered_keeps (s : State) : OutKeeps s (execDipRecovered s) := by
  unfold execDipRecovered
  first | refine OutKeeps.onCore ?_ | refine OutKeeps.next ?_
  try beta_reduce
  with_reducible repeat' first
    | assumption | exact Keeps.refl _
    | (extract_lets +onlyGivenNames x; refine Keeps.cut (x := x) ?_ ?_; rotate_left; intro hx; clear_value x; rotate_right; subst x)
    | (extract_lets +onlyGivenNames x; clear_value x) | refine Keeps.ite ?_ ?_ | apply Keeps.comp (State.setFlag_keeps ..)
    | apply Keeps.comp (State.event_keeps ..) | apply Keeps.comp (State.setPf_keeps ..)

theorem execPfCommit_keeps (low : Bool) (s : State) : OutKeeps s (execPfCommit low s) := by
  unfold execPfCommit
  first | refine OutKeeps.onCore ?_ | refine OutKeeps.next ?_
  try beta_reduce
  with_reducible repeat' first
    | exact Keeps.refl _ | refine Keeps.ite ?_ ?_ | split | apply Keeps.comp (State.setFlag_keeps ..)
    | apply Keeps.comp (State.pfCommit_keeps ..)

theorem execPfDown_keeps (s : State) : OutKeeps s (execPfDown s) := by
  unfold execPfDown
  first | refine OutKeeps.onCore ?_ | refine OutKeeps.next ?_
  try beta_reduce
  with_reducible repeat' first
    | exact Keeps.refl _ | refine Keeps.ite ?_ ?_ | apply Keeps.comp (State.goDown_keeps ..)

theorem execHoldOkReached_keeps (emptied : Bool) (s : State) : OutKeeps s (execHoldOkReached emptied s) := by
  unfold execHoldOkReached
  first | refine OutKeeps.onCore ?_ | refine OutKeeps.next ?_
  try beta_reduce
  with_reducible repeat' first
    | assumption | exact Keeps.refl _
    | (extract_lets +onlyGivenNames x; refine Keeps.cut (x := x) ?_ ?_; rotate_left; intro hx; clear_value x; rotate_right; subst x)
    | (extract_lets +onlyGivenNames x; clear_value x) | refine Keeps.ite ?_ ?_ | apply Keeps.comp (State.setReg_keeps ..)
    | apply Keeps.comp (State.setFld_keeps ..) | apply Keeps.comp (State.setFlag_keeps ..) | apply Keeps.comp (State.setBoot_keeps ..)
    | apply Keeps.comp (State.moduleReset_keeps ..)

theorem execExtractUnplanned_keeps (s : State) : OutKeeps s (execExtractUnplanned s) := by
  unfold execExtractUnplanned
  first | refine OutKeeps.onCore ?_ | refine OutKeeps.next ?_
  try beta_reduce
  with_reducible repeat' first
    | assumption | exact Keeps.refl _
    | (extract_lets +onlyGivenNames x; refine Keeps.cut (x := x) ?_ ?_; rotate_left; intro hx; clear_value x; rotate_right; subst x)
    | refine Keeps.ite ?_ ?_ | apply Keeps.comp (State.setFlag_keeps ..) | apply Keeps.comp (State.safetyOff_keeps ..)
    | apply Keeps.comp (State.event_keeps ..) | apply Keeps.comp (State.pseAllOff_keeps ..) | apply Keeps.comp (State.setExState_keeps ..)

theorem execVfldConnect_keeps (s : State) : OutKeeps s (execVfldConnect s) := by
  unfold execVfldConnect
  first | refine OutKeeps.onCore ?_ | refine OutKeeps.next ?_
  try beta_reduce
  with_reducible repeat' first
    | assumption | exact Keeps.refl _
    | (extract_lets +onlyGivenNames x; refine Keeps.cut (x := x) ?_ ?_; rotate_left; intro hx; clear_value x; rotate_right; subst x)
    | (extract_lets +onlyGivenNames x; clear_value x) | refine Keeps.ite ?_ ?_ | apply Keeps.comp (State.setFlag_keeps ..)
    | apply Keeps.comp (State.pseReconnect_keeps ..) | apply Keeps.comp (State.setBoot_keeps ..)

theorem State.vfldLost_keeps (s : State) (f : Fld) (ev : Nat) : Keeps s (State.vfldLost s f ev) := by
  unfold State.vfldLost
  with_reducible repeat' first
    | exact Keeps.refl _ | apply Keeps.comp (State.setFlag_keeps ..) | apply Keeps.comp (State.event_keeps ..)
    | apply Keeps.comp (State.pseAllOff_keeps ..) | apply Keeps.comp (State.setBoot_keeps ..)

theorem execVfldLow_keeps (s : State) : OutKeeps s (execVfldLow s) := by
  unfold execVfldLow
  first | refine OutKeeps.onCore ?_ | refine OutKeeps.next ?_
  try beta_reduce
  with_reducible repeat' first
    | exact Keeps.refl _ | apply Keeps.comp (State.vfldLost_keeps ..)

theorem execVfldOv_keeps (s : State) : OutKeeps s (execVfldOv s) := by
  unfold execVfldOv
  first | refine OutKeeps.onCore ?_ | refine OutKeeps.next ?_
  try beta_reduce
  with_reducible repeat' first
    | exact Keeps.refl _ | apply Keeps.comp (State.vfldLost_keeps ..)

theorem execVsoConnect_keeps (s : State) : OutKeeps s (execVsoConnect s) := by
  unfold execVsoConnect
  first | refine OutKeeps.onCore ?_ | refine OutKeeps.next ?_
  try beta_reduce
  with_reducible repeat' first
    | exact Keeps.refl _ | (extract_lets +onlyGivenNames x; clear_value x) | refine Keeps.ite ?_ ?_
    | apply Keeps.comp (State.setFlag_keeps ..) | apply Keeps.comp (State.vsoOn_keeps ..)

theorem execVsoLow_keeps (s : State) : OutKeeps s (execVsoLow s) := by
  unfold execVsoLow
  first | refine OutKeeps.onCore ?_ | refine OutKeeps.next ?_
  try beta_reduce
  with_reducible repeat' first
    | exact Keeps.refl _ | apply Keeps.comp (State.setFlag_keeps ..) | apply Keeps.comp (State.event_keeps ..)
    | apply Keeps.comp (State.vsoOff_keeps ..)

theorem execVsoOv_keeps (s : State) : OutKeeps s (execVsoOv s) := by
  unfold execVsoOv
  first | refine OutKeeps.onCore ?_ | refine OutKeeps.next ?_
  try beta_reduce
  with_reducible repeat' first
    | exact Keeps.refl _ | apply Keeps.comp (State.setFlag_keeps ..) | apply Keeps.comp (State.event_keeps ..)
    | apply Keeps.comp (State.vsoOff_keeps ..)

theorem execPllLockLoss_keeps (s : State) : OutKeeps s (execPllLockLoss s) := by
  unfold execPllLockLoss
  first | refine OutKeeps.onCore ?_ | refine OutKeeps.next ?_
  try beta_reduce
  with_reducible repeat' first
    | exact Keeps.refl _ | apply Keeps.comp (State.safetyOff_keeps ..) | apply Keeps.comp (State.moduleReset_keeps ..)

theorem execClkTick_keeps (s : State) : OutKeeps s (execClkTick s) := by
  unfold execClkTick
  first | refine OutKeeps.onCore ?_ | refine OutKeeps.next ?_
  try beta_reduce
  with_reducible repeat' first
    | exact Keeps.refl _ | (extract_lets +onlyGivenNames x; clear_value x) | simp -zeta only [Keeps.upd_iff]
    | apply Keeps.comp (State.safeGlobal_keeps ..)

theorem State.bindAll_keeps (s : State) (p : Nat) : Keeps s (State.bindAll s p) := by
  unfold State.bindAll
  with_reducible repeat' first
    | exact Keeps.refl _ | apply Keeps.comp (State.bindLoops_keeps ..) | apply Keeps.comp (State.bindStreams_keeps ..)
    | apply Keeps.comp (State.bindTrips_keeps ..)

theorem execConfigRecordWrite_keeps (s : State) : OutKeeps s (execConfigRecordWrite s) := by
  unfold execConfigRecordWrite
  first | refine OutKeeps.onCore ?_ | refine OutKeeps.next ?_
  try beta_reduce
  with_reducible repeat' first
    | exact Keeps.refl _ | refine Keeps.ite ?_ ?_ | apply Keeps.comp (State.setBoot_keeps ..)

theorem State.latchStraps_keeps (s : State) (i : StartIn) : Keeps s (State.latchStraps s i) := by
  unfold State.latchStraps
  with_reducible repeat' first
    | assumption | exact Keeps.refl _
    | (extract_lets +onlyGivenNames x; refine Keeps.cut (x := x) ?_ ?_; rotate_left; intro hx; clear_value x; rotate_right; subst x)
    | (extract_lets +onlyGivenNames x; clear_value x) | refine Keeps.ite ?_ ?_ | apply Keeps.comp (State.setFld_keeps ..)
    | apply Keeps.comp (State.setFlag_keeps ..) | apply Keeps.comp (State.event_keeps ..)

theorem State.restoreLamps_keeps (s : State) : Keeps s (State.restoreLamps s) := by
  unfold State.restoreLamps
  with_reducible repeat' first
    | exact Keeps.refl _ | apply Keeps.comp (State.setFld_keeps ..) | refine Keeps.foldl ?_ ?_ | (intro _; beta_reduce)

theorem State.unseal_keeps (s : State) : Keeps s (State.unseal s) := by
  unfold State.unseal
  with_reducible repeat' first
    | assumption | exact Keeps.refl _
    | (extract_lets +onlyGivenNames x; refine Keeps.cut (x := x) ?_ ?_; rotate_left; intro hx; clear_value x; rotate_right; subst x)
    | (extract_lets +onlyGivenNames x; refine Keeps.cut (x := x.2) ?_ ?_; rotate_left; intro hx; clear_value x; rotate_right; subst x)
    | (extract_lets +onlyGivenNames x; clear_value x) | refine Keeps.ite ?_ ?_ | simp -zeta only [Keeps.upd_iff]
    | apply Keeps.comp (State.setFlag_keeps ..) | apply Keeps.comp (State.event_keeps ..) | apply Keeps.comp (State.setVault_keeps ..)
    | apply Keeps.comp (State.setSlot_keeps ..) | apply Keeps.comp (State.random_keeps ..) | refine Keeps.foldl ?_ ?_
    | (intro _; beta_reduce)

theorem State.restoreReg_keeps (s : State) (a : Nat) (w : Word) : Keeps s (State.restoreReg s a w) := by
  unfold State.restoreReg
  with_reducible repeat' first
    | assumption | exact Keeps.refl _
    | (extract_lets +onlyGivenNames x; refine Keeps.cut (x := x) ?_ ?_; rotate_left; intro hx; clear_value x; rotate_right; subst x)
    | (extract_lets +onlyGivenNames x; clear_value x) | split | apply Keeps.comp (State.setReg_keeps ..)
    | apply Keeps.comp (State.setCanCh_keeps ..)

theorem State.restore_keeps (s : State) (safeBad : Bool) : Keeps s (State.restore s safeBad) := by
  unfold State.restore
  with_reducible repeat' first
    | assumption | exact Keeps.refl _
    | (extract_lets +onlyGivenNames x; refine Keeps.cut (x := x) ?_ ?_; rotate_left; intro hx; clear_value x; rotate_right; subst x)
    | (extract_lets +onlyGivenNames x; clear_value x) | refine Keeps.ite ?_ ?_ | simp -zeta only [Keeps.upd_iff] | split
    | apply Keeps.comp (State.setReg_keeps ..) | apply Keeps.comp (State.setFld_keeps ..) | apply Keeps.comp (State.setPstate_keeps ..)
    | apply Keeps.comp (State.event_keeps ..) | apply Keeps.comp (State.ringIndex_keeps ..) | apply Keeps.comp (State.setBoot_keeps ..)
    | apply Keeps.comp (State.restoreReg_keeps ..) | refine Keeps.foldl ?_ ?_ | (intro _; beta_reduce)

theorem State.placeStored_keeps (s : State) (p : Nat) (x : StoredImg) : Keeps s (State.placeStored s p x) := by
  unfold State.placeStored
  with_reducible repeat' first
    | assumption | exact Keeps.refl _
    | (extract_lets +onlyGivenNames x; refine Keeps.cut (x := x) ?_ ?_; rotate_left; intro hx; clear_value x; rotate_right; subst x)
    | (extract_lets +onlyGivenNames x; clear_value x) | refine Keeps.ite ?_ ?_ | split | apply Keeps.comp (State.modPart_keeps ..)
    | apply Keeps.comp (State.setPstate_keeps ..) | apply Keeps.comp (State.event_keeps ..)
    | apply Keeps.comp (State.installProgram_keeps ..) | apply Keeps.comp (State.writeNew_keeps ..)
    | apply Keeps.comp (State.setBoot_keeps ..) | apply Keeps.comp (State.bindAll_keeps ..) | refine Keeps.foldl ?_ ?_
    | (intro _; beta_reduce)

theorem State.bootOn_keeps (s : State) (i : StartIn) : Keeps s (State.bootOn s i) := by
  unfold State.bootOn
  with_reducible repeat' first
    | assumption | exact Keeps.refl _
    | (extract_lets +onlyGivenNames x; refine Keeps.cut (x := x) ?_ ?_; rotate_left; intro hx; clear_value x; rotate_right; subst x)
    | (extract_lets +onlyGivenNames x; clear_value x) | refine Keeps.ite ?_ ?_ | simp -zeta only [Keeps.upd_iff]
    | apply Keeps.comp (State.setPstate_keeps ..) | apply Keeps.comp (State.event_keeps ..)
    | apply Keeps.comp (State.applySpares_keeps ..) | apply Keeps.comp (State.setVault_keeps ..)
    | apply Keeps.comp (State.mainSend_keeps ..) | apply Keeps.comp (State.ringFill_keeps ..) | apply Keeps.comp (State.setPhase_keeps ..)
    | apply Keeps.comp (State.cageEnable_keeps ..) | apply Keeps.comp (State.restoreLamps_keeps ..)
    | apply Keeps.comp (State.unseal_keeps ..) | apply Keeps.comp (State.restore_keeps ..) | apply Keeps.comp (State.placeStored_keeps ..)
    | refine Keeps.foldl ?_ ?_ | (intro _; beta_reduce)

theorem State.releaseReset_keeps (s : State) (i : StartIn) : Keeps s (State.releaseReset s i) := by
  unfold State.releaseReset
  with_reducible repeat' first
    | assumption | exact Keeps.refl _
    | (extract_lets +onlyGivenNames x; refine Keeps.cut (x := x) ?_ ?_; rotate_left; intro hx; clear_value x; rotate_right; subst x)
    | (extract_lets +onlyGivenNames x; clear_value x) | refine Keeps.ite ?_ ?_ | simp -zeta only [Keeps.upd_iff]
    | apply Keeps.comp (State.incFld_keeps ..) | apply Keeps.comp (State.tamperHalt_keeps ..) | apply Keeps.comp (State.setBoot_keeps ..)
    | apply Keeps.comp (State.setPhase_keeps ..) | apply Keeps.comp (State.latchStraps_keeps ..)
    | apply Keeps.comp (State.bootOn_keeps ..)

theorem execResetRelease_keeps (i : StartIn) (s : State) : OutKeeps s (execResetRelease i s) := by
  unfold execResetRelease
  first | refine OutKeeps.onCore ?_ | refine OutKeeps.next ?_
  try beta_reduce
  with_reducible repeat' first
    | exact Keeps.refl _ | apply Keeps.comp (State.releaseReset_keeps ..)

theorem execBootTimeout_keeps (s : State) : OutKeeps s (execBootTimeout s) := by
  unfold execBootTimeout
  first | refine OutKeeps.onCore ?_ | refine OutKeeps.next ?_
  try beta_reduce
  with_reducible repeat' first
    | assumption | exact Keeps.refl _
    | (extract_lets +onlyGivenNames x; refine Keeps.cut (x := x) ?_ ?_; rotate_left; intro hx; clear_value x; rotate_right; subst x)
    | (extract_lets +onlyGivenNames x; clear_value x) | refine Keeps.ite ?_ ?_ | apply Keeps.comp (State.setFld_keeps ..)
    | apply Keeps.comp (State.moduleReset_keeps ..) | apply Keeps.comp (State.setPhase_keeps ..)

theorem execStandaloneStart_keeps (s : State) : OutKeeps s (execStandaloneStart s) := by
  unfold execStandaloneStart
  first | refine OutKeeps.onCore ?_ | refine OutKeeps.next ?_
  try beta_reduce
  with_reducible repeat' first
    | exact Keeps.refl _ | refine Keeps.ite ?_ ?_ | apply Keeps.comp (State.setBoot_keeps ..)

theorem State.exTicks_keeps (s : State) : Keeps s (State.exTicks s) := by
  unfold State.exTicks
  with_reducible repeat' first
    | exact Keeps.refl _ | refine Keeps.ite ?_ ?_ | apply Keeps.comp (State.setFld_keeps ..)

theorem execStartTick_keeps (s : State) : OutKeeps s (execStartTick s) := by
  unfold execStartTick
  first | refine OutKeeps.onCore ?_ | refine OutKeeps.next ?_
  try beta_reduce
  with_reducible repeat' first
    | assumption | exact Keeps.refl _
    | (extract_lets +onlyGivenNames x; refine Keeps.cut (x := x) ?_ ?_; rotate_left; intro hx; clear_value x; rotate_right; subst x)
    | (extract_lets +onlyGivenNames x; clear_value x) | refine Keeps.ite ?_ ?_ | simp -zeta only [Keeps.upd_iff]
    | apply Keeps.comp (State.exTicks_keeps ..)

theorem State.eraseMem_keeps (s : State) : Keeps s s.eraseMem := ⟨rfl, fun h => ⟨h.1, rfl⟩⟩

theorem State.lcErase_keeps (s : State) : Keeps s (State.lcErase s) := by
  unfold State.lcErase
  with_reducible repeat' first
    | assumption | exact Keeps.refl _
    | (extract_lets +onlyGivenNames x; refine Keeps.cut (x := x) ?_ ?_; rotate_left; intro hx; clear_value x; rotate_right; subst x)
    | (extract_lets +onlyGivenNames x; clear_value x) | simp -zeta only [Keeps.upd_iff] | apply Keeps.comp (State.setReg_keeps ..)
    | apply Keeps.comp (State.setFlag_keeps ..) | apply Keeps.comp (State.safetyOff_keeps ..) | apply Keeps.comp (State.setVault_keeps ..)
    | apply Keeps.comp (State.vaultZero_keeps ..) | apply Keeps.comp (State.endSessions_keeps ..)
    | apply Keeps.comp (State.setBoot_keeps ..) | apply Keeps.comp (State.stopAll_keeps ..) | apply Keeps.comp (State.eraseMem_keeps ..)
    | refine Keeps.foldl ?_ ?_ | (intro _; beta_reduce)

theorem execLcTransition_keeps (s : State) : OutKeeps s (execLcTransition s) := by
  unfold execLcTransition
  first | refine OutKeeps.onCore ?_ | refine OutKeeps.next ?_
  try beta_reduce
  with_reducible repeat' first
    | assumption | exact Keeps.refl _
    | (extract_lets +onlyGivenNames x; refine Keeps.cut (x := x) ?_ ?_; rotate_left; intro hx; clear_value x; rotate_right; subst x)
    | (extract_lets +onlyGivenNames x; clear_value x) | refine Keeps.ite ?_ ?_ | split | apply Keeps.comp (State.setFld_keeps ..)
    | apply Keeps.comp (State.setBoot_keeps ..) | apply Keeps.comp (State.moduleReset_keeps ..)
    | apply Keeps.comp (State.lcErase_keeps ..)

theorem execProvision_keeps (serial : BitVec 64) (mac : BitVec 48) (cert keys : List Byte) (s : State) : OutKeeps s (execProvision serial mac cert keys s) := by
  unfold execProvision
  first | refine OutKeeps.onCore ?_ | refine OutKeeps.next ?_
  try beta_reduce
  with_reducible repeat' first
    | assumption | exact Keeps.refl _
    | (extract_lets +onlyGivenNames x; refine Keeps.cut (x := x) ?_ ?_; rotate_left; intro hx; clear_value x; rotate_right; subst x)
    | refine Keeps.ite ?_ ?_ | apply Keeps.comp (State.setReg_keeps ..) | apply Keeps.comp (State.setBoot_keeps ..)

theorem execGlobalWordRead_keeps (s : State) : OutKeeps s (execGlobalWordRead s) := by
  unfold execGlobalWordRead
  first | refine OutKeeps.onCore ?_ | refine OutKeeps.next ?_
  try beta_reduce
  with_reducible repeat' first
    | exact Keeps.refl _ | apply Keeps.comp (State.markRead_keeps ..)

theorem execErrFree_keeps (s : State) : OutKeeps s (execErrFree s) := by
  unfold execErrFree
  first | refine OutKeeps.onCore ?_ | refine OutKeeps.next ?_
  try beta_reduce
  with_reducible repeat' first
    | exact Keeps.refl _ | apply Keeps.comp (State.freeRead_keeps ..)

theorem execErrClrOvf_keeps (s : State) : OutKeeps s (execErrClrOvf s) := by
  unfold execErrClrOvf
  first | refine OutKeeps.onCore ?_ | refine OutKeeps.next ?_
  try beta_reduce
  with_reducible repeat' first
    | exact Keeps.refl _ | apply Keeps.comp (State.clearGOvf_keeps ..)

theorem execFreezeN_keeps (s : State) : OutKeeps s (execFreezeN s) := by
  unfold execFreezeN
  first | refine OutKeeps.onCore ?_ | refine OutKeeps.next ?_
  try beta_reduce
  with_reducible repeat' first
    | exact Keeps.refl _ | refine Keeps.ite ?_ ?_ | apply Keeps.comp (State.freezeTrigger_keeps ..)

theorem execFreezeComparator_keeps (s : State) : OutKeeps s (execFreezeComparator s) := by
  unfold execFreezeComparator
  first | refine OutKeeps.onCore ?_ | refine OutKeeps.next ?_
  try beta_reduce
  with_reducible repeat' first
    | exact Keeps.refl _ | refine Keeps.ite ?_ ?_ | apply Keeps.comp (State.freezeTrigger_keeps ..)

theorem execConsentLapse_keeps (failed : Bool) (s : State) : OutKeeps s (execConsentLapse failed s) := by
  unfold execConsentLapse
  first | refine OutKeeps.onCore ?_ | refine OutKeeps.next ?_
  try beta_reduce
  with_reducible repeat' first
    | exact Keeps.refl _ | refine Keeps.ite ?_ ?_ | apply Keeps.comp (State.setFlag_keeps ..)

theorem State.tapOut_keeps (s : State) (v : BitVec 96) : Keeps s (State.tapOut s v) := by
  unfold State.tapOut
  with_reducible repeat' first
    | exact Keeps.refl _ | (extract_lets +onlyGivenNames x; clear_value x) | simp -zeta only [Keeps.upd_iff]

theorem State.onTap_keeps (s : State) (f : State → State) (hf : ∀ x0, Keeps x0 (f x0)): OutKeeps s (State.onTap s f) := by
  unfold State.onTap
  first | refine OutKeeps.onCore ?_ | refine OutKeeps.next ?_
  try beta_reduce
  with_reducible repeat' first
    | exact Keeps.refl _ | refine Keeps.ite ?_ ?_ | apply Keeps.comp (hf ..)

theorem execTapBypass_keeps (s : State) : OutKeeps s (execTapBypass s) := by
  unfold execTapBypass
  first | refine OutKeeps.onCore ?_ | refine OutKeeps.next ?_
  try beta_reduce
  with_reducible repeat' first
    | exact Keeps.refl _ | refine Keeps.ite ?_ ?_ | apply Keeps.comp (State.tapOut_keeps ..)

theorem execTapReadId_keeps (s : State) : OutKeeps s (execTapReadId s) := by
  unfold execTapReadId
  first | refine OutKeeps.onCore ?_ | refine OutKeeps.next ?_
  try beta_reduce
  with_reducible repeat' first
    | exact Keeps.refl _ | (extract_lets +onlyGivenNames x; clear_value x) | refine Keeps.ite ?_ ?_
    | apply Keeps.comp (State.tapOut_keeps ..)

theorem execTapRoAddr_keeps (a : BitVec 32) (s : State) : OutKeeps s (execTapRoAddr a s) := by
  unfold execTapRoAddr
  first | refine OutKeeps.onCore ?_ | refine OutKeeps.next ?_
  try beta_reduce
  with_reducible repeat' first
    | exact Keeps.refl _ | (extract_lets +onlyGivenNames x; clear_value x) | refine Keeps.ite ?_ ?_ | simp -zeta only [Keeps.upd_iff]

theorem execTapRoRead_keeps (s : State) : OutKeeps s (execTapRoRead s) := by
  unfold execTapRoRead
  first | refine OutKeeps.onCore ?_ | refine OutKeeps.next ?_
  try beta_reduce
  with_reducible repeat' first
    | exact Keeps.refl _ | (extract_lets +onlyGivenNames x; clear_value x) | refine Keeps.ite ?_ ?_ | simp -zeta only [Keeps.upd_iff]

theorem execTapFrzReset_keeps (b : Bool) (s : State) : OutKeeps s (execTapFrzReset b s) := by
  unfold execTapFrzReset
  first | refine OutKeeps.onCore ?_ | refine OutKeeps.next ?_
  try beta_reduce
  with_reducible repeat' first
    | exact Keeps.refl _ | refine Keeps.ite ?_ ?_ | apply Keeps.comp (State.moduleReset_keeps ..)

end Sys2Proof.Machine
end

