-- ==== Sys2Proof/Laws/KeepsMooring.lean ====
section
/-!
SUPPORT. Every operation of Mooring leaves the queue as it is and keeps the canonical form of the stores.
-/
namespace Sys2Proof.Machine

theorem State.setMoor_keeps (s : State) (f : MoorSt → MoorSt) : Keeps s (State.setMoor s f) := by
  unfold State.setMoor
  with_reducible repeat' first
    | exact Keeps.refl _ | simp -zeta only [Keeps.upd_iff]

theorem State.setSession_keeps (s : State) (n : Nat) (x : Session) : Keeps s (State.setSession s n x) := by
  unfold State.setSession
  with_reducible repeat' first
    | exact Keeps.refl _ | apply Keeps.comp (State.setMoor_keeps ..)

theorem State.moorPlain_keeps (s : State) (dest : MoorPath) (type sess : Nat) (body : List Byte) : Keeps s (State.moorPlain s dest type sess body) := by
  unfold State.moorPlain
  with_reducible repeat' first
    | exact Keeps.refl _ | (extract_lets +onlyGivenNames x; clear_value x) | apply Keeps.comp (State.send_keeps ..)
    | refine Keeps.foldl ?_ ?_ | (intro _; beta_reduce)

theorem State.reject_keeps (s : State) (dest : MoorPath) (cause : Nat) : Keeps s (State.reject s dest cause) := by
  unfold State.reject
  with_reducible repeat' first
    | exact Keeps.refl _ | apply Keeps.comp (State.event_keeps ..) | apply Keeps.comp (State.moorPlain_keeps ..)

theorem State.newSession_keeps (s : State) : Keeps s (State.newSession s).2 := by
  unfold State.newSession
  with_reducible repeat' first
    | assumption | exact Keeps.refl _
    | (extract_lets +onlyGivenNames x; refine Keeps.cut (x := x.2) ?_ ?_; rotate_left; intro hx; clear_value x; rotate_right; subst x)
    | apply Keeps.comp (State.random_keeps ..)

theorem State.identitySign_keeps (s : State) (msg : List Byte) : Keeps s (State.identitySign s msg).2 := by
  unfold State.identitySign
  with_reducible repeat' first
    | exact Keeps.refl _ | (extract_lets +onlyGivenNames x; clear_value x) | simp -zeta only [Keeps.upd_iff]
    | apply Keeps.comp (State.draw_keeps ..)

theorem State.openMsg_keeps (s : State) (dest : MoorPath) (b : List Byte) : Keeps s (State.openMsg s dest b) := by
  unfold State.openMsg
  with_reducible repeat' first
    | assumption | exact Keeps.refl _
    | (extract_lets +onlyGivenNames x; refine Keeps.cut (x := x) ?_ ?_; rotate_left; intro hx; clear_value x; rotate_right; subst x)
    | (extract_lets +onlyGivenNames x; refine Keeps.cut (x := x.2) ?_ ?_; rotate_left; intro hx; clear_value x; rotate_right; subst x)
    | (extract_lets +onlyGivenNames x; clear_value x) | split | apply Keeps.comp (State.random_keeps ..)
    | apply Keeps.comp (State.setSession_keeps ..) | apply Keeps.comp (State.moorPlain_keeps ..)
    | apply Keeps.comp (State.reject_keeps ..) | apply Keeps.comp (State.newSession_keeps ..)
    | apply Keeps.comp (State.identitySign_keeps ..)

theorem execMoorOpen_keeps (path : MoorPath) (datagram : List Byte) (s : State) : OutKeeps s (execMoorOpen path datagram s) := by
  unfold execMoorOpen
  first | refine OutKeeps.onCore ?_ | refine OutKeeps.next ?_
  try beta_reduce
  with_reducible repeat' first
    | exact Keeps.refl _ | (extract_lets +onlyGivenNames x; clear_value x) | refine Keeps.ite ?_ ?_ | split
    | apply Keeps.comp (State.setMoor_keeps ..) | apply Keeps.comp (State.openMsg_keeps ..)

theorem State.sealRecord_keeps (s : State) (sess : Nat) (pt : List Byte) : Keeps s (State.sealRecord s sess pt) := by
  unfold State.sealRecord
  with_reducible repeat' first
    | assumption | exact Keeps.refl _
    | (extract_lets +onlyGivenNames x; refine Keeps.cut (x := x) ?_ ?_; rotate_left; intro hx; clear_value x; rotate_right; subst x)
    | (extract_lets +onlyGivenNames x; clear_value x) | split | apply Keeps.comp (State.send_keeps ..)
    | apply Keeps.comp (State.setSession_keeps ..) | refine Keeps.foldl ?_ ?_ | (intro _; beta_reduce)

theorem State.sealReply_keeps (s : State) (sess req status : Nat) (final : Bool) (data : List Byte) : Keeps s (State.sealReply s sess req status final data) := by
  unfold State.sealReply
  with_reducible repeat' first
    | assumption | exact Keeps.refl _
    | (extract_lets +onlyGivenNames x; refine Keeps.cut (x := x) ?_ ?_; rotate_left; intro hx; clear_value x; rotate_right; subst x)
    | refine Keeps.ite ?_ ?_ | split | apply Keeps.comp (State.setSession_keeps ..) | apply Keeps.comp (State.sealRecord_keeps ..)

theorem State.sealReplies_keeps (s : State) : Keeps s (State.sealReplies s) := by
  unfold State.sealReplies
  with_reducible repeat' first
    | exact Keeps.refl _ | simp -zeta only [Keeps.upd_iff] | split | apply Keeps.comp (State.send_keeps ..)
    | apply Keeps.comp (State.sealReply_keeps ..) | refine Keeps.foldl ?_ ?_ | (intro _; beta_reduce)

theorem State.sessionReady_keeps (s : State) (n : Nat) (x : Session) : Keeps s (State.sessionReady s n x) := by
  unfold State.sessionReady
  with_reducible repeat' first
    | assumption | exact Keeps.refl _
    | (extract_lets +onlyGivenNames x; refine Keeps.cut (x := x) ?_ ?_; rotate_left; intro hx; clear_value x; rotate_right; subst x)
    | (extract_lets +onlyGivenNames x; clear_value x) | split | apply Keeps.comp (State.event_keeps ..)
    | apply Keeps.comp (State.endSession_keeps ..) | apply Keeps.comp (State.setSession_keeps ..)
    | apply Keeps.comp (State.sealRecord_keeps ..)

theorem execMoorConfirm_keeps (path : MoorPath) (datagram : List Byte) (s : State) : OutKeeps s (execMoorConfirm path datagram s) := by
  unfold execMoorConfirm
  first | refine OutKeeps.onCore ?_ | refine OutKeeps.next ?_
  try beta_reduce
  with_reducible repeat' first
    | assumption | exact Keeps.refl _
    | (extract_lets +onlyGivenNames x; refine Keeps.cut (x := x) ?_ ?_; rotate_left; intro hx; clear_value x; rotate_right; subst x)
    | (extract_lets +onlyGivenNames x; clear_value x) | refine Keeps.ite ?_ ?_ | split | apply Keeps.comp (State.setMoor_keeps ..)
    | apply Keeps.comp (State.setSession_keeps ..) | apply Keeps.comp (State.reject_keeps ..)
    | apply Keeps.comp (State.sessionReady_keeps ..)

theorem execSetupAbandoned_keeps (sess : BitVec 32) (s : State) : OutKeeps s (execSetupAbandoned sess s) := by
  unfold execSetupAbandoned
  first | refine OutKeeps.onCore ?_ | refine OutKeeps.next ?_
  try beta_reduce
  with_reducible repeat' first
    | exact Keeps.refl _ | refine Keeps.ite ?_ ?_ | split | apply Keeps.comp (State.setMoor_keeps ..)

theorem State.moorRegister_keeps (s : State) (sess : Nat) (x : Session) (req code : Nat) : Keeps s (State.moorRegister s sess x req code).2 := by
  unfold State.moorRegister
  with_reducible repeat' first
    | assumption | exact Keeps.refl _
    | (extract_lets +onlyGivenNames x; refine Keeps.cut (x := x) ?_ ?_; rotate_left; intro hx; clear_value x; rotate_right; subst x)
    | simp -zeta only [Keeps.upd_iff] | split | apply Keeps.comp (State.reply_keeps ..) | apply Keeps.comp (State.setSession_keeps ..)

theorem State.recordMsg_keeps (s : State) (sess : Nat) (x : Session) (b : List Byte) : Keeps s (State.recordMsg s sess x b) := by
  unfold State.recordMsg
  with_reducible repeat' first
    | assumption | exact Keeps.refl _
    | (extract_lets +onlyGivenNames x; refine Keeps.cut (x := x.2) ?_ ?_; rotate_left; intro hx; clear_value x; rotate_right; subst x)
    | (extract_lets +onlyGivenNames x; clear_value x) | refine Keeps.ite ?_ ?_ | apply Keeps.comp (State.reply_keeps ..)
    | apply Keeps.comp (State.setMoor_keeps ..) | apply Keeps.comp (State.moorRegister_keeps ..)

theorem execMoorRecord_keeps (path : MoorPath) (datagram : List Byte) (s : State) : OutKeeps s (execMoorRecord path datagram s) := by
  unfold execMoorRecord
  first | refine OutKeeps.onCore ?_ | refine OutKeeps.next ?_
  try beta_reduce
  with_reducible repeat' first
    | exact Keeps.refl _ | (extract_lets +onlyGivenNames x; clear_value x) | refine Keeps.ite ?_ ?_ | split
    | apply Keeps.comp (State.setSession_keeps ..) | apply Keeps.comp (State.recordMsg_keeps ..)

theorem execReassemblyTimeout_keeps (path : MoorPath) (sess : BitVec 32) (s : State) : OutKeeps s (execReassemblyTimeout path sess s) := by
  unfold execReassemblyTimeout
  first | refine OutKeeps.onCore ?_ | refine OutKeeps.next ?_
  try beta_reduce
  with_reducible repeat' first
    | exact Keeps.refl _ | refine Keeps.ite ?_ ?_ | split | apply Keeps.comp (State.setMoor_keeps ..)
    | apply Keeps.comp (State.setSession_keeps ..)

theorem State.relayEntry_keeps (s : State) (client : MoorPath) (sess unit : Nat) (t : State) (h : s.relayEntry client sess unit = some t) :
    Keeps s t := by
  unfold State.relayEntry at h
  dsimp only at h
  repeat' split at h
  all_goals first
    | (cases h; exact Keeps.refl _)
    | (cases h; with_reducible exact State.setMoor_keeps ..)
    | cases h

theorem State.moorRelay_keeps (s : State) (path : MoorPath) (d : List Byte) : Keeps s (State.moorRelay s path d) := by
  unfold State.moorRelay
  with_reducible repeat' first
    | exact Keeps.refl _ | (extract_lets +onlyGivenNames x; clear_value x) | refine Keeps.ite ?_ ?_ | split
    | apply Keeps.comp (State.event_keeps ..) | apply Keeps.comp (State.send_keeps ..) | apply Keeps.comp (State.manage_keeps ..)
    | exact State.relayEntry_keeps _ _ _ _ _ (by assumption)

theorem execMoorRelay_keeps (path : MoorPath) (datagram : List Byte) (s : State) : OutKeeps s (execMoorRelay path datagram s) := by
  unfold execMoorRelay
  first | refine OutKeeps.onCore ?_ | refine OutKeeps.next ?_
  try beta_reduce
  with_reducible repeat' first
    | exact Keeps.refl _ | apply Keeps.comp (State.moorRelay_keeps ..)

theorem execRelayEntryExpiry_keeps (path : MoorPath) (sess : BitVec 32) (s : State) : OutKeeps s (execRelayEntryExpiry path sess s) := by
  unfold execRelayEntryExpiry
  first | refine OutKeeps.onCore ?_ | refine OutKeeps.next ?_
  try beta_reduce
  with_reducible repeat' first
    | exact Keeps.refl _ | (extract_lets +onlyGivenNames x; clear_value x) | apply Keeps.comp (State.setMoor_keeps ..)

theorem execSessionIdleEnd_keeps (sess : BitVec 32) (s : State) : OutKeeps s (execSessionIdleEnd sess s) := by
  unfold execSessionIdleEnd
  first | refine OutKeeps.onCore ?_ | refine OutKeeps.next ?_
  try beta_reduce
  with_reducible repeat' first
    | exact Keeps.refl _ | refine Keeps.ite ?_ ?_ | split | apply Keeps.comp (State.endSession_keeps ..)

theorem execSessionLifetimeEnd_keeps (sess : BitVec 32) (s : State) : OutKeeps s (execSessionLifetimeEnd sess s) := by
  unfold execSessionLifetimeEnd
  first | refine OutKeeps.onCore ?_ | refine OutKeeps.next ?_
  try beta_reduce
  with_reducible repeat' first
    | exact Keeps.refl _ | refine Keeps.ite ?_ ?_ | split | apply Keeps.comp (State.endSession_keeps ..)

theorem State.mAns_keeps (s : State) (b : MoorBy) (st : Nat) : Keeps s (State.mAns s b st) := by
  unfold State.mAns
  with_reducible repeat' first
    | exact Keeps.refl _ | apply Keeps.comp (State.reply_keeps ..)

theorem State.mData_keeps (s : State) (b : MoorBy) (data : List Byte) : Keeps s (State.mData s b data) := by
  unfold State.mData
  with_reducible repeat' first
    | exact Keeps.refl _ | apply Keeps.comp (State.reply_keeps ..)

theorem State.mRefuse_keeps (s : State) (b : MoorBy) (cause : Nat) : Keeps s (State.mRefuse s b cause) := by
  unfold State.mRefuse
  with_reducible repeat' first
    | exact Keeps.refl _ | apply Keeps.comp (State.reply_keeps ..)

theorem State.mPend_keeps (s : State) (b : MoorBy) : Keeps s (State.mPend s b) := by
  unfold State.mPend
  with_reducible repeat' first
    | exact Keeps.refl _ | apply Keeps.comp (State.reply_keeps ..)

theorem State.mNeeds_keeps (s : State) (b : MoorBy) (roles : List Nat) (f : State → State) (hf : ∀ x0, Keeps x0 (f x0)): Keeps s (State.mNeeds s b roles f) := by
  unfold State.mNeeds
  with_reducible repeat' first
    | exact Keeps.refl _ | refine Keeps.ite ?_ ?_ | apply Keeps.comp (State.mAns_keeps ..) | apply Keeps.comp (hf ..)

theorem State.mTenant_keeps (s : State) (b : MoorBy) (f : Nat → State → State) (hf : ∀ x0 x1, Keeps x1 (f x0 x1)): Keeps s (State.mTenant s b f) := by
  unfold State.mTenant
  with_reducible repeat' first
    | exact Keeps.refl _ | split | apply Keeps.comp (State.mAns_keeps ..) | apply Keeps.comp (hf ..)

theorem State.mLen_keeps (s : State) (b : MoorBy) (args : List Byte) (n : Nat) (f : State → State) (hf : ∀ x0, Keeps x0 (f x0)): Keeps s (State.mLen s b args n f) := by
  unfold State.mLen
  with_reducible repeat' first
    | exact Keeps.refl _ | refine Keeps.ite ?_ ?_ | apply Keeps.comp (State.mAns_keeps ..) | apply Keeps.comp (hf ..)

theorem State.doNop_keeps (s : State) (b : MoorBy) (args : List Byte) : Keeps s (State.doNop s b args) := by
  unfold State.doNop
  with_reducible repeat' first
    | exact Keeps.refl _ | apply Keeps.comp (State.mAns_keeps ..) | apply Keeps.comp (State.mLen_keeps (hf := ?_) ..)
    | (intro _; beta_reduce)

theorem State.doClose_keeps (s : State) (b : MoorBy) (args : List Byte) : Keeps s (State.doClose s b args) := by
  unfold State.doClose
  with_reducible repeat' first
    | exact Keeps.refl _ | apply Keeps.comp (State.endSession_keeps ..) | apply Keeps.comp (State.sealReplies_keeps ..)
    | apply Keeps.comp (State.mAns_keeps ..) | apply Keeps.comp (State.mLen_keeps (hf := ?_) ..) | (intro _; beta_reduce)

theorem State.mSrf_keeps (s : State) (b : MoorBy) (f : State → State) (hf : ∀ x0, Keeps x0 (f x0)): Keeps s (State.mSrf s b f) := by
  unfold State.mSrf
  with_reducible repeat' first
    | exact Keeps.refl _ | refine Keeps.ite ?_ ?_ | apply Keeps.comp (State.mAns_keeps ..) | apply Keeps.comp (hf ..)

theorem State.doRegRead_keeps (s : State) (b : MoorBy) (args : List Byte) : Keeps s (State.doRegRead s b args) := by
  unfold State.doRegRead
  with_reducible repeat' first
    | assumption | exact Keeps.refl _
    | (extract_lets +onlyGivenNames x; refine Keeps.cut (x := x.2.2) ?_ ?_; rotate_left; intro hx; clear_value x; rotate_right; subst x)
    | (extract_lets +onlyGivenNames x; clear_value x) | split | apply Keeps.comp (State.reply_keeps ..)
    | apply Keeps.comp (State.srfRead_keeps ..) | apply Keeps.comp (State.mAns_keeps ..)
    | apply Keeps.comp (State.mLen_keeps (hf := ?_) ..) | apply Keeps.comp (State.mSrf_keeps (hf := ?_) ..) | refine Keeps.foldl3 ?_ ?_
    | (intro _; beta_reduce)

theorem State.doRegWrite_keeps (s : State) (b : MoorBy) (args : List Byte) : Keeps s (State.doRegWrite s b args) := by
  unfold State.doRegWrite
  with_reducible repeat' first
    | assumption | exact Keeps.refl _
    | (extract_lets +onlyGivenNames x; refine Keeps.cut (x := x.2) ?_ ?_; rotate_left; intro hx; clear_value x; rotate_right; subst x)
    | (extract_lets +onlyGivenNames x; clear_value x) | split | apply Keeps.comp (State.reply_keeps ..)
    | apply Keeps.comp (State.srfWrite_keeps ..) | apply Keeps.comp (State.mAns_keeps ..)
    | apply Keeps.comp (State.mSrf_keeps (hf := ?_) ..) | refine Keeps.foldl2 ?_ ?_ | (intro _; beta_reduce)

theorem State.xferTile_keeps (s : State) (p k : Nat) (payload : List Byte) : Keeps s (State.xferTile s p k payload) := by
  unfold State.xferTile
  with_reducible repeat' first
    | assumption | exact Keeps.refl _
    | (extract_lets +onlyGivenNames x; refine Keeps.cut (x := x) ?_ ?_; rotate_left; intro hx; clear_value x; rotate_right; subst x)
    | (extract_lets +onlyGivenNames x; clear_value x) | split | apply Keeps.comp (State.draw_keeps ..)
    | apply Keeps.comp (State.modPart_keeps ..) | apply Keeps.comp (State.setSteps_keeps ..)

theorem State.xferTiles_keeps (s : State) (p k m : Nat) (body : List Byte) : Keeps s (State.xferTiles s p k m body) := by
  unfold State.xferTiles
  with_reducible repeat' first
    | exact Keeps.refl _ | apply Keeps.comp (State.xferTile_keeps ..) | refine Keeps.foldl ?_ ?_ | (intro _; beta_reduce)

theorem State.doImgBegin_keeps (s : State) (b : MoorBy) (args : List Byte) : Keeps s (State.doImgBegin s b args) := by
  unfold State.doImgBegin
  with_reducible repeat' first
    | assumption | exact Keeps.refl _
    | (extract_lets +onlyGivenNames x; refine Keeps.cut (x := x) ?_ ?_; rotate_left; intro hx; clear_value x; rotate_right; subst x)
    | (extract_lets +onlyGivenNames x; clear_value x) | refine Keeps.ite ?_ ?_ | split | apply Keeps.comp (State.modPart_keeps ..)
    | apply Keeps.comp (State.setMoor_keeps ..) | apply Keeps.comp (State.mAns_keeps ..) | apply Keeps.comp (State.mRefuse_keeps ..)
    | apply Keeps.comp (State.mPend_keeps ..) | apply Keeps.comp (State.mTenant_keeps (hf := ?_) ..) | (intro _; beta_reduce)

theorem State.imgVerified_keeps (s : State) (p sess req : Nat) : Keeps s (State.imgVerified s p sess req) := by
  unfold State.imgVerified
  with_reducible repeat' first
    | assumption | exact Keeps.refl _
    | (extract_lets +onlyGivenNames x; refine Keeps.cut (x := x) ?_ ?_; rotate_left; intro hx; clear_value x; rotate_right; subst x)
    | (extract_lets +onlyGivenNames x; clear_value x) | refine Keeps.ite ?_ ?_ | split | apply Keeps.comp (State.modPart_keeps ..)
    | apply Keeps.comp (State.reply_keeps ..)

theorem State.doImgData_keeps (s : State) (b : MoorBy) (args : List Byte) : Keeps s (State.doImgData s b args) := by
  unfold State.doImgData
  with_reducible repeat' first
    | assumption | exact Keeps.refl _
    | (extract_lets +onlyGivenNames x; refine Keeps.cut (x := x) ?_ ?_; rotate_left; intro hx; clear_value x; rotate_right; subst x)
    | (extract_lets +onlyGivenNames x; clear_value x) | refine Keeps.ite ?_ ?_ | split | apply Keeps.comp (State.modPart_keeps ..)
    | apply Keeps.comp (State.mAns_keeps ..) | apply Keeps.comp (State.mTenant_keeps (hf := ?_) ..)
    | apply Keeps.comp (State.xferTiles_keeps ..) | (intro _; beta_reduce)

theorem State.imgDrop_keeps (s : State) (p : Nat) : Keeps s (State.imgDrop s p) := by
  unfold State.imgDrop
  with_reducible repeat' first
    | assumption | exact Keeps.refl _
    | (extract_lets +onlyGivenNames x; refine Keeps.cut (x := x) ?_ ?_; rotate_left; intro hx; clear_value x; rotate_right; subst x)
    | split | apply Keeps.comp (State.modPart_keeps ..) | apply Keeps.comp (State.dropXfer_keeps ..)
    | apply Keeps.comp (State.reply_keeps ..)

theorem State.doImgEnd_keeps (s : State) (b : MoorBy) (args : List Byte) : Keeps s (State.doImgEnd s b args) := by
  unfold State.doImgEnd
  with_reducible repeat' first
    | assumption | exact Keeps.refl _
    | (extract_lets +onlyGivenNames x; refine Keeps.cut (x := x) ?_ ?_; rotate_left; intro hx; clear_value x; rotate_right; subst x)
    | (extract_lets +onlyGivenNames x; clear_value x) | refine Keeps.ite ?_ ?_ | split | apply Keeps.comp (State.modPart_keeps ..)
    | apply Keeps.comp (State.mAns_keeps ..) | apply Keeps.comp (State.mRefuse_keeps ..) | apply Keeps.comp (State.mPend_keeps ..)
    | apply Keeps.comp (State.mTenant_keeps (hf := ?_) ..) | apply Keeps.comp (State.mLen_keeps (hf := ?_) ..)
    | apply Keeps.comp (State.xferTiles_keeps ..) | apply Keeps.comp (State.imgDrop_keeps ..) | (intro _; beta_reduce)

theorem State.doImgAbort_keeps (s : State) (b : MoorBy) (args : List Byte) : Keeps s (State.doImgAbort s b args) := by
  unfold State.doImgAbort
  with_reducible repeat' first
    | exact Keeps.refl _ | apply Keeps.comp (State.mAns_keeps ..) | apply Keeps.comp (State.mTenant_keeps (hf := ?_) ..)
    | apply Keeps.comp (State.mLen_keeps (hf := ?_) ..) | apply Keeps.comp (State.imgDrop_keeps ..) | (intro _; beta_reduce)

theorem State.doColdLoad_keeps (s : State) (b : MoorBy) (args : List Byte) : Keeps s (State.doColdLoad s b args) := by
  unfold State.doColdLoad
  with_reducible repeat' first
    | assumption | exact Keeps.refl _
    | (extract_lets +onlyGivenNames x; refine Keeps.cut (x := x) ?_ ?_; rotate_left; intro hx; clear_value x; rotate_right; subst x)
    | (extract_lets +onlyGivenNames x; refine Keeps.cut (x := x.2) ?_ ?_; rotate_left; intro hx; clear_value x; rotate_right; subst x)
    | (extract_lets +onlyGivenNames x; clear_value x) | refine Keeps.ite ?_ ?_ | simp -zeta only [Keeps.upd_iff] | split
    | apply Keeps.comp (State.modPart_keeps ..) | apply Keeps.comp (State.askStop_keeps ..) | apply Keeps.comp (State.freeTileAt_keeps ..)
    | apply Keeps.comp (State.xchgDrop_keeps ..) | apply Keeps.comp (State.mAns_keeps ..) | apply Keeps.comp (State.mRefuse_keeps ..)
    | apply Keeps.comp (State.mPend_keeps ..) | apply Keeps.comp (State.mTenant_keeps (hf := ?_) ..)
    | apply Keeps.comp (State.mLen_keeps (hf := ?_) ..) | apply Keeps.comp (State.allotTiles_keeps ..) | refine Keeps.foldl ?_ ?_
    | (intro _; beta_reduce)

theorem execColdLoadPlaced_keeps (part : Fin 128) (s : State) : OutKeeps s (execColdLoadPlaced part s) := by
  unfold execColdLoadPlaced
  first | refine OutKeeps.onCore ?_ | refine OutKeeps.next ?_
  try beta_reduce
  with_reducible repeat' first
    | assumption | exact Keeps.refl _
    | (extract_lets +onlyGivenNames x; refine Keeps.cut (x := x) ?_ ?_; rotate_left; intro hx; clear_value x; rotate_right; subst x)
    | (extract_lets +onlyGivenNames x; clear_value x) | refine Keeps.ite ?_ ?_ | split | apply Keeps.comp (State.modPart_keeps ..)
    | apply Keeps.comp (State.installProgram_keeps ..) | apply Keeps.comp (State.dropXfer_keeps ..)
    | apply Keeps.comp (State.bindAll_keeps ..)

theorem State.coldStart_keeps (s : State) (p : Nat) : Keeps s (State.coldStart s p) := by
  unfold State.coldStart
  with_reducible repeat' first
    | assumption | exact Keeps.refl _
    | (extract_lets +onlyGivenNames x; refine Keeps.cut (x := x) ?_ ?_; rotate_left; intro hx; clear_value x; rotate_right; subst x)
    | (extract_lets +onlyGivenNames x; clear_value x) | refine Keeps.ite ?_ ?_ | split | apply Keeps.comp (State.modPart_keeps ..)
    | apply Keeps.comp (State.toStarting_keeps ..) | apply Keeps.comp (State.reply_keeps ..)

theorem State.doXchgStage_keeps (s : State) (b : MoorBy) (args : List Byte) : Keeps s (State.doXchgStage s b args) := by
  unfold State.doXchgStage
  with_reducible repeat' first
    | assumption | exact Keeps.refl _
    | (extract_lets +onlyGivenNames x; refine Keeps.cut (x := x.2) ?_ ?_; rotate_left; intro hx; clear_value x; rotate_right; subst x)
    | refine Keeps.ite ?_ ?_ | apply Keeps.comp (State.xchgStage_keeps ..) | apply Keeps.comp (State.mRefuse_keeps ..)
    | apply Keeps.comp (State.mPend_keeps ..) | apply Keeps.comp (State.mTenant_keeps (hf := ?_) ..)
    | apply Keeps.comp (State.mLen_keeps (hf := ?_) ..) | (intro _; beta_reduce)

theorem State.doXchgArm_keeps (s : State) (b : MoorBy) (args : List Byte) : Keeps s (State.doXchgArm s b args) := by
  unfold State.doXchgArm
  with_reducible repeat' first
    | exact Keeps.refl _ | refine Keeps.ite ?_ ?_ | apply Keeps.comp (State.setXstate_keeps ..) | apply Keeps.comp (State.mAns_keeps ..)
    | apply Keeps.comp (State.mTenant_keeps (hf := ?_) ..) | apply Keeps.comp (State.mLen_keeps (hf := ?_) ..) | (intro _; beta_reduce)

theorem State.doXchgDisarm_keeps (s : State) (b : MoorBy) (args : List Byte) : Keeps s (State.doXchgDisarm s b args) := by
  unfold State.doXchgDisarm
  with_reducible repeat' first
    | exact Keeps.refl _ | refine Keeps.ite ?_ ?_ | apply Keeps.comp (State.setXstate_keeps ..) | apply Keeps.comp (State.mAns_keeps ..)
    | apply Keeps.comp (State.mTenant_keeps (hf := ?_) ..) | apply Keeps.comp (State.mLen_keeps (hf := ?_) ..) | (intro _; beta_reduce)

theorem State.doXchgDiscard_keeps (s : State) (b : MoorBy) (args : List Byte) : Keeps s (State.doXchgDiscard s b args) := by
  unfold State.doXchgDiscard
  with_reducible repeat' first
    | exact Keeps.refl _ | refine Keeps.ite ?_ ?_ | apply Keeps.comp (State.xchgDrop_keeps ..) | apply Keeps.comp (State.mAns_keeps ..)
    | apply Keeps.comp (State.mTenant_keeps (hf := ?_) ..) | apply Keeps.comp (State.mLen_keeps (hf := ?_) ..) | (intro _; beta_reduce)

theorem State.doXchgStatus_keeps (s : State) (b : MoorBy) (args : List Byte) : Keeps s (State.doXchgStatus s b args) := by
  unfold State.doXchgStatus
  with_reducible repeat' first
    | exact Keeps.refl _ | (extract_lets +onlyGivenNames x; clear_value x) | refine Keeps.ite ?_ ?_ | split
    | apply Keeps.comp (State.mAns_keeps ..) | apply Keeps.comp (State.mData_keeps ..) | apply Keeps.comp (State.mLen_keeps (hf := ?_) ..)
    | (intro _; beta_reduce)

theorem State.doXchgSafetyAuth_keeps (s : State) (b : MoorBy) (args : List Byte) : Keeps s (State.doXchgSafetyAuth s b args) := by
  unfold State.doXchgSafetyAuth
  with_reducible repeat' first
    | assumption | exact Keeps.refl _
    | (extract_lets +onlyGivenNames x; refine Keeps.cut (x := x) ?_ ?_; rotate_left; intro hx; clear_value x; rotate_right; subst x)
    | (extract_lets +onlyGivenNames x; clear_value x) | refine Keeps.ite ?_ ?_ | simp -zeta only [Keeps.upd_iff]
    | apply Keeps.comp (State.safeLog_keeps ..) | apply Keeps.comp (State.mAns_keeps ..)
    | apply Keeps.comp (State.mNeeds_keeps (hf := ?_) ..) | apply Keeps.comp (State.mLen_keeps (hf := ?_) ..) | (intro _; beta_reduce)

theorem State.doMultiChange_keeps (s : State) (b : MoorBy) (args : List Byte) : Keeps s (State.doMultiChange s b args) := by
  unfold State.doMultiChange
  with_reducible repeat' first
    | exact Keeps.refl _ | (extract_lets +onlyGivenNames x; clear_value x) | refine Keeps.ite ?_ ?_ | split
    | apply Keeps.comp (State.changeStart_keeps ..) | apply Keeps.comp (State.mAns_keeps ..) | apply Keeps.comp (State.mData_keeps ..)
    | apply Keeps.comp (State.mPend_keeps ..) | apply Keeps.comp (State.mNeeds_keeps (hf := ?_) ..) | (intro _; beta_reduce)

theorem State.doForceSet_keeps (s : State) (b : MoorBy) (args : List Byte) : Keeps s (State.doForceSet s b args) := by
  unfold State.doForceSet
  with_reducible repeat' first
    | exact Keeps.refl _ | (extract_lets +onlyGivenNames x; clear_value x) | split | apply Keeps.comp (State.forceSet_keeps ..)
    | apply Keeps.comp (State.twinForce_keeps ..) | apply Keeps.comp (State.mAns_keeps ..) | apply Keeps.comp (State.mRefuse_keeps ..)
    | apply Keeps.comp (State.mTenant_keeps (hf := ?_) ..) | apply Keeps.comp (State.mLen_keeps (hf := ?_) ..) | (intro _; beta_reduce)

theorem State.doForceClear_keeps (s : State) (b : MoorBy) (args : List Byte) : Keeps s (State.doForceClear s b args) := by
  unfold State.doForceClear
  with_reducible repeat' first
    | exact Keeps.refl _ | (extract_lets +onlyGivenNames x; clear_value x) | split | apply Keeps.comp (State.forceClear_keeps ..)
    | apply Keeps.comp (State.twinForce_keeps ..) | apply Keeps.comp (State.mAns_keeps ..)
    | apply Keeps.comp (State.mTenant_keeps (hf := ?_) ..) | apply Keeps.comp (State.mLen_keeps (hf := ?_) ..) | (intro _; beta_reduce)

theorem State.doForceList_keeps (s : State) (b : MoorBy) (args : List Byte) : Keeps s (State.doForceList s b args) := by
  unfold State.doForceList
  with_reducible repeat' first
    | exact Keeps.refl _ | apply Keeps.comp (State.mData_keeps ..) | apply Keeps.comp (State.mTenant_keeps (hf := ?_) ..)
    | apply Keeps.comp (State.mLen_keeps (hf := ?_) ..) | (intro _; beta_reduce)

theorem State.doPartStatus_keeps (s : State) (b : MoorBy) (args : List Byte) : Keeps s (State.doPartStatus s b args) := by
  unfold State.doPartStatus
  with_reducible repeat' first
    | exact Keeps.refl _ | (extract_lets +onlyGivenNames x; clear_value x) | apply Keeps.comp (State.readEffect_keeps ..)
    | apply Keeps.comp (State.mData_keeps ..) | apply Keeps.comp (State.mTenant_keeps (hf := ?_) ..)
    | apply Keeps.comp (State.mLen_keeps (hf := ?_) ..) | refine Keeps.foldl ?_ ?_ | (intro _; beta_reduce)

theorem State.doTileRead_keeps (s : State) (b : MoorBy) (args : List Byte) : Keeps s (State.doTileRead s b args) := by
  unfold State.doTileRead
  with_reducible repeat' first
    | exact Keeps.refl _ | (extract_lets +onlyGivenNames x; clear_value x) | refine Keeps.ite ?_ ?_ | split
    | apply Keeps.comp (State.setSteps_keeps ..) | apply Keeps.comp (State.mAns_keeps ..) | apply Keeps.comp (State.mRefuse_keeps ..)
    | apply Keeps.comp (State.mTenant_keeps (hf := ?_) ..) | apply Keeps.comp (State.mLen_keeps (hf := ?_) ..) | (intro _; beta_reduce)

theorem State.doRstore_keeps (s : State) (b : MoorBy) (args : List Byte) : Keeps s (State.doRstore s b args) := by
  unfold State.doRstore
  with_reducible repeat' first
    | exact Keeps.refl _ | (extract_lets +onlyGivenNames x; clear_value x) | refine Keeps.ite ?_ ?_
    | apply Keeps.comp (State.askStore_keeps ..) | apply Keeps.comp (State.mAns_keeps ..)
    | apply Keeps.comp (State.mTenant_keeps (hf := ?_) ..) | apply Keeps.comp (State.mLen_keeps (hf := ?_) ..) | (intro _; beta_reduce)

theorem State.doErrRead_keeps (s : State) (b : MoorBy) (args : List Byte) : Keeps s (State.doErrRead s b args) := by
  unfold State.doErrRead
  with_reducible repeat' first
    | exact Keeps.refl _ | (extract_lets +onlyGivenNames x; clear_value x) | split | apply Keeps.comp (State.modPart_keeps ..)
    | apply Keeps.comp (State.mAns_keeps ..) | apply Keeps.comp (State.mData_keeps ..)
    | apply Keeps.comp (State.mTenant_keeps (hf := ?_) ..) | apply Keeps.comp (State.mLen_keeps (hf := ?_) ..) | (intro _; beta_reduce)

theorem State.doErrClear_keeps (s : State) (b : MoorBy) (args : List Byte) : Keeps s (State.doErrClear s b args) := by
  unfold State.doErrClear
  with_reducible repeat' first
    | exact Keeps.refl _ | (extract_lets +onlyGivenNames x; clear_value x) | apply Keeps.comp (State.setFld_keeps ..)
    | apply Keeps.comp (State.setFlag_keeps ..) | apply Keeps.comp (State.mAns_keeps ..)
    | apply Keeps.comp (State.mTenant_keeps (hf := ?_) ..) | apply Keeps.comp (State.mLen_keeps (hf := ?_) ..) | (intro _; beta_reduce)

theorem State.doErrCfg_keeps (s : State) (b : MoorBy) (args : List Byte) : Keeps s (State.doErrCfg s b args) := by
  unfold State.doErrCfg
  with_reducible repeat' first
    | assumption | exact Keeps.refl _
    | (extract_lets +onlyGivenNames x; refine Keeps.cut (x := x) ?_ ?_; rotate_left; intro hx; clear_value x; rotate_right; subst x)
    | (extract_lets +onlyGivenNames x; clear_value x) | refine Keeps.ite ?_ ?_ | apply Keeps.comp (State.setReg_keeps ..)
    | apply Keeps.comp (State.modPart_keeps ..) | apply Keeps.comp (State.mAns_keeps ..) | apply Keeps.comp (State.mRefuse_keeps ..)
    | apply Keeps.comp (State.mTenant_keeps (hf := ?_) ..) | apply Keeps.comp (State.mLen_keeps (hf := ?_) ..) | (intro _; beta_reduce)

theorem State.doLogRead_keeps (s : State) (b : MoorBy) (args : List Byte) : Keeps s (State.doLogRead s b args) := by
  unfold State.doLogRead
  with_reducible repeat' first
    | assumption | exact Keeps.refl _
    | (extract_lets +onlyGivenNames x; refine Keeps.cut (x := x) ?_ ?_; rotate_left; intro hx; clear_value x; rotate_right; subst x)
    | (extract_lets +onlyGivenNames x; clear_value x) | split | apply Keeps.comp (State.markRead_keeps ..)
    | apply Keeps.comp (State.mAns_keeps ..) | apply Keeps.comp (State.mData_keeps ..)
    | apply Keeps.comp (State.mNeeds_keeps (hf := ?_) ..) | apply Keeps.comp (State.mLen_keeps (hf := ?_) ..) | refine Keeps.foldl ?_ ?_
    | (intro _; beta_reduce)

theorem State.doLogFree_keeps (s : State) (b : MoorBy) (args : List Byte) : Keeps s (State.doLogFree s b args) := by
  unfold State.doLogFree
  with_reducible repeat' first
    | exact Keeps.refl _ | apply Keeps.comp (State.freeRead_keeps ..) | apply Keeps.comp (State.mAns_keeps ..)
    | apply Keeps.comp (State.mNeeds_keeps (hf := ?_) ..) | apply Keeps.comp (State.mLen_keeps (hf := ?_) ..) | (intro _; beta_reduce)

theorem State.doTimeRestep_keeps (s : State) (b : MoorBy) (args : List Byte) : Keeps s (State.doTimeRestep s b args) := by
  unfold State.doTimeRestep
  with_reducible repeat' first
    | assumption | exact Keeps.refl _
    | (extract_lets +onlyGivenNames x; refine Keeps.cut (x := x.2) ?_ ?_; rotate_left; intro hx; clear_value x; rotate_right; subst x)
    | refine Keeps.ite ?_ ?_ | apply Keeps.comp (State.restep_keeps ..) | apply Keeps.comp (State.mAns_keeps ..)
    | apply Keeps.comp (State.mRefuse_keeps ..) | apply Keeps.comp (State.mNeeds_keeps (hf := ?_) ..)
    | apply Keeps.comp (State.mLen_keeps (hf := ?_) ..) | (intro _; beta_reduce)

theorem State.doLampSelftest_keeps (s : State) (b : MoorBy) (args : List Byte) : Keeps s (State.doLampSelftest s b args) := by
  unfold State.doLampSelftest
  with_reducible repeat' first
    | exact Keeps.refl _ | (extract_lets +onlyGivenNames x; clear_value x) | split | apply Keeps.comp (State.selftest_keeps ..)
    | apply Keeps.comp (State.mAns_keeps ..) | apply Keeps.comp (State.mNeeds_keeps (hf := ?_) ..)
    | apply Keeps.comp (State.mLen_keeps (hf := ?_) ..) | (intro _; beta_reduce)

theorem State.doExtract_keeps (s : State) (b : MoorBy) (args : List Byte) : Keeps s (State.doExtract s b args) := by
  unfold State.doExtract
  with_reducible repeat' first
    | assumption | exact Keeps.refl _
    | (extract_lets +onlyGivenNames x; refine Keeps.cut (x := x) ?_ ?_; rotate_left; intro hx; clear_value x; rotate_right; subst x)
    | apply Keeps.comp (State.exRequest_keeps ..) | apply Keeps.comp (State.mData_keeps ..)
    | apply Keeps.comp (State.mNeeds_keeps (hf := ?_) ..) | apply Keeps.comp (State.mLen_keeps (hf := ?_) ..) | (intro _; beta_reduce)

theorem State.doFreezeConsent_keeps (s : State) (b : MoorBy) (args : List Byte) : Keeps s (State.doFreezeConsent s b args) := by
  unfold State.doFreezeConsent
  with_reducible repeat' first
    | exact Keeps.refl _ | refine Keeps.ite ?_ ?_ | apply Keeps.comp (State.manage_keeps ..) | apply Keeps.comp (State.setMoor_keeps ..)
    | apply Keeps.comp (State.mAns_keeps ..) | apply Keeps.comp (State.mRefuse_keeps ..) | apply Keeps.comp (State.mPend_keeps ..)
    | apply Keeps.comp (State.mNeeds_keeps (hf := ?_) ..) | apply Keeps.comp (State.mLen_keeps (hf := ?_) ..) | (intro _; beta_reduce)

theorem execFreezeConsentAnswer_keeps (cause : Option (Fin 4)) (s : State) : OutKeeps s (execFreezeConsentAnswer cause s) := by
  unfold execFreezeConsentAnswer
  first | refine OutKeeps.onCore ?_ | refine OutKeeps.next ?_
  try beta_reduce
  with_reducible repeat' first
    | assumption | exact Keeps.refl _
    | (extract_lets +onlyGivenNames x; refine Keeps.cut (x := x) ?_ ?_; rotate_left; intro hx; clear_value x; rotate_right; subst x)
    | (extract_lets +onlyGivenNames x; clear_value x) | simp -zeta only [Keeps.upd_iff] | split | apply Keeps.comp (State.reply_keeps ..)
    | apply Keeps.comp (State.setMoor_keeps ..)

theorem execFreezeConsentTimeout_keeps (s : State) : OutKeeps s (execFreezeConsentTimeout s) := by
  unfold execFreezeConsentTimeout
  first | refine OutKeeps.onCore ?_ | refine OutKeeps.next ?_
  try beta_reduce
  with_reducible repeat' first
    | exact Keeps.refl _ | refine Keeps.ite ?_ ?_ | split | apply Keeps.comp (State.reply_keeps ..)
    | apply Keeps.comp (State.setMoor_keeps ..)

theorem State.doReadoutConsent_keeps (s : State) (b : MoorBy) (args : List Byte) : Keeps s (State.doReadoutConsent s b args) := by
  unfold State.doReadoutConsent
  with_reducible repeat' first
    | exact Keeps.refl _ | (extract_lets +onlyGivenNames x; clear_value x) | split | apply Keeps.comp (State.setReg_keeps ..)
    | apply Keeps.comp (State.mAns_keeps ..) | apply Keeps.comp (State.mTenant_keeps (hf := ?_) ..)
    | apply Keeps.comp (State.mLen_keeps (hf := ?_) ..) | (intro _; beta_reduce)

theorem State.mSlot_keeps (s : State) (b : MoorBy) (n : Nat) (f : Nat → State → State) (hf : ∀ x0 x1, Keeps x1 (f x0 x1)): Keeps s (State.mSlot s b n f) := by
  unfold State.mSlot
  with_reducible repeat' first
    | exact Keeps.refl _ | refine Keeps.ite ?_ ?_ | split | apply Keeps.comp (State.mAns_keeps ..)
    | apply Keeps.comp (State.mTenant_keeps (hf := ?_) ..) | apply Keeps.comp (hf ..) | (intro _; beta_reduce)

theorem State.mVault_keeps (s : State) (b : MoorBy) (st : Nat) : Keeps s (State.mVault s b st) := by
  unfold State.mVault
  with_reducible repeat' first
    | exact Keeps.refl _ | refine Keeps.ite ?_ ?_ | apply Keeps.comp (State.mAns_keeps ..) | apply Keeps.comp (State.mRefuse_keeps ..)

theorem State.doKeyStage_keeps (s : State) (b : MoorBy) (args : List Byte) : Keeps s (State.doKeyStage s b args) := by
  unfold State.doKeyStage
  with_reducible repeat' first
    | assumption | exact Keeps.refl _
    | (extract_lets +onlyGivenNames x; refine Keeps.cut (x := x.2) ?_ ?_; rotate_left; intro hx; clear_value x; rotate_right; subst x)
    | (extract_lets +onlyGivenNames x; clear_value x) | refine Keeps.ite ?_ ?_ | split | apply Keeps.comp (State.useKey_keeps ..)
    | apply Keeps.comp (State.stage_keeps ..) | apply Keeps.comp (State.queueAsym_keeps ..) | apply Keeps.comp (State.generate_keeps ..)
    | apply Keeps.comp (State.unwrap_keeps ..) | apply Keeps.comp (State.mAns_keeps ..) | apply Keeps.comp (State.mRefuse_keeps ..)
    | apply Keeps.comp (State.mPend_keeps ..) | apply Keeps.comp (State.mSlot_keeps (hf := ?_) ..)
    | apply Keeps.comp (State.mVault_keeps ..) | (intro _; beta_reduce)

theorem State.doKeyVerify_keeps (s : State) (b : MoorBy) (args : List Byte) : Keeps s (State.doKeyVerify s b args) := by
  unfold State.doKeyVerify
  with_reducible repeat' first
    | assumption | exact Keeps.refl _
    | (extract_lets +onlyGivenNames x; refine Keeps.cut (x := x.2) ?_ ?_; rotate_left; intro hx; clear_value x; rotate_right; subst x)
    | refine Keeps.ite ?_ ?_ | split | apply Keeps.comp (State.verifyKey_keeps ..) | apply Keeps.comp (State.mAns_keeps ..)
    | apply Keeps.comp (State.mSlot_keeps (hf := ?_) ..) | apply Keeps.comp (State.mVault_keeps ..) | (intro _; beta_reduce)

theorem State.doKeyCommit_keeps (s : State) (b : MoorBy) (args : List Byte) : Keeps s (State.doKeyCommit s b args) := by
  unfold State.doKeyCommit
  with_reducible repeat' first
    | assumption | exact Keeps.refl _
    | (extract_lets +onlyGivenNames x; refine Keeps.cut (x := x.2) ?_ ?_; rotate_left; intro hx; clear_value x; rotate_right; subst x)
    | apply Keeps.comp (State.commitKey_keeps ..) | apply Keeps.comp (State.mLen_keeps (hf := ?_) ..)
    | apply Keeps.comp (State.mSlot_keeps (hf := ?_) ..) | apply Keeps.comp (State.mVault_keeps ..) | (intro _; beta_reduce)

theorem State.doAttest_keeps (s : State) (b : MoorBy) (args : List Byte) : Keeps s (State.doAttest s b args) := by
  unfold State.doAttest
  with_reducible repeat' first
    | exact Keeps.refl _ | apply Keeps.comp (State.setMoor_keeps ..) | apply Keeps.comp (State.mPend_keeps ..)
    | apply Keeps.comp (State.mTenant_keeps (hf := ?_) ..) | apply Keeps.comp (State.mLen_keeps (hf := ?_) ..) | (intro _; beta_reduce)

theorem State.doAnchorReplace_keeps (s : State) (b : MoorBy) (args : List Byte) : Keeps s (State.doAnchorReplace s b args) := by
  unfold State.doAnchorReplace
  with_reducible repeat' first
    | exact Keeps.refl _ | refine Keeps.ite ?_ ?_ | apply Keeps.comp (State.setMoor_keeps ..) | apply Keeps.comp (State.mAns_keeps ..)
    | apply Keeps.comp (State.mPend_keeps ..) | apply Keeps.comp (State.mTenant_keeps (hf := ?_) ..)
    | apply Keeps.comp (State.mLen_keeps (hf := ?_) ..) | (intro _; beta_reduce)

theorem State.setAnchor_keeps (s : State) (p : Nat) (keys : List Byte) : Keeps s (State.setAnchor s p keys) := by
  unfold State.setAnchor
  with_reducible repeat' first
    | exact Keeps.refl _ | apply Keeps.comp (State.setVault_keeps ..)

theorem State.doOpenTenancy_keeps (s : State) (b : MoorBy) (args : List Byte) : Keeps s (State.doOpenTenancy s b args) := by
  unfold State.doOpenTenancy
  with_reducible repeat' first
    | assumption | exact Keeps.refl _
    | (extract_lets +onlyGivenNames x; refine Keeps.cut (x := x.2) ?_ ?_; rotate_left; intro hx; clear_value x; rotate_right; subst x)
    | (extract_lets +onlyGivenNames x; clear_value x) | refine Keeps.ite ?_ ?_ | split | apply Keeps.comp (State.partCmd_keeps ..)
    | apply Keeps.comp (State.setVault_keeps ..) | apply Keeps.comp (State.random_keeps ..) | apply Keeps.comp (State.mAns_keeps ..)
    | apply Keeps.comp (State.mData_keeps ..) | apply Keeps.comp (State.mNeeds_keeps (hf := ?_) ..)
    | apply Keeps.comp (State.mLen_keeps (hf := ?_) ..) | (intro _; beta_reduce)

theorem State.doTenantClaim_keeps (s : State) (b : MoorBy) (args : List Byte) : Keeps s (State.doTenantClaim s b args) := by
  unfold State.doTenantClaim
  with_reducible repeat' first
    | assumption | exact Keeps.refl _
    | (extract_lets +onlyGivenNames x; refine Keeps.cut (x := x) ?_ ?_; rotate_left; intro hx; clear_value x; rotate_right; subst x)
    | (extract_lets +onlyGivenNames x; clear_value x) | refine Keeps.ite ?_ ?_ | split | apply Keeps.comp (State.setVault_keeps ..)
    | apply Keeps.comp (State.setMoor_keeps ..) | apply Keeps.comp (State.mAns_keeps ..) | apply Keeps.comp (State.mPend_keeps ..)
    | apply Keeps.comp (State.mLen_keeps (hf := ?_) ..) | (intro _; beta_reduce)

theorem State.claimed_keeps (s : State) (sess : Nat) : Keeps s (State.claimed s sess) := by
  unfold State.claimed
  with_reducible repeat' first
    | exact Keeps.refl _ | split | apply Keeps.comp (State.setSession_keeps ..)

theorem State.doClaimOwner_keeps (s : State) (b : MoorBy) (args : List Byte) : Keeps s (State.doClaimOwner s b args) := by
  unfold State.doClaimOwner
  with_reducible repeat' first
    | exact Keeps.refl _ | refine Keeps.ite ?_ ?_ | split | apply Keeps.comp (State.mAns_keeps ..)
    | apply Keeps.comp (State.mNeeds_keeps (hf := ?_) ..) | apply Keeps.comp (State.mLen_keeps (hf := ?_) ..)
    | apply Keeps.comp (State.setAnchor_keeps ..) | apply Keeps.comp (State.claimed_keeps ..) | (intro _; beta_reduce)

theorem State.askLc_keeps (s : State) (b : MoorBy) (n : Nat) : Keeps s (State.askLc s b n) := by
  unfold State.askLc
  with_reducible repeat' first
    | exact Keeps.refl _ | refine Keeps.ite ?_ ?_ | apply Keeps.comp (State.askStop_keeps ..) | apply Keeps.comp (State.setBoot_keeps ..)
    | apply Keeps.comp (State.sealReplies_keeps ..) | apply Keeps.comp (State.mAns_keeps ..) | refine Keeps.foldl ?_ ?_
    | (intro _; beta_reduce)

theorem State.doLcField_keeps (s : State) (b : MoorBy) (args : List Byte) : Keeps s (State.doLcField s b args) := by
  unfold State.doLcField
  with_reducible repeat' first
    | exact Keeps.refl _ | refine Keeps.ite ?_ ?_ | apply Keeps.comp (State.mAns_keeps ..)
    | apply Keeps.comp (State.mNeeds_keeps (hf := ?_) ..) | apply Keeps.comp (State.mLen_keeps (hf := ?_) ..)
    | apply Keeps.comp (State.askLc_keeps ..) | (intro _; beta_reduce)

theorem State.doLcReturn_keeps (s : State) (b : MoorBy) (args : List Byte) : Keeps s (State.doLcReturn s b args) := by
  unfold State.doLcReturn
  with_reducible repeat' first
    | exact Keeps.refl _ | refine Keeps.ite ?_ ?_ | apply Keeps.comp (State.event_keeps ..) | apply Keeps.comp (State.mAns_keeps ..)
    | apply Keeps.comp (State.mNeeds_keeps (hf := ?_) ..) | apply Keeps.comp (State.mLen_keeps (hf := ?_) ..)
    | apply Keeps.comp (State.askLc_keeps ..) | (intro _; beta_reduce)

theorem State.doLcDecommission_keeps (s : State) (b : MoorBy) (args : List Byte) : Keeps s (State.doLcDecommission s b args) := by
  unfold State.doLcDecommission
  with_reducible repeat' first
    | exact Keeps.refl _ | refine Keeps.ite ?_ ?_ | apply Keeps.comp (State.mAns_keeps ..)
    | apply Keeps.comp (State.mNeeds_keeps (hf := ?_) ..) | apply Keeps.comp (State.mLen_keeps (hf := ?_) ..)
    | apply Keeps.comp (State.askLc_keeps ..) | (intro _; beta_reduce)

theorem State.doSafeUnlock_keeps (s : State) (b : MoorBy) (args : List Byte) : Keeps s (State.doSafeUnlock s b args) := by
  unfold State.doSafeUnlock
  with_reducible repeat' first
    | assumption | exact Keeps.refl _
    | (extract_lets +onlyGivenNames x; refine Keeps.cut (x := x.2) ?_ ?_; rotate_left; intro hx; clear_value x; rotate_right; subst x)
    | apply Keeps.comp (State.safeUnlock_keeps ..) | apply Keeps.comp (State.mAns_keeps ..)
    | apply Keeps.comp (State.mNeeds_keeps (hf := ?_) ..) | (intro _; beta_reduce)

theorem State.doSafePassword_keeps (s : State) (b : MoorBy) (args : List Byte) : Keeps s (State.doSafePassword s b args) := by
  unfold State.doSafePassword
  with_reducible repeat' first
    | assumption | exact Keeps.refl _
    | (extract_lets +onlyGivenNames x; refine Keeps.cut (x := x.2) ?_ ?_; rotate_left; intro hx; clear_value x; rotate_right; subst x)
    | (extract_lets +onlyGivenNames x; clear_value x) | split | apply Keeps.comp (State.safePassword_keeps ..)
    | apply Keeps.comp (State.mAns_keeps ..) | apply Keeps.comp (State.mNeeds_keeps (hf := ?_) ..) | (intro _; beta_reduce)

theorem State.doSafeLogRead_keeps (s : State) (b : MoorBy) (args : List Byte) : Keeps s (State.doSafeLogRead s b args) := by
  unfold State.doSafeLogRead
  with_reducible repeat' first
    | exact Keeps.refl _ | (extract_lets +onlyGivenNames x; clear_value x) | apply Keeps.comp (State.mData_keeps ..)
    | apply Keeps.comp (State.mNeeds_keeps (hf := ?_) ..) | apply Keeps.comp (State.mLen_keeps (hf := ?_) ..) | (intro _; beta_reduce)

theorem State.moorWork_keeps (s : State) : Keeps s (State.moorWork s) := by
  unfold State.moorWork
  with_reducible repeat' first
    | assumption | exact Keeps.refl _
    | (extract_lets +onlyGivenNames x; refine Keeps.cut (x := x) ?_ ?_; rotate_left; intro hx; clear_value x; rotate_right; subst x)
    | (extract_lets +onlyGivenNames x; refine Keeps.cut (x := x.2) ?_ ?_; rotate_left; intro hx; clear_value x; rotate_right; subst x)
    | (extract_lets +onlyGivenNames x; clear_value x) | refine Keeps.ite ?_ ?_ | split | apply Keeps.comp (State.reply_keeps ..)
    | apply Keeps.comp (State.setVault_keeps ..) | apply Keeps.comp (State.setMoor_keeps ..)
    | apply Keeps.comp (State.identitySign_keeps ..) | apply Keeps.comp (State.imgVerified_keeps ..)
    | apply Keeps.comp (State.setAnchor_keeps ..) | apply Keeps.comp (State.claimed_keeps ..)

theorem execAsymWindowRun_keeps (w : Fin 8) (s : State) : OutKeeps s (execAsymWindowRun w s) := by
  unfold execAsymWindowRun
  first | refine OutKeeps.onCore ?_ | refine OutKeeps.next ?_
  try beta_reduce
  with_reducible repeat' first
    | exact Keeps.refl _ | refine Keeps.ite ?_ ?_ | apply Keeps.comp (State.asymWindow_keeps ..)
    | apply Keeps.comp (State.moorWork_keeps ..)

theorem moorFn_keeps (code : Nat) (f : State → MoorBy → List Byte → State) (h : moorFn code = some f) (s : State) (b : MoorBy) (a : List Byte) :
    Keeps s (f s b a) := by
  unfold moorFn at h
  split at h
  · cases h; exact State.doNop_keeps s b a
  · cases h; exact State.doClose_keeps s b a
  · cases h; exact State.doRegRead_keeps s b a
  · cases h; exact State.doRegWrite_keeps s b a
  · cases h; exact State.doImgBegin_keeps s b a
  · cases h; exact State.doImgData_keeps s b a
  · cases h; exact State.doImgEnd_keeps s b a
  · cases h; exact State.doImgAbort_keeps s b a
  · cases h; exact State.doColdLoad_keeps s b a
  · cases h; exact State.doXchgStage_keeps s b a
  · cases h; exact State.doXchgArm_keeps s b a
  · cases h; exact State.doXchgDisarm_keeps s b a
  · cases h; exact State.doXchgDiscard_keeps s b a
  · cases h; exact State.doXchgStatus_keeps s b a
  · cases h; exact State.doXchgSafetyAuth_keeps s b a
  · cases h; exact State.doMultiChange_keeps s b a
  · cases h; exact State.doForceSet_keeps s b a
  · cases h; exact State.doForceClear_keeps s b a
  · cases h; exact State.doForceList_keeps s b a
  · cases h; exact State.doPartStatus_keeps s b a
  · cases h; exact State.doTileRead_keeps s b a
  · cases h; exact State.doRstore_keeps s b a
  · cases h; exact State.doErrRead_keeps s b a
  · cases h; exact State.doErrClear_keeps s b a
  · cases h; exact State.doErrCfg_keeps s b a
  · cases h; exact State.doLogRead_keeps s b a
  · cases h; exact State.doLogFree_keeps s b a
  · cases h; exact State.doTimeRestep_keeps s b a
  · cases h; exact State.doLampSelftest_keeps s b a
  · cases h; exact State.doExtract_keeps s b a
  · cases h; exact State.doFreezeConsent_keeps s b a
  · cases h; exact State.doReadoutConsent_keeps s b a
  · cases h; exact State.doKeyStage_keeps s b a
  · cases h; exact State.doKeyVerify_keeps s b a
  · cases h; exact State.doKeyCommit_keeps s b a
  · cases h; exact State.doAttest_keeps s b a
  · cases h; exact State.doAnchorReplace_keeps s b a
  · cases h; exact State.doOpenTenancy_keeps s b a
  · cases h; exact State.doTenantClaim_keeps s b a
  · cases h; exact State.doClaimOwner_keeps s b a
  · cases h; exact State.doLcField_keeps s b a
  · cases h; exact State.doLcReturn_keeps s b a
  · cases h; exact State.doLcDecommission_keeps s b a
  · cases h; exact State.doSafeUnlock_keeps s b a
  · cases h; exact State.doSafePassword_keeps s b a
  · cases h; exact State.doSafeLogRead_keeps s b a
  · cases h

theorem State.moorEffect_keeps (s : State) (sess req code : Nat) (args : List Byte) (f : State → MoorBy → List Byte → State) (hf : ∀ x0 x1 x2, Keeps x0 (f x0 x1 x2)): Keeps s (State.moorEffect s sess req code args f) := by
  unfold State.moorEffect
  with_reducible repeat' first
    | exact Keeps.refl _ | (extract_lets +onlyGivenNames x; clear_value x) | refine Keeps.ite ?_ ?_ | split
    | apply Keeps.comp (State.mAns_keeps ..) | apply Keeps.comp (hf ..)

theorem State.moorRow_keeps (s : State) (sess req code : Nat) (args : List Byte) (f : State → MoorBy → List Byte → State) (hf : ∀ x0 x1 x2, Keeps x0 (f x0 x1 x2)): Keeps s (State.moorRow s sess req code args f) := by
  unfold State.moorRow
  with_reducible repeat' first
    | assumption | exact Keeps.refl _
    | (extract_lets +onlyGivenNames x; refine Keeps.cut (x := x.2) ?_ ?_; rotate_left; intro hx; clear_value x; rotate_right; subst x)
    | refine Keeps.ite ?_ ?_ | split | apply Keeps.comp (State.moorRegister_keeps ..)
    | apply Keeps.comp (State.moorEffect_keeps (hf := ?_) ..)

theorem State.moorLand_keeps (s : State) : Keeps s (State.moorLand s) := by
  unfold State.moorLand
  with_reducible repeat' first
    | exact Keeps.refl _ | (extract_lets +onlyGivenNames x; clear_value x) | split | apply Keeps.comp (State.reply_keeps ..)
    | apply Keeps.comp (State.setMoor_keeps ..) | apply Keeps.comp (State.moorEffect_keeps (hf := ?_) ..)
    | exact moorFn_keeps _ _ (by assumption) _ _ _ | refine Keeps.foldl ?_ ?_ | (intro _; beta_reduce)

theorem execMoorNop_keeps (sess : BitVec 32) (req : BitVec 16) (args : List Byte) (s : State) : OutKeeps s (execMoorNop sess req args s) := by
  unfold execMoorNop
  first | refine OutKeeps.onCore ?_ | refine OutKeeps.next ?_
  try beta_reduce
  with_reducible repeat' first
    | exact Keeps.refl _ | apply Keeps.comp (State.doNop_keeps ..) | apply Keeps.comp (State.moorRow_keeps (hf := ?_) ..)
    | (intro _; beta_reduce)

theorem execMoorClose_keeps (sess : BitVec 32) (req : BitVec 16) (args : List Byte) (s : State) : OutKeeps s (execMoorClose sess req args s) := by
  unfold execMoorClose
  first | refine OutKeeps.onCore ?_ | refine OutKeeps.next ?_
  try beta_reduce
  with_reducible repeat' first
    | exact Keeps.refl _ | apply Keeps.comp (State.doClose_keeps ..) | apply Keeps.comp (State.moorRow_keeps (hf := ?_) ..)
    | (intro _; beta_reduce)

theorem execRegRead_keeps (sess : BitVec 32) (req : BitVec 16) (args : List Byte) (s : State) : OutKeeps s (execRegRead sess req args s) := by
  unfold execRegRead
  first | refine OutKeeps.onCore ?_ | refine OutKeeps.next ?_
  try beta_reduce
  with_reducible repeat' first
    | exact Keeps.refl _ | apply Keeps.comp (State.doRegRead_keeps ..) | apply Keeps.comp (State.moorRow_keeps (hf := ?_) ..)
    | (intro _; beta_reduce)

theorem execRegWrite_keeps (sess : BitVec 32) (req : BitVec 16) (args : List Byte) (s : State) : OutKeeps s (execRegWrite sess req args s) := by
  unfold execRegWrite
  first | refine OutKeeps.onCore ?_ | refine OutKeeps.next ?_
  try beta_reduce
  with_reducible repeat' first
    | exact Keeps.refl _ | apply Keeps.comp (State.doRegWrite_keeps ..) | apply Keeps.comp (State.moorRow_keeps (hf := ?_) ..)
    | (intro _; beta_reduce)

theorem execImgBegin_keeps (sess : BitVec 32) (req : BitVec 16) (args : List Byte) (s : State) : OutKeeps s (execImgBegin sess req args s) := by
  unfold execImgBegin
  first | refine OutKeeps.onCore ?_ | refine OutKeeps.next ?_
  try beta_reduce
  with_reducible repeat' first
    | exact Keeps.refl _ | apply Keeps.comp (State.doImgBegin_keeps ..) | apply Keeps.comp (State.moorRow_keeps (hf := ?_) ..)
    | (intro _; beta_reduce)

theorem execImgData_keeps (sess : BitVec 32) (req : BitVec 16) (args : List Byte) (s : State) : OutKeeps s (execImgData sess req args s) := by
  unfold execImgData
  first | refine OutKeeps.onCore ?_ | refine OutKeeps.next ?_
  try beta_reduce
  with_reducible repeat' first
    | exact Keeps.refl _ | apply Keeps.comp (State.doImgData_keeps ..) | apply Keeps.comp (State.moorRow_keeps (hf := ?_) ..)
    | (intro _; beta_reduce)

theorem execImgEnd_keeps (sess : BitVec 32) (req : BitVec 16) (args : List Byte) (s : State) : OutKeeps s (execImgEnd sess req args s) := by
  unfold execImgEnd
  first | refine OutKeeps.onCore ?_ | refine OutKeeps.next ?_
  try beta_reduce
  with_reducible repeat' first
    | exact Keeps.refl _ | apply Keeps.comp (State.doImgEnd_keeps ..) | apply Keeps.comp (State.moorRow_keeps (hf := ?_) ..)
    | (intro _; beta_reduce)

theorem execImgAbort_keeps (sess : BitVec 32) (req : BitVec 16) (args : List Byte) (s : State) : OutKeeps s (execImgAbort sess req args s) := by
  unfold execImgAbort
  first | refine OutKeeps.onCore ?_ | refine OutKeeps.next ?_
  try beta_reduce
  with_reducible repeat' first
    | exact Keeps.refl _ | apply Keeps.comp (State.doImgAbort_keeps ..) | apply Keeps.comp (State.moorRow_keeps (hf := ?_) ..)
    | (intro _; beta_reduce)

theorem execColdLoad_keeps (sess : BitVec 32) (req : BitVec 16) (args : List Byte) (s : State) : OutKeeps s (execColdLoad sess req args s) := by
  unfold execColdLoad
  first | refine OutKeeps.onCore ?_ | refine OutKeeps.next ?_
  try beta_reduce
  with_reducible repeat' first
    | exact Keeps.refl _ | apply Keeps.comp (State.doColdLoad_keeps ..) | apply Keeps.comp (State.moorRow_keeps (hf := ?_) ..)
    | (intro _; beta_reduce)

theorem execXchgStage_keeps (sess : BitVec 32) (req : BitVec 16) (args : List Byte) (s : State) : OutKeeps s (execXchgStage sess req args s) := by
  unfold execXchgStage
  first | refine OutKeeps.onCore ?_ | refine OutKeeps.next ?_
  try beta_reduce
  with_reducible repeat' first
    | exact Keeps.refl _ | apply Keeps.comp (State.doXchgStage_keeps ..) | apply Keeps.comp (State.moorRow_keeps (hf := ?_) ..)
    | (intro _; beta_reduce)

theorem execXchgArm_keeps (sess : BitVec 32) (req : BitVec 16) (args : List Byte) (s : State) : OutKeeps s (execXchgArm sess req args s) := by
  unfold execXchgArm
  first | refine OutKeeps.onCore ?_ | refine OutKeeps.next ?_
  try beta_reduce
  with_reducible repeat' first
    | exact Keeps.refl _ | apply Keeps.comp (State.doXchgArm_keeps ..) | apply Keeps.comp (State.moorRow_keeps (hf := ?_) ..)
    | (intro _; beta_reduce)

theorem execXchgDisarm_keeps (sess : BitVec 32) (req : BitVec 16) (args : List Byte) (s : State) : OutKeeps s (execXchgDisarm sess req args s) := by
  unfold execXchgDisarm
  first | refine OutKeeps.onCore ?_ | refine OutKeeps.next ?_
  try beta_reduce
  with_reducible repeat' first
    | exact Keeps.refl _ | apply Keeps.comp (State.doXchgDisarm_keeps ..) | apply Keeps.comp (State.moorRow_keeps (hf := ?_) ..)
    | (intro _; beta_reduce)

theorem execXchgDiscard_keeps (sess : BitVec 32) (req : BitVec 16) (args : List Byte) (s : State) : OutKeeps s (execXchgDiscard sess req args s) := by
  unfold execXchgDiscard
  first | refine OutKeeps.onCore ?_ | refine OutKeeps.next ?_
  try beta_reduce
  with_reducible repeat' first
    | exact Keeps.refl _ | apply Keeps.comp (State.doXchgDiscard_keeps ..) | apply Keeps.comp (State.moorRow_keeps (hf := ?_) ..)
    | (intro _; beta_reduce)

theorem execXchgStatus_keeps (sess : BitVec 32) (req : BitVec 16) (args : List Byte) (s : State) : OutKeeps s (execXchgStatus sess req args s) := by
  unfold execXchgStatus
  first | refine OutKeeps.onCore ?_ | refine OutKeeps.next ?_
  try beta_reduce
  with_reducible repeat' first
    | exact Keeps.refl _ | apply Keeps.comp (State.doXchgStatus_keeps ..) | apply Keeps.comp (State.moorRow_keeps (hf := ?_) ..)
    | (intro _; beta_reduce)

theorem execXchgSafetyAuth_keeps (sess : BitVec 32) (req : BitVec 16) (args : List Byte) (s : State) : OutKeeps s (execXchgSafetyAuth sess req args s) := by
  unfold execXchgSafetyAuth
  first | refine OutKeeps.onCore ?_ | refine OutKeeps.next ?_
  try beta_reduce
  with_reducible repeat' first
    | exact Keeps.refl _ | apply Keeps.comp (State.doXchgSafetyAuth_keeps ..) | apply Keeps.comp (State.moorRow_keeps (hf := ?_) ..)
    | (intro _; beta_reduce)

theorem execMultiChange_keeps (sess : BitVec 32) (req : BitVec 16) (args : List Byte) (s : State) : OutKeeps s (execMultiChange sess req args s) := by
  unfold execMultiChange
  first | refine OutKeeps.onCore ?_ | refine OutKeeps.next ?_
  try beta_reduce
  with_reducible repeat' first
    | exact Keeps.refl _ | apply Keeps.comp (State.doMultiChange_keeps ..) | apply Keeps.comp (State.moorRow_keeps (hf := ?_) ..)
    | (intro _; beta_reduce)

theorem execForceSet_keeps (sess : BitVec 32) (req : BitVec 16) (args : List Byte) (s : State) : OutKeeps s (execForceSet sess req args s) := by
  unfold execForceSet
  first | refine OutKeeps.onCore ?_ | refine OutKeeps.next ?_
  try beta_reduce
  with_reducible repeat' first
    | exact Keeps.refl _ | apply Keeps.comp (State.doForceSet_keeps ..) | apply Keeps.comp (State.moorRow_keeps (hf := ?_) ..)
    | (intro _; beta_reduce)

theorem execForceClear_keeps (sess : BitVec 32) (req : BitVec 16) (args : List Byte) (s : State) : OutKeeps s (execForceClear sess req args s) := by
  unfold execForceClear
  first | refine OutKeeps.onCore ?_ | refine OutKeeps.next ?_
  try beta_reduce
  with_reducible repeat' first
    | exact Keeps.refl _ | apply Keeps.comp (State.doForceClear_keeps ..) | apply Keeps.comp (State.moorRow_keeps (hf := ?_) ..)
    | (intro _; beta_reduce)

theorem execForceList_keeps (sess : BitVec 32) (req : BitVec 16) (args : List Byte) (s : State) : OutKeeps s (execForceList sess req args s) := by
  unfold execForceList
  first | refine OutKeeps.onCore ?_ | refine OutKeeps.next ?_
  try beta_reduce
  with_reducible repeat' first
    | exact Keeps.refl _ | apply Keeps.comp (State.doForceList_keeps ..) | apply Keeps.comp (State.moorRow_keeps (hf := ?_) ..)
    | (intro _; beta_reduce)

theorem execPartStatus_keeps (sess : BitVec 32) (req : BitVec 16) (args : List Byte) (s : State) : OutKeeps s (execPartStatus sess req args s) := by
  unfold execPartStatus
  first | refine OutKeeps.onCore ?_ | refine OutKeeps.next ?_
  try beta_reduce
  with_reducible repeat' first
    | exact Keeps.refl _ | apply Keeps.comp (State.doPartStatus_keeps ..) | apply Keeps.comp (State.moorRow_keeps (hf := ?_) ..)
    | (intro _; beta_reduce)

theorem execTileRead_keeps (sess : BitVec 32) (req : BitVec 16) (args : List Byte) (s : State) : OutKeeps s (execTileRead sess req args s) := by
  unfold execTileRead
  first | refine OutKeeps.onCore ?_ | refine OutKeeps.next ?_
  try beta_reduce
  with_reducible repeat' first
    | exact Keeps.refl _ | apply Keeps.comp (State.doTileRead_keeps ..) | apply Keeps.comp (State.moorRow_keeps (hf := ?_) ..)
    | (intro _; beta_reduce)

theorem execRstore_keeps (sess : BitVec 32) (req : BitVec 16) (args : List Byte) (s : State) : OutKeeps s (execRstore sess req args s) := by
  unfold execRstore
  first | refine OutKeeps.onCore ?_ | refine OutKeeps.next ?_
  try beta_reduce
  with_reducible repeat' first
    | exact Keeps.refl _ | apply Keeps.comp (State.doRstore_keeps ..) | apply Keeps.comp (State.moorRow_keeps (hf := ?_) ..)
    | (intro _; beta_reduce)

theorem execErrRead_keeps (sess : BitVec 32) (req : BitVec 16) (args : List Byte) (s : State) : OutKeeps s (execErrRead sess req args s) := by
  unfold execErrRead
  first | refine OutKeeps.onCore ?_ | refine OutKeeps.next ?_
  try beta_reduce
  with_reducible repeat' first
    | exact Keeps.refl _ | apply Keeps.comp (State.doErrRead_keeps ..) | apply Keeps.comp (State.moorRow_keeps (hf := ?_) ..)
    | (intro _; beta_reduce)

theorem execErrClear_keeps (sess : BitVec 32) (req : BitVec 16) (args : List Byte) (s : State) : OutKeeps s (execErrClear sess req args s) := by
  unfold execErrClear
  first | refine OutKeeps.onCore ?_ | refine OutKeeps.next ?_
  try beta_reduce
  with_reducible repeat' first
    | exact Keeps.refl _ | apply Keeps.comp (State.doErrClear_keeps ..) | apply Keeps.comp (State.moorRow_keeps (hf := ?_) ..)
    | (intro _; beta_reduce)

theorem execErrCfg_keeps (sess : BitVec 32) (req : BitVec 16) (args : List Byte) (s : State) : OutKeeps s (execErrCfg sess req args s) := by
  unfold execErrCfg
  first | refine OutKeeps.onCore ?_ | refine OutKeeps.next ?_
  try beta_reduce
  with_reducible repeat' first
    | exact Keeps.refl _ | apply Keeps.comp (State.doErrCfg_keeps ..) | apply Keeps.comp (State.moorRow_keeps (hf := ?_) ..)
    | (intro _; beta_reduce)

theorem execLogRead_keeps (sess : BitVec 32) (req : BitVec 16) (args : List Byte) (s : State) : OutKeeps s (execLogRead sess req args s) := by
  unfold execLogRead
  first | refine OutKeeps.onCore ?_ | refine OutKeeps.next ?_
  try beta_reduce
  with_reducible repeat' first
    | exact Keeps.refl _ | apply Keeps.comp (State.doLogRead_keeps ..) | apply Keeps.comp (State.moorRow_keeps (hf := ?_) ..)
    | (intro _; beta_reduce)

theorem execLogFree_keeps (sess : BitVec 32) (req : BitVec 16) (args : List Byte) (s : State) : OutKeeps s (execLogFree sess req args s) := by
  unfold execLogFree
  first | refine OutKeeps.onCore ?_ | refine OutKeeps.next ?_
  try beta_reduce
  with_reducible repeat' first
    | exact Keeps.refl _ | apply Keeps.comp (State.doLogFree_keeps ..) | apply Keeps.comp (State.moorRow_keeps (hf := ?_) ..)
    | (intro _; beta_reduce)

theorem execTimeRestep_keeps (sess : BitVec 32) (req : BitVec 16) (args : List Byte) (s : State) : OutKeeps s (execTimeRestep sess req args s) := by
  unfold execTimeRestep
  first | refine OutKeeps.onCore ?_ | refine OutKeeps.next ?_
  try beta_reduce
  with_reducible repeat' first
    | exact Keeps.refl _ | apply Keeps.comp (State.doTimeRestep_keeps ..) | apply Keeps.comp (State.moorRow_keeps (hf := ?_) ..)
    | (intro _; beta_reduce)

theorem execLampSelftest_keeps (sess : BitVec 32) (req : BitVec 16) (args : List Byte) (s : State) : OutKeeps s (execLampSelftest sess req args s) := by
  unfold execLampSelftest
  first | refine OutKeeps.onCore ?_ | refine OutKeeps.next ?_
  try beta_reduce
  with_reducible repeat' first
    | exact Keeps.refl _ | apply Keeps.comp (State.doLampSelftest_keeps ..) | apply Keeps.comp (State.moorRow_keeps (hf := ?_) ..)
    | (intro _; beta_reduce)

theorem execMoorExtract_keeps (sess : BitVec 32) (req : BitVec 16) (args : List Byte) (s : State) : OutKeeps s (execMoorExtract sess req args s) := by
  unfold execMoorExtract
  first | refine OutKeeps.onCore ?_ | refine OutKeeps.next ?_
  try beta_reduce
  with_reducible repeat' first
    | exact Keeps.refl _ | apply Keeps.comp (State.doExtract_keeps ..) | apply Keeps.comp (State.moorRow_keeps (hf := ?_) ..)
    | (intro _; beta_reduce)

theorem execFreezeConsent_keeps (sess : BitVec 32) (req : BitVec 16) (args : List Byte) (s : State) : OutKeeps s (execFreezeConsent sess req args s) := by
  unfold execFreezeConsent
  first | refine OutKeeps.onCore ?_ | refine OutKeeps.next ?_
  try beta_reduce
  with_reducible repeat' first
    | exact Keeps.refl _ | apply Keeps.comp (State.doFreezeConsent_keeps ..) | apply Keeps.comp (State.moorRow_keeps (hf := ?_) ..)
    | (intro _; beta_reduce)

theorem execReadoutConsent_keeps (sess : BitVec 32) (req : BitVec 16) (args : List Byte) (s : State) : OutKeeps s (execReadoutConsent sess req args s) := by
  unfold execReadoutConsent
  first | refine OutKeeps.onCore ?_ | refine OutKeeps.next ?_
  try beta_reduce
  with_reducible repeat' first
    | exact Keeps.refl _ | apply Keeps.comp (State.doReadoutConsent_keeps ..) | apply Keeps.comp (State.moorRow_keeps (hf := ?_) ..)
    | (intro _; beta_reduce)

theorem execKeyStage_keeps (sess : BitVec 32) (req : BitVec 16) (args : List Byte) (s : State) : OutKeeps s (execKeyStage sess req args s) := by
  unfold execKeyStage
  first | refine OutKeeps.onCore ?_ | refine OutKeeps.next ?_
  try beta_reduce
  with_reducible repeat' first
    | exact Keeps.refl _ | apply Keeps.comp (State.doKeyStage_keeps ..) | apply Keeps.comp (State.moorRow_keeps (hf := ?_) ..)
    | (intro _; beta_reduce)

theorem execKeyVerify_keeps (sess : BitVec 32) (req : BitVec 16) (args : List Byte) (s : State) : OutKeeps s (execKeyVerify sess req args s) := by
  unfold execKeyVerify
  first | refine OutKeeps.onCore ?_ | refine OutKeeps.next ?_
  try beta_reduce
  with_reducible repeat' first
    | exact Keeps.refl _ | apply Keeps.comp (State.doKeyVerify_keeps ..) | apply Keeps.comp (State.moorRow_keeps (hf := ?_) ..)
    | (intro _; beta_reduce)

theorem execKeyCommit_keeps (sess : BitVec 32) (req : BitVec 16) (args : List Byte) (s : State) : OutKeeps s (execKeyCommit sess req args s) := by
  unfold execKeyCommit
  first | refine OutKeeps.onCore ?_ | refine OutKeeps.next ?_
  try beta_reduce
  with_reducible repeat' first
    | exact Keeps.refl _ | apply Keeps.comp (State.doKeyCommit_keeps ..) | apply Keeps.comp (State.moorRow_keeps (hf := ?_) ..)
    | (intro _; beta_reduce)

theorem execAttest_keeps (sess : BitVec 32) (req : BitVec 16) (args : List Byte) (s : State) : OutKeeps s (execAttest sess req args s) := by
  unfold execAttest
  first | refine OutKeeps.onCore ?_ | refine OutKeeps.next ?_
  try beta_reduce
  with_reducible repeat' first
    | exact Keeps.refl _ | apply Keeps.comp (State.doAttest_keeps ..) | apply Keeps.comp (State.moorRow_keeps (hf := ?_) ..)
    | (intro _; beta_reduce)

theorem execAnchorReplace_keeps (sess : BitVec 32) (req : BitVec 16) (args : List Byte) (s : State) : OutKeeps s (execAnchorReplace sess req args s) := by
  unfold execAnchorReplace
  first | refine OutKeeps.onCore ?_ | refine OutKeeps.next ?_
  try beta_reduce
  with_reducible repeat' first
    | exact Keeps.refl _ | apply Keeps.comp (State.doAnchorReplace_keeps ..) | apply Keeps.comp (State.moorRow_keeps (hf := ?_) ..)
    | (intro _; beta_reduce)

theorem execOpenTenancy_keeps (sess : BitVec 32) (req : BitVec 16) (args : List Byte) (s : State) : OutKeeps s (execOpenTenancy sess req args s) := by
  unfold execOpenTenancy
  first | refine OutKeeps.onCore ?_ | refine OutKeeps.next ?_
  try beta_reduce
  with_reducible repeat' first
    | exact Keeps.refl _ | apply Keeps.comp (State.doOpenTenancy_keeps ..) | apply Keeps.comp (State.moorRow_keeps (hf := ?_) ..)
    | (intro _; beta_reduce)

theorem execTenantClaim_keeps (sess : BitVec 32) (req : BitVec 16) (args : List Byte) (s : State) : OutKeeps s (execTenantClaim sess req args s) := by
  unfold execTenantClaim
  first | refine OutKeeps.onCore ?_ | refine OutKeeps.next ?_
  try beta_reduce
  with_reducible repeat' first
    | exact Keeps.refl _ | apply Keeps.comp (State.doTenantClaim_keeps ..) | apply Keeps.comp (State.moorRow_keeps (hf := ?_) ..)
    | (intro _; beta_reduce)

theorem execClaimOwner_keeps (sess : BitVec 32) (req : BitVec 16) (args : List Byte) (s : State) : OutKeeps s (execClaimOwner sess req args s) := by
  unfold execClaimOwner
  first | refine OutKeeps.onCore ?_ | refine OutKeeps.next ?_
  try beta_reduce
  with_reducible repeat' first
    | exact Keeps.refl _ | apply Keeps.comp (State.doClaimOwner_keeps ..) | apply Keeps.comp (State.moorRow_keeps (hf := ?_) ..)
    | (intro _; beta_reduce)

theorem execLcField_keeps (sess : BitVec 32) (req : BitVec 16) (args : List Byte) (s : State) : OutKeeps s (execLcField sess req args s) := by
  unfold execLcField
  first | refine OutKeeps.onCore ?_ | refine OutKeeps.next ?_
  try beta_reduce
  with_reducible repeat' first
    | exact Keeps.refl _ | apply Keeps.comp (State.doLcField_keeps ..) | apply Keeps.comp (State.moorRow_keeps (hf := ?_) ..)
    | (intro _; beta_reduce)

theorem execLcReturn_keeps (sess : BitVec 32) (req : BitVec 16) (args : List Byte) (s : State) : OutKeeps s (execLcReturn sess req args s) := by
  unfold execLcReturn
  first | refine OutKeeps.onCore ?_ | refine OutKeeps.next ?_
  try beta_reduce
  with_reducible repeat' first
    | exact Keeps.refl _ | apply Keeps.comp (State.doLcReturn_keeps ..) | apply Keeps.comp (State.moorRow_keeps (hf := ?_) ..)
    | (intro _; beta_reduce)

theorem execLcDecommission_keeps (sess : BitVec 32) (req : BitVec 16) (args : List Byte) (s : State) : OutKeeps s (execLcDecommission sess req args s) := by
  unfold execLcDecommission
  first | refine OutKeeps.onCore ?_ | refine OutKeeps.next ?_
  try beta_reduce
  with_reducible repeat' first
    | exact Keeps.refl _ | apply Keeps.comp (State.doLcDecommission_keeps ..) | apply Keeps.comp (State.moorRow_keeps (hf := ?_) ..)
    | (intro _; beta_reduce)

theorem execSafeUnlock_keeps (sess : BitVec 32) (req : BitVec 16) (args : List Byte) (s : State) : OutKeeps s (execSafeUnlock sess req args s) := by
  unfold execSafeUnlock
  first | refine OutKeeps.onCore ?_ | refine OutKeeps.next ?_
  try beta_reduce
  with_reducible repeat' first
    | exact Keeps.refl _ | apply Keeps.comp (State.doSafeUnlock_keeps ..) | apply Keeps.comp (State.moorRow_keeps (hf := ?_) ..)
    | (intro _; beta_reduce)

theorem execSafePassword_keeps (sess : BitVec 32) (req : BitVec 16) (args : List Byte) (s : State) : OutKeeps s (execSafePassword sess req args s) := by
  unfold execSafePassword
  first | refine OutKeeps.onCore ?_ | refine OutKeeps.next ?_
  try beta_reduce
  with_reducible repeat' first
    | exact Keeps.refl _ | apply Keeps.comp (State.doSafePassword_keeps ..) | apply Keeps.comp (State.moorRow_keeps (hf := ?_) ..)
    | (intro _; beta_reduce)

theorem execSafeLogRead_keeps (sess : BitVec 32) (req : BitVec 16) (args : List Byte) (s : State) : OutKeeps s (execSafeLogRead sess req args s) := by
  unfold execSafeLogRead
  first | refine OutKeeps.onCore ?_ | refine OutKeeps.next ?_
  try beta_reduce
  with_reducible repeat' first
    | exact Keeps.refl _ | apply Keeps.comp (State.doSafeLogRead_keeps ..) | apply Keeps.comp (State.moorRow_keeps (hf := ?_) ..)
    | (intro _; beta_reduce)

end Sys2Proof.Machine
end

