-- ==== Sys2Proof/Laws/KeepsTick.lean ====
section
/-!
SUPPORT. Every operation of the landing and the launch leaves the queue as it is and keeps the canonical form of the stores.
-/
namespace Sys2Proof.Machine

theorem State.swapNow_keeps (s : State) : Keeps s (State.swapNow s) := by
  unfold State.swapNow
  with_reducible repeat' first
    | assumption | exact Keeps.refl _
    | (extract_lets +onlyGivenNames x; refine Keeps.cut (x := x) ?_ ?_; rotate_left; intro hx; clear_value x; rotate_right; subst x)
    | (extract_lets +onlyGivenNames x; clear_value x) | refine Keeps.ite ?_ ?_ | simp -zeta only [Keeps.upd_iff]
    | apply Keeps.comp (State.swapActivate_keeps ..) | apply Keeps.comp (State.canMapsStale_keeps ..)
    | apply Keeps.comp (State.safeLog_keeps ..) | apply Keeps.comp (State.changeDone_keeps ..) | apply Keeps.comp (State.bindAll_keeps ..)
    | refine Keeps.foldl ?_ ?_ | (intro _; beta_reduce)

theorem execSwapActivate_keeps (s : State) : OutKeeps s (execSwapActivate s) := by
  unfold execSwapActivate
  first | refine OutKeeps.onCore ?_ | refine OutKeeps.next ?_
  try beta_reduce
  with_reducible repeat' first
    | exact Keeps.refl _ | (extract_lets +onlyGivenNames x; clear_value x) | refine Keeps.ite ?_ ?_
    | apply Keeps.comp (State.swapNow_keeps ..)

theorem State.tickLen_keeps (s : State) (n : Nat) (stretched : Bool) : Keeps s (State.tickLen s n stretched) := by
  unfold State.tickLen
  with_reducible repeat' first
    | assumption | exact Keeps.refl _
    | (extract_lets +onlyGivenNames x; refine Keeps.cut (x := x) ?_ ?_; rotate_left; intro hx; clear_value x; rotate_right; subst x)
    | (extract_lets +onlyGivenNames x; clear_value x) | refine Keeps.ite ?_ ?_ | simp -zeta only [Keeps.upd_iff]
    | apply Keeps.comp (State.setFld_keeps ..)

theorem State.tickBegin_keeps (s : State) : Keeps s (State.tickBegin s) := by
  unfold State.tickBegin
  with_reducible repeat' first
    | assumption | exact Keeps.refl _
    | (extract_lets +onlyGivenNames x; refine Keeps.cut (x := x) ?_ ?_; rotate_left; intro hx; clear_value x; rotate_right; subst x)
    | (extract_lets +onlyGivenNames x; clear_value x) | refine Keeps.ite ?_ ?_ | simp -zeta only [Keeps.upd_iff]
    | apply Keeps.comp (State.draw_keeps ..) | apply Keeps.comp (State.setPhase_keeps ..) | apply Keeps.comp (State.tickLen_keeps ..)

theorem State.evSnapshot_keeps (s : State) : Keeps s (State.evSnapshot s) := by
  unfold State.evSnapshot
  with_reducible repeat' first
    | assumption | exact Keeps.refl _
    | (extract_lets +onlyGivenNames x; refine Keeps.cut (x := x) ?_ ?_; rotate_left; intro hx; clear_value x; rotate_right; subst x)
    | (extract_lets +onlyGivenNames x; clear_value x) | refine Keeps.ite ?_ ?_ | apply Keeps.comp (State.setFld_keeps ..)
    | apply Keeps.comp (State.modPart_keeps ..) | refine Keeps.foldl ?_ ?_ | (intro _; beta_reduce)

theorem State.landPower_keeps (s : State) (i : LandIn) : Keeps s (State.landPower s i) := by
  unfold State.landPower
  with_reducible repeat' first
    | assumption | exact Keeps.refl _
    | (extract_lets +onlyGivenNames x; refine Keeps.cut (x := x) ?_ ?_; rotate_left; intro hx; clear_value x; rotate_right; subst x)
    | refine Keeps.ite ?_ ?_ | apply Keeps.comp (State.setReg_keeps ..) | apply Keeps.comp (State.setFld_keeps ..)
    | apply Keeps.comp (State.manage_keeps ..) | apply Keeps.comp (State.setExState_keeps ..) | apply Keeps.comp (State.setPf_keeps ..)
    | apply Keeps.comp (State.exTicks_keeps ..) | refine Keeps.foldl ?_ ?_ | (intro _; beta_reduce)

theorem State.distImage_keeps (s : State) (p loc : Nat) (h : ImgHdr) : Keeps s (State.distImage s p loc h) := by
  unfold State.distImage
  with_reducible repeat' first
    | exact Keeps.refl _ | (extract_lets +onlyGivenNames x; clear_value x) | apply Keeps.comp (State.storeTile_keeps ..)

theorem State.distribute_keeps (s : State) : Keeps s (State.distribute s) := by
  unfold State.distribute
  with_reducible repeat' first
    | assumption | exact Keeps.refl _
    | (extract_lets +onlyGivenNames x; refine Keeps.cut (x := x) ?_ ?_; rotate_left; intro hx; clear_value x; rotate_right; subst x)
    | refine Keeps.ite ?_ ?_ | apply Keeps.comp (State.modPart_keeps ..) | apply Keeps.comp (State.distImage_keeps ..)
    | refine Keeps.foldl ?_ ?_ | (intro _; beta_reduce)

theorem State.putInbox_keeps (s : State) (loc sender : Nat) (rest : List Byte) : Keeps s (State.putInbox s loc sender rest) := by
  unfold State.putInbox
  with_reducible repeat' first
    | exact Keeps.refl _ | (extract_lets +onlyGivenNames x; clear_value x) | apply Keeps.comp (State.storeTile_keeps ..)

theorem State.activateInbox_keeps (s : State) (loc : Nat) : Keeps s (State.activateInbox s loc) := by
  unfold State.activateInbox
  with_reducible repeat' first
    | exact Keeps.refl _ | (extract_lets +onlyGivenNames x; clear_value x) | apply Keeps.comp (State.setFlag_keeps ..)
    | apply Keeps.comp (State.fire_keeps ..)

theorem State.ferryOne_keeps (s : State) (p loc : Nat) : Keeps s (State.ferryOne s p loc) := by
  unfold State.ferryOne
  with_reducible repeat' first
    | assumption | exact Keeps.refl _
    | (extract_lets +onlyGivenNames x; refine Keeps.cut (x := x) ?_ ?_; rotate_left; intro hx; clear_value x; rotate_right; subst x)
    | (extract_lets +onlyGivenNames x; clear_value x) | refine Keeps.ite ?_ ?_ | split | apply Keeps.comp (State.startRepair_keeps ..)
    | apply Keeps.comp (State.putInbox_keeps ..) | apply Keeps.comp (State.activateInbox_keeps ..)

theorem State.ferryMsg_keeps (s : State) (loc sender : Nat) (msg : List Byte) : Keeps s (State.ferryMsg s loc sender msg) := by
  unfold State.ferryMsg
  with_reducible repeat' first
    | exact Keeps.refl _ | refine Keeps.ite ?_ ?_ | apply Keeps.comp (State.putInbox_keeps ..)
    | apply Keeps.comp (State.activateInbox_keeps ..)

theorem State.errDeliver_keeps (s : State) (p n : Nat) : Keeps s (State.errDeliver s p n) := by
  unfold State.errDeliver
  with_reducible repeat' first
    | assumption | exact Keeps.refl _
    | (extract_lets +onlyGivenNames x; refine Keeps.cut (x := x) ?_ ?_; rotate_left; intro hx; clear_value x; rotate_right; subst x)
    | (extract_lets +onlyGivenNames x; refine Keeps.cutF1 (f := x) ?_ ?_; rotate_left; intro hf1; clear_value x; rotate_right; subst x)
    | (extract_lets +onlyGivenNames x; clear_value x) | refine Keeps.ite ?_ ?_ | simp -zeta only [Keeps.upd_iff]
    | apply Keeps.comp (State.modPart_keeps ..) | apply Keeps.comp (State.eventQ_keeps ..) | apply Keeps.comp (State.ferryMsg_keeps ..)
    | apply Keeps.comp (hf1 ..) | (intro _; beta_reduce)

theorem State.ferry_keeps (s : State) (held : List (Nat × Nat)) : Keeps s (State.ferry s held) := by
  unfold State.ferry
  with_reducible repeat' first
    | assumption | exact Keeps.refl _
    | (extract_lets +onlyGivenNames x; refine Keeps.cut (x := x) ?_ ?_; rotate_left; intro hx; clear_value x; rotate_right; subst x)
    | (extract_lets +onlyGivenNames x; clear_value x) | apply Keeps.comp (State.modPart_keeps ..)
    | apply Keeps.comp (State.setVault_keeps ..) | apply Keeps.comp (State.ferryOne_keeps ..) | apply Keeps.comp (State.ferryMsg_keeps ..)
    | apply Keeps.comp (State.errDeliver_keeps ..) | refine Keeps.foldl ?_ ?_ | (intro _; beta_reduce)

theorem State.bootStart_keeps (s : State) (p : Nat) : Keeps s (State.bootStart s p) := by
  unfold State.bootStart
  with_reducible repeat' first
    | exact Keeps.refl _ | refine Keeps.ite ?_ ?_ | apply Keeps.comp (State.toStarting_keeps ..)

theorem State.starts_keeps (s : State) : Keeps s (State.starts s) := by
  unfold State.starts
  with_reducible repeat' first
    | assumption | exact Keeps.refl _
    | (extract_lets +onlyGivenNames x; refine Keeps.cut (x := x) ?_ ?_; rotate_left; intro hx; clear_value x; rotate_right; subst x)
    | (extract_lets +onlyGivenNames x; clear_value x) | refine Keeps.ite ?_ ?_ | apply Keeps.comp (State.setBoot_keeps ..)
    | apply Keeps.comp (State.setPhase_keeps ..) | apply Keeps.comp (State.bootStart_keeps ..) | refine Keeps.foldl ?_ ?_
    | (intro _; beta_reduce)

theorem State.zeroRecords_keeps (s : State) (p : Nat) : Keeps s (State.zeroRecords s p) := by
  unfold State.zeroRecords
  with_reducible repeat' first
    | exact Keeps.refl _ | (extract_lets +onlyGivenNames x; clear_value x) | simp -zeta only [Keeps.upd_iff]

theorem State.tenantSessions_keeps (s : State) (p : Nat) : Keeps s (State.tenantSessions s p) := by
  unfold State.tenantSessions
  with_reducible repeat' first
    | exact Keeps.refl _ | apply Keeps.comp (State.endSession_keeps ..) | refine Keeps.foldl ?_ ?_ | (intro _; beta_reduce)

theorem State.unbindAll_keeps (s : State) (p : Nat) : Keeps s (State.unbindAll s p) := by
  unfold State.unbindAll
  with_reducible repeat' first
    | assumption | exact Keeps.refl _
    | (extract_lets +onlyGivenNames x; refine Keeps.cut (x := x) ?_ ?_; rotate_left; intro hx; clear_value x; rotate_right; subst x)
    | (extract_lets +onlyGivenNames x; clear_value x) | simp -zeta only [Keeps.upd_iff] | apply Keeps.comp (State.bindLoops_keeps ..)
    | apply Keeps.comp (State.bindTrips_keeps ..)

theorem State.zeroPart_keeps (s : State) (p : Nat) : Keeps s (State.zeroPart s p) := by
  unfold State.zeroPart
  with_reducible repeat' first
    | assumption | exact Keeps.refl _
    | (extract_lets +onlyGivenNames x; refine Keeps.cut (x := x) ?_ ?_; rotate_left; intro hx; clear_value x; rotate_right; subst x)
    | (extract_lets +onlyGivenNames x; clear_value x) | simp -zeta only [Keeps.upd_iff] | apply Keeps.comp (State.setReg_keeps ..)
    | apply Keeps.comp (State.setFld_keeps ..) | apply Keeps.comp (State.setPart_keeps ..) | apply Keeps.comp (State.setSteps_keeps ..)
    | apply Keeps.comp (State.setPage_keeps ..) | apply Keeps.comp (State.vaultEnd_keeps ..) | apply Keeps.comp (State.assignEnd_keeps ..)
    | apply Keeps.comp (State.keepEnd_keeps ..) | apply Keeps.comp (State.setBoot_keeps ..)
    | apply Keeps.comp (State.zeroRecords_keeps ..) | apply Keeps.comp (State.tenantSessions_keeps ..)
    | apply Keeps.comp (State.unbindAll_keeps ..) | refine Keeps.foldl ?_ ?_ | (intro _; beta_reduce)

theorem State.zeroLand_keeps (s : State) : Keeps s (State.zeroLand s) := by
  unfold State.zeroLand
  with_reducible repeat' first
    | exact Keeps.refl _ | apply Keeps.comp (State.setBoot_keeps ..) | apply Keeps.comp (State.zeroPart_keeps ..)
    | refine Keeps.foldl ?_ ?_ | (intro _; beta_reduce)

theorem execZeroisationDone_keeps (part : Fin 128) (s : State) : OutKeeps s (execZeroisationDone part s) := by
  unfold execZeroisationDone
  first | refine OutKeeps.onCore ?_ | refine OutKeeps.next ?_
  try beta_reduce
  with_reducible repeat' first
    | exact Keeps.refl _ | (extract_lets +onlyGivenNames x; clear_value x) | refine Keeps.ite ?_ ?_
    | apply Keeps.comp (State.setPstate_keeps ..)

theorem State.storeLamps_keeps (s : State) : Keeps s (State.storeLamps s) := by
  unfold State.storeLamps
  with_reducible repeat' first
    | exact Keeps.refl _ | (extract_lets +onlyGivenNames x; clear_value x) | refine Keeps.ite ?_ ?_ | simp -zeta only [Keeps.upd_iff]

theorem State.consentLand_keeps (s : State) : Keeps s (State.consentLand s) := by
  unfold State.consentLand
  with_reducible repeat' first
    | assumption | exact Keeps.refl _
    | (extract_lets +onlyGivenNames x; refine Keeps.cut (x := x) ?_ ?_; rotate_left; intro hx; clear_value x; rotate_right; subst x)
    | (extract_lets +onlyGivenNames x; clear_value x) | refine Keeps.ite ?_ ?_ | simp -zeta only [Keeps.upd_iff]
    | apply Keeps.comp (State.setFlag_keeps ..)

theorem State.landSnapshot_keeps (s : State) (i : LandIn) : Keeps s (State.landSnapshot s i) := by
  unfold State.landSnapshot
  with_reducible repeat' first
    | assumption | exact Keeps.refl _
    | (extract_lets +onlyGivenNames x; refine Keeps.cut (x := x) ?_ ?_; rotate_left; intro hx; clear_value x; rotate_right; subst x)
    | refine Keeps.ite ?_ ?_ | simp -zeta only [Keeps.upd_iff] | apply Keeps.comp (State.swLanding_keeps ..)
    | apply Keeps.comp (State.svSnapshot_keeps ..) | apply Keeps.comp (State.tripLanding_keeps ..)
    | apply Keeps.comp (State.safeEdge_keeps ..) | apply Keeps.comp (State.swapNow_keeps ..) | apply Keeps.comp (State.tickBegin_keeps ..)
    | apply Keeps.comp (State.evSnapshot_keeps ..) | apply Keeps.comp (State.landPower_keeps ..)

theorem State.landLinks_keeps (s : State) (i : LandIn) : Keeps s (State.landLinks s i) := by
  unfold State.landLinks
  with_reducible repeat' first
    | assumption | exact Keeps.refl _
    | (extract_lets +onlyGivenNames x; refine Keeps.cut (x := x) ?_ ?_; rotate_left; intro hx; clear_value x; rotate_right; subst x)
    | apply Keeps.comp (State.beaconLand_keeps ..) | apply Keeps.comp (State.linkDelays_keeps ..)
    | apply Keeps.comp (State.exchangeLand_keeps ..) | apply Keeps.comp (State.forcesLand_keeps ..)
    | apply Keeps.comp (State.joinLand_keeps ..) | apply Keeps.comp (State.twinLand_keeps ..)
    | apply Keeps.comp (State.decisionsLand_keeps ..) | apply Keeps.comp (State.witnessLand_keeps ..)
    | apply Keeps.comp (State.metLand_keeps ..)

theorem State.landDistribute_keeps (s : State) : Keeps s (State.landDistribute s) := by
  unfold State.landDistribute
  with_reducible repeat' first
    | assumption | exact Keeps.refl _
    | (extract_lets +onlyGivenNames x; refine Keeps.cut (x := x) ?_ ?_; rotate_left; intro hx; clear_value x; rotate_right; subst x)
    | apply Keeps.comp (State.landLoop_keeps ..) | apply Keeps.comp (State.writeLoops_keeps ..)
    | apply Keeps.comp (State.canSnap_keeps ..) | apply Keeps.comp (State.canLanding_keeps ..)
    | apply Keeps.comp (State.distribute_keeps ..) | refine Keeps.foldl ?_ ?_ | (intro _; beta_reduce)

theorem State.landRelease_keeps (s : State) : Keeps s (State.landRelease s) := by
  unfold State.landRelease
  with_reducible repeat' first
    | assumption | exact Keeps.refl _
    | (extract_lets +onlyGivenNames x; refine Keeps.cut (x := x) ?_ ?_; rotate_left; intro hx; clear_value x; rotate_right; subst x)
    | apply Keeps.comp (State.svReleaseAll_keeps ..) | apply Keeps.comp (State.holdSec_keeps ..)
    | apply Keeps.comp (State.beaconSend_keeps ..) | apply Keeps.comp (State.keepKeys_keeps ..)
    | apply Keeps.comp (State.ringsTell_keeps ..) | apply Keeps.comp (State.coldStart_keeps ..)
    | apply Keeps.comp (State.moorLand_keeps ..) | apply Keeps.comp (State.starts_keeps ..) | apply Keeps.comp (State.zeroLand_keeps ..)
    | apply Keeps.comp (State.storeLamps_keeps ..) | apply Keeps.comp (State.consentLand_keeps ..) | refine Keeps.foldl ?_ ?_
    | (intro _; beta_reduce)

theorem State.landing_keeps (s : State) (i : LandIn) : Keeps s (State.landing s i) := by
  unfold State.landing
  with_reducible repeat' first
    | exact Keeps.refl _ | (extract_lets +onlyGivenNames x; clear_value x) | apply Keeps.comp (State.ferry_keeps ..)
    | apply Keeps.comp (State.landSnapshot_keeps ..) | apply Keeps.comp (State.landLinks_keeps ..)
    | apply Keeps.comp (State.landDistribute_keeps ..) | apply Keeps.comp (State.landRelease_keeps ..)

theorem execLanding_keeps (i : LandIn) (s : State) : OutKeeps s (execLanding i s) := by
  unfold execLanding
  first | refine OutKeeps.onCore ?_ | refine OutKeeps.next ?_
  try beta_reduce
  with_reducible repeat' first
    | exact Keeps.refl _ | refine Keeps.ite ?_ ?_ | apply Keeps.comp (State.landing_keeps ..)

theorem State.watchdog_keeps (s : State) (p : Nat) : Keeps s (State.watchdog s p) := by
  unfold State.watchdog
  with_reducible repeat' first
    | assumption | exact Keeps.refl _
    | (extract_lets +onlyGivenNames x; refine Keeps.cut (x := x) ?_ ?_; rotate_left; intro hx; clear_value x; rotate_right; subst x)
    | (extract_lets +onlyGivenNames x; clear_value x) | refine Keeps.ite ?_ ?_ | apply Keeps.comp (State.setFld_keeps ..)
    | apply Keeps.comp (State.log_keeps ..) | apply Keeps.comp (State.askStop_keeps ..)

theorem State.retireAll_keeps (s : State) : Keeps s (State.retireAll s) := by
  unfold State.retireAll
  with_reducible repeat' first
    | exact Keeps.refl _ | (extract_lets +onlyGivenNames x; clear_value x) | simp -zeta only [Keeps.upd_iff]
    | apply Keeps.comp (State.retire_keeps ..) | refine Keeps.foldl ?_ ?_ | (intro _; beta_reduce)

theorem State.releasePart_keeps (s : State) (p : Nat) : Keeps s (State.releasePart s p) := by
  unfold State.releasePart
  with_reducible repeat' first
    | exact Keeps.refl _ | refine Keeps.ite ?_ ?_ | apply Keeps.comp (State.modPart_keeps ..)

theorem State.stopPart_keeps (s : State) (p : Nat) : Keeps s (State.stopPart s p) := by
  unfold State.stopPart
  with_reducible repeat' first
    | assumption | exact Keeps.refl _
    | (extract_lets +onlyGivenNames x; refine Keeps.cut (x := x) ?_ ?_; rotate_left; intro hx; clear_value x; rotate_right; subst x)
    | (extract_lets +onlyGivenNames x; clear_value x) | refine Keeps.ite ?_ ?_ | split | apply Keeps.comp (State.setFld_keeps ..)
    | apply Keeps.comp (State.setPstate_keeps ..) | apply Keeps.comp (State.toStarting_keeps ..)
    | apply Keeps.comp (State.setBoot_keeps ..) | apply Keeps.comp (State.leaveRunning_keeps ..)

theorem State.enterLoopw_keeps (s : State) (p : Nat) : Keeps s (State.enterLoopw s p) := by
  unfold State.enterLoopw
  with_reducible repeat' first
    | exact Keeps.refl _ | (extract_lets +onlyGivenNames x; clear_value x) | apply Keeps.comp (State.modPart_keeps ..)
    | apply Keeps.comp (State.loopwr_keeps ..) | refine Keeps.foldl ?_ ?_ | (intro _; beta_reduce)

theorem State.launchCommit_keeps (s : State) : Keeps s (State.launchCommit s) := by
  unfold State.launchCommit
  with_reducible repeat' first
    | assumption | exact Keeps.refl _
    | (extract_lets +onlyGivenNames x; refine Keeps.cut (x := x) ?_ ?_; rotate_left; intro hx; clear_value x; rotate_right; subst x)
    | (extract_lets +onlyGivenNames x; clear_value x) | apply Keeps.comp (State.commitPart_keeps ..)
    | apply Keeps.comp (State.safeCommit_keeps ..) | apply Keeps.comp (State.watchdog_keeps ..)
    | apply Keeps.comp (State.retireAll_keeps ..) | apply Keeps.comp (State.releasePart_keeps ..)
    | apply Keeps.comp (State.stopPart_keeps ..) | apply Keeps.comp (State.enterLoopw_keeps ..) | refine Keeps.foldl ?_ ?_
    | (intro _; beta_reduce)

theorem State.withhold_keeps (s : State) (p : Nat) : Keeps s (State.withhold s p) := by
  unfold State.withhold
  with_reducible repeat' first
    | exact Keeps.refl _ | apply Keeps.comp (State.modPart_keeps ..) | apply Keeps.comp (State.discardFrames_keeps ..)

theorem State.launchRelease_keeps (s : State) : Keeps s (State.launchRelease s) := by
  unfold State.launchRelease
  with_reducible repeat' first
    | assumption | exact Keeps.refl _
    | (extract_lets +onlyGivenNames x; refine Keeps.cut (x := x) ?_ ?_; rotate_left; intro hx; clear_value x; rotate_right; subst x)
    | (extract_lets +onlyGivenNames x; clear_value x) | refine Keeps.ite ?_ ?_ | apply Keeps.comp (State.releaseFrames_keeps ..)
    | apply Keeps.comp (State.tripLaunch_keeps ..) | apply Keeps.comp (State.canRelease_keeps ..)
    | apply Keeps.comp (State.lstateApply_keeps ..) | apply Keeps.comp (State.keepCaps_keeps ..)
    | apply Keeps.comp (State.commitKeys_keeps ..) | apply Keeps.comp (State.withhold_keeps ..) | refine Keeps.foldl ?_ ?_
    | (intro _; beta_reduce)

theorem State.launchPublish_keeps (s : State) : Keeps s (State.launchPublish s) := by
  unfold State.launchPublish
  with_reducible repeat' first
    | exact Keeps.refl _ | refine Keeps.ite ?_ ?_ | apply Keeps.comp (State.telegrams_keeps ..)
    | apply Keeps.comp (State.publish_keeps ..) | apply Keeps.comp (State.lanyardSend_keeps ..)
    | apply Keeps.comp (State.heartbeat_keeps ..) | apply Keeps.comp (State.decisionsPublish_keeps ..)

theorem State.joinSteps_keeps (s : State) : Keeps s (State.joinSteps s) := by
  unfold State.joinSteps
  with_reducible repeat' first
    | exact Keeps.refl _ | (extract_lets +onlyGivenNames x; clear_value x) | simp -zeta only [Keeps.upd_iff]
    | apply Keeps.comp (State.setSteps_keeps ..) | refine Keeps.foldl ?_ ?_ | (intro _; beta_reduce)

theorem State.service_keeps (s : State) : Keeps s (State.service s) := by
  unfold State.service
  with_reducible repeat' first
    | exact Keeps.refl _ | (extract_lets +onlyGivenNames x; clear_value x) | refine Keeps.ite ?_ ?_
    | apply Keeps.comp (State.setFld_keeps ..) | apply Keeps.comp (State.setPhase_keeps ..)

theorem State.launchEnd_keeps (s : State) : Keeps s (State.launchEnd s) := by
  unfold State.launchEnd
  with_reducible repeat' first
    | assumption | exact Keeps.refl _
    | (extract_lets +onlyGivenNames x; refine Keeps.cut (x := x) ?_ ?_; rotate_left; intro hx; clear_value x; rotate_right; subst x)
    | (extract_lets +onlyGivenNames x; clear_value x) | simp -zeta only [Keeps.upd_iff] | apply Keeps.comp (State.modPart_keeps ..)
    | apply Keeps.comp (State.changeAck_keeps ..) | apply Keeps.comp (State.sealReplies_keeps ..)
    | apply Keeps.comp (State.joinSteps_keeps ..) | apply Keeps.comp (State.service_keeps ..) | refine Keeps.foldl ?_ ?_
    | (intro _; beta_reduce)

theorem State.launchPower_keeps (s : State) : Keeps s (State.launchPower s) := by
  unfold State.launchPower
  with_reducible repeat' first
    | assumption | exact Keeps.refl _
    | (extract_lets +onlyGivenNames x; refine Keeps.cut (x := x) ?_ ?_; rotate_left; intro hx; clear_value x; rotate_right; subst x)
    | refine Keeps.ite ?_ ?_ | apply Keeps.comp (State.exSafing_keeps ..) | apply Keeps.comp (State.pfCommit_keeps ..)

theorem State.launch_keeps (s : State) : Keeps s (State.launch s) := by
  unfold State.launch
  with_reducible repeat' first
    | exact Keeps.refl _ | apply Keeps.comp (State.launchCommit_keeps ..) | apply Keeps.comp (State.launchRelease_keeps ..)
    | apply Keeps.comp (State.launchPublish_keeps ..) | apply Keeps.comp (State.launchEnd_keeps ..)
    | apply Keeps.comp (State.launchPower_keeps ..)

theorem execLaunch_keeps (s : State) : OutKeeps s (execLaunch s) := by
  unfold execLaunch
  first | refine OutKeeps.onCore ?_ | refine OutKeeps.next ?_
  try beta_reduce
  with_reducible repeat' first
    | exact Keeps.refl _ | refine Keeps.ite ?_ ?_ | apply Keeps.comp (State.launch_keeps ..)

theorem State.passOver_keeps (s : State) (a b : Nat) : Keeps s (State.passOver s a b) := by
  unfold State.passOver
  with_reducible repeat' first
    | assumption | exact Keeps.refl _
    | (extract_lets +onlyGivenNames x; refine Keeps.cut (x := x) ?_ ?_; rotate_left; intro hx; clear_value x; rotate_right; subst x)
    | (extract_lets +onlyGivenNames x; clear_value x) | refine Keeps.ite ?_ ?_ | apply Keeps.comp (State.setFlag_keeps ..)
    | apply Keeps.comp (State.event_keeps ..) | apply Keeps.comp (State.changeCancel_keeps ..)

theorem State.stretch_keeps (s : State) (ns : Int) : Keeps s (State.stretch s ns) := by
  unfold State.stretch
  with_reducible repeat' first
    | assumption | exact Keeps.refl _
    | (extract_lets +onlyGivenNames x; refine Keeps.cut (x := x) ?_ ?_; rotate_left; intro hx; clear_value x; rotate_right; subst x)
    | (extract_lets +onlyGivenNames x; clear_value x) | simp -zeta only [Keeps.upd_iff] | apply Keeps.comp (State.setFlag_keeps ..)
    | apply Keeps.comp (State.incFld_keeps ..) | apply Keeps.comp (State.event_keeps ..) | apply Keeps.comp (State.svStep_keeps ..)
    | apply Keeps.comp (State.ptpStates_keeps ..) | apply Keeps.comp (State.setTimeState_keeps ..)
    | apply Keeps.comp (State.passOver_keeps ..)

theorem execStretchedTick_keeps (s : State) : OutKeeps s (execStretchedTick s) := by
  unfold execStretchedTick
  first | refine OutKeeps.onCore ?_ | refine OutKeeps.next ?_
  try beta_reduce
  with_reducible repeat' first
    | exact Keeps.refl _ | refine Keeps.ite ?_ ?_ | split | apply Keeps.comp (State.stretch_keeps ..)

end Sys2Proof.Machine
end

