-- ==== Sys2Proof/Laws/Seals.lean ====
section
/-!
SUPPORT. Numbers in bytes, the CRC's width, and that a tile the module seals passes the checks of its own directory entry.
-/
namespace Sys2Proof.Machine

@[simp] theorem leBytes_length (n v : Nat) : (leBytes n v).length = n := by
  induction n generalizing v with
  | zero => rfl
  | succ n ih => simp [leBytes, ih]

theorem leNat_leBytes (n v : Nat) : leNat (leBytes n v) = v % 256 ^ n := by
  induction n generalizing v with
  | zero => simp [leBytes, leNat, Nat.mod_one]
  | succ n ih =>
    have h : v % (256 * 256 ^ n) = v % 256 + 256 * (v / 256 % 256 ^ n) := Nat.mod_mul
    rw [leBytes, leNat, ih, Nat.pow_succ', h, BitVec.toNat_ofNat]

theorem sub_eq_of_append (a b c : List Byte) : sub (a ++ (b ++ c)) a.length b.length = b := by simp [sub]

theorem sub_length (bs : List Byte) (o n : Nat) : (sub bs o n).length = n := by
  simp [sub]

theorem crcBit_lt (c : Nat) (h : c < 2 ^ 32) : crcBit c < 2 ^ 32 := by
  unfold crcBit
  split
  · exact Nat.xor_lt_two_pow (by omega) (by decide)
  · omega

theorem crcByte_lt (c b : Nat) (h : c < 2 ^ 32) (hb : b < 256) : crcByte c b < 2 ^ 32 := by
  unfold crcByte
  have : c ^^^ b < 2 ^ 32 := Nat.xor_lt_two_pow h (by omega)
  exact crcBit_lt _ (crcBit_lt _ (crcBit_lt _ (crcBit_lt _ (crcBit_lt _ (crcBit_lt _ (crcBit_lt _ (crcBit_lt _ this)))))))

theorem crcRun_lt (bs : List Byte) (c : Nat) (h : c < 2 ^ 32) : crcRun c bs < 2 ^ 32 := by
  induction bs generalizing c with
  | nil => exact h
  | cons b t ih => exact ih _ (crcByte_lt c _ h b.isLt)

/-- The CRC is a number of 32 bits. -/
theorem crc32c_lt (bs : List Byte) : crc32c bs < 2 ^ 32 := Nat.xor_lt_two_pow (crcRun_lt bs _ (by decide)) (by decide)

theorem sealHead_length (owner kind flags ident : Nat) (gen key : Word) : (sealHead owner kind flags ident gen key).length = 28 := by
  simp [sealHead]

@[simp] theorem sealTile_length (payload : List Byte) (owner kind flags ident : Nat) (gen key : Word) :
    (sealTile payload owner kind flags ident gen key).length = 4096 := by
  simp [sealTile, sub_length, sealHead_length]

/-- A field of a list of bytes that stands after `a`. -/
theorem leAt_of_append (a b c : List Byte) (o n : Nat) (ha : a.length = o) (hb : b.length = n) : leAt (a ++ (b ++ c)) o n = leNat b := by
  subst ha hb
  simp [leAt, sub_eq_of_append]

/-- A tile sealed by the module passes the checks 3 to 6 of its own entry (R116). -/
theorem checkBytes_sealTile (payload : List Byte) (owner kind flags ident : Nat) (gen key : Word) (ho : owner < 128) (hk : kind ≤ kTRIP)
    (hf : flags < 64) (hi : ident < 2 ^ 32) :
    checkBytes (sealTile payload owner kind flags ident gen key) owner kind flags ident gen = none := by
  have hp := sub_length payload 0 4064
  generalize hq : sub payload 0 4064 = q at hp
  have hkl : kind < 256 := Nat.lt_of_le_of_lt hk (by decide)
  have hbl : (q ++ sealHead owner kind flags ident gen key).length = 4092 := by simp [hp, sealHead_length]
  generalize hc : crc32c (q ++ sealHead owner kind flags ident gen key) = c
  have hcl : c < 2 ^ 32 := hc ▸ crc32c_lt _
  have htile : sealTile payload owner kind flags ident gen key = (q ++ sealHead owner kind flags ident gen key) ++ leBytes 4 c := by
    simp [sealTile, hq, hc]
  have hcrc : crc32c ((sealTile payload owner kind flags ident gen key).take 4092) = c := by
    rw [htile, List.take_append_of_le_length (by omega), List.take_of_length_le (by omega), hc]
  have e (a b r : List Byte) (o n v : Nat) (ht : sealTile payload owner kind flags ident gen key = a ++ (b ++ r)) (ha : a.length = o)
      (hb : b = leBytes n v) (hv : v < 256 ^ n) : leAt (sealTile payload owner kind flags ident gen key) o n = v := by
    rw [ht, leAt_of_append a b r o n ha (by simp [hb]), hb, leNat_leBytes, Nat.mod_eq_of_lt hv]
  have f0 : leAt (sealTile payload owner kind flags ident gen key) 4092 4 = c :=
    e (q ++ sealHead owner kind flags ident gen key) (leBytes 4 c) [] 4092 4 c (by simp [htile]) hbl rfl (by omega)
  have f1 : leAt (sealTile payload owner kind flags ident gen key) 4064 1 = owner :=
    e q (leBytes 1 owner) (leBytes 1 kind ++ leBytes 2 flags ++ leBytes 4 ident ++ leBytes 4 gen.toNat ++ leBytes 4 key.toNat ++
      List.replicate 12 0 ++ leBytes 4 c) 4064 1 owner (by simp [htile, sealHead]) hp rfl (by omega)
  have f2 : leAt (sealTile payload owner kind flags ident gen key) 4065 1 = kind :=
    e (q ++ leBytes 1 owner) (leBytes 1 kind) (leBytes 2 flags ++ leBytes 4 ident ++ leBytes 4 gen.toNat ++ leBytes 4 key.toNat ++
      List.replicate 12 0 ++ leBytes 4 c) 4065 1 kind (by simp [htile, sealHead]) (by simp [hp]) rfl (by omega)
  have f3 : leAt (sealTile payload owner kind flags ident gen key) 4066 2 = flags :=
    e (q ++ leBytes 1 owner ++ leBytes 1 kind) (leBytes 2 flags) (leBytes 4 ident ++ leBytes 4 gen.toNat ++ leBytes 4 key.toNat ++
      List.replicate 12 0 ++ leBytes 4 c) 4066 2 flags (by simp [htile, sealHead]) (by simp [hp]) rfl (by omega)
  have f4 : leAt (sealTile payload owner kind flags ident gen key) 4068 4 = ident :=
    e (q ++ leBytes 1 owner ++ leBytes 1 kind ++ leBytes 2 flags) (leBytes 4 ident) (leBytes 4 gen.toNat ++ leBytes 4 key.toNat ++
      List.replicate 12 0 ++ leBytes 4 c) 4068 4 ident (by simp [htile, sealHead]) (by simp [hp]) rfl (by omega)
  have f5 : leAt (sealTile payload owner kind flags ident gen key) 4072 4 = gen.toNat :=
    e (q ++ leBytes 1 owner ++ leBytes 1 kind ++ leBytes 2 flags ++ leBytes 4 ident) (leBytes 4 gen.toNat) (leBytes 4 key.toNat ++
      List.replicate 12 0 ++ leBytes 4 c) 4072 4 gen.toNat (by simp [htile, sealHead]) (by simp [hp]) rfl (by have := gen.isLt; omega)
  have f6 : leAt (sealTile payload owner kind flags ident gen key) 4080 12 = 0 :=
    e (q ++ leBytes 1 owner ++ leBytes 1 kind ++ leBytes 2 flags ++ leBytes 4 ident ++ leBytes 4 gen.toNat ++ leBytes 4 key.toNat)
      (List.replicate 12 0) (leBytes 4 c) 4080 12 0 (by simp [htile, sealHead]) (by simp [hp]) (by decide) (by decide)
  have hfm : flags % 64 = flags := Nat.mod_eq_of_lt hf
  unfold checkBytes
  rw [hcrc, f0, f1, f2, f3, f4, f5, f6, hfm]
  simp only [ne_eq, not_true, if_false, or_false, false_or, Nat.not_lt.mpr hk]
  have h1 : ¬ 127 < owner := by omega
  have h2 : ¬ 128 ≤ flags := by omega
  simp [h1, h2]

/-- Bytes read back where they were written. -/
theorem State.bytes_setBytes_same (s : State) (a : Nat) (bs : List Byte) (h : s.memCanon = true) : (s.setBytes a bs).bytes a bs.length = bs := by
  rw [State.bytes_eq _ _ _ (State.memCanon_setBytes s a bs h)]
  apply List.ext_getElem
  · simp
  · intro i h1 h2
    simp only [List.getElem_map, List.getElem_range, State.byte_setBytes]
    simp [h2]

end Sys2Proof.Machine
end

