-- ==== Sys2Proof/Tests/Slice0.lean ====
section
/-!
SUPPORT. The model's own tests: for every statement a state and operands that meet its hypotheses (`witness_…`), values the spec
gives worked out by hand from its rules (`test_…`), and ill-formed commands that the checks refuse (`test_wf_…`). Clauses whose
hypotheses name a free value (the CORDIC's error, a signature, an ECDH secret) have no witness: nothing evaluates them.
-/
namespace Sys2Proof.Machine
section
set_option Elab.async false

/-! ### Helpers -/

/-- The state a command leaves, the state itself where the command stops. -/
def after (c : Instr) (s : State) : State := match exec c s with
  | .next t => t
  | _ => s

/-- Predicates: p0, which is 1, as it stands and inverted. -/
def always : PQ := ⟨false, 0⟩
def never : PQ := ⟨true, 0⟩

/-- The reset state with registers of the SRF given. -/
def withRegs (l : List (Nat × Word)) : State := l.foldl (fun (s : State) e => s.setReg e.1 e.2) State.reset

/-- A task of partition p, period 1000. -/
def taskOf (p : Nat) : TaskCtx := ⟨p, 0, 0, false, false, 1000, false, false, false⟩

/-- Lamp 0 runs a task of partition p, with registers given. -/
def lamp0 (p : Nat) (gs : List (Fin 32 × Word)) : State :=
  gs.foldl (fun (s : State) e => s.setG 0 e.1 e.2) (State.reset.modLamp 0 (fun x => { x with task := some (taskOf p) }))

/-- Window w of lamp 0 holds location 0, all lines valid. -/
def window (st : WinState) : Window := ⟨st, BitVec.allOnes 64, 0, false, 0, false⟩
def State.window0 (s : State) (st : WinState) : State := s.setWin 0 0 (window st)

/-- An operation in flight on lamp 0, of partition p with pd = p1. -/
def State.inFlight (s : State) (k : TileKind) (p : Nat) : State :=
  s.modLamp 0 (fun x => { x with pend := some ⟨k, 0, 0, 1, p, false, 0, 0⟩ })

/-- Location 0 holds a DATA tile of partition p under identifier 5, sealed by the module itself. -/
def State.dataTile (s : State) (p flags : Nat) : State :=
  s.writeNew 0 (dirWord p kDATA flags 0 true) 5 (List.replicate 4064 0)

/-- The time grid runs at tick count k. -/
def State.ticking (s : State) (k : Nat) : State := { s with tick := { s.tick with running := true, count := k, abs := k } }

/-! ### The queue (StepRunsFrontCommand) -/

theorem test_step_takes_the_front : step { State.reset with pending := [.errFree, .launch] } =
    exec .errFree { State.reset with pending := [.launch] } := rfl

/-! ### Lamps -/

theorem witness_register_instructions : (lamp0 1 []).coreOn = true ∧ ((lamp0 1 []).lamp 0).task.isSome = true ∧
    (lamp0 1 []).takes 0 always = true ∧ (lamp0 1 []).takes 0 never = false ∧ ((lamp0 1 []).lamp 0).pend = none := by decide +kernel

theorem test_add_wraps : (after (.add 0 always 3 1 2) (lamp0 1 [(1, 0xFFFFFFFF), (2, 2)])).g 0 3 = 1 := by decide +kernel
theorem test_adds_saturates : (after (.adds 0 always 3 1 2) (lamp0 1 [(1, 0x7FFFFFFF), (2, 2)])).g 0 3 = 0x7FFFFFFF := by decide +kernel
theorem test_subs_saturates : (after (.subs 0 always 3 1 2) (lamp0 1 [(1, 0x80000000), (2, 2)])).g 0 3 = 0x80000000 := by decide +kernel
theorem test_shift_takes_five_bits : (after (.shl 0 always 3 1 2) (lamp0 1 [(1, 1), (2, 33)])).g 0 3 = 2 := by decide +kernel
theorem test_sra_keeps_sign : (after (.sra 0 always 3 1 2) (lamp0 1 [(1, 0x80000000), (2, 31)])).g 0 3 = 0xFFFFFFFF := by decide +kernel
theorem test_minu_is_unsigned : (after (.minu 0 always 3 1 2) (lamp0 1 [(1, 0xFFFFFFFF), (2, 2)])).g 0 3 = 2 := by decide +kernel
theorem test_min_is_signed : (after (.min 0 always 3 1 2) (lamp0 1 [(1, 0xFFFFFFFF), (2, 2)])).g 0 3 = 0xFFFFFFFF := by decide +kernel
theorem test_addi_sign_extends : (after (.addi 0 always 1 1 0xFFF) (lamp0 1 [(1, 5)])).g 0 1 = 4 := by decide +kernel
theorem test_ori_zero_extends : (after (.ori 0 always 1 1 0xFFF) (lamp0 1 [(1, 5)])).g 0 1 = 0xFFF := by decide +kernel
theorem test_mulh_signed : (after (.mulh 0 always 3 1 2) (lamp0 1 [(1, 0xFFFFFFFF), (2, 0xFFFFFFFF)])).g 0 3 = 0 := by decide +kernel
theorem test_mulhu_unsigned : (after (.mulhu 0 always 3 1 2) (lamp0 1 [(1, 0xFFFFFFFF), (2, 0xFFFFFFFF)])).g 0 3 = 0xFFFFFFFE := by decide +kernel
theorem test_div_by_zero : (after (.div 0 always 3 1 2) (lamp0 1 [(1, 7)])).g 0 3 = 0 := by decide +kernel
theorem test_div_corner : (after (.div 0 always 3 1 2) (lamp0 1 [(1, 0x80000000), (2, 0xFFFFFFFF)])).g 0 3 = 0x80000000 := by decide +kernel
theorem test_div_truncates : (after (.div 0 always 3 1 2) (lamp0 1 [(1, 0xFFFFFFF9), (2, 2)])).g 0 3 = 0xFFFFFFFD := by decide +kernel
theorem test_rem_by_zero : (after (.rem 0 always 3 1 2) (lamp0 1 [(1, 7)])).g 0 3 = 7 := by decide +kernel
theorem test_rem_sign : (after (.rem 0 always 3 1 2) (lamp0 1 [(1, 0xFFFFFFF9), (2, 2)])).g 0 3 = 0xFFFFFFFF := by decide +kernel
theorem test_movx_is_two_words : ((after (.movx 0 always 3 0xDEADBEEF) (lamp0 1 [])).lamp 0).pc = 2 := by decide +kernel
theorem test_g0_reads_zero : (after (.addi 0 always 0 0 5) (lamp0 1 [])).g 0 0 = 0 := by decide +kernel
theorem test_false_predicate : (after (.addi 0 never 3 0 5) (lamp0 1 [(3, 9)])).g 0 3 = 9 := by decide +kernel
theorem test_cmplti_signed : (after (.cmplti 0 always 1 1 0) (lamp0 1 [(1, 0x80000000)])).pr 0 1 = true := by decide +kernel
theorem test_cmpltui_extends_then_compares : (after (.cmpltui 0 always 1 1 0xFFF) (lamp0 1 [(1, 0x80000000)])).pr 0 1 = true := by decide +kernel
theorem test_clz_of_zero : (after (.clz 0 always 3 1) (lamp0 1 [])).g 0 3 = 32 := by decide +kernel
theorem test_popc : (after (.popc 0 always 3 1) (lamp0 1 [(1, 0xF0F0)])).g 0 3 = 8 := by decide +kernel
theorem test_bfxu_width_zero_is_32 : (after (.bfxu 0 always 3 1 2) (lamp0 1 [(1, 0xABCD0123), (2, 16)])).g 0 3 = 0xABCD := by decide +kernel
theorem test_bfi_keeps_the_rest : (after (.bfi 0 always 3 1 2) (lamp0 1 [(1, 0xFF), (2, 0x408), (3, 0xAAAAAAAA)])).g 0 3 = 0xAAAAAFAA := by
  decide +kernel
theorem test_fdiv : (after (.fdiv 0 always 3 1 2) (lamp0 1 [(1, 0x3F800000), (2, 0x40400000)])).g 0 3 = 0x3EAAAAAB := by decide +kernel
theorem test_fadd_of_nan : (after (.fadd 0 always 3 1 2) (lamp0 1 [(1, 0x7F800001), (2, 0)])).g 0 3 = 0x7FC00000 := by decide +kernel
theorem test_fsqrt : (after (.fsqrt 0 always 3 1) (lamp0 1 [(1, 0x40000000)])).g 0 3 = 0x3FB504F3 := by decide +kernel
theorem test_mac : (after (.mac 0 always 0 1 2) (lamp0 1 [(1, 0xFFFFFFFF), (2, 3)])).acc 0 0 = 0xFFFFFFFFFFFFFFFD := by decide +kernel
theorem test_isqrt : (after (.isqrt 0 always 3 1) (lamp0 1 [(1, 0xFFFFFFFF)])).g 0 3 = 0xFFFF := by decide +kernel

theorem witness_cordic : (lamp0 1 [(1, 3), (2, 4)]).coreOn = true ∧ ((lamp0 1 []).lamp 0).task.isSome = true ∧ (2 : Fin 32).val % 2 = 0 ∧
    (lamp0 1 []).g 0 1 = 0 := by decide +kernel
theorem test_cordv_of_zero : (after (.cordv 0 always 4 1 2) (lamp0 1 [(4, 9), (5, 9)])).g 0 4 = 0 := by decide +kernel

/-! ### Windows and tiles -/

theorem witness_loads_and_stores : let s := (lamp0 1 [(1, 0x10000)]).window0 .valid
    s.srfCanon = true ∧ s.memCanon = true ∧ s.coreOn = true ∧ (s.lamp 0).task.isSome = true ∧ (s.g 0 1).toNat / 4096 = 16 ∧ (s.lamp 0).win[(0 : Fin 8)].st ≠ .poison := by
  decide +kernel
theorem test_store_is_little_endian : (after (.stw 0 always 2 1 0) ((lamp0 1 [(1, 0x10000), (2, 0x11223344)]).window0 .valid)).byte (winAddr 0 0) =
    0x44 := by decide +kernel
theorem test_ldh_sign_extends : (after (.ldh 0 always 3 1 0) (after (.sth 0 always 2 1 0) ((lamp0 1 [(1, 0x10000), (2, 0x8001)]).window0
    .valid))).g 0 3 = 0xFFFF8001 := by decide +kernel
theorem test_load_at_the_last_word : (after (.ldw 0 always 3 1 0) (after (.stb 0 always 2 1 3) ((lamp0 1 [(1, 0x17FFC), (2, 0x80)]).setWin 0 7
    (window .valid)))).g 0 3 = 0x80000000 := by decide +kernel
theorem test_misaligned_load_raises_align : ((after (.ldw 0 always 3 1 2) ((lamp0 1 [(1, 0x10000)]).window0 .valid)).part 1).errq.recs.map
    (fun r => r.cls) = [cALIGN] := by decide +kernel

theorem witness_scan : let s := (lamp0 1 [(1, 0x10010)]).window0 .valid
    s.coreOn = true ∧ (s.lamp 0).task = some (taskOf 1) ∧ s.takes 0 always = true ∧ (s.g 0 1).toNat / 4096 = 16 ∧ (s.g 0 1).toNat % 16 = 0 ∧
      (s.lamp 0).win[(0 : Fin 8)].st ≠ .poison ∧ (Inst.read (s.winBytes 0 0 16 16)).type = 0 ∧
      (let t := after (.stb 0 always 2 1 4) (s.setG 0 2 6)
       (Inst.read (t.winBytes 0 0 16 16)).type = 6) := by decide +kernel
theorem test_edgeup_fires_once : let s := after (.edgeup 0 always 1 0 1 2) ((lamp0 1 [(1, 0x10010)]).window0 .valid)
    s.pr 0 1 = true ∧ (after (.edgeup 0 always 1 0 1 2) s).pr 0 1 = false := by decide +kernel
theorem test_ton_counts_periods : let s := after (.ton 0 always 1 0 1 2) ((lamp0 1 [(1, 0x10010), (2, 1500)]).window0 .valid)
    let t := after (.ton 0 always 1 0 1 2) s
    s.pr 0 1 = false ∧ t.pr 0 1 = false ∧ (after (.ton 0 always 1 0 1 2) t).pr 0 1 = true := by decide +kernel
theorem test_ctu_counts : let s := after (.ctu 0 always 1 0 1 2 0) ((lamp0 1 [(1, 0x10010), (2, 1)]).window0 .valid)
    s.pr 0 1 = true := by decide +kernel
theorem witness_timers : let i : Inst := ⟨1, true, true, true, false, 5, 5⟩
    i.inm = true ∧ i.q = true ∧ i.run = true ∧ i.et ≤ i.pt ∧ i.pt < 2 ^ 32 ∧ ({ i with inm := false } : Inst).inm = false ∧
      sval (w32 0x7FFFFFFE) < 2147483647 ∧ -2147483648 < sval (w32 0x80000001) := by decide +kernel
theorem witness_scan_address_faults : let s := (lamp0 1 [(1, 0x10000), (2, 0x10004), (3, 0x18000)]).window0 .poison
    s.coreOn = true ∧ (s.lamp 0).task.isSome = true ∧ s.takes 0 always = true ∧ winOf (s.g 0 1).toNat = some 0 ∧ (s.g 0 1).toNat % 16 = 0 ∧
      winOf (s.g 0 2).toNat = some 0 ∧ (s.g 0 2).toNat % 16 ≠ 0 ∧ winOf (s.g 0 3).toNat = none ∧ (s.lamp 0).win[(0 : Fin 8)].st = .poison ∧
      (s.lamp 0).win[(0 : Fin 8)].told = false ∧ (s.lamp 0).task = some (taskOf 1) ∧ (taskOf 1).handler = false ∧
      ((after (.ton 0 always 1 0 1 2) s).lamp 0).win[(0 : Fin 8)].told = true := by decide +kernel

/-- PC 0x3FFE: one word is left for a branch. -/
theorem witness_branches : let s := (lamp0 1 [(1, 2)]).modLamp 0 (fun x => { x with pc := 0x3FFE })
    let lv : LoopLvl := ⟨0x3FFD, 0x3FFF, 2⟩
    let t := s.modLamp 0 (fun x => { x with loops := [lv] })
    let f := s.modLamp 0 (fun x => { x with loops := [lv, lv, lv, lv] })
    s.coreOn = true ∧ (s.lamp 0).task.isSome = true ∧ (s.lamp 0).loops = [] ∧ (s.lamp 0).pc + 1 + 0 ≤ 0x3FFF ∧ 0x3FFF < (s.lamp 0).pc + 1 + 1 ∧
      s.g 0 1 ≠ 0 ∧ (s.g 0 1).toNat ≤ 2 ∧ 1 < (s.g 0 1).toNat ∧ s.g 0 2 = 0 ∧ (s.lamp 0).pc + 1 = lv.after ∧ 1 < lv.remaining ∧
      (t.lamp 0).atBodyEnd 1 = true ∧ ((t.modLamp 0 (fun x => { x with pc := 0x3FFD })).lamp 0).atBodyEnd 2 = true ∧
      4 ≤ (f.lamp 0).loops.length ∧ (f.lamp 0).pend = none := by decide +kernel
theorem test_br : ((after (.br 0 always 5) (lamp0 1 [])).lamp 0).pc = 6 := by decide +kernel
theorem test_loop_body_runs_its_count : let s := after (.loopi 0 always 2 1) (lamp0 1 [])
    let t := after (.addi 0 always 1 1 1) (after (.addi 0 always 1 1 1) s)
    t.g 0 1 = 2 ∧ (t.lamp 0).pc = 2 ∧ (t.lamp 0).loops = [] := by decide +kernel

/-- Location 0 holds a DATA tile of partition 1; lamp 0 runs a task of partition 1. -/
def tile0 : State := ((lamp0 1 []).window0 .valid).dataTile 1 0

theorem newTile_bytes (s : State) (pl : List Byte) (h : s.memCanon = true) (hp : (s.part 1).prog = none) :
    (s.writeNew 0 (dirWord 1 kDATA 0 0 true) 5 pl).bytes (tileAddr 0) 4096 = sealTile pl 1 kDATA 0 5 0 0 := by
  have k := State.bytes_setBytes_same s (tileAddr 0) (sealTile pl 1 kDATA 0 5 0 (s.pkey 1)) h
  rw [sealTile_length] at k
  have e : s.pkey 1 = 0 := by simp [State.pkey, hp]
  rw [e] at k
  have m : (s.writeNew 0 (dirWord 1 kDATA 0 0 true) 5 pl).mem = (s.setBytes (tileAddr 0) (sealTile pl 1 kDATA 0 5 0 (s.pkey 1))).mem := rfl
  rw [e] at m
  rw [← k]
  exact congrArg (fun x => dread memReset x (tileAddr 0) 4096) m
theorem tile0_bytes : tile0.bytes (tileAddr 0) 4096 = sealTile (List.replicate 4064 0) 1 kDATA 0 5 0 0 := newTile_bytes _ _ (by decide) (by decide)
theorem tile0_sealed : tile0.sealFail 0 = none := by
  unfold State.sealFail
  rw [tile0_bytes, if_neg (by decide), if_pos (by decide)]
  exact checkBytes_sealTile _ 1 kDATA 0 5 0 0 (by decide) (by decide) (by decide) (by decide)
theorem tile0_loads : (tile0.inFlight .load 1).loadCause 0 1 false = none := by
  unfold State.loadCause
  rw [if_neg (by decide), if_neg (by decide), if_neg (by decide), if_neg (by decide)]
  exact tile0_sealed

theorem witness_tile_instructions : tile0.coreOn = true ∧ (tile0.lamp 0).task = some (taskOf 1) ∧ (tile0.lamp 0).pend = none ∧
    tile0.takes 0 always = true ∧ tile0.srfCanon = true := by decide +kernel
theorem witness_tile_loads : (tile0.inFlight .load 1).loadCause 0 1 false = none ∧ (tile0.inFlight .load 1).planUnits 0 = [] ∧
    (tile0.inFlight .load 2).loadCause 0 2 false = some wcOWNER := ⟨tile0_loads, by decide, by decide⟩
theorem witness_tile_stores : (tile0.inFlight .store 1).storeCause 0 ⟨.store, 0, 0, 1, 1, false, 0, 0⟩ = none ∧
    (tile0.inFlight .store 2).storeCause 0 ⟨.store, 0, 0, 1, 2, false, 0, 0⟩ = some wcOWNER := by decide +kernel
theorem test_load_of_a_tile : ((after (.tload 0 always 1 0 0) tile0).lamp 0).pend.map (fun o => o.kind) = some .load := by decide +kernel
theorem test_load_of_another_owner : let t := after (.tileOpComplete 0) (tile0.inFlight .load 2)
    (t.lamp 0).win[(0 : Fin 8)].st = .poison ∧ t.pr 0 1 = false := by decide +kernel
theorem test_trel : ((after (.trel 0 always 0) tile0).lamp 0).win[(0 : Fin 8)].st = .empty := by decide +kernel

/-! ### Tasks, partitions and the tick -/

/-- The reset state with fields of registers given. -/
def State.flds (s : State) (l : List (Nat × Fld × Nat)) : State := l.foldl (fun (s : State) e => s.setFld e.1 e.2.1 e.2.2) s

/-- Partition 1 is RUNNING and holds slot 0 of lamp 0, whose task entry 0 at word 0x3FFF is due in every tick. -/
def slot0 : State := (State.reset.setPstate 1 psRunning).flds [(R.TICK_SLOT_A 0, F.TICK_SLOT_A_VALID, 1), (R.TICK_SLOT_A 0, F.TICK_SLOT_A_PART, 1),
  (R.TICK_TASK_PER_A 0, F.TICK_TASK_PER_A_PERIOD, 1), (R.TICK_TASK_BIND_A 0, F.TICK_TASK_BIND_A_VALID, 1),
  (R.TICK_TASK_BIND_A 0, F.TICK_TASK_BIND_A_ENTRY, 0x3FFF)]

theorem witness_tasks_end : let s := lamp0 1 []
    s.coreOn = true ∧ (s.lamp 0).task = some (taskOf 1) ∧ (s.lamp 0).pend = none ∧ s.takes 0 always = true ∧ s.takes 0 never = false ∧
      (taskOf 1).safety = false ∧ ((after (.endslot 0 always) s).lamp 0).task = none ∧ ((after (.endslot 0 always) s).part 1).ended = true := by
  decide +kernel
theorem witness_slots : slot0.coreOn = true ∧ (slot0.lamp 0).task = none ∧ (slot0.lamp 0).pend = none ∧ (slot0.slotReg slot0.bankB 0).getLsbD 31 = true ∧
    slot0.slotPart slot0.bankB 0 = 1 ∧ slot0.running 1 = true ∧ (slot0.part 1).barred = false ∧ slot0.notReady 0 1 0x3FFF = false ∧
    (slot0.validTasks slot0.bankB).find? (fun t => slot0.taskSlot slot0.bankB t == 0 && slot0.due t) = some 0 ∧
    (let s := slot0.modLamp 0 (fun x => { x with task := some (taskOf 1) })
     s.running 1 = true ∧ (s.part 1).stopReq = none) := by decide +kernel
theorem test_slot_starts_its_task : ((after (.slotEntry 0 0) slot0).lamp 0).pc = 0x3FFF := by decide +kernel
theorem test_overrun_counts : (after (.overrun 0) (slot0.modLamp 0 (fun x => { x with task := some (taskOf 1) }))).fld (R.ENG_PART_STAT 1)
    F.ENG_PART_STAT_OVR = 1 := by decide +kernel

theorem witness_partition_commands : let s := State.reset
    s.coreOn = true ∧ (∀ n ∈ s.eng.bound, n < 1024) ∧ s.pstate 127 = psFree ∧ (s.setPstate 127 psIdle).pstate 127 = psIdle ∧
      (s.part 127).stopReq = none ∧ (s.part 127).endReq = false ∧ (s.setPstate 1 psStarting).pstate 1 = psStarting ∧
      (s.setPstate 1 psRunning).pstate 1 = psRunning ∧ (s.setPstate 1 psZeroising).pstate 1 = psZeroising := by decide +kernel
theorem test_allot_of_free_is_idle : (after (.partAllot 1 true) State.reset).pstate 1 = psIdle := by decide +kernel

theorem witness_positions : let s := State.reset
    let m : State := { s with eng := { s.eng with moving := [0], suspect := [3] } }
    let c := s.writeNew 1 (dirWord 2 kMAILBOX 0 0 true) 6 []
    s.coreOn = true ∧ 2 ≤ (2 : Word).toNat % 16 ∧ (8 : Word).toNat % 16 ≤ 8 ∧ (1 : Word).toNat % 16 < 2 ∧ 8 < (9 : Word).toNat % 16 ∧
      m.eng.suspect.contains 3 = true ∧ m.eng.suspect.contains 0 = false ∧ 0 ∈ m.eng.moving ∧ m.eng.migration = none ∧ m.posState 0 ≠ 1 ∧
      m.healthySpares = [60, 61, 62, 63] ∧ (s.setPstate 1 psStarting).mayRun 1 = true ∧ s.twinned 1 = false ∧ (s.setPstate 1 psZeroising).pstate 1 = psZeroising ∧
      1 ∉ s.boot.zero ∧ s.allocated = [] ∧ c.sourceOk 3 1 2 = true ∧ s.sourceOk 3 1 2 = false ∧ (s.reg (R.ENG_EVT_ROUTE 511)).getLsbD 31 = false := by
  decide +kernel

theorem newCode_mem (s : State) (pl : List Byte) (key : Word) (h : s.pkey 1 = key) :
    (s.writeNew 0 (dirWord 1 kCODE 0 0 true) 5 pl).mem = (s.setBytes (tileAddr 0) (sealTile pl 1 kCODE 0 5 0 key)).mem := by
  rw [← h]; rfl

theorem newPrecious_mem (s : State) (pl : List Byte) (key : Word) (h : s.pkey 1 = key) :
    (s.writeNew 0 (dirWord 1 kDATA 1 0 true) 5 pl).mem =
      ((s.setBytes (tileAddr 0) (sealTile pl 1 kDATA 1 5 0 key)).setBytes (tileAddr 2048) (sealTile pl 1 kDATA 1 5 0 key)).mem := by
  rw [← h]; rfl
/-- Page 0 of lamp 0 is bound to the CODE tile of location 0; partition 1 is STARTING. -/
def page0 : State :=
  let s := (State.reset.setPstate 1 psStarting).writeNew 0 (dirWord 1 kCODE 0 0 true) 5 [1]
  let t := s.flds [(R.ENG_CODE_PAGE 0, F.ENG_CODE_PAGE_VALID, 1), (R.ENG_CODE_PAGE 0, F.ENG_CODE_PAGE_PART, 1)]
  { t with eng := { t.eng with bound := [0] } }
theorem page0_bytes : page0.bytes (tileAddr 0) 4096 = sealTile [1] 1 kCODE 0 5 0 0 := by
  have k := State.bytes_setBytes_same (State.reset.setPstate 1 psStarting) (tileAddr 0) (sealTile [1] 1 kCODE 0 5 0 0) (by decide)
  rw [sealTile_length] at k
  have m : page0.mem = ((State.reset.setPstate 1 psStarting).setBytes (tileAddr 0) (sealTile [1] 1 kCODE 0 5 0 0)).mem := newCode_mem (State.reset.setPstate 1 psStarting) [1] 0 (by decide)
  rw [← k]
  exact congrArg (fun x => dread memReset x (tileAddr 0) 4096) m
theorem page0_copies : page0.copyCause 0 1 = none := by
  unfold State.copyCause
  rw [if_neg (by decide), if_neg (by decide), if_neg (by decide), if_neg (by decide)]
  unfold State.sealFail
  rw [page0_bytes, if_neg (by decide), if_pos (by decide)]
  exact checkBytes_sealTile _ 1 kCODE 0 5 0 0 (by decide) (by decide) (by decide) (by decide)
theorem witness_code_pages : page0.copySource 0 0 1 = some 0 ∧ page0.copyCause 0 1 = none ∧ page0.srfCanon = true ∧
    (page0.flds [(R.ENG_CODE_PAGE 0, F.ENG_CODE_PAGE_PART, 2), (R.ENG_PART_STAT 2, F.ENG_PART_STAT_STATE, psStarting)]).copySource 0 0 2 = some 0 ∧
    (page0.copyCause 0 2).isSome = true := ⟨by decide, page0_copies, by decide, by decide, by decide⟩
theorem test_spare_count_refused : (after (.spareCountWrite 9) State.reset).err.glob.length = 1 := by decide +kernel

/-- An allocation of a DATA tile for partition 1 that waits for bank 0's step; partition 1 has a quota of one. -/
def alloc0 : State := (State.reset.flds [(R.TS_QUOTA 1, F.TS_QUOTA_LIMIT, 1)]).setSteps 0 [.alloc 0 0 (dirWord 1 kDATA 0 0 true) 5]

theorem witness_allocation : let s := State.reset
    s.coreOn = true ∧ s.fld R.TS_ALLOC_STAT F.TS_ALLOC_STAT_RESULT ≠ 1 ∧
      (s.setFld R.TS_ALLOC_STAT F.TS_ALLOC_STAT_RESULT 1).fld R.TS_ALLOC_STAT F.TS_ALLOC_STAT_RESULT = 1 ∧
      alloc0.srfCanon = true ∧ alloc0.memCanon = true ∧ alloc0.stepTick 0 = true ∧ alloc0.repBuf 0 = none ∧ alloc0.bankQ 0 = [] ∧
      alloc0.allocResult 0 0 (dirWord 1 kDATA 0 0 true) 5 = 0 ∧ alloc0.tiles.dirBad = [] ∧
      s.allocResult 0 0 (dirWord 1 kDATA 0 0 true) 5 ≠ 0 := by decide +kernel
theorem witness_free_and_pair : let s := State.reset
    let t : State := ((s.writeNew 0 (dirWord 1 kDATA 0 0 true) 5 []).setSteps 0 [.free 0])
    let m : State := (s.writeNew 0 (dirWord 1 kMAILBOX 16 0 true) 5 []).writeNew 1 (dirWord 2 kMAILBOX 0 0 true) 6 []
    t.steps 0 = [.free 0] ∧ t.dirValid 0 = true ∧ t.running (t.dirOwner 0) = false ∧
      m.dirValid 0 = true ∧ m.dirKind 0 = kMAILBOX ∧ m.dirFlag 0 fOUTBOX = true ∧ m.isInbox 1 = true ∧ s.isInbox 1 = false ∧
      (m.reg (R.TS_MBX 511)).getLsbD 31 = false := by decide +kernel

def State.request (s : State) (src : RepSrc) : State := { s with tiles := { s.tiles with repairBuf := [(0, ⟨0, src, 0, none⟩)] } }
/-- Location 0 is a PRECIOUS DATA tile of partition 1 under repair, its directory entry bad; its twin copy is sound. -/
def State.underRepair (s : State) : State :=
  ({ s with tiles := { s.tiles with dirBad := [0], repairQ := [(0, [0])] } } : State).setFld (R.TS_DIR_CTL 0) F.TS_DIR_CTL_STATE 1
def repair0 : State := (State.reset.writeNew 0 (dirWord 1 kDATA 1 0 true) 5 []).underRepair
theorem underRepair_mem (s : State) : s.underRepair.mem = s.mem := rfl
theorem repair0_bytes : repair0.bytes (tileAddr 2048) 4096 = sealTile [] 1 kDATA 1 5 0 0 := by
  have k := State.bytes_setBytes_same (State.reset.setBytes (tileAddr 0) (sealTile [] 1 kDATA 1 5 0 0)) (tileAddr 2048)
    (sealTile [] 1 kDATA 1 5 0 0) (State.memCanon_setBytes _ _ _ (by decide))
  rw [sealTile_length] at k
  have m : repair0.mem = ((State.reset.setBytes (tileAddr 0) (sealTile [] 1 kDATA 1 5 0 0)).setBytes (tileAddr 2048)
    (sealTile [] 1 kDATA 1 5 0 0)).mem := (underRepair_mem _).trans (newPrecious_mem State.reset [] 0 (by decide))
  rw [← k]
  exact congrArg (fun x => dread memReset x (tileAddr 2048) 4096) m
theorem gen_of_checkBytes (b : List Byte) (o k f i : Nat) (g : Word) (h : checkBytes b o k f i g = none) : leAt b 4072 4 = g.toNat := by
  unfold checkBytes at h
  split at h; · cases h
  split at h; · cases h
  split at h; · cases h
  split at h
  · cases h
  · omega
theorem repair0_source : repair0.sourceGood 0 (repair0.bytes (tileAddr (repair0.linkLoc 0)) 4096) = true := by
  have e : repair0.linkLoc 0 = 2048 := by decide +kernel
  rw [e, repair0_bytes]
  unfold State.sourceGood
  have c := checkBytes_sealTile [] 1 kDATA 1 5 0 0 (by decide) (by decide) (by decide) (by decide)
  rw [gen_of_checkBytes _ _ _ _ _ _ c]
  exact congrArg Option.isNone c
theorem witness_twin_copy : repair0.srfCanon = true ∧ repair0.coreOn = true ∧ repair0.stepTick 0 = true ∧ repair0.repBuf 0 = none ∧
    repair0.bankQ 0 = [0] ∧ repair0.dirValid 0 = true ∧ repair0.dirAct 0 = true ∧ repair0.dirFlag 0 fPRECIOUS = true ∧ repair0.dirKind 0 = kDATA ∧
    repair0.dirState 0 = 1 ∧ tgetD repair0.tiles.failed 0 [] = [] ∧ repair0.dirState (repair0.linkLoc 0) = 0 ∧
    (repair0.sealFail 0).isSome = true ∧ repair0.sourceGood 0 (repair0.bytes (tileAddr (repair0.linkLoc 0)) 4096) = true ∧
    repair0.tiles.waiting = [] := ⟨by decide, by decide, by decide, by decide, by decide, by decide, by decide, by decide, by decide, by decide,
      by decide, by decide, by decide, repair0_source, by decide⟩
theorem witness_repair : let s := State.reset
    s.coreOn = true ∧ s.tick.running = false ∧ s.fld R.TS_SCRUB_STAT F.TS_SCRUB_STAT_NEXT = 0 ∧
      (s.setFld R.TS_SCRUB_STAT F.TS_SCRUB_STAT_NEXT 63).fld R.TS_SCRUB_STAT F.TS_SCRUB_STAT_NEXT = 63 ∧
      (s.request .partner).repBuf 0 = some ⟨0, .partner, 0, none⟩ ∧ (s.request .image).repBuf 0 = some ⟨0, .image, 0, none⟩ ∧
      (s.request .keepRec).repBuf 0 = some ⟨0, .keepRec, 0, none⟩ ∧ 0 + 8 ≤ (s.ticking 8).tick.count ∧ 0 + 48 ≤ (s.ticking 48).tick.count ∧
      0 + 4 ≤ (s.ticking 4).tick.count ∧ (s.ticking 8).tick.abs % 2 = 0 := by decide +kernel

/-- A swap is pending; with AT_EN clear it is due at once when checked. -/
def swap0 : State := after .swap State.reset
theorem witness_swaps : let s := State.reset
    let c := after .swapCheck swap0
    s.coreOn = true ∧ s.flag R.TICK_STAT F.TICK_STAT_SWAP_PEND = false ∧ swap0.flag R.TICK_STAT F.TICK_STAT_SWAP_PEND = true ∧
      swap0.flag R.TICK_STAT F.TICK_STAT_SWAP_CHECKED = false ∧ swap0.tick.running = false ∧ (swap0.rewrite (!swap0.bankB)).checkBank swap0 = none ∧
      c.flag R.TICK_STAT F.TICK_STAT_SWAP_CHECKED = true ∧ c.swapDue (c.tick.stepTo.getD (c.tick.abs + 1)) = true ∧ c.inXstate xsRIDING = [] ∧
      c.tick.swapSpares = c.eng.count ∧ c.tick.swapMulti = false ∧ c.tick.swapAuth = false ∧ (after .swapActivate c).bankB = true := by decide +kernel
theorem witness_swap_refused : let s := swap0.flds [(R.TICK_SLOT_B 5, F.TICK_SLOT_A_VALID, 1), (R.TICK_SLOT_B 5, F.TICK_SLOT_A_START, 1023)]
    (match (s.rewrite (!s.bankB)).checkBank s with
     | some (e, tab, idx, _) => decide (e < 16 ∧ tab < 2 ∧ idx < 2048)
     | none => false) = true := by decide +kernel

/-- Partition 1 stages a program without tiles or pages. -/
def staging1 : State := ((State.reset.ticking 48000).modPart 1 (fun x => { x with xchg := some ⟨⟨⟨0, 0, [], [], [], [], [], [], []⟩, []⟩,
  [], [], 0, none⟩ })).setXstate 1 xsSTAGING
theorem witness_exchanges : let s := staging1
    s.coreOn = true ∧ s.xstate 1 = xsSTAGING ∧ (match (s.part 1).xchg with
      | some x => decide ((∀ e ∈ x.pages, e.2.2 = true) ∧ x.since + 48000 ≤ s.tick.count ∧ ∀ e ∈ x.pages, e.1 < 1024)
      | none => false) = true ∧ (after (.xchgStaged 1) s).xstate 1 = xsSTAGED := by decide +kernel

/-- A tick of the running grid whose launch is done, with a step of +1 s due. -/
def State.stepDue (s : State) : State := { s with tick := { s.tick with launched := true }, time := { s.time with step := some (1000000000, 0) } }
theorem witness_ticks : let s := State.reset.ticking 7
    s.coreOn = true ∧ s.tick.running = true ∧ s.tick.launched = false ∧ s.stepDue.tick.launched = true ∧ State.reset.tick.running = false ∧
      s.stepDue.tick.stepTo = none ∧ 0 ≤ s.stepDue.tick.abs := by decide +kernel
theorem test_launch_ends_the_tick : (after .launch (State.reset.ticking 7)).tick.launched = true := by decide +kernel
theorem test_tick_begins : let t := ((State.reset.ticking 7).stepDue).tickBegin
    t.tick.abs = 8 ∧ t.tick.launched = false := by decide +kernel

theorem witness_commit : let s := (State.reset.setPstate 127 psRunning).setFld (R.ENG_WD 127) F.ENG_WD_LIMIT 1
    let e := (State.reset.setPstate 5 psIdle).modPart 5 (fun x => { x with endReq := true })
    let c := (State.reset.setPstate 5 psRunning).modPart 5 (fun x => { x with stopReq := some .command })
    s.running 127 = true ∧ s.fld (R.ENG_WD 127) F.ENG_WD_LIMIT ≠ 0 ∧
      s.fld (R.ENG_WD 127) F.ENG_WD_LIMIT ≤ (s.watchdog 127).fld (R.ENG_WD 127) F.ENG_WD_COUNT ∧ (s.part 127).stopReq = none ∧ s.running 0 = false ∧
      (s.part 127).released = false ∧ s.txStopped = false ∧ s.scanned 127 = true ∧ s.twinned 127 = false ∧ slot0.scanned 1 = false ∧
      (e.part 5).endReq = true ∧ e.pstate 5 = psIdle ∧ (c.part 5).endReq = false ∧ (c.part 5).stopReq = some .command ∧ (c.part 5).hdrs = [] := by
  decide +kernel

/-- Reset has been released and partition 1 has served. -/
def inService : State := let s : State := { State.reset with boot := { State.reset.boot with released := true } }
  s.modPart 1 (fun x => { x with served := true })
theorem witness_power : let s := inService
    let r := s.setPf 1
    s.coreOn = true ∧ s.pfState = 0 ∧ s.boot.released = true ∧ s.exState = exSERVING ∧ s.parts.any (fun e => e.2.served) = true ∧
      r.pfState = 1 ∧ r.keep.writes = [] ∧ r.keep.rings = [] ∧ (r.ticking 160).boot.dipAt + 160 ≤ (r.ticking 160).tick.count ∧
      (r.ticking 159).tick.count < (r.ticking 159).boot.dipAt + 160 ∧ 2 ≤ (s.setPf 2).pfState ∧ s.boot.down = false := by decide +kernel
theorem test_dip_is_counted : (after .pfDip inService).fld R.ID_PWR_STAT F.ID_PWR_STAT_DIPS = 1 := by decide +kernel

theorem witness_connectors : let s := inService
    let on := s.setFld R.ID_BOOT F.ID_BOOT_PHASE 12
    s.coreOn = true ∧ s.supplies = true ∧ s.flag R.ID_STRAP F.ID_STRAP_SEAT = false ∧ 8 ≤ on.phase ∧ on.phase ≤ 12 ∧ on.txStopped = false ∧
      (after (.cageModulePresent 3 ⟨true, false, true, 1000⟩) on).pins.cageTx = [3] ∧
      (after (.cageModulePresent 4 ⟨true, false, true, 1000⟩) on).pins.cageTx = [] ∧
      (after (.cageModulePresent 0 ⟨true, true, true, 1001⟩) on).pins.cageTx = [] := by decide +kernel

theorem witness_extraction : let s := inService.ticking 480
    let h := s.setExState exHANDOVER
    s.coreOn = true ∧ s.boot.released = true ∧ s.tick.running = true ∧ s.exState = exSERVING ∧ (s.setExState exREFUSED).exState = exREFUSED ∧
      h.exState = exHANDOVER ∧ h.keep.writes = [] ∧ h.keep.rings = [] ∧ ({ h with parts := [] } : State).parts = [] ∧
      h.boot.exAt + 480 ≤ h.tick.count ∧ (h.ticking 479).tick.count < h.boot.exAt + 480 ∧ (s.setExState exSAFING).exState = exSAFING ∧
      State.reset.boot.released = false ∧ ({ (s.ticking 4800).boot with exBlink := true }).exRefused + 4800 ≤ (s.ticking 4800).tick.count ∧
      s.boot.down = false ∧ s.err.frozen = false := by decide +kernel
theorem witness_start_up : let s := State.reset.flds [(R.ID_PWR_STAT, F.ID_PWR_STAT_HOLD_OK, 1), (R.ID_STRAP, F.ID_STRAP_SEAT, 1)]
    let d := s.setFld R.ID_LC F.ID_LC_STATE 4
    let t := s.setFld R.ID_BOOT F.ID_BOOT_TIMEOUTS 2
    s.coreOn = true ∧ s.boot.released = false ∧ s.phase < 13 ∧ s.flag R.ID_PWR_STAT F.ID_PWR_STAT_HOLD_OK = true ∧
      s.flag R.ID_PWR_STAT F.ID_PWR_STAT_DIP = false ∧ s.flag R.ID_STRAP F.ID_STRAP_SEAT = true ∧ s.lcState = 0 ∧ d.lcState = 4 ∧ s.phase < 7 ∧
      t.fld R.ID_BOOT F.ID_BOOT_TIMEOUTS < 3 ∧ s.tick.running = false ∧ s.boot.lcTo = none := by
  decide +kernel
def State.setSafeAct (s : State) : State := { s with safe := { s.safe with act := some [] } }
theorem witness_phases : let s := inService.ticking 4800
    let l : State := { s with boot := { s.boot with lcTo := some 4 } }
    let v : State := { s with boot := { s.boot with vref := true } }
    (s.setFld R.ID_BOOT F.ID_BOOT_PHASE 8).phase = 8 ∧ s.haw.upAt = none ∧ 4800 ≤ s.tick.count ∧ (s.setFld R.ID_BOOT F.ID_BOOT_PHASE 12).phase = 12 ∧
      s.pfState = 0 ∧ s.boot.lcTo = none ∧ l.boot.lcTo = some 4 ∧ v.lcState = 0 ∧ v.boot.vref = true ∧
      ((s.setSafeAct).safe.act.isSome = true ∧ (s.setSafeAct).safeCause = 0) := by decide +kernel

/-! ### Time, registers, loops, datasets -/

theorem witness_time : let s := State.reset.ticking 4800
    let k := s.setFld R.TIME_STAT F.TIME_STAT_STATE tsLOCKED
    let l := s.setFld R.TIME_STAT F.TIME_STAT_STATE tsLOCKING
    let q := State.reset.setFld R.TIME_STAT F.TIME_STAT_STATE tsACQUIRE
    let r : State := { k with time := { k.time with lastOfs := some 0, bad := 3, good := 15 } }
    let p := k.flds [(R.TIME_PORT 0, F.TIME_PORT_MODE, 1), (R.TIME_PORT 0, F.TIME_PORT_PSTATE, 2)]
    s.coreOn = true ∧ q.timeState = tsACQUIRE ∧ q.tick.running = false ∧ q.phase < 13 ∧ (∀ e ∈ q.sv, e.1 < 32) ∧ l.timeState = tsLOCKING ∧
      k.timeState = tsLOCKED ∧ (15 : Nat) ≤ r.time.good ∧ (3 : Nat) ≤ r.time.bad ∧ r.time.lastOfs = some 0 ∧ r.tick.count ≤ 0 + 4800 ∧
      k.flag R.TIME_STAT F.TIME_STAT_RESTEP_PEND = false ∧
      (k.setFlag R.TIME_STAT F.TIME_STAT_RESTEP_PEND true).flag R.TIME_STAT F.TIME_STAT_RESTEP_PEND = true ∧
      (s.setFlag R.TIME_UTC F.TIME_UTC_LEAP61 true).flag R.TIME_UTC F.TIME_UTC_LEAP61 = true ∧
      (s.setFlag R.TIME_UTC F.TIME_UTC_LEAP59 true).flag R.TIME_UTC F.TIME_UTC_LEAP59 = true ∧
      p.fld (R.TIME_PORT 0) F.TIME_PORT_MODE = 1 ∧ p.fld (R.TIME_PORT 0) F.TIME_PORT_PSTATE = 2 ∧ p.mastersSend = true := by decide +kernel
theorem test_leap_second : (after .leapSecond (State.reset.flds [(R.TIME_UTC, F.TIME_UTC_LEAP61, 1), (R.TIME_UTC, F.TIME_UTC_OFFSET, 37)])).fld
    R.TIME_UTC F.TIME_UTC_OFFSET = 38 := by decide +kernel

theorem witness_register_access : let s := lamp0 0 [(1, 0x100)]
    let t := lamp0 1 []
    s.coreOn = true ∧ (findReg R.TS_ALLOC_ID).isSome = true ∧ s.srfOk .part0 R.TS_ALLOC_ID true = true ∧ s.srfOk .part0 0x10001 true = false ∧
      s.srfOk .part0 0xFFFC false = false ∧ (s.lamp 0).task = some (taskOf 0) ∧ (taskOf 0).safety = false ∧ (s.lamp 0).pend = none ∧
      s.takes 0 always = true ∧ s.srfOk .part0 R.ID_LC true = false ∧ s.srfOk .part0 R.ID_LC false = true ∧ (t.lamp 0).task = some (taskOf 1) := by
  decide +kernel
theorem test_sysrd_reads : (after (.sysrd 0 always 3 1) (lamp0 0 [(1, BitVec.ofNat 32 R.ID_PWR_STAT)])).g 0 3 =
    State.reset.reg R.ID_PWR_STAT := by decide +kernel
theorem test_sysrd_of_a_tenant : ((after (.sysrd 0 always 3 1) (lamp0 1 [])).part 1).errq.recs.map (fun r => r.cls) = [cPRIV] := by decide +kernel

theorem witness_loops : let s := (lamp0 1 [(1, 255)]).flds [(R.CLU_SLOT 255, F.CLU_SLOT_VALID, 1), (R.CLU_SLOT 255, F.CLU_SLOT_PART, 1),
      (R.CLU_SLOT 255, F.CLU_SLOT_STATE, 2)]
    let d := s.setClu 255 { s.clus 255 with words := (s.clus 255).words.set 21 1 }
    let h := s.setClu 255 { s.clus 255 with words := ((s.clus 255).words.set 21 1).set 6 0x7FC00000 }
    s.coreOn = true ∧ (s.lamp 0).task = some (taskOf 1) ∧ s.ownsLoop (s.g 0 1).toNat 1 = true ∧ s.ownsLoop 255 2 = false ∧ s.ownsLoop 256 1 = false ∧
      (s.clus 255).words.length = 64 ∧ loopwrOk false 0 0 = true ∧ loopwrOk false 0 7 = false ∧ s.cluState 255 = 2 ∧ s.cluState 0 ≠ 2 ∧
      d.cluBits 255 21 0 16 ≠ 0 ∧ d.tick.abs % d.cluBits 255 21 0 16 = d.cluBits 255 21 16 16 ∧ (d.clus 255).words.length = 64 ∧
      h.cluFront 255 = none ∧ (d.cluFront 255).isSome = true ∧ d.paired 255 = false := by decide +kernel
theorem witness_datasets : let s := (State.reset.setPstate 1 psRunning).flds [(R.SV_TRIP_CFG 63, F.SV_TRIP_CFG_PART, 1), (R.SV_TRIP_CFG 63, F.SV_TRIP_CFG_STATE, tdSENDING)]
    s.coreOn = true ∧ s.tripState 63 = tdSENDING ∧ (s.tripSt 63).left ≤ 1 ∧ (s.tripSt 63).done = false ∧ s.running 1 = true ∧
      (s.part 1).stopReq = none ∧ (s.part 1).endReq = false ∧ tget (s.part 1).trips 63 = none ∧
      tget ((s.modPart 1 (fun x => { x with trips := [(63, [1])] })).part 1).trips 63 = some [1] ∧ [1] ≠ (s.tripSt 63).lastSent ∧
      State.reset.running 1 = false := by decide +kernel

/-! ### Switch, CAN, SPE -/

/-- Ports 8 and 9 are open members of VLAN 1, entry 255, of partition 1, which owns queue 0 of port 9 under handle 3 and has ten cells. -/
def net : State := ((State.reset.setPstate 1 psRunning).flds [(R.SW_VLAN_CTL 255, F.SW_VLAN_CTL_VALID, 1), (R.SW_VLAN_CTL 255, F.SW_VLAN_CTL_PART, 1),
    (R.SW_VLAN_CTL 255, F.SW_VLAN_CTL_VID, 1), (R.SW_PCFG 8, F.SW_PCFG_ENABLE, 1), (R.SW_PCFG 8, F.SW_PCFG_PVID, 1), (R.SW_PSTAT 8, F.SW_PSTAT_LINK, 1),
    (R.SW_PCFG 9, F.SW_PCFG_ENABLE, 1), (R.SW_PCFG 9, F.SW_PCFG_PVID, 1), (R.SW_PSTAT 9, F.SW_PSTAT_LINK, 1), (R.SW_PSTAT 9, F.SW_PSTAT_SPEED, 1),
    (R.SW_QCFG 9 0, F.SW_QCFG_VALID, 1), (R.SW_QCFG 9 0, F.SW_QCFG_PART, 1), (R.SW_QCFG 9 0, F.SW_QCFG_HANDLE, 3),
    (R.SW_CELLS 1, F.SW_CELLS_LIMIT, 10)]).setReg (R.SW_VLAN_MEM 255) 0x300
/-- A frame of 60 bytes for 02-00-00-00-00-01 at port 8. -/
def frame0 : RxFrame := ⟨8, [2, 0, 0, 0, 0, 1, 2, 0, 0, 0, 0, 2, 8, 0] ++ List.replicate 46 0, true, false, 0, []⟩
theorem witness_frame_reception : let s := net
    let b := frame0.bytes
    s.coreOn = true ∧ s.flag (R.SW_PCFG 8) F.SW_PCFG_ENABLE = true ∧ s.flag (R.SW_PSTAT 8) F.SW_PSTAT_LINK = true ∧ State.reset.vlanOf 1 = none ∧
      s.vlanOf 1 = some 255 ∧ s.vlanMember 255 8 = true ∧ s.vlanMember 255 39 = false ∧ s.mgmtKind b 1 = none ∧
      s.flag (R.SW_PCFG 8) F.SW_PCFG_SHUT_IN = false ∧ s.pairMode 8 = 0 ∧ s.destinations 255 8 b = ([9], false) ∧
      s.fld R.HAW_STAT F.HAW_STAT_ROLE ≠ 2 ∧ b.length = 60 ∧ cellsFor b.length ≤ s.cellsFree (.part (s.vlanPart 255)) ∧
      s.flag (R.SW_VLAN_CTL 255) F.SW_VLAN_CTL_LEARN = false := by decide +kernel
theorem witness_forwarding : let s := net
    (∀ i, i < 32 → s.wakeMatch (32 * (8 / 8) + i) 8 255 frame0.bytes = false) ∧ s.forwardQueue 9 0 1 = some 0 ∧ s.pairMode 9 = 0 := by decide +kernel
theorem test_frame_is_queued : ((after (.frameReceived frame0) net).swPort 9).queue 9 0 ≠ [] := by decide +kernel
theorem test_frame_on_a_closed_port : ((after (.frameReceived { frame0 with port := 10 }) net).swPort 9).queue 9 0 = [] := by decide +kernel

theorem witness_transmission : let s := after (.frameReceived frame0) net
    let f : TxFrame := ⟨0, [], none, false, none⟩
    let d := s.setSwPort 9 { s.swPort 9 with sending := some (f, 0) }
    (s.swPort 9).sending = none ∧ s.txStopped = false ∧ s.flag (R.SW_PCFG 9) F.SW_PCFG_SHUT_OUT = false ∧ s.portRate 9 ≠ 0 ∧
      (s.swCredit 9 0).pickTx 9 0 = some 0 ∧ ((s.swPort 9).queue 9 0).map (fun (x : TxFrame) => x.ptp) = [none] ∧
      (d.swPort 9).sending = some (f, 0) ∧ s.fld R.SW_PRP F.SW_PRP_MODE_B01 = 0 ∧ s.fld R.SW_PRP F.SW_PRP_MODE_B23 = 0 := by decide +kernel
theorem witness_switch_controls : let s := State.reset
    let c := s.setFld (R.SW_CELLS 0) F.SW_CELLS_LIMIT 5184
    s.coreOn = true ∧ s.flag (R.SW_PSTAT 39) F.SW_PSTAT_LINK = false ∧ net.flag (R.SW_PSTAT 9) F.SW_PSTAT_LINK = true ∧
      net.flag (R.SW_PCFG 9) F.SW_PCFG_ENABLE = true ∧ ({ s.sw with shut := [(9, (true, false))] }).shut = [(9, (true, false))] ∧
      s.sw.shut = [] ∧ F.SW_QCFG_RATE.get 0 ≤ s.rateCap 39 ∧ s.pairMode 0 < 2 ∧ s.mayWithdraw 0 = true ∧
      (s.setPstate 5 psRunning).mayWithdraw 5 = false ∧
      (List.range 128).foldl (fun t k => t + if k = 127 then 1 else c.fld (R.SW_CELLS k) F.SW_CELLS_LIMIT) 0 = 5185 := by decide +kernel

/-- Lamp 0 runs a task of partition 1 with window 7 valid; partition 1 owns ring 511 and CAN buffer 63 of channel 15. -/
def msg0 : State := let s := (net.modLamp 0 (fun x => { x with task := some (taskOf 1) })).setWin 0 7 (window .valid)
  let t := s.flds [(R.SW_RING 511, F.SW_RING_VALID, 1), (R.SW_RING 511, F.SW_RING_PART, 1), (R.SW_RING 511, F.SW_RING_HANDLE, 5),
    (R.CAN_MB_CFG 15 63, F.CAN_MB_CFG_VALID, 1), (R.CAN_MB_CFG 15 63, F.CAN_MB_CFG_PART, 1), (R.CAN_MB_CFG 15 63, F.CAN_MB_CFG_DIR, 1)]
  (t.setG 0 1 0x17F00).setG 0 2 256
theorem witness_messaging : let s := msg0
    let e : RingEnt := ⟨1, 1, 8, 0, 0, 0, 0, [7]⟩
    let r := s.setSwRing 511 ⟨[e], 1, none⟩
    s.srfCanon = true ∧ s.memCanon = true ∧ s.coreOn = true ∧ (s.lamp 0).task = some (taskOf 1) ∧ (s.lamp 0).pend = none ∧
      (s.g 0 1).toNat / 4096 = 16 + 7 ∧ (s.lamp 0).win[(7 : Fin 8)].st ≠ .poison ∧ (s.g 0 1).toNat % 4096 + 256 ≤ 4096 ∧ (s.g 0 2).toNat ≤ 256 ∧
      (s.lamp 0).chain = none ∧ (s.queueOf 1 3).isSome = true ∧ cellsFor (256 - 16) ≤ s.cellsFree (.part 1) ∧ s.queueOf 1 4 = none ∧
      s.uartOf 1 4 = none ∧ s.ringByHandle 1 5 = some 511 ∧ (s.swRing 511).rest = none ∧ (s.swRing 511).ents = [] ∧
      (r.swRing 511).ents = [e] ∧ (r.swRing 511).snap ≠ 0 ∧ 16 + e.bytes.length ≤ 17 ∧ s.txBuf 15 63 1 = true ∧
      s.canRecordOk 15 (List.replicate 16 0) = true := by decide +kernel
theorem test_receive_from_an_empty_ring : (after (.frecv 0 always 3 1 2 false 0 5) msg0).g 0 3 = 0x05000000 := by decide +kernel
theorem test_send_to_a_strange_handle : (after (.fsend 0 always 3 1 2 false 0 4) msg0).g 0 3 = 0x03000000 := by decide +kernel

/-- Channel 0 is error active in mode 1; its buffer 0 is a receive buffer of partition 1 for identifiers up to 0x7FF by filter 0. -/
def can0 : State := State.reset.flds [(R.CAN_CTRL 0, F.CAN_CTRL_MODE, 1), (R.CAN_STAT 0, F.CAN_STAT_BUS, busACTIVE),
  (R.CAN_MB_CFG 0 0, F.CAN_MB_CFG_VALID, 1), (R.CAN_MB_CFG 0 0, F.CAN_MB_CFG_PART, 1), (R.CAN_FLT_A 0 0, F.CAN_FLT_A_TYPE, 1),
  (R.CAN_FLT_B 0 0, F.CAN_FLT_B_ID2, 0x7FF)]
def canFrame0 : CanFrame := ⟨0x7FF, false, false, 0, false, false, false, 0, 0, 0, [1], 0, 0⟩
theorem witness_can : let s := can0
    let t := s.flds [(R.CAN_ERRC 0, F.CAN_ERRC_TEC, 248)]
    let w := s.setMb 0 5 mbPENDING
    let a := (s.setMb 0 5 mbACTIVE).setCanCh 0 { s.canCh 0 with active := some 5 }
    s.coreOn = true ∧ F.CAN_CTRL_MODE.get 0 = 0 ∧ s.canMode 0 ≠ 0 ∧ s.bus 0 = busACTIVE ∧ (s.setBus 0 busINTEGRATING).bus 0 = busINTEGRATING ∧
      (s.setBus 0 busRECOVERING).bus 0 = busRECOVERING ∧ s.canMode 0 ≠ 3 ∧ s.fld (R.CAN_ERRC 0) F.CAN_ERRC_TEC + 8 ≤ 255 ∧
      255 < t.fld (R.CAN_ERRC 0) F.CAN_ERRC_TEC + 8 ∧ (s.canCh 0).active = none ∧ w.canWinner 0 = some 5 ∧ (a.canCh 0).active = some 5 ∧
      a.flag (R.CAN_MB_STAT 0 5) F.CAN_MB_STAT_SHADOW = false := by decide +kernel
theorem witness_can_reception : let s := can0
    let f := canFrame0
    f.fmt = 0 ∧ f.data.length ≤ 8 ∧ (∀ k, k < 8 → s.hpmMatch 0 k f = false) ∧ (List.range 256).find? (fun k => s.fltMatch 0 k f) = some 0 ∧
      (∀ k, k < 256 → s.fltMatch 0 k { f with ide := true } = false) ∧ F.CAN_MB_CFG_RING_EN.get (s.reg (R.CAN_MB_CFG 0 0)) = 0 ∧
      s.pmapOk 0 0x80000000 (s.reg (R.CAN_PMAP_B 0 0)) = false := by decide +kernel
theorem test_reception_fills_the_buffer : (after (.canFrameReceived 0 canFrame0) can0).mbState 0 0 = mbFULL := by decide +kernel

/-- Port 31 may take 20 units of 0.1 W and its enable is true. -/
def pse : State := let s := State.reset.flds [(R.SPE_PWR 31, F.SPE_PWR_PWR_EN, 1), (R.SPE_PWR 31, F.SPE_PWR_BUDGET, 20), (R.SPE_PWR 31, F.SPE_PWR_RETRY, 1)]
  ({ s with boot := { s.boot with vfld := true } }).ticking 480
def State.pseAt (s : State) (v : Nat) : State := s.setFld (R.SPE_PSTAT 31) F.SPE_PSTAT_PSTATE v
theorem witness_field_power : let s := pse
    s.coreOn = true ∧ s.pseEnable 31 = true ∧ (s.spePort 31).en = false ∧ s.pseState 31 = pwOFF ∧ State.reset.pseEnable 31 = false ∧
      (s.pseAt pwDETECT).pseState 31 = pwDETECT ∧ (s.pseAt pwCLASSIFY).pseState 31 = pwCLASSIFY ∧ (s.pseAt pwPOWERED).pseState 31 = pwPOWERED ∧
      (s.pseAt pwFAULT).pseState 31 = pwFAULT ∧ s.flag (R.SPE_PWR 31) F.SPE_PWR_CLASS_MODE = false ∧ s.fld (R.SPE_PWR 31) F.SPE_PWR_BUDGET = 20 ∧
      (s.spePort 31).since + 48 ≤ s.tick.count ∧ s.fld (R.SPE_PWR 31) F.SPE_PWR_RETRY ≠ 0 ∧ (s.spePort 31).since + 480 * 1 ≤ s.tick.count ∧
      s.budgetSum 31 0x8000003F ≤ 640 ∧ boundPart (s.reg (R.SPE_PCFG 31)) = none := by decide +kernel
theorem test_class_within_budget : (after (.pseClassified 31 10 20) (pse.pseAt pwCLASSIFY)).pseState 31 = pwPOWERED := by decide +kernel
theorem test_class_over_budget : (after (.pseClassified 31 11 21) (pse.pseAt pwCLASSIFY)).pseState 31 = pwFAULT := by decide +kernel
theorem witness_uart : let s := msg0.flds [(R.SPE_UBIND 7, F.SPE_UBIND_VALID, 1), (R.SPE_UBIND 7, F.SPE_UBIND_PART, 1), (R.SPE_UBIND 7, F.SPE_UBIND_RING, 511),
      (R.SPE_ULEN 7, F.SPE_ULEN_MAXLEN, 1), (R.SPE_UCFG 7, F.SPE_UCFG_ENABLE, 1)]
    boundPart (s.reg (R.SPE_UBIND 7)) = some 1 ∧ s.inEffect (R.SPE_UBIND 7) = true ∧ s.fld (R.SPE_ULEN 7) F.SPE_ULEN_MAXLEN = 1 ∧
      boundPart (s.reg (R.SW_RING 511)) = some 1 ∧ s.fld (R.SW_RING 511) F.SW_RING_PART = 1 ∧ s.running 1 = true ∧
      cellsFor (16 + 1) ≤ s.cellsFree (.part 1) ∧ (s.swRing 511).ents.length < 1024 ∧ s.flag (R.SPE_UCFG 7) F.SPE_UCFG_ENABLE = true ∧
      tget ({ s with spe := { s.spe with uart := [(7, [(1, [9])])] } } : State).spe.uart 7 = some [(1, [9])] := by decide +kernel

/-! ### SAFE -/

/-- A configuration with test pulse 0, input 0 on it and switch-off test of output 7 is active, and VSO is there. -/
def safe0 : State :=
  let s := State.reset.setPstate 2 psRunning
  let c : List (Nat × Word) := [(R.SAFE_CFG, F.SAFE_CFG_PART.put 0 2), (R.SAFE_TP 0, F.SAFE_TP_EN.put 0 1),
    (R.SAFE_SI_CFG 0, F.SAFE_SI_CFG_TP.put 0 1), (R.SAFE_SI_CFG 15, F.SAFE_SI_CFG_TP.put 0 2), (R.SAFE_SQ_CFG 7, F.SAFE_SQ_CFG_TEST_EN.put 0 1)]
  let f : SafeSt := { s.safe with act := some c, outs := [(7, ⟨true, 0⟩)] }
  let t : State := { s with boot := { s.boot with vso := true }, safe := f }
  t.flds [(R.SAFE_SI_STAT 0, F.SAFE_SI_STAT_FILT, 1), (R.SAFE_SI_STAT 15, F.SAFE_SI_STAT_FILT, 1)]
theorem witness_safe_inputs : let s := safe0
    s.coreOn = true ∧ s.siFilt 0 = true ∧ s.siFilt 1 = false ∧ (s.safe.act.isSome && s.boot.vso) = true ∧
      cfgFlag s.safeCfg (R.SAFE_TP 0) F.SAFE_TP_EN = true ∧ cfgFlag s.safeCfg (R.SAFE_TP 3) F.SAFE_TP_EN = false ∧
      cfgFld s.safeCfg (R.SAFE_SI_CFG 0) F.SAFE_SI_CFG_TP = 1 ∧ cfgFld s.safeCfg (R.SAFE_SI_CFG 15) F.SAFE_SI_CFG_TP = 2 := by decide +kernel
theorem witness_safe_outputs : let s := safe0
    s.safeCause = 0 ∧ (s.safeGlobal gfMONITOR).safeCause ≠ 0 ∧ (s.safeOut 7).drive = true ∧ (s.safeOut 0).drive = false ∧ s.sqFault 7 = 0 ∧
      cfgFlag s.safeCfg (R.SAFE_SQ_CFG 7) F.SAFE_SQ_CFG_TEST_EN = true ∧ (s.ticking (600 * 7 + 300)).tickNo = 600 * 7 + 300 ∧
      s.running s.safePart = true ∧ s.safe.miss = [] ∧
      cfgFld s.safeCfg R.SAFE_CFG F.SAFE_CFG_SWD_TOL < 255 ∧ (s.safeGlobal gfMONITOR).causeRemains = false := by decide +kernel
theorem test_check_window_latches : let s := after (.tpCheckWindow 0 0x8000) safe0
    (s.safeIn 0).lat = [siSTUCK] ∧ (s.safeIn 15).lat = [siCROSS] := by decide +kernel
theorem witness_safe_ack : let s := safe0
    let m : State := { s with safe := { s.safe with monBad := true } }
    let b := after (.tpCheckWindow 0 0x8000) s
    let o := after (.sqOverload 7) s
    let r : State := { s with safe := { s.safe with rx := [(31, { SafeRx.reset with differ := true })] } }
    s.safe.act.isSome = true ∧ (m.safeGlobal gfMONITOR).causeRemains = true ∧ siSTUCK ∈ (b.safeIn 0).lat ∧ (b.safeIn 0).edge = false ∧
      (o.sqFault 7 ≠ 0) ∧ (r.safeRx 31).differ = true := by decide +kernel
theorem witness_safe_apply : let s := State.reset
    let u : State := { s with safe := { s.safe with unlock := some (1, 0) } }
    s.safeUnlocked = false ∧ u.safeUnlocked = true ∧ u.safeBusy = false ∧ (u.setPstate u.safePart psRunning).safeBusy = true ∧
      safeMask (R.SAFE_SI_CFG 15) ≠ 0 ∧ 0 + 2880000 ≤ (u.ticking 2880000).tick.count ∧ (u.ticking 2879999).tick.count < 0 + 2880000 := by
  decide +kernel
/-- Every field of the SAFE block at its lowestSafe legal value. -/
def lowestSafe : State := State.reset.flds ([(R.SAFE_CFG, F.SAFE_CFG_T_DEG, 1)] ++
  (List.range 4).flatMap (fun t => [(R.SAFE_TP t, F.SAFE_TP_GAP, 10), (R.SAFE_TP t, F.SAFE_TP_PERIOD, 4)]) ++
  (List.range 16).flatMap (fun i => [(R.SAFE_SI_CFG i, F.SAFE_SI_CFG_FILTER, 2), (R.SAFE_SI_CFG i, F.SAFE_SI_CFG_DISC, 1),
    (R.SAFE_SI_CHAT i, F.SAFE_SI_CHAT_WIN, 1)]) ++
  (List.range 8).map (fun o => (R.SAFE_SQ_CFG o, F.SAFE_SQ_CFG_T_EDM, 10)) ++ (List.range 32).map (fun i => (R.SAFE_RX_WD i, F.SAFE_RX_WD_T_WD, 3)))
theorem witness_safe_ranges : safeRangeOk lowestSafe.safeRegs = true ∧ lowestSafe.safeImagesOk lowestSafe.safeRegs = false ∧
    safeRangeOk State.reset.safeRegs = true ∧ safeRangeOk (State.reset.setFld (R.SAFE_TP 3) F.SAFE_TP_GAP 9).safeRegs = false := by decide +kernel
/-- The same with images of its partition at the locations it names. -/
def legalSafe : State := let s := (lowestSafe.writeNew 0 (dirWord 0 kIMAGE 32 0 true) 1 []).writeNew 1 (dirWord 0 kIMAGE 40 0 true) 2 []
  (s.modPart 0 (fun x => { x with hdrs := [(0, ⟨lyBIT, 0, 48, 0, []⟩), (1, ⟨lyBIT, 0, 9, 0, []⟩)] })).setFld R.SAFE_IMG F.SAFE_IMG_OUT_LOC 1
theorem witness_safe_applied : safeRangeOk legalSafe.safeRegs = true ∧ legalSafe.safeImagesOk legalSafe.safeRegs = true ∧
    legalSafe.safeBusy = false := by decide +kernel
theorem witness_safe_connections : let s := safe0.setFld (R.SAFE_RX_STAT 31) F.SAFE_RX_STAT_STATE 2
    let f : State := { s with safe := { s.safe with rx := [(31, { SafeRx.reset with fog := some 0 })] } }
    s.rxLive 31 = true ∧ (f.safeRx 31).fog = some 0 ∧ 0 + 288000 * cfgFld f.safeCfg R.SAFE_CFG F.SAFE_CFG_T_DEG ≤
      (f.ticking (288000 * cfgFld f.safeCfg R.SAFE_CFG F.SAFE_CFG_T_DEG)).tick.count ∧
      (s.safeRx 31).since + cfgFld s.safeCfg (R.SAFE_RX_WD 31) F.SAFE_RX_WD_T_WD ≤ (s.ticking 4096).tick.count := by decide +kernel

/-! ### Hawser, twins, coordinated change -/

/-- The lighthouse of its ring, address 5, heard since tick 0; 4800 ticks have begun. -/
def ring : State := (State.reset.flds [(R.HAW_STAT, F.HAW_STAT_ROLE, hrLIGHTHOUSE), (R.HAW_STAT, F.HAW_STAT_ADDR, 5),
  (R.ID_STRAP, F.ID_STRAP_MASTER, 1)]).ticking 4800
def beacon0 : Beacon := ⟨0, 63, 0, true, false, false, false, false, false, false, 9, 0, 0, 0, 0, 127, 0, true⟩
theorem witness_links_and_beacons : let s := ring
    s.coreOn = true ∧ s.flag (R.HAW_LINK 3) F.HAW_LINK_UP = false ∧ (s.setFlag (R.HAW_LINK 3) F.HAW_LINK_UP true).flag (R.HAW_LINK 3) F.HAW_LINK_UP = true ∧
      s.lighthouse = true ∧ State.reset.lighthouse = false ∧ s.beaconOk beacon0 = true ∧ s.beaconOk { beacon0 with hops := 64 } = false ∧
      s.beaconOk { beacon0 with chkOk := false } = false ∧ (beacon0.epoch + 256 - s.fld R.HAW_STAT F.HAW_STAT_EPOCH) % 256 = 127 ∧
      s.beaconOk { beacon0 with root := false } = true := by decide +kernel
theorem test_higher_root_wins : (after (.beaconReceived 3 beacon0) ring).hawRole = hrSTANDBY := by decide +kernel
/-- A candidate before any ROOT beacon, and a standby that takes over from witness 5. -/
def candidate : State := let s := ring.setFld R.HAW_STAT F.HAW_STAT_ROLE hrBUOY
  { s with haw := { s.haw with upAt := some 0 } }
def standby : State := let s := ring.setFld R.HAW_STAT F.HAW_STAT_ROLE hrSTANDBY
  { s with haw := { s.haw with takeover := some 5 }, boot := { s.boot with assigned := true } }
def State.asked (s : State) (k : Nat) : State := { s with haw := { s.haw with confirm := some k, enumAt := some 0 } }
theorem witness_lighthouses : let c := candidate
    let s := standby
    c.mastStrap = true ∧ c.lighthouse = false ∧ c.hawRole ≠ hrSTANDBY ∧ c.haw.upAt = some 0 ∧ 0 + 4800 ≤ c.tick.count ∧ c.haw.rootAt = none ∧
      ([(1, true), (2, true)] : List (Nat × Bool)).filter (fun o => precedes o (c.boot.serial.toNat, c.haw.addr == some 0)) ≠ [] ∧
      s.hawRole = hrSTANDBY ∧ s.rootSilent 48 = true ∧ s.haw.takeover = some 5 ∧ s.haw.confirm = none ∧ s.hawAddr = 5 ∧ s.joined = true ∧
      ({ s with haw := { s.haw with rootAt := some 4753 } } : State).rootSilent 48 = false ∧ (s.asked 4704).haw.confirm = some 4704 ∧
      4704 + 96 ≤ (s.asked 4704).tick.count ∧ (s.asked 4705).tick.count < 4705 + 96 ∧ ((ring.asked 0).haw.enumAt).isSome = true := by
  decide +kernel
theorem witness_assign : let a : Assign := ⟨[⟨7, none, 3, 0⟩, ⟨0, some 63, 0, hrBUOY⟩], 0, none, none, []⟩
    State.reset.boot.serial = 0 ∧ a.units[1]? = some ⟨0, some 63, 0, hrBUOY⟩ ∧ a.units.length ≤ 64 ∧
      (∀ x ∈ a.units, x.err < 8 ∧ x.role < 4) ∧ (∀ j v, j < 1 → a.units[j]? = some v → v.serial ≠ State.reset.boot.serial.toNat) := by
  refine ⟨by decide, by decide, by decide, by decide, fun j v hj h => ?_⟩
  obtain rfl : j = 0 := by omega
  cases h
  decide
def record0 : ExRec := ⟨9, 2, 0, 0, 0, 255, 0, 0, [], true⟩
theorem witness_records : let s := ring
    let p := (s.writeNew 0 (dirWord 1 kIMAGE 8 0 true) 7 []).modPart 1 (fun x => { x with hdrs := [(0, ⟨lyBIT, 0, 1, 0, []⟩)] })
    s.ownRecord record0 = false ∧ s.ownRecord { record0 with src := 5 } = true ∧ s.joined = true ∧ (p.pubImage 1 0).isSome = true ∧
      s.pubImage 1 0 = none ∧ s.inputImage 1 0 1 = none ∧ p.reg (R.HAW_PUB 255) = 0 ∧
      (p.setFld R.HAW_PX_STAT F.HAW_PX_STAT_SHARE 200).pubUsed + (p.setFld R.HAW_PX_STAT F.HAW_PX_STAT_SHARE 200).pubCost 0x81000000 ≤ 200 ∧
      p.rebindOk (boundPart 0) (boundPart 0x81000000) = true := by decide +kernel
theorem test_record_is_forwarded_once_more : (after (.exchangeRecordReceived 1 record0) ring).out = [.exch 4 { record0 with ttl := 1 }] := by
  decide +kernel
theorem test_record_at_its_last_unit : (after (.exchangeRecordReceived 1 { record0 with ttl := 1 }) ring).out = [] := by decide +kernel

/-- The lower twin of the pair 5 and 6, which splits ports 0 and 1. -/
def twinAt (v : Nat) : State := let s := ring.flds [(R.TWIN_CFG, F.TWIN_CFG_EN, 1), (R.TWIN_CFG, F.TWIN_CFG_PARTNER, 6), (R.TWIN_STAT, F.TWIN_STAT_STATE, v),
    (R.SW_PRP, F.SW_PRP_MODE_B01, 2), (R.HAW_LINK 0, F.HAW_LINK_UP, 1), (R.HAW_LINK 0, F.HAW_LINK_NBR, 6), (R.TWIN_PART 0, ⟨0, 32⟩, 2)]
  (s.writeNew 0 (dirWord 1 kSHADOW 0 0 true) 5 []).writeNew 1 (dirWord 1 kDATA 2 0 true) 6 []
def lanRec0 : LanRec := ⟨5, 1, 4801, 0, true⟩
theorem witness_lanyard : let s := twinAt twSTANDBY
    s.twinOn = true ∧ s.shadowOf 5 = some 0 ∧ newer 1 (s.dirGen 0) = true ∧ newer 0 (s.dirGen 0) = false ∧ s.canAnswer 6 = true ∧ s.canAnswer 7 = false ∧
      s.tick.abs < s.absNear lanRec0.tstamp ∧ s.absNear 4800 ≤ s.tick.abs ∧ s.twinState = twSTANDBY ∧ (twinAt twJOINING).twinState = twJOINING ∧
      bankAddr (R.TICK_SLOT_A 0) = true ∧ bankAddr R.ID_LC = false ∧ (s.request .partner).dirIdent 0 = 5 ∧ s.tiles.repairBuf = [] ∧
      State.reset.twinOn = false := by decide +kernel
theorem mirror0 : mirrorGood (sealTile [] 1 kDATA 0 5 1 0) lanRec0 = true := by
  have c := checkBytes_sealTile [] 1 kDATA 0 5 1 0 (by decide) (by decide) (by decide) (by decide)
  have h : leAt (sealTile [] 1 kDATA 0 5 1 0) 4064 1 = 1 ∧ leAt (sealTile [] 1 kDATA 0 5 1 0) 4065 1 = kDATA ∧
      leAt (sealTile [] 1 kDATA 0 5 1 0) 4066 2 % 64 = 0 := by
    have d := c
    unfold checkBytes at d
    split at d; · cases d
    split at d; · cases d
    split at d
    · cases d
    · omega
  unfold mirrorGood
  rw [h.1, h.2.1, h.2.2]
  exact congrArg Option.isNone c
theorem witness_joins : let j := twinAt twJOINING
    let s := twinAt twSERVING
    s.exchanging = false ∧ s.serves = true ∧ j.exchanging = false ∧ (s.modPart 1 (fun x => { x with xchg := (staging1.part 1).xchg })).exchanging = true ∧
      j.pairingOk = true ∧ (State.reset.pairingOk = false) ∧ j.joined = true ∧ j.twin.partnerAt = none ∧ 4800 ≤ j.tick.count ∧ j.twin.pairs = [] := by
  decide +kernel
theorem witness_decisions : let s := twinAt twSTANDBY
    let d (code : Nat) : Decision := ⟨5, 6, code, 2, 4800⟩
    let w (e : Decision) : State := { s with twin := { s.twin with decided := some e } }
    s.ourPair (d 1) = true ∧ s.ourPair ⟨5, 7, 1, 2, 0⟩ = false ∧ s.names (d 1) = true ∧ s.names (d 3) = true ∧ s.names (d 5) = true ∧
      s.twin.decided = none ∧ (w (d 3)).twin.decided = some (d 3) ∧ (w (d 3)).absNear (w32 4800) ≤ (w (d 3)).tick.abs ∧
      (w (d 3)).tick.abs < (w (d 3)).absNear (w32 4801) := by decide +kernel
theorem test_silence_acts_at_once : (after (.witnessDecisionReceived ⟨5, 6, 1, 2, 9000⟩) (twinAt twSERVING)).twinState = twSILENCED := by decide +kernel
/-- The witness of the pair 6 and 7, whose lower twin serves. -/
def pairOf (l h : Nat) : WitPair := ⟨6, 7, [⟨6, 0, l, false, true, 7, 0, 0, 0⟩], [⟨7, 0, h, false, true, 6, 0, 0, 0⟩], 0, 0, 0, 0, none, 0⟩
def State.watching (s : State) (p : WitPair) : State := { s with twin := { s.twin with pairs := [p] } }
theorem witness_witness : let s := ring.watching (pairOf twSTANDBY twSERVING)
    let gone := { pairOf twSTANDBY twSERVING with missH := 4800 }
    s.isWitness = true ∧ s.pairNo 5 = none ∧ (s.pairNo 6).map (fun e => e.1) = some 0 ∧
      s.extractCause (pairOf twSTANDBY twSERVING) 6 false = none ∧ s.extractCause (pairOf twSTANDBY twSERVING) 7 false = some 1 ∧
      stateOf gone.hl = twSTANDBY ∧ faultOf gone.hl = false ∧ 4800 ≤ gone.missH ∧ gone.missL = 0 ∧ (ring.watching gone).twin.decisions = [] ∧
      (ring.watching gone).twinOn = false := by decide +kernel

/-- A change named units 1 and 63; the lighthouse waits for them. -/
def State.changing (s : State) (c : Change) : State := s.setMulti (fun m => { m with change := some c })
def change0 : Change := ⟨[(1, [0]), (63, [127])], 4704, [63], none, [], false, 4752, none⟩
theorem witness_change : let s := ring.changing change0
    let x (n : Nat) : Change := { change0 with x := some n }
    (∀ b ∈ [1, 63], b ∈ luniq (change0.ready ++ [1])) ∧ (∃ b ∈ [1, 63], b ∉ luniq (change0.ready ++ [63])) ∧ s.multi.change = some change0 ∧
      change0.began + 96 ≤ s.tick.abs ∧ s.tick.abs < { change0 with began := 4705 }.began + 96 ∧ s.tick.abs < { change0 with sentAt := 4753 }.sentAt + 48 ∧
      (x 5040).committed = false ∧ s.tick.abs + 240 ≤ 5040 ∧ 5040 ≤ s.tick.abs + 240 ∧ (x 5040).sentAt ≠ 0 ∧ s.tick.abs + 240 < 5041 ∧
      (x 5040).sentAt + 48 ≤ s.tick.abs ∧ 4704 + 96 ≤ s.tick.abs ∧ s.tick.abs < 4705 + 96 := by decide +kernel
theorem witness_change_unit : let u (x : Option Nat) (c : Bool) : State := ring.setMulti (fun m => { m with unit := some ⟨[], x, c⟩ })
    let t := ({ ring with tick := { ring.tick with swapMulti := true } } : State).setReg R.TICK_SWAP_AT 0
    (u none false).multi.unit = some ⟨[], none, false⟩ ∧ 4848 ≤ (u (some 4848) false).tick.abs + 48 ∧ (u (some 4849) false).tick.abs + 48 < 4849 ∧
      (t.rewrite (!t.bankB)).checkBank t = none ∧ ring.flag R.TICK_STAT F.TICK_STAT_SWAP_PEND = false ∧ ring.xstate 127 ≠ xsARMED ∧
      (ring.setXstate 127 xsARMED).xstate 127 = xsARMED := by decide +kernel

/-! ### Vault, metrology, KEEP, backup domain -/

/-- A request block that gives its message at 64, output at 256 and 16 bytes of each. -/
def req0 : KeyReq := ⟨64, 16, 256, 64, 0, 0, 128, 0, 0, 5, 0, 0, 0⟩
/-- Slot 62 of partition 1 holds an AES key of every usage, its pending half verified; slot 5 is its own and EMPTY; window 0 is its window. -/
def keys0 : State :=
  let s := ((lamp0 1 [(1, 0x17FE0), (2, 62)]).setWin 0 7 (window .valid)).setSlot 62
    ⟨⟨ktAES, 0x3F, 5, false, List.replicate 32 7⟩, ⟨ktAES, 0x3F, 5, false, List.replicate 32 8⟩, true, none⟩
  let t := s.flds [(R.VAULT_SLOT 62, F.VAULT_SLOT_VALID, 1), (R.VAULT_SLOT 62, F.VAULT_SLOT_PART, 1), (R.VAULT_SLOT 5, F.VAULT_SLOT_VALID, 1),
    (R.VAULT_SLOT 5, F.VAULT_SLOT_PART, 1), (R.VAULT_ASYM_WIN 0, F.VAULT_ASYM_WIN_VALID, 1), (R.VAULT_ASYM_WIN 0, F.VAULT_ASYM_WIN_PART, 1)]
  t.writeNew 1 (dirWord 1 kMAILBOX 0 0 true) 6 []
def asym0 : AsymReq := ⟨koSIGN, 62, 0, 0, 0, [], [], [], 1, none, 0⟩
theorem witness_key_requests : let s := keys0
    s.coreOn = true ∧ (s.lamp 0).task = some (taskOf 1) ∧ (s.lamp 0).pend = none ∧ s.takes 0 always = true ∧ winOf (s.g 0 1).toNat = some 7 ∧
      (s.lamp 0).win[(7 : Fin 8)].st ≠ .poison ∧ (s.g 0 1).toNat % 4096 + 32 ≤ 4096 ∧ 4096 < (s.g 0 1).toNat % 4096 + 1 + 32 ∧ winOf 0 = none ∧
      s.keyRef 1 61 = none ∧ s.keyRef 1 62 = some (.slot 62) ∧ s.keyRef 1 5 = some (.slot 5) ∧ (s.slot 5).act.type = ktEMPTY ∧
      (s.slot 62).act.type ≠ ktEMPTY ∧ bit (s.slot 62).act.usage koENC = true ∧ req0.outOff + req0.outCap ≤ 4096 := by decide +kernel
theorem witness_key_uses : let s := keys0.setSlot 62 { keys0.slot 62 with act := ⟨ktAES, 1, 0, false, []⟩ }
    (s.slot 62).act.uses = 0 ∧ req0.fits koENC ktAES = true ∧ bit (s.slot 62).act.usage koDEC = false ∧ s.keyRef 1 62 = some (.slot 62) := by
  decide +kernel
theorem witness_entropy : State.reset.entropyOk = true ∧ (after .entropyFail State.reset).entropyOk = false ∧
    keys0.keyRef 1 req0.dest = some (.slot 5) ∧ req0.src = 0 := by decide +kernel
theorem witness_stage : let s := keys0
    (s.slot 62).verified = true ∧ (s.slot 5).verified = false ∧ (s.slot 5).pend.type = ktEMPTY ∧ (s.slot 62).pend.type = ktAES := by decide +kernel
theorem witness_asymmetric : let s := keys0
    let q : State := { s with vault := { s.vault with asym := [(1, asym0)] } }
    s.isInbox asym0.reply = true ∧ s.dirOwner asym0.reply = 1 ∧ s.hasWindow 1 = true ∧ s.hasWindow 2 = false ∧ tget s.vault.asym 1 = none ∧
      (tget q.vault.asym 1).isSome = true ∧ q.flag (R.VAULT_ASYM_WIN 0) F.VAULT_ASYM_WIN_VALID = true ∧
      (q.ticking 96).tick.abs % 96 / 12 = 0 ∧ asym0.since < (q.ticking 96).tick.abs - (q.ticking 96).tick.abs % 12 ∧
      (q.ticking 0).tick.abs - (q.ticking 0).tick.abs % 12 ≤ asym0.since := by decide +kernel
theorem test_shutter_without_key : (after (.shutter 0 []) State.reset).fld R.SW_SHUT_STAT F.SW_SHUT_STAT_LAST = shNO_KEY := by decide +kernel
theorem witness_vault_events : let s := keys0
    let u : State := { s with vault := { s.vault with unsealed := true } }
    let c : State := { s with vault := { s.vault with codes := [(127, ⟨[], 0, 0⟩)] } }
    s.fld (R.VAULT_DRV 127) F.VAULT_DRV_LIMIT ≤ 16 ∧ (List.range 128).foldl (fun k b => k + if b = 127 then 16 else s.fld (R.VAULT_DRV b) F.VAULT_DRV_LIMIT) 0 ≤ 1024 ∧
      u.vault.unsealed = true ∧ u.vault.asym = [] ∧ u.tamperZeroises 17 = true ∧ u.tamperZeroises 4 = false ∧ s.vault.unsealed = false ∧
      (s.setFlag R.ID_PWR_STAT F.ID_PWR_STAT_HOLD_OK true).flag R.ID_PWR_STAT F.ID_PWR_STAT_HOLD_OK = true ∧ tget c.vault.codes 127 = some ⟨[], 0, 0⟩ ∧
      0 + 414720000 ≤ (c.ticking 414720000).tick.count ∧ ({ s with rtc := { s.rtc with onCell := true } } : State).rtc.onCell = true := by decide +kernel
theorem test_tamper_zeroises : (after (.tamper 1) { keys0 with vault := { keys0.vault with unsealed := true } }).vault.slots = [] := by decide +kernel

/-- The metrology die runs with the given switch, and a frame stands before it. -/
def die0 (change : Bool) (f : LinkFrame) : State := (State.reset.setDie (fun d => { d with on := true, change := change })).setMet (fun m => { m with toDie := [f] })
theorem witness_metrology : let d := (die0 true ⟨lfCHG_REQ, 0, [80, 0, 0, 0, 0, 0, 0, 60]⟩).met.die
    let l := (die0 false ⟨lfLOG_REQ, 0, [0, 0, 0, 0]⟩).met.die
    d.on = true ∧ d.fault = false ∧ d.outOfUse 23 = false ∧ d.log.length < 1008 ∧ d.judge 80 60 = crOK ∧ d.judge 81 0 = crRANGE ∧ l.judge 80 60 = crLOCKED ∧
      (after .metroSupplyLoss State.reset).met.die.on = false ∧ (!d.cover) = true ∧ d.change = true ∧ ({ d with params := d.params.set 8 2 }.rangeOk 0 1) = false := by decide +kernel
theorem test_change_is_made : (after (.chgReq true) (die0 true ⟨lfCHG_REQ, 0, [80, 0, 0, 0, 0, 0, 0, 60]⟩)).met.die.par 80 = 60 := by decide +kernel
theorem test_change_while_locked : (after (.chgReq true) (die0 false ⟨lfCHG_REQ, 0, [80, 0, 0, 0, 0, 0, 0, 60]⟩)).met.die.refused = 1 := by decide +kernel
theorem witness_metrology_link : let s := State.reset
    let u := s.setFlag R.METL_STAT F.METL_STAT_LINK true
    let p := (s.writeNew 0 (dirWord 1 kIMAGE 0 0 true) 7 []).modPart 1 (fun x => { x with hdrs := [(0, ⟨lyWORD, 4, 8, 0, (List.range 8).map meterType⟩)] })
    s.coreOn = true ∧ (s.setMet (fun m => { m with toMain := [⟨lfMEAS, 0, []⟩] })).met.toMain = [⟨lfMEAS, 0, []⟩] ∧
      F.METL_CHG_CMD_GO.get (F.METL_CHG_CMD_GO.put 0 1) = 1 ∧ s.fld R.METL_CHG_STAT F.METL_CHG_STAT_RESULT ≠ crPENDING ∧
      s.flag R.METL_STAT F.METL_STAT_LINK = false ∧ u.flag R.METL_STAT F.METL_STAT_LINK = true ∧ u.met.meas = none ∧
      p.assignOk 0x81000000 = true ∧ s.assignOk 0x81000000 = false ∧ (p.reg (R.METL_ASSIGN 23)).getLsbD 31 = false ∧ s.pstate 1 = psFree ∧
      ({ s with err := { s.err with frozen := true } } : State).coreOn = false := by decide +kernel

/-- Ring 255 of partition 0: pages 64 and 65 for identifier 6, whose RETAIN tile stands dirty at location 0. -/
def keep0 : State :=
  let s := (State.reset.writeNew 0 (dirWord 0 kRETAIN 0 0 true) 6 []).flds [(R.KEEP_RING_CFG 255, F.KEEP_RING_CFG_VALID, 1),
    (R.KEEP_RING_CFG 255, F.KEEP_RING_CFG_SIZE, 2), (R.KEEP_RING_CFG 255, F.KEEP_RING_CFG_BASE, 64), (R.KEEP_RING_ID 255, ⟨0, 32⟩, 6)]
  { s with keep := { s.keep with dirty := [0] } }
theorem witness_rings : let s := keep0
    let a := s.setRing 255 { s.ring 255 with asked := true }
    let g := State.reset.setFld (R.KEEP_RING_GAP 0) F.KEEP_RING_GAP_MIN_GAP 1514765
    s.coreOn = true ∧ s.ringTile 255 = some 0 ∧ s.ringBound 255 = true ∧ s.ringDirty 255 = true ∧ s.ringPart 255 = 0 ∧ s.ringState 255 = rgEMPTY ∧
      a.ringAsked 255 = true ∧ s.ringAsked 255 = false ∧ a.ringStores 255 = true ∧ a.stepTick (0 / 64) = true ∧ a.ringWriting 255 = false ∧
      a.bankQ (0 / 64) = [] ∧ a.repBuf (0 / 64) = none ∧ (a.ring 255).capAt = none ∧ a.nextSlot 255 = some 0 ∧
      ({ s with keep := { s.keep with removed := [64] } } : State).ringState 255 = rgWORN ∧
      g.ringRefused 0 (F.KEEP_RING_CFG_SIZE.put 0x80000040 2) (g.reg (R.KEEP_RING_GAP 0)) = false ∧
      g.ringRefused 0 (F.KEEP_RING_CFG_SIZE.put 0x8000003F 2) (g.reg (R.KEEP_RING_GAP 0)) = true := by decide +kernel
theorem newRetain_mem (s : State) (pl : List Byte) (key : Word) (h : s.pkey 0 = key) :
    (s.writeNew 0 (dirWord 0 kRETAIN 0 0 true) 6 pl).mem = (s.setBytes (tileAddr 0) (sealTile pl 0 kRETAIN 0 6 0 key)).mem := by
  rw [← h]; rfl
theorem witness_ring_tile : keep0.sealFail 0 = none := by
  have k := State.bytes_setBytes_same State.reset (tileAddr 0) (sealTile [] 0 kRETAIN 0 6 0 0) (by decide)
  rw [sealTile_length] at k
  have m : keep0.mem = (State.reset.setBytes (tileAddr 0) (sealTile [] 0 kRETAIN 0 6 0 0)).mem := newRetain_mem State.reset [] 0 (by decide)
  have b : keep0.bytes (tileAddr 0) 4096 = sealTile [] 0 kRETAIN 0 6 0 0 := by
    rw [← k]
    exact congrArg (fun x => dread memReset x (tileAddr 0) 4096) m
  unfold State.sealFail
  rw [b, if_neg (by decide), if_pos (by decide)]
  exact checkBytes_sealTile _ 0 kRETAIN 0 6 0 0 (by decide) (by decide) (by decide) (by decide)
def write0 : KeepWrite := ⟨255, 0, 64, ⟨[], 0, 0, 6, 1, 0, 0, 0, false⟩, false⟩
theorem witness_page_write : let s : State := { keep0 with keep := { keep0.keep with writes := [write0] } }
    s.keep.writes = [write0] ∧ write0.rcd.cause ≠ 2 ∧ write0.retried = false ∧ 64 ≤ write0.page ∧ s.keep.subst = [] ∧ s.keep.spent = [] ∧
      s.dirGen 0 = write0.rcd.gen ∧ s.dirGen 0 ≠ { write0.rcd with gen := 1 }.gen := by decide +kernel

theorem witness_backup : let s := State.reset
    let u : State := { s with rtc := { s.rtc with locked := false, onCell := false } }
    let l := u.flds [(R.RTC_TIME, ⟨0, 32⟩, 0x06235959), (R.RTC_DATE, ⟨0, 32⟩, 0x23991231), (R.RTC_SET_TIME, ⟨0, 32⟩, 0x06000000), (R.RTC_SET_DATE, ⟨0, 32⟩, 0x20000101)]
    u.rtc.locked = false ∧ u.rtc.onCell = false ∧ l.rtcNow + 1 = rtcEnd ∧ rtcSeconds (l.reg R.RTC_SET_TIME) (l.reg R.RTC_SET_DATE) = some rtcFirst ∧
      rtcSeconds 0x06240000 0x20000101 = none ∧ u.flag R.RTC_ALM_CTRL F.RTC_ALM_CTRL_ARMED = false ∧
      (u.setFlag R.RTC_ALM_CTRL F.RTC_ALM_CTRL_ARMED true).flag R.RTC_ALM_CTRL F.RTC_ALM_CTRL_ARMED = true ∧
      rtcKey 0 0 < rtcKey 1 0 ∧ rtcKey 0 0 ≤ rtcKey 0 0 ∧ ({ s with rtc := { s.rtc with onCell := true } } : State).rtc.onCell = true := by decide +kernel

/-! ### Errors, freeze, Mooring -/

def rec0 (p : Nat) : ErrRec := ⟨0, 0, p, 0, 0, 0, cADDR, false, false, false, 0, 4, 5⟩
theorem witness_errors : let s := State.reset
    let q (n : Nat) : State := s.modPart 127 (fun x => { x with errq := { x.errq with recs := List.replicate n (rec0 127) } })
    let g (n lost : Nat) : State := ({ s with err := { s.err with glob := List.replicate n ⟨rec0 1, true⟩ } }).setFld R.ERR_GSTAT F.ERR_GSTAT_LOST lost
    ((q 15).part 127).errq.recs.length < 16 ∧ 16 ≤ ((q 16).part 127).errq.recs.length ∧ (g 63 0).err.glob.length < 64 ∧ (g 63 0).fld R.ERR_GSTAT F.ERR_GSTAT_LOST = 0 ∧
      64 ≤ (g 64 0).err.glob.length ∧ (g 63 1).fld R.ERR_GSTAT F.ERR_GSTAT_LOST ≠ 0 ∧ 62 < (g 63 1).err.glob.length ∧ (g 62 1).err.glob.length ≤ 62 ∧
      (g 1 0).err.glob[(g 1 0).fld R.ERR_GSEL ⟨0, 6⟩]? = some ⟨rec0 1, true⟩ := by decide +kernel
theorem witness_freeze : let s := State.reset.ticking 2880000
    let r := s.setFld R.ID_LC F.ID_LC_STATE 3
    let c := s.setFlag R.ERR_FRZ_STAT F.ERR_FRZ_STAT_CONSENT true
    let v : State := { s with boot := { s.boot with vref := true } }
    let m : State := { s with moor := { s.moor with freeze := some (1, 1, 2879520) } }
    r.freezeLife = true ∧ r.freezeIdle = true ∧ r.err.frozen = false ∧ s.freezeLife = false ∧ (r.setPf 1).freezeIdle = false ∧ v.boot.vref = true ∧
      s.boot.vref = false ∧ (v.boot.vref && (v.setFlag R.ERR_FRZ_CFG F.ERR_FRZ_CFG_PIN_EN true).flag R.ERR_FRZ_CFG F.ERR_FRZ_CFG_PIN_EN) = true ∧
      (s.setFlag R.ERR_FRZ_CFG F.ERR_FRZ_CFG_CMP_EN true).flag R.ERR_FRZ_CFG F.ERR_FRZ_CFG_CMP_EN = true ∧ s.absLo ≠ s.reg R.ERR_FRZ_TICK ∧
      (s.setReg R.ERR_FRZ_TICK 2880000).reg R.ERR_FRZ_TICK = s.absLo ∧ c.flag R.ERR_FRZ_STAT F.ERR_FRZ_STAT_CONSENT = true ∧
      c.err.consentAt + 2880000 ≤ c.tick.count ∧ (c.ticking 2879999).tick.count < c.err.consentAt + 2880000 ∧ m.moor.freeze = some (1, 1, 2879520) ∧
      2879520 + 480 ≤ m.tick.count ∧ (r.freezeTrigger 1 none 0xFF 0xFF).err.frozen = true := by decide +kernel
theorem test_frozen_core_stands : after .launch ((State.reset.setFld R.ID_LC F.ID_LC_STATE 3).freezeTrigger 1 none 0xFF 0xFF) =
    (State.reset.setFld R.ID_LC F.ID_LC_STATE 3).freezeTrigger 1 none 0xFF 0xFF := by rfl

/-- A session of a role and partition; the state holds it as session 7. -/
def sess0 (role part : Nat) (claim ready : Bool) : Session := ⟨role, part, ready, 0, claim, [1], [], [], [], [], 0, [0], 0, 0, [], [], 0, 0, ⟨false, 0, 0, 0⟩⟩
def State.moored (s : State) (x : Session) : State := s.setSession 7 x
def hd0 (type last : Nat) : List Byte := [0x4D, 0x4F, 1, BitVec.ofNat 8 type, 0xFF, BitVec.ofNat 8 last, 0, 0, 0, 0, 0, if type = 0 then 0 else 7] ++ List.replicate 12 0
theorem witness_datagrams : let s := ring.moored (sess0 roOWNER 0 false false)
    moorParse [] = none ∧ moorParse (hd0 0 0) = some ⟨0, 255, 0, 0, 0, 0⟩ ∧ moorParse (hd0 0 15) = some ⟨0, 255, 0, 15, 0, 0⟩ ∧
      moorParse (hd0 2 0) = some ⟨2, 255, 0, 0, 7, 0⟩ ∧ moorParse (hd0 4 0) = some ⟨4, 255, 0, 0, 7, 0⟩ ∧ s.forUs 255 = true ∧ s.forUs 6 = false ∧
      s.session 7 = some (sess0 roOWNER 0 false false) ∧ s.session 8 = none ∧ s.moor.opens = [] ∧ (sess0 roOWNER 0 false false).frags = [] ∧
      s.joined = true ∧ s.hawAddr = 5 ∧ State.reset.joined = false ∧ s.moor.relays.length < 32 ∧ 0 ∈ (sess0 roOWNER 0 false false).seqIn := by
  decide +kernel
theorem witness_open : let s := State.reset
    let b := ([BitVec.ofNat 8 roOWNER, 0, 0, 0] ++ List.replicate 32 0 ++ [4] ++ List.replicate 99 0 : List Byte)
    let c : CertChain := ⟨[1], [], true, none, 0, 10 ^ 12⟩
    (s.openRefused [] c).isSome = true ∧ b.length = 136 ∧ beNat (sub b 2 2) + 136 = b.length ∧ beNat (sub b 36 1) = 4 ∧ beNat (sub b 133 3) = 0 ∧
      s.setUps.length < 2 ∧ s.lcState = 0 ∧ (s.setFld R.ID_LC F.ID_LC_STATE 1).lcState = 1 ∧ roleFits 99 0 c.attr = false := by decide +kernel
theorem witness_session_ends : let s := (ring.moored (sess0 roOWNER 0 false false)).ticking 17280000
    s.session (7#32).toNat = some (sess0 roOWNER 0 false false) ∧ 0 + 4800 ≤ s.tick.count ∧ 0 + 288000 ≤ s.tick.count ∧ 0 + 17280000 ≤ s.tick.count ∧
      (s.ticking 4799).tick.count < 0 + 4800 ∧ (s.ticking 287999).tick.count < 0 + 288000 ∧ (s.ticking 47).tick.count < 0 + 48 := by decide +kernel
/-- A TENANT session of partition 1 and an OWNER session. -/
theorem witness_program_commands : let t := State.reset.moored (sess0 roTENANT 1 false true)
    let b : MoorBy := ⟨7, 1, roTENANT, 1⟩
    let o := State.reset.moored (sess0 roOWNER 0 false true)
    t.coreOn = true ∧ t.session (7#32).toNat = some (sess0 roTENANT 1 false true) ∧ (sess0 roTENANT 1 false true).openReqs.length < 4 ∧ t.mPart b = some 1 ∧
      (t.setPstate 1 psIdle).pstate 1 ≠ psFree ∧ (t.setPstate 1 psIdle).pstate 1 ≠ psZeroising ∧ (t.part 1).xfer = none ∧ (t.part 1).received = none ∧
      (imgHead []).isNone = true ∧ (t.part 1).coldLoad = none ∧ (t.setXstate 1 xsSTAGED).xstate 1 = xsSTAGED ∧ (t.setXstate 1 xsARMED).xstate 1 = xsARMED ∧
      t.forceRefused 1 0 0 = some 3 ∧ t.forceShared 1 = false ∧ o.mPart ⟨7, 1, roOWNER, 0⟩ = some 0 ∧
      (State.reset.moored (sess0 roSAFETY 0 false true)).mPart ⟨7, 1, roSAFETY, 0⟩ = none ∧ t.stepsWait 1 = false := by decide +kernel
theorem witness_forces : let s := ((State.reset.moored (sess0 roTENANT 1 false true)).writeNew 0 (dirWord 1 kIMAGE 8 0 true) 7 []).modPart 1 (fun x => { x with hdrs := [(0, ⟨lyBIT, 0, 1, 0, []⟩)] })
    s.forceRefused 1 7 0 = none ∧ s.forceRefused 1 7 1 = some 3 := by decide +kernel
theorem witness_module_commands : let at' (role part : Nat) (claim : Bool) : State := State.reset.moored (sess0 role part claim true)
    let by' (role part : Nat) : MoorBy := ⟨7, 1, role, part⟩
    (at' roSAFETY 0 false).mRole (by' roSAFETY 0) roSAFETY = true ∧ (at' roOWNER 0 false).mRole (by' roOWNER 0) roOWNER = true ∧
      (at' roSERVICE 0 false).mRole (by' roSERVICE 0) roSERVICE = true ∧ (at' roTENANT 1 false).mRole (by' roTENANT 1) roOWNER = false ∧
      State.reset.safe.unlock = none ∧ State.reset.nopw = true ∧ (State.reset.setFlag R.SAFE_STAT F.SAFE_STAT_NOPW false).nopw = false ∧
      State.reset.safe.lockedAt = none ∧ State.reset.pstate 1 = psFree ∧ State.reset.entropyOk = true ∧ State.reset.boot.lcTo = none ∧
      (State.reset.setFld R.ID_LC F.ID_LC_STATE 1).lcState = 1 ∧ ring.lighthouse = true ∧ (ring.changing change0).multi.change.isSome = true ∧
      ring.multi.change = none ∧ State.reset.moor.freeze = none ∧ State.reset.twinOn = false ∧ (twinAt twSTANDBY).twinOn = true ∧
      State.reset.slotOwner 5 ≠ some 1 ∧ keys0.slotOwner 5 = some 1 ∧ stageOk 5 ktAES 3 = true ∧ State.reset.anchor 0 = none ∧
      tget State.reset.vault.codes 1 = none ∧ (State.reset.ticking 84).tick.abs % 96 / 12 = 7 ∧ State.reset.moor.work = [] := by decide +kernel
theorem test_wrong_code_is_counted : (tget (after (.tenantClaim 7 1 (List.replicate 16 1)) ((State.reset.moored (sess0 roTENANT 1 true true)).setVault
    (fun v => { v with codes := [(1, ⟨List.replicate 16 0, 0, 0⟩)] }))).vault.codes 1).map (fun c => c.wrong) = some 1 := by decide +kernel
theorem test_third_wrong_code_voids : tget (after (.tenantClaim 7 1 (List.replicate 16 1)) ((State.reset.moored (sess0 roTENANT 1 true true)).setVault
    (fun v => { v with codes := [(1, ⟨List.replicate 16 0, 0, 2⟩)] }))).vault.codes 1 = none := by decide +kernel
theorem test_nop_answers : (after (.moorNop 7 1 []) (State.reset.moored (sess0 roOWNER 0 false true))).out = [.reply 7 1 msOK true []] := by decide +kernel

/-! ### Ill-formed commands -/

/-- A Mooring request whose data would not fit its LEN. -/
theorem test_wf_requests (args : List Byte) : (Instr.moorNop 1 1 args).wellFormed = requestData args ∧ (Instr.moorClose 1 1 args).wellFormed = requestData args ∧ (Instr.regRead 1 1
    args).wellFormed = requestData args ∧ (Instr.regWrite 1 1 args).wellFormed = requestData args ∧ (Instr.imgBegin 1 1 args).wellFormed =
    requestData args ∧ (Instr.imgData 1 1 args).wellFormed = requestData args ∧ (Instr.imgEnd 1 1 args).wellFormed = requestData args ∧
    (Instr.imgAbort 1 1 args).wellFormed = requestData args ∧ (Instr.coldLoad 1 1 args).wellFormed = requestData args ∧ (Instr.xchgStage 1 1
    args).wellFormed = requestData args ∧ (Instr.xchgArm 1 1 args).wellFormed = requestData args ∧ (Instr.xchgDisarm 1 1 args).wellFormed =
    requestData args ∧ (Instr.xchgDiscard 1 1 args).wellFormed = requestData args ∧ (Instr.xchgStatus 1 1 args).wellFormed = requestData args ∧
    (Instr.xchgSafetyAuth 1 1 args).wellFormed = requestData args ∧ (Instr.multiChange 1 1 args).wellFormed = requestData args ∧ (Instr.forceSet
    1 1 args).wellFormed = requestData args ∧ (Instr.forceClear 1 1 args).wellFormed = requestData args ∧ (Instr.forceList 1 1 args).wellFormed
    = requestData args ∧ (Instr.partStatus 1 1 args).wellFormed = requestData args ∧ (Instr.tileRead 1 1 args).wellFormed = requestData args ∧
    (Instr.rstore 1 1 args).wellFormed = requestData args ∧ (Instr.errRead 1 1 args).wellFormed = requestData args ∧ (Instr.errClear 1 1
    args).wellFormed = requestData args ∧ (Instr.errCfg 1 1 args).wellFormed = requestData args ∧ (Instr.logRead 1 1 args).wellFormed =
    requestData args ∧ (Instr.logFree 1 1 args).wellFormed = requestData args ∧ (Instr.timeRestep 1 1 args).wellFormed = requestData args ∧
    (Instr.lampSelftest 1 1 args).wellFormed = requestData args ∧ (Instr.moorExtract 1 1 args).wellFormed = requestData args ∧
    (Instr.freezeConsent 1 1 args).wellFormed = requestData args ∧ (Instr.readoutConsent 1 1 args).wellFormed = requestData args ∧
    (Instr.keyStage 1 1 args).wellFormed = requestData args ∧ (Instr.keyVerify 1 1 args).wellFormed = requestData args ∧ (Instr.keyCommit 1 1
    args).wellFormed = requestData args ∧ (Instr.attest 1 1 args).wellFormed = requestData args ∧ (Instr.anchorReplace 1 1 args).wellFormed =
    requestData args ∧ (Instr.openTenancy 1 1 args).wellFormed = requestData args ∧ (Instr.tenantClaim 1 1 args).wellFormed = requestData args ∧
    (Instr.claimOwner 1 1 args).wellFormed = requestData args ∧ (Instr.lcField 1 1 args).wellFormed = requestData args ∧ (Instr.lcReturn 1 1
    args).wellFormed = requestData args ∧ (Instr.lcDecommission 1 1 args).wellFormed = requestData args ∧ (Instr.safeUnlock 1 1 args).wellFormed
    = requestData args ∧ (Instr.safePassword 1 1 args).wellFormed = requestData args ∧ (Instr.safeLogRead 1 1 args).wellFormed = requestData
    args :=
  ⟨rfl, rfl, rfl, rfl, rfl, rfl, rfl, rfl, rfl, rfl, rfl, rfl, rfl, rfl, rfl, rfl, rfl, rfl, rfl, rfl, rfl, rfl, rfl, rfl, rfl, rfl, rfl, rfl,
    rfl, rfl, rfl, rfl, rfl, rfl, rfl, rfl, rfl, rfl, rfl, rfl, rfl, rfl, rfl, rfl, rfl, rfl⟩
theorem witness_wf_requests : requestData (List.replicate 65536 0) = false := by
  unfold requestData
  rw [List.length_replicate]
  exact decide_eq_false (Nat.lt_irrefl _)
/-- A datagram of more than 1,400 bytes, and a path at a switch port that does not exist. -/
theorem test_wf_datagrams (p : MoorPath) (d : List Byte) (h : 1400 < d.length) : (Instr.moorOpen p d).wellFormed = false ∧
    (Instr.moorConfirm p d).wellFormed = false ∧ (Instr.moorRecord p d).wellFormed = false ∧ (Instr.moorRelay p d).wellFormed = false ∧
    (Instr.shutter 0 d).wellFormed = false := by
  have g : datagramLen d = false := by simp [datagramLen]; omega
  have w (b : Bool) : (b && datagramLen d) = false := by rw [g, Bool.and_false]
  exact ⟨w _, w _, w _, w _, g⟩
theorem test_wf_paths : ([.moorOpen ⟨false, 0, 0, 40⟩ [], .moorConfirm ⟨false, 0, 0, 40⟩ [], .moorRecord ⟨true, 64, 0, 0⟩ [], .moorRelay ⟨false, 0, 65536, 0⟩ [],
    .relayEntryExpiry ⟨false, 0, 0, 40⟩ 1, .reassemblyTimeout ⟨true, 64, 0, 0⟩ 1] : List Instr).all (fun i => !i.wellFormed) = true := by decide
theorem test_wf_tiles : ([.repairSourceDelivered 0 [(4096, 1)], .lanyardTile lanRec0 [(1, 1), (0, 1)], .repairAns lanRec0 [(0, 0)]] : List Instr).all
    (fun i => !i.wellFormed) = true := by decide
theorem test_wf_frames : ([.canFrameReceived 0 { canFrame0 with ident := 0x800 }, .canFrameReceived 0 { canFrame0 with data := List.replicate 9 0 },
    .canFrameReceived 0 { canFrame0 with fmt := 1, rtr := true }, .canFrameReceived 0 { canFrame0 with fmt := 2, data := [] },
    .exchangeRecordReceived 0 { record0 with npoints := 1 }, .beaconReceived 0 { beacon0 with tick := 4800 },
    .mgmtPacketReceived 0 ⟨0, 256, 0, 0, 0, [], true⟩, .lstate lanRec0 [⟨64, 0, 0, 0, 0⟩], .twinConfig lanRec0 (.program 128 ⟨0, 0, [], [], [], [], [], [], []⟩ [] true),
    .witnessDecisionReceived ⟨5, 6, 8, 0, 0⟩, .lanyardForce lanRec0 0 true 0 32768 0] : List Instr).all (fun i => !i.wellFormed) = true := by decide
theorem test_wf_units : ([.enumReceived 0 [⟨0, none, none, none, 64, false, false⟩], .enumCollected [] [⟨2 ^ 64, none, none, none, 0, false, false⟩],
    .assignEffect ⟨[⟨0, some 64, 0, 0⟩], 0, none, none, []⟩, .multiPrepare [128], .multiCollectEnd [64],
    .landing ⟨0, 0, 0, 0, [(4, 0)], [], 0, 0⟩, .measIntervalEnd ⟨false, [], 0, [], []⟩, .provision 0 0 [] []] : List Instr).all
    (fun i => !i.wellFormed) = true := by decide
theorem test_wf_lengths (f : RxFrame) (c : List Byte) (hf : 9212 < f.bytes.length) (hc : 4096 < c.length) :
    (Instr.frameReceived f).wellFormed = false ∧ (Instr.uartFrameReceived 0 c 0 0 0).wellFormed = false := by
  exact ⟨decide_eq_false (by omega), decide_eq_false (by omega)⟩

/-! ### The CRC (R107) -/

theorem test_crc_of_nothing : crc32c [] = 0 := by decide
theorem test_crc_check_value : crc32c [0x31, 0x32, 0x33, 0x34, 0x35, 0x36, 0x37, 0x38, 0x39] = 0xE3069283 := by decide +kernel

/-! ### Reset (tables of the register chapters) -/

theorem test_reset_words : State.reset.reg (R.SAFE_SI_CFG 2) = 0x00281E00 ∧ State.reset.reg (R.SAFE_SI_CFG 3) = 0x1E00 ∧
    State.reset.reg (R.ENG_LAMP 59) = 59 ∧ State.reset.reg (R.ENG_LAMP 60) = 0x1003C ∧ State.reset.fld R.ENG_SPARE F.ENG_SPARE_COUNT = 4 := by
  decide +kernel

end
end Sys2Proof.Machine
end

/-!
SUPPORT. R107's CRC-32C as a register of 32 bits, that the model's CRC over numbers is its value, and where a sealed tile carries it.
-/
namespace Sys2Proof.Machine

/-- One shift of R107's register: the reflected polynomial goes in where the bit shifted out is 1. -/
def crcShift (c : BitVec 32) : BitVec 32 := if c.getLsbD 0 then (c >>> 1) ^^^ 0x82F63B78#32 else c >>> 1

/-- One byte into R107's register: XORed in, then eight shifts. -/
def crcFeed (c : BitVec 32) (b : Byte) : BitVec 32 :=
  crcShift (crcShift (crcShift (crcShift (crcShift (crcShift (crcShift (crcShift (c ^^^ b.zeroExtend 32))))))))

theorem toNat_crcShift (c : BitVec 32) : (crcShift c).toNat = crcBit c.toNat := by
  have hlow : c.getLsbD 0 = true ↔ c.toNat % 2 = 1 := by simp [BitVec.getLsbD, Nat.testBit_zero]
  have hshift : (c >>> 1).toNat = c.toNat / 2 := by simp [Nat.shiftRight_eq_div_pow]
  by_cases h : c.toNat % 2 = 1
  · rw [crcShift, crcBit, if_pos (hlow.2 h), if_pos h, BitVec.toNat_xor, hshift, BitVec.toNat_ofNat]
  · rw [crcShift, crcBit, if_neg (mt hlow.1 h), if_neg h, hshift]

theorem toNat_crcFeed (c : BitVec 32) (b : Byte) : (crcFeed c b).toNat = crcByte c.toNat b.toNat := by
  have hb : (b.zeroExtend 32).toNat = b.toNat := BitVec.toNat_setWidth_of_le (by decide)
  simp only [crcFeed, crcByte, toNat_crcShift, BitVec.toNat_xor, hb]

theorem crcRun_cons (c : Nat) (b : Byte) (t : List Byte) : crcRun c (b :: t) = crcRun (crcByte c b.toNat) t := rfl

theorem toNat_foldl_crcFeed (bs : List Byte) (c : BitVec 32) : (bs.foldl crcFeed c).toNat = crcRun c.toNat bs := by
  induction bs generalizing c with
  | nil => rfl
  | cons b t ih => rw [List.foldl_cons, ih, toNat_crcFeed, crcRun_cons]

theorem crc32c_eq_toNat (bs : List Byte) : crc32c bs = (bs.foldl crcFeed 0xFFFFFFFF#32 ^^^ 0xFFFFFFFF#32).toNat := by
  rw [crc32c, BitVec.toNat_xor, toNat_foldl_crcFeed, BitVec.toNat_ofNat]

/-- The model's CRC is R107's: the register folded over the bytes from all ones, and a final XOR with all ones. -/
theorem ofNat_crc32c (bs : List Byte) : BitVec.ofNat 32 (crc32c bs) = bs.foldl crcFeed 0xFFFFFFFF#32 ^^^ 0xFFFFFFFF#32 := by
  rw [crc32c_eq_toNat, BitVec.ofNat_toNat, BitVec.setWidth_eq]

theorem crc32c_check_value : crc32c [0x31, 0x32, 0x33, 0x34, 0x35, 0x36, 0x37, 0x38, 0x39] = 0xE3069283 := by decide +kernel

/-- R107's polynomial is 0x1EDC_6F41 read from its other end. -/
theorem crcPoly_reflected : ∀ i, i < 32 → (0x82F63B78#32).getLsbD i = (0x1EDC6F41#32).getLsbD (31 - i) := by decide

theorem leBytes_getD (n v i : Nat) (h : i < n) : (leBytes n v).getD i 0 = BitVec.ofNat 8 (v / 2 ^ (8 * i)) := by
  induction n generalizing v i with
  | zero => omega
  | succ n ih =>
    cases i with
    | zero => simp [leBytes]
    | succ j =>
      have hdiv : v / 256 / 2 ^ (8 * j) = v / 2 ^ (8 * (j + 1)) := by rw [Nat.div_div_eq_div_mul, Nat.mul_succ, Nat.add_comm, Nat.pow_add]
      rw [leBytes, List.getD_cons_succ, ih (v / 256) j (by omega), hdiv]

/-- A sealed tile is its bytes 0 to 4091 and then their CRC, least significant byte first (R106, R107). -/
theorem sealTile_eq_take_append_crc (payload : List Byte) (owner kind flags ident : Nat) (gen key : Word) :
    let t := sealTile payload owner kind flags ident gen key
    t = t.take 4092 ++ leBytes 4 (crc32c (t.take 4092)) := by
  have hlen : (sub payload 0 4064 ++ sealHead owner kind flags ident gen key).length = 4092 := by
    rw [List.length_append, sub_length, sealHead_length]
  simp only [sealTile, List.take_left' hlen]

theorem sealTile_getD_crc (payload : List Byte) (owner kind flags ident : Nat) (gen key : Word) (i : Nat) (hi : i < 4) :
    let t := sealTile payload owner kind flags ident gen key
    t.getD (4092 + i) 0 = BitVec.ofNat 8 (crc32c (t.take 4092) / 2 ^ (8 * i)) := by
  intro t
  have hlen : (t.take 4092).length = 4092 := by rw [List.length_take, sealTile_length]; rfl
  calc t.getD (4092 + i) 0
      = (t.take 4092 ++ leBytes 4 (crc32c (t.take 4092))).getD (4092 + i) 0 :=
        congrArg (·.getD (4092 + i) 0) (sealTile_eq_take_append_crc payload owner kind flags ident gen key)
    _ = (leBytes 4 (crc32c (t.take 4092))).getD i 0 := by
        rw [List.getD_append_right _ _ _ _ (by omega), hlen, Nat.add_sub_cancel_left]
    _ = BitVec.ofNat 8 (crc32c (t.take 4092) / 2 ^ (8 * i)) := leBytes_getD 4 _ i hi

/-- Check 3 of R116: bytes whose CRC is not the one they carry fail, whatever the directory entry. -/
theorem checkBytes_of_crc_ne (b : List Byte) (owner kind flags ident : Nat) (gen : Word) (h : crc32c (b.take 4092) ≠ leAt b 4092 4) :
    checkBytes b owner kind flags ident gen = some wcCRC := if_pos h

theorem sealFail_of_dirValid (s : State) (loc : Nat) (hv : s.dirValid loc = true) (hd : s.tiles.dirBad.contains loc = false) :
    s.sealFail loc = checkBytes (s.bytes (tileAddr loc) 4096) (s.dirOwner loc) (s.dirKind loc) (s.dirFlags loc) (s.dirIdent loc)
      (s.dirGen loc) := by
  simp only [State.sealFail, hv, hd, Bool.false_eq_true, if_false, if_true]

/-- Settles O58: the model's bit step over numbers is R107's over 32-bit words, and a seal ends in the CRC of what stands before it. -/
theorem tileChecksum : Obligations.TileChecksum := by
  unfold Obligations.TileChecksum
  refine ⟨fun bs => ⟨ofNat_crc32c bs, crc32c_lt bs⟩, crcPoly_reflected, crc32c_check_value, ?_, ?_⟩
  · intro payload owner kind flags ident gen key
    exact ⟨sealTile_length payload owner kind flags ident gen key, sealTile_getD_crc payload owner kind flags ident gen key⟩
  · intro s loc _ hv hd hne
    rw [sealFail_of_dirValid s loc hv hd, checkBytes_of_crc_ne _ _ _ _ _ _ hne]

end Sys2Proof.Machine

/-!
SUPPORT. The address faults of a scan-evaluated instruction (R176): what it does where its predicate is true and the address it
scans is outside the windows, misaligned, or in a POISON window.
-/
namespace Sys2Proof.Machine

/-- R174's instructions, each with the reset or load predicate that it reads; 0 where the form has none. -/
def scanForms (l : Fin 64) (q : PQ) (pd ps rp : Fin 8) (ra rb : Fin 32) : List (Instr × Fin 8) :=
  [(.ton l q pd ps ra rb, 0), (.tof l q pd ps ra rb, 0), (.tp l q pd ps ra rb, 0), (.ctu l q pd ps ra rb rp, rp),
    (.ctd l q pd ps ra rb rp, rp), (.edgeup l q pd ps ra rb, 0), (.edgedn l q pd ps ra rb, 0)]

/-- The instruction word in the record of a scan-evaluated instruction's exception. -/
def scanWord (q : PQ) (type : Nat) (pd ps rp : Fin 8) (ra rb : Fin 32) : Word :=
  wordScan 0x1C pd.val ps.val ra.val rb.val (type + 8 * rp.val) q

/-- A command whose arm is a scan in the CORE domain answers that scan while CORE runs. -/
theorem exec_eq_scanIns_of_onCore {s : State} {i : Instr} {l : Nat} {q : PQ} {type : Nat} {pd ps rp : Fin 8} {ra rb : Fin 32}
    {ev : TaskCtx → State → Bool → Inst → Inst × Bool} (hs : s.coreOn = true)
    (harm : exec i s = s.onCore (fun s => s.scanIns l q type pd ps rp ra rb ev)) :
    ∃ type ev, exec i s = .next (s.scanIns l q type pd ps rp ra rb ev) :=
  ⟨type, ev, by rw [harm, State.onCore, if_pos hs]⟩

/-- While CORE runs, each of R174's instructions is a scan of one type and evaluation. -/
theorem exec_scanForms {s : State} {l : Fin 64} {q : PQ} {pd ps rp : Fin 8} {ra rb : Fin 32} (hs : s.coreOn = true) :
    ∀ e ∈ scanForms l q pd ps rp ra rb, ∃ type ev, exec e.1 s = .next (s.scanIns l q type pd ps e.2 ra rb ev) := by
  simp only [scanForms, List.forall_mem_cons, List.not_mem_nil, false_imp_iff, implies_true, and_true]
  exact ⟨exec_eq_scanIns_of_onCore hs rfl, exec_eq_scanIns_of_onCore hs rfl, exec_eq_scanIns_of_onCore hs rfl,
    exec_eq_scanIns_of_onCore hs rfl, exec_eq_scanIns_of_onCore hs rfl, exec_eq_scanIns_of_onCore hs rfl,
    exec_eq_scanIns_of_onCore hs rfl⟩

/-- An instruction of Mitrane-S whose predicate is true: its effect on the settled state, then the PC (R142, R191). -/
theorem State.instr_of_takes {s : State} {l : Nat} {q : PQ} {ps : List (Fin 8)} {t : TaskCtx} (word : Word) (len : Nat)
    (body : TaskCtx → State → State) (ht : (s.lamp l).task = some t) (hq : (s.settleP l (q.p :: ps)).takes l q = true) :
    s.instr l q word len true ps body = (body t (s.settleP l (q.p :: ps))).advance l len := by
  simp only [State.instr, ht, hq, Bool.not_true, Bool.and_false, Bool.false_eq_true, if_false, if_true]

theorem State.poisonHit_of_told {s : State} {l : Nat} {w : Fin 8} (word : Word) (a : Nat) (h : (s.lamp l).win[w].told = true) :
    s.poisonHit l w word a = s := if_pos h

theorem State.poisonHit_of_not_told {s : State} {l : Nat} {w : Fin 8} (word : Word) (a : Nat) (h : (s.lamp l).win[w].told = false) :
    s.poisonHit l w word a = (s.raise l cSEAL word (s.lamp l).win[w].cause (s.lamp l).win[w].loc a).setWin l w
      { (s.lamp l).win[w] with told := true } := if_neg (ne_true_of_eq_false h)

/-- Outside the error handler an exception is one record in the queue of the task's partition (R507). -/
theorem State.raise_of_not_handler {s : State} {l : Nat} {t : TaskCtx} (cls : Nat) (word : Word) (b4 loc addr : Nat)
    (ht : (s.lamp l).task = some t) (hh : t.handler = false) :
    s.raise l cls word b4 loc addr =
      s.log ⟨cls, t.part, l, none, 0, false, w32 addr, insDetail word b4 loc⟩ (some t.part) false := by
  simp only [State.raise, ht, hh, Bool.false_and, Bool.false_eq_true, if_false]

section
variable {s : State} {l : Nat} {q : PQ} {type : Nat} {pd ps rp : Fin 8} {ra rb : Fin 32}
  {ev : TaskCtx → State → Bool → Inst → Inst × Bool} {t : TaskCtx} {u : State} {a : Nat} {w : Fin 8}

/-- The address is tested against the windows before its alignment (log entry 39). -/
theorem State.scanIns_of_outside (hu : s.settleP l [q.p, pd, ps, rp] = u) (ht : (s.lamp l).task = some t) (hq : u.takes l q = true)
    (ha : (u.g l ra).toNat = a) (hw : winOf a = none) :
    s.scanIns l q type pd ps rp ra rb ev =
      ((u.raise l cADDR (scanWord q type pd ps rp ra rb) 0 0 a).setP l pd false).advance l 1 := by
  subst hu ha
  simp only [State.scanIns, State.instr_of_takes _ _ _ ht hq, hw, scanWord]

theorem State.scanIns_of_misaligned (hu : s.settleP l [q.p, pd, ps, rp] = u) (ht : (s.lamp l).task = some t) (hq : u.takes l q = true)
    (ha : (u.g l ra).toNat = a) (hw : winOf a = some w) (hal : a % 16 ≠ 0) :
    s.scanIns l q type pd ps rp ra rb ev =
      (((u.settleW l w).raise l cALIGN (scanWord q type pd ps rp ra rb) 0 0 a).setP l pd false).advance l 1 := by
  subst hu ha
  simp only [State.scanIns, State.instr_of_takes _ _ _ ht hq, hw, if_pos hal, scanWord]

theorem State.scanIns_of_poison (hu : s.settleP l [q.p, pd, ps, rp] = u) (ht : (s.lamp l).task = some t) (hq : u.takes l q = true)
    (ha : (u.g l ra).toNat = a) (hw : winOf a = some w) (hal : a % 16 = 0) (hp : ((u.settleW l w).lamp l).win[w].st = .poison) :
    s.scanIns l q type pd ps rp ra rb ev =
      (((u.settleW l w).poisonHit l w (scanWord q type pd ps rp ra rb) a).setP l pd false).advance l 1 := by
  have hbeq : (((u.settleW l w).lamp l).win[w].st == WinState.poison) = true := beq_iff_eq.2 hp
  subst hu ha
  simp only [State.scanIns, State.instr_of_takes _ _ _ ht hq, hw, if_neg (not_not.2 hal), if_pos hbeq, scanWord]

end

/-- Settles O59: each form is a scan, and a scan tests the window, then the alignment, then POISON, before it reads a byte. -/
theorem scanAddressFaults : Obligations.ScanAddressFaults := by
  unfold Obligations.ScanAddressFaults
  intro s l q pd ps rp ra rb hs htask e he u a hq
  obtain ⟨t, ht⟩ := Option.isSome_iff_exists.1 htask
  obtain ⟨type, ev, hexec⟩ := exec_scanForms hs e he
  rw [hexec]
  refine ⟨fun hw => ⟨_, congrArg _ (State.scanIns_of_outside rfl ht hq rfl hw)⟩, fun w hw => ?_⟩
  intro v
  refine ⟨fun hal => ⟨_, congrArg _ (State.scanIns_of_misaligned rfl ht hq rfl hw hal)⟩, fun hal hp htold => ?_, fun hal hp htold => ?_, ?_⟩
  · exact ⟨_, by rw [State.scanIns_of_poison rfl ht hq rfl hw hal hp, State.poisonHit_of_not_told _ _ htold]⟩
  · rw [State.scanIns_of_poison rfl ht hq rfl hw hal hp, State.poisonHit_of_told _ _ htold]
  · intro x cls addr b loc word hx hh
    rw [State.raise_of_not_handler cls word b loc addr hx hh]
    exact ⟨State.log_mem .., State.log_lamps ..⟩

end Sys2Proof.Machine

/-!
SUPPORT. What every step keeps, and the state at reset.
-/
namespace Sys2Proof.Machine

/-! ### Every command -/

/-- Every command answers a next state that keeps the queue and the stores' canonical form: the law of its own meaning. -/
theorem exec_keeps (c : Instr) (s : State) : OutKeeps s (exec c s) := by
  cases c with
  | cageModulePresent cage x => exact execCageModulePresent_keeps cage x s
  | transceiverRemoved cage => exact execTransceiverRemoved_keeps cage s
  | probeVrefChange up => exact execProbeVrefChange_keeps up s
  | seatDebounceDone => exact execSeatDebounceDone_keeps s
  | notSeatedTimeout => exact execNotSeatedTimeout_keeps s
  | strapChanged => exact execStrapChanged_keeps s
  | extractReqAsserted => exact execExtractReqAsserted_keeps s
  | extractReqReleased => exact execExtractReqReleased_keeps s
  | extractConsent => exact execExtractConsent_keeps s
  | extractRefused partnerServing => exact execExtractRefused_keeps partnerServing s
  | extractConsentTimeout => exact execExtractConsentTimeout_keeps s
  | extractReady => exact execExtractReady_keeps s
  | extractRefusedLedEnd => exact execExtractRefusedLedEnd_keeps s
  | extractUnplanned => exact execExtractUnplanned_keeps s
  | witnessExtractRequest src both => exact execWitnessExtractRequest_keeps src both s
  | vfldConnect => exact execVfldConnect_keeps s
  | vfldLow => exact execVfldLow_keeps s
  | vfldOv => exact execVfldOv_keeps s
  | vsoConnect => exact execVsoConnect_keeps s
  | vsoLow => exact execVsoLow_keeps s
  | vsoOv => exact execVsoOv_keeps s
  | v24Ov => exact execV24Ov_keeps s
  | pfDip => exact execPfDip_keeps s
  | dipRecovered => exact execDipRecovered_keeps s
  | pfCommit low => exact execPfCommit_keeps low s
  | pfDown => exact execPfDown_keeps s
  | holdOkReached emptied => exact execHoldOkReached_keeps emptied s
  | resetRelease inp => exact execResetRelease_keeps inp s
  | bootTimeout => exact execBootTimeout_keeps s
  | standaloneStart => exact execStandaloneStart_keeps s
  | startTick => exact execStartTick_keeps s
  | pllLockLoss => exact execPllLockLoss_keeps s
  | clkTick => exact execClkTick_keeps s
  | landing inp => exact execLanding_keeps inp s
  | slotEntry l slot => exact execSlotEntry_keeps l slot s
  | overrun l => exact execOverrun_keeps l s
  | launch => exact execLaunch_keeps s
  | tripRepeatDue j => exact execTripRepeatDue_keeps j s
  | stretchedTick => exact execStretchedTick_keeps s
  | swap => exact execSwap_keeps s
  | cancel => exact execCancel_keeps s
  | swapCheck => exact execSwapCheck_keeps s
  | swapActivate => exact execSwapActivate_keeps s
  | registerWrite a w => exact execRegisterWrite_keeps a w s
  | readClear a => exact execReadClear_keeps a s
  | tsAlloc loc link => exact execTsAlloc_keeps loc link s
  | tsFree loc => exact execTsFree_keeps loc s
  | bankStep b => exact execBankStep_keeps b s
  | repairSourceDelivered b tile => exact execRepairSourceDelivered_keeps b tile s
  | repairSourceTimeout b => exact execRepairSourceTimeout_keeps b s
  | scrub => exact execScrub_keeps s
  | mbxBind m w => exact execMbxBind_keeps m w s
  | tileOpComplete l => exact execTileOpComplete_keeps l s
  | spareCountWrite v => exact execSpareCountWrite_keeps v s
  | selftestStart pos => exact execSelftestStart_keeps pos s
  | selftestPassDone pos ok => exact execSelftestPassDone_keeps pos ok s
  | lampMigrationStart pos => exact execLampMigrationStart_keeps pos s
  | codePageCopy l page => exact execCodePageCopy_keeps l page s
  | partAllot part owner => exact execPartAllot_keeps part owner s
  | partStart part owner => exact execPartStart_keeps part owner s
  | partStop part owner => exact execPartStop_keeps part owner s
  | partRestart part owner => exact execPartRestart_keeps part owner s
  | endTenancy part owner => exact execEndTenancy_keeps part owner s
  | partitionRunning part => exact execPartitionRunning_keeps part s
  | zeroisationDone part => exact execZeroisationDone_keeps part s
  | evtRouteWrite n w => exact execEvtRouteWrite_keeps n w s
  | illegalInstruction l word => exact execIllegalInstruction_keeps l word s
  | add l q rd ra rb => exact execAdd_keeps l q rd ra rb s
  | sub l q rd ra rb => exact execSub_keeps l q rd ra rb s
  | and l q rd ra rb => exact execAnd_keeps l q rd ra rb s
  | or l q rd ra rb => exact execOr_keeps l q rd ra rb s
  | xor l q rd ra rb => exact execXor_keeps l q rd ra rb s
  | shl l q rd ra rb => exact execShl_keeps l q rd ra rb s
  | shr l q rd ra rb => exact execShr_keeps l q rd ra rb s
  | sra l q rd ra rb => exact execSra_keeps l q rd ra rb s
  | min l q rd ra rb => exact execMin_keeps l q rd ra rb s
  | max l q rd ra rb => exact execMax_keeps l q rd ra rb s
  | minu l q rd ra rb => exact execMinu_keeps l q rd ra rb s
  | maxu l q rd ra rb => exact execMaxu_keeps l q rd ra rb s
  | adds l q rd ra rb => exact execAdds_keeps l q rd ra rb s
  | subs l q rd ra rb => exact execSubs_keeps l q rd ra rb s
  | addi l q rd ra imm => exact execAddi_keeps l q rd ra imm s
  | andi l q rd ra imm => exact execAndi_keeps l q rd ra imm s
  | ori l q rd ra imm => exact execOri_keeps l q rd ra imm s
  | xori l q rd ra imm => exact execXori_keeps l q rd ra imm s
  | shi l q rd ra dir amt => exact execShi_keeps l q rd ra dir amt s
  | movx l q rd imm => exact execMovx_keeps l q rd imm s
  | mul l q rd ra rb => exact execMul_keeps l q rd ra rb s
  | mulh l q rd ra rb => exact execMulh_keeps l q rd ra rb s
  | mulhu l q rd ra rb => exact execMulhu_keeps l q rd ra rb s
  | div l q rd ra rb => exact execDiv_keeps l q rd ra rb s
  | divu l q rd ra rb => exact execDivu_keeps l q rd ra rb s
  | rem l q rd ra rb => exact execRem_keeps l q rd ra rb s
  | remu l q rd ra rb => exact execRemu_keeps l q rd ra rb s
  | cmpEq l q pd ra rb => exact execCmpEq_keeps l q pd ra rb s
  | cmpLt l q pd ra rb => exact execCmpLt_keeps l q pd ra rb s
  | cmpLtu l q pd ra rb => exact execCmpLtu_keeps l q pd ra rb s
  | cmpTst l q pd ra rb => exact execCmpTst_keeps l q pd ra rb s
  | cmpeqi l q pd ra imm => exact execCmpeqi_keeps l q pd ra imm s
  | cmplti l q pd ra imm => exact execCmplti_keeps l q pd ra imm s
  | cmpltui l q pd ra imm => exact execCmpltui_keeps l q pd ra imm s
  | pand l q pd pa pb => exact execPand_keeps l q pd pa pb s
  | por l q pd pa pb => exact execPor_keeps l q pd pa pb s
  | pxor l q pd pa pb => exact execPxor_keeps l q pd pa pb s
  | pandn l q pd pa pb => exact execPandn_keeps l q pd pa pb s
  | pget l q pd ra b => exact execPget_keeps l q pd ra b s
  | pput l q rd pa b => exact execPput_keeps l q rd pa b s
  | popc l q rd ra => exact execPopc_keeps l q rd ra s
  | clz l q rd ra => exact execClz_keeps l q rd ra s
  | bfxu l q rd ra rb => exact execBfxu_keeps l q rd ra rb s
  | bfi l q rd ra rb => exact execBfi_keeps l q rd ra rb s
  | br l q off => exact execBr_keeps l q off s
  | loopi l q count body => exact execLoopi_keeps l q count body s
  | loopr l q rs body ceil => exact execLoopr_keeps l q rs body ceil s
  | ldw l q rd ra off => exact execLdw_keeps l q rd ra off s
  | ldh l q rd ra off => exact execLdh_keeps l q rd ra off s
  | ldhu l q rd ra off => exact execLdhu_keeps l q rd ra off s
  | ldb l q rd ra off => exact execLdb_keeps l q rd ra off s
  | ldbu l q rd ra off => exact execLdbu_keeps l q rd ra off s
  | stw l q rs ra off => exact execStw_keeps l q rs ra off s
  | sth l q rs ra off => exact execSth_keeps l q rs ra off s
  | stb l q rs ra off => exact execStb_keeps l q rs ra off s
  | ton l q pd ps ra rb => exact execTon_keeps l q pd ps ra rb s
  | tof l q pd ps ra rb => exact execTof_keeps l q pd ps ra rb s
  | tp l q pd ps ra rb => exact execTp_keeps l q pd ps ra rb s
  | ctu l q pd ps ra rb rp => exact execCtu_keeps l q pd ps ra rb rp s
  | ctd l q pd ps ra rb rp => exact execCtd_keeps l q pd ps ra rb rp s
  | edgeup l q pd ps ra rb => exact execEdgeup_keeps l q pd ps ra rb s
  | edgedn l q pd ps ra rb => exact execEdgedn_keeps l q pd ps ra rb s
  | fadd l q rd ra rb => exact execFadd_keeps l q rd ra rb s
  | fsub l q rd ra rb => exact execFsub_keeps l q rd ra rb s
  | fmul l q rd ra rb => exact execFmul_keeps l q rd ra rb s
  | fdiv l q rd ra rb => exact execFdiv_keeps l q rd ra rb s
  | fsqrt l q rd ra => exact execFsqrt_keeps l q rd ra s
  | fmin l q rd ra rb => exact execFmin_keeps l q rd ra rb s
  | fmax l q rd ra rb => exact execFmax_keeps l q rd ra rb s
  | fabs l q rd ra => exact execFabs_keeps l q rd ra s
  | fneg l q rd ra => exact execFneg_keeps l q rd ra s
  | fcvtis l q rd ra => exact execFcvtis_keeps l q rd ra s
  | fcvtsi l q rd ra => exact execFcvtsi_keeps l q rd ra s
  | fcmpEq l q pd ra rb => exact execFcmpEq_keeps l q pd ra rb s
  | fcmpLt l q pd ra rb => exact execFcmpLt_keeps l q pd ra rb s
  | fcmpLe l q pd ra rb => exact execFcmpLe_keeps l q pd ra rb s
  | fcmpUn l q pd ra rb => exact execFcmpUn_keeps l q pd ra rb s
  | mac l q ac ra rb => exact execMac_keeps l q ac ra rb s
  | macu l q ac ra rb => exact execMacu_keeps l q ac ra rb s
  | msu l q ac ra rb => exact execMsu_keeps l q ac ra rb s
  | acclr l q ac => exact execAcclr_keeps l q ac s
  | accwr l q ac ra rb => exact execAccwr_keeps l q ac ra rb s
  | accrd l q rd ac sh => exact execAccrd_keeps l q rd ac sh s
  | accrdh l q rd ac => exact execAccrdh_keeps l q rd ac s
  | sdft l q ac ra rb n80 k => exact execSdft_keeps l q ac ra rb n80 k s
  | seq0 l q ac => exact execSeq0_keeps l q ac s
  | seq1 l q ac => exact execSeq1_keeps l q ac s
  | seq2 l q ac => exact execSeq2_keeps l q ac s
  | cordv l q rd ra rb => exact execCordv_keeps l q rd ra rb s
  | cordr l q rd ra => exact execCordr_keeps l q rd ra s
  | isqrt l q rd ra => exact execIsqrt_keeps l q rd ra s
  | tload l q pd w loc => exact execTload_keeps l q pd w loc s
  | tstore l q pd w loc => exact execTstore_keeps l q pd w loc s
  | trel l q w => exact execTrel_keeps l q w s
  | mbx l q pd w loc => exact execMbx_keeps l q pd w loc s
  | fsend l q rd ra rb more sz hd => exact execFsend_keeps l q rd ra rb more sz hd s
  | frecv l q rd ra rb cont sz hd => exact execFrecv_keeps l q rd ra rb cont sz hd s
  | csend l q rd ra rb sz => exact execCsend_keeps l q rd ra rb sz s
  | looprd l q rd ra fn => exact execLooprd_keeps l q rd ra fn s
  | loopwr l q ra rb fn => exact execLoopwr_keeps l q ra rb fn s
  | keyopEnc l q rd ra rb => exact execKeyopEnc_keeps l q rd ra rb s
  | keyopDec l q rd ra rb => exact execKeyopDec_keeps l q rd ra rb s
  | keyopSign l q rd ra rb => exact execKeyopSign_keeps l q rd ra rb s
  | keyopVerify l q rd ra rb => exact execKeyopVerify_keeps l q rd ra rb s
  | keyopDerive l q rd ra rb => exact execKeyopDerive_keeps l q rd ra rb s
  | keyopWrap l q rd ra rb => exact execKeyopWrap_keeps l q rd ra rb s
  | keystage l q rd ra rb => exact execKeystage_keeps l q rd ra rb s
  | keyverify l q rd ra rb => exact execKeyverify_keeps l q rd ra rb s
  | keycommit l q rd ra rb => exact execKeycommit_keeps l q rd ra rb s
  | random l q rd ra rb => exact execRandom_keeps l q rd ra rb s
  | sysrd l q gx ra => exact execSysrd_keeps l q gx ra s
  | syswr l q gx ra => exact execSyswr_keeps l q gx ra s
  | endslot l q => exact execEndslot_keeps l q s
  | trap l q code => exact execTrap_keeps l q code s
  | belay l q => exact execBelay_keeps l q s
  | fetchFault l => exact execFetchFault_keeps l s
  | asymWindowRun w => exact execAsymWindowRun_keeps w s
  | cluCompute j => exact execCluCompute_keeps j s
  | cluStateFault j => exact execCluStateFault_keeps j s
  | frameReceived f => exact execFrameReceived_keeps f s
  | fdbAgeOut v mac => exact execFdbAgeOut_keeps v mac s
  | prpTableAgeOut node mac => exact execPrpTableAgeOut_keeps node mac s
  | prpSupervisionSend => exact execPrpSupervisionSend_keeps s
  | portTxStart port c t => exact execPortTxStart_keeps port c t s
  | portTxDone port => exact execPortTxDone_keeps port s
  | linkChange port speed amp => exact execLinkChange_keeps port speed amp s
  | shutter port datagram => exact execShutter_keeps port datagram s
  | shutterApply => exact execShutterApply_keeps s
  | swQcfgWrite port qn w => exact execSwQcfgWrite_keeps port qn w s
  | swCellsWrite n w => exact execSwCellsWrite_keeps n w s
  | offsetMeasurement beacon m t => exact execOffsetMeasurement_keeps beacon m t s
  | timeAcquired t f => exact execTimeAcquired_keeps t f s
  | acquireTimeout => exact execAcquireTimeout_keeps s
  | timeLoss => exact execTimeLoss_keeps s
  | ptpMasterSend p => exact execPtpMasterSend_keeps p s
  | leapSecond => exact execLeapSecond_keeps s
  | timeCtrlRestep => exact execTimeCtrlRestep_keeps s
  | timeCtrlCapture => exact execTimeCtrlCapture_keeps s
  | canModeWrite ch w => exact execCanModeWrite_keeps ch w s
  | recover ch => exact execRecover_keeps ch s
  | canIntegrated ch => exact execCanIntegrated_keeps ch s
  | canError ch tx eight => exact execCanError_keeps ch tx eight s
  | canRecovered ch => exact execCanRecovered_keeps ch s
  | canFrameReceived ch f => exact execCanFrameReceived_keeps ch f s
  | canTxEnd ch r => exact execCanTxEnd_keeps ch r s
  | canPmapWrite ch m hi w => exact execCanPmapWrite_keeps ch m hi w s
  | spePwrWrite n w => exact execSpePwrWrite_keeps n w s
  | speMapWrite n sm w => exact execSpeMapWrite_keeps n sm w s
  | pseEnableChange n => exact execPseEnableChange_keeps n s
  | pseDetectResult n ok => exact execPseDetectResult_keeps n ok s
  | pseClassified n cls power => exact execPseClassified_keeps n cls power s
  | pseShort n => exact execPseShort_keeps n s
  | pseOverload n watts => exact execPseOverload_keeps n watts s
  | pseOpen n => exact execPseOpen_keeps n s
  | pseRetry n => exact execPseRetry_keeps n s
  | uartFrameReceived c chars errs sof sofTick => exact execUartFrameReceived_keeps c chars errs sof sofTick s
  | uartFrameSend c late => exact execUartFrameSend_keeps c late s
  | siFilterChange fb n v => exact execSiFilterChange_keeps fb n v s
  | tpCheckWindow t zeros => exact execTpCheckWindow_keeps t zeros s
  | sqReadbackFault o => exact execSqReadbackFault_keeps o s
  | sqSwitchOffTest o opened => exact execSqSwitchOffTest_keeps o opened s
  | sqOverload o => exact execSqOverload_keeps o s
  | safeWatchdog => exact execSafeWatchdog_keeps s
  | safeMonitorSelftest ok => exact execSafeMonitorSelftest_keeps ok s
  | safeAck sess cls idx => exact execSafeAck_keeps sess cls idx s
  | safeApply sess => exact execSafeApply_keeps sess s
  | safeLock sess => exact execSafeLock_keeps sess s
  | safeCfgWrite sess a w => exact execSafeCfgWrite_keeps sess a w s
  | safeRxTimeout c => exact execSafeRxTimeout_keeps c s
  | fogExpired c => exact execFogExpired_keeps c s
  | safeUnlockExpiry => exact execSafeUnlockExpiry_keeps s
  | lockoutExpiry => exact execLockoutExpiry_keeps s
  | hawserLinkDown h => exact execHawserLinkDown_keeps h s
  | hawserLinkUp h nbr joined => exact execHawserLinkUp_keeps h nbr joined s
  | beaconReceived h b => exact execBeaconReceived_keeps h b s
  | lighthouseDecision others => exact execLighthouseDecision_keeps others s
  | lhConfirm => exact execLhConfirm_keeps s
  | lhConfirmRequest src => exact execLhConfirmRequest_keeps src s
  | lhTakeover x => exact execLhTakeover_keeps x s
  | lhNoConfirm => exact execLhNoConfirm_keeps s
  | hawEnum => exact execHawEnum_keeps s
  | enumReceived h units => exact execEnumReceived_keeps h units s
  | enumCollected la lb => exact execEnumCollected_keeps la lb s
  | assignEffect a => exact execAssignEffect_keeps a s
  | exchangeRecordReceived h r => exact execExchangeRecordReceived_keeps h r s
  | hawBindWrite n subscription w => exact execHawBindWrite_keeps n subscription w s
  | hawShareWrite a w => exact execHawShareWrite_keeps a w s
  | mgmtPacketReceived h p => exact execMgmtPacketReceived_keeps h p s
  | lanyardTile r tile => exact execLanyardTile_keeps r tile s
  | repairReq r => exact execRepairReq_keeps r s
  | repairAns r tile => exact execRepairAns_keeps r tile s
  | lanyardForce r part set ident idx v => exact execLanyardForce_keeps r part set ident idx v s
  | lstate r es => exact execLstate_keeps r es s
  | twinConfig r seg => exact execTwinConfig_keeps r seg s
  | twinJoinRequest asked => exact execTwinJoinRequest_keeps asked s
  | twinStandby agrees node => exact execTwinStandby_keeps agrees node s
  | witnessDecisionReceived d => exact execWitnessDecisionReceived_keeps d s
  | twinDecisionEffect => exact execTwinDecisionEffect_keeps s
  | partnerSilent => exact execPartnerSilent_keeps s
  | multiPrepare parts => exact execMultiPrepare_keeps parts s
  | multiReady addr => exact execMultiReady_keeps addr s
  | multiGo x => exact execMultiGo_keeps x s
  | multiAck addr => exact execMultiAck_keeps addr s
  | multiCommit => exact execMultiCommit_keeps s
  | multiAbort => exact execMultiAbort_keeps s
  | multiReadyTimeout => exact execMultiReadyTimeout_keeps s
  | multiAckTimeout => exact execMultiAckTimeout_keeps s
  | multiNoCommit => exact execMultiNoCommit_keeps s
  | multiRepeat => exact execMultiRepeat_keeps s
  | multiCollectEnd cancelled => exact execMultiCollectEnd_keeps cancelled s
  | xchgStaged part => exact execXchgStaged_keeps part s
  | xchgTimeout part => exact execXchgTimeout_keeps part s
  | tamper sensors => exact execTamper_keeps sensors s
  | tamperCellEvent mesh light => exact execTamperCellEvent_keeps mesh light s
  | vaultClockCheck count => exact execVaultClockCheck_keeps count s
  | entropyFail => exact execEntropyFail_keeps s
  | vaultDrvWrite part w => exact execVaultDrvWrite_keeps part w s
  | lcTransition => exact execLcTransition_keeps s
  | claimCodeExpiry part => exact execClaimCodeExpiry_keeps part s
  | meas crcOk => exact execMeas_keeps crcOk s
  | metLog crcOk => exact execMetLog_keeps crcOk s
  | metIdent crcOk => exact execMetIdent_keeps crcOk s
  | chgResult crcOk => exact execChgResult_keeps crcOk s
  | metTime sec crcOk => exact execMetTime_keeps sec crcOk s
  | chgReq crcOk => exact execChgReq_keeps crcOk s
  | testSel crcOk => exact execTestSel_keeps crcOk s
  | logReq crcOk => exact execLogReq_keeps crcOk s
  | metlChgGo w => exact execMetlChgGo_keeps w s
  | metlTestWrite w => exact execMetlTestWrite_keeps w s
  | metlAssignWrite e w => exact execMetlAssignWrite_keeps e w s
  | measIntervalEnd m => exact execMeasIntervalEnd_keeps m s
  | coverOpen => exact execCoverOpen_keeps s
  | coverClosed => exact execCoverClosed_keeps s
  | switchChange => exact execSwitchChange_keeps s
  | switchLocked => exact execSwitchLocked_keeps s
  | metroSupplyLoss => exact execMetroSupplyLoss_keeps s
  | metroHourlyStore => exact execMetroHourlyStore_keeps s
  | swFault => exact execSwFault_keeps s
  | metlLinkDown => exact execMetlLinkDown_keeps s
  | keepStoreRequest w => exact execKeepStoreRequest_keeps w s
  | keepCapture r => exact execKeepCapture_keeps r s
  | keepPageWriteDone r ok => exact execKeepPageWriteDone_keeps r ok s
  | keepRingWrite r k w => exact execKeepRingWrite_keeps r k w s
  | configRecordWrite => exact execConfigRecordWrite_keeps s
  | rtcSet => exact execRtcSet_keeps s
  | rtcCapture => exact execRtcCapture_keeps s
  | trecClr => exact execTrecClr_keeps s
  | rtcArm => exact execRtcArm_keeps s
  | rtcDisarm => exact execRtcDisarm_keeps s
  | rtcAlarm => exact execRtcAlarm_keeps s
  | rtcRollover => exact execRtcRollover_keeps s
  | backupSwitchToCell => exact execBackupSwitchToCell_keeps s
  | backupSwitchToMain => exact execBackupSwitchToMain_keeps s
  | backupRelease => exact execBackupRelease_keeps s
  | cellLow mv => exact execCellLow_keeps mv s
  | bkLost => exact execBkLost_keeps s
  | globalWordRead => exact execGlobalWordRead_keeps s
  | errFree => exact execErrFree_keeps s
  | errClrOvf => exact execErrClrOvf_keeps s
  | freezeN => exact execFreezeN_keeps s
  | freezeComparator => exact execFreezeComparator_keeps s
  | consentLapse failed => exact execConsentLapse_keeps failed s
  | tapBypass => exact execTapBypass_keeps s
  | tapReadId => exact execTapReadId_keeps s
  | tapRoAddr a => exact execTapRoAddr_keeps a s
  | tapRoRead => exact execTapRoRead_keeps s
  | tapFrzReset b => exact execTapFrzReset_keeps b s
  | moorOpen path datagram => exact execMoorOpen_keeps path datagram s
  | moorConfirm path datagram => exact execMoorConfirm_keeps path datagram s
  | setupAbandoned sess => exact execSetupAbandoned_keeps sess s
  | moorRecord path datagram => exact execMoorRecord_keeps path datagram s
  | moorRelay path datagram => exact execMoorRelay_keeps path datagram s
  | relayEntryExpiry path sess => exact execRelayEntryExpiry_keeps path sess s
  | reassemblyTimeout path sess => exact execReassemblyTimeout_keeps path sess s
  | sessionIdleEnd sess => exact execSessionIdleEnd_keeps sess s
  | sessionLifetimeEnd sess => exact execSessionLifetimeEnd_keeps sess s
  | moorNop sess req args => exact execMoorNop_keeps sess req args s
  | moorClose sess req args => exact execMoorClose_keeps sess req args s
  | regRead sess req args => exact execRegRead_keeps sess req args s
  | regWrite sess req args => exact execRegWrite_keeps sess req args s
  | imgBegin sess req args => exact execImgBegin_keeps sess req args s
  | imgData sess req args => exact execImgData_keeps sess req args s
  | imgEnd sess req args => exact execImgEnd_keeps sess req args s
  | imgAbort sess req args => exact execImgAbort_keeps sess req args s
  | coldLoad sess req args => exact execColdLoad_keeps sess req args s
  | coldLoadPlaced part => exact execColdLoadPlaced_keeps part s
  | xchgStage sess req args => exact execXchgStage_keeps sess req args s
  | xchgArm sess req args => exact execXchgArm_keeps sess req args s
  | xchgDisarm sess req args => exact execXchgDisarm_keeps sess req args s
  | xchgDiscard sess req args => exact execXchgDiscard_keeps sess req args s
  | xchgStatus sess req args => exact execXchgStatus_keeps sess req args s
  | xchgSafetyAuth sess req args => exact execXchgSafetyAuth_keeps sess req args s
  | multiChange sess req args => exact execMultiChange_keeps sess req args s
  | forceSet sess req args => exact execForceSet_keeps sess req args s
  | forceClear sess req args => exact execForceClear_keeps sess req args s
  | forceList sess req args => exact execForceList_keeps sess req args s
  | partStatus sess req args => exact execPartStatus_keeps sess req args s
  | tileRead sess req args => exact execTileRead_keeps sess req args s
  | rstore sess req args => exact execRstore_keeps sess req args s
  | errRead sess req args => exact execErrRead_keeps sess req args s
  | errClear sess req args => exact execErrClear_keeps sess req args s
  | errCfg sess req args => exact execErrCfg_keeps sess req args s
  | logRead sess req args => exact execLogRead_keeps sess req args s
  | logFree sess req args => exact execLogFree_keeps sess req args s
  | timeRestep sess req args => exact execTimeRestep_keeps sess req args s
  | lampSelftest sess req args => exact execLampSelftest_keeps sess req args s
  | moorExtract sess req args => exact execMoorExtract_keeps sess req args s
  | freezeConsent sess req args => exact execFreezeConsent_keeps sess req args s
  | readoutConsent sess req args => exact execReadoutConsent_keeps sess req args s
  | keyStage sess req args => exact execKeyStage_keeps sess req args s
  | keyVerify sess req args => exact execKeyVerify_keeps sess req args s
  | keyCommit sess req args => exact execKeyCommit_keeps sess req args s
  | attest sess req args => exact execAttest_keeps sess req args s
  | anchorReplace sess req args => exact execAnchorReplace_keeps sess req args s
  | openTenancy sess req args => exact execOpenTenancy_keeps sess req args s
  | tenantClaim sess req args => exact execTenantClaim_keeps sess req args s
  | claimOwner sess req args => exact execClaimOwner_keeps sess req args s
  | provision serial mac cert keys => exact execProvision_keeps serial mac cert keys s
  | lcField sess req args => exact execLcField_keeps sess req args s
  | lcReturn sess req args => exact execLcReturn_keeps sess req args s
  | lcDecommission sess req args => exact execLcDecommission_keeps sess req args s
  | safeUnlock sess req args => exact execSafeUnlock_keeps sess req args s
  | safePassword sess req args => exact execSafePassword_keeps sess req args s
  | safeLogRead sess req args => exact execSafeLogRead_keeps sess req args s
  | witnessFreezeConsentRequest src => exact execWitnessFreezeConsentRequest_keeps src s
  | freezeConsentAnswer cause => exact execFreezeConsentAnswer_keeps cause s
  | freezeConsentTimeout => exact execFreezeConsentTimeout_keeps s
  | canArbitrationStart ch sof => exact execCanArbitrationStart_keeps ch sof s
  | entropyRestart => exact execEntropyRestart_keeps s
  | metroStart => exact execMetroStart_keeps s
  | multiRefused addr cause => exact execMultiRefused_keeps addr cause s
  | peerDelayRequest p => exact execPeerDelayRequest_keeps p s

theorem step_keeps_inv {s : State} (hs : s.Inv) : ∃ t : State, step s = .next t ∧ t.Inv := by
  cases h : s.pending with
  | nil => exact ⟨s.rtcEdge, by rw [step, h], s.rtcEdge_keeps.inv hs⟩
  | cons c cs =>
    obtain ⟨t, ht, hk⟩ := exec_keeps c { s with pending := cs }
    exact ⟨t, by rw [step, h]; exact ht, hk.inv hs⟩

/-- Settles O3: each command's law of Laws/Keeps*. -/
theorem everyCommandRuns : Obligations.EveryCommandRuns := by
  unfold Obligations.EveryCommandRuns
  intro c s
  obtain ⟨t, ht, hk⟩ := exec_keeps c s
  exact ⟨t, ht, hk.queue⟩

/-- Settles O4: the command at the front keeps the canonical form, and on an empty queue the second edge does. -/
theorem storesStayCanonical : Obligations.StoresStayCanonical := by
  unfold Obligations.StoresStayCanonical
  intro s hs
  exact step_keeps_inv hs

/-- Settles O1: the branch of step for a queue that is not empty. -/
theorem stepRunsFrontCommand : Obligations.StepRunsFrontCommand := by
  unfold Obligations.StepRunsFrontCommand
  intro c cs s
  rfl

/-! ### The state at reset -/

theorem State.reset_reg (a : Nat) : State.reset.reg a = resetWord a := rfl

theorem State.reset_byte (a : Nat) : State.reset.byte a = memReset a := rfl

theorem State.reset_lamp (l : Nat) : State.reset.lamp l = Lamp.reset := rfl

theorem resetWord_engLamp {n : Nat} (hn : n < 64) : resetWord (R.ENG_LAMP n) = w32 (n + if 60 ≤ n then 0x10000 else 0) := by
  have hlo : 0x20100 ≤ R.ENG_LAMP n := by simp only [R.ENG_LAMP]; omega
  have hhi : R.ENG_LAMP n < 0x20200 := by simp only [R.ENG_LAMP]; omega
  have hidx : (R.ENG_LAMP n - 0x20100) / 4 = n := by simp only [R.ENG_LAMP]; omega
  have hspare : 0x201F0 ≤ R.ENG_LAMP n ↔ 60 ≤ n := by simp only [R.ENG_LAMP]; omega
  simp only [resetWord, hlo, hhi, and_self, if_true, hidx, hspare]

theorem memReset_payload {loc i : Nat} (hi : i < 4092) : memReset (tileAddr loc + i) = 0 := by
  have hmod : (tileAddr loc + i) % 0x1000 = i := by simp only [tileAddr]; omega
  rw [memReset, hmod]
  split
  · split <;> first | omega | rfl
  · rfl

theorem memReset_seal {loc i : Nat} (hl : loc < 4096) (hi : i < 4) :
    memReset (tileAddr loc + 4092 + i) = [0x6E, 0x58, 0x32, 0xA7].getD i 0 := by
  have hmod : (tileAddr loc + 4092 + i) % 0x1000 = 4092 + i := by simp only [tileAddr]; omega
  have hin : 0x600000 ≤ tileAddr loc + 4092 + i ∧ tileAddr loc + 4092 + i < 0x1600000 := by simp only [tileAddr]; omega
  rw [memReset, if_pos hin, hmod]
  interval_cases i <;> rfl

/-- Every register of block TS is 0 at reset. -/
theorem resetWord_of_blockTs {a : Nat} (h1 : 0x10000 ≤ a) (h2 : a < 0x20000) : resetWord a = 0 := by
  have hblock : regBlock a = regsTs := by simp only [regBlock, show a / 0x10000 = 1 by omega]
  have hzero : ∀ r ∈ regsTs, r.reset = 0 := by decide
  have hlamp : ¬ (0x20100 ≤ a ∧ a < 0x20200) := by omega
  have hsafe : ¬ (0x70100 ≤ a ∧ a < 0x70200 ∧ a % 0x20 = 0) := by omega
  have hvault : a ≠ 0xC01FC := by omega
  rw [resetWord, if_neg hlamp, if_neg hsafe, if_neg hvault]
  cases hfind : findReg a with
  | none => rfl
  | some r =>
    rw [findReg, hblock] at hfind
    show w32 r.reset = 0
    rw [hzero r (List.mem_of_find?_eq_some hfind)]
    rfl

theorem State.reset_dirValid {loc : Nat} (hl : loc < 4096) : State.reset.dirValid loc = false := by
  have hword : State.reset.reg (R.TS_DIR_CTL loc) = 0 := by
    rw [State.reset_reg, resetWord_of_blockTs] <;> simp only [R.TS_DIR_CTL] <;> omega
  simp only [State.dirValid, State.flag, State.fld, hword]
  rfl

/-- The lamps at reset: lamp n at position n, positions 60 to 63 spare (R136, R138). -/
theorem State.reset_fld_engLamp {n : Nat} (hn : n < 64) : State.reset.fld (R.ENG_LAMP n) F.ENG_LAMP_PHYS = n ∧
    State.reset.fld (R.ENG_LAMP n) F.ENG_LAMP_STATE = if 60 ≤ n then 1 else 0 := by
  have hword : (State.reset.reg (R.ENG_LAMP n)).toNat = n + if 60 ≤ n then 0x10000 else 0 := by
    rw [State.reset_reg, resetWord_engLamp hn, BitVec.toNat_ofNat]
    split <;> omega
  simp only [State.fld, Fld.get, hword, Nat.shiftRight_eq_div_pow]
  split <;> omega

/-- Settles O5: at reset both stores list no cell. -/
theorem storesCanonicalAtReset : Obligations.StoresCanonicalAtReset := by
  unfold Obligations.StoresCanonicalAtReset
  exact ⟨rfl, rfl⟩

/-- Settles O6: every clause but those of registers and tiles is State.reset's own text; these read reset words and unwritten bytes. -/
theorem resetState : Obligations.ResetState := by
  unfold Obligations.ResetState
  refine ⟨rfl, rfl, rfl, ⟨rfl, rfl⟩, fun loc hl => ⟨fun i hi => ?_, ?_, State.reset_dirValid hl⟩, fun l => rfl,
    fun n hn => State.reset_fld_engLamp hn, by decide⟩
  · exact memReset_payload hi
  · simp only [List.range, List.range.loop, List.map_cons, List.map_nil, State.reset_byte]
    rw [memReset_seal hl (i := 0) (by omega), memReset_seal hl (i := 1) (by omega), memReset_seal hl (i := 2) (by omega),
      memReset_seal hl (i := 3) (by omega)]
    rfl

/-- Settles O7: decodeTableWord is none by its text, and withFetchWord with none is the state. -/
theorem noWordSpellsACommand : Obligations.NoWordSpellsACommand := by
  unfold Obligations.NoWordSpellsACommand
  exact fun nbits w => ⟨rfl, fun s => rfl⟩

end Sys2Proof.Machine

/-!
SUPPORT. The issue of an instruction on a lamp that runs a task, and what the integer, compare, float and accumulator instructions
write (R141, R164, R167, R168, R177 to R179).
-/
namespace Sys2Proof.Machine

/-! ### Issue -/

/-- A command of the CORE domain has its effect while CORE runs. -/
theorem exec_eq_next_of_onCore {s : State} {i : Instr} {f : State → State} (hs : s.coreOn = true) (harm : exec i s = s.onCore f) :
    exec i s = .next (f s) := by rw [harm, State.onCore, if_pos hs]

/-- An instruction that its task may use: its effect on the settled state where its predicate is true, then the PC (R142, R191). -/
theorem State.instr_eq {s : State} {l : Nat} {q : PQ} {ps : List (Fin 8)} {t : TaskCtx} (word : Word) (len : Nat) (inS : Bool)
    (body : TaskCtx → State → State) (ht : (s.lamp l).task = some t) (hS : (t.safety && !inS) = false) :
    s.instr l q word len inS ps body = (if (s.settleP l (q.p :: ps)).takes l q then body t (s.settleP l (q.p :: ps))
      else s.settleP l (q.p :: ps)).advance l len := by
  simp only [State.instr, ht, hS, Bool.false_eq_true, if_false]

/-- An instruction of Mitrane-S that raises nothing. -/
theorem State.plain_eq {s : State} {l : Nat} {q : PQ} {ps : List (Fin 8)} (body : State → State) (ht : (s.lamp l).task.isSome) :
    s.plain l q ps body = (if (s.settleP l (q.p :: ps)).takes l q then body (s.settleP l (q.p :: ps))
      else s.settleP l (q.p :: ps)).advance l 1 := by
  obtain ⟨t, ht⟩ := Option.isSome_iff_exists.1 ht
  exact State.instr_eq 0 1 true _ ht (by simp)

/-- Without an operation in flight there is nothing to wait for. -/
theorem State.settleP_of_idle {s : State} {l : Nat} (ps : List (Fin 8)) (h : (s.lamp l).pend = none) : s.settleP l ps = s := by
  simp only [State.settleP, h]

/-! ### Commands by the form of their arm -/

section
variable {s : State} {l : Nat} {q : PQ} {i : Instr}

theorem exec_of_instr {word : Word} {len : Nat} {inS : Bool} {ps : List (Fin 8)} {body : TaskCtx → State → State} {t : TaskCtx}
    (hs : s.coreOn = true) (ht : (s.lamp l).task = some t) (hS : (t.safety && !inS) = false)
    (harm : exec i s = s.onCore (fun s => s.instr l q word len inS ps body)) :
    exec i s = .next ((if (s.settleP l (q.p :: ps)).takes l q then body t (s.settleP l (q.p :: ps))
      else s.settleP l (q.p :: ps)).advance l len) := by
  rw [exec_eq_next_of_onCore hs harm, State.instr_eq word len inS body ht hS]

theorem exec_of_plain {ps : List (Fin 8)} {body : State → State} {v : State} (hs : s.coreOn = true) (ht : (s.lamp l).task.isSome)
    (harm : exec i s = s.onCore (fun s => s.plain l q ps body)) (hv : body (s.settleP l (q.p :: ps)) = v) :
    exec i s = .next ((if (s.settleP l (q.p :: ps)).takes l q then v else s.settleP l (q.p :: ps)).advance l 1) := by
  rw [exec_eq_next_of_onCore hs harm, State.plain_eq body ht, hv]

theorem exec_of_alu2 {rd ra rb : Fin 32} {f : Word → Word → Word} {w : Word} (hs : s.coreOn = true) (ht : (s.lamp l).task.isSome)
    (harm : exec i s = s.onCore (fun s => s.alu2 l q rd ra rb f))
    (hw : f ((s.settleP l [q.p]).g l ra) ((s.settleP l [q.p]).g l rb) = w) :
    exec i s = .next ((if (s.settleP l [q.p]).takes l q then (s.settleP l [q.p]).setG l rd w else s.settleP l [q.p]).advance l 1) :=
  exec_of_plain hs ht harm (by rw [hw])

theorem exec_of_alu1 {rd ra : Fin 32} {f : Word → Word} {w : Word} (hs : s.coreOn = true) (ht : (s.lamp l).task.isSome)
    (harm : exec i s = s.onCore (fun s => s.alu1 l q rd ra f)) (hw : f ((s.settleP l [q.p]).g l ra) = w) :
    exec i s = .next ((if (s.settleP l [q.p]).takes l q then (s.settleP l [q.p]).setG l rd w else s.settleP l [q.p]).advance l 1) :=
  exec_of_plain hs ht harm (by rw [hw])

theorem exec_of_cmp2 {pd : Fin 8} {ra rb : Fin 32} {f : Word → Word → Bool} {v : Bool} (hs : s.coreOn = true)
    (ht : (s.lamp l).task.isSome) (harm : exec i s = s.onCore (fun s => s.cmp2 l q pd ra rb f))
    (hv : f ((s.settleP l [q.p, pd]).g l ra) ((s.settleP l [q.p, pd]).g l rb) = v) :
    exec i s = .next ((if (s.settleP l [q.p, pd]).takes l q then (s.settleP l [q.p, pd]).setP l pd v
      else s.settleP l [q.p, pd]).advance l 1) :=
  exec_of_plain hs ht harm (by rw [hv])

theorem exec_of_cmpI {pd : Fin 8} {ra : Fin 32} {imm : BitVec 12} {f : Word → Word → Bool} {v : Bool} (hs : s.coreOn = true)
    (ht : (s.lamp l).task.isSome) (harm : exec i s = s.onCore (fun s => s.cmpI l q pd ra imm f))
    (hv : f ((s.settleP l [q.p, pd]).g l ra) (imm.signExtend 32) = v) :
    exec i s = .next ((if (s.settleP l [q.p, pd]).takes l q then (s.settleP l [q.p, pd]).setP l pd v
      else s.settleP l [q.p, pd]).advance l 1) :=
  exec_of_plain hs ht harm (by rw [hv])

theorem exec_of_predOp {pd pa pb : Fin 8} {f : Bool → Bool → Bool} {v : Bool} (hs : s.coreOn = true)
    (ht : (s.lamp l).task.isSome) (harm : exec i s = s.onCore (fun s => s.predOp l q pd pa pb f))
    (hv : f ((s.settleP l [q.p, pd, pa, pb]).pr l pa) ((s.settleP l [q.p, pd, pa, pb]).pr l pb) = v) :
    exec i s = .next ((if (s.settleP l [q.p, pd, pa, pb]).takes l q then (s.settleP l [q.p, pd, pa, pb]).setP l pd v
      else s.settleP l [q.p, pd, pa, pb]).advance l 1) :=
  exec_of_plain hs ht harm (by rw [hv])

end

/-! ### Integer values (R167) -/

theorem satW_eq (z : Int) : satW z = BitVec.ofInt 32 (max (-2147483648) (min 2147483647 z)) := by
  unfold satW
  split
  · rename_i h
    rw [show max (-2147483648 : Int) (min 2147483647 z) = -2147483648 by omega]
    rfl
  · split
    · rename_i h
      rw [show max (-2147483648 : Int) (min 2147483647 z) = 2147483647 by omega]
      rfl
    · rw [show max (-2147483648 : Int) (min 2147483647 z) = z by omega]

theorem mul_eq_ofInt (a b : Word) : a * b = BitVec.ofInt 32 (a.toInt * b.toInt) := by
  rw [BitVec.ofInt_mul, BitVec.ofInt_toInt, BitVec.ofInt_toInt]

theorem w32_val_mod (n : Fin 32) : (w32 n.val).toNat % 32 = n.val := by
  rw [BitVec.toNat_ofNat]
  omega

/-- Settles O9: each is an instruction on one or two registers, MOVX a long form of its own; the values are those of Alu.lean. -/
theorem integerInstructions : Obligations.IntegerInstructions := by
  unfold Obligations.IntegerInstructions
  intro s l q rd ra rb imm imm32 amt hs ht u a b sh sat res
  constructor
  · simp only [List.forall_mem_cons, List.not_mem_nil, false_imp_iff, implies_true, and_true]
    refine ⟨exec_of_alu2 hs ht rfl rfl, exec_of_alu2 hs ht rfl rfl, exec_of_alu2 hs ht rfl rfl, exec_of_alu2 hs ht rfl rfl,
      exec_of_alu2 hs ht rfl rfl, exec_of_alu2 hs ht rfl rfl, exec_of_alu2 hs ht rfl rfl, exec_of_alu2 hs ht rfl rfl,
      exec_of_alu2 hs ht rfl rfl, exec_of_alu2 hs ht rfl rfl, exec_of_alu2 hs ht rfl rfl, exec_of_alu2 hs ht rfl rfl,
      exec_of_alu2 hs ht rfl (satW_eq _), exec_of_alu2 hs ht rfl (satW_eq _), exec_of_alu1 hs ht rfl rfl, exec_of_alu1 hs ht rfl rfl,
      exec_of_alu1 hs ht rfl rfl, exec_of_alu1 hs ht rfl rfl, exec_of_alu1 hs ht rfl ?_, exec_of_alu1 hs ht rfl ?_,
      exec_of_alu1 hs ht rfl ?_, exec_of_alu2 hs ht rfl (mul_eq_ofInt _ _), exec_of_alu2 hs ht rfl rfl, exec_of_alu2 hs ht rfl rfl,
      exec_of_alu2 hs ht rfl rfl, exec_of_alu2 hs ht rfl rfl, exec_of_alu2 hs ht rfl rfl, exec_of_alu2 hs ht rfl rfl⟩
    · exact congrArg (a <<< ·) (w32_val_mod amt)
    · exact congrArg (a >>> ·) (w32_val_mod amt)
    · exact congrArg (a.sshiftRight ·) (w32_val_mod amt)
  · obtain ⟨t, ht⟩ := Option.isSome_iff_exists.1 ht
    exact exec_of_instr (body := fun _ u => u.setG l rd imm32) hs ht (Bool.and_false _) rfl

/-! ### Bits (R168) -/

/-- Taking away the power of a bit that is set clears that bit alone. -/
theorem testBit_sub_two_pow_of_testBit (n i j : Nat) (h : n.testBit i = true) :
    (n - 2 ^ i).testBit j = if j = i then false else n.testBit j := by
  induction i generalizing n j with
  | zero =>
    rw [Nat.testBit_zero, decide_eq_true_eq] at h
    cases j with
    | zero => simp only [pow_zero, if_true, Nat.testBit_zero, decide_eq_false_iff_not]; omega
    | succ j => rw [Nat.testBit_add_one, show (n - 2 ^ 0) / 2 = n / 2 by omega, ← Nat.testBit_add_one, if_neg (by omega)]
  | succ i ih =>
    have hpow : 2 ^ (i + 1) = 2 * 2 ^ i := Nat.pow_succ'
    rw [Nat.testBit_add_one] at h
    cases j with
    | zero =>
      have hle : 2 ^ i ≤ n / 2 := Nat.ge_two_pow_of_testBit h
      rw [if_neg (by omega), Nat.testBit_zero, Nat.testBit_zero, show (n - 2 ^ (i + 1)) % 2 = n % 2 by omega]
    | succ j =>
      rw [Nat.testBit_add_one, show (n - 2 ^ (i + 1)) / 2 = n / 2 - 2 ^ i by omega, ih _ _ h, Nat.testBit_add_one]
      simp only [Nat.add_right_cancel_iff]

theorem testBit_setBit (n i j : Nat) (b : Bool) : (setBit n i b).testBit j = if j = i then b else n.testBit j := by
  cases b with
  | true =>
    rw [setBit, if_pos rfl, Nat.testBit_or, Nat.testBit_two_pow]
    by_cases h : j = i
    · simp [h]
    · simp [h, Ne.symm h]
  | false =>
    rw [setBit, if_neg Bool.false_ne_true]
    by_cases hi : n.testBit i
    · rw [if_pos hi, testBit_sub_two_pow_of_testBit n i j hi]
    · rw [if_neg hi]
      split
      · subst j; simpa using hi
      · rfl

/-- A run of zeros from the top ends at the highest bit that is set. -/
theorem length_takeWhile_not_of_highest (p : Nat → Bool) (m n : Nat) (hm : m < n) (hp : p m = true)
    (htop : ∀ k, m < k → k < n → p k = false) : ((List.range n).reverse.takeWhile (fun k => !p k)).length = n - 1 - m := by
  induction n with
  | zero => omega
  | succ n ih =>
    rw [List.range_succ, List.reverse_append, List.reverse_singleton, List.singleton_append, List.takeWhile_cons]
    by_cases h : m = n
    · subst h
      simp [hp]
    · rw [htop n (by omega) (by omega)]
      simp only [Bool.not_false, if_true, List.length_cons, ih (by omega) (fun k h1 h2 => htop k h1 (by omega))]
      omega

theorem clz_eq (a : Word) : clz a = BitVec.ofNat 32 ((List.range 32).reverse.takeWhile (fun k => !a.getLsbD k)).length := by
  unfold clz
  by_cases h : a = 0
  · subst h
    rfl
  · have hne : a.toNat ≠ 0 := fun h0 => h (BitVec.eq_of_toNat_eq h0)
    have hlog : Nat.log2 a.toNat < 32 := (Nat.log2_lt hne).2 a.isLt
    rw [if_neg h, length_takeWhile_not_of_highest a.getLsbD (Nat.log2 a.toNat) 32 hlog]
    · exact Nat.testBit_log2 hne
    · intro k hk _
      exact Nat.testBit_lt_two_pow ((Nat.log2_lt hne).1 hk)

theorem getLsbD_w32 (n k : Nat) (hk : k < 32) : (w32 n).getLsbD k = n.testBit k := by
  rw [BitVec.getLsbD_ofNat, decide_eq_true hk, Bool.true_and]

/-- BFI bit by bit: the field from the low bits of `a`, the rest from `d`. -/
theorem getLsbD_bfi (d a b : Word) (k : Nat) (hk : k < 32) :
    (bfi d a b).getLsbD k = if bfPos b ≤ k ∧ k < bfPos b + bfWidth b then a.getLsbD (k - bfPos b) else d.getLsbD k := by
  simp only [bfi, BitVec.getLsbD_or, BitVec.getLsbD_and, BitVec.getLsbD_not, getLsbD_w32 _ k hk, hk, decide_true, Bool.true_and,
    Nat.testBit_shiftLeft, Nat.testBit_two_pow_sub_one, Nat.testBit_mod_two_pow]
  by_cases h1 : bfPos b ≤ k
  · by_cases h2 : k < bfPos b + bfWidth b
    · have h3 : k - bfPos b < bfWidth b := by omega
      simp [h1, h2, h3, BitVec.getLsbD]
    · have h3 : ¬ k - bfPos b < bfWidth b := by omega
      simp [h2, h3]
  · simp [h1]

theorem bne_zero_eq_decide (w : Word) : (w != 0) = decide (w ≠ 0) := by
  rw [bne, Bool.beq_eq_decide_eq, decide_not]

/-- Settles O10: comparisons, combinations and bit instructions each by their form; BFI and PPUT bit by bit. -/
theorem compareAndBitInstructions : Obligations.CompareAndBitInstructions := by
  unfold Obligations.CompareAndBitInstructions
  intro s l q rd ra rb b pd pa pb imm hs ht put res u x y i v w c d pos width z
  refine ⟨?_, ?_, ?_, ⟨_, exec_of_plain hs ht rfl rfl, fun k hk => getLsbD_bfi _ _ _ k hk⟩,
    ⟨_, exec_of_plain hs ht rfl rfl, fun k hk => ?_⟩⟩
  · simp only [List.forall_mem_cons, List.not_mem_nil, false_imp_iff, implies_true, and_true]
    exact ⟨exec_of_cmp2 hs ht rfl rfl, exec_of_cmp2 hs ht rfl rfl, exec_of_cmp2 hs ht rfl rfl,
      exec_of_cmp2 hs ht rfl (bne_zero_eq_decide _), exec_of_cmpI hs ht rfl rfl, exec_of_cmpI hs ht rfl rfl,
      exec_of_cmpI hs ht rfl rfl, exec_of_plain hs ht rfl rfl⟩
  · simp only [List.forall_mem_cons, List.not_mem_nil, false_imp_iff, implies_true, and_true]
    exact ⟨exec_of_predOp hs ht rfl rfl, exec_of_predOp hs ht rfl rfl, exec_of_predOp hs ht rfl rfl, exec_of_predOp hs ht rfl rfl⟩
  · simp only [List.forall_mem_cons, List.not_mem_nil, false_imp_iff, implies_true, and_true]
    exact ⟨exec_of_alu1 hs ht rfl rfl, exec_of_alu1 hs ht rfl (clz_eq _),
      exec_of_alu2 hs ht rfl (by rw [bfxu, Nat.shiftRight_eq_div_pow]; rfl)⟩
  · rw [getLsbD_w32 _ k hk, testBit_setBit]
    rfl

end Sys2Proof.Machine

/-!
SUPPORT. The float instructions (R177) and the signal instructions (R178, R179).
-/
namespace Sys2Proof.Machine

/-! ### Float instructions -/

section
variable {s : State} {l : Nat} {q : PQ} {i : Instr} {t : TaskCtx} {fn : Nat}

theorem exec_of_fl2 {rd ra rb : Fin 32} {f : Word → Word → Word} (hs : s.coreOn = true) (ht : (s.lamp l).task = some t)
    (hsafe : t.safety = false) (harm : exec i s = s.onCore (fun s => s.fl2 l q fn rd ra rb f)) :
    exec i s = .next ((if (s.settleP l [q.p]).takes l q then
      (s.settleP l [q.p]).setG l rd (f ((s.settleP l [q.p]).g l ra) ((s.settleP l [q.p]).g l rb)) else s.settleP l [q.p]).advance l 1) :=
  exec_of_instr (body := fun _ u => u.setG l rd (f (u.g l ra) (u.g l rb))) hs ht (by rw [hsafe]; rfl) harm

theorem exec_of_fl1 {rd ra : Fin 32} {f : Word → Word} (hs : s.coreOn = true) (ht : (s.lamp l).task = some t)
    (hsafe : t.safety = false) (harm : exec i s = s.onCore (fun s => s.fl1 l q fn rd ra f)) :
    exec i s = .next ((if (s.settleP l [q.p]).takes l q then
      (s.settleP l [q.p]).setG l rd (f ((s.settleP l [q.p]).g l ra)) else s.settleP l [q.p]).advance l 1) :=
  exec_of_instr (body := fun _ u => u.setG l rd (f (u.g l ra))) hs ht (by rw [hsafe]; rfl) harm

theorem exec_of_flCmp {pd : Fin 8} {ra rb : Fin 32} {f : Word → Word → Bool} (hs : s.coreOn = true) (ht : (s.lamp l).task = some t)
    (hsafe : t.safety = false) (harm : exec i s = s.onCore (fun s => s.flCmp l q fn pd ra rb f)) :
    exec i s = .next ((if (s.settleP l [q.p, pd]).takes l q then (s.settleP l [q.p, pd]).setP l pd
      (f ((s.settleP l [q.p, pd]).g l ra) ((s.settleP l [q.p, pd]).g l rb)) else s.settleP l [q.p, pd]).advance l 1) :=
  exec_of_instr (body := fun _ u => u.setP l pd (f (u.g l ra) (u.g l rb))) hs ht (by rw [hsafe]; rfl) harm

end

/-! ### NaN operands -/

/-- An exponent field of ones over a fraction other than 0 (R177). -/
theorem fRead_of_nan {w : Word} (h : w.toNat / 2 ^ 23 % 256 = 255 ∧ w.toNat % 2 ^ 23 ≠ 0) : fRead w = .nan := by
  rw [fRead, if_pos h.1, if_neg h.2]

theorem fRead_ne_nan {w : Word} (h : ¬ (w.toNat / 2 ^ 23 % 256 = 255 ∧ w.toNat % 2 ^ 23 ≠ 0)) : fRead w ≠ .nan := by
  simp only [fRead]
  by_cases hex : w.toNat / 2 ^ 23 % 256 = 255
  · have hfr : w.toNat % 2 ^ 23 = 0 := of_not_not fun hfr => h ⟨hex, hfr⟩
    rw [if_pos hex, if_pos hfr]
    exact F32.noConfusion
  · rw [if_neg hex]
    split <;> exact F32.noConfusion

theorem fRead_fNaN : fRead fNaN = .nan := by decide

section
variable {y z : Word}

theorem fAdd_of_nan (h : fRead y = .nan ∨ fRead z = .nan) : fAdd y z = fNaN := by
  rcases h with h | h
  · simp only [fAdd, h]
  · cases hy : fRead y <;> simp only [fAdd, h, hy]

theorem fMul_of_nan (h : fRead y = .nan ∨ fRead z = .nan) : fMul y z = fNaN := by
  rcases h with h | h
  · simp only [fMul, h]
  · cases hy : fRead y <;> simp only [fMul, h, hy]

theorem fDiv_of_nan (h : fRead y = .nan ∨ fRead z = .nan) : fDiv y z = fNaN := by
  rcases h with h | h
  · simp only [fDiv, h]
  · cases hy : fRead y <;> simp only [fDiv, h, hy]

theorem fNegW_of_nan (h : fRead y = .nan) : fNegW y = fNaN := by simp only [fNegW, h]

theorem fSub_of_nan (h : fRead y = .nan ∨ fRead z = .nan) : fSub y z = fNaN :=
  fAdd_of_nan (h.imp_right (fun h => by rw [fNegW_of_nan h, fRead_fNaN]))

theorem fUn_of_nan (h : fRead y = .nan ∨ fRead z = .nan) : fUn y z = true := by
  rcases h with h | h <;> simp [fUn, fIsNaN, h]

theorem fLt_of_nan (h : fRead y = .nan ∨ fRead z = .nan) : fLt y z = false := by
  rcases h with h | h
  · simp only [fLt, h, fLtF]
  · cases hy : fRead y <;> simp only [fLt, h, hy, fLtF]

/-- FMIN and FMAX of one NaN give the other operand, flushed. -/
theorem fMin_fMax_of_nan_left (hy : fRead y = .nan) (hz : fRead z ≠ .nan) : fMin y z = fFlush z ∧ fMax y z = fFlush z := by
  simp [fMin, fMax, fIsNaN, hy, hz]

theorem fMin_fMax_of_nan_right (hy : fRead y = .nan) (hz : fRead z ≠ .nan) : fMin z y = fFlush z ∧ fMax z y = fFlush z := by
  simp [fMin, fMax, fIsNaN, hy, hz]

/-! ### Subnormal operands -/

theorem fRead_of_small (h : y.toNat / 2 ^ 23 % 256 = 0) : fRead y = .zero (y.getLsbD 31) := by
  rw [fRead, if_neg (by omega), if_pos h]

/-- A word that is no NaN and not subnormal is read as it stands. -/
theorem fFlush_of_normal (h : fRead y ≠ .nan) (hs : ¬ y.toNat / 2 ^ 23 % 256 = 0) : fFlush y = y := by
  have hz : ∀ n, fRead y ≠ .zero n := by
    intro n
    simp only [fRead, if_neg hs]
    split
    · split <;> exact F32.noConfusion
    · exact F32.noConfusion
  cases hy : fRead y with
  | nan => exact absurd hy h
  | zero n => exact absurd hy (hz n)
  | inf n => simp only [fFlush, hy]
  | fin n m e => simp only [fFlush, hy]

/-- A subnormal reads as the zero of its sign. -/
theorem fRead_sign_of_small (h : y.toNat / 2 ^ 23 % 256 = 0) : fRead (y &&& 0x80000000) = fRead y := by
  have hsign : y &&& 0x80000000 = if y.getLsbD 31 then 0x80000000 else 0 := BitVec.and_twoPow y 31
  rw [fRead_of_small h, hsign]
  cases y.getLsbD 31 <;> rfl

/-- A zero operand of a sum counts only by its sign. -/
theorem fAdd_congr_zero {x : Word} {n : Bool} (hx : fRead x = .zero n) (hy : fRead y = .zero n) : fAdd x z = fAdd y z := by
  cases hz : fRead z <;> simp only [fAdd, hx, hy, hz]

theorem fMul_congr {x : Word} (h : fRead x = fRead y) : fMul x z = fMul y z := by simp only [fMul, h]

theorem fDiv_congr {x : Word} (h : fRead x = fRead y) : fDiv x z = fDiv y z := by simp only [fDiv, h]

end

/-- Settles O11: the forms by their arms, the values by what an operand is read as. -/
theorem floatInstructions : Obligations.FloatInstructions := by
  unfold Obligations.FloatInstructions
  intro s l q rd ra rb pd x hs ht hsafe u a b v c d nan small flush
  refine ⟨?_, ?_, fun y z h => ?_, fun y h => ?_, fun y z hy hz hsm => ?_, by decide, by decide, by decide, by decide, fun y z h => ?_⟩
  · simp only [List.forall_mem_cons, List.not_mem_nil, false_imp_iff, implies_true, and_true]
    exact ⟨exec_of_fl2 hs ht hsafe rfl, exec_of_fl2 hs ht hsafe rfl, exec_of_fl2 hs ht hsafe rfl, exec_of_fl2 hs ht hsafe rfl,
      exec_of_fl2 hs ht hsafe rfl, exec_of_fl2 hs ht hsafe rfl, exec_of_fl1 hs ht hsafe rfl, exec_of_fl1 hs ht hsafe rfl,
      exec_of_fl1 hs ht hsafe rfl, exec_of_fl1 hs ht hsafe rfl, exec_of_fl1 hs ht hsafe rfl⟩
  · simp only [List.forall_mem_cons, List.not_mem_nil, false_imp_iff, implies_true, and_true]
    exact ⟨exec_of_flCmp hs ht hsafe rfl, exec_of_flCmp hs ht hsafe rfl, exec_of_flCmp hs ht hsafe rfl, exec_of_flCmp hs ht hsafe rfl⟩
  · have hn : fRead y = .nan ∨ fRead z = .nan := h.imp fRead_of_nan fRead_of_nan
    have hu : fUn y z = true := fUn_of_nan hn
    exact ⟨fAdd_of_nan hn, fSub_of_nan hn, fMul_of_nan hn, fDiv_of_nan hn, by rw [fEq, hu]; rfl, fLt_of_nan hn, by rw [fLe, hu]; rfl, hu⟩
  · have hn : fRead y = .nan := fRead_of_nan h
    exact ⟨by simp only [fSqrt, hn], by simp only [fAbsW, hn], fNegW_of_nan hn, by simp only [fCvtSI, fToRange, hn]; rfl⟩
  · have hn : fRead y = .nan := fRead_of_nan hy
    have hz' : fRead z ≠ .nan := fRead_ne_nan hz
    have hl := fMin_fMax_of_nan_left hn hz'
    have hr := fMin_fMax_of_nan_right hn hz'
    rw [fFlush_of_normal hz' hsm] at hl hr
    exact ⟨hl.1, hl.2, hr.1, hr.2⟩
  · have hread : fRead (flush y) = fRead y := fRead_sign_of_small h
    have hzero : fRead y = .zero (y.getLsbD 31) := fRead_of_small h
    have hadd : ∀ z, fAdd y z = fAdd (flush y) z := fun z => fAdd_congr_zero hzero (hread.trans hzero)
    exact ⟨hadd z, hadd _, fMul_congr hread.symm, fDiv_congr hread.symm, by rw [fLt, fLt, hread]⟩

/-! ### The integer square root (R178) -/

/-- Bit by bit the root stays the largest of its bits' width whose square is not above `n`. -/
theorem isqrtGo_spec (n : Nat) (bits r : Nat) (hlo : r * r ≤ n) (hhi : n < (r + 2 ^ bits) * (r + 2 ^ bits)) :
    isqrtGo n bits r * isqrtGo n bits r ≤ n ∧ n < (isqrtGo n bits r + 1) * (isqrtGo n bits r + 1) := by
  induction bits generalizing r with
  | zero => exact ⟨hlo, hhi⟩
  | succ b ih =>
    rw [isqrtGo]
    split
    · rename_i h
      refine ih _ h ?_
      rwa [Nat.add_assoc, ← Nat.two_mul, ← Nat.pow_succ']
    · rename_i h
      exact ih _ hlo (by omega)

theorem isqrt_eq_sqrt (bits n : Nat) (h : n < 2 ^ bits * 2 ^ bits) : isqrt bits n = Nat.sqrt n := by
  obtain ⟨hlo, hhi⟩ := isqrtGo_spec n bits 0 (by omega) (by simpa using h)
  exact Nat.eq_sqrt.2 ⟨hlo, hhi⟩

/-- Settles O12: each writes one accumulator or register; saturation and the square root by their laws. -/
theorem accumulatorInstructions : Obligations.AccumulatorInstructions := by
  unfold Obligations.AccumulatorInstructions
  intro s l q rd ra rb sh ac n80 k hs ht u a x y sat
  constructor
  · simp only [List.forall_mem_cons, List.not_mem_nil, false_imp_iff, implies_true, and_true]
    exact ⟨exec_of_plain hs ht rfl rfl, exec_of_plain hs ht rfl rfl, exec_of_plain hs ht rfl rfl, exec_of_plain hs ht rfl rfl,
      exec_of_plain hs ht rfl rfl, exec_of_plain hs ht rfl rfl, exec_of_plain hs ht rfl rfl, exec_of_plain hs ht rfl rfl,
      exec_of_plain hs ht rfl rfl⟩
  · simp only [List.forall_mem_cons, List.not_mem_nil, false_imp_iff, implies_true, and_true]
    exact ⟨exec_of_plain hs ht rfl (congrArg _ (satW_eq _)), exec_of_plain hs ht rfl rfl,
      exec_of_alu1 hs ht rfl (congrArg w32 (isqrt_eq_sqrt 16 _ x.isLt))⟩

end Sys2Proof.Machine

/-!
SUPPORT. What a lamp's registers read after each write (R141), and what instructions on registers leave alone.
-/
namespace Sys2Proof.Machine

/-! ### Reads of a lamp after a write -/

theorem Lamp.advance_eq (x : Lamp) (len : Nat) : ∃ pc loops, x.advance len = { x with pc := pc, loops := loops } := by
  simp only [Lamp.advance]
  split
  · split
    · split <;> exact ⟨_, _, rfl⟩
    · exact ⟨_, _, rfl⟩
  · exact ⟨_, _, rfl⟩

/-- The PC's advance changes nothing of its lamp but PC and loop levels. -/
theorem State.advance_eq_modLamp (s : State) (l len : Nat) :
    s.advance l len = s ∨ s.advance l len = s.modLamp l (fun x => x.advance len) := by
  unfold State.advance
  split
  · exact Or.inr rfl
  · exact Or.inl rfl

theorem State.lamp_setG_ne (s : State) (l m : Nat) (i : Fin 32) (w : Word) (h : m ≠ l) : (s.setG l i w).lamp m = s.lamp m := by
  unfold State.setG
  split
  · rfl
  · exact State.lamp_modLamp_ne _ _ _ _ h

theorem State.lamp_setP_ne (s : State) (l m : Nat) (i : Fin 8) (b : Bool) (h : m ≠ l) : (s.setP l i b).lamp m = s.lamp m := by
  unfold State.setP
  split
  · rfl
  · exact State.lamp_modLamp_ne _ _ _ _ h

theorem State.lamp_setG_same (s : State) (l : Nat) (i : Fin 32) (w : Word) :
    ∃ v, (s.setG l i w).lamp l = { s.lamp l with g := v } := by
  unfold State.setG
  split
  · exact ⟨(s.lamp l).g, rfl⟩
  · exact ⟨_, State.lamp_modLamp_same ..⟩

theorem State.lamp_setP_same (s : State) (l : Nat) (i : Fin 8) (b : Bool) :
    ∃ v, (s.setP l i b).lamp l = { s.lamp l with p := v } := by
  unfold State.setP
  split
  · exact ⟨(s.lamp l).p, rfl⟩
  · exact ⟨_, State.lamp_modLamp_same ..⟩

/-- A write of a register leaves predicates and accumulators of every lamp. -/
theorem State.lamp_setG_p_acc (s : State) (l m : Nat) (i : Fin 32) (w : Word) :
    ((s.setG l i w).lamp m).p = (s.lamp m).p ∧ ((s.setG l i w).lamp m).acc = (s.lamp m).acc := by
  by_cases h : m = l
  · subst h
    obtain ⟨v, hv⟩ := s.lamp_setG_same m i w
    rw [hv]
    exact ⟨rfl, rfl⟩
  · rw [s.lamp_setG_ne l m i w h]
    exact ⟨rfl, rfl⟩

/-- A write of a predicate leaves registers and accumulators of every lamp. -/
theorem State.lamp_setP_g_acc (s : State) (l m : Nat) (i : Fin 8) (b : Bool) :
    ((s.setP l i b).lamp m).g = (s.lamp m).g ∧ ((s.setP l i b).lamp m).acc = (s.lamp m).acc := by
  by_cases h : m = l
  · subst h
    obtain ⟨v, hv⟩ := s.lamp_setP_same m i b
    rw [hv]
    exact ⟨rfl, rfl⟩
  · rw [s.lamp_setP_ne l m i b h]
    exact ⟨rfl, rfl⟩

/-! ### Slot entry -/

/-- The registers of a lamp as slot entry leaves them (R99). -/
def Lamp.cleared (x : Lamp) : Prop := x.g = Lamp.reset.g ∧ x.p = Lamp.reset.p ∧ x.acc = Lamp.reset.acc

theorem State.clearLamp_cleared (s : State) (l : Nat) : ((s.clearLamp l).lamp l).cleared := by
  rw [State.clearLamp, State.lamp_modLamp_same]
  exact ⟨rfl, rfl, rfl⟩

theorem State.startTask_cleared {s : State} {l : Nat} (p slot n : Nat) (h : (s.lamp l).cleared) :
    ((s.startTask l p slot n).lamp l).cleared := by
  rw [State.startTask, State.lamp_modLamp_same]
  exact h

theorem exec_slotEntry_cleared {s : State} {l : Fin 64} {slot : Fin 16} (hs : s.coreOn = true)
    (hv : (s.slotReg s.bankB (16 * l + slot)).getLsbD 31 = true) :
    ∃ t : State, exec (.slotEntry l slot) s = .next t ∧ (t.lamp l).cleared := by
  rw [show exec (.slotEntry l slot) s = execSlotEntry l slot s from rfl, execSlotEntry, State.onCore, if_pos hs]
  refine ⟨_, rfl, ?_⟩
  have hc := s.clearLamp_cleared l
  simp only [hv, Bool.not_true, Bool.false_eq_true, if_false]
  split
  · exact hc
  · split
    · exact hc
    · split
      · split
        · split <;> exact hc
        · exact hc
      · exact State.startTask_cleared _ _ _ hc

theorem State.g_of_cleared {s : State} {l : Nat} (h : (s.lamp l).cleared) (i : Fin 32) : s.g l i = 0 := by
  rw [State.g, h.1]
  split
  · rfl
  · exact Vector.getElem_replicate _

theorem State.pr_of_cleared {s : State} {l : Nat} (h : (s.lamp l).cleared) (i : Fin 8) : s.pr l i = decide (i = 0) := by
  rw [State.pr, h.2.1]
  split
  · rename_i hi
    exact (decide_eq_true hi).symm
  · rename_i hi
    rw [decide_eq_false hi]
    exact Vector.getElem_replicate _

theorem State.acc_of_cleared {s : State} {l : Nat} (h : (s.lamp l).cleared) (i : Fin 4) : s.acc l i = 0 := by
  rw [State.acc, h.2.2]
  exact Vector.getElem_replicate _

/-- Settles O8: reads after writes by the laws of setG and setP, slot entry by the cleared lamp. -/
theorem lampRegisters : Obligations.LampRegisters := by
  unfold Obligations.LampRegisters
  refine ⟨fun s l => ⟨rfl, rfl⟩, fun s l w b => ⟨rfl, rfl⟩, fun s l m i j w hi => ⟨?_, fun k => ?_, fun k => ?_⟩,
    fun s l m i j b hi => ⟨?_, fun k => ?_, fun k => ?_⟩, fun s l slot hs hv => ?_⟩
  · rw [State.g_setG]
    simp only [hi, ne_eq, not_false_eq_true, and_true]
  · rw [State.pr, State.pr, (s.lamp_setG_p_acc l m i w).1]
  · rw [State.acc, State.acc, (s.lamp_setG_p_acc l m i w).2]
  · rw [State.pr_setP]
    simp only [hi, ne_eq, not_false_eq_true, and_true]
  · rw [State.g, State.g, (s.lamp_setP_g_acc l m i b).1]
  · rw [State.acc, State.acc, (s.lamp_setP_g_acc l m i b).2]
  · obtain ⟨t, ht, hc⟩ := exec_slotEntry_cleared hs hv
    exact ⟨t, ht, State.g_of_cleared hc, State.pr_of_cleared hc, State.acc_of_cleared hc⟩

/-! ### The frame of instructions on registers -/

/-- From `s` to `t` only registers of lamp `l`, its PC and its loop levels can differ. -/
structure LampFrame (l : Nat) (s t : State) : Prop where
  rest : t = { s with lamps := t.lamps }
  others : ∀ m, m ≠ l → t.lamp m = s.lamp m
  win : (t.lamp l).win = (s.lamp l).win
  pend : (t.lamp l).pend = (s.lamp l).pend
  task : (t.lamp l).task = (s.lamp l).task

theorem LampFrame.refl (l : Nat) (s : State) : LampFrame l s s := ⟨rfl, fun _ _ => rfl, rfl, rfl, rfl⟩

theorem LampFrame.trans {l : Nat} {s t u : State} (h : LampFrame l s t) (k : LampFrame l t u) : LampFrame l s u where
  rest := by
    calc u = { t with lamps := u.lamps } := k.rest
      _ = { s with lamps := u.lamps } := congrArg (fun x : State => { x with lamps := u.lamps }) h.rest
  others m hm := (k.others m hm).trans (h.others m hm)
  win := k.win.trans h.win
  pend := k.pend.trans h.pend
  task := k.task.trans h.task

theorem LampFrame.modLamp {l : Nat} {s : State} {f : Lamp → Lamp} (hw : (f (s.lamp l)).win = (s.lamp l).win)
    (hp : (f (s.lamp l)).pend = (s.lamp l).pend) (ht : (f (s.lamp l)).task = (s.lamp l).task) : LampFrame l s (s.modLamp l f) where
  rest := rfl
  others m hm := State.lamp_modLamp_ne _ _ _ _ hm
  win := by rw [State.lamp_modLamp_same, hw]
  pend := by rw [State.lamp_modLamp_same, hp]
  task := by rw [State.lamp_modLamp_same, ht]

theorem LampFrame.advance (l len : Nat) (s : State) : LampFrame l s (s.advance l len) := by
  obtain ⟨pc, loops, hadv⟩ := (s.lamp l).advance_eq len
  rcases s.advance_eq_modLamp l len with h | h
  · rw [h]; exact .refl l s
  · rw [h]; exact .modLamp (by rw [hadv]) (by rw [hadv]) (by rw [hadv])

theorem LampFrame.setG (l : Nat) (s : State) (i : Fin 32) (w : Word) : LampFrame l s (s.setG l i w) := by
  unfold State.setG
  split
  · exact .refl l s
  · exact .modLamp rfl rfl rfl

theorem LampFrame.setP (l : Nat) (s : State) (i : Fin 8) (b : Bool) : LampFrame l s (s.setP l i b) := by
  unfold State.setP
  split
  · exact .refl l s
  · exact .modLamp rfl rfl rfl

theorem LampFrame.setAcc (l : Nat) (s : State) (i : Fin 4) (v : Dword) : LampFrame l s (s.setAcc l i v) := .modLamp rfl rfl rfl

/-- The PC's advance leaves registers, predicates and accumulators. -/
theorem State.lamp_advance_regs (s : State) (l len m : Nat) : ((s.advance l len).lamp m).g = (s.lamp m).g ∧
    ((s.advance l len).lamp m).p = (s.lamp m).p ∧ ((s.advance l len).lamp m).acc = (s.lamp m).acc := by
  obtain ⟨pc, loops, hadv⟩ := (s.lamp l).advance_eq len
  rcases s.advance_eq_modLamp l len with h | h
  · rw [h]; exact ⟨rfl, rfl, rfl⟩
  · by_cases hm : m = l
    · subst hm
      rw [h, State.lamp_modLamp_same, hadv]
      exact ⟨rfl, rfl, rfl⟩
    · rw [h, State.lamp_modLamp_ne _ _ _ _ hm]
      exact ⟨rfl, rfl, rfl⟩

/-- What an instruction of Mitrane-S can leave where no operation is in flight: nothing issued, the PC moved, or its effect and
the PC moved. -/
theorem cases_of_exec_instr {s t : State} {i : Instr} {l : Nat} {q : PQ} {word : Word} {len : Nat} {ps : List (Fin 8)}
    {body : TaskCtx → State → State} (hp : (s.lamp l).pend = none)
    (harm : exec i s = s.onCore (fun s => s.instr l q word len true ps body)) (h : exec i s = .next t) :
    t = s ∨ t = s.advance l len ∨ ∃ x, t = (body x s).advance l len := by
  by_cases hs : s.coreOn = true
  · rw [exec_eq_next_of_onCore hs harm] at h
    injection h with h
    subst h
    cases ht : (s.lamp l).task with
    | none => exact Or.inl (by simp only [State.instr, ht])
    | some x =>
      rw [State.instr_eq word len true body ht (Bool.and_false _), State.settleP_of_idle _ hp]
      by_cases hq : s.takes l q
      · exact Or.inr (Or.inr ⟨x, by rw [if_pos hq]⟩)
      · exact Or.inr (Or.inl (by rw [if_neg hq]))
  · rw [harm, State.onCore, if_neg hs] at h
    injection h with h
    exact Or.inl h.symm

/-- From `s` to `t` only register `rd` of lamp `l`, its PC and its loop levels can differ. -/
def OnlyG (l : Nat) (rd : Fin 32) (s t : State) : Prop :=
  LampFrame l s t ∧ (∀ j, j ≠ rd → t.g l j = s.g l j) ∧ (t.lamp l).p = (s.lamp l).p ∧ (t.lamp l).acc = (s.lamp l).acc

/-- The same for predicate `pd`. -/
def OnlyP (l : Nat) (pd : Fin 8) (s t : State) : Prop :=
  LampFrame l s t ∧ (t.lamp l).g = (s.lamp l).g ∧ (∀ j, j ≠ pd → t.pr l j = s.pr l j) ∧ (t.lamp l).acc = (s.lamp l).acc

/-- The same for accumulator `ac`. -/
def OnlyAcc (l : Nat) (ac : Fin 4) (s t : State) : Prop :=
  LampFrame l s t ∧ (t.lamp l).g = (s.lamp l).g ∧ (t.lamp l).p = (s.lamp l).p ∧ ∀ j, j ≠ ac → t.acc l j = s.acc l j

section
variable {s t : State} {i : Instr} {l : Nat} {q : PQ} {word : Word} {len : Nat} {ps : List (Fin 8)}

/-- An instruction that writes one register leaves everything else of the state but PC and loop levels. -/
theorem onlyG_of_exec {rd : Fin 32} {val : State → Word} (hp : (s.lamp l).pend = none)
    (harm : exec i s = s.onCore (fun s => s.instr l q word len true ps (fun _ u => u.setG l rd (val u))))
    (h : exec i s = .next t) : OnlyG l rd s t := by
  rcases cases_of_exec_instr hp harm h with rfl | rfl | ⟨x, rfl⟩
  · exact ⟨.refl l t, fun _ _ => rfl, rfl, rfl⟩
  · obtain ⟨hg, hpr, hacc⟩ := s.lamp_advance_regs l len l
    exact ⟨.advance l len s, fun j _ => by rw [State.g, State.g, hg], hpr, hacc⟩
  · obtain ⟨hg, hpr, hacc⟩ := (s.setG l rd (val s)).lamp_advance_regs l len l
    obtain ⟨hp', ha'⟩ := s.lamp_setG_p_acc l l rd (val s)
    refine ⟨(LampFrame.setG l s rd _).trans (.advance l len _), fun j hj => ?_, hpr.trans hp', hacc.trans ha'⟩
    have hset : (s.setG l rd (val s)).g l j = s.g l j := by rw [State.g_setG, if_neg (fun h => hj h.2.1)]
    rw [← hset, State.g, State.g, hg]

/-- An instruction that writes one predicate leaves everything else of the state but PC and loop levels. -/
theorem onlyP_of_exec {pd : Fin 8} {val : State → Bool} (hp : (s.lamp l).pend = none)
    (harm : exec i s = s.onCore (fun s => s.instr l q word len true ps (fun _ u => u.setP l pd (val u))))
    (h : exec i s = .next t) : OnlyP l pd s t := by
  rcases cases_of_exec_instr hp harm h with rfl | rfl | ⟨x, rfl⟩
  · exact ⟨.refl l t, rfl, fun _ _ => rfl, rfl⟩
  · obtain ⟨hg, hpr, hacc⟩ := s.lamp_advance_regs l len l
    exact ⟨.advance l len s, hg, fun j _ => by rw [State.pr, State.pr, hpr], hacc⟩
  · obtain ⟨hg, hpr, hacc⟩ := (s.setP l pd (val s)).lamp_advance_regs l len l
    obtain ⟨hg', ha'⟩ := s.lamp_setP_g_acc l l pd (val s)
    refine ⟨(LampFrame.setP l s pd _).trans (.advance l len _), hg.trans hg', fun j hj => ?_, hacc.trans ha'⟩
    have hset : (s.setP l pd (val s)).pr l j = s.pr l j := by rw [State.pr_setP, if_neg (fun h => hj h.2.1)]
    rw [← hset, State.pr, State.pr, hpr]

/-- An instruction that writes one accumulator leaves everything else of the state but PC and loop levels. -/
theorem onlyAcc_of_exec {ac : Fin 4} {val : State → Dword} (hp : (s.lamp l).pend = none)
    (harm : exec i s = s.onCore (fun s => s.instr l q word len true ps (fun _ u => u.setAcc l ac (val u))))
    (h : exec i s = .next t) : OnlyAcc l ac s t := by
  rcases cases_of_exec_instr hp harm h with rfl | rfl | ⟨x, rfl⟩
  · exact ⟨.refl l t, rfl, rfl, fun _ _ => rfl⟩
  · obtain ⟨hg, hpr, hacc⟩ := s.lamp_advance_regs l len l
    exact ⟨.advance l len s, hg, hpr, fun j _ => by rw [State.acc, State.acc, hacc]⟩
  · obtain ⟨hg, hpr, hacc⟩ := (s.setAcc l ac (val s)).lamp_advance_regs l len l
    rw [State.setAcc, State.lamp_modLamp_same] at hg hpr hacc
    refine ⟨(LampFrame.setAcc l s ac _).trans (.advance l len _), hg, hpr, fun j hj => ?_⟩
    have hne : (ac : Nat) ≠ j := fun h => hj (Fin.ext h.symm)
    rw [State.acc, State.acc, State.setAcc, hacc]
    exact Vector.getElem_set_ne ac.isLt j.isLt hne

theorem onlyG_of_alu2 {rd ra rb : Fin 32} {f : Word → Word → Word} (hp : (s.lamp l).pend = none)
    (harm : exec i s = s.onCore (fun s => s.alu2 l q rd ra rb f)) (h : exec i s = .next t) : OnlyG l rd s t :=
  onlyG_of_exec (val := fun u => f (u.g l ra) (u.g l rb)) hp harm h

theorem onlyG_of_alu1 {rd ra : Fin 32} {f : Word → Word} (hp : (s.lamp l).pend = none)
    (harm : exec i s = s.onCore (fun s => s.alu1 l q rd ra f)) (h : exec i s = .next t) : OnlyG l rd s t :=
  onlyG_of_exec (val := fun u => f (u.g l ra)) hp harm h

theorem onlyP_of_cmp2 {pd : Fin 8} {ra rb : Fin 32} {f : Word → Word → Bool} (hp : (s.lamp l).pend = none)
    (harm : exec i s = s.onCore (fun s => s.cmp2 l q pd ra rb f)) (h : exec i s = .next t) : OnlyP l pd s t :=
  onlyP_of_exec (val := fun u => f (u.g l ra) (u.g l rb)) hp harm h

theorem onlyP_of_cmpI {pd : Fin 8} {ra : Fin 32} {imm : BitVec 12} {f : Word → Word → Bool} (hp : (s.lamp l).pend = none)
    (harm : exec i s = s.onCore (fun s => s.cmpI l q pd ra imm f)) (h : exec i s = .next t) : OnlyP l pd s t :=
  onlyP_of_exec (val := fun u => f (u.g l ra) (imm.signExtend 32)) hp harm h

theorem onlyP_of_predOp {pd pa pb : Fin 8} {f : Bool → Bool → Bool} (hp : (s.lamp l).pend = none)
    (harm : exec i s = s.onCore (fun s => s.predOp l q pd pa pb f)) (h : exec i s = .next t) : OnlyP l pd s t :=
  onlyP_of_exec (val := fun u => f (u.pr l pa) (u.pr l pb)) hp harm h

theorem onlyG_of_plain {rd : Fin 32} {val : State → Word} (hp : (s.lamp l).pend = none)
    (harm : exec i s = s.onCore (fun s => s.plain l q ps (fun u => u.setG l rd (val u)))) (h : exec i s = .next t) : OnlyG l rd s t :=
  onlyG_of_exec (val := val) hp harm h

theorem onlyP_of_plain {pd : Fin 8} {val : State → Bool} (hp : (s.lamp l).pend = none)
    (harm : exec i s = s.onCore (fun s => s.plain l q ps (fun u => u.setP l pd (val u)))) (h : exec i s = .next t) : OnlyP l pd s t :=
  onlyP_of_exec (val := val) hp harm h

theorem onlyAcc_of_plain {ac : Fin 4} {val : State → Dword} (hp : (s.lamp l).pend = none)
    (harm : exec i s = s.onCore (fun s => s.plain l q ps (fun u => u.setAcc l ac (val u)))) (h : exec i s = .next t) :
    OnlyAcc l ac s t :=
  onlyAcc_of_exec (val := val) hp harm h

end

/-- The frame as O15 writes it out, where no operation was in flight. -/
theorem LampFrame.spread {l : Nat} {s t : State} (h : LampFrame l s t) (hp : (s.lamp l).pend = none) :
    t = { s with lamps := t.lamps } ∧ (∀ m, m ≠ l → t.lamp m = s.lamp m) ∧ (t.lamp l).win = (s.lamp l).win ∧
      (t.lamp l).pend = none ∧ (t.lamp l).task = (s.lamp l).task :=
  ⟨h.rest, h.others, h.win, h.pend.trans hp, h.task⟩

/-- Settles O15: each instruction is one write of its form, and such a write has the frame of its form. -/
theorem registerInstructionsFrame : Obligations.RegisterInstructionsFrame := by
  unfold Obligations.RegisterInstructionsFrame
  intro s t l q rd ra rb sh pd pa pb ac imm w hp frame
  have hG {i : Instr} (harm : exec i s = .next t → OnlyG l rd s t) (h : exec i s = .next t) : frame ∧
      (∀ j, j ≠ rd → t.g l j = s.g l j) ∧ (t.lamp l).p = (s.lamp l).p ∧ (t.lamp l).acc = (s.lamp l).acc :=
    (harm h).imp_left (·.spread hp)
  have hP {i : Instr} (harm : exec i s = .next t → OnlyP l pd s t) (h : exec i s = .next t) : frame ∧
      (t.lamp l).g = (s.lamp l).g ∧ (∀ j, j ≠ pd → t.pr l j = s.pr l j) ∧ (t.lamp l).acc = (s.lamp l).acc :=
    (harm h).imp_left (·.spread hp)
  have hA {i : Instr} (harm : exec i s = .next t → OnlyAcc l ac s t) (h : exec i s = .next t) : frame ∧
      (t.lamp l).g = (s.lamp l).g ∧ (t.lamp l).p = (s.lamp l).p ∧ ∀ j, j ≠ ac → t.acc l j = s.acc l j :=
    (harm h).imp_left (·.spread hp)
  have hG2 {i : Instr} {f : Word → Word → Word} (harm : exec i s = s.onCore (fun s => s.alu2 l q rd ra rb f)) :=
    hG (onlyG_of_alu2 hp harm)
  have hG1 {i : Instr} {f : Word → Word} (harm : exec i s = s.onCore (fun s => s.alu1 l q rd ra f)) := hG (onlyG_of_alu1 hp harm)
  have hGp {i : Instr} {ps : List (Fin 8)} {val : State → Word}
      (harm : exec i s = s.onCore (fun s => s.plain l q ps (fun u => u.setG l rd (val u)))) := hG (onlyG_of_plain hp harm)
  have hP2 {i : Instr} {f : Word → Word → Bool} (harm : exec i s = s.onCore (fun s => s.cmp2 l q pd ra rb f)) :=
    hP (onlyP_of_cmp2 hp harm)
  have hPI {i : Instr} {f : Word → Word → Bool} (harm : exec i s = s.onCore (fun s => s.cmpI l q pd ra imm f)) :=
    hP (onlyP_of_cmpI hp harm)
  have hPP {i : Instr} {f : Bool → Bool → Bool} (harm : exec i s = s.onCore (fun s => s.predOp l q pd pa pb f)) :=
    hP (onlyP_of_predOp hp harm)
  have hAp {i : Instr} {val : State → Dword} (harm : exec i s = s.onCore (fun s => s.plain l q [] (fun u => u.setAcc l ac (val u)))) :=
    hA (onlyAcc_of_plain hp harm)
  refine ⟨?_, ?_, ?_⟩ <;> simp only [List.forall_mem_cons, List.not_mem_nil, false_imp_iff, implies_true, and_true]
  · exact ⟨hG2 rfl, hG2 rfl, hG2 rfl, hG2 rfl, hG2 rfl, hG2 rfl, hG2 rfl, hG2 rfl, hG2 rfl, hG2 rfl, hG2 rfl, hG2 rfl, hG2 rfl, hG2 rfl,
      hG1 rfl, hG1 rfl, hG1 rfl, hG1 rfl, hG (onlyG_of_exec (val := fun _ => w) hp rfl), hG2 rfl, hG2 rfl, hG2 rfl, hG2 rfl, hG2 rfl,
      hG2 rfl, hG2 rfl, hGp rfl, hG1 rfl, hG1 rfl, hG2 rfl, hGp rfl, hGp rfl, hGp rfl, hG1 rfl⟩
  · exact ⟨hP2 rfl, hP2 rfl, hP2 rfl, hP2 rfl, hPI rfl, hPI rfl, hPI rfl, hPP rfl, hPP rfl, hPP rfl, hPP rfl, hP (onlyP_of_plain hp rfl)⟩
  · exact ⟨hAp rfl, hAp rfl, hAp rfl, hAp rfl, hAp rfl, hAp rfl, hAp rfl, hAp rfl, hAp rfl⟩

end Sys2Proof.Machine

/-!
SUPPORT. Operations of the tile store that leave the lamps as they are, and that the completion of a tile operation leaves the
lamps' registers.
-/
namespace Sys2Proof.Machine

/-! ### The lamps stand -/

@[simp] theorem State.setBankQ_lamps (s : State) (b : Nat) (q : List Nat) : (s.setBankQ b q).lamps = s.lamps := rfl

@[simp] theorem State.startRepair_lamps (s : State) (loc : Nat) : (s.startRepair loc).lamps = s.lamps := by
  simp only [State.startRepair]
  split
  · rfl
  · split <;> simp

@[simp] theorem State.rejoin_lamps (s : State) (loc : Nat) : (s.rejoin loc).lamps = s.lamps := by
  simp only [State.rejoin]
  split <;> rfl

@[simp] theorem State.repairDone_lamps (s : State) (loc : Nat) : (s.repairDone loc).lamps = s.lamps := by
  simp only [State.repairDone]
  split <;> simp

@[simp] theorem State.supersede_lamps (s : State) (loc : Nat) : (s.supersede loc).lamps = s.lamps := by
  simp only [State.supersede]
  split <;> simp

@[simp] theorem State.putTile_lamps (s : State) (loc : Nat) (b : List Byte) (gen : Word) : (s.putTile loc b gen).lamps = s.lamps := by
  simp only [State.putTile]
  split
  · split <;> simp
  · simp

@[simp] theorem State.storeTile_lamps (s : State) (loc : Nat) (payload : List Byte) : (s.storeTile loc payload).lamps = s.lamps := by
  simp only [State.storeTile, State.sealWrite, State.supersede_lamps, State.putTile_lamps]

@[simp] theorem State.noteStore_lamps (s : State) (loc : Nat) (payload : List Byte) : (s.noteStore loc payload).lamps = s.lamps := by
  unfold State.noteStore
  extract_lets p s1 s2 s3 s4 tw s5
  have h2 : s2.lamps = s1.lamps := by simp only [s2]; split <;> rfl
  have h3 : s3.lamps = s2.lamps := by simp only [s3]; split <;> rfl
  have h4 : s4.lamps = s3.lamps := by simp only [s4]; split <;> rfl
  have h5 : s5.lamps = s4.lamps := by simp only [s5]; split <;> rfl
  have h : s5.lamps = s.lamps := by rw [h5, h4, h3, h2]; rfl
  split <;> exact h

@[simp] theorem State.askStop_lamps (s : State) (p : Nat) (c : StopReq) : (s.askStop p c).lamps = s.lamps := by
  simp only [State.askStop, apply_ite State.lamps, State.event_lamps, State.modPart_lamps, ite_self]

@[simp] theorem State.dropHold_lamps (s : State) (n : Nat) : (s.dropHold n).lamps = s.lamps := by
  simp only [State.dropHold, State.modHold]
  split <;> rfl

/-! ### The registers stand -/

/-- From `s` to `t` the registers and accumulators of every lamp stand. -/
structure RegsStand (s t : State) : Prop where
  g : ∀ m, (t.lamp m).g = (s.lamp m).g
  acc : ∀ m, (t.lamp m).acc = (s.lamp m).acc

theorem RegsStand.refl (s : State) : RegsStand s s := ⟨fun _ => rfl, fun _ => rfl⟩

theorem RegsStand.trans {s t u : State} (h : RegsStand s t) (k : RegsStand t u) : RegsStand s u :=
  ⟨fun m => (k.g m).trans (h.g m), fun m => (k.acc m).trans (h.acc m)⟩

theorem RegsStand.of_lamps {s t : State} (h : t.lamps = s.lamps) : RegsStand s t :=
  ⟨fun m => by rw [State.lamp_congr h], fun m => by rw [State.lamp_congr h]⟩

theorem RegsStand.modLamp (s : State) (l : Nat) (f : Lamp → Lamp) (hg : ∀ x, (f x).g = x.g) (ha : ∀ x, (f x).acc = x.acc) :
    RegsStand s (s.modLamp l f) := by
  have hlamp : ∀ m, (s.modLamp l f).lamp m = f (s.lamp m) ∨ (s.modLamp l f).lamp m = s.lamp m := by
    intro m
    by_cases h : m = l
    · subst h
      exact Or.inl (State.lamp_modLamp_same ..)
    · exact Or.inr (State.lamp_modLamp_ne _ _ _ _ h)
  constructor <;> intro m <;> rcases hlamp m with h | h <;> rw [h]
  · exact hg _
  · exact ha _

theorem RegsStand.setWin (s : State) (l : Nat) (w : Fin 8) (x : Window) : RegsStand s (s.setWin l w x) :=
  .modLamp s l _ (fun _ => rfl) (fun _ => rfl)

theorem RegsStand.setP (s : State) (l : Nat) (i : Fin 8) (b : Bool) : RegsStand s (s.setP l i b) :=
  ⟨fun m => (s.lamp_setP_g_acc l m i b).1, fun m => (s.lamp_setP_g_acc l m i b).2⟩

/-! ### Exceptions -/

/-- From `s` to `t` nothing of a lamp but its task, its open chain and its loop levels can differ. -/
def TaskOnly (s t : State) : Prop :=
  ∀ m, ∃ task chain loops, t.lamp m = { s.lamp m with task := task, chain := chain, loops := loops }

theorem TaskOnly.of_lamps {s t : State} (h : t.lamps = s.lamps) : TaskOnly s t :=
  fun m => ⟨_, _, _, State.lamp_congr h m⟩

theorem TaskOnly.trans {s t u : State} (h : TaskOnly s t) (k : TaskOnly t u) : TaskOnly s u := by
  intro m
  obtain ⟨_, _, _, h⟩ := h m
  obtain ⟨_, _, _, k⟩ := k m
  exact ⟨_, _, _, by rw [k, h]⟩

theorem TaskOnly.idle (s : State) (l : Nat) :
    TaskOnly s (s.modLamp l fun x => { x with task := none, chain := none, loops := [] }) := by
  intro m
  by_cases h : m = l
  · subst h
    exact ⟨_, _, _, State.lamp_modLamp_same ..⟩
  · exact ⟨_, _, _, State.lamp_modLamp_ne _ _ _ _ h⟩

theorem TaskOnly.dropTask (s : State) (l : Nat) : TaskOnly s (s.dropTask l) := by
  simp only [State.dropTask]
  split
  · exact (TaskOnly.of_lamps (s.dropHold_lamps _)).trans (.idle _ l)
  · exact .idle s l

theorem TaskOnly.foldl {α : Type} {f : State → α → State} (hf : ∀ u x, TaskOnly u (f u x)) (xs : List α) (s : State) :
    TaskOnly s (xs.foldl f s) := by
  induction xs generalizing s with
  | nil => exact .of_lamps rfl
  | cons x xs ih => exact (hf s x).trans (ih _)

theorem TaskOnly.faultStop (s : State) (p : Nat) (c : StopReq) : TaskOnly s (s.faultStop p c) :=
  ((TaskOnly.of_lamps (s.askStop_lamps p c)).trans (.foldl TaskOnly.dropTask ((s.askStop p c).lampsOf p) _)).trans (.of_lamps rfl)

theorem TaskOnly.raise (s : State) (l cls : Nat) (word : Word) (b4 loc addr : Nat) : TaskOnly s (s.raise l cls word b4 loc addr) := by
  simp only [State.raise]
  split
  · exact .of_lamps rfl
  · split
    · exact (TaskOnly.of_lamps (by simp)).trans (.faultStop _ _ _)
    · exact .of_lamps (by simp)

theorem TaskOnly.raiseOp (s : State) (l : Nat) (o : TileOp) (cls b4 : Nat) : TaskOnly s (s.raiseOp l o cls b4) := by
  simp only [State.raiseOp]
  split
  · split
    · exact TaskOnly.raise s l cls o.word b4 _ o.pc
    · exact .of_lamps (by simp)
  · exact .of_lamps (by simp)

theorem RegsStand.of_taskOnly {s t : State} (h : TaskOnly s t) : RegsStand s t := by
  constructor <;> intro m <;> obtain ⟨_, _, _, h⟩ := h m <;> rw [h]

/-! ### The completion of a tile operation -/

/-- A failed operation writes its window, its predicate and its record. -/
theorem RegsStand.failedOp (s : State) (l : Nat) (o : TileOp) (x : Window) (cls b4 : Nat) :
    RegsStand s (((s.setWin l o.w x).setP l o.pd false).raiseOp l o cls b4) :=
  ((RegsStand.setWin s l o.w x).trans (.setP _ l o.pd false)).trans (.of_taskOnly (.raiseOp _ l o cls b4))

/-- A completed store writes the tile, its notes, the window and the predicate. -/
theorem RegsStand.storedOp (s : State) (l : Nat) (o : TileOp) (loc : Nat) (b : List Byte) (x : Window) :
    RegsStand s ((((s.storeTile loc b).noteStore loc b).setWin l o.w x).setP l o.pd true) :=
  ((RegsStand.of_lamps (by simp)).trans (.setWin _ l o.w x)).trans (.setP _ l o.pd true)

theorem RegsStand.opComplete (s : State) (l : Nat) (o : TileOp) : RegsStand s (s.opComplete l o) := by
  unfold State.opComplete
  extract_lets +onlyGivenNames u wn
  have hpend : RegsStand s u := .modLamp s l _ (fun _ => rfl) (fun _ => rfl)
  refine hpend.trans ?_
  clear_value u
  have hrep (t : State) (c : Prop) [Decidable c] (loc : Nat) (h : RegsStand u t) :
      RegsStand u (if c then t.startRepair loc else t) := by
    split
    · exact h.trans (.of_lamps (by simp))
    · exact h
  cases o.kind with
  | load =>
    dsimp -zeta only
    extract_lets +onlyGivenNames loc
    split
    · extract_lets b v1 tw v2
      have hv : RegsStand u v2 := by
        simp only [v2]
        split <;> exact .of_lamps rfl
      exact hv.trans ((RegsStand.setWin v2 l o.w _).trans (.setP _ l o.pd true))
    · dsimp only
      refine hrep _ _ _ ?_
      split
      · exact (RegsStand.failedOp u l o _ _ _).trans (.of_lamps rfl)
      · exact .failedOp u l o _ _ _
  | store =>
    dsimp -zeta only
    split
    · exact .storedOp u l o _ _ _
    · exact hrep _ _ _ (.failedOp u l o _ _ _)
  | mbx =>
    dsimp -zeta only
    extract_lets +onlyGivenNames b n
    split
    · exact hrep _ _ _ (.failedOp u l o _ _ _)
    · split
      · exact (RegsStand.setP u l o.pd false).trans (.of_taskOnly (.raiseOp _ l o _ _))
      · exact .storedOp u l o _ _ _

theorem RegsStand.settleW (s : State) (l : Nat) (w : Fin 8) : RegsStand s (s.settleW l w) := by
  unfold State.settleW
  split
  · split
    · exact .opComplete s l _
    · exact .refl s
  · exact .refl s

theorem RegsStand.settleP (s : State) (l : Nat) (ps : List (Fin 8)) : RegsStand s (s.settleP l ps) := by
  unfold State.settleP
  split
  · split
    · exact .opComplete s l _
    · exact .refl s
  · exact .refl s

theorem RegsStand.read {s t : State} (h : RegsStand s t) (l : Nat) (i : Fin 32) : t.g l i = s.g l i := by
  rw [State.g, State.g, h.g]

end Sys2Proof.Machine

/-!
SUPPORT. Window memory: the bytes an access sees, and what a load and a store do (R115, R144, R169).
-/
namespace Sys2Proof.Machine

/-! ### The bytes of a window -/

/-- Byte i of a window as an access sees it: zero in a line that is not valid (R115). -/
def State.winByte (s : State) (l : Nat) (w : Fin 8) (i : Nat) : Byte :=
  if (s.lamp l).win[w].lines.getLsbD (i / 64) then s.byte (winAddr l w + i) else 0

theorem maskLines_map_range' (lines : BitVec 64) (f : Nat → Byte) (off n : Nat) (a : Nat) :
    maskLines lines off ((List.range' (a + off) n).map f) =
      (List.range' off n).map (fun i => if lines.getLsbD (i / 64) then f (a + i) else 0) := by
  induction n generalizing off with
  | zero => rfl
  | succ n ih => simp only [List.range'_succ, List.map_cons, maskLines, ← ih (off + 1), Nat.add_assoc]

theorem State.winBytes_eq {s : State} (h : s.memCanon = true) (l : Nat) (w : Fin 8) (off n : Nat) :
    s.winBytes l w off n = (List.range' off n).map (s.winByte l w) := by
  rw [State.winBytes, State.bytes_eq _ _ _ h, maskLines_map_range']
  rfl

theorem leNat_map_two (f : Nat → Byte) (o : Nat) : leNat ((List.range' o 2).map f) = (f o).toNat + 2 ^ 8 * (f (o + 1)).toNat := by
  simp only [List.range'_succ, List.range'_zero, List.map_cons, List.map_nil, leNat]
  omega

theorem leNat_map_four (f : Nat → Byte) (o : Nat) : leNat ((List.range' o 4).map f) =
    (f o).toNat + 2 ^ 8 * (f (o + 1)).toNat + 2 ^ 16 * (f (o + 2)).toNat + 2 ^ 24 * (f (o + 3)).toNat := by
  simp only [List.range'_succ, List.range'_zero, List.map_cons, List.map_nil, leNat, Nat.add_assoc, Nat.reduceAdd]
  omega

theorem leNat_map_one (f : Nat → Byte) (o : Nat) : leNat ((List.range' o 1).map f) = (f o).toNat := by
  simp only [List.range'_succ, List.range'_zero, List.map_cons, List.map_nil, leNat]
  omega

theorem winOf_of_div {a : Nat} {w : Fin 8} (h : a / 4096 = 16 + w.val) : winOf a = some w := by
  have hw := w.isLt
  have hin : 0x10000 ≤ a ∧ a < 0x18000 := by omega
  rw [winOf, dif_pos hin]
  exact congrArg some (Fin.ext (by show (a - 0x10000) / 0x1000 = w.val; omega))

/-! ### Loads -/

section
variable {s u v : State} {l : Fin 64} {q : PQ} {rd ra rs : Fin 32} {off : BitVec 12} {w : Fin 8} {i : Instr} {op width : Nat}
  {ext : Nat → Word}

/-- A load from a window that is not POISON writes the value of the bytes it sees. -/
theorem exec_of_loadIns (hinv : s.Inv) (hs : s.coreOn = true) (ht : (s.lamp l).task.isSome) (hu : s.settleP l [q.p] = u)
    (hv : u.settleW l w = v) (hq : u.takes l q = true) (ha : (u.g l ra + off.signExtend 32).toNat / 4096 = 16 + w.val)
    (hp : (v.lamp l).win[w].st ≠ .poison) (harm : exec i s = s.onCore (fun s => s.loadIns l q op rd ra off width ext))
    (hal : (u.g l ra + off.signExtend 32).toNat % width = 0) :
    exec i s = .next ((v.setG l rd (ext (leNat ((List.range' ((u.g l ra + off.signExtend 32).toNat % 4096) width).map
      (v.winByte l w))))).advance l 1) := by
  obtain ⟨t, ht⟩ := Option.isSome_iff_exists.1 ht
  subst hu hv
  have hcanon : ((s.settleP l [q.p]).settleW l w).memCanon = true := ((s.settleP_keeps ..).trans (State.settleW_keeps ..)).inv hinv |>.2
  have hnp : ((((s.settleP l [q.p]).settleW l w).lamp l).win[w].st == WinState.poison) = false := beq_eq_false_iff_ne.2 hp
  rw [exec_eq_next_of_onCore hs harm, State.loadIns, State.instr_of_takes _ _ _ ht hq]
  simp only [State.mLoad, State.mAddr, winOf_of_div ha, if_neg (not_not.2 hal), hnp, Bool.false_eq_true, if_false,
    State.winBytes_eq hcanon]

/-! ### Stores -/

/-- A store to a window that is not POISON writes its bytes there. -/
theorem exec_of_storeIns (hs : s.coreOn = true) (ht : (s.lamp l).task.isSome) (hu : s.settleP l [q.p] = u)
    (hv : u.settleW l w = v) (hq : u.takes l q = true) (ha : (u.g l ra + off.signExtend 32).toNat / 4096 = 16 + w.val)
    (hp : (v.lamp l).win[w].st ≠ .poison) (harm : exec i s = s.onCore (fun s => s.storeIns l q op rs ra off width))
    (hal : (u.g l ra + off.signExtend 32).toNat % width = 0) :
    exec i s = .next ((v.winWrite l w ((u.g l ra + off.signExtend 32).toNat % 4096) (leBytes width (v.g l rs).toNat)).advance l 1) := by
  obtain ⟨t, ht⟩ := Option.isSome_iff_exists.1 ht
  subst hu hv
  have hnp : ((((s.settleP l [q.p]).settleW l w).lamp l).win[w].st == WinState.poison) = false := beq_eq_false_iff_ne.2 hp
  rw [exec_eq_next_of_onCore hs harm, State.storeIns, State.instr_of_takes _ _ _ ht hq]
  simp only [State.mStore, State.mAddr, winOf_of_div ha, leBytes_length, if_neg (not_not.2 hal), hnp, Bool.false_eq_true, if_false,
    (RegsStand.settleW (s.settleP l [q.p]) l w).read]

end

theorem leBytes_getElem (n v i : Nat) (h : i < (leBytes n v).length) : (leBytes n v)[i] = BitVec.ofNat 8 (v / 2 ^ (8 * i)) := by
  rw [← leBytes_getD n v i (by rwa [leBytes_length] at h), List.getD_eq_getElem _ _ h]

/-- Item j of a list of which the items from k on are replaced. -/
theorem getElem_splice {α : Type} (old bs : List α) (k j : Nat) (hk : k + bs.length ≤ old.length)
    (hj : j < (old.take k ++ bs ++ old.drop (k + bs.length)).length) (hj' : j < old.length) :
    (old.take k ++ bs ++ old.drop (k + bs.length))[j] =
      if h : k ≤ j ∧ j < k + bs.length then bs[j - k]'(by omega) else old[j] := by
  have htake : (old.take k).length = k := by rw [List.length_take]; omega
  by_cases h1 : j < k
  · rw [dif_neg (by omega), List.getElem_append_left (by rw [List.length_append]; omega), List.getElem_append_left (by omega),
      List.getElem_take]
  · by_cases h2 : j < k + bs.length
    · rw [dif_pos ⟨by omega, h2⟩, List.getElem_append_left (by rw [List.length_append]; omega), List.getElem_append_right (by omega)]
      simp only [htake]
    · rw [dif_neg (by omega), List.getElem_append_right (by rw [List.length_append]; omega), List.getElem_drop]
      congr 1
      rw [List.length_append]
      omega

section
variable {s : State} {l : Nat} {w : Fin 8} {o : Nat} {bs : List Byte}

/-- The 64 bytes a write within one line leaves there: what an access saw, and the bytes written. -/
def State.lineAfter (s : State) (l : Nat) (w : Fin 8) (o : Nat) (bs : List Byte) : List Byte :=
  (s.winBytes l w (64 * (o / 64)) 64).take (o - 64 * (o / 64)) ++ bs ++
    (s.winBytes l w (64 * (o / 64)) 64).drop (o - 64 * (o / 64) + bs.length)

/-- A write within one line of a window. -/
theorem State.winWrite_line (hpos : 0 < bs.length) (hline : o % 64 + bs.length ≤ 64) : s.winWrite l w o bs =
    (s.setBytes (winAddr l w.val + 64 * (o / 64)) (s.lineAfter l w o bs)).setWin l w { (s.lamp l).win[w] with
      st := .valid, lines := (s.lamp l).win[w].lines ||| BitVec.ofNat 64 (2 ^ (o / 64)) } := by
  have hlast : (o + bs.length - 1) / 64 = o / 64 := by omega
  simp only [State.winWrite, hlast, Nat.sub_self, Nat.zero_add, Nat.mul_one, pow_one, State.lineAfter, Nat.reduceSub, Nat.one_mul]

theorem State.lineAfter_length (hinv : s.memCanon = true) (hline : o % 64 + bs.length ≤ 64) : (s.lineAfter l w o bs).length = 64 := by
  have hold : (s.winBytes l w (64 * (o / 64)) 64).length = 64 := by rw [State.winBytes_eq hinv, List.length_map, List.length_range']
  simp only [State.lineAfter, List.length_append, List.length_take, List.length_drop, hold]
  omega

theorem State.lineAfter_getElem (hinv : s.memCanon = true) (hline : o % 64 + bs.length ≤ 64) (i : Nat) (hlo : 64 * (o / 64) ≤ i)
    (hi : i - 64 * (o / 64) < (s.lineAfter l w o bs).length) : (s.lineAfter l w o bs)[i - 64 * (o / 64)] =
      if h : o ≤ i ∧ i < o + bs.length then bs[i - o]'(by omega) else s.winByte l w i := by
  have hlen := State.lineAfter_length (l := l) (w := w) hinv hline
  have hold : (s.winBytes l w (64 * (o / 64)) 64).length = 64 := by rw [State.winBytes_eq hinv, List.length_map, List.length_range']
  have hsplice := getElem_splice (s.winBytes l w (64 * (o / 64)) 64) bs (o - 64 * (o / 64)) (i - 64 * (o / 64)) (by omega) hi (by omega)
  rw [show (s.lineAfter l w o bs)[i - 64 * (o / 64)] = _ from hsplice]
  by_cases h : o ≤ i ∧ i < o + bs.length
  · rw [dif_pos h, dif_pos (by omega)]
    congr 1
    omega
  · rw [dif_neg h, dif_neg (by omega)]
    simp only [State.winBytes_eq hinv, List.getElem_map, List.getElem_range']
    congr 1
    omega

theorem State.win_setWin (s : State) (l : Nat) (w j : Fin 8) (x : Window) :
    ((s.setWin l w x).lamp l).win[j] = if j = w then x else (s.lamp l).win[j] := by
  rw [State.setWin, State.lamp_modLamp_same]
  by_cases h : j = w
  · subst h
    rw [if_pos rfl]
    exact Vector.getElem_set_self _
  · rw [if_neg h]
    exact Vector.getElem_set_ne w.isLt j.isLt (fun e => h (Fin.ext e.symm))

/-- The lines valid after a write within one line. -/
theorem State.winWrite_lines (hpos : 0 < bs.length) (hline : o % 64 + bs.length ≤ 64) (i : Nat) (hi : i < 64) :
    ((s.winWrite l w o bs).lamp l).win[w].lines.getLsbD i = ((s.lamp l).win[w].lines.getLsbD i || decide (i = o / 64)) := by
  have htwo : (BitVec.ofNat 64 (2 ^ (o / 64))).getLsbD i = decide (i = o / 64) := by
    rw [BitVec.getLsbD_ofNat, decide_eq_true hi, Bool.true_and, Nat.testBit_two_pow]
    exact decide_eq_decide.2 eq_comm
  rw [State.winWrite_line hpos hline, State.win_setWin, if_pos rfl, BitVec.getLsbD_or, htwo]

/-- Memory outside the line stands. -/
theorem State.winWrite_byte_out (hinv : s.memCanon = true) (hpos : 0 < bs.length) (hline : o % 64 + bs.length ≤ 64) (x : Nat)
    (hx : x < winAddr l w + 64 * (o / 64) ∨ winAddr l w + 64 * (o / 64) + 64 ≤ x) : (s.winWrite l w o bs).byte x = s.byte x := by
  have hlen := State.lineAfter_length (l := l) (w := w) hinv hline
  rw [State.winWrite_line hpos hline]
  show (s.setBytes _ _).byte x = _
  rw [State.byte_setBytes, dif_neg (by omega)]

/-- The bytes an access sees after a write within one line: the bytes written, and all others as before. -/
theorem State.winWrite_winByte (hinv : s.memCanon = true) (hpos : 0 < bs.length) (hline : o % 64 + bs.length ≤ 64) (i : Nat)
    (hi : i < 4096) : (s.winWrite l w o bs).winByte l w i =
      if h : o ≤ i ∧ i < o + bs.length then bs[i - o]'(by omega) else s.winByte l w i := by
  have hlen := State.lineAfter_length (l := l) (w := w) hinv hline
  rw [State.winByte, State.winWrite_lines hpos hline (i / 64) (by omega)]
  by_cases hin : i / 64 = o / 64
  · have hbyte : (s.winWrite l w o bs).byte (winAddr l w + i) =
        (s.setBytes (winAddr l w.val + 64 * (o / 64)) (s.lineAfter l w o bs)).byte (winAddr l w + i) := by
      rw [State.winWrite_line hpos hline]; rfl
    rw [decide_eq_true hin, Bool.or_true, if_pos rfl, hbyte, State.byte_setBytes, dif_pos (by omega),
      ← State.lineAfter_getElem (l := l) (w := w) hinv hline i (by omega) (by omega)]
    congr 1
    omega
  · rw [decide_eq_false hin, Bool.or_false, State.winWrite_byte_out hinv hpos hline _ (by omega), dif_neg (by omega)]
    rfl

/-- A write to a window changes memory and its lamp's window alone. -/
theorem State.winWrite_eq (s : State) (l : Nat) (w : Fin 8) (o : Nat) (bs : List Byte) : ∃ (mem : List Host.Cell) (x : Window),
    s.winWrite l w o bs = ({ s with mem := mem } : State).setWin l w { x with st := .valid, loc := (s.lamp l).win[w].loc } :=
  ⟨_, ⟨.valid, _, 0, _, _, _⟩, rfl⟩

end

theorem State.winByte_congr {s t : State} {l : Nat} (w : Fin 8) (hw : (t.lamp l).win = (s.lamp l).win) (hm : t.mem = s.mem) (i : Nat) :
    t.winByte l w i = s.winByte l w i := by
  simp only [State.winByte, State.byte, hw, hm]

theorem extractLsb'_eq_ofNat (x : Word) (k : Nat) : x.extractLsb' k 8 = BitVec.ofNat 8 (x.toNat / 2 ^ k) := by
  rw [← Nat.shiftRight_eq_div_pow]
  rfl

/-- What a store leaves where it writes `width` bytes at `o` of window `w`, all in one line: from `v` to `t` (R115, R169). -/
structure Stored (l : Nat) (w : Fin 8) (o width : Nat) (x : Word) (v t : State) : Prop where
  written : ∀ i, i < width → t.winByte l w (o + i) = x.extractLsb' (8 * i) 8
  kept : ∀ i, i < 4096 → i < o ∨ o + width ≤ i → t.winByte l w i = v.winByte l w i
  outside : ∀ x, x < winAddr l w ∨ winAddr l w + 4096 ≤ x → t.byte x = v.byte x
  lines : ∀ i, i < 64 → (t.lamp l).win[w].lines.getLsbD i = ((v.lamp l).win[w].lines.getLsbD i || decide (i = o / 64))
  valid : (t.lamp l).win[w].st = .valid
  loc : (t.lamp l).win[w].loc = (v.lamp l).win[w].loc
  windows : ∀ j : Fin 8, j ≠ w → (t.lamp l).win[j] = (v.lamp l).win[j]
  g : (t.lamp l).g = (v.lamp l).g
  p : (t.lamp l).p = (v.lamp l).p
  acc : (t.lamp l).acc = (v.lamp l).acc
  lamps : ∀ m, m ≠ l → t.lamp m = v.lamp m
  rest : t = { v with mem := t.mem, lamps := t.lamps }

theorem Stored.of_winWrite {l : Nat} {w : Fin 8} {o width : Nat} {x : Word} {v : State} (hinv : v.memCanon = true) (hpos : 0 < width)
    (hline : o % 64 + width ≤ 64) (ho : o < 4096) (len : Nat) :
    Stored l w o width x v ((v.winWrite l w o (leBytes width x.toNat)).advance l len) := by
  have hlen : (leBytes width x.toNat).length = width := leBytes_length _ _
  obtain ⟨mem, win, heq⟩ := v.winWrite_eq l w o (leBytes width x.toNat)
  have hbyte (i : Nat) (hi : i < 4096) := State.winWrite_winByte (s := v) (l := l) (w := w) (o := o) (bs := leBytes width x.toNat)
    hinv (by omega) (by omega) i hi
  have hlines := State.winWrite_lines (s := v) (l := l) (w := w) (o := o) (bs := leBytes width x.toNat) (by omega) (by omega)
  have hout := State.winWrite_byte_out (s := v) (l := l) (w := w) (o := o) (bs := leBytes width x.toNat) hinv (by omega) (by omega)
  generalize hw : v.winWrite l w o (leBytes width x.toNat) = u at *
  have hadv := LampFrame.advance l len u
  obtain ⟨hg, hp, hacc⟩ := u.lamp_advance_regs l len l
  have hview (i : Nat) : (u.advance l len).winByte l w i = u.winByte l w i := State.winByte_congr w hadv.win (u.advance_mem l len) i
  have hmem (i : Nat) : (u.advance l len).byte i = u.byte i := by rw [State.byte, State.byte, u.advance_mem]
  have hlamp : u.lamp l = { v.lamp l with win := (v.lamp l).win.set w { win with st := .valid, loc := (v.lamp l).win[w].loc } } := by
    rw [heq]; exact State.lamp_modLamp_same ..
  have hwin (j : Fin 8) : (u.lamp l).win[j] = if j = w then { win with st := .valid, loc := (v.lamp l).win[w].loc } else
      (v.lamp l).win[j] := by rw [heq]; exact State.win_setWin ..
  refine ⟨fun i hi => ?_, fun i hi h => ?_, fun y hy => ?_, ?_, ?_, ?_, fun j hj => ?_, ?_, ?_, ?_, fun m hm => ?_, ?_⟩
  · rw [hview, hbyte _ (by omega), dif_pos (by omega), leBytes_getElem, extractLsb'_eq_ofNat, Nat.add_sub_cancel_left]
  · rw [hview, hbyte i hi, dif_neg (by omega)]
  · rw [hmem, hout y (by omega)]
  · rw [hadv.win]; exact hlines
  · rw [hadv.win, hwin, if_pos rfl]
  · rw [hadv.win, hwin, if_pos rfl]
  · rw [hadv.win, hwin, if_neg hj]
  · rw [hg, hlamp]
  · rw [hp, hlamp]
  · rw [hacc, hlamp]
  · rw [hadv.others m hm, heq]; exact State.lamp_modLamp_ne _ _ _ _ hm
  · rw [hadv.rest, heq]; rfl

/-- Settles O16: the bytes of a load by the view of the window, a store by the write of its one line. -/
theorem loadsAndStores : Obligations.LoadsAndStores := by
  unfold Obligations.LoadsAndStores
  constructor
  · intro s l q rd ra off w hinv hs ht u a v o byte res hq ha hp
    have hbyte (i : Nat) : byte i = (v.winByte l w (o + i)).toNat := by
      simp only [byte, State.winByte, Nat.add_assoc]
      split <;> rfl
    have hload {i : Instr} {op width : Nat} {ext : Nat → Word} (hal : a % width = 0)
        (harm : exec i s = s.onCore (fun s => s.loadIns l q op rd ra off width ext)) :
        exec i s = .next (res (ext (leNat ((List.range' o width).map (v.winByte l w))))) :=
      exec_of_loadIns hinv hs ht rfl rfl hq ha hp harm hal
    simp only [hbyte, Nat.add_zero]
    refine ⟨fun hal => ?_, fun hal => ⟨?_, ?_⟩, ?_, ?_⟩
    · rw [hload hal rfl, leNat_map_four]
    · rw [hload hal rfl, leNat_map_two]
    · rw [hload hal rfl, leNat_map_two]
    · rw [hload (Nat.mod_one a) rfl, leNat_map_one]
    · rw [hload (Nat.mod_one a) rfl, leNat_map_one]
  · intro s l q rs ra off w hinv hs ht u a v o view hq ha hp htask
    have hcanon : v.memCanon = true := ((s.settleP_keeps ..).trans (State.settleW_keeps ..)).inv hinv |>.2
    intro e he hal
    have hform : (e.2 = 4 ∨ e.2 = 2 ∨ e.2 = 1) ∧ ∃ op, exec e.1 s = s.onCore (fun s => s.storeIns l q op rs ra off e.2) := by
      clear hal
      revert e
      simp only [List.forall_mem_cons, List.not_mem_nil, false_imp_iff, implies_true, and_true]
      exact ⟨⟨Or.inl trivial, 0x19, rfl⟩, ⟨Or.inr (Or.inl trivial), 0x1A, rfl⟩, Or.inr (Or.inr trivial), 0x1B, rfl⟩
    obtain ⟨hwidth, op, harm⟩ := hform
    have hline : o % 64 + e.2 ≤ 64 := by rcases hwidth with h | h | h <;> rw [h] at hal ⊢ <;> omega
    have h : Stored l w o e.2 (v.g l rs) v ((v.winWrite l w o (leBytes e.2 (v.g l rs).toNat)).advance l 1) :=
      .of_winWrite hcanon (by omega) hline (by omega) 1
    exact ⟨_, exec_of_storeIns hs ht rfl rfl hq ha hp harm hal, h.written, h.kept, h.outside, h.lines, h.valid, h.loc, h.windows, h.g, h.p,
      h.acc, h.lamps, h.rest⟩

end Sys2Proof.Machine

/-!
SUPPORT. Branches and loops (R171 to R173), tile instructions and the completion of a load (R116, R180), and the end of a task
(R165, R186, R187).
-/
namespace Sys2Proof.Machine

/-! ### The end of a task -/

theorem State.dropTask_task (s : State) (l : Nat) : ((s.dropTask l).lamp l).task = none := by
  simp only [State.dropTask]
  split <;> rw [State.lamp_modLamp_same]

theorem State.endTask_task (s : State) (l : Nat) (word : Word) : ((s.endTask l word).lamp l).task = none := State.dropTask_task ..

theorem State.kill_task (s : State) (l cls : Nat) (word : Word) (addr : Nat) : ((s.kill l cls word addr).lamp l).task = none :=
  State.endTask_task ..

theorem State.advance_of_idle {s : State} {l : Nat} (len : Nat) (h : (s.lamp l).task = none) : s.advance l len = s := by
  rw [State.advance, h]
  rfl

theorem State.settle_of_idle {s : State} {l : Nat} (h : (s.lamp l).pend = none) : s.settle l = s := by
  simp only [State.settle, h]

theorem State.settleW_of_idle {s : State} {l : Nat} (w : Fin 8) (h : (s.lamp l).pend = none) : s.settleW l w = s := by
  simp only [State.settleW, h]

theorem State.endTask_of_closed {s : State} {l : Nat} (word : Word) (h : (s.lamp l).chain = none) :
    s.endTask l word = s.modLamp l (fun x => { x with task := none, chain := none, loops := [] }) := by
  simp only [State.endTask, State.dropTask, h]

/-! ### The last instruction of a loop body (R173) -/

section
variable {s : State} {l : Nat} {word : Word} {len : Nat} {f : State → State}

theorem State.notLast_of_end (ht : (s.lamp l).task.isSome) (h : (s.lamp l).atBodyEnd len = true) :
    s.notLast l word len f = s.kill l cILL word (s.lamp l).pc := by
  rw [State.notLast, ht, h]
  rfl

theorem State.notLast_of_not_end (h : (s.lamp l).atBodyEnd len = false) : s.notLast l word len f = f s := by
  rw [State.notLast, h, Bool.and_false]
  rfl

end

theorem Lamp.atBodyEnd_of_no_loop {x : Lamp} (len : Nat) (h : x.loops = []) : x.atBodyEnd len = false := by
  simp only [Lamp.atBodyEnd, h]

/-! ### Loop instructions (R172) -/

section
variable {s u : State} {l : Nat} {q : PQ} {word : Word} {len body : Nat} {n : State → Nat} {ceil : Option Nat}

/-- A body length of 0 is illegal whatever the predicate. -/
theorem State.loopIns_of_empty (ht : (s.lamp l).task.isSome) (hb : body = 0) :
    s.loopIns l q word len body n ceil = s.kill l cILL word (s.lamp l).pc := by
  obtain ⟨t, ht'⟩ := Option.isSome_iff_exists.1 ht
  cases hend : (s.lamp l).atBodyEnd len with
  | true => exact State.notLast_of_end ht hend
  | false => simp only [State.loopIns, State.notLast_of_not_end hend, ht', hb, if_true]

/-- Without its predicate or with a count of 0 the body is skipped. -/
theorem State.loopIns_of_skip (ht : (s.lamp l).task.isSome) (hend : (s.lamp l).atBodyEnd len = false) (hb : body ≠ 0)
    (hu : s.settleP l [q.p] = u) (h : u.takes l q = false ∨ n u = 0) :
    s.loopIns l q word len body n ceil = u.modLamp l (fun x => { x with pc := (u.lamp l).pc + len + body }) := by
  obtain ⟨t, ht⟩ := Option.isSome_iff_exists.1 ht
  have hc : (!u.takes l q || decide (n u = 0)) = true := by rcases h with h | h <;> simp [h]
  simp only [State.loopIns, State.notLast_of_not_end hend, ht, hb, if_false, hu, hc, if_true]

/-- A count above the ceiling raises BOUND and skips the body. -/
theorem State.loopIns_of_above {c : Nat} (ht : (s.lamp l).task.isSome) (hend : (s.lamp l).atBodyEnd len = false) (hb : body ≠ 0)
    (hu : s.settleP l [q.p] = u) (hq : u.takes l q = true) (hn : c < n u) : s.loopIns l q word len body n (some c) =
      (u.raise l cBOUND word 0 0 (u.lamp l).pc).modLamp l (fun x => { x with pc := (u.lamp l).pc + len + body }) := by
  obtain ⟨t, ht⟩ := Option.isSome_iff_exists.1 ht
  have hc : (!u.takes l q || decide (n u = 0)) = false := by
    rw [hq, decide_eq_false (Nat.ne_of_gt (Nat.zero_lt_of_lt hn))]; rfl
  simp only [State.loopIns, State.notLast_of_not_end hend, ht, hb, if_false, hu, hc, Bool.false_eq_true, decide_eq_true hn, if_true]

/-- The ceiling, where the instruction has one, is not passed. -/
def withinCeil (n : Nat) (ceil : Option Nat) : Prop := ∀ c, ceil = some c → n ≤ c

/-- A loop that takes effect outside every other pushes its level. -/
theorem State.loopIns_of_push (ht : (s.lamp l).task.isSome) (hend : (s.lamp l).atBodyEnd len = false) (hb : body ≠ 0)
    (hu : s.settleP l [q.p] = u) (hq : u.takes l q = true) (hn : n u ≠ 0) (hceil : withinCeil (n u) ceil)
    (hloops : (u.lamp l).loops = []) : s.loopIns l q word len body n ceil = u.modLamp l (fun x =>
      { x with pc := (u.lamp l).pc + len, loops := ⟨(u.lamp l).pc + len, (u.lamp l).pc + len + body, n u⟩ :: x.loops }) := by
  obtain ⟨t, ht⟩ := Option.isSome_iff_exists.1 ht
  have hc : (!u.takes l q || decide (n u = 0)) = false := by rw [hq, decide_eq_false hn]; rfl
  have hnest : (decide (4 ≤ (u.lamp l).loops.length) || !(u.lamp l).nestsOk ((u.lamp l).pc + len + body)) = false := by
    simp only [Lamp.nestsOk, hloops]; rfl
  cases ceil with
  | none => simp only [State.loopIns, State.notLast_of_not_end hend, ht, hb, if_false, hu, hc, Bool.false_eq_true, hnest]
  | some c =>
    have hle : decide (c < n u) = false := decide_eq_false (Nat.not_lt.2 (hceil c rfl))
    simp only [State.loopIns, State.notLast_of_not_end hend, ht, hb, if_false, hu, hc, Bool.false_eq_true, hle, hnest]

/-- A fifth nested loop that takes effect is illegal. -/
theorem State.loopIns_of_full (ht : (s.lamp l).task.isSome) (hu : s.settleP l [q.p] = s) (hq : s.takes l q = true) (hn : n s ≠ 0)
    (hfull : 4 ≤ (s.lamp l).loops.length) : s.loopIns l q word len body n none = s.kill l cILL word (s.lamp l).pc := by
  cases hend : (s.lamp l).atBodyEnd len with
  | true => exact State.notLast_of_end ht hend
  | false =>
    by_cases hb : body = 0
    · exact State.loopIns_of_empty ht hb
    · obtain ⟨t, ht⟩ := Option.isSome_iff_exists.1 ht
      have hc : (!s.takes l q || decide (n s = 0)) = false := by rw [hq, decide_eq_false hn]; rfl
      simp only [State.loopIns, State.notLast_of_not_end hend, ht, hb, if_false, hu, hc, Bool.false_eq_true, decide_eq_true hfull,
        Bool.true_or, if_true]

end

/-! ### Branches (R171) -/

section
variable {s u : State} {l : Fin 64} {q : PQ} {off : BitVec 22}

theorem exec_br_of_takes (hs : s.coreOn = true) (ht : (s.lamp l).task.isSome) (hend : (s.lamp l).atBodyEnd 1 = false)
    (hu : s.settleP l [q.p] = u) (hq : u.takes l q = true) : exec (.br l q off) s =
      .next (if 0x3FFF < (u.lamp l).pc + 1 + off.toNat then u.kill l cFETCH (wordBR off.toNat q) (u.lamp l).pc
        else u.modLamp l (fun x => { x with pc := (u.lamp l).pc + 1 + off.toNat })) := by
  obtain ⟨t, ht⟩ := Option.isSome_iff_exists.1 ht
  rw [show exec (.br l q off) s = execBr l q off s from rfl, execBr, State.onCore, if_pos hs, State.notLast_of_not_end hend]
  simp only [ht, hu, hq, Bool.not_true, Bool.false_eq_true, if_false]

theorem exec_br_of_not_takes (hs : s.coreOn = true) (ht : (s.lamp l).task.isSome) (hend : (s.lamp l).atBodyEnd 1 = false)
    (hu : s.settleP l [q.p] = u) (hq : u.takes l q = false) : exec (.br l q off) s = .next (u.advance l 1) := by
  obtain ⟨t, ht⟩ := Option.isSome_iff_exists.1 ht
  rw [show exec (.br l q off) s = execBr l q off s from rfl, execBr, State.onCore, if_pos hs, State.notLast_of_not_end hend]
  simp only [ht, hu, hq, Bool.not_false, if_true]

end

theorem exec_of_loopIns {s : State} {i : Instr} {l : Nat} {q : PQ} {word : Word} {len body : Nat} {n : State → Nat} {ceil : Option Nat}
    {t : State} (hs : s.coreOn = true) (harm : exec i s = s.onCore (fun s => s.loopIns l q word len body n ceil))
    (ht : s.loopIns l q word len body n ceil = t) : exec i s = .next t := by
  rw [exec_eq_next_of_onCore hs harm, ht]

/-- A command whose arm may not stand last in a loop body raises ILL there. -/
theorem exec_of_notLast_end {s : State} {i : Instr} {l : Fin 64} {word : Word} {len : Nat} {f : State → State} (hs : s.coreOn = true)
    (ht : (s.lamp l).task.isSome) (hend : (s.lamp l).atBodyEnd len = true)
    (harm : exec i s = s.onCore (fun s => s.notLast l word len f)) :
    ∃ word pc, exec i s = .next (s.kill l cILL word pc) :=
  ⟨word, (s.lamp l).pc, by rw [exec_eq_next_of_onCore hs harm, State.notLast_of_end ht hend]⟩

theorem ofNat_toNat_ne_zero {n : Nat} {b : BitVec n} (h : b ≠ 0) : b.toNat ≠ 0 := fun h0 => h (BitVec.eq_of_toNat_eq h0)

/-- At the end of the innermost body the level counts down and the body starts again, or the level ends. -/
theorem Lamp.advance_at_end {x : Lamp} {lv : LoopLvl} {rest : List LoopLvl} {len : Nat} (hl : x.loops = lv :: rest)
    (he : x.pc + len = lv.after) :
    (1 < lv.remaining → (x.advance len).pc = lv.first ∧ (x.advance len).loops = { lv with remaining := lv.remaining - 1 } :: rest) ∧
      (lv.remaining ≤ 1 → (x.advance len).pc = lv.after ∧ (x.advance len).loops = rest) := by
  simp only [Lamp.advance, hl, he, if_true]
  constructor <;> intro h
  · rw [if_pos h]; exact ⟨rfl, rfl⟩
  · rw [if_neg (Nat.not_lt.2 h)]; exact ⟨rfl, rfl⟩

/-- Settles O18: BR by its arm, LOOPI and LOOPR by the cases of the loop instruction, and what stands last in a body. -/
theorem branchesAndLoops : Obligations.BranchesAndLoops := by
  unfold Obligations.BranchesAndLoops
  refine ⟨⟨fun s l q off rs count body ceil hs ht hl => ?_, fun x lv rest len hl he => Lamp.advance_at_end hl he⟩,
    fun s l q off rs count body ceil hs ht => ?_⟩
  · intro u pc go skip
    have hend (len : Nat) : (s.lamp l).atBodyEnd len = false := Lamp.atBodyEnd_of_no_loop len hl
    refine ⟨fun hq hpc => ?_, fun hq hpc => ⟨wordBR off.toNat q, ?_⟩, fun hq => exec_br_of_not_takes hs ht (hend 1) rfl hq, fun hb hul => ?_⟩
    · rw [exec_br_of_takes hs ht (hend 1) rfl hq, if_neg (Nat.not_lt.2 hpc)]
    · rw [exec_br_of_takes hs ht (hend 1) rfl hq, if_pos hpc]
    · have hb' := ofNat_toNat_ne_zero hb
      refine ⟨fun hq hn => ?_, fun h => ?_, fun hq hn hc => ?_, fun hq hc => ⟨wordX 0x12 rs.val (body.toNat * 2 ^ 7) q, ?_⟩, fun h => ?_⟩
      · exact exec_of_loopIns hs rfl
          (State.loopIns_of_push ht (hend 1) hb' rfl hq (ofNat_toNat_ne_zero hn) (fun c h => nomatch h) hul)
      · exact exec_of_loopIns hs rfl (State.loopIns_of_skip ht (hend 1) hb' rfl (h.imp_right (congrArg BitVec.toNat)))
      · exact exec_of_loopIns hs rfl
          (State.loopIns_of_push ht (hend 2) hb' rfl hq (ofNat_toNat_ne_zero hn) (fun c h => by injection h with h; omega) hul)
      · exact exec_of_loopIns hs rfl (State.loopIns_of_above ht (hend 2) hb' rfl hq hc)
      · exact exec_of_loopIns hs rfl (State.loopIns_of_skip ht (hend 2) hb' rfl (h.imp_right (congrArg BitVec.toNat)))
  · refine ⟨fun hb => ⟨_, _, (s.lamp l).pc, exec_of_loopIns hs rfl (State.loopIns_of_empty ht (congrArg BitVec.toNat hb)),
        exec_of_loopIns hs rfl (State.loopIns_of_empty ht (congrArg BitVec.toNat hb))⟩, fun hend => ?_, fun hend => exec_of_notLast_end hs ht hend rfl,
      fun hp hq hfull hn => ⟨_, _, exec_of_loopIns hs rfl
        (State.loopIns_of_full ht (State.settleP_of_idle _ hp) hq (ofNat_toNat_ne_zero hn) hfull)⟩, fun word pc => s.kill_task l cILL word pc⟩
    · simp only [List.forall_mem_cons, List.not_mem_nil, false_imp_iff, implies_true, and_true]
      exact ⟨exec_of_notLast_end hs ht hend rfl, exec_of_notLast_end hs ht hend rfl, exec_of_notLast_end hs ht hend rfl⟩

/-! ### Tile instructions (R180) -/

/-- With the tile unit free an instruction hands its operation over and completes. -/
theorem exec_of_tileIns {s : State} {i : Instr} {l : Nat} {q : PQ} {k : TileKind} {sb : Nat} {pd w : Fin 8} {loc : Fin 4096}
    {x : TaskCtx} (hs : s.coreOn = true) (ht : (s.lamp l).task = some x) (hp : (s.lamp l).pend = none) (hq : s.takes l q = true)
    (harm : exec i s = s.onCore (fun s => s.tileIns l q k sb pd w loc)) :
    exec i s = .next ((s.modLamp l (fun y => { y with pend := some ⟨k, w, loc, pd, x.part, x.safety,
      wordT pd.val w.val loc.val sb q, (s.lamp l).pc⟩ })).advance l 1) := by
  have hu : ∀ ps, s.settleP l ps = s := fun ps => State.settleP_of_idle ps hp
  rw [exec_eq_next_of_onCore hs harm, State.tileIns, State.instr_of_takes _ _ _ ht (by rw [hu, hq]), hu]
  simp only [State.settle_of_idle hp]

/-- Settles O19: the three operations by their form, TREL by its window. -/
theorem tileInstructions : Obligations.TileInstructions := by
  unfold Obligations.TileInstructions
  intro s l q pd w loc x hs ht hp hq
  constructor
  · simp only [List.forall_mem_cons, List.not_mem_nil, false_imp_iff, implies_true, and_true]
    exact ⟨⟨_, exec_of_tileIns hs ht hp hq rfl⟩, ⟨_, exec_of_tileIns hs ht hp hq rfl⟩, _, exec_of_tileIns hs ht hp hq rfl⟩
  · have hu : s.settleP l [q.p] = s := State.settleP_of_idle _ hp
    rw [exec_of_plain (i := .trel l q w) hs (Option.isSome_iff_exists.2 ⟨x, ht⟩) rfl rfl, hu, if_pos hq, State.settleW_of_idle w hp]

/-! ### The completion of a load (R116) -/

theorem State.pr_setP_same (s : State) (l : Nat) (i : Fin 8) : (s.setP l i true).pr l i = true := by
  rw [State.pr_setP]
  split
  · rfl
  · rename_i h
    have hi : i = 0 := of_not_not fun hi => h ⟨rfl, rfl, hi⟩
    subst hi
    rfl

/-- Nothing of a lamp but its task, chain and loop levels: what stands on the lamp named. -/
theorem TaskOnly.stand {s t : State} (h : TaskOnly s t) (l : Nat) :
    (t.lamp l).win = (s.lamp l).win ∧ (t.lamp l).pend = (s.lamp l).pend ∧ (t.lamp l).p = (s.lamp l).p := by
  obtain ⟨_, _, _, h⟩ := h l
  rw [h]
  exact ⟨rfl, rfl, rfl⟩

/-- The state with lamp l's operation taken from the tile unit. -/
def State.unpend (s : State) (l : Nat) : State := s.modLamp l (fun x => { x with pend := none })

theorem State.unpend_pend (s : State) (l : Nat) : ((s.unpend l).lamp l).pend = none := by
  rw [State.unpend, State.lamp_modLamp_same]

theorem State.modLamp_pend_none (s : State) (l : Nat) : s.modLamp l (fun x => { x with pend := none }) = s.unpend l := rfl

/-- The 4096 bytes a good load brings to its window (R116, R231). -/
def State.loadBytes (s : State) (o : TileOp) : List Byte :=
  applyUnits (s.bytes (tileAddr (s.activeLoc o.loc.val)) 4096) (s.planUnits (s.activeLoc o.loc.val))

/-- A load whose location passes the checks. -/
theorem State.opComplete_load_good {s : State} {l : Nat} {o : TileOp} (hk : o.kind = .load)
    (hc : s.loadCause (s.activeLoc o.loc.val) o.part o.safety = none) :
    ∃ (twin : TwinSt) (restored : Bool), s.opComplete l o =
      (State.setWin { (s.unpend l).setBytes (winAddr l o.w.val) (s.loadBytes o) with twin := twin } l o.w
        ⟨.valid, BitVec.allOnes 64, o.loc.val, restored, 0, false⟩).setP l o.pd true := by
  have hc' : (s.unpend l).loadCause ((s.unpend l).activeLoc o.loc.val) o.part o.safety = none := hc
  unfold State.opComplete
  rw [State.modLamp_pend_none]
  simp only [hk, hc']
  split
  · exact ⟨_, _, rfl⟩
  · exact ⟨_, _, rfl⟩

/-- A load whose location fails a check: the window and the predicate, then records and repair. -/
theorem State.opComplete_load_bad {s : State} {l c : Nat} {o : TileOp} (hk : o.kind = .load)
    (hc : s.loadCause (s.activeLoc o.loc.val) o.part o.safety = some c) :
    TaskOnly (((s.unpend l).setWin l o.w ⟨.poison, 0, o.loc.val, false, c, false⟩).setP l o.pd false) (s.opComplete l o) := by
  have hc' : (s.unpend l).loadCause ((s.unpend l).activeLoc o.loc.val) o.part o.safety = some c := hc
  unfold State.opComplete
  rw [State.modLamp_pend_none]
  simp only [hk, hc']
  refine (TaskOnly.raiseOp _ l o cSEAL c).trans (.of_lamps ?_)
  simp only [apply_ite State.lamps, State.startRepair_lamps, ite_self]

theorem State.byte_congr {s t : State} (h : t.mem = s.mem) (a : Nat) : t.byte a = s.byte a := congrArg (dget memReset · a) h

/-- What a completed operation wrote last: its window, then its predicate. -/
theorem State.lamp_setWin_setP (s : State) (l : Nat) (w pd : Fin 8) (x : Window) (b : Bool) :
    (((s.setWin l w x).setP l pd b).lamp l).win[w] = x ∧ (((s.setWin l w x).setP l pd b).lamp l).pend = (s.lamp l).pend := by
  have hwin : ((s.setWin l w x).lamp l).win[w] = x := by rw [State.win_setWin, if_pos rfl]
  have hpend : ((s.setWin l w x).lamp l).pend = (s.lamp l).pend := by rw [State.setWin, State.lamp_modLamp_same]
  rw [State.setP]
  split
  · exact ⟨hwin, hpend⟩
  · simp only [State.lamp_modLamp_same]
    exact ⟨hwin, hpend⟩

/-- Settles O20: the completion of a load by the outcome of the location's checks. -/
theorem tileLoads : Obligations.TileLoads := by
  unfold Obligations.TileLoads
  intro s l o hinv hs hpend hk loc
  have hexec : exec (.tileOpComplete l) s = .next (s.opComplete l o) := by
    rw [exec_eq_next_of_onCore (f := fun s => s.settle l) hs rfl, State.settle, hpend]
  refine ⟨_, hexec, ?_, fun hc hplan => ?_, fun c hc => ?_⟩
  · cases hc : s.loadCause (s.activeLoc o.loc.val) o.part o.safety with
    | none =>
      obtain ⟨twin, restored, h⟩ := State.opComplete_load_good (l := l) hk hc
      rw [h, (State.lamp_setWin_setP ..).2]
      exact s.unpend_pend l
    | some c =>
      rw [((State.opComplete_load_bad (l := l) hk hc).stand l).2.1, (State.lamp_setWin_setP ..).2]
      exact s.unpend_pend l
  · obtain ⟨twin, restored, h⟩ := State.opComplete_load_good (l := l) hk hc
    rw [h, (State.lamp_setWin_setP ..).1]
    refine ⟨rfl, rfl, rfl, fun i hi => ?_, State.pr_setP_same .., ?_, ?_⟩
    · have hbytes : s.loadBytes o = s.bytes (tileAddr loc) 4096 :=
        congrArg (applyUnits _) hplan
      have hin : winAddr l o.w.val ≤ winAddr l o.w.val + i ∧
          winAddr l o.w.val + i < winAddr l o.w.val + (s.bytes (tileAddr loc) 4096).length := by
        rw [State.bytes_length]; omega
      rw [State.byte_congr (State.setP_mem ..), State.byte_congr (State.setWin_mem ..), hbytes]
      change ((s.unpend l).setBytes _ _).byte _ = _
      rw [State.byte_setBytes, dif_pos hin]
      simp only [State.bytes_eq s _ _ hinv.2, List.getElem_map, List.getElem_range', Nat.add_sub_cancel_left, Nat.one_mul]
    · simp only [State.setP_err]; rfl
    · simp only [State.setP_srf]; rfl
  · have h := (State.opComplete_load_bad (l := l) hk hc).stand l
    rw [h.1, (State.lamp_setWin_setP ..).1]
    refine ⟨rfl, rfl, rfl, rfl, fun hpd => ?_⟩
    rw [State.pr, h.2.2, ← State.pr, State.pr_setP, if_pos ⟨rfl, rfl, hpd⟩]

/-! ### The end of a task (R165, R186, R187) -/

/-- Settles O22: each of the five by its arm. -/
theorem tasksEnd : Obligations.TasksEnd := by
  unfold Obligations.TasksEnd
  intro s l q code word x hs ht hp hchain stop
  have hsome : (s.lamp l).task.isSome := Option.isSome_iff_exists.2 ⟨x, ht⟩
  have hu : ∀ ps, s.settleP l ps = s := fun ps => State.settleP_of_idle ps hp
  have hw : s.settle l = s := State.settle_of_idle hp
  refine ⟨fun hq hend => ?_, fun hq => ⟨wordS 0 0 3 code.toNat q, _, ?_, rfl, State.endTask_task ..⟩,
    ⟨_, exec_eq_next_of_onCore (f := fun s => s.kill l cILL word (s.lamp l).pc) hs rfl, rfl, State.endTask_task ..⟩,
    ⟨_, exec_eq_next_of_onCore (f := fun s => s.kill l cFETCH 0 (s.lamp l).pc) hs rfl, rfl, State.endTask_task ..⟩, fun hq hsafe => ?_⟩
  · rw [show exec (.endslot l q) s = execEndslot l q s from rfl, execEndslot, State.onCore, if_pos hs, State.notLast_of_not_end hend,
      State.instr_of_takes _ _ _ ht (by rw [hu, hq]), hu]
    simp only [hw]
    rw [State.endTask_of_closed (s := s.modPart x.part _) _ hchain, State.advance_of_idle 1 (by rw [State.lamp_modLamp_same])]
  · rw [show exec (.trap l q code) s = execTrap l q code s from rfl, execTrap, State.onCore, if_pos hs,
      State.instr_of_takes _ _ _ ht (by rw [hu, hq]), hu]
    simp only [hw]
    rw [State.advance_of_idle 1 (State.endTask_task ..)]
  · rw [show exec (.belay l q) s = execBelay l q s from rfl, execBelay, State.onCore, if_pos hs,
      State.instr_eq _ _ _ _ ht (by rw [hsafe]; rfl), hu, hq]
    rfl

end Sys2Proof.Machine

/-!
SUPPORT. What folds leave alone, registers read beside those written, and the commands of partitions and positions (R138 to R159,
R238 to R240).
-/
namespace Sys2Proof.Machine

/-! ### Folds and registers -/

/-- What no step of a fold changes, the fold leaves alone. -/
theorem foldl_stands {α β γ : Type} (g : β → γ) {f : β → α → β} {xs : List α} (h : ∀ u, ∀ x ∈ xs, g (f u x) = g u) (s : β) :
    g (xs.foldl f s) = g s := by
  induction xs generalizing s with
  | nil => rfl
  | cons x xs ih =>
    rw [List.foldl_cons, ih (fun u y hy => h u y (List.mem_cons_of_mem _ hy)), h s x List.mem_cons_self]

theorem State.fld_incFld_same (s : State) (a : Nat) (f : Fld) (top : Nat) (h : f.lo + f.len ≤ 32) (ht : top < 2 ^ f.len) :
    (s.incFld a f top).fld a f = min (s.fld a f + 1) top := by
  have hsat : satAdd (s.fld a f) 1 top = min (s.fld a f + 1) top := by
    rw [satAdd]
    split <;> omega
  rw [State.incFld, State.fld_setFld_same s a f _ h, hsat, Nat.mod_eq_of_lt (by omega)]

theorem State.fld_incFld_other (s : State) (a b : Nat) (f g : Fld) (top : Nat) (h : b ≠ a) : (s.incFld a f top).fld b g = s.fld b g :=
  State.fld_setFld_other s a b f g _ h

theorem State.fld_lt (s : State) (a : Nat) (f : Fld) : s.fld a f < 2 ^ f.len := Fld.get_lt f _

/-- The flag at bit 31 is the word's highest bit. -/
theorem Fld.get_bit {f : Fld} (w : Word) (h : f.len = 1) : f.get w = b2n (w.getLsbD f.lo) := by
  have hb := Fld.testBit_get f w 0
  have hlt := Fld.get_lt f w
  rw [h] at hb hlt
  rw [Nat.add_zero, decide_eq_true Nat.zero_lt_one, Bool.true_and] at hb
  rw [← hb, Nat.testBit_zero, b2n]
  have : f.get w = 0 ∨ f.get w = 1 := by omega
  rcases this with h | h <;> rw [h] <;> rfl

/-! ### Code pages -/

theorem State.pageState_setPage (s : State) (n m v : Nat) : (s.setPage n v).pageState m = if m = n then v % 4 else s.pageState m := by
  rw [State.setPage, State.pageState, State.pageState]
  split
  · subst m
    exact State.fld_setFld_same _ _ _ _ (by decide)
  · exact State.fld_setFld_other _ _ _ _ _ _ (by simp only [R.ENG_CODE_PAGE]; omega)

/-- A page's register lies in its block. -/
theorem State.fld_setPage (s : State) (n v a : Nat) (f : Fld) (hn : n < 1024) (ha : a < 0x21000 ∨ 0x22000 ≤ a) :
    (s.setPage n v).fld a f = s.fld a f := State.fld_setFld_other _ _ _ _ _ _ (by simp only [R.ENG_CODE_PAGE]; omega)

theorem State.fld_foldl_setPage (s : State) (xs : List Nat) (v a : Nat) (f : Fld) (hx : ∀ n ∈ xs, n < 1024)
    (ha : a < 0x21000 ∨ 0x22000 ≤ a) : (xs.foldl (fun s n => s.setPage n v) s).fld a f = s.fld a f :=
  foldl_stands (fun u : State => u.fld a f) (fun u n h => State.fld_setPage u n v a f (hx n h) ha) s

theorem State.pageState_foldl_setPage (xs : List Nat) (v : Nat) {m : Nat} (s : State) (h : m ∈ xs ∨ s.pageState m = v % 4) :
    (xs.foldl (fun s n => s.setPage n v) s).pageState m = v % 4 := by
  induction xs generalizing s with
  | nil => exact h.resolve_left List.not_mem_nil
  | cons x xs ih =>
    refine ih _ ?_
    rw [State.pageState_setPage]
    by_cases hx : m = x
    · exact Or.inr (if_pos hx)
    · rw [if_neg hx]
      exact h.imp_left fun h => (List.mem_cons.1 h).resolve_left hx

/-! ### Only registers -/

/-- The state with the SRF's store replaced. -/
def State.withSrf (s : State) (srf : List (Nat × Word)) : State := { s with srf := srf }

/-- From `s` to `t` only registers can differ. -/
def SrfOnly (s t : State) : Prop := ∃ srf, t = s.withSrf srf

theorem SrfOnly.refl (s : State) : SrfOnly s s := ⟨s.srf, rfl⟩

theorem SrfOnly.trans {s t u : State} (h : SrfOnly s t) (k : SrfOnly t u) : SrfOnly s u := by
  obtain ⟨x, rfl⟩ := h
  obtain ⟨y, rfl⟩ := k
  exact ⟨y, rfl⟩

theorem SrfOnly.foldl {α : Type} {f : State → α → State} (h : ∀ u x, SrfOnly u (f u x)) (xs : List α) (s : State) :
    SrfOnly s (xs.foldl f s) := by
  induction xs generalizing s with
  | nil => exact .refl s
  | cons x xs ih => exact (h s x).trans (ih _)

theorem SrfOnly.setFld (s : State) (a : Nat) (f : Fld) (v : Nat) : SrfOnly s (s.setFld a f v) := ⟨_, rfl⟩

theorem SrfOnly.setPages (s : State) (xs : List Nat) (v : Nat) : SrfOnly s (xs.foldl (fun s n => s.setPage n v) s) :=
  .foldl (fun u _ => .setFld u _ _ _) xs s

/-! ### Receive rings -/

/-- The state with the switch's own state replaced. -/
def State.withSw (s : State) (sw : SwSt) : State := { s with sw := sw }

/-- From `s` to `t` only the switch's own state can differ. -/
def SwOnly (s t : State) : Prop := ∃ sw, t = s.withSw sw

theorem SwOnly.trans {s t u : State} (h : SwOnly s t) (k : SwOnly t u) : SwOnly s u := by
  obtain ⟨x, rfl⟩ := h
  obtain ⟨y, rfl⟩ := k
  exact ⟨y, rfl⟩

theorem SwOnly.foldl {α : Type} {f : State → α → State} (h : ∀ u x, SwOnly u (f u x)) (xs : List α) (s : State) :
    SwOnly s (xs.foldl f s) := by
  induction xs generalizing s with
  | nil => exact ⟨s.sw, rfl⟩
  | cons x xs ih => exact (h s x).trans (ih _)

theorem SwOnly.modHold (s : State) (n : Nat) (f) : SwOnly s (s.modHold n f) := by
  rw [State.modHold]
  split
  · exact ⟨_, rfl⟩
  · exact ⟨s.sw, rfl⟩

theorem SwOnly.ringClear (s : State) (r : Nat) : SwOnly s (s.ringClear r) :=
  (SwOnly.foldl (fun u _ => .modHold u _ _) _ s).trans ⟨_, rfl⟩

theorem SwOnly.ringsStart (s : State) (p : Nat) : SwOnly s (s.ringsStart p) := .foldl .ringClear _ s

/-! ### Partition commands (R154, R156) -/

theorem State.pstate_setPstate (s : State) (p v : Nat) (h : v < 8) : (s.setPstate p v).pstate p = v := by
  rw [State.pstate, State.setPstate, State.fld_setFld_same _ _ _ _ (by decide)]
  exact Nat.mod_eq_of_lt h

/-- A partition that enters STARTING: its state, its bound pages to be copied, and no lamp and no byte of memory changed. -/
theorem State.toStarting_spec (s : State) (p : Nat) (hp : p < 128) (hb : ∀ n ∈ s.eng.bound, n < 1024) :
    (s.toStarting p).pstate p = psStarting ∧ ((s.toStarting p).part p).startNow = true ∧
      (∀ n ∈ s.boundPages p, (s.toStarting p).pageState n = 1) ∧ (s.toStarting p).lamps = s.lamps ∧ (s.toStarting p).mem = s.mem := by
  have hpages : ∀ n ∈ s.boundPages p, n < 1024 := fun n h => hb n (List.mem_filter.1 h).1
  obtain ⟨sw, hsw⟩ := SwOnly.ringsStart (s.setPstate p psStarting) p
  rw [State.toStarting, hsw]
  obtain ⟨srf, h⟩ := SrfOnly.setPages (((s.setPstate p psStarting).withSw sw).modPart p (fun x => { x with startNow := true }))
    (s.boundPages p) 1
  refine ⟨?_, ?_, fun n h => State.pageState_foldl_setPage _ 1 _ (Or.inl h), by rw [h]; rfl, by rw [h]; rfl⟩
  · rw [State.pstate, State.fld_foldl_setPage _ _ _ _ _ hpages (by simp only [R.ENG_PART_STAT]; omega)]
    exact State.pstate_setPstate s p psStarting (by decide)
  · rw [h]
    exact congrArg PartSt.startNow (State.part_modPart_same ((s.setPstate p psStarting).withSw sw) p fun x => { x with startNow := true })

/-- A command to a partition other than 0, or from an OWNER, goes to the table of R154. -/
theorem State.partCmd_eq {p : Fin 128} {owner : Bool} (s : State) (h : p ≠ 0 ∨ owner = true) :
    s.partCmd p 1 owner = (if s.pstate p = psFree then s.setPstate p psIdle else s.cmdRefused p) ∧
      ((s.part p).stopReq = none →
        s.partCmd p 2 owner = if (s.pstate p = psIdle ∨ s.pstate p = psStopped) ∧ ¬ (s.part p).endReq then s.toStarting p else s.cmdRefused p) ∧
      (¬ (s.pstate p = psIdle ∨ s.pstate p = psStopped) → s.partCmd p 2 owner = s.cmdRefused p) ∧
      s.partCmd p 3 owner = (if s.pstate p = psStarting ∨ s.pstate p = psRunning then s.askStop p .command else s.cmdRefused p) ∧
      ((s.part p).stopReq = none →
        s.partCmd p 4 owner = if s.pstate p = psStarting ∨ s.pstate p = psRunning then s.askStop p .restart else s.cmdRefused p) ∧
      (¬ (s.pstate p = psStarting ∨ s.pstate p = psRunning) → s.partCmd p 4 owner = s.cmdRefused p) ∧
      s.partCmd p 5 owner = if p ≠ 0 ∧ (s.pstate p = psIdle ∨ s.pstate p = psStarting ∨ s.pstate p = psRunning ∨ s.pstate p = psStopped) then
        s.modPart p (fun x => { x with endReq := true }) else s.cmdRefused p := by
  have ho : (decide (p.val = 0) && !owner) = false := by
    rcases h with h | h
    · have h0 : p.val ≠ 0 := fun h0 => h (Fin.ext h0)
      rw [decide_eq_false h0]; rfl
    · rw [h]; exact Bool.and_false _
  have hp0 : p.val ≠ 0 ↔ p ≠ 0 := not_congr Fin.val_eq_zero_iff
  refine ⟨?_, fun hstop => ?_, fun hst => ?_, ?_, fun hstop => ?_, fun hst => ?_, ?_⟩ <;>
    simp_all [State.partCmd]

theorem exec_of_partCmd {s : State} {i : Instr} {p cmd : Nat} {owner : Bool} {t : State} (hs : s.coreOn = true)
    (harm : exec i s = s.onCore (fun s => s.partCmd p cmd owner)) (ht : s.partCmd p cmd owner = t) : exec i s = .next t := by
  rw [exec_eq_next_of_onCore hs harm, ht]

/-- With no stop asked for, a request of a STARTING or RUNNING partition that no fault makes is taken. -/
theorem State.askStop_of_live {s : State} {p : Nat} {c : StopReq} (hst : s.pstate p = psStarting ∨ s.pstate p = psRunning)
    (hstop : (s.part p).stopReq = none) (hc : c.isFault = false) :
    s.askStop p c = s.modPart p (fun x => { x with stopReq := some c }) := by
  have hlive : (s.pstate p == psStarting || s.pstate p == psRunning) = true := by simpa using hst
  simp only [State.askStop, hlive, hstop, hc, Bool.false_and, Bool.false_eq_true, if_false, if_true]

/-- Settles O24: the table of R154 row by row. -/
theorem partitionCommands : Obligations.PartitionCommands := by
  unfold Obligations.PartitionCommands
  intro s p owner hs hb st
  refine ⟨fun howner => ?_, fun hp howner => ?_⟩
  · obtain ⟨hallot, hstart, hnoStart, hstopc, hrestart, hnoRestart, hend⟩ := s.partCmd_eq howner
    refine ⟨fun h => exec_of_partCmd hs rfl (hallot.trans (if_pos h)), fun h => exec_of_partCmd hs rfl (hallot.trans (if_neg h)),
      fun h hstop hreq => ⟨_, exec_of_partCmd hs rfl ((hstart hstop).trans (if_pos ⟨h, by simp [hreq]⟩)), s.toStarting_spec p p.isLt hb⟩,
      fun h => exec_of_partCmd hs rfl (hnoStart h),
      fun h hstop => ⟨exec_of_partCmd hs rfl ((hstopc.trans (if_pos h)).trans (State.askStop_of_live h hstop rfl)),
        exec_of_partCmd hs rfl (((hrestart hstop).trans (if_pos h)).trans (State.askStop_of_live h hstop rfl))⟩,
      fun h => ⟨exec_of_partCmd hs rfl (hstopc.trans (if_neg h)), exec_of_partCmd hs rfl (hnoRestart h)⟩,
      fun hp h => exec_of_partCmd hs rfl (hend.trans (if_pos ⟨hp, h⟩)), fun h => exec_of_partCmd hs rfl (hend.trans (if_neg ?_))⟩
    rintro ⟨hp, hst⟩
    rcases h with h | h | h
    · exact hp h
    · rw [show s.pstate p = psFree from h] at hst
      exact absurd hst (by decide)
    · rw [show s.pstate p = psZeroising from h] at hst
      exact absurd hst (by decide)
  · subst hp howner
    simp only [List.forall_mem_cons, List.not_mem_nil, false_imp_iff, implies_true, and_true]
    exact ⟨exec_of_partCmd hs rfl rfl, exec_of_partCmd hs rfl rfl, exec_of_partCmd hs rfl rfl, exec_of_partCmd hs rfl rfl⟩

end Sys2Proof.Machine

/-!
SUPPORT. Spares, self-tests, migrations, code pages and event routes (R138 to R140, R147, R158, R238 to R240).
-/
namespace Sys2Proof.Machine

/-! ### Repairs asked for -/

/-- A repair asked for writes the bank's register, STATE of the location and the count of repairs. -/
theorem State.reg_startRepair (s : State) {loc a : Nat} (h1 : a ≠ R.TS_BANK_STAT (loc / 64)) (h2 : a ≠ R.TS_DIR_CTL loc)
    (h3 : a ≠ R.TS_REPAIR_STAT) : (s.startRepair loc).reg a = s.reg a := by
  have hq : ∀ (u : State) (b : Nat) (q : List Nat), (u.setBankQ b q).reg a = u.reg a := fun _ _ _ => rfl
  simp only [State.startRepair]
  split
  · rfl
  · split <;> simp only [hq, State.incFld, State.reg_setFld, h1, h2, h3, if_false]

theorem State.reg_startRepair_outside (s : State) (loc a : Nat) (hl : loc < 4096) (ha : a < 0x10000 ∨ 0x20000 ≤ a) :
    (s.startRepair loc).reg a = s.reg a :=
  s.reg_startRepair (by simp only [R.TS_BANK_STAT]; omega) (by simp only [R.TS_DIR_CTL]; omega) (by simp only [R.TS_REPAIR_STAT]; omega)

theorem State.startRepair_mem (s : State) (loc : Nat) : (s.startRepair loc).mem = s.mem := by
  simp only [State.startRepair, apply_ite State.mem]
  split
  · rfl
  · exact ite_self _

/-! ### Migration (R240) -/

/-- The end of a migration writes its register and records. -/
theorem State.migrationEnd_reg (s : State) (a : Nat) (ha : a < 0x100000 ∨ 0x110000 ≤ a) (hm : a ≠ R.ENG_MIGRATE) :
    s.migrationEnd.reg a = s.reg a := by
  simp only [State.migrationEnd]
  split
  · rfl
  · split
    · rw [State.reg_event _ _ _ _ _ _ _ ha, State.reg_setFlag_ne _ _ _ _ _ hm]
      exact State.reg_setFld_ne _ _ _ _ _ hm
    · exact State.reg_setFld_ne _ _ _ _ _ hm

theorem State.migrationEnd_fld (s : State) (a : Nat) (f : Fld) (ha : a < 0x100000 ∨ 0x110000 ≤ a) (hm : a ≠ R.ENG_MIGRATE) :
    s.migrationEnd.fld a f = s.fld a f := congrArg f.get (s.migrationEnd_reg a ha hm)

theorem State.migrationEnd_mem (s : State) : s.migrationEnd.mem = s.mem := by
  simp only [State.migrationEnd]
  split
  · rfl
  · split
    · simp
    · simp

/-- The end of a migration leaves what waits to move alone. -/
theorem State.migrationEnd_moving (s : State) : s.migrationEnd.eng.moving = s.eng.moving := by
  simp only [State.migrationEnd]
  split
  · rfl
  · split
    · simp
    · simp

/-! ### Positions -/

theorem mem_luniq {x : Nat} {xs : List Nat} : x ∈ luniq xs ↔ x ∈ xs := by
  induction xs with
  | nil => exact Iff.rfl
  | cons y ys ih =>
    rw [luniq, List.mem_cons, List.mem_cons, List.mem_filter, ih]
    by_cases h : x = y <;> simp [h]

theorem mem_filter_ne_self {x : Nat} {xs : List Nat} : x ∉ xs.filter (fun y => y != x) := by
  simp [List.mem_filter]

theorem State.spareStat_fld (s : State) (a : Nat) (f : Fld) (h : a ≠ R.ENG_SPARE) : s.spareStat.fld a f = s.fld a f := by
  rw [State.spareStat, State.fld_setFlag_other _ _ _ _ _ _ h, State.fld_setFld_other _ _ _ _ _ _ h]

/-- The registers of two positions after the spare's lamp has taken the position's place (R139, R240 step 1). -/
def State.lampsSwapped (s : State) (n sp : Nat) : State :=
  ((((s.setFld (R.ENG_LAMP n) F.ENG_LAMP_PHYS (s.fld (R.ENG_LAMP sp) F.ENG_LAMP_PHYS)).setFld (R.ENG_LAMP n) F.ENG_LAMP_FAILS
    (s.fld (R.ENG_LAMP sp) F.ENG_LAMP_FAILS)).setFld (R.ENG_LAMP sp) F.ENG_LAMP_PHYS (s.fld (R.ENG_LAMP n) F.ENG_LAMP_PHYS)).setFld
      (R.ENG_LAMP sp) F.ENG_LAMP_FAILS (s.fld (R.ENG_LAMP n) F.ENG_LAMP_FAILS)).setFld (R.ENG_LAMP sp) F.ENG_LAMP_STATE 2

theorem State.lampsSwapped_spec (s : State) {n sp : Nat} (h : n ≠ sp) :
    (s.lampsSwapped n sp).fld (R.ENG_LAMP n) F.ENG_LAMP_PHYS = s.fld (R.ENG_LAMP sp) F.ENG_LAMP_PHYS ∧
      (s.lampsSwapped n sp).fld (R.ENG_LAMP sp) F.ENG_LAMP_PHYS = s.fld (R.ENG_LAMP n) F.ENG_LAMP_PHYS ∧
      (s.lampsSwapped n sp).posState sp = 2 ∧ (s.lampsSwapped n sp).posState n = s.posState n := by
  have hne : R.ENG_LAMP n ≠ R.ENG_LAMP sp := by simp only [R.ENG_LAMP]; omega
  have hlt : ∀ m, s.fld (R.ENG_LAMP m) F.ENG_LAMP_PHYS % 2 ^ 6 = s.fld (R.ENG_LAMP m) F.ENG_LAMP_PHYS :=
    fun m => Nat.mod_eq_of_lt (s.fld_lt _ F.ENG_LAMP_PHYS)
  simp only [State.lampsSwapped, State.posState]
  refine ⟨?_, ?_, ?_, ?_⟩
  · rw [State.fld_setFld_other _ _ _ _ _ _ hne, State.fld_setFld_other _ _ _ _ _ _ hne, State.fld_setFld_other _ _ _ _ _ _ hne,
      State.fld_setFld_ne _ _ _ _ _ (by decide), State.fld_setFld_same _ _ _ _ (by decide)]
    exact hlt sp
  · rw [State.fld_setFld_ne _ _ _ _ _ (by decide), State.fld_setFld_ne _ _ _ _ _ (by decide), State.fld_setFld_same _ _ _ _ (by decide)]
    exact hlt n
  · rw [State.fld_setFld_same _ _ _ _ (by decide)]
    rfl
  · rw [State.fld_setFld_other _ _ _ _ _ _ hne, State.fld_setFld_other _ _ _ _ _ _ hne, State.fld_setFld_other _ _ _ _ _ _ hne,
      State.fld_setFld_ne _ _ _ _ _ (by decide), State.fld_setFld_ne _ _ _ _ _ (by decide)]

/-- A position that waits to move takes the lowest healthy spare's lamp. -/
theorem exec_lampMigrationStart {s : State} {pos : Fin 64} {sp : Nat} {rest : List Nat} (hs : s.coreOn = true) (hm : pos.val ∈ s.eng.moving)
    (hnone : s.eng.migration = none) (hb : ∀ n ∈ s.eng.bound, n < 1024) (hsp : s.healthySpares = sp :: rest) :
    ∃ t : State, exec (.lampMigrationStart pos) s = .next t ∧ pos.val ∉ t.eng.moving ∧
      ∀ m f, m < 64 → t.fld (R.ENG_LAMP m) f = (s.lampsSwapped pos sp).fld (R.ENG_LAMP m) f := by
  have hc : (!s.eng.moving.contains pos.val || s.eng.migration.isSome) = false := by simp [hm, hnone]
  rw [show exec (.lampMigrationStart pos) s = execLampMigrationStart pos s from rfl, execLampMigrationStart, State.onCore, if_pos hs]
  simp only [hc, hsp, Bool.false_eq_true, if_false]
  refine ⟨_, rfl, ?_, fun m f hm => ?_⟩
  · rw [State.migrationEnd_moving]
    exact mem_filter_ne_self
  · have h1 : R.ENG_LAMP m ≠ R.ENG_MIGRATE := by simp only [R.ENG_LAMP, R.ENG_MIGRATE]; omega
    have h2 : R.ENG_LAMP m ≠ R.ENG_SPARE := by simp only [R.ENG_LAMP, R.ENG_SPARE]; omega
    have h3 : R.ENG_LAMP m < 0x21000 := by simp only [R.ENG_LAMP]; omega
    have heng : ∀ (u : State) (e : EngSt) (a : Nat), ({ u with eng := e } : State).fld a f = u.fld a f := fun _ _ _ => rfl
    rw [State.migrationEnd_fld _ _ _ (Or.inl (Nat.lt_trans h3 (by decide))) h1, heng, State.fld_setFld_other _ _ _ _ _ _ h1, State.fld_setFld_other _ _ _ _ _ _ h1, State.fld_setFlag_other _ _ _ _ _ _ h1,
      State.fld_foldl_setPage _ _ _ _ _ ?_ (Or.inl h3), State.spareStat_fld _ _ _ h2]
    · rfl
    · exact fun n h => hb n (List.mem_filter.1 h).1

/-! ### Code pages (R147) -/

theorem State.bytes_eq_map (s : State) (a n : Nat) (h : s.Inv) : s.bytes a n = (List.range' a n).map (fun x => s.byte x) :=
  State.bytes_eq s a n h.2

/-- The registers of an exchange after a page of it has been copied (R226). -/
theorem State.fld_xchgPage (s : State) (p v n : Nat) (x : PartSt → PartSt) (hp : p < 128) :
    ((s.modPart p x).setFld (R.ENG_XCHG_STAT p) F.ENG_XCHG_STAT_PAGES_LEFT v).pageState n = s.pageState n :=
  State.fld_setFld_other _ _ _ _ _ _ (by simp only [R.ENG_CODE_PAGE, R.ENG_XCHG_STAT]; omega)

theorem State.migrationEnd_pageState (s : State) (n : Nat) (hn : n < 1024) : s.migrationEnd.pageState n = s.pageState n :=
  State.migrationEnd_fld s _ _ (Or.inl (by simp only [R.ENG_CODE_PAGE]; omega)) (by simp only [R.ENG_CODE_PAGE, R.ENG_MIGRATE]; omega)

/-- A page copied: its state and memory. -/
theorem exec_codePageCopy_good {s : State} {l : Fin 64} {page : Fin 16} {loc n p : Nat} (hs : s.coreOn = true) (hn : n = 16 * l.val + page.val)
    (hp : p = s.fld (R.ENG_CODE_PAGE n) F.ENG_CODE_PAGE_PART) (hvalid : s.flag (R.ENG_CODE_PAGE n) F.ENG_CODE_PAGE_VALID = true)
    (hsrc : s.copySource l n p = some loc) (hc : s.copyCause loc p = none) :
    ∃ t : State, exec (.codePageCopy l page) s = .next t ∧ t.pageState n = 2 ∧
      t.mem = (s.setBytes (pageAddr l page) (s.payload loc ++ List.replicate 32 0)).mem := by
  have hn1024 : n < 1024 := by omega
  have hp128 : p < 128 := hp ▸ s.fld_lt _ F.ENG_CODE_PAGE_PART
  subst hn hp
  rw [show exec (.codePageCopy l page) s = execCodePageCopy l page s from rfl, execCodePageCopy, State.onCore, if_pos hs]
  simp only [hvalid, hsrc, hc, Bool.not_true, Bool.false_eq_true, if_false]
  refine ⟨_, rfl, ?_, ?_⟩
  · rw [State.migrationEnd_pageState _ _ hn1024]
    split
    · rw [State.fld_xchgPage _ _ _ _ _ hp128, State.pageState_setPage, if_pos rfl]
    · rw [State.pageState_setPage, if_pos rfl]
  · rw [State.migrationEnd_mem]
    split <;> rfl

/-- A page whose source tile fails: BAD, memory as it was. -/
theorem exec_codePageCopy_bad {s : State} {l : Fin 64} {page : Fin 16} {loc n p c : Nat} (hs : s.coreOn = true) (hn : n = 16 * l.val + page.val)
    (hp : p = s.fld (R.ENG_CODE_PAGE n) F.ENG_CODE_PAGE_PART) (hvalid : s.flag (R.ENG_CODE_PAGE n) F.ENG_CODE_PAGE_VALID = true)
    (hsrc : s.copySource l n p = some loc) (hloc : loc < 4096) (hc : s.copyCause loc p = some c) :
    ∃ t : State, exec (.codePageCopy l page) s = .next t ∧ t.pageState n = 3 ∧ t.mem = s.mem := by
  subst hn hp
  have hpage : (s.setPage (16 * l.val + page.val) 3).pageState (16 * l.val + page.val) = 3 := by
    rw [State.pageState_setPage, if_pos rfl]
  rw [show exec (.codePageCopy l page) s = execCodePageCopy l page s from rfl, execCodePageCopy, State.onCore, if_pos hs]
  simp only [hvalid, hsrc, hc, Bool.not_true, Bool.false_eq_true, if_false]
  split
  · refine ⟨_, rfl, ?_, State.startRepair_mem _ _⟩
    rw [State.pageState, State.fld, State.reg_startRepair_outside _ _ _ hloc (Or.inr (by simp only [R.ENG_CODE_PAGE]; omega))]
    exact hpage
  · exact ⟨_, rfl, hpage, rfl⟩

/-- The bytes of a page copied: the payload, then 32 zero bytes. -/
theorem State.byte_of_pageCopied {s t : State} {a loc i : Nat} (hinv : s.Inv) (hi : i < 4096)
    (ht : t.mem = (s.setBytes a (s.payload loc ++ List.replicate 32 0)).mem) :
    t.byte (a + i) = if i < 4064 then s.byte (tileAddr loc + i) else 0 := by
  have hin : a ≤ a + i ∧ a + i < a + (s.payload loc ++ List.replicate 32 0).length := by
    rw [List.length_append, State.payload, State.bytes_length, List.length_replicate]; omega
  rw [State.byte_congr ht, State.byte_setBytes, dif_pos hin]
  simp only [Nat.add_sub_cancel_left, List.getElem_append, State.payload, State.bytes_length, List.getElem_replicate]
  split
  · simp only [State.bytes_eq_map s _ _ hinv, List.getElem_map, List.getElem_range', Nat.one_mul]
  · rfl

/-! ### Event routes (R158) -/

theorem State.evtRouteWrite_of_ok {s : State} {n : Nat} {w : Word}
    (hok : s.sourceOk (F.ENG_EVT_ROUTE_TYPE.get (w &&& 0xFFFF7F1F)) (F.ENG_EVT_ROUTE_INDEX.get (w &&& 0xFFFF7F1F))
      (F.ENG_EVT_ROUTE_PART.get (w &&& 0xFFFF7F1F)) = true) (hold : (s.reg (R.ENG_EVT_ROUTE n)).getLsbD 31 = false) :
    s.evtRouteWrite n w = s.bindWrite (R.ENG_EVT_ROUTE n) (w &&& 0xFFFF7F1F) := by
  have hfree : F.ENG_EVT_ROUTE_VALID.get (s.reg (R.ENG_EVT_ROUTE n)) = 0 := by rw [Fld.get_bit _ rfl, hold]; rfl
  simp only [State.evtRouteWrite, hok, hfree, Bool.not_true, Bool.and_false, Bool.false_eq_true, if_false, Nat.zero_ne_one]

theorem State.evtRouteWrite_of_refused {s : State} {n : Nat} {w : Word}
    (hok : s.sourceOk (F.ENG_EVT_ROUTE_TYPE.get (w &&& 0xFFFF7F1F)) (F.ENG_EVT_ROUTE_INDEX.get (w &&& 0xFFFF7F1F))
      (F.ENG_EVT_ROUTE_PART.get (w &&& 0xFFFF7F1F)) = false) (hvalid : (w &&& 0xFFFF7F1F).getLsbD 31 = true) :
    s.evtRouteWrite n w = s.event Ev.EVT_ROUTE_REFUSED (F.ENG_EVT_ROUTE_PART.get (w &&& 0xFFFF7F1F)) := by
  have hv : F.ENG_EVT_ROUTE_VALID.get (w &&& 0xFFFF7F1F) = 1 := by rw [Fld.get_bit _ rfl, hvalid]; rfl
  simp only [State.evtRouteWrite, hok, hv]
  rfl

/-- A binding written stands at once and waits for the landing (R153). -/
theorem State.bindWrite_spec (s : State) (a : Nat) (w : Word) :
    (s.bindWrite a w).reg a = w ∧ (s.bindWrite a w).inEffect a = false ∧ (s.bindWrite a w).mem = s.mem := by
  refine ⟨State.reg_setReg_same s a w, ?_, rfl⟩
  have hin : a ∈ luniq ((s.setReg a w).tick.fresh ++ [a]) := mem_luniq.2 (List.mem_append_right _ List.mem_cons_self)
  rw [State.inEffect, State.bindWrite, Bool.not_eq_false']
  exact List.contains_iff_mem.2 hin

/-! ### Self-tests (R238, R239) -/

/-- A pass after a failed one is a transient. -/
theorem exec_selftestPassDone_transient {s : State} {pos : Fin 64} (hs : s.coreOn = true) (hsus : s.eng.suspect.contains pos.val = true) :
    ∃ t : State, exec (.selftestPassDone pos true) s = .next t ∧ pos.val ∉ t.eng.suspect ∧
      t.fld R.ENG_SELFTEST F.ENG_SELFTEST_TRANSIENT = min (s.fld R.ENG_SELFTEST F.ENG_SELFTEST_TRANSIENT + 1) 255 := by
  rw [show exec (.selftestPassDone pos true) s = execSelftestPassDone pos true s from rfl, execSelftestPassDone, State.onCore, if_pos hs]
  simp only [hsus, if_true]
  refine ⟨_, rfl, ?_, ?_⟩
  · rw [State.event_eng]
    exact mem_filter_ne_self
  · rw [State.fld_event _ _ _ _ _ _ _ _ (by decide), State.fld_incFld_same _ _ _ _ (by decide) (by decide)]
    rfl

/-- A failed pass is counted; the first starts another, the second retires the lamp. -/
theorem exec_selftestPassDone_failed {s : State} {pos : Fin 64} (hs : s.coreOn = true) :
    ∃ t : State, exec (.selftestPassDone pos false) s = .next t ∧
      t.fld (R.ENG_LAMP pos) F.ENG_LAMP_FAILS = min (s.fld (R.ENG_LAMP pos) F.ENG_LAMP_FAILS + 1) 255 ∧
      if s.eng.suspect.contains pos.val then pos.val ∈ t.eng.retiring else pos.val ∈ t.eng.suspect ∧ pos.val ∈ t.eng.passing := by
  have hcount : ∀ (u : State) (e : EngSt), u.fld (R.ENG_LAMP pos) F.ENG_LAMP_FAILS = s.fld (R.ENG_LAMP pos) F.ENG_LAMP_FAILS →
      State.fld { u.incFld (R.ENG_LAMP pos) F.ENG_LAMP_FAILS 255 with eng := e } (R.ENG_LAMP pos) F.ENG_LAMP_FAILS =
        min (s.fld (R.ENG_LAMP pos) F.ENG_LAMP_FAILS + 1) 255 := fun u e h =>
    (State.fld_incFld_same u _ _ _ (by decide) (by decide)).trans (by rw [h])
  rw [show exec (.selftestPassDone pos false) s = execSelftestPassDone pos false s from rfl, execSelftestPassDone, State.onCore, if_pos hs]
  simp only [Bool.false_eq_true, if_false]
  cases hsus : s.eng.suspect.contains pos.val with
  | true =>
    simp only [if_true]
    exact ⟨_, rfl, hcount _ _ rfl, mem_luniq.2 (List.mem_append_right _ List.mem_cons_self)⟩
  | false =>
    simp only [Bool.false_eq_true, if_false]
    exact ⟨_, rfl, hcount _ _ rfl, List.mem_append_right _ List.mem_cons_self, List.mem_append_right _ List.mem_cons_self⟩

/-! ### A partition that runs, and one that is free again -/

theorem exec_partitionRunning {s : State} {p : Fin 128} (hs : s.coreOn = true) (hrun : s.mayRun p = true) (htwin : s.twinned p = false) :
    ∃ t : State, exec (.partitionRunning p) s = .next t ∧ t.pstate p = psRunning ∧ t.fld (R.ENG_WD p) F.ENG_WD_COUNT = 0 ∧
      (t.part p).stored = [] ∧ (t.part p).released = false := by
  rw [show exec (.partitionRunning p) s = execPartitionRunning p s from rfl, execPartitionRunning, State.onCore, if_pos hs]
  simp only [hrun, htwin, Bool.false_and, Bool.not_false, Bool.and_true, if_true]
  refine ⟨_, rfl, ?_, ?_, by rw [State.toRunning, State.part_modPart_same], by rw [State.toRunning, State.part_modPart_same]⟩
  · rw [State.toRunning, State.pstate, State.fld_congr (State.modPart_srf ..),
      State.fld_setFld_other _ _ _ _ _ _ (by simp only [R.ENG_PART_STAT, R.ENG_WD]; omega)]
    exact State.pstate_setPstate s p psRunning (by decide)
  · rw [State.toRunning, State.fld_congr (State.modPart_srf ..), State.fld_setFld_same _ _ _ _ (by decide)]
    rfl

theorem exec_zeroisationDone {s : State} {p : Fin 128} (hs : s.coreOn = true) (hst : s.pstate p = psZeroising) (hz : p.val ∉ s.boot.zero)
    (hnone : ∀ l ∈ s.allocated, s.dirOwner l ≠ p) : exec (.zeroisationDone p) s = .next (s.setPstate p psFree) := by
  have hany : s.allocated.any (fun l => s.dirOwner l == p.val) = false := by
    rw [List.any_eq_false]
    intro l hl
    simpa using hnone l hl
  have hz' : s.boot.zero.contains p.val = false := by simpa using hz
  rw [show exec (.zeroisationDone p) s = execZeroisationDone p s from rfl, execZeroisationDone, State.onCore, if_pos hs]
  simp only [hst, hz', hany]
  rfl

/-- Settles O25: a lemma for each command, and the word each register takes. -/
theorem positionsAndRoutes : Obligations.PositionsAndRoutes := by
  unfold Obligations.PositionsAndRoutes
  intro s hs
  have hcount (v : Word) : F.ENG_SPARE_COUNT.get v = v.toNat % 16 := by simp [Fld.get]
  refine ⟨fun v h2 h8 => ?_, fun v h => ?_, fun pos => ⟨?_, exec_selftestPassDone_transient hs, exec_selftestPassDone_failed hs,
    fun sp rest hm hnone hst hb hsp => ?_⟩, fun l page loc hinv hloc => ?_, fun p => ⟨exec_partitionRunning hs,
    exec_zeroisationDone hs⟩, fun n w => ?_⟩
  · rw [exec_eq_next_of_onCore (f := fun s => s.spareCountWrite v) hs rfl]
    simp only [State.spareCountWrite, hcount, h2, h8, and_self, if_true]
  · have hno : ¬ (2 ≤ v.toNat % 16 ∧ v.toNat % 16 ≤ 8) := by omega
    rw [exec_eq_next_of_onCore (f := fun s => s.spareCountWrite v) hs rfl]
    simp only [State.spareCountWrite, hcount, hno, if_false]
  · refine ⟨_, exec_eq_next_of_onCore (f := fun s => (s.setFld R.ENG_SELFTEST F.ENG_SELFTEST_POS pos.val).selftest pos) hs rfl, ?_,
      mem_luniq.2 (List.mem_append_right _ List.mem_cons_self)⟩
    exact (State.fld_setFld_same s R.ENG_SELFTEST F.ENG_SELFTEST_POS pos.val (by decide)).trans (Nat.mod_eq_of_lt pos.isLt)
  · obtain ⟨t, ht, hmoved, hreg⟩ := exec_lampMigrationStart hs hm hnone hb hsp
    have hsp' := List.mem_filter.1 (hsp ▸ List.mem_cons_self : sp ∈ s.healthySpares)
    have hsp64 : sp < 64 := List.mem_range.1 hsp'.1
    have hne : pos.val ≠ sp := by
      rintro rfl
      exact hst (by simpa using hsp'.2)
    obtain ⟨h1, h2, h3, h4⟩ := s.lampsSwapped_spec hne
    exact ⟨t, ht, (hreg _ _ pos.isLt).trans h1, (hreg _ _ hsp64).trans h2, (hreg _ _ hsp64).trans h3, (hreg _ _ pos.isLt).trans h4, hmoved⟩
  · intro n p hvalid hsrc
    cases hc : s.copyCause loc p with
    | none =>
      obtain ⟨t, ht, hpage, hmem⟩ := exec_codePageCopy_good hs rfl rfl hvalid hsrc hc
      exact ⟨t, ht, fun _ => ⟨hpage, fun i hi => State.byte_of_pageCopied hinv hi hmem⟩, fun h => absurd rfl h⟩
    | some c =>
      obtain ⟨t, ht, hpage, hmem⟩ := exec_codePageCopy_bad hs rfl rfl hvalid hsrc hloc hc
      exact ⟨t, ht, ⟨fun h => absurd h (Option.some_ne_none c), fun _ => ⟨hpage, hmem⟩⟩⟩
  · intro v ok
    refine ⟨fun hok hold => ?_, fun hok hv => (exec_eq_next_of_onCore (f := fun s => s.evtRouteWrite n w) hs rfl).trans
      (congrArg _ (State.evtRouteWrite_of_refused hok hv))⟩
    obtain ⟨hreg, heff, _⟩ := s.bindWrite_spec (R.ENG_EVT_ROUTE n) v
    exact ⟨_, (exec_eq_next_of_onCore (f := fun s => s.evtRouteWrite n w) hs rfl).trans
      (congrArg _ (State.evtRouteWrite_of_ok hok hold)), hreg, heff⟩

end Sys2Proof.Machine

/-!
SUPPORT. The tile store's background: a new tile, a freed one, a repaired one (R122 to R130).
-/
namespace Sys2Proof.Machine

/-! ### Directory words (R110) -/

theorem dirWord_get {owner kind flags link : Nat} (act : Bool) (ho : owner < 128) (hk : kind < 16) (hf : flags < 64) (hl : link < 64) :
    F.TS_DIR_CTL_VALID.get (dirWord owner kind flags link act) = 1 ∧ F.TS_DIR_CTL_OWNER.get (dirWord owner kind flags link act) = owner ∧
      F.TS_DIR_CTL_KIND.get (dirWord owner kind flags link act) = kind ∧ F.TS_DIR_CTL_FLAGS.get (dirWord owner kind flags link act) = flags ∧
      F.TS_DIR_CTL_STATE.get (dirWord owner kind flags link act) = 0 := by
  have hact : b2n act ≤ 1 := by cases act <;> decide
  simp only [Fld.get, dirWord, w32, BitVec.toNat_ofNat, Nat.shiftRight_eq_div_pow]
  refine ⟨?_, ?_, ?_, ?_, ?_⟩ <;> omega

/-! ### A new tile (R129) -/

/-- One location of a new tile: its bytes and its directory entry. -/
def State.putNew (s : State) (l : Nat) (b : List Byte) (w ident : Word) : State :=
  (((s.setBytes (tileAddr l) b).setReg (R.TS_DIR_CTL l) w).setReg (R.TS_DIR_ID l) ident).setReg (R.TS_DIR_GEN l) 0

theorem State.putNew_same (s : State) {l : Nat} (b : List Byte) (w ident : Word) (hl : l < 4096) :
    (s.putNew l b w ident).reg (R.TS_DIR_CTL l) = w ∧ (s.putNew l b w ident).reg (R.TS_DIR_ID l) = ident ∧
      (s.putNew l b w ident).reg (R.TS_DIR_GEN l) = 0 := by
  have h1 : R.TS_DIR_CTL l ≠ R.TS_DIR_ID l := by simp only [R.TS_DIR_CTL, R.TS_DIR_ID]; omega
  have h2 : R.TS_DIR_CTL l ≠ R.TS_DIR_GEN l := by simp only [R.TS_DIR_CTL, R.TS_DIR_GEN]; omega
  have h3 : R.TS_DIR_ID l ≠ R.TS_DIR_GEN l := by simp only [R.TS_DIR_ID, R.TS_DIR_GEN]; omega
  rw [State.putNew, State.reg_setReg_ne _ _ _ _ h2, State.reg_setReg_ne _ _ _ _ h1, State.reg_setReg_ne _ _ _ _ h3]
  simp only [State.reg_setReg_same, and_self]

theorem State.putNew_other (s : State) (l : Nat) (b : List Byte) (w ident : Word) (a : Nat)
    (h : a ≠ R.TS_DIR_CTL l ∧ a ≠ R.TS_DIR_ID l ∧ a ≠ R.TS_DIR_GEN l) : (s.putNew l b w ident).reg a = s.reg a := by
  obtain ⟨h1, h2, h3⟩ := h
  rw [State.putNew, State.reg_setReg_ne _ _ _ _ h3, State.reg_setReg_ne _ _ _ _ h2, State.reg_setReg_ne _ _ _ _ h1, State.reg_setBytes]

/-- A byte in a location's tile after 4096 bytes have been written to a location. -/
theorem State.byte_putNew (s : State) {l m i : Nat} {b : List Byte} (w ident : Word) (hb : b.length = 4096) (hi : i < 4096) :
    (s.putNew l b w ident).byte (tileAddr m + i) = if m = l then b[i]'(lt_of_lt_of_eq hi hb.symm) else s.byte (tileAddr m + i) := by
  change (s.setBytes (tileAddr l) b).byte _ = _
  rw [State.byte_setBytes]
  by_cases h : m = l
  · subst h
    rw [dif_pos (by omega), if_pos rfl]
    simp only [Nat.add_sub_cancel_left]
  · have hout : ¬ (tileAddr l ≤ tileAddr m + i ∧ tileAddr m + i < tileAddr l + b.length) := by
      simp only [tileAddr, hb]; omega
    rw [dif_neg hout, if_neg h]

theorem State.putNew_tiles (s : State) (l : Nat) (b : List Byte) (w ident : Word) : (s.putNew l b w ident).tiles = s.tiles := by
  simp [State.putNew]

/-- The other location of a pair lies in another bank. -/
theorem pairLoc_ne (loc k : Nat) (hk : k < 64) (hl : loc < 4096) : loc ≠ 64 * ((loc / 64 + 32) % 64) + k := by omega

/-- The tile an ALLOC seals. -/
def State.newTile (s : State) (ctl ident : Word) (payload : List Byte) : List Byte :=
  sealTile payload (F.TS_DIR_CTL_OWNER.get ctl) (F.TS_DIR_CTL_KIND.get ctl) (F.TS_DIR_CTL_FLAGS.get ctl) ident.toNat 0
    (s.pkey (F.TS_DIR_CTL_OWNER.get ctl))

theorem State.newTile_length (s : State) (ctl ident : Word) (payload : List Byte) : (s.newTile ctl ident payload).length = 4096 :=
  sealTile_length ..

def ctlCost (ctl : Word) : Nat := tileCost (F.TS_DIR_CTL_KIND.get ctl) (F.TS_DIR_CTL_FLAGS.get ctl)

/-- The two locations of a new tile before its cost is booked. -/
def State.putPair (s : State) (loc : Nat) (ctl ident : Word) (payload : List Byte) : State :=
  let p := F.TS_DIR_CTL_OWNER.get ctl
  let k := F.TS_DIR_CTL_KIND.get ctl
  let f := F.TS_DIR_CTL_FLAGS.get ctl
  let link := F.TS_DIR_CTL_LINK.get ctl
  let b := s.newTile ctl ident payload
  if ctlCost ctl = 2 then (s.putNew loc b (dirWord p k f link true) ident).putNew (64 * ((loc / 64 + 32) % 64) + link) b
    (dirWord p k f (loc % 64) false) ident
  else s.putNew loc b (dirWord p k f 0 true) ident

theorem State.writeNew_eq (s : State) (loc : Nat) (ctl ident : Word) (payload : List Byte) : s.writeNew loc ctl ident payload =
    (s.putPair loc ctl ident payload).setFld (R.TS_QUOTA (F.TS_DIR_CTL_OWNER.get ctl)) F.TS_QUOTA_USED
      ((s.putPair loc ctl ident payload).fld (R.TS_QUOTA (F.TS_DIR_CTL_OWNER.get ctl)) F.TS_QUOTA_USED + ctlCost ctl) := by
  by_cases h : tileCost (F.TS_DIR_CTL_KIND.get ctl) (F.TS_DIR_CTL_FLAGS.get ctl) = 2
  · simp only [State.writeNew, State.putPair, ctlCost, h, if_true]
    rfl
  · simp only [State.writeNew, State.putPair, ctlCost, h, if_false]
    rfl

/-- What stands at the location named, and that no register outside the directory changes. -/
theorem State.putPair_spec (s : State) {loc : Nat} (ctl ident : Word) (payload : List Byte) (hl : loc < 4096) :
    (∃ link < 64, (s.putPair loc ctl ident payload).reg (R.TS_DIR_CTL loc) =
      dirWord (F.TS_DIR_CTL_OWNER.get ctl) (F.TS_DIR_CTL_KIND.get ctl) (F.TS_DIR_CTL_FLAGS.get ctl) link true) ∧
    (s.putPair loc ctl ident payload).reg (R.TS_DIR_ID loc) = ident ∧ (s.putPair loc ctl ident payload).reg (R.TS_DIR_GEN loc) = 0 ∧
    (∀ a, a < 0x14000 → (s.putPair loc ctl ident payload).reg a = s.reg a) ∧
    (∀ i (hi : i < 4096), (s.putPair loc ctl ident payload).byte (tileAddr loc + i) =
      (s.newTile ctl ident payload)[i]'(lt_of_lt_of_eq hi (s.newTile_length ctl ident payload).symm)) ∧
    (s.putPair loc ctl ident payload).tiles = s.tiles := by
  have hlow : ∀ (u : State) (m : Nat) (b : List Byte) (w : Word) (a : Nat), a < 0x14000 → (u.putNew m b w ident).reg a = u.reg a :=
    fun u m b w a h => State.putNew_other u m b w ident a (by simp only [R.TS_DIR_CTL, R.TS_DIR_ID, R.TS_DIR_GEN]; omega)
  have hlink : F.TS_DIR_CTL_LINK.get ctl < 64 := Fld.get_lt _ _
  have hlen := s.newTile_length ctl ident payload
  rw [State.putPair]
  split
  · generalize hm : 64 * ((loc / 64 + 32) % 64) + F.TS_DIR_CTL_LINK.get ctl = m
    have hne : loc ≠ m := hm ▸ pairLoc_ne loc _ hlink hl
    have hm64 : m < 4096 := by omega
    obtain ⟨h1, h2, h3⟩ := s.putNew_same (s.newTile ctl ident payload) (dirWord (F.TS_DIR_CTL_OWNER.get ctl) (F.TS_DIR_CTL_KIND.get ctl)
      (F.TS_DIR_CTL_FLAGS.get ctl) (F.TS_DIR_CTL_LINK.get ctl) true) ident hl
    have hother : ∀ (u : State) (w : Word) a, (a = R.TS_DIR_CTL loc ∨ a = R.TS_DIR_ID loc ∨ a = R.TS_DIR_GEN loc) →
        (u.putNew m (s.newTile ctl ident payload) w ident).reg a = u.reg a := fun u w a h =>
      State.putNew_other _ _ _ _ _ _ (by simp only [R.TS_DIR_CTL, R.TS_DIR_ID, R.TS_DIR_GEN] at h ⊢; omega)
    refine ⟨⟨_, hlink, (hother _ _ _ (Or.inl rfl)).trans h1⟩, (hother _ _ _ (Or.inr (Or.inl rfl))).trans h2,
      (hother _ _ _ (Or.inr (Or.inr rfl))).trans h3, fun a ha => (hlow _ _ _ _ a ha).trans (hlow _ _ _ _ a ha), fun i hi => ?_, by simp only [State.putNew_tiles]⟩
    rw [State.byte_putNew _ _ _ hlen hi, if_neg hne, State.byte_putNew _ _ _ hlen hi, if_pos rfl]
  · obtain ⟨h1, h2, h3⟩ := s.putNew_same (s.newTile ctl ident payload) (dirWord (F.TS_DIR_CTL_OWNER.get ctl) (F.TS_DIR_CTL_KIND.get ctl)
      (F.TS_DIR_CTL_FLAGS.get ctl) 0 true) ident hl
    refine ⟨⟨0, by decide, h1⟩, h2, h3, fun a ha => hlow _ _ _ _ a ha, fun i hi => ?_, by simp only [State.putNew_tiles]⟩
    rw [State.byte_putNew _ _ _ hlen hi, if_pos rfl]

/-! ### What the next external source asks for changes no register and no byte -/

theorem State.requestNext_stands (s : State) (b : Nat) : (s.requestNext b).srf = s.srf ∧ (s.requestNext b).mem = s.mem ∧
    (s.requestNext b).tiles.dirBad = s.tiles.dirBad ∧ (s.requestNext b).tiles.steps = s.tiles.steps := by
  simp only [State.requestNext]
  split
  · exact ⟨rfl, rfl, rfl, rfl⟩
  · split
    · exact ⟨rfl, rfl, rfl, rfl⟩
    · split
      · exact ⟨rfl, rfl, rfl, rfl⟩
      · split <;> exact ⟨rfl, rfl, rfl, rfl⟩

/-! ### What a bank's step runs -/

/-- A bank's step with nothing buffered and nothing to repair runs its one waiting command. -/
theorem exec_bankStep_of_command {s : State} {b : Fin 64} {c : StepCmd} (hs : s.coreOn = true) (hstep : s.stepTick b = true)
    (hbuf : s.repBuf b = none) (hq : s.bankQ b = []) (hc : s.steps b = [c]) :
    exec (.bankStep b) s = .next ((s.runStep b).requestNext b) := by
  rw [show exec (.bankStep b) s = execBankStep b s from rfl, execBankStep, State.onCore, if_pos hs]
  simp only [hstep, hbuf, hq, State.serveQ, Bool.not_true, Bool.false_eq_true, if_false]

theorem nextStep_singleton (c : StepCmd) : nextStep [c] = some c := by cases c <;> rfl

theorem State.steps_setSteps (s : State) (b : Nat) (q : List StepCmd) : (s.setSteps b q).steps b = q := tgetD_tput_same ..

/-- The one waiting ALLOC of a bank with no fault. -/
theorem State.runStep_alloc_ok {s : State} {b loc link : Nat} {ctl ident : Word} (hc : s.steps b = [.alloc loc link ctl ident])
    (hr : s.allocResult loc link ctl ident = 0) : s.runStep b =
      ((s.setSteps b []).writeNew loc (F.TS_DIR_CTL_LINK.put ctl link) ident []).allocDone arOK := by
  have hr' : (s.setSteps b []).allocResult loc link ctl ident = arOK := hr
  simp only [State.runStep, hc, nextStep_singleton, List.erase_cons_head, hr', if_true]

theorem State.runStep_alloc_fault {s : State} {b loc link : Nat} {ctl ident : Word} (hc : s.steps b = [.alloc loc link ctl ident])
    (hr : s.allocResult loc link ctl ident ≠ 0) : s.runStep b = (s.setSteps b []).allocDone (s.allocResult loc link ctl ident) := by
  have hr' : (s.setSteps b []).allocResult loc link ctl ident = s.allocResult loc link ctl ident := rfl
  simp only [State.runStep, hc, nextStep_singleton, List.erase_cons_head, hr']
  exact if_neg hr

theorem State.runStep_free {s : State} {b loc : Nat} (hc : s.steps b = [.free loc]) (hv : s.dirValid loc = true)
    (hrun : s.running (s.dirOwner loc) = false) : s.runStep b = ((s.setSteps b []).freeTileAt loc).allocDone arOK := by
  have hv' : (s.setSteps b []).dirValid loc = true := hv
  have hrun' : (s.setSteps b []).running ((s.setSteps b []).dirOwner loc) = false := hrun
  simp only [State.runStep, hc, nextStep_singleton, List.erase_cons_head, hv', hrun', Bool.not_true, Bool.false_eq_true, if_false]

/-- An ALLOC that breaks no condition: room in the quota, a kind and flags that go together. -/
theorem State.allocResult_ok {s : State} {loc link : Nat} {ctl ident : Word} (h : s.allocResult loc link ctl ident = 0) :
    s.fld (R.TS_QUOTA (F.TS_DIR_CTL_OWNER.get ctl)) F.TS_QUOTA_USED + ctlCost ctl ≤
      s.fld (R.TS_QUOTA (F.TS_DIR_CTL_OWNER.get ctl)) F.TS_QUOTA_LIMIT ∧ F.TS_DIR_CTL_KIND.get ctl ≤ kTRIP := by
  simp only [State.allocResult] at h
  split at h
  · exact absurd h (by decide)
  · rename_i hq
    split at h
    · exact absurd h (by decide)
    · split at h
      · exact absurd h (by decide)
      · rename_i hk
        exact ⟨Nat.not_lt.1 hq, Nat.not_lt.1 fun h => hk (Or.inr (Or.inl h))⟩

theorem State.allocResult_lt (s : State) (loc link : Nat) (ctl ident : Word) : s.allocResult loc link ctl ident < 16 := by
  simp only [State.allocResult]
  repeat' split
  all_goals decide

/-! ### A freed tile (R129) -/

theorem freeTile_length : freeTile.length = 4096 := by
  rw [freeTile, List.length_append, List.length_replicate]
  rfl

/-- The pairings a freed location had are dropped: no other register changes. -/
theorem State.reg_dropPairings (s : State) (loc a : Nat) (ha : a < 0x10800 ∨ 0x11000 ≤ a) (ms : List Nat) (hms : ∀ m ∈ ms, m < 512) :
    (ms.foldl (fun s m => if (s.reg (R.TS_MBX m)).getLsbD 31 && (F.TS_MBX_OUT.get (s.reg (R.TS_MBX m)) == loc ||
      F.TS_MBX_IN.get (s.reg (R.TS_MBX m)) == loc) then s.setReg (R.TS_MBX m) 0 else s) s).reg a = s.reg a := by
  refine foldl_stands (fun u : State => u.reg a) (fun u m hm => ?_) s
  have h := hms m hm
  split
  · exact State.reg_setReg_ne _ _ _ _ (by simp only [R.TS_MBX]; omega)
  · rfl

theorem SrfOnly.dropPairings (s : State) (loc : Nat) (ms : List Nat) :
    SrfOnly s (ms.foldl (fun s m => if (s.reg (R.TS_MBX m)).getLsbD 31 && (F.TS_MBX_OUT.get (s.reg (R.TS_MBX m)) == loc ||
      F.TS_MBX_IN.get (s.reg (R.TS_MBX m)) == loc) then s.setReg (R.TS_MBX m) 0 else s) s) := by
  refine .foldl (fun u m => ?_) ms s
  split
  · exact ⟨_, rfl⟩
  · exact .refl u

/-- A freed location: its directory word, and its bytes are those of a free tile. -/
theorem State.freeLoc_spec {s : State} {loc : Nat} (hinv : s.Inv) (hl : loc < 4096) :
    (s.freeLoc loc).reg (R.TS_DIR_CTL loc) = 0 ∧
      ∃ u : State, u.memCanon = true ∧ (s.freeLoc loc).mem = (u.setBytes (tileAddr loc) freeTile).mem := by
  have h1 : R.TS_DIR_CTL loc ≠ R.TS_DIR_ID loc := by simp only [R.TS_DIR_CTL, R.TS_DIR_ID]; omega
  have h2 : R.TS_DIR_CTL loc ≠ R.TS_DIR_GEN loc := by simp only [R.TS_DIR_CTL, R.TS_DIR_GEN]; omega
  have hu : (if s.dirState loc == 1 then s.repairDone loc else s).Inv := by
    split
    · exact (State.repairDone_keeps s loc).inv hinv
    · exact hinv
  simp only [State.freeLoc]
  constructor
  · rw [State.reg_dropPairings _ _ _ (Or.inr (by simp only [R.TS_DIR_CTL]; omega)) _ (fun m h => List.mem_range.1 h),
      State.reg_setReg_ne _ _ _ _ h2, State.reg_setReg_ne _ _ _ _ h1, State.reg_setReg_same]
  · refine ⟨_, hu.2, ?_⟩
    obtain ⟨srf, h⟩ := SrfOnly.dropPairings _ loc (List.range 512)
    rw [h]
    rfl

theorem State.freeTileAt_spec {s : State} {loc : Nat} (hinv : s.Inv) (hl : loc < 4096) (hv : s.dirValid loc = true) :
    (s.freeTileAt loc).reg (R.TS_DIR_CTL loc) = 0 ∧
      ∃ u : State, u.memCanon = true ∧ (s.freeTileAt loc).mem = (u.setBytes (tileAddr loc) freeTile).mem := by
  have hpair : (if tileCost (s.dirKind loc) (s.dirFlags loc) = 2 then s.freeLoc (s.linkLoc loc) else s).Inv := by
    split
    · exact (State.freeLoc_keeps s _).inv hinv
    · exact hinv
  have hq : R.TS_DIR_CTL loc ≠ R.TS_QUOTA (s.dirOwner loc) := by
    have h : s.dirOwner loc < 128 := s.fld_lt _ F.TS_DIR_CTL_OWNER
    simp only [R.TS_DIR_CTL, R.TS_QUOTA]; omega
  simp only [State.freeTileAt, hv, Bool.not_true, Bool.false_eq_true, if_false]
  obtain ⟨h1, u, hu, h2⟩ := State.freeLoc_spec hpair hl
  exact ⟨(State.reg_setFld_ne _ _ _ _ _ hq).trans h1, u, hu, (State.setFld_mem ..).trans h2⟩

/-! ### Allocation commands (R129) -/

theorem exec_of_allocCmd {s : State} {i : Instr} {c : StepCmd} {loc : Nat} {d : State → StepCmd} (hs : s.coreOn = true)
    (harm : exec i s = s.onCore (fun s => s.allocCmd (d s) loc)) (hd : d s = c) (hfree : s.fld R.TS_ALLOC_STAT F.TS_ALLOC_STAT_RESULT ≠ 1) :
    ∃ t : State, exec i s = .next t ∧ t.fld R.TS_ALLOC_STAT F.TS_ALLOC_STAT_RESULT = 1 ∧ t.steps (loc / 64) = s.steps (loc / 64) ++ [c] := by
  refine ⟨_, exec_eq_next_of_onCore hs harm, ?_, ?_⟩ <;> rw [hd, State.allocCmd, if_neg hfree]
  · exact State.fld_setFld_same s R.TS_ALLOC_STAT F.TS_ALLOC_STAT_RESULT 1 (by decide)
  · exact State.steps_setSteps ..

theorem exec_of_allocCmd_pending {s : State} {i : Instr} {loc : Nat} {d : State → StepCmd} (hs : s.coreOn = true)
    (harm : exec i s = s.onCore (fun s => s.allocCmd (d s) loc)) (hp : s.fld R.TS_ALLOC_STAT F.TS_ALLOC_STAT_RESULT = 1) :
    exec i s = .next s := by
  rw [exec_eq_next_of_onCore hs harm, State.allocCmd, if_pos hp]

/-! ### Pairings (R557) -/

/-- A pairing other than m names the outbox, or a location of the inbox. -/
def State.pairClash (s : State) (m o i : Nat) : Bool := (List.range 512).any (fun n => n != m && (s.reg (R.TS_MBX n)).getLsbD 31 &&
  (F.TS_MBX_OUT.get (s.reg (R.TS_MBX n)) == o || F.TS_MBX_IN.get (s.reg (R.TS_MBX n)) == i ||
    F.TS_MBX_IN.get (s.reg (R.TS_MBX n)) == s.linkLoc i))

/-- A location that an outbox tile holds. -/
def State.isOutbox (s : State) (o : Nat) : Bool := s.dirValid o && s.dirKind o == kMAILBOX && s.dirFlag o fOUTBOX

theorem State.mbxBind_eq {s : State} {m : Nat} {w v : Word} (hv : w &&& 0x80FFFFFF = v) : s.mbxBind m w =
    if v.getLsbD 31 && (!s.isOutbox (F.TS_MBX_OUT.get v) || !s.isInbox (F.TS_MBX_IN.get v) ||
      s.pairClash m (F.TS_MBX_OUT.get v) (F.TS_MBX_IN.get v)) then s.event Ev.MBX_BIND_REFUSED 0xFF (R.TS_MBX m)
    else if (s.reg (R.TS_MBX m)).getLsbD 31 && s.reg (R.TS_MBX m) != v && !(s.mayWithdraw (s.dirOwner (F.TS_MBX_OUT.get (s.reg (R.TS_MBX m)))) &&
        s.mayWithdraw (s.dirOwner (F.TS_MBX_IN.get (s.reg (R.TS_MBX m))))) then
      s.allotBusy (if s.mayWithdraw (s.dirOwner (F.TS_MBX_OUT.get (s.reg (R.TS_MBX m)))) then s.dirOwner (F.TS_MBX_IN.get (s.reg (R.TS_MBX m)))
        else s.dirOwner (F.TS_MBX_OUT.get (s.reg (R.TS_MBX m)))) (R.TS_MBX m)
    else s.bindWrite (R.TS_MBX m) v := by
  have hpair (l x : Nat) (b : Bool) : (b || [l, s.linkLoc l].contains x) = (b || x == l || x == s.linkLoc l) := by
    simp only [List.contains_cons, List.contains_nil, Bool.or_false, Bool.or_assoc]
  subst hv
  simp only [State.mbxBind, hpair]
  rfl

theorem State.mbxBind_of_ok {s : State} {m : Nat} {w v : Word} (hv : w &&& 0x80FFFFFF = v) (hold : (s.reg (R.TS_MBX m)).getLsbD 31 = false)
    (hout : s.isOutbox (F.TS_MBX_OUT.get v) = true) (hin : s.isInbox (F.TS_MBX_IN.get v) = true)
    (hclash : s.pairClash m (F.TS_MBX_OUT.get v) (F.TS_MBX_IN.get v) = false) : s.mbxBind m w = s.bindWrite (R.TS_MBX m) v := by
  rw [State.mbxBind_eq hv, hold, hout, hin, hclash]
  simp only [Bool.not_true, Bool.or_false, Bool.and_false, Bool.false_and, Bool.false_eq_true, if_false]

theorem State.mbxBind_of_refused {s : State} {m : Nat} {w v : Word} (hv : w &&& 0x80FFFFFF = v) (hvalid : v.getLsbD 31 = true)
    (h : s.isOutbox (F.TS_MBX_OUT.get v) = false ∨ s.isInbox (F.TS_MBX_IN.get v) = false ∨
      s.pairClash m (F.TS_MBX_OUT.get v) (F.TS_MBX_IN.get v) = true) : s.mbxBind m w = s.event Ev.MBX_BIND_REFUSED 0xFF (R.TS_MBX m) := by
  rw [State.mbxBind_eq hv, hvalid, Bool.true_and]
  refine if_pos ?_
  rcases h with h | h | h
  · rw [h]; rfl
  · rw [h, Bool.not_false, Bool.or_true, Bool.true_or]
  · rw [h, Bool.or_true]

/-! ### The outcome of an ALLOC -/

/-- LINK beside the other fields of a directory word. -/
theorem putLink_get (ctl : Word) (link : Nat) : F.TS_DIR_CTL_OWNER.get (F.TS_DIR_CTL_LINK.put ctl link) = F.TS_DIR_CTL_OWNER.get ctl ∧
    F.TS_DIR_CTL_KIND.get (F.TS_DIR_CTL_LINK.put ctl link) = F.TS_DIR_CTL_KIND.get ctl ∧
    F.TS_DIR_CTL_FLAGS.get (F.TS_DIR_CTL_LINK.put ctl link) = F.TS_DIR_CTL_FLAGS.get ctl :=
  ⟨Fld.get_put_ne _ _ _ _ (by decide), Fld.get_put_ne _ _ _ _ (by decide), Fld.get_put_ne _ _ _ _ (by decide)⟩

/-- The payload of a sealed tile: the bytes given, zeros after them. -/
theorem sealTile_nil_getElem (owner kind flags ident : Nat) (gen pkey : Word) (i : Nat) (hi : i < 4064)
    (h : i < (sealTile [] owner kind flags ident gen pkey).length) : (sealTile [] owner kind flags ident gen pkey)[i] = 0 := by
  have hsub : sub [] 0 4064 = List.replicate 4064 (0 : Byte) := by
    simp only [sub, List.drop_nil, List.take_nil, List.nil_append, List.length_nil, Nat.sub_zero]
  simp only [sealTile, hsub, List.append_assoc]
  rw [List.getElem_append_left (by rw [List.length_replicate]; exact hi), List.getElem_replicate]

/-- A location whose directory entry and bytes agree passes its checks. -/
theorem State.sealFail_none {s : State} {loc : Nat} {b : List Byte} (hinv : s.Inv) (hbad : s.tiles.dirBad = []) (hv : s.dirValid loc = true)
    (hb : b.length = 4096) (hbytes : ∀ i (hi : i < 4096), s.byte (tileAddr loc + i) = b[i]'(lt_of_lt_of_eq hi hb.symm))
    (hc : checkBytes b (s.dirOwner loc) (s.dirKind loc) (s.dirFlags loc) (s.dirIdent loc) (s.dirGen loc) = none) : s.sealFail loc = none := by
  have h : s.bytes (tileAddr loc) 4096 = b := by
    refine List.ext_getElem (by rw [State.bytes_length, hb]) fun i h1 h2 => ?_
    rw [State.bytes_length] at h1
    simp only [State.bytes_eq_map s _ _ hinv, List.getElem_map, List.getElem_range', Nat.one_mul]
    exact hbytes i h1
  simp only [State.sealFail, hbad, hv, h, hc, List.contains_nil, Bool.false_eq_true, if_false, if_true]

theorem State.writeNew_tiles (s : State) (loc : Nat) (ctl ident : Word) (payload : List Byte) (hl : loc < 4096) :
    (s.writeNew loc ctl ident payload).tiles = s.tiles := by
  obtain ⟨_, _, _, _, _, htiles⟩ := s.putPair_spec ctl ident payload hl
  rw [State.writeNew_eq, State.setFld_tiles, htiles]

/-- A new tile read back: its directory entry, its checks, its zero payload and its cost. -/
theorem State.writeNew_spec {s : State} {loc link : Nat} {ctl ident : Word} (hinv : s.Inv) (hl : loc < 4096)
    (hbad : s.tiles.dirBad = []) (hr : s.allocResult loc link ctl ident = 0) {t : State}
    (ht : t = s.writeNew loc (F.TS_DIR_CTL_LINK.put ctl link) ident []) :
    t.dirValid loc = true ∧ t.dirOwner loc = F.TS_DIR_CTL_OWNER.get ctl ∧ t.dirKind loc = F.TS_DIR_CTL_KIND.get ctl ∧
      t.dirIdent loc = ident.toNat ∧ t.dirGen loc = 0 ∧ t.sealFail loc = none ∧ (∀ i, i < 4064 → t.byte (tileAddr loc + i) = 0) ∧
      t.fld (R.TS_QUOTA (F.TS_DIR_CTL_OWNER.get ctl)) F.TS_QUOTA_USED =
        s.fld (R.TS_QUOTA (F.TS_DIR_CTL_OWNER.get ctl)) F.TS_QUOTA_USED + ctlCost ctl := by
  have htinv : t.Inv := ht ▸ (State.writeNew_keeps s loc _ ident []).inv hinv
  obtain ⟨hquota, hkind⟩ := State.allocResult_ok hr
  obtain ⟨hlo, hlk, hlf⟩ := putLink_get ctl link
  generalize hctl : F.TS_DIR_CTL_LINK.put ctl link = ctl' at hlo hlk hlf ht
  have hcost : ctlCost ctl' = ctlCost ctl := by rw [ctlCost, hlk, hlf]; rfl
  have hown : F.TS_DIR_CTL_OWNER.get ctl < 128 := Fld.get_lt _ _
  obtain ⟨⟨link', hlink', hdir⟩, hid, hgen, hlow, hbytes, htiles⟩ := s.putPair_spec ctl' ident [] hl
  rw [State.writeNew_eq, hlo] at ht
  rw [hlo, hlk, hlf] at hdir
  have hreg : ∀ a, 0x14000 ≤ a → t.reg a = (s.putPair loc ctl' ident []).reg a := fun a ha => by
    rw [ht, State.reg_setFld_ne _ _ _ _ _ (by simp only [R.TS_QUOTA]; omega)]
  have hD : t.reg (R.TS_DIR_CTL loc) = _ := (hreg _ (by simp only [R.TS_DIR_CTL]; omega)).trans hdir
  obtain ⟨g1, g2, g3, g4, _⟩ := dirWord_get (link := link') true hown (Fld.get_lt F.TS_DIR_CTL_KIND ctl)
    (Fld.get_lt F.TS_DIR_CTL_FLAGS ctl) hlink'
  have hvalid : t.dirValid loc = true := by rw [State.dirValid, State.flag, State.fld, hD, g1]; rfl
  have howner : t.dirOwner loc = F.TS_DIR_CTL_OWNER.get ctl := by rw [State.dirOwner, State.fld, hD, g2]
  have hkind' : t.dirKind loc = F.TS_DIR_CTL_KIND.get ctl := by rw [State.dirKind, State.fld, hD, g3]
  have hflags : t.dirFlags loc = F.TS_DIR_CTL_FLAGS.get ctl := by rw [State.dirFlags, State.fld, hD, g4]
  have hident : t.dirIdent loc = ident.toNat := by rw [State.dirIdent, hreg _ (by simp only [R.TS_DIR_ID]; omega), hid]
  have hg : t.dirGen loc = 0 := by rw [State.dirGen, hreg _ (by simp only [R.TS_DIR_GEN]; omega), hgen]
  have hbyte : ∀ i (hi : i < 4096), t.byte (tileAddr loc + i) =
      (s.newTile ctl' ident [])[i]'(lt_of_lt_of_eq hi (s.newTile_length ctl' ident []).symm) := fun i hi =>
    (State.byte_congr (by rw [ht, State.setFld_mem]) _).trans (hbytes i hi)
  refine ⟨hvalid, howner, hkind', hident, hg, ?_, fun i hi => ?_, ?_⟩
  · refine State.sealFail_none htinv (by rw [ht, State.setFld_tiles, htiles, hbad]) hvalid (s.newTile_length ctl' ident []) hbyte ?_
    rw [howner, hkind', hflags, hident, hg, State.newTile, hlo, hlk, hlf]
    exact checkBytes_sealTile _ _ _ _ _ _ _ hown hkind (Fld.get_lt F.TS_DIR_CTL_FLAGS ctl) ident.isLt
  · rw [hbyte i (by omega)]
    exact sealTile_nil_getElem _ _ _ _ _ _ i hi _
  · have hlim := s.fld_lt (R.TS_QUOTA (F.TS_DIR_CTL_OWNER.get ctl)) F.TS_QUOTA_LIMIT
    rw [ht, State.fld_setFld_same _ _ _ _ (by decide), hcost, State.fld, hlow _ (by simp only [R.TS_QUOTA]; omega)]
    exact Nat.mod_eq_of_lt (Nat.lt_of_le_of_lt hquota hlim)

/-! ### The end of an allocation step -/

/-- What stands after a command's result is shown and the next source is asked for. -/
structure AllocShown (u t : State) (r : Nat) : Prop where
  reg : ∀ a, a ≠ R.TS_ALLOC_STAT → t.reg a = u.reg a
  result : t.fld R.TS_ALLOC_STAT F.TS_ALLOC_STAT_RESULT = r
  mem : t.mem = u.mem
  dirBad : t.tiles.dirBad = u.tiles.dirBad
  steps : t.tiles.steps = u.tiles.steps

theorem State.allocShown (u : State) (b : Nat) {r : Nat} (hr : r < 16) : AllocShown u ((u.allocDone r).requestNext b) r := by
  obtain ⟨hsrf, hmem, hbad, hsteps⟩ := (u.allocDone r).requestNext_stands b
  refine ⟨fun a ha => (State.reg_congr hsrf a).trans (State.reg_setFld_ne _ _ _ _ _ ha), ?_, hmem.trans (State.setFld_mem ..),
    hbad.trans (congrArg _ (State.setFld_tiles ..)), hsteps.trans (congrArg _ (State.setFld_tiles ..))⟩
  rw [State.fld_congr hsrf, State.allocDone, State.fld_setFld_same _ _ _ _ (by decide)]
  exact Nat.mod_eq_of_lt hr

theorem AllocShown.dir {u t : State} {r : Nat} (h : AllocShown u t r) (loc : Nat) :
    t.reg (R.TS_DIR_CTL loc) = u.reg (R.TS_DIR_CTL loc) ∧ t.reg (R.TS_DIR_ID loc) = u.reg (R.TS_DIR_ID loc) ∧
      t.reg (R.TS_DIR_GEN loc) = u.reg (R.TS_DIR_GEN loc) :=
  ⟨h.reg _ (by simp only [R.TS_DIR_CTL, R.TS_ALLOC_STAT]; omega), h.reg _ (by simp only [R.TS_DIR_ID, R.TS_ALLOC_STAT]; omega),
    h.reg _ (by simp only [R.TS_DIR_GEN, R.TS_ALLOC_STAT]; omega)⟩

/-- A location's checks look at its directory entry, its bytes and the entries that do not match. -/
theorem State.sealFail_congr {s t : State} {loc : Nat} (hctl : t.reg (R.TS_DIR_CTL loc) = s.reg (R.TS_DIR_CTL loc))
    (hid : t.reg (R.TS_DIR_ID loc) = s.reg (R.TS_DIR_ID loc)) (hgen : t.reg (R.TS_DIR_GEN loc) = s.reg (R.TS_DIR_GEN loc))
    (hmem : t.mem = s.mem) (hbad : t.tiles.dirBad = s.tiles.dirBad) : t.sealFail loc = s.sealFail loc := by
  have hb : t.bytes (tileAddr loc) 4096 = s.bytes (tileAddr loc) 4096 := congrArg (dread memReset · _ _) hmem
  have hfld : ∀ f, t.fld (R.TS_DIR_CTL loc) f = s.fld (R.TS_DIR_CTL loc) f := fun f => congrArg f.get hctl
  have hv : t.dirValid loc = s.dirValid loc := congrArg (· != 0) (hfld _)
  have hentry : checkBytes (s.bytes (tileAddr loc) 4096) (t.dirOwner loc) (t.dirKind loc) (t.dirFlags loc) (t.dirIdent loc) (t.dirGen loc) =
      checkBytes (s.bytes (tileAddr loc) 4096) (s.dirOwner loc) (s.dirKind loc) (s.dirFlags loc) (s.dirIdent loc) (s.dirGen loc) := by
    rw [State.dirOwner, State.dirKind, State.dirFlags, State.dirIdent, State.dirGen, hfld, hfld, hfld, hid, hgen]
    rfl
  rw [State.sealFail, State.sealFail]
  simp only [hbad, hv, hb, hentry]

/-- Settles O26: the command's place in the queue, the step's outcome by R130, the free tile, and the pairing's conditions. -/
theorem tileAllocation : Obligations.TileAllocation := by
  unfold Obligations.TileAllocation
  intro s hs
  refine ⟨fun loc link hfree => ⟨exec_of_allocCmd (d := fun s => .alloc loc link s.allocCtl (s.reg R.TS_ALLOC_ID)) hs rfl rfl hfree,
    exec_of_allocCmd (d := fun _ => .free loc) hs rfl rfl hfree⟩, fun loc link hp =>
    ⟨exec_of_allocCmd_pending (d := fun s => .alloc loc link s.allocCtl (s.reg R.TS_ALLOC_ID)) hs rfl hp,
      exec_of_allocCmd_pending (d := fun _ => .free loc) hs rfl hp⟩, fun b loc link ctl ident hinv hbank hstep hbuf hq =>
    ⟨fun hc => ⟨fun hr hbad => ?_, fun hr => ?_⟩, fun hc hv hrun => ?_⟩, fun m w => ?_⟩
  · refine ⟨_, exec_bankStep_of_command hs hstep hbuf hq hc, ?_⟩
    rw [State.runStep_alloc_ok hc hr]
    obtain ⟨hv, ho, hk, hi, hg, hf, hz, hu⟩ := State.writeNew_spec (s := s.setSteps b []) (link := link.val) hinv loc.isLt hbad hr rfl
    generalize hw : (s.setSteps b []).writeNew loc (F.TS_DIR_CTL_LINK.put ctl link) ident [] = u at hv ho hk hi hg hf hz hu
    have h := u.allocShown b (r := arOK) (by decide)
    obtain ⟨hctl, hid, hgen⟩ := h.dir loc
    refine ⟨?_, ?_, ?_, ?_, ?_, (State.sealFail_congr hctl hid hgen h.mem h.dirBad).trans hf, fun i hi => (State.byte_congr h.mem _).trans (hz i hi),
      h.result, ?_, ?_⟩
    · rwa [State.dirValid, State.flag, State.fld, hctl]
    · rwa [State.dirOwner, State.fld, hctl]
    · rwa [State.dirKind, State.fld, hctl]
    · rwa [State.dirIdent, hid]
    · rwa [State.dirGen, hgen]
    · have hsteps : u.tiles.steps = (s.setSteps b []).tiles.steps := by rw [← hw, State.writeNew_tiles _ _ _ _ _ loc.isLt]
      rw [State.steps, h.steps, hsteps]
      exact s.steps_setSteps b []
    · rw [State.fld, h.reg _ (by simp only [R.TS_QUOTA, R.TS_ALLOC_STAT]; omega)]
      exact hu
  · have h := (s.setSteps b []).allocShown b (s.allocResult_lt loc link ctl ident)
    refine ⟨_, exec_bankStep_of_command hs hstep hbuf hq hc, ?_⟩
    rw [State.runStep_alloc_fault hc hr]
    exact ⟨h.mem, by rw [State.dirValid, State.flag, State.fld, (h.dir loc).1]; rfl, h.result⟩
  · have h := ((s.setSteps b []).freeTileAt loc).allocShown b (r := arOK) (by decide)
    obtain ⟨hctl, u, hu, hmem⟩ := State.freeTileAt_spec (s := s.setSteps b []) hinv loc.isLt hv
    refine ⟨_, exec_bankStep_of_command hs hstep hbuf hq hc, ?_⟩
    rw [State.runStep_free hc hv hrun]
    refine ⟨by rw [State.dirValid, State.flag, State.fld, (h.dir loc).1, hctl]; rfl, ?_, h.result⟩
    have hbytes := u.bytes_setBytes_same (tileAddr loc) freeTile hu
    rw [freeTile_length] at hbytes
    exact (congrArg (dread memReset · _ _) (h.mem.trans hmem)).trans hbytes
  · intro v o i outOk clash
    have hex (t : State) (h : s.mbxBind m w = t) : exec (.mbxBind m w) s = .next t :=
      (exec_eq_next_of_onCore (f := fun s => s.mbxBind m w) hs rfl).trans (congrArg _ h)
    refine ⟨fun hv hout hin hclash hold => ?_, fun hv h => hex _ (State.mbxBind_of_refused rfl hv h)⟩
    obtain ⟨hreg, heff, hmem⟩ := s.bindWrite_spec (R.TS_MBX m) v
    exact ⟨_, hex _ (State.mbxBind_of_ok rfl hold hout hin hclash), hreg, heff, hmem⟩

end Sys2Proof.Machine

/-!
SUPPORT. Repair of a tile and the scrubber (R122 to R126).
-/
namespace Sys2Proof.Machine

/-! ### The end of a repair -/

theorem State.rejoin_stands (s : State) (loc : Nat) : (s.rejoin loc).srf = s.srf ∧ (s.rejoin loc).mem = s.mem := by
  rw [State.rejoin]
  split <;> exact ⟨rfl, rfl⟩

/-- The end of a repair writes STATE of the location and the count of repairs. -/
theorem State.repairDone_stands (s : State) (loc : Nat) : (s.repairDone loc).mem = s.mem ∧
    (∀ a, a ≠ R.TS_DIR_CTL loc → a ≠ R.TS_REPAIR_STAT → (s.repairDone loc).reg a = s.reg a) ∧ (s.repairDone loc).dirState loc = 0 := by
  have hre (c : Prop) [Decidable c] (u : State) (m : Nat) : (if c then u.rejoin m else u).srf = u.srf ∧
      (if c then u.rejoin m else u).mem = u.mem := by
    split
    · exact u.rejoin_stands m
    · exact ⟨rfl, rfl⟩
  have hne : R.TS_DIR_CTL loc ≠ R.TS_REPAIR_STAT := by simp only [R.TS_DIR_CTL, R.TS_REPAIR_STAT]; omega
  have htiles : ∀ (u : State) (x : TileSt) a, ({ u with tiles := x } : State).reg a = u.reg a := fun _ _ _ => rfl
  have hq : ∀ (u : State) b q a, (u.setBankQ b q).reg a = u.reg a := fun _ _ _ _ => rfl
  simp only [State.repairDone]
  refine ⟨(hre _ _ _).2.trans ?_, fun a h1 h2 => (State.reg_congr (hre _ _ _).1 a).trans ?_, ?_⟩
  · simp only [State.setFld_mem]
    rfl
  · rw [htiles, State.reg_setFld_ne _ _ _ _ _ h2, State.reg_setFld_ne _ _ _ _ _ h1, hq]
  · rw [State.dirState, State.fld_congr (hre _ _ _).1, State.fld, htiles, ← State.fld, State.fld_setFld_other _ _ _ _ _ _ hne, State.fld_setFld_same _ _ _ _ (by decide), Nat.zero_mod]

/-- A repair that has written its location. -/
theorem State.repaired_stands (s : State) {loc : Nat} (hl : loc < 4096) : (s.repaired loc).mem = s.mem ∧ (s.repaired loc).dirState loc = 0 ∧
    (s.repaired loc).fld (R.TS_BANK_STAT (loc / 64)) F.TS_BANK_STAT_REPAIRED =
      min (s.fld (R.TS_BANK_STAT (loc / 64)) F.TS_BANK_STAT_REPAIRED + 1) 255 := by
  obtain ⟨hmem, hreg, hst⟩ := s.repairDone_stands loc
  have h1 : R.TS_BANK_STAT (loc / 64) ≠ R.TS_DIR_CTL loc := by simp only [R.TS_BANK_STAT, R.TS_DIR_CTL]; omega
  have h2 : R.TS_BANK_STAT (loc / 64) ≠ R.TS_REPAIR_STAT := by simp only [R.TS_BANK_STAT, R.TS_REPAIR_STAT]; omega
  refine ⟨?_, ?_, ?_⟩ <;> rw [State.repaired]
  · rw [State.incFld, State.setFld_mem, hmem]
  · rw [State.dirState, State.fld_incFld_other _ _ _ _ _ _ h1.symm]
    exact hst
  · rw [State.fld_incFld_same _ _ _ _ (by decide) (by decide), State.fld, hreg _ h1 h2]
    rfl

/-! ### A primary repaired from its twin copy (R124) -/

/-- The first source of a precious data tile whose twin copy is OK. -/
theorem State.nextSrc_twinCopy {s : State} {loc : Nat} (hp : s.dirFlag loc fPRECIOUS = true) (hk : s.dirKind loc = kDATA)
    (hfail : tgetD s.tiles.failed loc [] = []) (hc : s.dirState (s.linkLoc loc) = 0) : s.nextSrc loc = some .twinCopy := by
  have hsrc : ∃ rest, s.sources loc = .twinCopy :: rest := by
    refine ⟨if s.dirFlag loc fMIRROR then [RepSrc.partner] else [], ?_⟩
    simp only [State.sources, hk, hp]
    rfl
  obtain ⟨rest, hsrc⟩ := hsrc
  rw [State.nextSrc, hsrc, hfail, hc]
  rfl

theorem exec_bankStep_of_twinCopy {s : State} {b : Fin 64} {loc : Nat} (hs : s.coreOn = true) (hstep : s.stepTick b = true)
    (hbuf : s.repBuf b = none) (hq : s.bankQ b = [loc]) (hact : s.dirAct loc = true) (hsrc : s.nextSrc loc = some .twinCopy)
    (hbad : s.sealFail loc ≠ none) (hgood : s.sourceGood loc (s.bytes (tileAddr (s.linkLoc loc)) 4096) = true) :
    ∃ gen, exec (.bankStep b) s = .next (((((s.setBytes (tileAddr loc) (s.bytes (tileAddr (s.linkLoc loc)) 4096)).setReg
      (R.TS_DIR_GEN loc) gen).repaired loc)).requestNext b) := by
  have hprimary : s.isTwinCopy loc = false := by rw [State.isTwinCopy, hact]; exact Bool.and_false _
  have hnone : (s.sealFail loc).isNone = false := by simpa [Option.isSome_iff_ne_none] using hbad
  refine ⟨w32 (leAt (s.bytes (tileAddr (s.linkLoc loc)) 4096) 4072 4), ?_⟩
  rw [show exec (.bankStep b) s = execBankStep b s from rfl, execBankStep, State.onCore, if_pos hs]
  simp only [hstep, hbuf, hq, State.serveQ, hprimary, hsrc, hnone, hgood, Bool.not_true, Bool.false_eq_true, if_false, if_true]

/-! ### The scrubber (R123) -/

/-- One location verified: of the registers of the scrubber, the engine and below nothing changes. -/
theorem State.scrubLoc_scrubStat (s : State) (loc : Nat) (hl : loc < 4096) : (s.scrubLoc loc).reg R.TS_SCRUB_STAT = s.reg R.TS_SCRUB_STAT := by
  have h1 : R.TS_SCRUB_STAT ≠ R.TS_BANK_STAT (loc / 64) := by simp only [R.TS_SCRUB_STAT, R.TS_BANK_STAT]; omega
  have h2 : R.TS_SCRUB_STAT ≠ R.TS_DIR_CTL loc := by simp only [R.TS_SCRUB_STAT, R.TS_DIR_CTL]; omega
  have h3 : R.TS_SCRUB_STAT ≠ R.TS_REPAIR_STAT := by decide
  simp only [State.scrubLoc]
  split
  · rfl
  · split
    · rw [State.reg_congr (State.requestNext_stands _ _).1, State.reg_startRepair _ h1 h2 h3]
    · rw [State.reg_event _ _ _ _ _ _ _ (by decide), State.reg_setBytes, State.reg_setFld_ne _ _ _ _ _ h1]
      exact State.reg_setFld_ne _ _ _ _ _ h1

theorem State.scrubLoc_of_good {s : State} {loc : Nat} (h : s.sealFail loc = none) : s.scrubLoc loc = s := by
  rw [State.scrubLoc, h]
  exact if_pos (Bool.or_true _)

/-- A bank's locations of one index, all good. -/
theorem foldl_scrubLoc_of_good {s : State} {i : Nat} (bs : List Nat) (h : ∀ b ∈ bs, s.sealFail (64 * b + i) = none) :
    bs.foldl (fun s b => s.scrubLoc (64 * b + i)) s = s := by
  induction bs with
  | nil => rfl
  | cons b bs ih =>
    rw [List.foldl_cons, State.scrubLoc_of_good (h b List.mem_cons_self)]
    exact ih fun c hc => h c (List.mem_cons_of_mem _ hc)

/-- What the scrubber writes of its own register after the locations have been verified. -/
def State.scrubNext (s : State) (i : Nat) : State :=
  (if i = 63 then s.incFld R.TS_SCRUB_STAT F.TS_SCRUB_STAT_PASSES 65535 else s).setFld R.TS_SCRUB_STAT F.TS_SCRUB_STAT_NEXT ((i + 1) % 64)

theorem State.scrubNext_spec (s : State) (i : Nat) :
    (s.scrubNext i).fld R.TS_SCRUB_STAT F.TS_SCRUB_STAT_NEXT = (i + 1) % 64 ∧
    (s.scrubNext i).fld R.TS_SCRUB_STAT F.TS_SCRUB_STAT_PASSES =
      (if i = 63 then min (s.fld R.TS_SCRUB_STAT F.TS_SCRUB_STAT_PASSES + 1) 65535 else s.fld R.TS_SCRUB_STAT F.TS_SCRUB_STAT_PASSES) ∧
    (s.scrubNext i).mem = s.mem ∧ (s.scrubNext i).err = s.err ∧ ∀ a, a ≠ R.TS_SCRUB_STAT → (s.scrubNext i).reg a = s.reg a := by
  have hinc : SrfOnly s (if i = 63 then s.incFld R.TS_SCRUB_STAT F.TS_SCRUB_STAT_PASSES 65535 else s) := by
    split
    · exact ⟨_, rfl⟩
    · exact .refl s
  refine ⟨?_, ?_, ?_, ?_, fun a ha => ?_⟩ <;> rw [State.scrubNext]
  · rw [State.fld_setFld_same _ _ _ _ (by decide)]
    exact Nat.mod_mod _ _
  · rw [State.fld_setFld_ne _ _ _ _ _ (by decide)]
    split
    · exact State.fld_incFld_same _ _ _ _ (by decide) (by decide)
    · rfl
  · obtain ⟨srf, h⟩ := hinc
    rw [State.setFld_mem, h]
    rfl
  · obtain ⟨srf, h⟩ := hinc
    rw [State.setFld_err, h]
    rfl
  · rw [State.reg_setFld_ne _ _ _ _ _ ha]
    split
    · exact State.reg_setFld_ne _ _ _ _ _ ha
    · rfl

theorem exec_scrub {s : State} (hs : s.coreOn = true) (ht : s.tick.running = false ∨ s.tick.abs % 2 = 0) :
    exec .scrub s = .next (((List.range 64).foldl (fun u b => u.scrubLoc (64 * b + s.fld R.TS_SCRUB_STAT F.TS_SCRUB_STAT_NEXT)) s).scrubNext
      (s.fld R.TS_SCRUB_STAT F.TS_SCRUB_STAT_NEXT)) := by
  have hskip : (s.tick.running && decide (s.tick.abs % 2 = 1)) = false := by
    rcases ht with h | h
    · rw [h, Bool.false_and]
    · rw [h]; exact Bool.and_false _
  rw [show exec .scrub s = execScrub s from rfl, execScrub, State.onCore, if_pos hs]
  simp only [hskip, Bool.false_eq_true, if_false]
  rfl

/-- A source that has not delivered within its bound has failed. -/
theorem exec_repairSourceTimeout {s : State} {b : Fin 64} {loc asked : Nat} {src : RepSrc} (hs : s.coreOn = true)
    (hbuf : s.repBuf b = some ⟨loc, src, asked, none⟩) (ht : asked + src.bound ≤ s.tick.count) :
    exec (.repairSourceTimeout b) s = .next (((s.clearBuf b).failSrc loc src).requestNext b) := by
  rw [show exec (.repairSourceTimeout b) s = execRepairSourceTimeout b s from rfl, execRepairSourceTimeout, State.onCore, if_pos hs]
  simp only [hbuf, ht, if_true]

theorem exec_repairSourceDelivered {s : State} {b : Fin 64} {loc asked : Nat} (tile : List (Nat × Byte)) (hs : s.coreOn = true)
    (hbuf : s.repBuf b = some ⟨loc, .partner, asked, none⟩) : ∃ t : State, exec (.repairSourceDelivered b tile) s = .next t ∧
      t.repBuf b = some ⟨loc, .partner, asked, some (tile.filter (fun e => e.1 < 4096))⟩ ∧ t.srf = s.srf ∧ t.mem = s.mem := by
  have hreq : s.requestNext b = s := by rw [State.requestNext, hbuf]; rfl
  rw [show exec (.repairSourceDelivered b tile) s = execRepairSourceDelivered b tile s from rfl, execRepairSourceDelivered, State.onCore,
    if_pos hs]
  simp only [hreq, State.deliver, hbuf]
  refine ⟨_, rfl, ?_, rfl, rfl⟩
  rw [State.repBuf]
  exact (tget_tput _ _ _ _).trans (if_pos rfl)

/-- Settles O27: the twin copy as a source, the buffer of a bank, and the scrubber's index. -/
theorem tileRepair : Obligations.TileRepair := by
  unfold Obligations.TileRepair
  refine ⟨fun s b loc hinv hs hbank hstep hbuf hq hv hact hp hk hst hfail hc hbad hgood hwait => ?_,
    fun s b loc asked tile hs => ⟨exec_repairSourceDelivered tile hs, fun h ht => exec_repairSourceTimeout hs h ht,
      fun h ht => exec_repairSourceTimeout hs h ht, fun h ht => exec_repairSourceTimeout hs h ht⟩, fun s hs ht => ?_⟩
  · obtain ⟨gen, hex⟩ := exec_bankStep_of_twinCopy hs hstep hbuf hq hact (State.nextSrc_twinCopy hp hk hfail hc) hbad hgood
    refine ⟨_, hex, ?_⟩
    generalize hu : (s.setBytes (tileAddr loc) (s.bytes (tileAddr (s.linkLoc loc)) 4096)).setReg (R.TS_DIR_GEN loc) gen = u
    obtain ⟨hmem, hst', hcount⟩ := u.repaired_stands loc.isLt
    obtain ⟨hsrf, hmem', _, _⟩ := (u.repaired loc).requestNext_stands b
    have hbank' : R.TS_BANK_STAT b ≠ R.TS_DIR_GEN loc := by simp only [R.TS_BANK_STAT, R.TS_DIR_GEN]; omega
    refine ⟨by rw [State.dirState, State.fld_congr hsrf]; exact hst', fun i hi => ?_, ?_⟩
    · have hin : tileAddr loc ≤ tileAddr loc + i ∧ tileAddr loc + i < tileAddr loc + (s.bytes (tileAddr (s.linkLoc loc)) 4096).length := by
        rw [State.bytes_length]; omega
      rw [State.byte_congr (hmem'.trans hmem), ← hu, State.byte_congr (State.setReg_mem ..), State.byte_setBytes, dif_pos hin]
      simp only [State.bytes_eq_map s _ _ hinv, List.getElem_map, List.getElem_range', Nat.add_sub_cancel_left, Nat.one_mul]
    · rw [State.fld_congr hsrf, ← hbank, hcount, ← hu, hbank, State.fld_setReg, if_neg hbank']
      rfl
  · intro i
    have hi : i < 64 := s.fld_lt R.TS_SCRUB_STAT F.TS_SCRUB_STAT_NEXT
    have hfold : ((List.range 64).foldl (fun u b => u.scrubLoc (64 * b + i)) s).reg R.TS_SCRUB_STAT = s.reg R.TS_SCRUB_STAT :=
      foldl_stands (fun u : State => u.reg R.TS_SCRUB_STAT) (fun u b hb => u.scrubLoc_scrubStat _ (by have := List.mem_range.1 hb; omega)) s
    refine ⟨_, exec_scrub hs ht, ?_⟩
    obtain ⟨hn, hpass, hmem, herr, hreg⟩ := ((List.range 64).foldl (fun u b => u.scrubLoc (64 * b + i)) s).scrubNext_spec i
    refine ⟨hn, ?_, fun hgood => ?_⟩
    · have hpassed : State.fld _ R.TS_SCRUB_STAT F.TS_SCRUB_STAT_PASSES = s.fld R.TS_SCRUB_STAT F.TS_SCRUB_STAT_PASSES :=
        congrArg F.TS_SCRUB_STAT_PASSES.get hfold
      rw [hpassed] at hpass
      exact hpass
    · rw [foldl_scrubLoc_of_good _ fun b hb => hgood b (List.mem_range.1 hb)] at hmem herr hreg ⊢
      exact ⟨hmem, herr, hreg⟩

end Sys2Proof.Machine

/-!
SUPPORT. Access to the system register file (R10, R11, R28 to R30).
-/
namespace Sys2Proof.Machine

/-! ### A register with no behaviour of its own -/

theorem State.plainWrite_eq {s : State} {a : Nat} {w : Word} {r : RegRow} (h : findReg a = some r) : s.plainWrite a w =
    s.setReg a (((s.reg a &&& ~~~ w32 r.rw) ||| (w &&& w32 r.rw)) &&& ~~~ (w &&& w32 r.w1c)) := by
  simp only [State.plainWrite, h]

/-- A bit of a register after a plain write. -/
theorem State.plainWrite_bit {s : State} {a : Nat} {w : Word} {r : RegRow} (h : findReg a = some r) {i : Nat} (hi : i < 32) :
    ((s.plainWrite a w).reg a).getLsbD i =
      ((if r.rw.testBit i then w.getLsbD i else (s.reg a).getLsbD i) && !(w.getLsbD i && r.w1c.testBit i)) := by
  rw [State.plainWrite_eq h, State.reg_setReg_same]
  simp only [BitVec.getLsbD_and, BitVec.getLsbD_or, BitVec.getLsbD_not, getLsbD_w32 _ i hi, hi, decide_true, Bool.true_and]
  cases r.rw.testBit i <;> simp

theorem State.plainWrite_other {s : State} {a b : Nat} {w : Word} {r : RegRow} (h : findReg a = some r) (hb : b ≠ a) :
    (s.plainWrite a w).reg b = s.reg b := by
  rw [State.plainWrite_eq h, State.reg_setReg_ne _ _ _ _ hb]

/-! ### Permissions -/

/-- What partition 0 may never write: SAFE, ID, and what is no register. -/
theorem State.srfOk_part0_write_false {s : State} {a : Nat}
    (h : a % 4 ≠ 0 ∨ findReg a = none ∨ a / 0x10000 = 7 ∨ a / 0x10000 = 17) : s.srfOk .part0 a true = false := by
  rw [State.srfOk]
  rcases h with h | h | h | h
  · simp [h]
  · simp [h]
  · have : s.srfMay .part0 a true = false := by simp only [State.srfMay, h]; rfl
    simp [this]
  · have : s.srfMay .part0 a true = false := by simp only [State.srfMay, h]; rfl
    simp [this]

/-! ### Reads -/

theorem State.markRead_srf (s : State) (i : Nat) : (s.markRead i).srf = s.srf := by
  rw [State.markRead]
  split <;> rfl

/-- A read clears the RC fields of its register, and no other register. -/
theorem State.readEffect_reg {s : State} {a : Nat} {r : RegRow} (h : findReg a = some r) :
    (s.readEffect a).reg a = s.reg a &&& ~~~ w32 r.rc ∧ ∀ b, b ≠ a → (s.readEffect a).reg b = s.reg b := by
  have hclear : ∀ u : State, u.srf = (if r.rc = 0 then s else s.setReg a (s.reg a &&& ~~~ w32 r.rc)).srf →
      u.reg a = s.reg a &&& ~~~ w32 r.rc ∧ ∀ b, b ≠ a → u.reg b = s.reg b := by
    intro u hu
    by_cases hrc : r.rc = 0
    · rw [if_pos hrc] at hu
      have hmask : ~~~ w32 r.rc = BitVec.allOnes 32 := by rw [hrc]; rfl
      exact ⟨by rw [State.reg_congr hu, hmask, BitVec.and_allOnes], fun b _ => State.reg_congr hu b⟩
    · rw [if_neg hrc] at hu
      exact ⟨by rw [State.reg_congr hu, State.reg_setReg_same], fun b hb => by rw [State.reg_congr hu, State.reg_setReg_ne _ _ _ _ hb]⟩
  refine hclear _ ?_
  simp only [State.readEffect, h]
  split
  · rfl
  · split
    · exact State.markRead_srf _ _
    · split <;> rfl

/-! ### SYSRD and SYSWR -/

theorem exec_sysrd {s : State} {l : Fin 64} {q : PQ} {gx ra : Fin 32} {x : TaskCtx} (hs : s.coreOn = true) (ht : (s.lamp l).task = some x)
    (hsafe : x.safety = false) (hp : (s.lamp l).pend = none) (hq : s.takes l q = true) : exec (.sysrd l q gx ra) s =
      .next ((if x.part ≠ 0 then s.kill l cPRIV (wordS gx ra 0 0 q) (s.lamp l).pc
        else (s.srfRead .part0 (s.g l ra).toNat l x.handler).2.2.setG l gx (s.srfRead .part0 (s.g l ra).toNat l x.handler).2.1).advance l 1) := by
  rw [show exec (.sysrd l q gx ra) s = execSysrd l q gx ra s from rfl, execSysrd, State.onCore, if_pos hs,
    State.instr_eq _ _ _ _ ht (by rw [hsafe]; rfl), State.settleP_of_idle _ hp, hq]
  rfl

theorem exec_syswr {s : State} {l : Fin 64} {q : PQ} {gx ra : Fin 32} {x : TaskCtx} (hs : s.coreOn = true) (ht : (s.lamp l).task = some x)
    (hsafe : x.safety = false) (hp : (s.lamp l).pend = none) (hq : s.takes l q = true) : exec (.syswr l q gx ra) s =
      .next ((if x.part ≠ 0 then s.kill l cPRIV (wordS gx ra 1 0 q) (s.lamp l).pc
        else (s.srfWrite .part0 (s.g l ra).toNat (s.g l gx) l x.handler).2).advance l 1) := by
  rw [show exec (.syswr l q gx ra) s = execSyswr l q gx ra s from rfl, execSyswr, State.onCore, if_pos hs,
    State.instr_eq _ _ _ _ ht (by rw [hsafe]; rfl), State.settleP_of_idle _ hp, hq]
  rfl

/-- Settles O36: the bits of a plain write, the permissions, the read's effect and the two instructions. -/
theorem registerAccess : Obligations.RegisterAccess := by
  unfold Obligations.RegisterAccess
  refine fun s => ⟨fun a w r h => ⟨fun b hb => State.plainWrite_other h hb, fun i hi => State.plainWrite_bit h hi⟩,
    fun a h => State.srfOk_part0_write_false h, fun hs a w => ?_, fun hs l q gx ra x ht hsafe hp hq => ?_⟩
  · have hwrite : exec (.registerWrite a w) s = .next (if s.srfOk .part0 a.toNat true then s.srfStore .part0 a.toNat w else s) :=
      exec_eq_next_of_onCore (f := fun s => if s.srfOk .part0 a.toNat true then s.srfStore .part0 a.toNat w else s) hs rfl
    have hread : exec (.readClear a) s = .next (if s.srfOk .part0 a.toNat false then s.readEffect a.toNat else s) :=
      exec_eq_next_of_onCore (f := fun s => if s.srfOk .part0 a.toNat false then s.readEffect a.toNat else s) hs rfl
    refine ⟨fun h => by rw [hwrite, h]; rfl, fun ha h => ?_, fun r hr h => ⟨_, ?_, State.readEffect_reg hr⟩, fun h => by rw [hread, h]; rfl⟩
    · rw [hwrite, h]
      rcases ha with ha | ha | ha <;> rw [ha] <;> rfl
    · rw [hread, h]
      rfl
  · intro a
    refine ⟨fun h0 => ?_, fun h0 => ?_⟩
    · have hrd := exec_sysrd (gx := gx) (ra := ra) hs ht hsafe hp hq
      have hwr := exec_syswr (gx := gx) (ra := ra) hs ht hsafe hp hq
      rw [if_neg (not_not.2 h0)] at hrd hwr
      refine ⟨fun h => ?_, fun h => ?_, fun h => ?_, fun h => ?_⟩
      · rw [hrd, State.srfRead, if_pos h]
      · rw [hrd, State.srfRead, if_neg (ne_true_of_eq_false h)]
      · rw [hwr, State.srfWrite, if_pos h]
      · rw [hwr, State.srfWrite, if_neg (ne_true_of_eq_false h)]
    · simp only [List.forall_mem_cons, List.not_mem_nil, false_imp_iff, implies_true, and_true]
      exact ⟨⟨_, by rw [exec_sysrd hs ht hsafe hp hq, if_pos h0]⟩, _, by rw [exec_syswr hs ht hsafe hp hq, if_pos h0]⟩

end Sys2Proof.Machine

/-!
SUPPORT. The Control Loop Unit: the words of a record, staged writes and what a computation publishes (R184, R247 to R260).
-/
namespace Sys2Proof.Machine

/-! ### A list with one item replaced -/

@[simp] theorem lset_length {α : Type} (xs : List α) (i : Nat) (a : α) : (lset xs i a).length = xs.length := by
  induction xs generalizing i with
  | nil => rfl
  | cons x xs ih =>
    cases i with
    | zero => rfl
    | succ i => simp only [lset, List.length_cons, ih]

theorem lset_getD {α : Type} (xs : List α) (i k : Nat) (a d : α) (hi : i < xs.length) :
    (lset xs i a).getD k d = if k = i then a else xs.getD k d := by
  induction xs generalizing i k with
  | nil => exact absurd hi (Nat.not_lt_zero _)
  | cons x xs ih =>
    cases i with
    | zero => cases k <;> rfl
    | succ i =>
      cases k with
      | zero => rfl
      | succ k =>
        simp only [lset, List.getD_cons_succ, ih i k (Nat.lt_of_succ_lt_succ hi), Nat.succ.injEq]

theorem foldl_lset_length {α : Type} (ups : List (Nat × α)) (xs : List α) : (ups.foldl (fun w e => lset w e.1 e.2) xs).length = xs.length := by
  induction ups generalizing xs with
  | nil => rfl
  | cons u ups ih => rw [List.foldl_cons, ih, lset_length]

/-- An item no update names stays. -/
theorem foldl_lset_getD_ne {α : Type} (ups : List (Nat × α)) (xs : List α) (k : Nat) (d : α) (hlen : ∀ e ∈ ups, e.1 < xs.length)
    (hk : ∀ e ∈ ups, e.1 ≠ k) : (ups.foldl (fun w e => lset w e.1 e.2) xs).getD k d = xs.getD k d := by
  induction ups generalizing xs with
  | nil => rfl
  | cons u ups ih =>
    rw [List.foldl_cons, ih _ (fun e h => by rw [lset_length]; exact hlen e (List.mem_cons_of_mem _ h))
      (fun e h => hk e (List.mem_cons_of_mem _ h)), lset_getD _ _ _ _ _ (hlen u List.mem_cons_self), if_neg (hk u List.mem_cons_self).symm]

/-- The item an update names is the update's where no later update names it. -/
theorem foldl_lset_getD_of_mem {α : Type} (pre post : List (Nat × α)) (k : Nat) (a : α) (xs : List α) (d : α)
    (hlen : ∀ e ∈ pre ++ (k, a) :: post, e.1 < xs.length) (hk : ∀ e ∈ post, e.1 ≠ k) :
    ((pre ++ (k, a) :: post).foldl (fun w e => lset w e.1 e.2) xs).getD k d = a := by
  have hpre := foldl_lset_length pre xs
  rw [List.foldl_append, List.foldl_cons, foldl_lset_getD_ne _ _ _ _ (fun e h => ?_) hk, lset_getD _ _ _ _ _ ?_, if_pos rfl]
  · rw [hpre]
    exact hlen (k, a) (List.mem_append_right _ List.mem_cons_self)
  · rw [lset_length, hpre]
    exact hlen e (List.mem_append_right _ (List.mem_cons_of_mem _ h))

/-! ### Staged writes (R184, R263) -/

theorem State.clus_setClu (s : State) (j : Nat) (x : CluSlot) : (s.setClu j x).clus j = x := tgetD_tput_same ..

/-- No write of word 8 is taken. -/
theorem loopwrOk_eight (b : Bool) (v : Word) : loopwrOk b 8 v = false := rfl

/-- A staged write its word's rule allows. -/
theorem State.loopwr_of_ok {s : State} {j n : Nat} {v : Word} (hlen : (s.clus j).words.length = 64) (hn : n < 64)
    (hok : loopwrOk (((s.clus j).words.getD 8 0).getLsbD 4) n v = true) : ((s.loopwr j n v).clus j).words.getD n 0 = v := by
  have hn8 : n ≠ 8 := fun h => by subst h; rw [loopwrOk_eight] at hok; exact absurd hok (by decide)
  simp only [State.loopwr, hok, if_true, State.clus_setClu]
  split
  · rw [lset_getD _ _ _ _ _ (by rw [lset_length, hlen]; decide), if_neg hn8, lset_getD _ _ _ _ _ (hlen ▸ hn), if_pos rfl]
  · rw [lset_getD _ _ _ _ _ (hlen ▸ hn), if_pos rfl]

/-- One it does not allow leaves its word and sets the write-reject bit. -/
theorem State.loopwr_of_rejected {s : State} {j n : Nat} {v : Word} (hlen : (s.clus j).words.length = 64)
    (hok : loopwrOk (((s.clus j).words.getD 8 0).getLsbD 4) n v = false) : (((s.loopwr j n v).clus j).words.getD 8 0).getLsbD 16 = true ∧
      (n ≠ 8 → ((s.loopwr j n v).clus j).words.getD n 0 = (s.clus j).words.getD n 0) := by
  have h8 : 8 < (s.clus j).words.length := by rw [hlen]; decide
  simp only [State.loopwr, hok, Bool.false_eq_true, if_false, State.clus_setClu]
  refine ⟨?_, fun hn => by rw [lset_getD _ _ _ _ _ h8, if_neg hn]⟩
  rw [lset_getD _ _ _ _ _ h8, if_pos rfl, BitVec.getLsbD_or, show (0x10000 : Word).getLsbD 16 = true from rfl, Bool.or_true]

/-! ### LOOPRD and LOOPWR -/

section
variable {s : State} {l : Fin 64} {q : PQ} {ra : Fin 32} {fn : BitVec 7} {x : TaskCtx}

theorem exec_looprd (rd : Fin 32) (hs : s.coreOn = true) (ht : (s.lamp l).task = some x) (hsafe : x.safety = false)
    (hp : (s.lamp l).pend = none) (hq : s.takes l q = true) : exec (.looprd l q rd ra fn) s =
      .next ((if s.ownsLoop (s.g l ra).toNat x.part then s.setG l rd ((s.clus (s.g l ra).toNat).shown.getD fn.toNat 0)
        else (s.raise l cOWN (wordA 0x30 rd.val ra.val 0 fn.toNat q) 0 0 (s.lamp l).pc).setG l rd 0).advance l 1) := by
  rw [show exec (.looprd l q rd ra fn) s = execLooprd l q rd ra fn s from rfl, execLooprd, State.onCore, if_pos hs,
    State.instr_eq _ _ _ _ ht (by rw [hsafe]; rfl), State.settleP_of_idle _ hp, hq]
  rfl

theorem exec_loopwr (rb : Fin 32) (hs : s.coreOn = true) (ht : (s.lamp l).task = some x) (hsafe : x.safety = false)
    (hp : (s.lamp l).pend = none) (hq : s.takes l q = true) : exec (.loopwr l q ra rb fn) s =
      .next ((if s.ownsLoop (s.g l ra).toNat x.part then
          s.modPart x.part (fun y => { y with loopw := y.loopw ++ [((s.g l ra).toNat, fn.toNat, s.g l rb)] })
        else s.raise l cOWN (wordA 0x31 0 ra.val rb.val fn.toNat q) 0 0 (s.lamp l).pc).advance l 1) := by
  rw [show exec (.loopwr l q ra rb fn) s = execLoopwr l q ra rb fn s from rfl, execLoopwr, State.onCore, if_pos hs,
    State.instr_eq _ _ _ _ ht (by rw [hsafe]; rfl), State.settleP_of_idle _ hp, hq]
  rfl

end

/-! ### What a computation publishes -/

/-- An event that fires writes the pending flags of partitions only. -/
theorem State.fire_clu (s : State) (type idx : Nat) : (s.fire type idx).clu = s.clu := by
  rw [State.fire]
  exact foldl_stands State.clu (fun u e _ => State.modPart_clu _ _ _) s

theorem b2n_le (b : Bool) : b2n b ≤ 1 := by cases b <;> decide

/-- The words a computation replaces: CMD, STATUS, PV, CV, the integrator, the model's output, the residual, the counts, the PV before,
and the tick. -/
def cluUps (stat : Nat) (pv cv i ym resid counts abs : Word) : List (Nat × Word) :=
  [(1, 0), (8, w32 stat), (12, pv), (13, cv), (14, i), (16, ym), (17, resid), (18, counts), (19, pv), (20, abs)]

/-- A computation writes its slot, and may fire the slot's event. -/
theorem State.cluFinish_eq (s : State) (j : Nat) (c : CluPart) (lim : Limited) (sel hold : Bool) :
    ∃ (y : CluSlot) (stat : Nat) (i ym resid counts : Word) (raised : Bool),
      s.cluFinish j c lim sel hold = (if raised then (s.setClu j y).fire 4 j else s.setClu j y) ∧
      y.words = (cluUps stat c.pv lim.cv i ym resid counts s.absLo).foldl (fun w e => lset w e.1 e.2) c.words ∧
      y.dirty = true ∧ (hold = true → stat / 2 ^ 11 % 2 = 1) := by
  unfold State.cluFinish
  extract_lets +onlyGivenNames x w per dt st cmd cv reset ym0 dead0 pc0 fc0 thresh resid beyond pc sup alm dead ud tm ym fe feOn fc falm ack
    alm' falm' raised keep mode stat ups w' v
  refine ⟨_, stat, _, _, _, _, raised, rfl, rfl, rfl, fun h => ?_⟩
  have hmode : mode < 8 := by
    simp only [mode, h, if_true]
    exact Nat.mod_lt _ (by decide)
  have hb := b2n_le
  have h4 := hb c.set
  have h5 := hb (keep lim.ramp 5)
  have h6 := hb (keep lim.frozen 6)
  have h7 := hb (keep lim.satHi 7)
  have h8 := hb (keep lim.satLo 8)
  have h9 := hb (keep lim.rate 9)
  have h10 := hb sel
  have h11 : b2n hold = 1 := by rw [h]; rfl
  simp only [stat]
  omega

/-- The words of a loop slot as a computation publishes them. -/
theorem State.cluFinish_spec (s : State) (j : Nat) (c : CluPart) (lim : Limited) (sel hold : Bool) (hlen : c.words.length = 64) {t : State}
    (ht : t = s.cluFinish j c lim sel hold) :
    t.cluWord j 13 = lim.cv ∧ t.cluWord j 12 = c.pv ∧ t.cluWord j 1 = 0 ∧ t.cluWord j 20 = s.absLo ∧
      (hold = true → (t.cluWord j 8).getLsbD 11 = true) ∧ (t.clus j).dirty = true := by
  obtain ⟨y, stat, i, ym, resid, counts, raised, heq, hwords, hdirty, hstat⟩ := s.cluFinish_eq j c lim sel hold
  have hclus : t.clus j = y := by
    have hclu : t.clu = (s.setClu j y).clu := by
      rw [ht, heq]
      split
      · exact State.fire_clu _ _ _
      · rfl
    rw [State.clus, hclu]
    exact s.clus_setClu j y
  have hget (k : Nat) : t.cluWord j k = y.words.getD k 0 := by rw [State.cluWord, hclus]
  simp only [cluUps, List.foldl_cons, List.foldl_nil] at hwords
  simp only [hget, hwords, hclus, hdirty, lset_getD, lset_length, hlen, Nat.reduceLT, Nat.reduceEqDiff, if_true, if_false, true_and, and_true]
  intro h
  rw [getLsbD_w32 _ _ (by decide), Nat.testBit_eq_decide_div_mod_eq, hstat h]
  rfl

/-- The steps up to u_try replace words of the record. -/
theorem State.cluFront_words_length {s : State} {j : Nat} {c : CluPart} (h : s.cluFront j = some c) : c.words.length = (s.clus j).words.length := by
  unfold State.cluFront at h
  extract_lets at h
  split at h
  · exact absurd h (Option.some_ne_none c).symm
  · injection h with h
    rw [← h]
    change (lset (lset (lset (lset (s.clus j).words 9 _) 10 _) 11 _) 15 _).length = _
    simp only [lset_length]

/-- A slot that is not loaded or not due computes nothing. -/
theorem exec_cluCompute_idle {s : State} {j : Fin 256} (hs : s.coreOn = true)
    (h : s.cluState j ≠ 2 ∨ s.cluBits j 21 0 16 = 0 ∨ s.tick.abs % s.cluBits j 21 0 16 ≠ s.cluBits j 21 16 16) :
    exec (.cluCompute j) s = .next s := by
  rw [exec_eq_next_of_onCore (f := fun s => s.cluCompute j) hs rfl, State.cluCompute]
  exact congrArg _ (if_pos h)

/-- A slot that is due, on hold or with a sample, alone or in a pair. -/
theorem State.cluCompute_due {s : State} {j : Nat} (hst : s.cluState j = 2) (hper : s.cluBits j 21 0 16 ≠ 0)
    (hdue : s.tick.abs % s.cluBits j 21 0 16 = s.cluBits j 21 16 16) :
    (s.cluFront j = none → ∃ (c : CluPart) (lim : Limited) (sel : Bool), s.cluCompute j = s.cluFinish j c lim sel true ∧
      c.words = (s.clus j).words ∧ lim.cv = s.cluWord j 13) ∧
    (∀ c, s.cluFront j = some c → s.paired j = false → s.cluCompute j = s.cluAlone j c) := by
  have hgo : ¬ (s.cluState j ≠ 2 ∨ s.cluBits j 21 0 16 = 0 ∨ s.tick.abs % s.cluBits j 21 0 16 ≠ s.cluBits j 21 16 16) := by
    rintro (h | h | h)
    exacts [h hst, hper h, h hdue]
  refine ⟨fun hfront => ?_, fun c hfront hpair => ?_⟩
  · rw [State.cluCompute, if_neg hgo, hfront]
    exact ⟨_, _, _, rfl, rfl, rfl⟩
  · simp only [State.cluCompute, hgo, if_false, hfront, hpair, Bool.false_eq_true]

/-- Settles O37: the two instructions, the staged write, the fault, and what a computation publishes. -/
theorem loopSlots : Obligations.LoopSlots := by
  unfold Obligations.LoopSlots
  refine fun s hs => ⟨fun l q rd ra rb fn x ht hsafe hp hq => ?_, fun j n v hlen hn => ?_, fun j => ⟨fun h => ?_, fun h => ?_, fun h => ?_,
    fun hst hper hdue hlen => ?_⟩⟩
  · intro j
    have hrd := exec_looprd (fn := fn) (ra := ra) rd hs ht hsafe hp hq
    have hwr := exec_loopwr (fn := fn) (ra := ra) rb hs ht hsafe hp hq
    constructor <;> intro h
    · rw [if_pos h] at hrd hwr
      exact ⟨hrd, hwr⟩
    · rw [if_neg (ne_true_of_eq_false h)] at hrd hwr
      exact ⟨_, _, hrd, hwr⟩
  · intro b
    exact ⟨State.loopwr_of_ok hlen hn, State.loopwr_of_rejected hlen⟩
  · have hne : R.CLU_SLOT j ≠ R.CLU_STAT := by simp only [R.CLU_SLOT, R.CLU_STAT]; omega
    refine ⟨_, (exec_eq_next_of_onCore (f := fun s => if s.cluState j = 2 then
      (s.setFld (R.CLU_SLOT j) F.CLU_SLOT_STATE 4).incFld R.CLU_STAT F.CLU_STAT_UNCORR 255 else s) hs rfl).trans
        (congrArg _ (if_pos h)), ?_, ?_⟩
    · rw [State.cluState, State.fld_incFld_other _ _ _ _ _ _ hne, State.fld_setFld_same _ _ _ _ (by decide)]
      rfl
    · rw [State.fld_incFld_same _ _ _ _ (by decide) (by decide), State.fld_setFld_other _ _ _ _ _ _ hne.symm]
  · refine ⟨?_, exec_cluCompute_idle hs (Or.inl h)⟩
    exact (exec_eq_next_of_onCore (f := fun s => if s.cluState j = 2 then
      (s.setFld (R.CLU_SLOT j) F.CLU_SLOT_STATE 4).incFld R.CLU_STAT F.CLU_STAT_UNCORR 255 else s) hs rfl).trans (congrArg _ (if_neg h))
  · exact exec_cluCompute_idle hs (Or.inr (Or.inr h))
  · obtain ⟨hhold, halone⟩ := State.cluCompute_due hst hper hdue
    refine ⟨_, exec_eq_next_of_onCore (f := fun s => s.cluCompute j) hs rfl, fun hfront => ?_, fun c hfront hpair => ?_⟩
    · obtain ⟨c, lim, sel, heq, hwords, hcv⟩ := hhold hfront
      obtain ⟨h13, _, _, h20, h8, hdirty⟩ := State.cluFinish_spec s j c lim sel true (by rw [hwords, hlen]) heq
      exact ⟨h13.trans hcv, h8 rfl, h20, hdirty⟩
    · obtain ⟨h13, h12, h1, h20, _, hdirty⟩ := State.cluFinish_spec s j c _ false false ((State.cluFront_words_length hfront).trans hlen)
        (halone c hfront hpair)
      exact ⟨h12, h1, h20, h13, hdirty⟩

end Sys2Proof.Machine

/-!
SUPPORT. Messaging (R182, R183, R302, R332 to R334).
-/
namespace Sys2Proof.Machine

/-! ### A write to a window of any length -/

section
variable {s : State} {l : Nat} {w : Fin 8} {o : Nat} {bs : List Byte}

/-- The lines a write touches become valid. -/
theorem State.winWrite_line_valid {j : Nat} (hj : j < 64) (hlo : o / 64 ≤ j) (hhi : j ≤ (o + bs.length - 1) / 64) :
    ((s.winWrite l w o bs).lamp l).win[w].lines.getLsbD j = true := by
  rw [State.winWrite, State.win_setWin, if_pos rfl]
  simp only [BitVec.getLsbD_or, BitVec.getLsbD_ofNat, hj, decide_true, Bool.true_and, Nat.testBit_mul_two_pow, Nat.testBit_two_pow_sub_one]
  have h1 : o / 64 ≤ j := hlo
  have h2 : j - o / 64 < (o + bs.length - 1) / 64 - o / 64 + 1 := by omega
  simp only [h1, h2, decide_true, Bool.and_true, Bool.or_true]

/-- The bytes written are the bytes an access sees. -/
theorem State.winByte_winWrite (hinv : s.memCanon = true) (hfit : o + bs.length ≤ 4096) {i : Nat} (hlo : o ≤ i) (hhi : i < o + bs.length) :
    (s.winWrite l w o bs).winByte l w i = bs[i - o]'(by omega) := by
  have hold : (s.winBytes l w (64 * (o / 64)) (64 * ((o + bs.length - 1) / 64 - o / 64 + 1))).length =
      64 * ((o + bs.length - 1) / 64 - o / 64 + 1) := by rw [State.winBytes_eq hinv, List.length_map, List.length_range']
  have hk : o - 64 * (o / 64) + bs.length ≤ 64 * ((o + bs.length - 1) / 64 - o / 64 + 1) := by omega
  have hsplice := getElem_splice (s.winBytes l w (64 * (o / 64)) (64 * ((o + bs.length - 1) / 64 - o / 64 + 1))) bs (o - 64 * (o / 64))
    (i - 64 * (o / 64)) (by rw [hold]; exact hk)
    (by simp only [List.length_append, List.length_take, List.length_drop, hold]; omega) (by rw [hold]; omega)
  rw [State.winByte, State.winWrite_line_valid (by omega) (by omega) (by omega), if_pos rfl]
  change (s.setBytes _ _).byte _ = _
  rw [State.byte_setBytes, dif_pos ?_]
  · have hidx : winAddr l w.val + i - (winAddr l w.val + 64 * (o / 64)) = i - 64 * (o / 64) := by omega
    simp only [hidx]
    rw [hsplice, dif_pos (by omega)]
    congr 1
    omega
  · simp only [List.length_append, List.length_take, List.length_drop, hold]
    omega

/-- A block written to a window reads back. -/
theorem State.winBytes_winWrite (hinv : s.memCanon = true) (hfit : o + bs.length ≤ 4096) : (s.winWrite l w o bs).winBytes l w o bs.length = bs := by
  have hcanon : (s.winWrite l w o bs).memCanon = true := by
    rw [State.winWrite]
    exact State.memCanon_setBytes _ _ _ hinv
  refine List.ext_getElem (by rw [State.winBytes_eq hcanon, List.length_map, List.length_range']) fun i h1 h2 => ?_
  simp only [State.winBytes_eq hcanon, List.getElem_map, List.getElem_range', Nat.one_mul]
  rw [State.winByte_winWrite hinv hfit (by omega) (by omega)]
  simp only [Nat.add_sub_cancel_left]

end

/-! ### Exceptions leave the staged frames alone -/

theorem State.log_frames (s : State) (r : RecIn) (q : Option Nat) (g : Bool) (p : Nat) : ((s.log r q g).part p).frames = (s.part p).frames := by
  obtain ⟨e, h⟩ := s.part_log r q g p
  rw [h]

theorem State.modPart_frames (s : State) (p n : Nat) (f : PartSt → PartSt) (h : ∀ x, (f x).frames = x.frames) :
    ((s.modPart p f).part n).frames = (s.part n).frames := by
  by_cases hn : n = p
  · subst hn
    rw [State.part_modPart_same, h]
  · rw [State.part_modPart_ne _ _ _ _ hn]

theorem State.faultStop_frames (s : State) (p : Nat) (c : StopReq) (n : Nat) : ((s.faultStop p c).part n).frames = (s.part n).frames := by
  have hdrop (u : State) (l : Nat) : (u.dropTask l).parts = u.parts := by
    simp only [State.dropTask, State.dropHold, State.modHold]
    split
    · split <;> rfl
    · rfl
  have hgo (t : State) (b : Prop) [Decidable b] (ht : (t.part n).frames = (s.part n).frames) :
      ((if b then t.event Ev.CMD_REFUSED p else t).part n).frames = (s.part n).frames := by
    split
    · exact (State.log_frames _ _ _ _ _).trans ht
    · exact ht
  have hask : ((s.askStop p c).part n).frames = (s.part n).frames := by
    simp only [State.askStop]
    split
    · split
      · split
        · rfl
        · exact hgo _ _ (State.modPart_frames _ _ _ _ fun _ => rfl)
      · rw [if_neg Bool.false_ne_true]
        exact hgo _ _ (State.modPart_frames _ _ _ _ fun _ => rfl)
    · rfl
  rw [State.faultStop, State.abandonPart, State.modPart_frames _ _ _ (fun x => { x with barred := true }) fun _ => rfl,
    State.part_congr (foldl_stands State.parts (fun u l _ => hdrop u l) _), hask]

theorem State.raise_frames (s : State) (l cls : Nat) (word : Word) (b4 loc addr n : Nat) :
    ((s.raise l cls word b4 loc addr).part n).frames = (s.part n).frames := by
  simp only [State.raise]
  split
  · rfl
  · split
    · rw [State.faultStop_frames, State.log_frames, State.log_frames]
    · exact State.log_frames _ _ _ _ _

/-! ### The range of a message (R182) -/

theorem State.msgWindow_of_fits {s : State} {l : Nat} {rd ra : Fin 32} {word : Word} {size len : Nat} {tooLong : State → State}
    {body : Fin 8 → Nat → State → State} {w : Fin 8} (ha : (s.g l ra).toNat / 4096 = 16 + w.val) (hp : (s.lamp l).pend = none)
    (hfit : (s.g l ra).toNat % 4096 + size ≤ 4096) (hpoison : (s.lamp l).win[w].st ≠ .poison) (hlen : len ≤ size) :
    s.msgWindow l rd ra word size len tooLong body = body w ((s.g l ra).toNat % 4096) s := by
  have hnp : ((s.lamp l).win[w].st == WinState.poison) = false := beq_eq_false_iff_ne.2 hpoison
  simp only [State.msgWindow, winOf_of_div ha, if_neg (Nat.not_lt.2 hfit), State.settleW_of_idle w hp, hnp, Bool.false_eq_true, if_false,
    if_neg (Nat.not_lt.2 hlen)]

theorem exec_of_msgIns {s : State} {i : Instr} {l : Nat} {q : PQ} {word : Word} {sz : Nat} {body : TaskCtx → State → State} {x : TaskCtx}
    (hs : s.coreOn = true) (ht : (s.lamp l).task = some x) (hsafe : x.safety = false) (hp : (s.lamp l).pend = none)
    (hq : s.takes l q = true) (hsz : sz ≠ 3) (harm : exec i s = s.onCore (fun s => s.msgIns l q word sz body)) :
    exec i s = .next ((body x s).advance l 1) := by
  rw [exec_eq_next_of_onCore hs harm, State.msgIns, State.instr_eq _ _ _ _ ht (by rw [hsafe]; rfl), State.settleP_of_idle _ hp, hq,
    if_pos rfl, if_neg hsz]

/-- The register a message's answer stands in, after the PC has moved on. -/
theorem State.g_setG_advance (u : State) (l len : Nat) {rd : Fin 32} (hrd : rd ≠ 0) (v : Word) : ((u.setG l rd v).advance l len).g l rd = v := by
  have h := ((u.setG l rd v).lamp_advance_regs l len l).1
  rw [State.g, h, ← State.g, State.g_setG, if_pos ⟨rfl, rfl, hrd⟩]

theorem winBytes_eq_range {s : State} (hinv : s.Inv) (l : Nat) (w : Fin 8) (off n : Nat) :
    s.winBytes l w off n = (List.range n).map (fun i => s.winByte l w (off + i)) := by
  rw [State.winBytes_eq hinv.2, List.range'_eq_map_range, List.map_map]
  rfl

/-! ### FSEND -/

/-- A frame of a partition whose cells have been charged: kept open on the lamp, or staged for the launch. -/
def State.stageFrame (s : State) (l p h : Nat) (bytes : List Byte) (more : Bool) : State :=
  let u := (s.newHold (.part p) (cellsFor (bytes.length - 16)) 1).2
  if more then u.modLamp l (fun x => { x with chain := some ⟨h, bytes, s.sw.next⟩ })
  else (u.modLamp l (fun x => { x with chain := none })).modPart p (fun x => { x with frames := x.frames ++ [⟨h, bytes, s.sw.next⟩] })

theorem State.stageFrame_closed (s : State) (l p h : Nat) (bytes : List Byte) :
    ((s.stageFrame l p h bytes false).part p).frames = (s.part p).frames ++ [⟨h, bytes, s.sw.next⟩] ∧
      ((s.stageFrame l p h bytes false).lamp l).chain = none := by
  rw [State.stageFrame, if_neg Bool.false_ne_true]
  refine ⟨congrArg PartSt.frames (State.part_modPart_same _ _ _), ?_⟩
  rw [State.lamp_congr (State.modPart_lamps ..), State.lamp_modLamp_same]

theorem State.stageFrame_open (s : State) (l p h : Nat) (bytes : List Byte) :
    ((s.stageFrame l p h bytes true).part p).frames = (s.part p).frames ∧
      ((s.stageFrame l p h bytes true).lamp l).chain = some ⟨h, bytes, s.sw.next⟩ := by
  rw [State.stageFrame, if_pos rfl]
  exact ⟨rfl, congrArg Lamp.chain (State.lamp_modLamp_same _ _ _)⟩

section
variable {s : State} {l : Nat} {t : TaskCtx} {rd ra rb : Fin 32} {word : Word} {more : Bool} {size h : Nat} {w : Fin 8}

/-- A frame that fits its partition's cells, with no frame open. -/
theorem State.fsend_of_room (hinv : s.Inv) (ha : (s.g l ra).toNat / 4096 = 16 + w.val) (hp : (s.lamp l).pend = none)
    (hfit : (s.g l ra).toNat % 4096 + size ≤ 4096) (hpoison : (s.lamp l).win[w].st ≠ .poison) (hlen : (s.g l rb).toNat ≤ size)
    (hsize : size ≤ 4096) (hchain : (s.lamp l).chain = none) (hq : (s.queueOf t.part h).isSome)
    (hroom : cellsFor ((s.g l rb).toNat - 16) ≤ s.cellsFree (.part t.part)) : s.fsend l t rd ra rb word more size h =
      (s.stageFrame l t.part h (s.winBytes l w ((s.g l ra).toNat % 4096) (s.g l rb).toNat) more).setG l rd (msgResult 0 (s.g l rb).toNat) := by
  have hno : ((s.queueOf t.part h).isNone && (s.uartOf t.part h).isNone) = false := by
    rw [Option.isNone_eq_false_iff.2 hq, Bool.false_and]
  have hbig : ¬ 65535 < 0 + (s.g l rb).toNat := by omega
  have hcells : ¬ s.cellsFree (.part t.part) < cellsFor (0 + (s.g l rb).toNat - 16) - 0 := by rw [Nat.zero_add]; omega
  have hbytes : (s.winBytes l w ((s.g l ra).toNat % 4096) (s.g l rb).toNat).length = (s.g l rb).toNat := by
    rw [State.winBytes_eq hinv.2, List.length_map, List.length_range']
  rw [State.fsend, State.msgWindow_of_fits ha hp hfit hpoison hlen, State.stageFrame, hbytes]
  simp only [hno, hchain, Bool.false_eq_true, if_false, List.length_nil, if_neg hbig, if_neg hcells, List.nil_append]
  rw [Nat.zero_add]
  rfl

/-- A handle that is not the partition's. -/
theorem State.fsend_of_foreign (ha : (s.g l ra).toNat / 4096 = 16 + w.val) (hp : (s.lamp l).pend = none)
    (hfit : (s.g l ra).toNat % 4096 + size ≤ 4096) (hpoison : (s.lamp l).win[w].st ≠ .poison) (hlen : (s.g l rb).toNat ≤ size)
    (hq : s.queueOf t.part h = none) (hu : s.uartOf t.part h = none) : s.fsend l t rd ra rb word more size h = s.msgFail l rd word 3 := by
  rw [State.fsend, State.msgWindow_of_fits ha hp hfit hpoison hlen, hq, hu]
  rfl

/-! ### FRECV -/

/-- The receive header and the bytes of a frame (R302). -/
def RingEnt.recvBytes (e : RingEnt) : List Byte :=
  leBytes 2 e.bytes.length ++ [BitVec.ofNat 8 e.status, BitVec.ofNat 8 e.port] ++ leBytes 2 e.tci ++ [BitVec.ofNat 8 e.wake, 0] ++
    leBytes 4 e.sec ++ leBytes 4 e.ns ++ e.bytes

theorem RingEnt.recvBytes_def (e : RingEnt) : leBytes 2 e.bytes.length ++ [BitVec.ofNat 8 e.status, BitVec.ofNat 8 e.port] ++
    leBytes 2 e.tci ++ [BitVec.ofNat 8 e.wake, 0] ++ leBytes 4 e.sec ++ leBytes 4 e.ns ++ e.bytes = e.recvBytes := rfl

theorem RingEnt.recvBytes_length (e : RingEnt) : e.recvBytes.length = 16 + e.bytes.length := by
  simp only [RingEnt.recvBytes, List.length_append, leBytes_length, List.length_cons, List.length_nil]

variable {r : Nat}

theorem State.frecv_of_empty (ha : (s.g l ra).toNat / 4096 = 16 + w.val) (hp : (s.lamp l).pend = none)
    (hfit : (s.g l ra).toNat % 4096 + size ≤ 4096) (hpoison : (s.lamp l).win[w].st ≠ .poison) (hlen : (s.g l rb).toNat ≤ size)
    (hr : s.ringByHandle t.part h = some r) (hrest : (s.swRing r).rest = none) (hents : (s.swRing r).ents = []) :
    s.frecv l t rd ra rb word false size h = s.setG l rd (msgResult 5 0) := by
  rw [State.frecv, State.msgWindow_of_fits ha hp hfit hpoison hlen]
  simp only [hr, hrest, hents, Bool.false_and, Option.isSome_none, Bool.and_false, Bool.false_eq_true, if_false]

/-- A frame that fits is written to the window and leaves its ring. -/
theorem State.frecv_of_fits {e : RingEnt} {es : List RingEnt} (ha : (s.g l ra).toNat / 4096 = 16 + w.val) (hp : (s.lamp l).pend = none)
    (hfit : (s.g l ra).toNat % 4096 + size ≤ 4096) (hpoison : (s.lamp l).win[w].st ≠ .poison) (hlen : (s.g l rb).toNat ≤ size)
    (hr : s.ringByHandle t.part h = some r) (hrest : (s.swRing r).rest = none) (hents : (s.swRing r).ents = e :: es)
    (hsnap : (s.swRing r).snap ≠ 0) (hroom : 16 + e.bytes.length ≤ (s.g l rb).toNat) :
    s.frecv l t rd ra rb word false size h = ((s.winWrite l w ((s.g l ra).toNat % 4096) e.recvBytes).ringPop r).setG l rd
      (msgResult (if e.status.testBit 0 then 7 else 0) (16 + e.bytes.length)) := by
  have hall : e.recvBytes.take (s.g l rb).toNat = e.recvBytes := List.take_of_length_le (by rw [e.recvBytes_length]; exact hroom)
  have hne : ¬ 16 + e.bytes.length = 0 := by omega
  rw [State.frecv, State.msgWindow_of_fits ha hp hfit hpoison hlen]
  simp only [hr, hrest, hents, if_neg hsnap, Bool.false_and, Option.isSome_none, Bool.and_false, Bool.false_eq_true, if_false,
    Option.getD_none, e.recvBytes_def, List.drop_zero, hall, e.recvBytes_length, if_neg hne, Nat.zero_add, decide_true, if_true, Bool.not_true]
  rfl

end

/-! ### CSEND -/

/-- A record staged for a transmit buffer in place of one staged before. -/
def State.stageRecord (s : State) (p c b : Nat) (rcd : List Byte) : State :=
  s.modPart p (fun x => { x with csends := x.csends.filter (fun e => !(e.chan == c && e.buf == b)) ++ [⟨c, b, rcd⟩] })

theorem State.csend_of_good {s : State} {l : Nat} {t : TaskCtx} {rd ra rb : Fin 32} {word : Word} {size : Nat} {w : Fin 8}
    (ha : (s.g l ra).toNat / 4096 = 16 + w.val) (hp : (s.lamp l).pend = none) (hfit : (s.g l ra).toNat % 4096 + size ≤ 4096)
    (hpoison : (s.lamp l).win[w].st ≠ .poison) (hbuf : s.txBuf ((s.g l rb).toNat / 64) ((s.g l rb).toNat % 64) t.part = true)
    (hn : 16 + leAt (s.winBytes l w ((s.g l ra).toNat % 4096) 16) 6 2 ≤ size)
    (hok : s.canRecordOk ((s.g l rb).toNat / 64) (s.winBytes l w ((s.g l ra).toNat % 4096) 16) = true) :
    s.csend l t rd ra rb word size = (s.stageRecord t.part ((s.g l rb).toNat / 64) ((s.g l rb).toNat % 64)
      (s.winBytes l w ((s.g l ra).toNat % 4096) (16 + leAt (s.winBytes l w ((s.g l ra).toNat % 4096) 16) 6 2))).setG l rd
        (msgResult 0 0) := by
  have hbad : (decide (size < 16 + leAt (s.winBytes l w ((s.g l ra).toNat % 4096) 16) 6 2) ||
      !s.canRecordOk ((s.g l rb).toNat / 64) (s.winBytes l w ((s.g l ra).toNat % 4096) 16)) = false := by
    rw [decide_eq_false (Nat.not_lt.2 hn), hok]
    rfl
  rw [State.csend, State.msgWindow_of_fits ha hp hfit hpoison (Nat.zero_le _)]
  simp only [hbuf, hbad, Bool.not_true, Bool.false_eq_true, if_false]
  rfl

/-! ### What stands after an answer -/

/-- From `u` to `t` a message instruction has answered `v` in `rd` and moved on. -/
structure Answered (l : Nat) (rd : Fin 32) (v : Word) (u t : State) : Prop where
  answer : t.g l rd = v
  parts : t.parts = u.parts
  sw : t.sw = u.sw
  mem : t.mem = u.mem
  chain : (t.lamp l).chain = (u.lamp l).chain
  win : (t.lamp l).win = (u.lamp l).win

theorem Answered.of_setG (u : State) (l : Nat) {rd : Fin 32} (hrd : rd ≠ 0) (v : Word) :
    Answered l rd v u ((u.setG l rd v).advance l 1) := by
  obtain ⟨g, hg⟩ := u.lamp_setG_same l rd v
  obtain ⟨pc, loops, hadv⟩ := ((u.setG l rd v).lamp l).advance_eq 1
  have hlamp : ((((u.setG l rd v).advance l 1).lamp l).chain = (u.lamp l).chain) ∧
      (((u.setG l rd v).advance l 1).lamp l).win = (u.lamp l).win := by
    rcases (u.setG l rd v).advance_eq_modLamp l 1 with h | h
    · rw [h, hg]
      exact ⟨rfl, rfl⟩
    · rw [h, State.lamp_modLamp_same, hadv, hg]
      exact ⟨rfl, rfl⟩
  exact ⟨State.g_setG_advance u l 1 hrd v, by rw [State.advance_parts, State.setG_parts], by rw [State.advance_sw, State.setG_sw],
    by rw [State.advance_mem, State.setG_mem], hlamp.1, hlamp.2⟩

theorem msgResult_zero (n : Nat) : msgResult 0 n = w32 n := by rw [msgResult, Nat.zero_mul, Nat.zero_add]

/-- The last entry of a ring taken: the others stay, and one fewer stood at the landing. -/
theorem State.swRing_ringPop {s : State} {r : Nat} {e : RingEnt} {es : List RingEnt} (h : (s.swRing r).ents = e :: es) :
    (s.ringPop r).swRing r = ⟨es, (s.swRing r).snap - 1, none⟩ := by
  have hun (u : State) (n : Nat) : (u.unref n).sw.rings = u.sw.rings := by
    simp only [State.unref, State.modHold]
    split <;> rfl
  simp only [State.ringPop, h]
  rw [State.swRing, hun]
  exact tgetD_tput_same ..

/-- Taking a ring's entry changes nothing but the switch's state. -/
theorem SwOnly.ringPop (s : State) (r : Nat) : SwOnly s (s.ringPop r) := by
  simp only [State.ringPop]
  split
  · exact SwOnly.trans ⟨_, rfl⟩ (.modHold (s.setSwRing r _) _ _)
  · exact ⟨s.sw, rfl⟩

/-- What an access sees depends on the lamp's windows and on memory. -/
theorem State.winBytes_congr {s t : State} {l : Nat} (hw : (t.lamp l).win = (s.lamp l).win) (hm : t.mem = s.mem) (w : Fin 8) (o n : Nat) :
    t.winBytes l w o n = s.winBytes l w o n := by
  simp only [State.winBytes, State.bytes, hw, hm]

/-- The length in a record's head. -/
theorem leAt_head (f : Nat → Byte) : leAt ((List.range 16).map f) 6 2 = (f 6).toNat + 256 * (f 7).toNat := by
  change leNat [f 6, f 7] = _
  simp only [leNat]
  omega

theorem sizeClass_eq (sz : Fin 3) : sizeClass sz.val = if sz = 0 then 256 else if sz = 1 then 1024 else 4096 := by
  revert sz
  decide

theorem sizeClass_le (n : Nat) : sizeClass n ≤ 4096 := by
  unfold sizeClass
  split <;> decide

/-- Settles O39: the three instructions by what their handle, ring or buffer gives. -/
theorem messaging : Obligations.Messaging := by
  unfold Obligations.Messaging
  intro s l q rd ra rb sz h x w hinv hs ht hsafe hp hq a off size len view ha hpoison hrd
  have hsize : sizeClass sz.val = size := sizeClass_eq sz
  have hview (n : Nat) : s.winBytes l w off n = (List.range n).map (fun i => view (off + i)) := winBytes_eq_range hinv l w off n
  refine ⟨fun hfit hlen hchain => ⟨fun hown hroom => ?_, fun hown huart => ?_⟩, fun hfit hlen r hr hrest => ⟨fun hents => ?_,
    fun e es hents hsnap hroom => ?_⟩, ?_⟩
  · intro bytes
    have hsend (more : Bool) (word : Word) := State.fsend_of_room (t := x) (rd := rd) (word := word) (more := more) hinv ha hp
      (hsize ▸ hfit) hpoison (hsize ▸ hlen) (sizeClass_le _) hchain hown hroom
    have hbytes : s.winBytes l w ((s.g l ra).toNat % 4096) (s.g l rb).toNat = bytes := hview len
    simp only [hbytes, msgResult_zero] at hsend
    have hclosed := s.stageFrame_closed l x.part h bytes
    have hopen := s.stageFrame_open l x.part h bytes
    have h0 := Answered.of_setG (s.stageFrame l x.part h bytes false) l hrd (w32 len)
    have h1 := Answered.of_setG (s.stageFrame l x.part h bytes true) l hrd (w32 len)
    exact ⟨⟨_, (exec_of_msgIns hs ht hsafe hp hq (by omega) rfl).trans (congrArg (fun u : State => Host.Outcome.next (u.advance l 1)) (hsend false _)),
        h0.answer, by rw [State.part_congr h0.parts, hclosed.1], h0.chain.trans hclosed.2⟩,
      ⟨_, (exec_of_msgIns hs ht hsafe hp hq (by omega) rfl).trans (congrArg (fun u : State => Host.Outcome.next (u.advance l 1)) (hsend true _)),
        h1.answer, by rw [State.part_congr h1.parts, hopen.1], h1.chain.trans hopen.2⟩⟩
  · refine ⟨_, exec_of_msgIns hs ht hsafe hp hq (by omega) rfl, ?_⟩
    rw [State.fsend_of_foreign ha hp (hsize ▸ hfit) hpoison (hsize ▸ hlen) hown huart]
    have h := Answered.of_setG (s.raise l cMSG (wordA 0x2C rd ra rb (b2n false * 64 + sz * 16 + h) q) 3 0 (s.lamp l).pc) l hrd (msgResult 3 0)
    exact ⟨h.answer, (congrArg PartSt.frames (State.part_congr h.parts _)).trans (State.raise_frames ..)⟩
  · refine (exec_of_msgIns hs ht hsafe hp hq (by omega) rfl).trans ?_
    rw [State.frecv_of_empty ha hp (hsize ▸ hfit) hpoison (hsize ▸ hlen) hr hrest hents]
    rfl
  · refine ⟨_, exec_of_msgIns hs ht hsafe hp hq (by omega) rfl, ?_⟩
    rw [State.frecv_of_fits ha hp (hsize ▸ hfit) hpoison (hsize ▸ hlen) hr hrest hents hsnap hroom]
    generalize hv : s.winWrite l w ((s.g l ra).toNat % 4096) e.recvBytes = v
    have hvr : v.swRing r = s.swRing r := by rw [← hv]; rfl
    have h := Answered.of_setG (v.ringPop r) l hrd (msgResult (if e.status.testBit 0 then 7 else 0) (16 + e.bytes.length))
    have hpop := State.swRing_ringPop (hvr ▸ hents : (v.swRing r).ents = e :: es)
    obtain ⟨sw, hsw⟩ := SwOnly.ringPop v r
    have hring : State.swRing _ r = _ := (congrArg (fun z : SwSt => tgetD z.rings r SwRing.reset) h.sw).trans hpop
    have hwb := State.winBytes_winWrite (s := s) (l := l) (w := w) (o := off) (bs := e.recvBytes) hinv.2
      (by rw [e.recvBytes_length]; omega)
    refine ⟨by rw [hring], by rw [hring, hvr], h.answer, ?_⟩
    have hwin : (v.ringPop r).lamps = v.lamps ∧ (v.ringPop r).mem = v.mem := by
      rw [hsw]
      exact ⟨rfl, rfl⟩
    have hview := State.winBytes_congr (h.win.trans (by rw [State.lamp_congr hwin.1])) (h.mem.trans hwin.2) w off e.recvBytes.length
    rw [e.recvBytes_length] at hview hwb
    rw [e.recvBytes_def]
    exact hview.trans (hv ▸ hwb)
  · intro c b n hfit hbuf hn hok
    have hhead : 16 + leAt (s.winBytes l w off 16) 6 2 = n := by
      rw [hview, leAt_head, ← Nat.add_assoc]
    refine ⟨_, exec_of_msgIns hs ht hsafe hp hq (by omega) rfl, ?_⟩
    rw [if_neg Bool.false_ne_true, State.csend_of_good (size := 80) ha hp hfit hpoison hbuf (by rw [hhead]; exact hn) (by rw [hview]; exact hok)]
    have h := Answered.of_setG (s.stageRecord x.part c b (s.winBytes l w off (16 + leAt (s.winBytes l w off 16) 6 2))) l hrd (msgResult 0 0)
    refine ⟨h.answer, (congrArg PartSt.csends (State.part_congr h.parts _)).trans ?_⟩
    rw [State.stageRecord, State.part_modPart_same, hhead, hview]

end Sys2Proof.Machine

/-!
SUPPORT. The frame switch (chapter 12): port counters, queues, links, reception and transmission.
-/
namespace Sys2Proof.Machine

/-! ### Counters, rings and queues -/

/-- A property that a step taken under a condition leaves as it was. -/
theorem ite_stands {β γ : Type} (g : β → γ) {c : Prop} [Decidable c] {u v : β} (h : g u = g v) : g (if c then u else v) = g v := by
  by_cases hc : c
  · rw [if_pos hc, h]
  · rw [if_neg hc]

theorem State.fld_of_reg {s t : State} {a : Nat} (h : t.reg a = s.reg a) (f : Fld) : t.fld a f = s.fld a f := congrArg f.get h

theorem State.flag_of_reg {s t : State} {a : Nat} (h : t.reg a = s.reg a) (f : Fld) : t.flag a f = s.flag a f := by
  rw [State.flag, State.flag, State.fld_of_reg h]

/-- A port counter saturates (R315). -/
theorem State.reg_swCount_same (s : State) (p i d : Nat) :
    ((s.swCount p i d).reg (R.SW_CNT p i)).toNat = min ((s.reg (R.SW_CNT p i)).toNat + d) 0xFFFFFFFF := by
  rw [State.swCount, State.reg_setReg_same, w32, BitVec.toNat_ofNat, satAdd]
  split <;> omega

theorem State.reg_swCount_ne (s : State) (p i d : Nat) {a : Nat} (h : a ≠ R.SW_CNT p i) : (s.swCount p i d).reg a = s.reg a :=
  State.reg_setReg_ne _ _ _ _ h

/-- Two counters of a port. -/
theorem swCnt_ne {p i k : Nat} (h : i ≠ k) : R.SW_CNT p i ≠ R.SW_CNT p k := by simp only [R.SW_CNT]; omega

@[simp] theorem State.fire_srf (s : State) (type idx : Nat) : (s.fire type idx).srf = s.srf := by
  rw [State.fire]
  exact foldl_stands State.srf (fun u e _ => State.modPart_srf _ _ _) s

/-- The use count of a stored frame is no register and no port. -/
theorem State.modHold_stands (s : State) (n : Nat) (f : CellHold → CellHold) :
    (s.modHold n f).srf = s.srf ∧ (s.modHold n f).sw.ports = s.sw.ports := by
  rw [State.modHold]
  split <;> exact ⟨rfl, rfl⟩

theorem State.reg_modHold (s : State) (n : Nat) (f : CellHold → CellHold) (a : Nat) : (s.modHold n f).reg a = s.reg a :=
  State.reg_congr (s.modHold_stands n f).1 a

/-- A ring that takes or refuses an entry changes no port, and no register but the counter of what it refused. -/
theorem State.ringPush_stands (s : State) (r : Nat) (e : RingEnt) : (s.ringPush r e).sw.ports = s.sw.ports ∧
    ∀ a, a ≠ R.SW_CNT e.port cRX_QUOTA_DROP → (s.ringPush r e).reg a = s.reg a := by
  simp only [State.ringPush]
  split
  · refine ⟨(State.modHold_stands _ _ _).2.trans ?_, fun a ha => (State.reg_modHold _ _ _ _).trans ?_⟩
    · exact ite_stands (fun u : State => u.sw.ports) rfl
    · exact ite_stands (fun u : State => u.reg a) (State.reg_swCount_ne _ _ _ _ ha)
  · exact ⟨rfl, fun a _ => rfl⟩

/-- A queue replaced reads as it was put, on every kind of queue. -/
theorem SwPort.queue_setQueue (x : SwPort) (port q : Nat) (l : List TxFrame) : (x.setQueue port q l).queue port q = l := by
  simp only [SwPort.setQueue, SwPort.queue]
  by_cases h8 : q = 8
  · simp only [if_pos h8]
  by_cases h9 : q = 9
  · simp only [if_neg h8, if_pos h9]
  by_cases h7 : q = 7 ∧ port < 4
  · simp only [if_neg h8, if_neg h9, if_pos h7]
  simp only [if_neg h8, if_neg h9, if_neg h7]
  by_cases hl : l = []
  · rw [if_pos hl, hl, tgetD, tget_tdel, if_pos rfl]
    rfl
  · rw [if_neg hl]
    exact tgetD_tput_same ..

theorem State.swPort_setSwPort (s : State) (p : Nat) (x : SwPort) : (s.setSwPort p x).swPort p = x := tgetD_tput_same ..

theorem State.swPort_setSwPort_ne (s : State) {p k : Nat} (x : SwPort) (h : k ≠ p) : (s.setSwPort p x).swPort k = s.swPort k :=
  tgetD_tput_ne _ _ _ _ _ h

theorem State.swPort_congr {s t : State} (h : t.sw.ports = s.sw.ports) (p : Nat) : t.swPort p = s.swPort p := by
  rw [State.swPort, State.swPort, h]

/-- A frame that enters a queue stands at its end; no other port sees it. -/
theorem State.putTx_spec (s : State) (port q : Nat) (f : TxFrame) :
    (s.putTx port q f).swPort port = (s.swPort port).setQueue port q ((s.swPort port).queue port q ++ [f]) ∧
    (∀ k, k ≠ port → (s.putTx port q f).swPort k = s.swPort k) ∧ (s.putTx port q f).srf = s.srf := by
  have hports := (State.modHold_stands (s.setSwPort port ((s.swPort port).setQueue port q ((s.swPort port).queue port q ++ [f])))
    f.hold (fun h => { h with refs := h.refs + 1 }))
  exact ⟨(State.swPort_congr hports.2 port).trans (State.swPort_setSwPort ..),
    fun k hk => (State.swPort_congr hports.2 k).trans (State.swPort_setSwPort_ne _ _ hk), hports.1⟩

/-! ### Transmission (R305, R306, R310) -/

/-- A sending port's LED is not the switch's. -/
theorem State.portActive_eq (s : State) (p : Nat) : ∃ x : BootSt, s.portActive p = { s with boot := x } := by
  rw [State.portActive]
  split
  · exact ⟨_, rfl⟩
  · exact ⟨s.boot, rfl⟩

theorem State.swPort_portActive (s : State) (p k : Nat) : (s.portActive p).swPort k = s.swPort k := by
  obtain ⟨x, hx⟩ := s.portActive_eq p
  rw [hx]
  rfl

/-- The head of the queue the scheduler picks is sent. -/
theorem State.txStart_of_head {s : State} {port c t0 q : Nat} {f : TxFrame} {rest : List TxFrame} (hsend : (s.swPort port).sending = none)
    (hstop : s.txStopped = false) (hlink : s.flag (R.SW_PSTAT port) F.SW_PSTAT_LINK = true)
    (hshut : s.flag (R.SW_PCFG port) F.SW_PCFG_SHUT_OUT = false) (hen : s.flag (R.SW_PCFG port) F.SW_PCFG_ENABLE = true)
    (hrate : s.portRate port ≠ 0) (hpick : (s.swCredit port c).pickTx port c = some q) (hq : (s.swPort port).queue port q = f :: rest)
    (hptp : f.ptp = none) : ((s.txStart port c t0).swPort port).sending = some (f, q) ∧ ((s.txStart port c t0).swPort port).stamp = t0 ∧
      ((s.txStart port c t0).swPort port).queue port q = rest := by
  obtain ⟨fh, fb, fts, fseg, fptp⟩ := f
  cases hptp
  have hpurge : s.purgeTx port = s := by rw [State.purgeTx, hlink, hshut]; rfl
  have hq' : ((s.swCredit port c).swPort port).queue port q = ⟨fh, fb, fts, fseg, none⟩ :: rest := by
    rw [State.swCredit, State.swPort_setSwPort]
    exact hq
  have hrate' : (s.swCredit port c).portRate port ≠ 0 := hrate
  have hen' : (s.swCredit port c).flag (R.SW_PCFG port) F.SW_PCFG_ENABLE = true := hen
  simp only [State.txStart, hsend, hstop, hpurge, hrate', hen', hpick, hq', Option.isSome_none, Bool.or_self, Bool.not_true,
    decide_false, Bool.false_eq_true, if_false, State.swPort_portActive, State.swPort_setSwPort, true_and]
  exact SwPort.queue_setQueue ..

/-- From `s` to `t` no port changes and the port's count of frames sent stands. -/
def TxStands (port : Nat) (s t : State) : Prop :=
  t.sw.ports = s.sw.ports ∧ t.reg (R.SW_CNT port cTX_FRAMES) = s.reg (R.SW_CNT port cTX_FRAMES)

namespace TxStands

theorem refl (port : Nat) (s : State) : TxStands port s s := ⟨rfl, rfl⟩

theorem trans {port : Nat} {s t u : State} (h : TxStands port s t) (k : TxStands port t u) : TxStands port s u :=
  ⟨k.1.trans h.1, k.2.trans h.2⟩

theorem swCount (port : Nat) (s : State) (i d : Nat) (h : cTX_FRAMES ≠ i) : TxStands port s (s.swCount port i d) :=
  ⟨rfl, State.reg_swCount_ne _ _ _ _ (swCnt_ne h)⟩

theorem ite {port : Nat} {c : Prop} [Decidable c] {s t : State} (h : TxStands port s t) : TxStands port s (if c then t else s) := by
  split
  · exact h
  · exact .refl port s

theorem unref (port : Nat) (s : State) (n : Nat) : TxStands port s (s.unref n) :=
  ⟨(State.modHold_stands _ _ _).2, State.reg_modHold _ _ _ _⟩

/-- The record of a transmit stamp (R309). -/
theorem tsRecord (port : Nat) (s : State) (f : TxFrame) (t : TsReq) (stamp : Nat) (lost : Bool) :
    TxStands port s (s.tsRecord port f t stamp lost) := by
  have hpush (u : State) (r : Nat) (e : RingEnt) (he : e.port = port) : TxStands port u (u.ringPush r e) :=
    ⟨(State.ringPush_stands _ _ _).1, (State.ringPush_stands _ _ _).2 _ (by rw [he]; exact swCnt_ne (by decide))⟩
  simp only [State.tsRecord]
  split
  · exact hpush _ _ _ rfl
  · exact (TxStands.swCount port _ _ _ (by cases lost <;> decide)).trans (hpush _ _ _ rfl)

/-- The class of the frame is counted in other counters. -/
theorem txClass (port : Nat) (s : State) (f : TxFrame) (q : Nat) :
    TxStands port s (let s := (s.swCount port cTX_OCTETS f.bytes.length).swCount port (if isGroup f.bytes then cTX_MCAST else cTX_UCAST)
      let s := if q = 7 ∧ port < 4 then s.swCount port cTX_TRIP else s
      let s := if q = 8 then s.swCount port cTX_MGMT else s
      if f.seg then s.swCount port cTX_SEG else s) :=
  have hclass : cTX_FRAMES ≠ if isGroup f.bytes then cTX_MCAST else cTX_UCAST := by cases isGroup f.bytes <;> decide
  ((((TxStands.swCount port s _ _ (by decide)).trans (.swCount port _ _ _ hclass)).trans (.ite (.swCount port _ _ _ (by decide)))).trans
    (.ite (.swCount port _ _ _ (by decide)))).trans (.ite (.swCount port _ _ _ (by decide)))

end TxStands

/-- After its last bit the port is free and the frame has been counted. -/
theorem State.txDone_of_sending {s : State} {port q : Nat} {f : TxFrame} (h : (s.swPort port).sending = some (f, q)) :
    ((s.txDone port).swPort port).sending = none ∧ ((s.txDone port).reg (R.SW_CNT port cTX_FRAMES)).toNat =
      min ((s.reg (R.SW_CNT port cTX_FRAMES)).toNat + 1) 0xFFFFFFFF := by
  have hrest : TxStands port ((s.setSwPort port { s.swPort port with sending := none }).swCount port cTX_FRAMES) (s.txDone port) := by
    simp only [State.txDone, h]
    have hcounts := (TxStands.txClass port ((s.setSwPort port { s.swPort port with sending := none }).swCount port cTX_FRAMES) f q).trans
      (.unref port _ f.hold)
    have hstamp (u : State) : TxStands port u (match f.ts with | some r => u.tsRecord port f r (s.swPort port).stamp false | none => u) := by
      cases f.ts with
      | none => exact .refl port u
      | some r => exact .tsRecord port u f r _ _
    refine TxStands.trans ?_ (hstamp _)
    split
    · exact hcounts
    · exact hcounts
    · exact hcounts.trans ((TxStands.swCount port _ cTS_TAKEN 1 (by decide)).trans ⟨rfl, rfl⟩)
  refine ⟨?_, ?_⟩
  · rw [State.swPort_congr hrest.1]
    exact congrArg SwPort.sending (State.swPort_setSwPort s port _)
  · rw [hrest.2]
    exact State.reg_swCount_same ..

/-- A PRP pair sends its supervision frame as the module's own on both ports. -/
theorem State.forward_prp {s : State} {lo : Nat} (hlo : lo / 2 * 2 = lo) (hm : s.pairMode lo = 1) (b : List Byte) :
    ((s.forward lo 9 0 b).swPort lo).own.length = (s.swPort lo).own.length + 1 ∧
    ((s.forward lo 9 0 b).swPort (lo + 1)).own.length = (s.swPort (lo + 1)).own.length + 1 ∧ (s.forward lo 9 0 b).srf = s.srf := by
  have hne : lo + 1 ≠ lo := Nat.succ_ne_self lo
  have hown (u : State) (k : Nat) (f : TxFrame) : ((u.putTx k 9 f).swPort k).own.length = (u.swPort k).own.length + 1 := by
    rw [(u.putTx_spec k 9 f).1]
    exact List.length_append
  have hports : (s.pairSeq lo).2.swPort = s.swPort := rfl
  simp only [State.forward, hlo, hm, if_neg (by decide : ¬ (1 = 0)), if_true, List.foldl_cons, List.foldl_nil]
  refine ⟨?_, ?_, ((State.putTx_spec _ _ _ _).2.2.trans (State.putTx_spec _ _ _ _).2.2).trans rfl⟩
  · rw [(State.putTx_spec _ (lo + 1) 9 _).2.1 lo hne.symm, hown, hports]
  · rw [hown, (State.putTx_spec _ lo 9 _).2.1 (lo + 1) hne, hports]

theorem State.supervise_off {s : State} (h0 : s.fld R.SW_PRP F.SW_PRP_MODE_B01 = 0) (h2 : s.fld R.SW_PRP F.SW_PRP_MODE_B23 = 0) :
    s.supervise = s := by
  have hm0 : s.pairMode 0 = 0 := h0
  have hm2 : s.pairMode 2 = 0 := h2
  simp only [State.supervise, List.foldl_cons, List.foldl_nil, hm0, hm2, if_true]

theorem State.supervise_first {s : State} (h0 : s.fld R.SW_PRP F.SW_PRP_MODE_B01 = 1) (h2 : s.fld R.SW_PRP F.SW_PRP_MODE_B23 = 0) :
    ∃ b, s.supervise = s.forward 0 9 0 b := by
  have hm0 : s.pairMode 0 = 1 := h0
  have hm2 (b : List Byte) : (s.forward 0 9 0 b).pairMode 2 = 0 :=
    (congrArg F.SW_PRP_MODE_B23.get (State.reg_congr (State.forward_prp (lo := 0) rfl hm0 b).2.2 R.SW_PRP)).trans h2
  simp only [State.supervise, List.foldl_cons, List.foldl_nil, hm0, if_neg (by decide : ¬ (1 = 0)), hm2, if_true]
  exact ⟨_, rfl⟩

/-- Settles O41: the scheduler's choice is the head of its queue, the counts after the last bit leave TX_FRAMES alone, and a table's
age-out keeps what its condition does not name. -/
theorem frameTransmission : Obligations.FrameTransmission := by
  unfold Obligations.FrameTransmission
  intro s hs
  refine ⟨fun port c t0 => ⟨fun h => ?_, fun q f rest hsend hstop hlink hshut hen hrate hpick hq hptp => ?_, fun f q h => ?_⟩, fun v mac => ?_,
    fun mac => ⟨?_, ?_⟩, fun h0 h2 => ?_, fun h0 h2 => ?_⟩
  · rw [exec_eq_next_of_onCore (f := fun s => s.txStart port c t0) hs rfl, State.txStart, if_pos (Bool.or_eq_true _ _ ▸ h)]
  · exact ⟨_, exec_eq_next_of_onCore (f := fun s => s.txStart port c t0) hs rfl,
      State.txStart_of_head hsend hstop hlink hshut hen hrate hpick hq hptp⟩
  · exact ⟨_, exec_eq_next_of_onCore (f := fun s => s.txDone port) hs rfl, State.txDone_of_sending h⟩
  · refine ⟨_, exec_eq_next_of_onCore (f := fun s => { s with sw := { s.sw with fdb := s.sw.fdb.filter (fun e =>
      !(e.v == v.val && e.mac == mac.toNat && e.since + 1440000 ≤ s.tick.count)) } }) hs rfl, fun e => List.mem_filter.trans ?_⟩
    simp only [Bool.not_eq_true', Bool.and_eq_false_imp, Bool.and_eq_true, beq_iff_eq, decide_eq_false_iff_not, not_and, and_imp]
  · refine ⟨_, exec_eq_next_of_onCore (f := fun s => { s with sw := { s.sw with nodes := s.sw.nodes.filter (fun e =>
      !(e.1 == mac.toNat && e.2 + 288000 ≤ s.tick.count)) } }) hs rfl, fun e => List.mem_filter.trans ?_⟩
    simp only [Bool.not_eq_true', Bool.and_eq_false_imp, beq_iff_eq, decide_eq_false_iff_not, not_and]
  · refine ⟨_, exec_eq_next_of_onCore (f := fun s => { s with sw := { s.sw with drop := s.sw.drop.filter (fun e =>
      !(e.mac == mac.toNat && e.since + 1920 ≤ s.tick.count)) } }) hs rfl, fun e => List.mem_filter.trans ?_⟩
    simp only [Bool.not_eq_true', Bool.and_eq_false_imp, beq_iff_eq, decide_eq_false_iff_not, not_and]
  · rw [exec_eq_next_of_onCore (f := fun s => s.supervise) hs rfl, State.supervise_off h0 h2]
  · obtain ⟨b, hb⟩ := State.supervise_first h0 h2
    have hm0 : s.pairMode 0 = 1 := h0
    have hsent := State.forward_prp (lo := 0) rfl hm0 b
    exact ⟨_, exec_eq_next_of_onCore (f := fun s => s.supervise) hs rfl, by rw [hb]; exact hsent.1, by rw [hb]; exact hsent.2.1⟩

/-! ### Links, shutters, queues and cells -/

/-- The port's status word of a link that changes. -/
def State.linkShown (s : State) (port speed : Nat) (up : Bool) : State :=
  (s.setFlag (R.SW_PSTAT port) F.SW_PSTAT_LINK up).setFld (R.SW_PSTAT port) F.SW_PSTAT_SPEED (if up then speed else 0)

theorem State.linkShown_fld (s : State) (port : Nat) {speed : Nat} (up : Bool) (h : speed < 4) :
    (s.linkShown port speed up).flag (R.SW_PSTAT port) F.SW_PSTAT_LINK = up ∧
    (s.linkShown port speed up).fld (R.SW_PSTAT port) F.SW_PSTAT_SPEED = if up then speed else 0 := by
  constructor
  · rw [State.flag, State.linkShown, State.fld_setFld_ne _ _ _ _ _ (by decide)]
    exact State.flag_setFlag_same _ _ _ _ (by decide) rfl
  · rw [State.linkShown, State.fld_setFld_same _ _ _ _ (by decide)]
    refine Nat.mod_eq_of_lt ?_
    split
    · exact Nat.lt_trans h (by decide)
    · decide

/-- What a link change leaves in the registers below the SPE ports': its status, and the count of a link lost. -/
theorem State.reg_linkChange {s : State} {port speed : Nat} {up : Bool} (amp : Bool)
    (hup : (speed != 0 && s.flag (R.SW_PCFG port) F.SW_PCFG_ENABLE) = up) (hwas : s.flag (R.SW_PSTAT port) F.SW_PSTAT_LINK = !up)
    {a : Nat} (ha : a < 0x60000) : (s.linkChange port speed amp).reg a =
      (if up then s.linkShown port speed up else (s.linkShown port speed up).swCount port cLINK_DOWN).reg a := by
  have hne : ((!up) == up) = false := by cases up <;> rfl
  have hspe (n : Nat) : a ≠ R.SPE_PSTAT n := by simp only [R.SPE_PSTAT]; omega
  simp only [State.linkChange, hup, hwas, hne, Bool.false_eq_true, if_false]
  rw [← State.linkShown]
  split
  · rfl
  · rw [State.reg_congr (State.fire_srf _ _ _)]
    exact (ite_stands (fun v : State => v.reg a) (State.reg_setFlag_ne _ _ _ _ _ (hspe _))).trans (State.reg_setFlag_ne _ _ _ _ _ (hspe _))

/-- A link that comes up. -/
theorem State.linkChange_up {s : State} {port speed : Nat} (amp : Bool) (hport : port < 40) (hspeed : speed ≠ 0) (hlt : speed < 4)
    (hlink : s.flag (R.SW_PSTAT port) F.SW_PSTAT_LINK = false) (hen : s.flag (R.SW_PCFG port) F.SW_PCFG_ENABLE = true) :
    (s.linkChange port speed amp).flag (R.SW_PSTAT port) F.SW_PSTAT_LINK = true ∧
    (s.linkChange port speed amp).fld (R.SW_PSTAT port) F.SW_PSTAT_SPEED = speed ∧
    (s.linkChange port speed amp).reg (R.SW_CNT port cLINK_DOWN) = s.reg (R.SW_CNT port cLINK_DOWN) := by
  have hup : (speed != 0 && s.flag (R.SW_PCFG port) F.SW_PCFG_ENABLE) = true := by rw [bne_iff_ne.2 hspeed, hen]; rfl
  have hreg {a : Nat} (ha : a < 0x60000) := State.reg_linkChange amp hup hlink ha
  have hstat := hreg (a := R.SW_PSTAT port) (by simp only [R.SW_PSTAT]; omega)
  have hshown := s.linkShown_fld port true hlt
  refine ⟨(State.flag_of_reg hstat _).trans hshown.1, (State.fld_of_reg hstat _).trans hshown.2,
    (hreg (by simp only [R.SW_CNT, cLINK_DOWN]; omega)).trans ?_⟩
  have hne : R.SW_CNT port cLINK_DOWN ≠ R.SW_PSTAT port := by simp only [R.SW_CNT, cLINK_DOWN, R.SW_PSTAT]; omega
  exact (State.reg_setFld_ne _ _ _ _ _ hne).trans (State.reg_setFlag_ne _ _ _ _ _ hne)

/-- A link that goes down. -/
theorem State.linkChange_down {s : State} {port : Nat} (amp : Bool) (hport : port < 40)
    (hlink : s.flag (R.SW_PSTAT port) F.SW_PSTAT_LINK = true) :
    (s.linkChange port 0 amp).flag (R.SW_PSTAT port) F.SW_PSTAT_LINK = false ∧
    ((s.linkChange port 0 amp).reg (R.SW_CNT port cLINK_DOWN)).toNat = min ((s.reg (R.SW_CNT port cLINK_DOWN)).toNat + 1) 0xFFFFFFFF := by
  have hreg {a : Nat} (ha : a < 0x60000) := State.reg_linkChange (s := s) (port := port) (speed := 0) (up := false) amp rfl hlink ha
  have hne : R.SW_CNT port cLINK_DOWN ≠ R.SW_PSTAT port := by simp only [R.SW_CNT, cLINK_DOWN, R.SW_PSTAT]; omega
  have hstat := (hreg (a := R.SW_PSTAT port) (by simp only [R.SW_PSTAT]; omega)).trans (State.reg_swCount_ne _ _ _ _ hne.symm)
  refine ⟨(State.flag_of_reg hstat _).trans (s.linkShown_fld port false (by decide : 0 < 4)).1, ?_⟩
  have hold : (s.linkShown port 0 false).reg (R.SW_CNT port cLINK_DOWN) = s.reg (R.SW_CNT port cLINK_DOWN) :=
    (State.reg_setFld_ne _ _ _ _ _ hne).trans (State.reg_setFlag_ne _ _ _ _ _ hne)
  rw [hreg (by simp only [R.SW_CNT, cLINK_DOWN]; omega), if_neg Bool.false_ne_true, State.reg_swCount_same, hold]

/-- A bit that the mask of a queue's word keeps. -/
theorem qcfg_bit31 (w : Word) : (w &&& 0xFFF0FFFF).getLsbD 31 = w.getLsbD 31 := by
  rw [BitVec.getLsbD_and, show (0xFFF0FFFF : Word).getLsbD 31 = true by decide, Bool.and_true]

/-- A queue of the launcher's is refused (R303). -/
theorem State.qcfgWrite_launcher {s : State} {port : Nat} {w : Word} (hv : w.getLsbD 31 = true) (hp : port < 4) :
    s.qcfgWrite port 7 w = s.event Ev.SW_QCFG_REFUSED 0xFF (R.SW_QCFG port 7) := by
  simp only [State.qcfgWrite, qcfg_bit31, hv, hp, BEq.rfl, decide_true, Bool.and_self, Bool.or_true, Bool.true_or, if_true]

/-- A sum over no terms but its start. -/
theorem foldl_of_not {α : Type} {p : α → Prop} [DecidablePred p] (f : Nat → α → Nat) (xs : List α) (n : Nat) (h : ∀ x ∈ xs, ¬ p x) :
    xs.foldl (fun n x => if p x then f n x else n) n = n := by
  induction xs with
  | nil => rfl
  | cons x xs ih =>
    rw [List.foldl_cons, if_neg (h x List.mem_cons_self)]
    exact ih fun y hy => h y (List.mem_cons_of_mem _ hy)

/-- In a clear table a queue whose rate fits takes its word. -/
theorem State.qcfgWrite_clear {s : State} {port q : Nat} {w : Word} (hport : port < 40) (hq8 : q < 8)
    (hclear : ∀ m, m < 40 → ∀ k, k < 8 → boundPart (s.reg (R.SW_QCFG m k)) = none)
    (hrate : F.SW_QCFG_RATE.get (w &&& 0xFFF0FFFF) ≤ s.rateCap port) (hq : ¬ (q = 7 ∧ port < 4)) (hpair : s.pairMode port < 2) :
    s.qcfgWrite port q w = s.bindWrite (R.SW_QCFG port q) (w &&& 0xFFF0FFFF) := by
  have hsum (n : Nat) : (List.range 8).foldl (fun n k => if k ≠ q && (boundPart (s.reg (R.SW_QCFG port k))).isSome then
      n + F.SW_QCFG_RATE.get (s.reg (R.SW_QCFG port k)) else n) n = n :=
    foldl_of_not _ _ _ fun k hk => by rw [hclear port hport k (List.mem_range.1 hk)]; simp
  have hclash : ((List.range 40).flatMap (fun port => (List.range 8).map (fun q => R.SW_QCFG port q))).any (fun b =>
      b != R.SW_QCFG port q && boundPart (s.reg b) == some (F.SW_QCFG_PART.get (w &&& 0xFFF0FFFF)) &&
        F.SW_QCFG_HANDLE.get (s.reg b) == F.SW_QCFG_HANDLE.get (w &&& 0xFFF0FFFF)) = false := by
    refine List.any_eq_false.2 fun b hb => ?_
    obtain ⟨m, hm, hb⟩ := List.mem_flatMap.1 hb
    obtain ⟨k, hk, rfl⟩ := List.mem_map.1 hb
    rw [hclear m (List.mem_range.1 hm) k (List.mem_range.1 hk)]
    simp
  have hlaunch : (q == 7 && decide (port < 4)) = false := by
    rw [Bool.and_eq_false_imp, beq_iff_eq]
    exact fun h => decide_eq_false fun h4 => hq ⟨h, h4⟩
  simp only [State.qcfgWrite]
  rw [hclash, hsum, hlaunch, decide_eq_false (Nat.not_lt.2 hrate), decide_eq_false (Nat.not_le.2 hpair), hclear port hport q hq8]
  simp [State.rebindOk]

/-- The last word written to a port's shutters. -/
theorem State.shutterApply_one {s : State} {p : Nat} {i o : Bool} (h : s.sw.shut = [(p, (i, o))]) : s.shutterApply.sw.shut = [] ∧
    s.shutterApply.flag (R.SW_PCFG p) F.SW_PCFG_SHUT_IN = i ∧ s.shutterApply.flag (R.SW_PCFG p) F.SW_PCFG_SHUT_OUT = o := by
  simp only [State.shutterApply, h, List.foldl_cons, List.foldl_nil, State.setFlag_sw, true_and]
  constructor
  · rw [State.flag, State.setFlag, State.fld_setFld_ne _ _ _ _ _ (by decide)]
    exact State.flag_setFlag_same _ _ _ _ (by decide) rfl
  · exact State.flag_setFlag_same _ _ _ _ (by decide) rfl

/-- A field's value put into the field reads back. -/
theorem State.fld_setFld_get (s : State) (a : Nat) (f : Fld) (w : Word) (h : f.lo + f.len ≤ 32) : (s.setFld a f (f.get w)).fld a f = f.get w := by
  rw [State.fld_setFld_same _ _ _ _ h]
  exact Nat.mod_eq_of_lt (f.get_lt w)

/-- Settles O42: a link change touches its status and, going down, its count; a queue in a clear table clashes with none; a cell limit
is refused by the sum when it grows and by the partition's state when it shrinks. -/
theorem switchControls : Obligations.SwitchControls := by
  unfold Obligations.SwitchControls
  intro s hs
  refine ⟨fun port speed amp => ⟨fun hlink hen hspeed => ?_, fun hlink => ?_⟩, fun p i o h => ?_, fun h => ?_, fun port q w => ?_, fun n w => ?_⟩
  · exact ⟨_, exec_eq_next_of_onCore (f := fun s => s.linkChange port speed amp) hs rfl,
      State.linkChange_up amp port.isLt (fun h => hspeed (Fin.ext h)) speed.isLt hlink hen⟩
  · exact ⟨_, exec_eq_next_of_onCore (f := fun s => s.linkChange port (0 : Fin 4).val amp) hs rfl, State.linkChange_down amp port.isLt hlink⟩
  · exact ⟨_, exec_eq_next_of_onCore (f := fun s => s.shutterApply) hs rfl, State.shutterApply_one h⟩
  · exact ⟨_, exec_eq_next_of_onCore (f := fun s => s.shutterApply) hs rfl, by rw [State.shutterApply, h]; rfl⟩
  · have hexec := exec_eq_next_of_onCore (i := .swQcfgWrite port q w) (f := fun s => s.qcfgWrite port q w) hs rfl
    refine ⟨fun hclear hrate hq hpair => ⟨_, hexec, ?_⟩, fun hv hq hp => ?_⟩
    · have heq := State.qcfgWrite_clear (q := q) port.isLt q.isLt (fun m hm k hk => hclear ⟨m, hm⟩ ⟨k, hk⟩) hrate
        (fun h => hq ⟨Fin.ext h.1, h.2⟩) hpair
      simp only [heq]
      exact ⟨(s.bindWrite_spec _ _).1, (s.bindWrite_spec _ _).2.1⟩
    · subst hq
      exact hexec.trans (congrArg Host.Outcome.next (State.qcfgWrite_launcher hv hp))
  · have hexec := exec_eq_next_of_onCore (i := .swCellsWrite n w) (f := fun s => s.cellsWrite n w) hs rfl
    intro new old sum
    have hset := s.fld_setFld_get (R.SW_CELLS n) F.SW_CELLS_LIMIT w (by decide)
    refine ⟨fun h hsum => ⟨_, hexec, ?_⟩, fun h hsum => hexec.trans (congrArg Host.Outcome.next ?_), fun h hm => ⟨_, hexec, ?_⟩,
      fun h hm => hexec.trans (congrArg Host.Outcome.next ?_)⟩
    · simp only [State.cellsWrite]
      rw [if_neg fun hc => absurd hc.2 (Nat.not_lt.2 hsum), decide_eq_false (Nat.lt_asymm h)]
      exact hset
    · exact if_pos ⟨h, hsum⟩
    · simp only [State.cellsWrite]
      rw [if_neg fun hc => absurd hc.1 (Nat.lt_asymm h), hm, Bool.not_true, Bool.and_false]
      exact hset
    · simp only [State.cellsWrite]
      rw [if_neg fun hc => absurd hc.1 (Nat.lt_asymm h), hm, decide_eq_true h]
      rfl

/-! ### Reception (R294 to R298) -/

theorem leNat_lt (bs : List Byte) : leNat bs < 256 ^ bs.length := by
  induction bs with
  | nil => exact Nat.one_pos
  | cons b bs ih =>
    have hb := b.isLt
    rw [leNat, List.length_cons, Nat.pow_succ]
    omega

/-- The control information a frame is received with: its tag's or the port's own, the port's VLAN where it names none. -/
def State.rxTci (s : State) (p : Nat) (b : List Byte) : Nat :=
  let lpc := R.SW_PCFG (s.logical p)
  let tci := if tagged b then tciOf b else s.fld lpc F.SW_PCFG_DPCP * 8192 + s.fld lpc F.SW_PCFG_PVID
  if tci % 4096 = 0 then tci + s.fld lpc F.SW_PCFG_PVID else tci

theorem State.rxTci_lt (s : State) (p : Nat) (b : List Byte) : s.rxTci p b < 65536 := by
  have htag : tciOf b < 65536 := by
    refine Nat.lt_of_lt_of_eq (leNat_lt _) ?_
    rw [List.length_reverse, sub, List.length_append, List.length_replicate, List.length_take]
    have : min 2 (b.drop 14).length + (2 - min 2 (b.drop 14).length) = 2 := by omega
    rw [this]
    rfl
  have hd : s.fld (R.SW_PCFG (s.logical p)) F.SW_PCFG_DPCP < 8 := s.fld_lt _ F.SW_PCFG_DPCP
  have hp : s.fld (R.SW_PCFG (s.logical p)) F.SW_PCFG_PVID < 4096 := s.fld_lt _ F.SW_PCFG_PVID
  simp only [State.rxTci]
  split <;> split <;> omega

section
variable {s : State} {f : RxFrame}

theorem State.frameReceived_closed (h : ¬ (s.flag (R.SW_PCFG f.port.val) F.SW_PCFG_ENABLE = true ∧
    s.flag (R.SW_PSTAT f.port.val) F.SW_PSTAT_LINK = true)) : s.frameReceived f = s := by
  rw [State.frameReceived]
  refine if_pos ?_
  rw [← Bool.not_and, Bool.not_eq_true', ← Bool.not_eq_true, Bool.and_eq_true]
  exact h

variable (hen : s.flag (R.SW_PCFG f.port.val) F.SW_PCFG_ENABLE = true) (hlink : s.flag (R.SW_PSTAT f.port.val) F.SW_PSTAT_LINK = true)
  (hpause : ¬ (dstMac f.bytes = 0x0180C2000001 ∧ beNat (sub f.bytes 12 2) = 0x8808))
include hen hlink hpause

theorem State.frameReceived_unknown (hv : s.vlanOf (s.rxTci f.port.val f.bytes % 4096) = none) :
    s.frameReceived f = s.swCount f.port.val cRX_VLAN_DROP := by
  simp only [State.rxTci] at hv
  simp only [State.frameReceived, hen, hlink, hpause, hv, Bool.not_true, Bool.or_self, Bool.false_eq_true, if_false]

theorem State.frameReceived_stranger {v : Nat} (hv : s.vlanOf (s.rxTci f.port.val f.bytes % 4096) = some v)
    (hm : s.vlanMember v f.port.val = false) : s.frameReceived f = s.swCount f.port.val cRX_VLAN_DROP := by
  simp only [State.rxTci] at hv
  simp only [State.frameReceived, hen, hlink, hpause, hv, hm, Bool.not_true, Bool.not_false, Bool.or_self, Bool.false_eq_true, if_false, if_true]

/-- A frame that no early stage takes is forwarded. -/
theorem State.frameReceived_forward {v : Nat} (hv : s.vlanOf (s.rxTci f.port.val f.bytes % 4096) = some v)
    (hm : s.vlanMember v f.port.val = true) (hmgmt : s.mgmtKind f.bytes (s.rxTci f.port.val f.bytes % 4096) = none)
    (hshut : s.flag (R.SW_PCFG f.port.val) F.SW_PCFG_SHUT_IN = false) (hptp : 4 ≤ f.port.val ∨ etherType f.bytes ≠ 0x88F7)
    (hsv : etherType f.bytes ≠ 0x88BA) (hpair : s.pairMode f.port.val = 0)
    (hres : dstMac f.bytes < 0x0180C2000000 ∨ 0x0180C200000F < dstMac f.bytes) :
    s.frameReceived f = s.rxForward f v (s.rxTci f.port.val f.bytes) := by
  have hptp' : ¬ (f.port.val < 4 ∧ etherType f.bytes = 0x88F7 ∧ s.fld (R.TIME_PORT f.port.val) F.TIME_PORT_MODE ≠ 0) :=
    fun h => hptp.elim (fun h4 => Nat.not_lt.2 h4 h.1) fun ht => ht h.2.1
  have hres' : ¬ (0x0180C2000000 ≤ dstMac f.bytes ∧ dstMac f.bytes ≤ 0x0180C200000F) := by omega
  simp only [State.rxTci] at hv hmgmt ⊢
  simp only [State.frameReceived, hen, hlink, hpause, hv, hm, hmgmt, hshut, hptp', hsv, hpair, hres', Bool.not_true, Bool.or_self,
    Bool.false_eq_true, if_false, ne_eq, not_true_eq_false, false_and]

end

/-- From `s` to `t` the registers but port p's counters stand, and so do the bindings in effect. -/
structure CntOnly (p : Nat) (s t : State) : Prop where
  tick : t.tick = s.tick
  reg : ∀ a, (∀ i, i < 64 → a ≠ R.SW_CNT p i) → t.reg a = s.reg a

namespace CntOnly

theorem trans {p : Nat} {s t u : State} (h : CntOnly p s t) (k : CntOnly p t u) : CntOnly p s u :=
  ⟨k.tick.trans h.tick, fun a ha => (k.reg a ha).trans (h.reg a ha)⟩

theorem swCount (s : State) (p i d : Nat) (h : i < 64) : CntOnly p s (s.swCount p i d) :=
  ⟨State.setReg_tick .., fun _ ha => State.reg_swCount_ne _ _ _ _ (ha i h)⟩

theorem rxGood (s : State) (f : RxFrame) : CntOnly f.port.val s (s.rxGood f) :=
  ((swCount s _ _ _ (by decide)).trans (swCount _ _ _ _ (by decide))).trans (swCount _ _ _ _ (by split <;> decide))

theorem newHold (p : Nat) (s : State) (o : CellOwner) (cells refs : Nat) : CntOnly p s (s.newHold o cells refs).2 := ⟨rfl, fun _ _ => rfl⟩

variable {p : Nat} {s t : State} (h : CntOnly p s t)
include h

theorem inEffect (a : Nat) : t.inEffect a = s.inEffect a := by rw [State.inEffect, State.inEffect, h.tick]

/-- The registers above the ports' own are no counters. -/
theorem regHigh (hp : p < 40) {a : Nat} (ha : 0x3C000 ≤ a) : t.reg a = s.reg a :=
  h.reg a fun i hi => by simp only [R.SW_CNT]; omega

theorem pairMode (hp : p < 40) (q : Nat) : t.pairMode q = s.pairMode q := by
  simp only [State.pairMode, State.fld, h.regHigh hp (show 0x3C000 ≤ R.SW_PRP by decide)]

theorem logical (hp : p < 40) (q : Nat) : t.logical q = s.logical q := by
  simp only [State.logical, h.pairMode hp]

theorem vlanPart (hp : p < 40) (v : Nat) : t.vlanPart v = s.vlanPart v :=
  State.fld_of_reg (h.regHigh hp (by simp only [R.SW_VLAN_CTL]; omega)) _

theorem egressForm (hp : p < 40) (v q : Nat) (b : List Byte) (tci : Nat) : t.egressForm v q b tci = s.egressForm v q b tci := by
  have hunt := h.regHigh hp (a := R.SW_VLAN_UNT v) (by simp only [R.SW_VLAN_UNT]; omega)
  have hhi := h.regHigh hp (a := R.SW_VLAN_HI v) (by simp only [R.SW_VLAN_HI]; omega)
  have hform : t.vlanUntagged v q = s.vlanUntagged v q := by simp only [State.vlanUntagged, h.logical hp, hunt, hhi]
  rw [State.egressForm, State.egressForm, hform]

theorem wakeMatch (hp : p < 40) (n k v : Nat) (b : List Byte) : t.wakeMatch n k v b = s.wakeMatch n k v b := by
  have hctl := h.regHigh hp (a := R.SW_WAKE_CTL n) (by simp only [R.SW_WAKE_CTL]; omega)
  have ha := h.regHigh hp (a := R.SW_WAKE_MASK_A n) (by simp only [R.SW_WAKE_MASK_A]; omega)
  have hb := h.regHigh hp (a := R.SW_WAKE_MASK_B n) (by simp only [R.SW_WAKE_MASK_B]; omega)
  have hc := h.regHigh hp (a := R.SW_WAKE_MASK_C n) (by simp only [R.SW_WAKE_MASK_C]; omega)
  have hd := h.regHigh hp (a := R.SW_WAKE_MASK_D n) (by simp only [R.SW_WAKE_MASK_D]; omega)
  simp only [State.wakeMatch, State.wakeMask, hctl, ha, hb, hc, hd, h.inEffect, h.vlanPart hp]

theorem queueOwner (hp : p < 40) (q k : Nat) (hk : k < 8) : t.queueOwner q k = s.queueOwner q k := by
  have hreg : t.reg (R.SW_QCFG (s.logical q) k) = s.reg (R.SW_QCFG (s.logical q) k) :=
    h.reg _ fun i hi => by simp only [R.SW_QCFG, R.SW_CNT]; omega
  simp only [State.queueOwner, h.logical hp, h.inEffect, State.fld_of_reg hreg]
  rw [State.flag_of_reg hreg]

theorem forwardQueue (hp : p < 40) (q owner : Nat) {pcp : Nat} (hpcp : pcp < 8) :
    t.forwardQueue q pcp owner = s.forwardQueue q pcp owner := by
  have hq : (if q < 4 ∧ pcp = 7 then 6 else pcp) < 8 := by split <;> omega
  have hfind (xs : List Nat) (hxs : ∀ x ∈ xs, x < 8) : xs.find? (fun k => t.queueOwner q k == some owner) =
      xs.find? (fun k => s.queueOwner q k == some owner) := by
    induction xs with
    | nil => rfl
    | cons x xs ih =>
      rw [List.find?_cons, List.find?_cons, h.queueOwner hp q x (hxs x List.mem_cons_self), ih fun y hy => hxs y (List.mem_cons_of_mem _ hy)]
  simp only [State.forwardQueue, h.queueOwner hp q _ hq, hfind _ fun x hx => List.mem_range.1 hx]

end CntOnly

theorem State.rxGood_sw (s : State) (f : RxFrame) : (s.rxGood f).sw = s.sw := by
  simp only [State.rxGood, State.swCount, State.setReg_sw]

theorem State.newHold_ports (s : State) (o : CellOwner) (cells refs : Nat) : (s.newHold o cells refs).2.sw.ports = s.sw.ports := rfl

/-- One port as the only destination: the frame enters the queue its priority selects, in the port's form. -/
theorem State.rxDeliver_one {u : State} {v tci hold q k : Nat} (f : RxFrame) (b : List Byte) (status wake : Nat)
    (hk : u.forwardQueue q (tci / 8192) (u.vlanPart v) = some k) (hm : u.pairMode q = 0) :
    u.rxDeliver v tci hold f b [q] false status wake =
      (u.putTx q k ⟨hold, padFrame (u.egressForm v q b tci), none, false, none⟩).unref hold := by
  simp only [State.rxDeliver, List.foldl_cons, List.foldl_nil, hk, State.forward, hm, if_true, Bool.false_eq_true, if_false]

/-- A good frame with cells for it whose only destination is a port is counted, stored and queued. -/
theorem State.rxForward_one {s : State} {f : RxFrame} {v tci q k : Nat} (hdst : s.destinations v f.port.val f.bytes = ([q], false))
    (hrole : s.fld R.HAW_STAT F.HAW_STAT_ROLE ≠ 2) (hbad : rxBad f = none) (hlen : 60 ≤ f.bytes.length)
    (hcells : cellsFor f.bytes.length ≤ s.cellsFree (.part (s.vlanPart v))) (hlearn : s.flag (R.SW_VLAN_CTL v) F.SW_VLAN_CTL_LEARN = false)
    (hpair : s.pairMode f.port.val = 0) (hwake : ∀ i, i < 32 → s.wakeMatch (32 * (f.port.val / 8) + i) f.port.val v f.bytes = false)
    (htci : tci < 65536) (hk : s.forwardQueue q (tci / 8192) (s.vlanPart v) = some k) (hq : s.pairMode q = 0) :
    ((s.rxForward f v tci).swPort q).queue q k = (s.swPort q).queue q k ++
      [⟨s.sw.next, padFrame (s.egressForm v q f.bytes tci), none, false, none⟩] ∧
    (s.rxForward f v tci).reg (R.SW_CNT f.port.val cRX_FRAMES) = (s.rxGood f).reg (R.SW_CNT f.port.val cRX_FRAMES) := by
  have hcnt := CntOnly.rxGood s f
  have hport := f.port.isLt
  have hfree : s.cellsFree (.part (s.vlanPart v)) ≠ 0 := by
    have : 1 ≤ cellsFor f.bytes.length := by rw [cellsFor]; omega
    omega
  have hroleB : (s.fld R.HAW_STAT F.HAW_STAT_ROLE == 2) = false := beq_false_of_ne hrole
  have hprp : (s.rxGood f).prpReceive f.port.val f.bytes = (some f.bytes, s.rxGood f) := by
    rw [State.prpReceive, hcnt.pairMode hport, hpair, if_pos rfl]
  have hlrn : (s.rxGood f).learn v f.port.val f.bytes = s.rxGood f := by
    have hl : (s.rxGood f).flag (R.SW_VLAN_CTL v) F.SW_VLAN_CTL_LEARN = false :=
      (State.flag_of_reg (hcnt.regHigh hport (by simp only [R.SW_VLAN_CTL]; omega)) _).trans hlearn
    rw [State.learn, hl]
    rfl
  have hhits : (List.range 32).filter (fun i => (s.rxGood f).wakeMatch (32 * (f.port.val / 8) + i) f.port.val v f.bytes) = [] :=
    List.filter_eq_nil_iff.2 fun i hi => by rw [hcnt.wakeMatch hport, hwake i (List.mem_range.1 hi)]; decide
  set u := ((s.rxGood f).newHold (.part (s.vlanPart v)) (cellsFor f.bytes.length) 1).2 with hu
  have hstored : CntOnly f.port.val s u := hcnt.trans (.newHold ..)
  have hnumber : ((s.rxGood f).newHold (.part (s.vlanPart v)) (cellsFor f.bytes.length) 1).1 = s.sw.next := by
    rw [State.newHold, State.rxGood_sw]
  have hdeliver : s.rxForward f v tci = (u.putTx q k ⟨s.sw.next, padFrame (s.egressForm v q f.bytes tci), none, false, none⟩).unref s.sw.next := by
    have hk' : u.forwardQueue q (tci / 8192) (u.vlanPart v) = some k := by
      rw [hstored.vlanPart hport, hstored.forwardQueue hport q _ (by omega), hk]
    have hq' : u.pairMode q = 0 := (hstored.pairMode hport q).trans hq
    have heg : u.egressForm v q f.bytes tci = s.egressForm v q f.bytes tci := hstored.egressForm hport v q f.bytes tci
    have h1 := State.rxDeliver_one (u := u) (hold := s.sw.next) f f.bytes 0 0 hk' hq'
    rw [heg] at h1
    simp only [State.rxForward, hdst, hroleB, hbad, hprp, hlrn, hhits, hfree, hpair, Bool.and_false, Bool.false_eq_true, if_false,
      List.isEmpty_cons, List.isEmpty_nil, if_true, List.foldl_nil, Bool.false_and, Bool.not_false, decide_false,
      decide_eq_false (Nat.not_lt.2 hcells), List.headD_nil, Nat.add_zero, hnumber]
    exact h1
  obtain ⟨hput, -, hsrf⟩ := u.putTx_spec q k ⟨s.sw.next, padFrame (s.egressForm v q f.bytes tci), none, false, none⟩
  rw [hdeliver]
  constructor
  · have hports : u.sw.ports = s.sw.ports := by
      rw [hu, State.newHold_ports, State.rxGood_sw]
    rw [State.unref, State.swPort_congr (State.modHold_stands _ _ _).2, hput, SwPort.queue_setQueue, State.swPort_congr hports]
  · rw [State.unref, State.reg_modHold, State.reg_congr hsrf, hu]
    rfl

/-- A good frame is counted once in RX_FRAMES. -/
theorem State.reg_rxGood (s : State) (f : RxFrame) : ((s.rxGood f).reg (R.SW_CNT f.port.val cRX_FRAMES)).toNat =
    min ((s.reg (R.SW_CNT f.port.val cRX_FRAMES)).toNat + 1) 0xFFFFFFFF := by
  have hclass : cRX_FRAMES ≠ if isGroup f.bytes then cRX_MCAST else cRX_UCAST := by cases isGroup f.bytes <;> decide
  rw [State.rxGood, State.reg_swCount_ne _ _ _ _ (swCnt_ne hclass), State.reg_swCount_ne _ _ _ _ (swCnt_ne (by decide))]
  exact State.reg_swCount_same ..

/-- Settles O40: each early stage either drops the frame with its counter or passes it on; a single port's queue takes what passes all. -/
theorem frameReception : Obligations.FrameReception := by
  unfold Obligations.FrameReception
  intro s f hs p b lpc tci0 tci open' pause
  obtain ⟨x, hx⟩ := s.portActive_eq f.port.val
  have hexec : exec (.frameReceived f) s = .next ((s.portActive f.port.val).frameReceived f) :=
    exec_eq_next_of_onCore (f := fun s => (s.portActive f.port.val).frameReceived f) hs rfl
  refine ⟨fun hopen => ?_, fun hopen hpause hv => ?_, fun v hopen hpause hv hm => ?_, ?_⟩
  · exact hexec.trans (congrArg _ (State.frameReceived_closed (by rw [hx]; exact hopen)))
  · refine hexec.trans (congrArg _ (State.frameReceived_unknown ?_ ?_ hpause ?_)) <;> rw [hx]
    exacts [hopen.1, hopen.2, hv]
  · refine hexec.trans (congrArg _ (State.frameReceived_stranger (v := v) ?_ ?_ hpause ?_ ?_)) <;> rw [hx]
    exacts [hopen.1, hopen.2, hv, hm]
  · intro v q k hopen hpause hv hm hmgmt hshut hptp hsv hpair hres hdst hrole hfcs hcode hmin hmax hcells hlearn hwake hk hq
    have hbad : rxBad f = none := by
      have hmin' : 60 ≤ f.bytes.length := hmin
      have hmax' : f.bytes.length ≤ 9212 := hmax
      rw [rxBad, hfcs, hcode, if_neg (by decide), if_neg (by decide), if_neg (by omega), if_neg (by omega)]
    set u := s.portActive f.port.val with hu
    have hfwd : u.frameReceived f = u.rxForward f v (u.rxTci f.port.val f.bytes) := by
      refine State.frameReceived_forward (v := v) ?_ ?_ hpause ?_ ?_ ?_ ?_ hptp hsv ?_ hres <;> rw [hx]
      exacts [hopen.1, hopen.2, hv, hm, hmgmt, hshut, hpair]
    have hone := State.rxForward_one (s := u) (f := f) (v := v) (tci := u.rxTci f.port.val f.bytes) (q := q) (k := k) (by rw [hx]; exact hdst)
      (by rw [hx]; exact hrole) hbad hmin (by rw [hx]; exact hcells) (by rw [hx]; exact hlearn) (by rw [hx]; exact hpair)
      (by rw [hx]; exact hwake) (State.rxTci_lt _ _ _) (by rw [hx]; exact hk) (by rw [hx]; exact hq)
    refine ⟨_, hexec, ?_, ?_⟩
    · rw [hfwd, hone.1, hx]
      rfl
    · rw [hfwd, hone.2, State.reg_rxGood, hx]
      rfl

end Sys2Proof.Machine

/-!
SUPPORT. CAN channels (R328 to R352).
-/
namespace Sys2Proof.Machine

/-! ### Buffers and bus states -/

theorem State.canCh_setCanCh (s : State) (c : Nat) (x : CanCh) : (s.setCanCh c x).canCh c = x := tgetD_tput_same ..

theorem State.canBuf_setCanBuf (s : State) (c b : Nat) (x : CanBuf) : (s.setCanBuf c b x).canBuf c b = x := by
  rw [State.canBuf, State.setCanBuf, State.canCh_setCanCh]
  exact tgetD_tput_same ..

theorem State.mbState_setCanCh (s : State) (c b k : Nat) (x : CanCh) : (s.setCanCh c x).mbState k b = s.mbState k b := rfl

theorem State.mbState_setCanBuf (s : State) (c b k j : Nat) (x : CanBuf) : (s.setCanBuf c b x).mbState k j = s.mbState k j := rfl

theorem State.reg_setCanBuf (s : State) (c b a : Nat) (x : CanBuf) : (s.setCanBuf c b x).reg a = s.reg a := rfl

theorem State.fld_setCanBuf (s : State) (c b a : Nat) (x : CanBuf) (f : Fld) : (s.setCanBuf c b x).fld a f = s.fld a f := rfl

theorem State.canCh_congr {s t : State} (h : t.can = s.can) (c : Nat) : t.canCh c = s.canCh c := by rw [State.canCh, State.canCh, h]

@[simp] theorem State.fire_can (s : State) (type idx : Nat) : (s.fire type idx).can = s.can := by
  rw [State.fire]
  exact foldl_stands State.can (fun u e _ => State.modPart_can _ _ _) s

@[simp] theorem State.fire_tick (s : State) (type idx : Nat) : (s.fire type idx).tick = s.tick := by
  rw [State.fire]
  exact foldl_stands State.tick (fun u e _ => State.modPart_tick _ _ _) s

/-- Buffers that move together touch their states only. -/
theorem State.reg_mbAll (s : State) {c a : Nat} (frm dst : Nat) (ha : ∀ b, b < 64 → a ≠ R.CAN_MB_STAT c b) :
    (s.mbAll c frm dst).reg a = s.reg a := by
  rw [State.mbAll]
  exact foldl_stands (fun u : State => u.reg a) (fun u b hb =>
    ite_stands (fun v : State => v.reg a) (State.reg_setFld_ne _ _ _ _ _ (ha b (List.mem_range.1 hb)))) s

theorem State.mbAll_can (s : State) (c frm dst : Nat) : (s.mbAll c frm dst).can = s.can := by
  rw [State.mbAll]
  exact foldl_stands State.can (fun u b _ => ite_stands State.can (State.setFld_can ..)) s

theorem State.mbAll_tick (s : State) (c frm dst : Nat) : (s.mbAll c frm dst).tick = s.tick := by
  rw [State.mbAll]
  exact foldl_stands State.tick (fun u b _ => ite_stands State.tick (State.setFld_tick ..)) s

theorem canStat_ne_mbStat {c b : Nat} : R.CAN_STAT c ≠ R.CAN_MB_STAT c b := by simp only [R.CAN_STAT, R.CAN_MB_STAT]; omega

theorem canErrc_ne_mbStat {c b : Nat} : R.CAN_ERRC c ≠ R.CAN_MB_STAT c b := by simp only [R.CAN_ERRC, R.CAN_MB_STAT]; omega

theorem canErrc_ne_stat {c : Nat} : R.CAN_ERRC c ≠ R.CAN_STAT c := by simp only [R.CAN_ERRC, R.CAN_STAT]; omega

theorem State.bus_setBus (s : State) (c v : Nat) (h : v < 8) : (s.setBus c v).bus c = v :=
  (State.fld_setFld_same _ _ _ _ (by decide)).trans (Nat.mod_eq_of_lt h)

theorem State.mbState_setMb (s : State) (c b v : Nat) (h : v < 8) : (s.setMb c b v).mbState c b = v :=
  (State.fld_setFld_same _ _ _ _ (by decide)).trans (Nat.mod_eq_of_lt h)

/-- The bus state is not one of the buffers'. -/
theorem State.bus_mbAll (s : State) (c frm dst : Nat) : (s.mbAll c frm dst).bus c = s.bus c :=
  State.fld_of_reg (State.reg_mbAll s frm dst fun _ _ => canStat_ne_mbStat) _

/-! ### Modes, integration and recovery (R330, R331, R347) -/

/-- The word that a mode write leaves keeps MODE as it stands. -/
theorem canCtrl_mode (old w : Word) : F.CAN_CTRL_MODE.get ((w &&& 0x7F00FF78) ||| (old &&& 3)) = F.CAN_CTRL_MODE.get old := by
  simp only [Fld.get]
  refine Nat.eq_of_testBit_eq fun i => ?_
  simp only [Nat.testBit_mod_two_pow, Nat.testBit_shiftRight, BitVec.testBit_toNat]
  by_cases hi : i < 2
  · have h1 : i = 0 ∨ i = 1 := by omega
    rcases h1 with rfl | rfl <;> simp
  · simp [hi]

theorem State.canCtrlWrite_waits {s : State} {c : Nat} {w : Word} (h : F.CAN_CTRL_MODE.get w = 0 ∨ s.canMode c ≠ 0) :
    ((s.canCtrlWrite c w).canCh c).modeW = some (F.CAN_CTRL_MODE.get w) ∧ (s.canCtrlWrite c w).canMode c = s.canMode c ∧
    (s.canCtrlWrite c w).bus c = s.bus c := by
  simp only [State.canCtrlWrite]
  set w' := (if F.CAN_CTRL_ALONE_N.get w = 0 then F.CAN_CTRL_ALONE_N.put w (F.CAN_CTRL_ALONE_N.get (s.reg (R.CAN_CTRL c))) else w)
  set u := s.setReg (R.CAN_CTRL c) ((w' &&& 0x7F00FF78) ||| (s.reg (R.CAN_CTRL c) &&& 3)) with hu
  have hmode : u.canMode c = s.canMode c := by
    rw [State.canMode, State.fld, hu, State.reg_setReg_same]
    exact canCtrl_mode _ _
  have hbus : u.bus c = s.bus c := State.fld_of_reg (State.reg_setReg_ne _ _ _ _ (by simp only [R.CAN_STAT, R.CAN_CTRL]; omega)) _
  have hok : (decide (F.CAN_CTRL_MODE.get w ≠ 0) && decide (u.canMode c = 0) && !u.timingOk c) = false := by
    rw [hmode]
    rcases h with h | h <;> simp [h]
  rw [hok]
  simp only [Bool.false_eq_true, if_false]
  have hset (v : State) (x : CanCh) : (v.setCanCh c x).canMode c = v.canMode c ∧ (v.setCanCh c x).bus c = v.bus c := ⟨rfl, rfl⟩
  split
  · refine ⟨?_, ((hset _ _).1.trans (hset _ _).1).trans hmode, ((hset _ _).2.trans (hset _ _).2).trans hbus⟩
    rw [State.canCh_setCanCh, State.canCh_setCanCh]
  · exact ⟨congrArg CanCh.modeW (State.canCh_setCanCh ..), (hset _ _).1.trans hmode, (hset _ _).2.trans hbus⟩

theorem State.canIntegrated_bus {s : State} {c : Nat} (h : s.bus c = busINTEGRATING) : (s.canIntegrated c).bus c = busACTIVE := by
  simp only [State.canIntegrated, h, ne_eq, not_true_eq_false, if_false]
  split
  · exact State.bus_setBus _ _ _ (by decide)
  · exact (State.bus_mbAll _ _ _ _).trans (State.bus_setBus _ _ _ (by decide))

theorem State.canRecovered_counters {s : State} {c : Nat} (h : s.bus c = busRECOVERING) : (s.canRecovered c).bus c = busACTIVE ∧
    (s.canRecovered c).fld (R.CAN_ERRC c) F.CAN_ERRC_TEC = 0 ∧ (s.canRecovered c).fld (R.CAN_ERRC c) F.CAN_ERRC_REC = 0 := by
  rw [State.canRecovered, if_neg (fun hn => hn h)]
  set v := (s.setFld (R.CAN_ERRC c) F.CAN_ERRC_TEC 0).setFld (R.CAN_ERRC c) F.CAN_ERRC_REC 0 with hv
  have hreg (a : Nat) (ha : ∀ b, b < 64 → a ≠ R.CAN_MB_STAT c b) :
      ((if (v.setBus c busACTIVE).canMode c = 2 then v.setBus c busACTIVE else (v.setBus c busACTIVE).mbAll c mbHELD mbPENDING).fire 2
        (144 + c)).reg a = (v.setBus c busACTIVE).reg a := by
    rw [State.reg_congr (State.fire_srf _ _ _)]
    split
    · rfl
    · exact State.reg_mbAll _ _ _ ha
  have herrc (f : Fld) : ((if (v.setBus c busACTIVE).canMode c = 2 then v.setBus c busACTIVE else
      (v.setBus c busACTIVE).mbAll c mbHELD mbPENDING).fire 2 (144 + c)).fld (R.CAN_ERRC c) f = v.fld (R.CAN_ERRC c) f :=
    (State.fld_of_reg (hreg _ fun _ _ => canErrc_ne_mbStat) f).trans (State.fld_setFld_other _ _ _ _ _ _ canErrc_ne_stat)
  refine ⟨(State.fld_of_reg (hreg _ fun _ _ => canStat_ne_mbStat) _).trans (State.bus_setBus _ _ _ (by decide)),
    (herrc _).trans ?_, (herrc _).trans ?_⟩
  · rw [hv, State.fld_setFld_ne _ _ _ _ _ (by decide), State.fld_setFld_same _ _ _ _ (by decide)]
    rfl
  · rw [hv, State.fld_setFld_same _ _ _ _ (by decide)]
    rfl

/-! ### Error confinement (R331, R345) -/

/-- Entry to BUS_OFF with no frame on the bus: the state, its count, and what stands. -/
theorem State.canBusOff_idle {s : State} {c : Nat} (h : (s.canCh c).active = none) :
    (s.canBusOff c).bus c = (if s.flag (R.CAN_CTRL c) F.CAN_CTRL_AUTO_REC then busRECOVERING else busBUS_OFF) ∧
    (s.canBusOff c).fld (R.CAN_STAT c) F.CAN_STAT_BOFF = min (s.fld (R.CAN_STAT c) F.CAN_STAT_BOFF + 1) 255 ∧
    ((s.canBusOff c).canCh c).active = none ∧ (s.canBusOff c).reg (R.CAN_ERRC c) = s.reg (R.CAN_ERRC c) := by
  simp only [State.canBusOff, h]
  set u := s.setCanCh c { s.canCh c with active := none, noRetry := false } with hu
  set v := (((u.mbAll c mbPENDING mbHELD).setBus c busBUS_OFF).incFld (R.CAN_STAT c) F.CAN_STAT_BOFF 255).fire 2 (144 + c) with hv
  have hbus : v.bus c = busBUS_OFF := by
    rw [State.bus, hv, State.fld_congr (State.fire_srf _ _ _), State.incFld, State.fld_setFld_ne _ _ _ _ _ (by decide)]
    exact State.bus_setBus _ _ _ (by decide)
  have hboff : v.fld (R.CAN_STAT c) F.CAN_STAT_BOFF = min (s.fld (R.CAN_STAT c) F.CAN_STAT_BOFF + 1) 255 := by
    rw [hv, State.fld_congr (State.fire_srf _ _ _), State.fld_incFld_same _ _ _ _ (by decide) (by decide), State.setBus,
      State.fld_setFld_ne _ _ _ _ _ (by decide), State.fld_of_reg (State.reg_mbAll u _ _ fun _ _ => canStat_ne_mbStat)]
    rfl
  have hreg (a : Nat) (ha : ∀ b, b < 64 → a ≠ R.CAN_MB_STAT c b) (hs : a ≠ R.CAN_STAT c) : v.reg a = s.reg a := by
    rw [hv, State.reg_congr (State.fire_srf _ _ _), State.incFld, State.reg_setFld_ne _ _ _ _ _ hs, State.setBus,
      State.reg_setFld_ne _ _ _ _ _ hs, State.reg_mbAll _ _ _ ha]
    rfl
  have hcan : (v.canCh c).active = none := by
    have hsame : v.can = u.can := by simp only [hv, State.fire_can, State.incFld, State.setBus, State.setFld_can, State.mbAll_can]
    rw [State.canCh_congr hsame, hu, State.canCh_setCanCh]
  have hauto : v.flag (R.CAN_CTRL c) F.CAN_CTRL_AUTO_REC = s.flag (R.CAN_CTRL c) F.CAN_CTRL_AUTO_REC :=
    State.flag_of_reg (hreg _ (fun _ _ => by simp only [R.CAN_CTRL, R.CAN_MB_STAT]; omega) (by simp only [R.CAN_CTRL, R.CAN_STAT]; omega)) _
  have herr := hreg (R.CAN_ERRC c) (fun _ _ => canErrc_ne_mbStat) canErrc_ne_stat
  rw [hauto]
  split
  · rw [State.canRecover, if_pos hbus]
    exact ⟨State.bus_setBus _ _ _ (by decide), (State.fld_setFld_ne _ _ _ _ _ (by decide)).trans hboff,
      hcan, (State.reg_setFld_ne _ _ _ _ _ canErrc_ne_stat).trans herr⟩
  · exact ⟨hbus, hboff, hcan, herr⟩

theorem State.canConfine_of_le {s : State} {c : Nat} (hb : s.bus c = busACTIVE) (ht : s.fld (R.CAN_ERRC c) F.CAN_ERRC_TEC ≤ 255) :
    s.canConfine c = s.setBus c (if 127 < s.fld (R.CAN_ERRC c) F.CAN_ERRC_TEC ∨ 127 < s.fld (R.CAN_ERRC c) F.CAN_ERRC_REC then busPASSIVE
      else busACTIVE) := by
  simp only [State.canConfine, hb, ne_eq, not_true_eq_false, false_and, if_false, if_neg (Nat.not_lt.2 ht)]

theorem State.canConfine_of_gt {s : State} {c : Nat} (hb : s.bus c = busACTIVE) (ht : 255 < s.fld (R.CAN_ERRC c) F.CAN_ERRC_TEC) :
    s.canConfine c = s.canBusOff c := by
  simp only [State.canConfine, hb, ne_eq, not_true_eq_false, false_and, if_false, if_pos ht]

/-- With no frame on the bus the bus state changes no counter and begins no frame. -/
theorem State.canConfine_idle {s : State} {c : Nat} (h : (s.canCh c).active = none) : ((s.canConfine c).canCh c).active = none ∧
    (s.canConfine c).reg (R.CAN_ERRC c) = s.reg (R.CAN_ERRC c) := by
  have hoff := s.canBusOff_idle (c := c) h
  simp only [State.canConfine]
  split
  · exact ⟨h, rfl⟩
  split
  · exact ⟨hoff.2.2.1, hoff.2.2.2⟩
  · exact ⟨h, State.reg_setFld_ne _ _ _ _ _ canErrc_ne_stat⟩

/-- A transmit error, as far as the counter. -/
def State.txErrors (s : State) (c : Nat) : State := s.setFld (R.CAN_ERRC c) F.CAN_ERRC_TEC (satAdd (s.fld (R.CAN_ERRC c) F.CAN_ERRC_TEC) 8 511)

theorem State.txErrors_fld (s : State) (c : Nat) : (s.txErrors c).fld (R.CAN_ERRC c) F.CAN_ERRC_TEC =
      min (s.fld (R.CAN_ERRC c) F.CAN_ERRC_TEC + 8) 511 ∧
    (s.txErrors c).fld (R.CAN_ERRC c) F.CAN_ERRC_REC = s.fld (R.CAN_ERRC c) F.CAN_ERRC_REC ∧
    ∀ a f, a ≠ R.CAN_ERRC c → (s.txErrors c).fld a f = s.fld a f := by
  refine ⟨?_, State.fld_setFld_ne _ _ _ _ _ (by decide), fun a f h => State.fld_setFld_other _ _ _ _ _ _ h⟩
  rw [State.txErrors, State.fld_setFld_same _ _ _ _ (by decide), satAdd]
  change _ % 512 = _
  split <;> omega

theorem State.canError_tx {s : State} {c : Nat} (hb : s.bus c = busACTIVE) (hm : s.canMode c ≠ 3) :
    s.canError c true true = (s.txErrors c).canConfine c := by
  simp only [State.canError, hb, hm, ne_eq, not_true_eq_false, false_and, if_false, if_true]
  rfl

/-! ### Transmission (R334, R335) -/

/-- A search that keeps the first of the lowest finds one that waits, and none that waits ranks below it. -/
theorem State.canWinner_foldl (s : State) (c : Nat) (xs : List Nat) (best : Option Nat) (hbest : ∀ k, best = some k → s.mbState c k = mbPENDING)
    {b : Nat} (h : xs.foldl (fun (best : Option Nat) b => if s.mbState c b ≠ mbPENDING then best
      else match best with
        | none => some b
        | some k => if canRank (s.canBuf c b).rcd < canRank (s.canBuf c k).rcd then some b else best) best = some b) :
    s.mbState c b = mbPENDING ∧ (∀ k, best = some k → canRank (s.canBuf c b).rcd ≤ canRank (s.canBuf c k).rcd) ∧
    ∀ k ∈ xs, s.mbState c k = mbPENDING → canRank (s.canBuf c b).rcd ≤ canRank (s.canBuf c k).rcd := by
  induction xs generalizing best with
  | nil => exact ⟨hbest b h, fun k hk => by rw [Option.some.inj ((h.symm.trans hk))], fun k hk => absurd hk List.not_mem_nil⟩
  | cons x xs ih =>
    rw [List.foldl_cons] at h
    by_cases hx : s.mbState c x = mbPENDING
    · rw [if_neg (fun hn => hn hx)] at h
      cases hb : best with
      | none =>
        rw [hb] at h
        obtain ⟨h1, h2, h3⟩ := ih (some x) (fun k hk => Option.some.inj hk ▸ hx) h
        exact ⟨h1, fun k hk => absurd hk (by simp), fun k hk hp => (List.mem_cons.1 hk).elim (fun he => he ▸ h2 x rfl) fun hk => h3 k hk hp⟩
      | some j =>
        rw [hb] at h
        by_cases hlt : canRank (s.canBuf c x).rcd < canRank (s.canBuf c j).rcd
        · simp only [if_pos hlt] at h
          obtain ⟨h1, h2, h3⟩ := ih (some x) (fun k hk => Option.some.inj hk ▸ hx) h
          refine ⟨h1, fun k hk => Option.some.inj hk ▸ Nat.le_of_lt (Nat.lt_of_le_of_lt (h2 x rfl) hlt), fun k hk hp => ?_⟩
          exact (List.mem_cons.1 hk).elim (fun he => he ▸ h2 x rfl) fun hk => h3 k hk hp
        · simp only [if_neg hlt] at h
          obtain ⟨h1, h2, h3⟩ := ih (some j) (fun k hk => hbest k (hb.trans hk)) h
          refine ⟨h1, fun k hk => h2 k hk, fun k hk hp => ?_⟩
          exact (List.mem_cons.1 hk).elim (fun he => he ▸ Nat.le_trans (h2 j rfl) (Nat.not_lt.1 hlt)) fun hk => h3 k hk hp
    · rw [if_pos hx] at h
      obtain ⟨h1, h2, h3⟩ := ih best hbest h
      exact ⟨h1, h2, fun k hk hp => (List.mem_cons.1 hk).elim (fun he => absurd (he ▸ hp) hx) fun hk => h3 k hk hp⟩

theorem State.canStart_of_winner {s : State} {c b : Nat} (sof : Word) (hb : s.bus c = busACTIVE) (hm : s.canMode c = 1)
    (hact : (s.canCh c).active = none) (hw : s.canWinner c = some b) : (s.canStart c sof).mbState c b = mbACTIVE ∧
      ((s.canStart c sof).canCh c).active = some b := by
  simp only [State.canStart, hb, hm, hact, hw, ne_eq, not_true_eq_false, false_and, decide_false, Bool.or_self, Option.isSome_none,
    Bool.false_eq_true, if_false]
  refine ⟨?_, congrArg CanCh.active (State.canCh_setCanCh ..)⟩
  rw [State.mbState_setCanCh, State.mbState_setCanBuf]
  exact (State.fld_setFld_ne _ _ _ _ _ (by decide)).trans (State.mbState_setMb _ _ _ _ (by decide))

/-- A frame that went out: the buffer is SENT and the channel's error count falls. -/
theorem State.canTxEnd_sent {s : State} {c b : Nat} (hact : (s.canCh c).active = some b)
    (hsh : s.flag (R.CAN_MB_STAT c b) F.CAN_MB_STAT_SHADOW = false) : (s.canTxEnd c .sent).mbState c b = mbSENT ∧
      ((s.canTxEnd c .sent).canCh c).active = none ∧
      (s.canTxEnd c .sent).fld (R.CAN_ERRC c) F.CAN_ERRC_TEC = s.fld (R.CAN_ERRC c) F.CAN_ERRC_TEC - 1 := by
  simp only [State.canTxEnd, hact, hsh, Bool.false_and, Bool.false_eq_true, if_false]
  set u := (s.setCanCh c { s.canCh c with active := none, noRetry := false }) with hu
  set v := (((u.setFld (R.CAN_ERRC c) F.CAN_ERRC_TEC (u.fld (R.CAN_ERRC c) F.CAN_ERRC_TEC - 1)).setFld (R.CAN_ERRC c) F.CAN_ERRC_ACKRUN 0).setFlag
    (R.CAN_STAT c) F.CAN_STAT_ALONE false) with hv
  have hidle : (v.canCh c).active = none := by
    have hsame : v.can = u.can := by simp only [hv, State.setFlag_can, State.setFld_can]
    rw [State.canCh_congr hsame, hu, State.canCh_setCanCh]
  obtain ⟨hact', herr⟩ := State.canConfine_idle hidle
  refine ⟨State.mbState_setMb _ _ _ _ (by decide), hact', ?_⟩
  rw [State.setMb, State.fld_setFld_other _ _ _ _ _ _ canErrc_ne_mbStat, State.fld_of_reg herr, hv,
    State.fld_setFlag_other _ _ _ _ _ _ canErrc_ne_stat, State.fld_setFld_ne _ _ _ _ _ (by decide), State.fld_setFld_same _ _ _ _ (by decide)]
  exact Nat.mod_eq_of_lt (Nat.lt_of_le_of_lt (Nat.sub_le _ _) (s.fld_lt (R.CAN_ERRC c) F.CAN_ERRC_TEC))

/-! ### Reception (R337 to R341) -/

/-- What a received frame does to the channel's counters and bus state changes no acceptance. -/
structure Counted (c : Nat) (s t : State) : Prop where
  tick : t.tick = s.tick
  reg : ∀ a, a ≠ R.CAN_ERRC c → a ≠ R.CAN_STAT c → t.reg a = s.reg a
  missed : t.fld (R.CAN_STAT c) F.CAN_STAT_NOMATCH = s.fld (R.CAN_STAT c) F.CAN_STAT_NOMATCH

namespace Counted
variable {c : Nat} {s t : State} (h : Counted c s t)
include h

theorem regHigh {a : Nat} (hlo : 0x50040 + 0x1000 * c ≤ a) : t.reg a = s.reg a :=
  h.reg a (by simp only [R.CAN_ERRC]; omega) (by simp only [R.CAN_STAT]; omega)

theorem inEffect (a : Nat) : t.inEffect a = s.inEffect a := by rw [State.inEffect, State.inEffect, h.tick]

theorem hpmMatch (k : Nat) (f : CanFrame) : t.hpmMatch c k f = s.hpmMatch c k f := by
  have hcfg := h.regHigh (a := R.CAN_HPM_CFG c k) (by simp only [R.CAN_HPM_CFG]; omega)
  have hmask := h.regHigh (a := R.CAN_HPM_MASK c k) (by simp only [R.CAN_HPM_MASK]; omega)
  have hid := h.regHigh (a := R.CAN_HPM_ID c k) (by simp only [R.CAN_HPM_ID]; omega)
  simp only [State.hpmMatch, hmask, hid, State.fld_of_reg hcfg, h.inEffect]
  rw [State.flag_of_reg hcfg, State.flag_of_reg hcfg]

theorem fltMatch (k : Nat) (f : CanFrame) : t.fltMatch c k f = s.fltMatch c k f := by
  have ha := h.regHigh (a := R.CAN_FLT_A c k) (by simp only [R.CAN_FLT_A]; omega)
  have hb := h.regHigh (a := R.CAN_FLT_B c k) (by simp only [R.CAN_FLT_B]; omega)
  have hc := h.regHigh (a := R.CAN_FLT_C c k) (by simp only [R.CAN_FLT_C]; omega)
  have hg := h.regHigh (a := R.CAN_MB_CFG c (s.fld (R.CAN_FLT_C c k) F.CAN_FLT_C_BUF)) (by simp only [R.CAN_MB_CFG]; omega)
  simp only [State.fltMatch, ha, hb, State.fld_of_reg hc, h.inEffect]
  rw [State.flag_of_reg hg, State.flag_of_reg hg]

end Counted

/-- The error count of a frame received well (R345). -/
def State.rxCounted (s : State) (c : Nat) : State :=
  let e := R.CAN_ERRC c
  let r := s.fld e F.CAN_ERRC_REC
  if s.canMode c = 3 then s
  else if 127 < r then (s.setFld e F.CAN_ERRC_REC (119 + Config.canRec s.free % 9)).draw
  else s.setFld e F.CAN_ERRC_REC (r - 1)

theorem State.rxCounted_def (s : State) (c : Nat) : s.rxCounted c = if s.canMode c = 3 then s
    else if 127 < s.fld (R.CAN_ERRC c) F.CAN_ERRC_REC then
      (s.setFld (R.CAN_ERRC c) F.CAN_ERRC_REC (119 + Config.canRec s.free % 9)).draw
    else s.setFld (R.CAN_ERRC c) F.CAN_ERRC_REC (s.fld (R.CAN_ERRC c) F.CAN_ERRC_REC - 1) := rfl

theorem State.rxCounted_spec (s : State) (c : Nat) : (s.rxCounted c).tick = s.tick ∧
    (∀ a, a ≠ R.CAN_ERRC c → (s.rxCounted c).reg a = s.reg a) ∧
    (s.rxCounted c).fld (R.CAN_ERRC c) F.CAN_ERRC_TEC = s.fld (R.CAN_ERRC c) F.CAN_ERRC_TEC := by
  simp only [State.rxCounted]
  split
  · exact ⟨rfl, fun _ _ => rfl, rfl⟩
  split
  · exact ⟨rfl, fun a ha => State.reg_setFld_ne _ _ _ _ _ ha, State.fld_setFld_ne _ _ _ _ _ (by decide)⟩
  · exact ⟨rfl, fun a ha => State.reg_setFld_ne _ _ _ _ _ ha, State.fld_setFld_ne _ _ _ _ _ (by decide)⟩

theorem State.rxCounted_confined {s : State} {c : Nat} (hb : s.bus c = busACTIVE) (ht : s.fld (R.CAN_ERRC c) F.CAN_ERRC_TEC ≤ 255) :
    Counted c s ((s.rxCounted c).canConfine c) := by
  obtain ⟨htick, hreg, htec⟩ := s.rxCounted_spec c
  have hstat := hreg (R.CAN_STAT c) (Ne.symm canErrc_ne_stat)
  rw [State.canConfine_of_le ((State.fld_of_reg hstat _).trans hb) (htec ▸ ht)]
  exact ⟨htick, fun a he hs => (State.reg_setFld_ne _ _ _ _ _ hs).trans (hreg a he),
    (State.fld_setFld_ne _ _ _ _ _ (by decide)).trans (State.fld_of_reg hstat _)⟩

/-- A received classic frame that no entry matches: the counters and the bus state, then the filters. -/
theorem State.canReceive_classic {s : State} {c : Nat} {f : CanFrame} (hb : s.bus c = busACTIVE)
    (ht : s.fld (R.CAN_ERRC c) F.CAN_ERRC_TEC ≤ 255) (hf : f.fmt = 0) (hlen : f.data.length ≤ 8) (hh : ∀ k, k < 8 → s.hpmMatch c k f = false) :
    ∃ u, Counted c s u ∧
      ((∀ k, k < 256 → s.fltMatch c k f = false) → s.canReceive c f = u.incFld (R.CAN_STAT c) F.CAN_STAT_NOMATCH 255) ∧
      ∀ k, (List.range 256).find? (fun k => s.fltMatch c k f) = some k → s.canReceive c f = u.canAccept c (s.fld (R.CAN_FLT_C c k) F.CAN_FLT_C_BUF) f := by
  have hu := State.rxCounted_confined hb ht
  have hfmt : f.fmt.val = 0 := congrArg Fin.val hf
  have hlen' : canLenOk 0 f.data.length = true := decide_eq_true hlen
  have hhpm : (List.range 8).find? (fun k => ((s.rxCounted c).canConfine c).hpmMatch c k f) = none :=
    List.find?_eq_none.2 fun k hk => by rw [hu.hpmMatch, hh k (List.mem_range.1 hk)]; decide
  have hflt : (fun k => ((s.rxCounted c).canConfine c).fltMatch c k f) = fun k => s.fltMatch c k f := funext fun k => hu.fltMatch k f
  have hnot2 : ¬ (0 = 2 ∧ f.sec = true) := fun h => absurd h.1 (by decide)
  refine ⟨_, hu, fun hmiss => ?_, fun k hk => ?_⟩
  · have hnone : (List.range 256).find? (fun k => s.fltMatch c k f) = none :=
      List.find?_eq_none.2 fun k hk => by rw [hmiss k (List.mem_range.1 hk)]; decide
    simp only [State.canReceive, hb, hfmt, hlen', ne_eq, not_true_eq_false, false_and, decide_false, Bool.not_true, Bool.or_self,
      Bool.false_eq_true, if_false, ← State.rxCounted_def, hnot2, hhpm, hflt, hnone]
  · have hbuf := State.fld_of_reg (hu.regHigh (a := R.CAN_FLT_C c k) (by simp only [R.CAN_FLT_C]; omega)) F.CAN_FLT_C_BUF
    simp only [State.canReceive, hb, hfmt, hlen', ne_eq, not_true_eq_false, false_and, decide_false, Bool.not_true, Bool.or_self,
      Bool.false_eq_true, if_false, ← State.rxCounted_def, hnot2, hhpm, hflt, hk, hbuf]

/-- A receive buffer without a ring takes the record and counts it. -/
theorem State.canAccept_spec {s : State} {c b : Nat} (f : CanFrame) (hb : b < 64)
    (hr : F.CAN_MB_CFG_RING_EN.get (s.reg (R.CAN_MB_CFG c b)) = 0) : (s.canAccept c b f).mbState c b = mbFULL ∧
      ((s.canAccept c b f).canBuf c b).rcd = canRecord f ∧
      (s.canAccept c b f).fld (R.CAN_MB_STAT c b) F.CAN_MB_STAT_COUNT = min (s.fld (R.CAN_MB_STAT c b) F.CAN_MB_STAT_COUNT + 1) 255 := by
  have hb64 : ¬ 64 ≤ b := Nat.not_le.2 hb
  set n := s.fld (R.CAN_MB_STAT c b) F.CAN_MB_STAT_COUNT with hn
  set u := (if 0 < n then s.incFld (R.CAN_MB_STAT c b) F.CAN_MB_STAT_REPL 255 else s) with hu
  set w := (u.setFld (R.CAN_MB_STAT c b) F.CAN_MB_STAT_COUNT (satAdd n 1 255)).setMb c b mbFULL with hw
  set v := w.setCanBuf c b ⟨canRecord f, [], f.sof, f.sofTick, w.tick.count, true⟩ with hv
  have hne : R.CAN_MB_CFG c b ≠ R.CAN_MB_STAT c b := by simp only [R.CAN_MB_CFG, R.CAN_MB_STAT]; omega
  have hcfg : v.reg (R.CAN_MB_CFG c b) = s.reg (R.CAN_MB_CFG c b) := by
    have h1 : u.reg (R.CAN_MB_CFG c b) = s.reg (R.CAN_MB_CFG c b) :=
      ite_stands (fun w : State => w.reg (R.CAN_MB_CFG c b)) (State.reg_setFld_ne _ _ _ _ _ hne)
    rw [hv, State.reg_setCanBuf, hw, State.setMb, State.reg_setFld_ne _ _ _ _ _ hne, State.reg_setFld_ne _ _ _ _ _ hne, h1]
  have heq : s.canAccept c b f = v := by
    have hen : F.CAN_MB_CFG_RING_EN.get (v.reg (R.CAN_MB_CFG c b)) = 0 := by rw [hcfg, hr]
    simp only [State.canAccept, ← hn, ← hu, ← hw, ← hv, if_neg hb64]
    rw [if_neg (fun h => absurd (hen.symm.trans h.1) (by decide))]
  rw [heq]
  refine ⟨?_, ?_, ?_⟩
  · rw [hv, State.mbState_setCanBuf, hw]
    exact State.mbState_setMb _ _ _ _ (by decide)
  · rw [hv, State.canBuf_setCanBuf]
  · rw [hv, State.fld_setCanBuf, hw, State.setMb, State.fld_setFld_ne _ _ _ _ _ (by decide), State.fld_setFld_same _ _ _ _ (by decide), satAdd]
    change _ % 256 = _
    split <;> omega

/-! ### Points (R343) -/

/-- The mask of a map's word keeps its highest bit. -/
theorem pmap_bit31 (w : Word) : (w &&& 0xFFFFFFF8).getLsbD 31 = w.getLsbD 31 := by
  rw [BitVec.getLsbD_and, show (0xFFFFFFF8 : Word).getLsbD 31 = true by decide, Bool.and_true]

theorem State.pmapWrite_withdrawn {s : State} {c m : Nat} {w : Word} (h : w.getLsbD 31 = false) :
    (s.pmapWrite c m false w).reg (R.CAN_PMAP_A c m) = w &&& 0xFFFFFFF8 := by
  simp only [State.pmapWrite, pmap_bit31, h, Bool.false_and, Bool.false_eq_true, if_false]
  exact (s.bindWrite_spec _ _).1

theorem State.pmapWrite_refused {s : State} {c m : Nat} {w : Word} (h : w.getLsbD 31 = true)
    (hok : s.pmapOk c (w &&& 0xFFFFFFF8) (s.reg (R.CAN_PMAP_B c m)) = false) : s.pmapWrite c m false w = s.event Ev.CAN_MAP_REFUSED := by
  simp only [State.pmapWrite, pmap_bit31, h, hok, Bool.not_false, Bool.true_and, Bool.false_eq_true, if_false, if_true]

/-- Settles O43: each clause is the channel's operation on the state its hypotheses describe. -/
theorem canChannels : Obligations.CanChannels := by
  unfold Obligations.CanChannels
  intro s c hs tec rec'
  obtain ⟨htec, hrec, hother⟩ := s.txErrors_fld c
  have hb' {v : Nat} (h : s.bus c = v) : (s.txErrors c).bus c = v := (hother _ _ (Ne.symm canErrc_ne_stat)).trans h
  refine ⟨fun w h => ?_, ?_, fun h => ?_, fun h => ?_, fun hb hm => ⟨fun ht => ?_, fun ht hact => ?_⟩, fun sof b hb hm hact hw => ⟨?_, ?_⟩,
    fun b _ hact hsh => ?_, fun f hb ht hf hlen hh => ?_, fun m w => ⟨fun h => ?_, fun h hok => ?_⟩⟩
  · exact ⟨_, exec_eq_next_of_onCore (f := fun s => s.canCtrlWrite c w) hs rfl, State.canCtrlWrite_waits h⟩
  · exact ⟨_, exec_eq_next_of_onCore (f := fun s => s.setCanCh c { s.canCh c with recoverW := true }) hs rfl,
      congrArg CanCh.recoverW (State.canCh_setCanCh ..), rfl⟩
  · exact ⟨_, exec_eq_next_of_onCore (f := fun s => s.canIntegrated c) hs rfl, State.canIntegrated_bus h⟩
  · exact ⟨_, exec_eq_next_of_onCore (f := fun s => s.canRecovered c) hs rfl, State.canRecovered_counters h⟩
  · refine ⟨_, exec_eq_next_of_onCore (f := fun s => s.canError c true true) hs rfl, ?_⟩
    have htec' : (s.txErrors c).fld (R.CAN_ERRC c) F.CAN_ERRC_TEC = tec + 8 := htec.trans (by omega)
    rw [State.canError_tx hb hm, State.canConfine_of_le (hb' hb) (htec'.trans_le ht), htec', hrec]
    refine ⟨?_, State.bus_setBus _ _ _ (by split <;> decide)⟩
    rw [State.setBus, State.fld_setFld_other _ _ _ _ _ _ canErrc_ne_stat, htec']
  · refine ⟨_, exec_eq_next_of_onCore (f := fun s => s.canError c true true) hs rfl, ?_⟩
    rw [State.canError_tx hb hm, State.canConfine_of_gt (hb' hb) (by omega)]
    obtain ⟨hbus, hboff, -, -⟩ := State.canBusOff_idle (s := s.txErrors c) (c := c)
      ((congrArg CanCh.active (State.canCh_congr (State.setFld_can ..) c)).trans hact)
    refine ⟨hbus.trans ?_, hboff.trans ?_⟩
    · rw [State.flag, State.flag, hother _ _ (by simp only [R.CAN_CTRL, R.CAN_ERRC]; omega)]
    · rw [hother _ _ (Ne.symm canErrc_ne_stat)]
  · exact ⟨_, exec_eq_next_of_onCore (f := fun s => s.canStart c sof) hs rfl, State.canStart_of_winner sof hb hm hact hw⟩
  · obtain ⟨hp, -, hmin⟩ := State.canWinner_foldl s c (List.range 64) none (fun k hk => absurd hk (by simp)) hw
    exact ⟨hp, fun k hk hkp => hmin k (List.mem_range.2 hk) hkp⟩
  · exact ⟨_, exec_eq_next_of_onCore (f := fun s => s.canTxEnd c .sent) hs rfl, State.canTxEnd_sent hact hsh⟩
  · have hexec := exec_eq_next_of_onCore (i := .canFrameReceived c f) (f := fun s => s.canReceive c f) hs rfl
    obtain ⟨u, hu, hmiss, hhit⟩ := State.canReceive_classic hb ht hf hlen hh
    refine ⟨fun hflt => ⟨_, hexec, ?_⟩, fun k hk => ?_⟩
    · rw [hmiss hflt, State.fld_incFld_same _ _ _ _ (by decide) (by decide), hu.missed]
    · intro b hb64 hring
      refine ⟨_, hexec, ?_⟩
      have hcfg := hu.regHigh (a := R.CAN_MB_CFG c b) (by simp only [R.CAN_MB_CFG]; omega)
      have hstat := hu.regHigh (a := R.CAN_MB_STAT c b) (by simp only [R.CAN_MB_STAT]; omega)
      rw [hhit k hk, ← State.fld_of_reg hstat]
      exact State.canAccept_spec f hb64 (hcfg ▸ hring)
  · exact ⟨_, exec_eq_next_of_onCore (f := fun s => s.pmapWrite c m false w) hs rfl, State.pmapWrite_withdrawn h⟩
  · exact (exec_eq_next_of_onCore (f := fun s => s.pmapWrite c m false w) hs rfl).trans (congrArg _ (State.pmapWrite_refused h hok))

end Sys2Proof.Machine

/-!
SUPPORT. Field power, point maps and RS-485 (R355 to R362).
-/
namespace Sys2Proof.Machine

/-! ### What a record leaves of the pins -/

/-- A record leaves the pins, or, where it freezes the module, has every output off. -/
theorem State.log_pins_or (s : State) (r : RecIn) (q : Option Nat) (g : Bool) :
    (s.log r q g).pins = s.pins ∨ (s.log r q g).pins = ⟨[], true, [], []⟩ := by
  have henter : (s.enter r q g).pins = s.pins := State.enter_pins ..
  simp only [State.log]
  split
  · simp only [State.freezeTrigger]
    split
    · exact Or.inl henter
    split
    · exact Or.inr rfl
    · exact Or.inl (by simp only [State.enter_pins, State.setFld_pins, State.incFld_pins])
  · exact Or.inl henter

theorem State.event_pins_or (s : State) (c p v v2 : Nat) (y : Option Nat) :
    (s.event c p v v2 y).pins = s.pins ∨ (s.event c p v v2 y).pins = ⟨[], true, [], []⟩ := s.log_pins_or _ _ _

@[simp] theorem State.fire_pins (s : State) (type idx : Nat) : (s.fire type idx).pins = s.pins := by
  rw [State.fire]
  exact foldl_stands State.pins (fun u e _ => State.modPart_pins _ _ _) s

@[simp] theorem State.fire_sw (s : State) (type idx : Nat) : (s.fire type idx).sw = s.sw := by
  rw [State.fire]
  exact foldl_stands State.sw (fun u e _ => State.modPart_sw _ _ _) s

/-! ### Field power (R355 to R358) -/

section
variable (s : State) (n : Nat)

/-- The registers of a state entered. -/
theorem State.reg_setPse (v a : Nat) : (s.setPse n v).reg a = (s.setFld (R.SPE_PSTAT n) F.SPE_PSTAT_PSTATE v).reg a := rfl

theorem State.fld_setPse (v a : Nat) (f : Fld) : (s.setPse n v).fld a f = (s.setFld (R.SPE_PSTAT n) F.SPE_PSTAT_PSTATE v).fld a f := rfl

/-- A state entered: power stands on the line in POWERED only, and the status shows it. -/
theorem State.setPse_spec {v : Nat} (hv : v < 8) : (s.setPse n v).pseState n = v ∧ (n ∈ (s.setPse n v).pins.pse ↔ v = pwPOWERED) ∧
    ∀ a, a ≠ R.SPE_PSTAT n → (s.setPse n v).reg a = s.reg a := by
  refine ⟨?_, ?_, fun a ha => (s.reg_setPse n v a).trans (State.reg_setFld_ne _ _ _ _ _ ha)⟩
  · rw [State.pseState, State.fld_setPse, State.fld_setFld_same _ _ _ _ (by decide)]
    exact Nat.mod_eq_of_lt hv
  · simp only [State.setPse]
    split
    · rename_i h
      simp [h]
    · rename_i h
      simp [h]

/-- The cause shown leaves the state and the pins. -/
theorem State.setPseCause_spec {c : Nat} (hc : c < 8) : (s.setPseCause n c).fld (R.SPE_PSTAT n) F.SPE_PSTAT_CAUSE = c ∧
    (s.setPseCause n c).pseState n = s.pseState n ∧ (s.setPseCause n c).pins = s.pins :=
  ⟨(State.fld_setFld_same _ _ _ _ (by decide)).trans (Nat.mod_eq_of_lt hc), State.fld_setFld_ne _ _ _ _ _ (by decide), rfl⟩

theorem State.pseDetect_spec : (s.pseDetect n).pseState n = pwDETECT ∧ (s.pseDetect n).fld (R.SPE_PSTAT n) F.SPE_PSTAT_CAUSE = 0 ∧
    ∀ a, a ≠ R.SPE_PSTAT n → (s.pseDetect n).reg a = s.reg a := by
  obtain ⟨hcause, hstate, -⟩ := (s.setPse n pwDETECT).setPseCause_spec n (c := 0) (by decide)
  obtain ⟨hst, -, hreg⟩ := s.setPse_spec n (v := pwDETECT) (by decide)
  exact ⟨hstate.trans hst, hcause, fun a ha => (State.reg_setFld_ne _ _ _ _ _ ha).trans (hreg a ha)⟩

/-- FAULT: no power on the line, and the cause shown. -/
theorem State.pseFault_spec (hn : n < 32) {c : Nat} (hc : c < 8) : (s.pseFault n c).pseState n = pwFAULT ∧
    (s.pseFault n c).fld (R.SPE_PSTAT n) F.SPE_PSTAT_CAUSE = c ∧ n ∉ (s.pseFault n c).pins.pse := by
  obtain ⟨hcause, hstate, hpins⟩ := (s.setPse n pwFAULT).setPseCause_spec n hc
  obtain ⟨hst, hline, -⟩ := s.setPse_spec n (v := pwFAULT) (by decide)
  have haddr : R.SPE_PSTAT n < 0x100000 := by simp only [R.SPE_PSTAT]; omega
  have hfld (f : Fld) (hf : f.lo + f.len ≤ 24) : (s.pseFault n c).fld (R.SPE_PSTAT n) f = ((s.setPse n pwFAULT).setPseCause n c).fld (R.SPE_PSTAT n) f := by
    rw [State.pseFault, State.fld_congr (State.fire_srf _ _ _), State.fld_event _ _ _ _ _ _ _ _ (Or.inl haddr), State.incFld,
      State.fld_setFld_ne _ _ _ _ _ (Or.inl hf)]
  refine ⟨(hfld _ (by decide)).trans (hstate.trans hst), (hfld _ (by decide)).trans hcause, ?_⟩
  rw [State.pseFault, State.fire_pins]
  rcases State.event_pins_or (((s.setPse n pwFAULT).setPseCause n c).incFld (R.SPE_PSTAT n) F.SPE_PSTAT_FAULTS 255) Ev.SPE_FAULT 0xFF n c none with h | h
  · rw [h, State.incFld_pins, hpins]
    exact fun hmem => absurd (hline.1 hmem) (by decide)
  · rw [h]
    exact List.not_mem_nil

end

section
variable {s : State} {n : Nat}

theorem State.pseClassified_fits {k power : Nat} (h : s.pseState n = pwCLASSIFY) (hm : s.flag (R.SPE_PWR n) F.SPE_PWR_CLASS_MODE = false)
    (hfit : (k = 10 ∨ k = 11) ∧ power ≤ s.fld (R.SPE_PWR n) F.SPE_PWR_BUDGET) :
    s.pseClassified n k power = (s.setFld (R.SPE_PSTAT n) F.SPE_PSTAT_CLASS k).setPse n pwPOWERED := by
  simp only [State.pseClassified, h, hm, ne_eq, not_true_eq_false, if_false, Bool.false_eq_true]
  refine if_pos ⟨hfit.1, ?_⟩
  rw [State.fld_setFld_other _ _ _ _ _ _ (by simp only [R.SPE_PWR, R.SPE_PSTAT]; omega)]
  exact hfit.2

theorem State.pseClassified_denied {k power : Nat} (h : s.pseState n = pwCLASSIFY) (hm : s.flag (R.SPE_PWR n) F.SPE_PWR_CLASS_MODE = false)
    (hfit : ¬ ((k = 10 ∨ k = 11) ∧ power ≤ s.fld (R.SPE_PWR n) F.SPE_PWR_BUDGET)) :
    s.pseClassified n k power = (s.setFld (R.SPE_PSTAT n) F.SPE_PSTAT_CLASS k).pseFault n pcDENIED := by
  simp only [State.pseClassified, h, hm, ne_eq, not_true_eq_false, if_false, Bool.false_eq_true]
  refine if_neg fun hc => hfit ⟨hc.1, ?_⟩
  rw [State.fld_setFld_other _ _ _ _ _ _ (by simp only [R.SPE_PWR, R.SPE_PSTAT]; omega)] at hc
  exact hc.2

theorem State.pseChange_on (hen : s.pseEnable n = true) (hwas : (s.spePort n).en = false) (hoff : s.pseState n = pwOFF) :
    (s.pseChange n).pseState n = pwDETECT := by
  have hoff' : (s.setSpePort n { s.spePort n with en := s.pseEnable n }).pseState n = pwOFF := hoff
  simp only [State.pseChange, hen] at hoff' ⊢
  rw [if_pos (by rw [hwas, hoff']; rfl)]
  exact (State.pseDetect_spec _ n).1

theorem State.pseChange_off (hen : s.pseEnable n = false) (hon : s.pseState n ≠ pwOFF) :
    (s.pseChange n).pseState n = pwOFF ∧ n ∉ (s.pseChange n).pins.pse := by
  have hon' : (s.setSpePort n { s.spePort n with en := s.pseEnable n }).pseState n ≠ pwOFF := hon
  simp only [State.pseChange, hen] at hon' ⊢
  rw [if_neg (by rw [Bool.false_and, Bool.false_and]; exact Bool.false_ne_true), if_pos (by rw [Bool.not_false, Bool.true_and]; exact decide_eq_true hon')]
  obtain ⟨hst, hline, -⟩ := State.setPse_spec (s.setSpePort n { s.spePort n with en := false }) n (v := pwOFF) (by decide)
  exact ⟨hst, fun h => absurd (hline.1 h) (by decide)⟩

/-- The budget's word stands, whatever it starts. -/
theorem State.spePwrWrite_ok {w : Word} (h : s.budgetSum n (w &&& 0xC0FF003F) ≤ 640) :
    (s.spePwrWrite n w).reg (R.SPE_PWR n) = w &&& 0xC0FF003F := by
  have hne : R.SPE_PWR n ≠ R.SPE_PSTAT n := by simp only [R.SPE_PWR, R.SPE_PSTAT]; omega
  simp only [State.spePwrWrite]
  rw [if_neg fun hc => absurd hc.1 (Nat.not_lt.2 h)]
  exact (ite_stands (fun u : State => u.reg (R.SPE_PWR n)) ((State.pseDetect_spec _ n).2.2 _ hne)).trans (State.reg_setReg_same ..)

theorem speMap_bit31 (w : Word) : (w &&& 0xFFFFFC00).getLsbD 31 = w.getLsbD 31 := by
  rw [BitVec.getLsbD_and, show (0xFFFFFC00 : Word).getLsbD 31 = true by decide, Bool.and_true]

theorem State.speMapWrite_withdrawn {sm : Bool} {w : Word} (h : w.getLsbD 31 = false) :
    (s.speMapWrite n sm w).reg (if sm then R.SPE_SMAP n else R.SPE_PMAP n) = w &&& 0xFFFFFC00 := by
  simp only [State.speMapWrite, speMap_bit31, h, Bool.false_and, Bool.false_eq_true, if_false]
  exact (s.bindWrite_spec _ _).1

theorem State.speMapWrite_unbound {sm : Bool} {w : Word} (h : w.getLsbD 31 = true) (hb : boundPart (s.reg (R.SPE_PCFG n)) = none) :
    s.speMapWrite n sm w = s.event Ev.SPE_MAP_REFUSED := by
  simp only [State.speMapWrite, speMap_bit31, h, hb, Bool.not_false, Bool.and_self, if_true]

end

/-! ### RS-485 (R360 to R362) -/

/-- A ring of a running partition with room takes an entry at its end. -/
theorem State.ringPush_room {s : State} {r : Nat} (e : RingEnt) (hrun : s.running (s.fld (R.SW_RING r) F.SW_RING_PART) = true)
    (hlen : (s.swRing r).ents.length < 1024) : ((s.ringPush r e).swRing r).ents = (s.swRing r).ents ++ [e] := by
  simp only [State.ringPush, hrun, decide_eq_false (Nat.not_le.2 hlen), Bool.not_true, Bool.or_self, Bool.false_eq_true, if_false]
  exact congrArg SwRing.ents (tgetD_tput_same ..)

/-- A frame stored leaves the rings, the registers and the partitions. -/
theorem State.newHold_stands (s : State) (o : CellOwner) (cells refs : Nat) : (s.newHold o cells refs).2.swRing = s.swRing ∧
    (s.newHold o cells refs).2.fld = s.fld ∧ (s.newHold o cells refs).2.running = s.running := ⟨rfl, rfl, rfl⟩

/-- A receive frame that fits its ring enters it. -/
theorem State.uartReceive_fits {s : State} {c : Nat} {chars : List Byte} {errs p : Nat} {sof at' : Word} (hc : c < 8)
    (hp : boundPart (s.reg (R.SPE_UBIND c)) = some p) (hin : s.inEffect (R.SPE_UBIND c) = true) (hne : chars ≠ [])
    (hmax : s.fld (R.SPE_ULEN c) F.SPE_ULEN_MAXLEN ≠ 0) (hlen : chars.length ≤ s.fld (R.SPE_ULEN c) F.SPE_ULEN_MAXLEN)
    (hr : boundPart (s.reg (R.SW_RING (s.fld (R.SPE_UBIND c) F.SPE_UBIND_RING))) = some p)
    (hpart : s.fld (R.SW_RING (s.fld (R.SPE_UBIND c) F.SPE_UBIND_RING)) F.SW_RING_PART = p) (hrun : s.running p = true)
    (hcells : cellsFor (16 + chars.length) ≤ s.cellsFree (.part p)) (hents : (s.swRing (s.fld (R.SPE_UBIND c) F.SPE_UBIND_RING)).ents.length < 1024) :
    ((s.uartReceive c chars errs sof at').swRing (s.fld (R.SPE_UBIND c) F.SPE_UBIND_RING)).ents =
      (s.swRing (s.fld (R.SPE_UBIND c) F.SPE_UBIND_RING)).ents ++ [⟨s.sw.next, 0, 80 + c, errs % 65536, 0, at'.toNat, sof.toNat, chars⟩] := by
  set r := s.fld (R.SPE_UBIND c) F.SPE_UBIND_RING with hrdef
  have hr512 : r < 512 := s.fld_lt _ F.SPE_UBIND_RING
  set u := s.setFld (R.SPE_USTAT c) F.SPE_USTAT_CHERR (satAdd (s.fld (R.SPE_USTAT c) F.SPE_USTAT_CHERR) errs 255) with hu
  have hreg {a : Nat} (ha : a ≠ R.SPE_USTAT c) : u.reg a = s.reg a := State.reg_setFld_ne _ _ _ _ _ ha
  have hbind : u.fld (R.SPE_UBIND c) F.SPE_UBIND_RING = r := State.fld_of_reg (hreg (by simp only [R.SPE_UBIND, R.SPE_USTAT]; omega)) _
  have hring : u.reg (R.SW_RING r) = s.reg (R.SW_RING r) := hreg (by simp only [R.SW_RING, R.SPE_USTAT]; omega)
  have hp128 : p < 128 := hpart ▸ s.fld_lt _ F.SW_RING_PART
  have hfree : u.cellsFree (.part p) = s.cellsFree (.part p) := by
    have hlimit : u.cellLimit (.part p) = s.cellLimit (.part p) :=
      State.fld_of_reg (hreg (a := R.SW_CELLS p) (by simp only [R.SW_CELLS, R.SPE_USTAT]; omega)) _
    rw [State.cellsFree, State.cellsFree, hlimit, State.cellsOf, State.cellsOf, hu, State.setFld_sw]
  have hrun' : u.running p = true :=
    (congrArg (· == psRunning) (State.fld_of_reg (hreg (a := R.ENG_PART_STAT p) (by simp only [R.ENG_PART_STAT, R.SPE_USTAT]; omega)) _)).trans hrun
  have hneed : 1 ≤ cellsFor (16 + chars.length) := by rw [cellsFor]; omega
  have hempty : chars.isEmpty = false := List.isEmpty_eq_false_iff.2 hne
  have hpushed : s.uartReceive c chars errs sof at' = (u.newHold (.part p) (min (cellsFor (16 + chars.length)) (u.cellsFree (.part p))) 1).2.ringPush r
      ⟨s.sw.next, 0, 80 + c, errs % 65536, 0, at'.toNat, sof.toNat, chars⟩ := by
    have hnum : (u.newHold (.part p) (min (cellsFor (16 + chars.length)) (u.cellsFree (.part p))) 1).1 = s.sw.next :=
      congrArg SwSt.next (State.setFld_sw ..)
    simp only [State.uartReceive, hp, hmax, if_false, hin, hempty, decide_eq_false (Nat.not_lt.2 hlen), Bool.not_true, Bool.or_self,
      Bool.false_eq_true, ← hu, hbind]
    rw [if_neg fun hc => hc.elim (fun h => h (hring ▸ hr)) fun h => by omega, decide_eq_false (by omega), hnum]
    rfl
  obtain ⟨hrings, hflds, hruns⟩ := u.newHold_stands (.part p) (min (cellsFor (16 + chars.length)) (u.cellsFree (.part p))) 1
  have hents' : u.swRing r = s.swRing r := by rw [State.swRing, State.swRing, hu, State.setFld_sw]
  have hpart' : u.fld (R.SW_RING r) F.SW_RING_PART = p := (State.fld_of_reg hring _).trans hpart
  rw [hpushed, State.ringPush_room _ (by rw [hruns, hflds, hpart', hrun']) (by rw [hrings, hents']; exact hents), hrings, hents']

theorem State.unref_out (s : State) (n : Nat) : (s.unref n).spe = s.spe := by
  rw [State.unref, State.modHold]
  split <;> rfl

/-- The first released frame of a channel goes out. -/
theorem State.uartSend_now {s : State} {c h : Nat} {b : List Byte} {rest : List (Nat × List Byte)} (hq : tget s.spe.uart c = some ((h, b) :: rest))
    (hen : s.flag (R.SPE_UCFG c) F.SPE_UCFG_ENABLE = true) :
    (s.uartSend c false).out = s.out ++ [.uart c b] ∧ tgetD (s.uartSend c false).spe.uart c [] = rest := by
  have hq' : tgetD s.spe.uart c [] = (h, b) :: rest := by rw [tgetD, hq]; rfl
  simp only [State.uartSend, hq', hen, Bool.not_true, Bool.false_eq_true, if_false]
  refine ⟨trivial, ?_⟩
  rw [State.unref_out]
  cases rest with
  | nil => exact (congrArg (fun o : Option (List (Nat × List Byte)) => o.getD []) (tget_tdel _ _ _)).trans (by rw [if_pos rfl]; rfl)
  | cons e es => exact tgetD_tput_same ..

/-- Settles O44: each state of field power is entered by one operation, which alone puts power on the line. -/
theorem fieldPowerAndSerial : Obligations.FieldPowerAndSerial := by
  unfold Obligations.FieldPowerAndSerial
  intro s hs
  refine ⟨fun n => ?_, fun c chars errs p sof at' => ?_, fun c h b rest hq hen => ⟨?_, ?_⟩⟩
  · have hn := n.isLt
    intro cause
    refine ⟨fun hen hwas hoff => ?_, fun hen hon => ?_, fun hd ok => ?_, fun hc hm k power => ?_, fun hp => ⟨fun ht => ?_, fun u hu => ?_, ?_⟩, ?_,
      fun w => ?_, fun sm w => ⟨fun h => ?_, fun h hb => ?_⟩⟩
    · exact ⟨_, exec_eq_next_of_onCore (f := fun s => s.pseChange n) hs rfl, State.pseChange_on hen hwas hoff⟩
    · exact ⟨_, exec_eq_next_of_onCore (f := fun s => s.pseChange n) hs rfl, State.pseChange_off hen hon⟩
    · refine ⟨_, exec_eq_next_of_onCore (f := fun s => s.pseDetected n ok) hs rfl, ?_⟩
      rw [State.pseDetected, if_neg fun h => h hd]
      cases ok
      · exact (s.setPse_spec n (v := pwDETECT) (by decide)).1
      · exact (s.setPse_spec n (v := pwCLASSIFY) (by decide)).1
    · have hexec := exec_eq_next_of_onCore (i := .pseClassified n k power) (f := fun s => s.pseClassified n k power) hs rfl
      have hk : (k = 10 ∨ k = 11) ↔ (k.val = 10 ∨ k.val = 11) := by simp only [Fin.ext_iff]; rfl
      intro fits
      refine ⟨fun hfit => ⟨_, hexec, ?_⟩, fun hfit => ⟨_, hexec, ?_⟩⟩
      · rw [State.pseClassified_fits hc hm ⟨hk.1 hfit.1, hfit.2⟩]
        obtain ⟨hst, hline, -⟩ := State.setPse_spec (s.setFld (R.SPE_PSTAT n) F.SPE_PSTAT_CLASS k) n (v := pwPOWERED) (by decide)
        exact ⟨hst, hline.2 rfl⟩
      · rw [State.pseClassified_denied hc hm fun h => hfit ⟨hk.2 h.1, h.2⟩]
        exact State.pseFault_spec _ n hn (by decide)
    · exact ⟨_, (exec_eq_next_of_onCore (i := .pseShort n) (f := fun s => if s.pseState n = pwPOWERED ∧ (s.spePort n).since + 48 ≤ s.tick.count
        then s.pseFault n pcSHORT else s) hs rfl).trans (congrArg _ (if_pos ⟨hp, ht⟩)), s.pseFault_spec n hn (by decide)⟩
    · exact ⟨_, (exec_eq_next_of_onCore (i := .pseOverload n u) (f := fun s =>
        if s.pseState n = pwPOWERED ∧ s.fld (R.SPE_PWR n) F.SPE_PWR_BUDGET < u.val then
          (s.setFld (R.SPE_PSTAT n) F.SPE_PSTAT_WATTS u.val).pseFault n pcOVERLOAD else s) hs rfl).trans (congrArg _ (if_pos ⟨hp, hu⟩)),
        State.pseFault_spec _ n hn (by decide)⟩
    · refine ⟨_, (exec_eq_next_of_onCore (i := .pseOpen n) (f := fun s => if s.pseState n = pwPOWERED then
        (s.setPse n pwOFF).setPseCause n pcOPEN else s) hs rfl).trans (congrArg _ (if_pos hp)), ?_⟩
      obtain ⟨hst, hline, -⟩ := s.setPse_spec n (v := pwOFF) (by decide)
      obtain ⟨hcause, hstate, hpins⟩ := (s.setPse n pwOFF).setPseCause_spec n (c := pcOPEN) (by decide)
      exact ⟨hstate.trans hst, hcause, by rw [hpins]; exact fun h => absurd (hline.1 h) (by decide)⟩
    · intro r hf hr ht hen
      refine ⟨_, (exec_eq_next_of_onCore (i := .pseRetry n) (f := fun s =>
        if s.pseState n = pwFAULT && s.fld (R.SPE_PWR n) F.SPE_PWR_RETRY ≠ 0 &&
          (s.spePort n).since + 480 * s.fld (R.SPE_PWR n) F.SPE_PWR_RETRY ≤ s.tick.count && s.pseEnable n then s.pseDetect n else s) hs rfl).trans
          (congrArg _ (if_pos ?_)), (s.pseDetect_spec n).1, (s.pseDetect_spec n).2.1⟩
      rw [decide_eq_true hf, decide_eq_true hr, decide_eq_true ht, hen]
      rfl
    · have hexec := exec_eq_next_of_onCore (i := .spePwrWrite n w) (f := fun s => s.spePwrWrite n w) hs rfl
      intro v
      exact ⟨fun h => ⟨_, hexec, State.spePwrWrite_ok h⟩, fun h hmore => hexec.trans (congrArg _ (if_pos ⟨h, hmore⟩))⟩
    · exact ⟨_, exec_eq_next_of_onCore (f := fun s => s.speMapWrite n sm w) hs rfl, State.speMapWrite_withdrawn h⟩
    · exact (exec_eq_next_of_onCore (f := fun s => s.speMapWrite n sm w) hs rfl).trans (congrArg _ (State.speMapWrite_unbound h hb))
  · intro r max' hp hin hne hmax hlen hr hpart hrun hcells hents
    exact ⟨_, exec_eq_next_of_onCore (f := fun s => s.uartReceive c chars errs sof at') hs rfl,
      State.uartReceive_fits c.isLt hp hin hne hmax hlen hr hpart hrun hcells hents⟩
  · exact ⟨_, exec_eq_next_of_onCore (f := fun s => s.uartSend c false) hs rfl, State.uartSend_now hq hen⟩
  · refine ⟨_, exec_eq_next_of_onCore (f := fun s => s.uartSend c true) hs rfl, ?_⟩
    have hq' : tgetD s.spe.uart c [] = (h, b) :: rest := by rw [tgetD, hq]; rfl
    simp only [State.uartSend, hq', hen, Bool.not_true, Bool.false_eq_true, if_false, if_true]
    exact ⟨State.incFld_out .., State.fld_incFld_same _ _ _ _ (by decide) (by decide)⟩

end Sys2Proof.Machine

/-!
SUPPORT. The safety functions (R364 to R390).
-/
namespace Sys2Proof.Machine

/-! ### Reads of the safety state after its writes -/

theorem State.safeIn_setSafeIn_same (s : State) (i : Nat) (x : SafeIn) : (s.setSafeIn i x).safeIn i = x := tgetD_tput_same ..

theorem State.safeIn_setSafeIn_ne (s : State) {i k : Nat} (x : SafeIn) (h : k ≠ i) : (s.setSafeIn i x).safeIn k = s.safeIn k :=
  tgetD_tput_ne _ _ _ _ _ h

theorem State.reg_setSafeIn (s : State) (i a : Nat) (x : SafeIn) : (s.setSafeIn i x).reg a = s.reg a := rfl

theorem State.siFilt_setSafeIn (s : State) (i k : Nat) (x : SafeIn) : (s.setSafeIn i x).siFilt k = s.siFilt k := rfl

theorem State.safeOut_setSafeOut (s : State) (o : Nat) (x : SafeOut) : (s.setSafeOut o x).safeOut o = x := tgetD_tput_same ..

theorem State.safeRx_setSafeRx (s : State) (c : Nat) (x : SafeRx) : (s.setSafeRx c x).safeRx c = x := tgetD_tput_same ..

theorem State.safeIn_congr {s t : State} (h : t.safe.ins = s.safe.ins) (i : Nat) : t.safeIn i = s.safeIn i := by
  rw [State.safeIn, State.safeIn, h]

theorem State.safeRx_congr {s t : State} (h : t.safe.rx = s.safe.rx) (c : Nat) : t.safeRx c = s.safeRx c := by
  rw [State.safeRx, State.safeRx, h]

/-! ### Inputs (R366, R367, R371) -/

theorem siStat_ne {i k : Nat} (h : i ≠ k) : R.SAFE_SI_STAT i ≠ R.SAFE_SI_STAT k := by simp only [R.SAFE_SI_STAT]; omega

section
variable (s : State) (i : Nat)

theorem State.siShow_safe : (s.siShow i).safe = s.safe := by simp only [State.siShow, State.setFlag_safe, State.setFld_safe]

theorem State.siShow_boot : (s.siShow i).boot = s.boot := by simp only [State.siShow, State.setFlag_boot, State.setFld_boot]

theorem State.reg_siShow {a : Nat} (h : a ≠ R.SAFE_SI_STAT i) : (s.siShow i).reg a = s.reg a :=
  (State.reg_setFlag_ne _ _ _ _ _ h).trans (State.reg_setFld_ne _ _ _ _ _ h)

/-- What an input's status shows changes no filtered state. -/
theorem State.siFilt_siShow (k : Nat) : (s.siShow i).siFilt k = s.siFilt k := by
  by_cases h : k = i
  · rw [h, State.siFilt, State.siFilt, State.flag, State.flag, State.siShow, State.setFlag, State.fld_setFld_ne _ _ _ _ _ (by decide),
      State.fld_setFld_ne _ _ _ _ _ (by decide)]
  · exact State.flag_of_reg (State.reg_siShow s i (siStat_ne h)) _

/-- EFF is the filtered state of an input without a fault. -/
theorem State.siShow_eff : (s.siShow i).flag (R.SAFE_SI_STAT i) F.SAFE_SI_STAT_EFF = (s.siFilt i && !s.siBad i) := by
  have hfilt (v : Nat) : (s.setFld (R.SAFE_SI_STAT i) F.SAFE_SI_STAT_FAULT v).siFilt i = s.siFilt i := by
    rw [State.siFilt, State.siFilt, State.flag, State.flag, State.fld_setFld_ne _ _ _ _ _ (by decide)]
  rw [State.siShow, State.flag_setFlag_same _ _ _ _ (by decide) rfl, hfilt]
  rfl

/-- A fault latched is one of the input's faults; the faults of other inputs stand. -/
theorem State.siFault_spec (code : Nat) : code ∈ ((s.siFault i code).safeIn i).lat ∧
    (∀ k, k ≠ i → (s.siFault i code).safeIn k = s.safeIn k) ∧ (∀ k, (s.siFault i code).siFilt k = s.siFilt k) ∧
    (s.siFault i code).safe.act = s.safe.act := by
  simp only [State.siFault]
  split
  · rename_i h
    exact ⟨List.contains_iff_mem.1 h, fun _ _ => rfl, fun _ => rfl, rfl⟩
  · have hshown (u : State) (m k : Nat) : ((u.siShow i).siShow m).safeIn k = u.safeIn k := by
      rw [State.safeIn, State.siShow_safe, State.siShow_safe, State.safeIn]
    refine ⟨?_, fun k hk => ?_, fun k => ?_, ?_⟩
    · rw [hshown, State.safeIn_setSafeIn_same]
      exact List.mem_append_right _ List.mem_cons_self
    · rw [hshown, State.safeIn_setSafeIn_ne _ _ hk]
    · rw [State.siFilt_siShow, State.siFilt_siShow, State.siFilt_setSafeIn]
    · rw [State.siShow_safe, State.siShow_safe]
      rfl

end

/-- A change of an input's filtered state. -/
theorem State.siChange_si {s : State} {i : Nat} {v : Bool} (h : s.siFilt i ≠ v) : (s.siChange false i v).siFilt i = v ∧
    (s.siChange false i v).flag (R.SAFE_SI_STAT i) F.SAFE_SI_STAT_EFF = (v && !s.siBad i) ∧
    ((s.siChange false i v).safeIn i).trans = s.tick.count :: (s.safeIn i).trans ∧
    ∀ a, a ≠ R.SAFE_SI_STAT i → (s.siChange false i v).reg a = s.reg a := by
  simp only [State.siChange, Bool.false_eq_true, if_false, if_neg h]
  set u := (s.setFlag (R.SAFE_SI_STAT i) F.SAFE_SI_STAT_FILT v).setFlag (R.SAFE_SI_STAT i) F.SAFE_SI_STAT_PIN v with hu
  set x : SafeIn := { s.safeIn i with trans := u.tick.count :: (s.safeIn i).trans } with hx
  have hfilt : (u.setSafeIn i x).siFilt i = v := by
    rw [State.siFilt_setSafeIn, State.siFilt, State.flag, hu, State.setFlag, State.fld_setFld_ne _ _ _ _ _ (by decide)]
    exact State.flag_setFlag_same _ _ _ _ (by decide) rfl
  have hsafe : u.safe = s.safe := by simp only [hu, State.setFlag_safe]
  have hlat (k : Nat) : ((u.setSafeIn i x).safeIn k).lat = (s.safeIn k).lat := by
    by_cases hk : k = i
    · rw [hk, State.safeIn_setSafeIn_same]
    · rw [State.safeIn_setSafeIn_ne _ _ hk, State.safeIn_congr (congrArg SafeSt.ins hsafe)]
  have hbad : (u.setSafeIn i x).siBad i = s.siBad i := by rw [State.siBad, State.siBad, hlat, hlat]
  refine ⟨(State.siFilt_siShow _ _ _).trans hfilt, (State.siShow_eff _ _).trans (by rw [hfilt, hbad]), ?_, fun a ha => ?_⟩
  · rw [State.safeIn, State.siShow_safe]
    exact congrArg SafeIn.trans (State.safeIn_setSafeIn_same u i x)
  · rw [State.reg_siShow _ _ ha, State.reg_setSafeIn, hu, State.reg_setFlag_ne _ _ _ _ _ ha, State.reg_setFlag_ne _ _ _ _ _ ha]

/-- One input in a check window: the test of TP`t` on an active input with test pulses. -/
def State.tpCheck (s : State) (t zeros i : Nat) : State :=
  let tp := cfgFld s.safeCfg (R.SAFE_SI_CFG i) F.SAFE_SI_CFG_TP
  if tp = 0 || !s.siFilt i then s
  else
    let pass := bit zeros i == (tp == t + 1)
    let s := s.setSafeIn i { s.safeIn i with winOk := pass }
    if pass then s else s.siFault i (if tp = t + 1 then siSTUCK else siCROSS)

theorem State.tpWindow_eq {s : State} {t zeros : Nat} (hact : s.safe.act.isSome = true) (hvso : s.boot.vso = true)
    (hen : cfgFlag s.safeCfg (R.SAFE_TP t) F.SAFE_TP_EN = true) :
    s.tpWindow t zeros = (List.range 16).foldl (fun s i => s.tpCheck t zeros i) s := by
  have hnone : s.safe.act.isNone = false := Option.isNone_eq_false_iff.2 hact
  rw [State.tpWindow, hnone, hvso, hen]
  rfl

/-- A check touches its own input only, and no filtered state. -/
theorem State.tpCheck_stands (s : State) (t zeros i : Nat) : (∀ k, k ≠ i → (s.tpCheck t zeros i).safeIn k = s.safeIn k) ∧
    (∀ k, (s.tpCheck t zeros i).siFilt k = s.siFilt k) ∧ (s.tpCheck t zeros i).safe.act = s.safe.act := by
  simp only [State.tpCheck]
  split
  · exact ⟨fun _ _ => rfl, fun _ => rfl, rfl⟩
  split
  · exact ⟨fun k hk => State.safeIn_setSafeIn_ne _ _ hk, fun _ => rfl, rfl⟩
  · obtain ⟨-, hin, hfilt, hact⟩ := State.siFault_spec (s.setSafeIn i { s.safeIn i with
      winOk := bit zeros i == (cfgFld s.safeCfg (R.SAFE_SI_CFG i) F.SAFE_SI_CFG_TP == t + 1) }) i
      (if cfgFld s.safeCfg (R.SAFE_SI_CFG i) F.SAFE_SI_CFG_TP = t + 1 then siSTUCK else siCROSS)
    exact ⟨fun k hk => (hin k hk).trans (State.safeIn_setSafeIn_ne _ _ hk), fun k => (hfilt k).trans (State.siFilt_setSafeIn _ _ _ _), hact⟩

/-- The faults that a check leaves at an input. -/
def Checked (t zeros i : Nat) (s u : State) : Prop :=
  let own := cfgFld s.safeCfg (R.SAFE_SI_CFG i) F.SAFE_SI_CFG_TP
  (own = 0 ∨ s.siFilt i = false → (u.safeIn i).lat = (s.safeIn i).lat) ∧
  (own ≠ 0 → s.siFilt i = true →
    (own = t + 1 → (bit zeros i = true → (u.safeIn i).lat = (s.safeIn i).lat) ∧ (bit zeros i = false → siSTUCK ∈ (u.safeIn i).lat)) ∧
    (own ≠ t + 1 → (bit zeros i = false → (u.safeIn i).lat = (s.safeIn i).lat) ∧ (bit zeros i = true → siCROSS ∈ (u.safeIn i).lat)))

theorem State.tpCheck_checked (s : State) (t zeros i : Nat) : Checked t zeros i s (s.tpCheck t zeros i) := by
  have hsame (b : Bool) : ((s.setSafeIn i { s.safeIn i with winOk := b }).safeIn i).lat = (s.safeIn i).lat := by
    rw [State.safeIn_setSafeIn_same]
  refine ⟨fun h => ?_, fun hown hf => ⟨fun ht => ⟨fun hb => ?_, fun hb => ?_⟩, fun ht => ⟨fun hb => ?_, fun hb => ?_⟩⟩⟩
  · rcases h with h | h <;> simp [State.tpCheck, h]
  · have hown' : ¬ (t + 1 = 0) := Nat.succ_ne_zero t
    simp only [State.tpCheck, ht, hf, hb, hown', BEq.rfl, Bool.not_true, decide_false, Bool.or_self, Bool.false_eq_true, if_false, if_true]
    exact hsame true
  · have hown' : ¬ (t + 1 = 0) := Nat.succ_ne_zero t
    simp only [State.tpCheck, ht, hf, hb, hown', BEq.rfl, Bool.not_true, decide_false, Bool.or_self, Bool.false_eq_true, if_false, if_true]
    exact (State.siFault_spec _ i siSTUCK).1
  · have hne : (cfgFld s.safeCfg (R.SAFE_SI_CFG i) F.SAFE_SI_CFG_TP == t + 1) = false := beq_false_of_ne ht
    simp only [State.tpCheck, hne, hf, hb, hown, BEq.rfl, Bool.not_true, decide_false, Bool.or_self, Bool.false_eq_true, if_false, if_true]
    exact hsame true
  · have hne : (cfgFld s.safeCfg (R.SAFE_SI_CFG i) F.SAFE_SI_CFG_TP == t + 1) = false := beq_false_of_ne ht
    simp only [State.tpCheck, hne, hf, hb, hown, ht, Bool.not_true, decide_false, Bool.or_self, Bool.false_eq_true, if_false]
    exact (State.siFault_spec _ i siCROSS).1

/-- A check says the same of states that agree at its input. -/
theorem Checked.congr {t zeros i : Nat} {s s' u u' : State} (h : Checked t zeros i s u) (hact : s'.safe.act = s.safe.act)
    (hfilt : s'.siFilt i = s.siFilt i) (hin : s'.safeIn i = s.safeIn i) (hout : u'.safeIn i = u.safeIn i) : Checked t zeros i s' u' := by
  have hcfg : s'.safeCfg = s.safeCfg := by rw [State.safeCfg, State.safeCfg, hact]
  simpa only [Checked, hcfg, hfilt, hin, hout] using h

/-- Checks in turn: each input is checked as it stood. -/
theorem State.tpChecks_checked (t zeros : Nat) (xs : List Nat) (hxs : xs.Nodup) (s : State) {i : Nat} (hi : i ∈ xs) :
    Checked t zeros i s (xs.foldl (fun s i => s.tpCheck t zeros i) s) := by
  induction xs generalizing s with
  | nil => exact absurd hi List.not_mem_nil
  | cons x xs ih =>
    obtain ⟨hx, hxs⟩ := List.nodup_cons.1 hxs
    obtain ⟨hin, hfilt, hact⟩ := s.tpCheck_stands t zeros x
    rw [List.foldl_cons]
    by_cases hix : i = x
    · subst hix
      have hrest : (xs.foldl (fun s i => s.tpCheck t zeros i) (s.tpCheck t zeros i)).safeIn i = (s.tpCheck t zeros i).safeIn i :=
        foldl_stands (fun u : State => u.safeIn i) (fun u y hy => (u.tpCheck_stands t zeros y).1 i fun h => hx (h ▸ hy)) _
      exact (s.tpCheck_checked t zeros i).congr rfl rfl rfl hrest
    · exact (ih hxs (s.tpCheck t zeros x) ((List.mem_cons.1 hi).resolve_left hix)).congr hact.symm (hfilt i).symm (hin i hix).symm rfl

/-! ### Outputs and global faults (R373 to R378) -/

theorem State.safeCause_congr {s t : State} (h : t.reg R.SAFE_STAT = s.reg R.SAFE_STAT) : t.safeCause = s.safeCause := State.fld_of_reg h _

/-- A global fault while none is latched: its cause stands and every output is off. -/
theorem State.safeGlobal_first {s : State} {c : Nat} (hc : c < 8) (hact : s.safe.act.isSome = true) (h : s.safeCause = 0) :
    (s.safeGlobal c).safeCause = c ∧ (s.safeGlobal c).pins.sq = [] ∧ ∀ o, ((s.safeGlobal c).safeOut o).drive = false := by
  have hnone : s.safe.act.isNone = false := Option.isNone_eq_false_iff.2 hact
  set u := (s.setFld R.SAFE_STAT F.SAFE_STAT_CAUSE c).safeAllOff with hu
  have heq : s.safeGlobal c = u.event Ev.SAFE_GLOBAL_FAULT 0xFF c := by rw [State.safeGlobal, hnone, h]; rfl
  have hoff (l : List (Nat × SafeOut)) (o : Nat) : (tgetD (l.map (fun e => (e.1, { e.2 with drive := false }))) o SafeOut.reset).drive = false := by
    induction l with
    | nil => rfl
    | cons e l ih =>
      rw [tgetD] at ih ⊢
      rw [List.map_cons, tget]
      split
      · rfl
      · exact ih
  rw [heq]
  refine ⟨?_, ?_, fun o => ?_⟩
  · rw [State.safeCause, State.fld_event _ _ _ _ _ _ _ _ (by decide)]
    exact (State.fld_setFld_same s _ _ _ (by decide)).trans (Nat.mod_eq_of_lt (Nat.lt_trans hc (by decide)))
  · rcases State.event_pins_or u Ev.SAFE_GLOBAL_FAULT 0xFF c 0 none with hp | hp <;> rw [hp]
    rfl
  · rw [State.safeOut, State.event_safe]
    exact hoff _ o

theorem State.safeGlobal_later {s : State} {c : Nat} (h : s.safeCause ≠ 0) : s.safeGlobal c = s := by
  rw [State.safeGlobal, bne_iff_ne.2 h, Bool.or_true, if_pos rfl]

/-- A fault of an output that had none: it is shown and the output is off, at the pin too. -/
theorem State.sqFail_spec {s : State} {o code : Nat} (hc : code < 8) (h : s.sqFault o = 0) : (s.sqFail o code).sqFault o = code ∧
    ((s.sqFail o code).safeOut o).drive = false ∧ o ∉ (s.sqFail o code).pins.sq := by
  rw [State.sqFail, if_pos h]
  refine ⟨(State.fld_setFld_same s _ _ _ (by decide)).trans (Nat.mod_eq_of_lt hc), congrArg SafeOut.drive (State.safeOut_setSafeOut ..), ?_⟩
  simp [State.sqDrive]

section
variable {s : State} {o : Nat}

theorem State.sqReadback_off (hact : s.safe.act.isSome = true) (hvso : s.boot.vso = true) (hon : (s.safeOut o).drive = true)
    (h : s.sqFault o = 0) : (s.sqReadback o).sqFault o = sqREADBACK ∧ ((s.sqReadback o).safeOut o).drive = false ∧
      o ∉ (s.sqReadback o).pins.sq := by
  have hnone : s.safe.act.isNone = false := Option.isNone_eq_false_iff.2 hact
  have h' : (s.setFlag (R.SAFE_SQ_STAT o) F.SAFE_SQ_STAT_PIN false).sqFault o = 0 := (State.fld_setFld_ne _ _ _ _ _ (by decide)).trans h
  simp only [State.sqReadback, hnone, hvso, hon, Bool.not_true, Bool.or_self, Bool.false_eq_true, if_false, if_true]
  exact State.sqFail_spec (by decide) h'

theorem State.sqReadback_on (hact : s.safe.act.isSome = true) (hvso : s.boot.vso = true) (hoff : (s.safeOut o).drive = false) :
    s.sqReadback o = (s.setFlag (R.SAFE_SQ_STAT o) F.SAFE_SQ_STAT_PIN true).safeGlobal gfSTUCK_ON := by
  have hnone : s.safe.act.isNone = false := Option.isNone_eq_false_iff.2 hact
  simp only [State.sqReadback, hnone, hvso, hoff, Bool.not_true, Bool.not_false, Bool.or_self, Bool.false_eq_true, if_false]

theorem State.sqOverload_spec (ho : o < 8) (hact : s.safe.act.isSome = true) (hvso : s.boot.vso = true) (h : s.sqFault o = 0) :
    (s.sqOverload o).sqFault o = sqOVERLOAD ∧ ((s.sqOverload o).safeOut o).drive = false ∧ o ∉ (s.sqOverload o).pins.sq := by
  have hnone : s.safe.act.isNone = false := Option.isNone_eq_false_iff.2 hact
  obtain ⟨hf, hd, hp⟩ := State.sqFail_spec (s := s) (o := o) (code := sqOVERLOAD) (by decide) h
  rw [State.sqOverload, hnone, hvso, if_neg (by decide)]
  refine ⟨?_, ?_, ?_⟩
  · rw [State.sqFault, State.fld_event _ _ _ _ _ _ _ _ (by simp only [R.SAFE_SQ_STAT]; omega)]
    exact hf
  · rw [State.safeOut, State.event_safe]
    exact hd
  · rcases State.event_pins_or (s.sqFail o sqOVERLOAD) Ev.SQ_OVERLOAD 0xFF o 0 none with hq | hq <;> rw [hq]
    · exact hp
    · exact List.not_mem_nil

end

/-! ### Acknowledgement (R371, R379, R387) -/

theorem State.reg_safeLog (s : State) (kind : Nat) (v cert : Word) {a : Nat} (h : a ≠ R.SAFE_LOG_STAT) : (s.safeLog kind v cert).reg a = s.reg a := by
  simp only [State.safeLog]
  rw [State.reg_setFld_ne _ _ _ _ _ h]
  exact (ite_stands (fun u : State => u.reg a) (State.reg_setFld_ne _ _ _ _ _ h)).trans rfl

theorem State.safeLog_safe (s : State) (kind : Nat) (v cert : Word) : (s.safeLog kind v cert).safe.ins = s.safe.ins ∧
    (s.safeLog kind v cert).safe.outs = s.safe.outs ∧ (s.safeLog kind v cert).safe.rx = s.safe.rx := by
  simp only [State.safeLog]
  split <;> exact ⟨rfl, rfl, rfl⟩

theorem sqStat_ne {o k : Nat} (h : o ≠ k) : R.SAFE_SQ_STAT o ≠ R.SAFE_SQ_STAT k := by simp only [R.SAFE_SQ_STAT]; omega

/-- Every output carries the interlock, and nothing else changes. -/
theorem State.sqLockAll_spec (s : State) : (∀ o, o < 8 → s.sqLockAll.sqLocked o = true) ∧ s.sqLockAll.reg R.SAFE_STAT = s.reg R.SAFE_STAT := by
  have hfold (xs : List Nat) (u : State) (o : Nat) (h : o ∈ xs ∨ u.sqLocked o = true) : (xs.foldl (fun (s : State) o =>
      s.setFlag (R.SAFE_SQ_STAT o) F.SAFE_SQ_STAT_INTERLOCK true) u).sqLocked o = true := by
    induction xs generalizing u with
    | nil => exact h.resolve_left List.not_mem_nil
    | cons x xs ih =>
      refine ih _ ?_
      by_cases hx : o = x
      · exact Or.inr (by rw [hx]; exact State.flag_setFlag_same _ _ _ _ (by decide) rfl)
      · exact h.imp (fun h => (List.mem_cons.1 h).resolve_left hx)
          fun h => (State.flag_of_reg (State.reg_setFlag_ne _ _ _ _ _ (sqStat_ne hx)) _).trans h
  refine ⟨fun o ho => hfold _ s o (Or.inl (List.mem_range.2 ho)), ?_⟩
  rw [State.sqLockAll]
  exact foldl_stands (fun u : State => u.reg R.SAFE_STAT) (fun u x _ => State.reg_setFlag_ne _ _ _ _ _ (by
    simp only [R.SAFE_STAT, R.SAFE_SQ_STAT]; omega)) s

/-- The state a released fault leaves: its own input's list without it. -/
theorem State.siFree_lat (s : State) (i code : Nat) : ((s.siFree i code).safeIn i).lat = (s.safeIn i).lat.filter (fun f => f != code) := by
  have h (u : State) (m : Nat) : (u.siShow m).safeIn i = u.safeIn i := State.safeIn_congr (congrArg SafeSt.ins (State.siShow_safe u m)) i
  rw [State.siFree, h, h, State.safeIn_setSafeIn_same]

/-- What a receive connection shows is in its status register only. -/
theorem State.rxShow_safe (s : State) (c : Nat) : (s.rxShow c).safe = s.safe := by
  simp only [State.rxShow, State.setFld_safe]

section
variable {s : State} {idx : Nat} {cert : Word} (hact : s.safe.act.isSome = true)
include hact

/-- A global fault whose cause remains, or with the safety partition at rest, is not released. -/
theorem State.safeAck1_global_refused (hc : s.safeCause ≠ 0) (h : s.running s.safePart = false ∨ s.causeRemains = true) :
    s.safeAck1 0 idx cert = s.ackRefused 0 idx cert := by
  simp only [State.safeAck1, Option.isNone_eq_false_iff.2 hact, Bool.false_eq_true, if_false, if_neg hc]
  rcases h with h | h <;> simp [h]

theorem State.safeAck1_global (hc : s.safeCause ≠ 0) (hrun : s.running s.safePart = true) (hgone : s.causeRemains = false) :
    (s.safeAck1 0 idx cert).safeCause = 0 ∧ ∀ o, o < 8 → (s.safeAck1 0 idx cert).sqLocked o = true := by
  have heq : s.safeAck1 0 idx cert = ((s.setFld R.SAFE_STAT F.SAFE_STAT_CAUSE 0).sqLockAll).ackDone 0 idx cert := by
    simp only [State.safeAck1, Option.isNone_eq_false_iff.2 hact, Bool.false_eq_true, if_false, if_neg hc, hrun, hgone, Bool.not_true,
      Bool.or_self]
  obtain ⟨hlock, hstat⟩ := State.sqLockAll_spec (s.setFld R.SAFE_STAT F.SAFE_STAT_CAUSE 0)
  rw [heq]
  constructor
  · refine (State.safeCause_congr ((State.reg_safeLog _ _ _ _ (by decide)).trans hstat)).trans ?_
    exact (State.fld_setFld_same s _ _ _ (by decide)).trans rfl
  · intro o ho
    exact (State.flag_of_reg (State.reg_safeLog _ _ _ _ (by simp only [R.SAFE_SQ_STAT, R.SAFE_LOG_STAT]; omega)) _).trans (hlock o ho)

theorem State.safeAck1_input (hi : idx < 16) (hlat : siSTUCK ∈ (s.safeIn idx).lat ∨ siCROSS ∈ (s.safeIn idx).lat) :
    ((s.safeIn idx).edge = true → (s.safeIn idx).winOk = false → s.safeAck1 1 idx cert = s.ackRefused 1 idx cert) ∧
    ((s.safeIn idx).edge = false ∨ (s.safeIn idx).winOk = true → ((s.safeAck1 1 idx cert).safeIn idx).lat =
      ((s.safeIn idx).lat.filter (fun f => f != siSTUCK)).filter (fun f => f != siCROSS)) := by
  have hhas : ((s.safeIn idx).lat.contains siSTUCK || (s.safeIn idx).lat.contains siCROSS) = true := by
    rw [Bool.or_eq_true, List.contains_iff_mem, List.contains_iff_mem]
    exact hlat
  have heq : s.safeAck1 1 idx cert = if (s.safeIn idx).edge && !(s.safeIn idx).winOk then s.ackRefused 1 idx cert
      else ((s.siFree idx siSTUCK).siFree idx siCROSS).ackDone 1 idx cert := by
    simp only [State.safeAck1, Option.isNone_eq_false_iff.2 hact, hhas, hi, decide_true, Bool.and_self, Bool.false_eq_true, if_false, if_true]
  rw [heq]
  constructor
  · intro he hw
    rw [he, hw, if_pos (by decide)]
  · intro h
    rw [if_neg (by rcases h with h | h <;> simp [h]), State.ackDone, State.safeIn_congr (State.safeLog_safe _ _ _ _).1, State.siFree_lat,
      State.siFree_lat]

theorem State.safeAck1_output (ho : idx < 8) (hf : s.sqFault idx ≠ 0) (blocked : Bool)
    (hb : ((s.sqFault idx == sqREADBACK && s.flag (R.SAFE_SQ_STAT idx) F.SAFE_SQ_STAT_PIN != (s.safeOut idx).drive) ||
      (s.sqFault idx == sqEDM && s.edmBad idx)) = blocked) :
    (blocked = true → s.safeAck1 2 idx cert = s.ackRefused 2 idx cert) ∧
    (blocked = false → (s.safeAck1 2 idx cert).sqFault idx = 0 ∧ (s.safeAck1 2 idx cert).sqLocked idx = true ∧
      (s.safeAck1 2 idx cert).safeCause = s.safeCause) := by
  have hfault : (s.sqFault idx != 0) = true := bne_iff_ne.2 hf
  set u := (s.setFld (R.SAFE_SQ_STAT idx) F.SAFE_SQ_STAT_FAULT 0).setFlag (R.SAFE_SQ_STAT idx) F.SAFE_SQ_STAT_INTERLOCK true with hu
  set w := u.setSafeOut idx { u.safeOut idx with edm := 0 } with hw
  have heq : s.safeAck1 2 idx cert = if blocked = true then s.ackRefused 2 idx cert else w.ackDone 2 idx cert := by
    simp only [State.safeAck1, Option.isNone_eq_false_iff.2 hact, hfault, ho, hb, decide_true, Bool.and_self, Bool.false_eq_true, if_false,
      if_true, ← hu, ← hw]
  rw [heq]
  constructor
  · exact fun h => if_pos h
  · intro h
    have hreg {a : Nat} (ha : a ≠ R.SAFE_LOG_STAT) : (w.ackDone 2 idx cert).reg a = u.reg a := State.reg_safeLog w _ _ _ ha
    have hstat := hreg (a := R.SAFE_SQ_STAT idx) (by simp only [R.SAFE_SQ_STAT, R.SAFE_LOG_STAT]; omega)
    rw [if_neg (by rw [h]; exact Bool.false_ne_true)]
    refine ⟨(State.fld_of_reg hstat _).trans ?_, (State.flag_of_reg hstat _).trans (State.flag_setFlag_same _ _ _ _ (by decide) rfl), ?_⟩
    · rw [hu, State.setFlag, State.fld_setFld_ne _ _ _ _ _ (by decide), State.fld_setFld_same _ _ _ _ (by decide)]
      rfl
    · have hne : R.SAFE_STAT ≠ R.SAFE_SQ_STAT idx := by simp only [R.SAFE_STAT, R.SAFE_SQ_STAT]; omega
      refine State.safeCause_congr ((hreg (by decide)).trans ?_)
      rw [hu, State.reg_setFlag_ne _ _ _ _ _ hne, State.reg_setFld_ne _ _ _ _ _ hne]

theorem State.safeAck1_rx (h : (s.safeRx idx).differ = true ∨ (s.safeRx idx).expired = true) :
    ((s.safeAck1 3 idx cert).safeRx idx).differ = ((s.safeRx idx).differ && (s.safeRx idx).split) ∧
    ((s.safeAck1 3 idx cert).safeRx idx).expired = ((s.safeRx idx).expired && decide ((s.safeRx idx).run < 16)) := by
  have hlat : ((s.safeRx idx).differ || (s.safeRx idx).expired) = true := Bool.or_eq_true _ _ ▸ h
  have hrx : (s.safeAck1 3 idx cert).safeRx idx = { s.safeRx idx with
      differ := (s.safeRx idx).differ && (s.safeRx idx).split, expired := (s.safeRx idx).expired && decide ((s.safeRx idx).run < 16) } := by
    have hnone : s.safe.act.isNone = false := Option.isNone_eq_false_iff.2 hact
    simp only [State.safeAck1, hnone, hlat, Bool.false_eq_true, if_false, if_true]
    split
    · rw [State.ackRefused, State.safeRx, State.event_safe, (State.safeLog_safe _ _ _ _).2.2, State.rxShow_safe]
      exact State.safeRx_setSafeRx ..
    · rw [State.ackDone, State.safeRx, (State.safeLog_safe _ _ _ _).2.2, State.rxShow_safe]
      exact State.safeRx_setSafeRx ..
  rw [hrx]
  exact ⟨rfl, rfl⟩

end

/-! ### Configuration (R388, R389) -/

/-- The result of a check is shown; only a good configuration is handed over. -/
theorem State.safeCheck_spec (s : State) (cert : Word) :
    (safeRangeOk s.safeRegs = false → s.safeCheck cert = s.setFld R.SAFE_STAT F.SAFE_STAT_APPLY_ERR 4) ∧
    (safeRangeOk s.safeRegs = true → s.safeImagesOk s.safeRegs = false → s.safeCheck cert = s.setFld R.SAFE_STAT F.SAFE_STAT_APPLY_ERR 3) ∧
    (safeRangeOk s.safeRegs = true → s.safeImagesOk s.safeRegs = true → (s.safeCheck cert).fld R.SAFE_STAT F.SAFE_STAT_APPLY_ERR = 0 ∧
      (s.safeCheck cert).safe.next = some (s.safeRegs, cert) ∧ (s.safeCheck cert).safe.act = s.safe.act) := by
  refine ⟨fun h => ?_, fun h hi => ?_, fun h hi => ?_⟩
  · simp [State.safeCheck, h]
  · simp [State.safeCheck, h, hi]
  · simp only [State.safeCheck, h, hi, Bool.not_true, Bool.false_eq_true, if_false, if_true]
    exact ⟨(State.fld_setFld_same s _ _ _ (by decide)).trans rfl, trivial, rfl⟩

/-- A register's RW bits take the word's, the others stand. -/
theorem getLsbD_masked (old w : Word) (m i : Nat) (hi : i < 32) :
    ((old &&& ~~~ (w32 m)) ||| (w &&& w32 m)).getLsbD i = if m.testBit i then w.getLsbD i else old.getLsbD i := by
  rw [BitVec.getLsbD_or, BitVec.getLsbD_and, BitVec.getLsbD_and, BitVec.getLsbD_not, getLsbD_w32 m i hi, decide_eq_true hi]
  cases m.testBit i <;> simp

/-! ### Receive connections (R385 to R387) -/

/-- An expired connection carries no DATA. -/
theorem State.rxLive_expired {s : State} {c : Nat} (h : (s.safeRx c).expired = true) : (s.rxShow c).rxLive c = false := by
  have hstate : ∀ v, v < 8 → v ≠ 2 → v ≠ 3 → ∀ n, (((s.setFld (R.SAFE_RX_STAT c) F.SAFE_RX_STAT_STATE v).setFld (R.SAFE_RX_STAT c)
      F.SAFE_RX_STAT_FOG_MIN n).rxLive c) = false := by
    intro v hv h2 h3 n
    rw [State.rxLive, State.fld_setFld_ne _ _ _ _ _ (by decide), State.fld_setFld_same _ _ _ _ (by decide),
      show v % 2 ^ F.SAFE_RX_STAT_STATE.len = v from Nat.mod_eq_of_lt hv, beq_false_of_ne h2, beq_false_of_ne h3]
    rfl
  simp only [State.rxShow, h, if_true]
  split
  · exact hstate 0 (by decide) (by decide) (by decide) _
  split
  · exact hstate 5 (by decide) (by decide) (by decide) _
  · exact hstate 6 (by decide) (by decide) (by decide) _

/-- Settles O45: inputs, outputs, global faults, acknowledgements, configuration and time limits, each by its own operation's lemma. -/
theorem safetyFunctions : Obligations.SafetyFunctions := by
  unfold Obligations.SafetyFunctions
  intro s hs cfg live
  have hlive (h : live = true) : s.safe.act.isSome = true ∧ s.boot.vso = true := Bool.and_eq_true_iff.1 h
  have hdead (h : live = false) : (s.safe.act.isNone || !s.boot.vso) = true := by
    rw [← Option.not_isSome, ← Bool.not_and]
    exact congrArg not h
  refine ⟨fun i v => ⟨fun h => ?_, fun h => ?_, fun h => ?_⟩, fun tp zeros => ⟨fun h => ?_, fun hl hen => ?_⟩,
    fun c _ hc hact => ⟨State.safeGlobal_first hc hact, State.safeGlobal_later⟩,
    fun o => ⟨fun hl hon h => ?_, fun hl hoff => ?_, fun hl h => ?_, fun hl => ⟨?_, ?_⟩, ?_, fun hl hen hon ht => ?_⟩,
    fun hrun hmiss => ?_, fun hmiss => ?_, ?_, ?_, fun sess hact => ⟨fun i hc => ⟨fun h => ?_, fun hrun hgone => ?_⟩, fun i hi hlat => ?_,
      fun o ho hf => ?_, fun c h => ?_⟩, fun sess => ⟨fun h => ?_, fun h hb => ?_, fun h hb hr => ?_, fun h hb hr hi => ?_, fun h hb hr hi => ?_, ?_,
      fun a w hm => ⟨fun h => ?_, fun h hb => ?_⟩⟩, fun c => ⟨fun hrx ht => ?_, fun k hk ht => ?_⟩, fun e he => ⟨fun ht => ?_, fun ht => ?_⟩,
    fun k hk => ⟨fun ht => ?_, fun ht => ?_⟩⟩
  · rw [exec_eq_next_of_onCore (f := fun s => s.siChange false i v) hs rfl, State.siChange, if_neg Bool.false_ne_true, if_pos h]
  · exact ⟨_, exec_eq_next_of_onCore (f := fun s => s.siChange false i v) hs rfl, State.siChange_si h⟩
  · rw [exec_eq_next_of_onCore (f := fun s => s.siChange true i v) hs rfl, State.siChange, if_pos rfl, if_pos h]
  · rw [exec_eq_next_of_onCore (f := fun s => s.tpWindow tp zeros.toNat) hs rfl, State.tpWindow, if_pos]
    rw [← Option.not_isSome, ← Bool.not_and, ← Bool.not_and]
    exact congrArg not h
  · refine ⟨_, exec_eq_next_of_onCore (f := fun s => s.tpWindow tp zeros.toNat) hs rfl, fun i hi => ?_⟩
    rw [State.tpWindow_eq (hlive hl).1 (hlive hl).2 hen]
    exact State.tpChecks_checked tp zeros.toNat (List.range 16) List.nodup_range s (List.mem_range.2 hi)
  · exact ⟨_, exec_eq_next_of_onCore (f := fun s => s.sqReadback o) hs rfl, State.sqReadback_off (hlive hl).1 (hlive hl).2 hon h⟩
  · exact (exec_eq_next_of_onCore (f := fun s => s.sqReadback o) hs rfl).trans (congrArg _ (State.sqReadback_on (hlive hl).1 (hlive hl).2 hoff))
  · exact ⟨_, exec_eq_next_of_onCore (f := fun s => s.sqOverload o) hs rfl, State.sqOverload_spec o.isLt (hlive hl).1 (hlive hl).2 h⟩
  · exact (exec_eq_next_of_onCore (f := fun s => s.sqReadback o) hs rfl).trans (congrArg _ (if_pos (hdead hl)))
  · exact (exec_eq_next_of_onCore (f := fun s => s.sqOverload o) hs rfl).trans (congrArg _ (if_pos (hdead hl)))
  · refine (exec_eq_next_of_onCore (f := fun s => s.sqTest o true) hs rfl).trans (congrArg _ (if_neg ?_))
    rw [Bool.not_true, Bool.and_false]
    exact Bool.false_ne_true
  · refine (exec_eq_next_of_onCore (f := fun s => s.sqTest o false) hs rfl).trans (congrArg _ (if_pos ?_))
    rw [(hlive hl).1, (hlive hl).2, hen, hon, beq_iff_eq.2 ht]
    rfl
  · obtain ⟨e, hemem, hlt⟩ := hmiss
    refine (exec_eq_next_of_onCore (f := fun s => if s.running s.safePart && s.safe.miss.any (fun e =>
      decide (cfgFld s.safeCfg R.SAFE_CFG F.SAFE_CFG_SWD_TOL < e.2)) then s.safeGlobal gfWATCHDOG else s) hs rfl).trans (congrArg _ (if_pos ?_))
    rw [hrun, Bool.true_and]
    exact List.any_eq_true.2 ⟨e, hemem, decide_eq_true hlt⟩
  · refine (exec_eq_next_of_onCore (f := fun s => if s.running s.safePart && s.safe.miss.any (fun e =>
      decide (cfgFld s.safeCfg R.SAFE_CFG F.SAFE_CFG_SWD_TOL < e.2)) then s.safeGlobal gfWATCHDOG else s) hs rfl).trans (congrArg _ (if_neg ?_))
    rw [List.any_eq_false.2 fun e he => by rw [decide_eq_true_iff]; exact Nat.not_lt.2 (hmiss e he), Bool.and_false]
    exact Bool.false_ne_true
  · exact exec_eq_next_of_onCore (f := fun s => ({ s with safe := { s.safe with monBad := false } } : State)) hs rfl
  · exact exec_eq_next_of_onCore (f := fun s => ({ s with safe := { s.safe with monBad := true } } : State).safeGlobal gfMONITOR) hs rfl
  · exact (exec_eq_next_of_onCore (f := fun s => s.safeAck1 0 i (s.certOf sess.toNat)) hs rfl).trans
      (congrArg _ (State.safeAck1_global_refused hact hc h))
  · exact ⟨_, exec_eq_next_of_onCore (f := fun s => s.safeAck1 0 i (s.certOf sess.toNat)) hs rfl, State.safeAck1_global hact hc hrun hgone⟩
  · have hexec := exec_eq_next_of_onCore (i := .safeAck sess 1 i) (f := fun s => s.safeAck1 1 i (s.certOf sess.toNat)) hs rfl
    obtain ⟨hrefused, hdone⟩ := State.safeAck1_input (cert := s.certOf sess.toNat) hact hi hlat
    exact ⟨fun he hw => hexec.trans (congrArg _ (hrefused he hw)), fun h => ⟨_, hexec, hdone h⟩⟩
  · have hexec := exec_eq_next_of_onCore (i := .safeAck sess 2 o) (f := fun s => s.safeAck1 2 o (s.certOf sess.toNat)) hs rfl
    intro blocked
    obtain ⟨hrefused, hdone⟩ := State.safeAck1_output (cert := s.certOf sess.toNat) hact ho hf blocked rfl
    exact ⟨fun h => hexec.trans (congrArg _ (hrefused h)), fun h => ⟨_, hexec, hdone h⟩⟩
  · exact ⟨_, exec_eq_next_of_onCore (f := fun s => s.safeAck1 3 c (s.certOf sess.toNat)) hs rfl, State.safeAck1_rx hact h⟩
  · exact (exec_eq_next_of_onCore (f := fun s => s.safeApply sess.toNat) hs rfl).trans (congrArg _ (by simp [State.safeApply, h]))
  · exact (exec_eq_next_of_onCore (f := fun s => s.safeApply sess.toNat) hs rfl).trans (congrArg _ (by simp [State.safeApply, h, hb]))
  · refine (exec_eq_next_of_onCore (f := fun s => s.safeApply sess.toNat) hs rfl).trans (congrArg _ ?_)
    simp only [State.safeApply, h, hb, Bool.not_true, Bool.false_eq_true, if_false]
    exact (s.safeCheck_spec _).1 hr
  · refine (exec_eq_next_of_onCore (f := fun s => s.safeApply sess.toNat) hs rfl).trans (congrArg _ ?_)
    simp only [State.safeApply, h, hb, Bool.not_true, Bool.false_eq_true, if_false]
    exact (s.safeCheck_spec _).2.1 hr hi
  · refine ⟨_, exec_eq_next_of_onCore (f := fun s => s.safeApply sess.toNat) hs rfl, ?_⟩
    simp only [State.safeApply, h, hb, Bool.not_true, Bool.false_eq_true, if_false]
    exact (s.safeCheck_spec _).2.2 hr hi
  · exact ⟨_, exec_eq_next_of_onCore (f := fun s => s.safeLock) hs rfl, rfl, rfl, rfl⟩
  · refine (exec_eq_next_of_onCore (f := fun s => if safeMask a.toNat = 0 then s else s.safeCfgWrite a.toNat w) hs rfl).trans
      (congrArg _ ((if_neg hm).trans (if_pos ?_)))
    rw [← Bool.not_not (b := s.safeBusy), ← Bool.not_and, h]
    rfl
  · have hwrite : s.safeCfgWrite a.toNat w = s.setReg a.toNat ((s.reg a.toNat &&& ~~~ (w32 (safeMask a.toNat))) ||| (w &&& w32 (safeMask a.toNat))) := by
      simp only [State.safeCfgWrite, h, hb, Bool.not_true, Bool.or_self, Bool.false_eq_true, if_false]
    refine ⟨_, (exec_eq_next_of_onCore (f := fun s => if safeMask a.toNat = 0 then s else s.safeCfgWrite a.toNat w) hs rfl).trans
      (congrArg _ ((if_neg hm).trans hwrite)), fun b hb => State.reg_setReg_ne _ _ _ _ hb, State.setReg_safe .., fun i hi => ?_⟩
    rw [State.reg_setReg_same]
    exact getLsbD_masked _ _ _ _ hi
  · refine ⟨_, (exec_eq_next_of_onCore (i := .safeRxTimeout c) (f := fun s => if (s.fld (R.SAFE_RX_STAT c) F.SAFE_RX_STAT_STATE == 2 ||
      s.fld (R.SAFE_RX_STAT c) F.SAFE_RX_STAT_STATE == 3) &&
      decide ((s.safeRx c).since + cfgFld s.safeCfg (R.SAFE_RX_WD c) F.SAFE_RX_WD_T_WD ≤ s.tick.count) then
        s.setFld (R.SAFE_RX_STAT c) F.SAFE_RX_STAT_STATE 4 else s) hs rfl).trans (congrArg _ (if_pos ?_)), ?_, ?_⟩
    · exact Bool.and_eq_true_iff.2 ⟨hrx, decide_eq_true ht⟩
    · exact (State.fld_setFld_same s _ _ _ (by decide)).trans rfl
    · rw [State.rxLive, State.fld_setFld_same s _ _ _ (by decide)]
      rfl
  · refine ⟨_, exec_eq_next_of_onCore (i := .fogExpired c) (f := fun s => match (s.safeRx c.val).fog with
      | some t => if t + 288000 * cfgFld s.safeCfg R.SAFE_CFG F.SAFE_CFG_T_DEG ≤ s.tick.count then
          (s.setSafeRx c.val { s.safeRx c.val with expired := true }).rxShow c.val else s
      | none => s) hs rfl, ?_⟩
    have ht' : k + 288000 * cfgFld s.safeCfg R.SAFE_CFG F.SAFE_CFG_T_DEG ≤ s.tick.count := ht
    simp only [hk, if_pos ht']
    have hexp (x : SafeRx) (hx : x.expired = true) : ((s.setSafeRx c x).safeRx c).expired = true := by rwa [State.safeRx_setSafeRx]
    refine ⟨?_, State.rxLive_expired (hexp _ rfl)⟩
    rw [State.safeRx_congr (congrArg SafeSt.rx (State.rxShow_safe _ _))]
    exact hexp _ rfl
  · refine ⟨_, exec_eq_next_of_onCore (i := .safeUnlockExpiry) (f := fun s => match s.safe.unlock with
      | some (_, t) => if t + 2880000 ≤ s.tick.count then s.safeLock else s
      | none => s) hs rfl, ?_⟩
    simp only [he, if_pos ht]
    exact ⟨rfl, rfl⟩
  · rw [exec_eq_next_of_onCore (i := .safeUnlockExpiry) (f := fun s => match s.safe.unlock with
      | some (_, t) => if t + 2880000 ≤ s.tick.count then s.safeLock else s
      | none => s) hs rfl]
    simp only [he, if_neg (Nat.not_le.2 ht)]
  · refine ⟨_, exec_eq_next_of_onCore (i := .lockoutExpiry) (f := fun s => match s.safe.lockedAt with
      | some t => if t + 2880000 ≤ s.tick.count then
          ({ s with safe := { s.safe with lockedAt := none } } : State).setFlag R.SAFE_STAT F.SAFE_STAT_LOCKOUT false else s
      | none => s) hs rfl, ?_⟩
    simp only [hk, if_pos ht]
    exact ⟨by rw [State.setFlag_safe], State.flag_setFlag_same _ _ _ _ (by decide) rfl⟩
  · rw [exec_eq_next_of_onCore (i := .lockoutExpiry) (f := fun s => match s.safe.lockedAt with
      | some t => if t + 2880000 ≤ s.tick.count then
          ({ s with safe := { s.safe with lockedAt := none } } : State).setFlag R.SAFE_STAT F.SAFE_STAT_LOCKOUT false else s
      | none => s) hs rfl]
    simp only [hk, if_neg (Nat.not_le.2 ht)]

end Sys2Proof.Machine

/-!
SUPPORT. Twin pairs (chapter 18): the lanyard, joining, decisions and the witness.
-/
namespace Sys2Proof.Machine

/-! ### A sealed tile in its store (R108, R119, R121, R127) -/

/-- The payload bytes of a sealed tile. -/
theorem sealTile_getElem_payload (payload : List Byte) (owner kind flags ident : Nat) (gen pkey : Word) (i : Nat) (hi : i < 4064)
    (h : i < (sealTile payload owner kind flags ident gen pkey).length) :
    (sealTile payload owner kind flags ident gen pkey)[i] = payload.getD i 0 := by
  have hlen : i < (sub payload 0 4064).length := by rw [sub_length]; exact hi
  simp only [sealTile, List.append_assoc]
  rw [List.getElem_append_left hlen]
  simp only [sub, List.drop_zero]
  by_cases hp : i < payload.length
  · rw [List.getElem_append_left (by rw [List.length_take]; omega), List.getElem_take, List.getD_eq_getElem _ _ hp]
  · rw [List.getElem_append_right (by rw [List.length_take]; omega), List.getElem_replicate, List.getD_eq_default _ _ (Nat.not_lt.1 hp)]

/-- A byte of a location after 4096 bytes have been written to a location. -/
theorem State.byte_setTile (s : State) {l m i : Nat} {b : List Byte} (hb : b.length = 4096) (hi : i < 4096) :
    (s.setBytes (tileAddr l) b).byte (tileAddr m + i) = if m = l then b[i]'(lt_of_lt_of_eq hi hb.symm) else s.byte (tileAddr m + i) := by
  rw [State.byte_setBytes]
  by_cases h : m = l
  · subst h
    rw [dif_pos (by omega), if_pos rfl]
    simp only [Nat.add_sub_cancel_left]
  · rw [dif_neg (by simp only [tileAddr, hb]; omega), if_neg h]

/-- A location written stands with its bytes and generation, whether or not its twin copy is written too. -/
theorem State.putTile_spec (s : State) (loc : Nat) {b : List Byte} (gen : Word) (hb : b.length = 4096) :
    (s.putTile loc b gen).reg (R.TS_DIR_GEN loc) = gen ∧
    ∀ i (hi : i < 4096), (s.putTile loc b gen).byte (tileAddr loc + i) = b[i]'(lt_of_lt_of_eq hi hb.symm) := by
  have hone : ((s.setBytes (tileAddr loc) b).setReg (R.TS_DIR_GEN loc) gen).reg (R.TS_DIR_GEN loc) = gen ∧ ∀ i (hi : i < 4096),
      ((s.setBytes (tileAddr loc) b).setReg (R.TS_DIR_GEN loc) gen).byte (tileAddr loc + i) = b[i]'(lt_of_lt_of_eq hi hb.symm) :=
    ⟨State.reg_setReg_same .., fun i hi => (s.byte_setTile hb hi).trans (if_pos rfl)⟩
  set u := (s.setBytes (tileAddr loc) b).setReg (R.TS_DIR_GEN loc) gen with hu
  simp only [State.putTile, ← hu]
  split
  · set c := u.linkLoc loc with hcdef
    have hc : c < 4096 := by
      have hlink : u.fld (R.TS_DIR_CTL loc) F.TS_DIR_CTL_LINK < 64 := u.fld_lt _ F.TS_DIR_CTL_LINK
      rw [hcdef, State.linkLoc]
      omega
    have htwo : ((u.setBytes (tileAddr c) b).setReg (R.TS_DIR_GEN c) gen).reg (R.TS_DIR_GEN loc) = gen ∧ ∀ i (hi : i < 4096),
        ((u.setBytes (tileAddr c) b).setReg (R.TS_DIR_GEN c) gen).byte (tileAddr loc + i) = b[i]'(lt_of_lt_of_eq hi hb.symm) := by
      refine ⟨?_, fun i hi => (u.byte_setTile hb hi).trans ?_⟩
      · by_cases h : loc = c
        · rw [h, State.reg_setReg_same]
        · rw [State.reg_setReg_ne _ _ _ _ (by simp only [R.TS_DIR_GEN]; omega), State.reg_setBytes, hone.1]
      · split
        · rfl
        · exact hone.2 i hi
    split
    · obtain ⟨hmem, hreg, -⟩ := State.repairDone_stands ((u.setBytes (tileAddr c) b).setReg (R.TS_DIR_GEN c) gen) c
      refine ⟨(hreg _ ?_ ?_).trans htwo.1, fun i hi => (State.byte_congr hmem _).trans (htwo.2 i hi)⟩
      · simp only [R.TS_DIR_GEN, R.TS_DIR_CTL]; omega
      · simp only [R.TS_DIR_GEN, R.TS_REPAIR_STAT]; omega
    · exact htwo
  · exact hone

/-- The end of a repair that a write supersedes touches no generation and no byte. -/
theorem State.supersede_stands (s : State) {loc : Nat} (hl : loc < 4096) : (s.supersede loc).mem = s.mem ∧
    (s.supersede loc).reg (R.TS_DIR_GEN loc) = s.reg (R.TS_DIR_GEN loc) := by
  rw [State.supersede]
  split
  · obtain ⟨hmem, hreg, -⟩ := s.repairDone_stands loc
    refine ⟨(State.event_mem ..).trans hmem, ?_⟩
    rw [State.reg_event _ _ _ _ _ _ _ (by simp only [R.TS_DIR_GEN]; omega)]
    exact hreg _ (by simp only [R.TS_DIR_GEN, R.TS_DIR_CTL]; omega) (by simp only [R.TS_DIR_GEN, R.TS_REPAIR_STAT]; omega)
  · exact ⟨rfl, rfl⟩

theorem State.allocated_lt {s : State} {l : Nat} (h : l ∈ s.allocated) : l < 4096 := by
  obtain ⟨e, he, rfl⟩ := List.mem_map.1 h
  have h1 := (List.mem_filter.1 he).2
  simp only [Bool.and_eq_true, decide_eq_true_eq] at h1
  obtain ⟨⟨h2, h3⟩, -⟩ := h1
  omega

theorem State.reg_setTwin (s : State) (f : TwinSt → TwinSt) (a : Nat) : (s.setTwin f).reg a = s.reg a := rfl

theorem State.setTwin_mem (s : State) (f : TwinSt → TwinSt) : (s.setTwin f).mem = s.mem := rfl

/-! ### Lanyard records (R422 to R426, R435, R436) -/

/-- The state once a record's number is among those taken. -/
def State.took (s : State) (r : LanRec) : State := s.setTwin (fun t => { t with seen := (r.seq.toNat :: t.seen).take 64 })

section
variable {s : State} {r : LanRec}

theorem State.lanyardTake_new (hon : s.twinOn = true) (hcrc : r.crcOk = true) (hseen : r.seq.toNat ∉ s.twin.seen) (f : State → State) :
    s.lanyardTake r f = f (s.took r) := by
  have hc : s.twin.seen.contains r.seq.toNat = false := by
    rw [← Bool.not_eq_true, List.contains_iff_mem]
    exact hseen
  simp only [State.lanyardTake, hon, hcrc, hc, Bool.not_true, Bool.or_self, Bool.false_eq_true, if_false]
  rfl

theorem State.lanyardTake_old (h : s.twinOn = false ∨ r.crcOk = false ∨ r.seq.toNat ∈ s.twin.seen) (f : State → State) :
    s.lanyardTake r f = s := by
  refine if_pos ?_
  rcases h with h | h | h
  · rw [h]; rfl
  · rw [h, Bool.not_false, Bool.or_true, Bool.true_or]
  · rw [List.contains_iff_mem.2 h, Bool.or_true]

/-- The shadow takes newer content under its own seal with the record's generation. -/
theorem State.shadowWrite_spec (s : State) {l : Nat} (b : List Byte) (gen : Word) (hl : l < 4096) :
    (s.shadowWrite l b gen).dirGen l = gen ∧ ∀ i, i < 4064 → (s.shadowWrite l b gen).byte (tileAddr l + i) = b.getD i 0 := by
  set t := sealTile (b.take 4064) (s.dirOwner l) (s.dirKind l) (s.dirFlags l) (s.dirIdent l) gen (s.pkey (s.dirOwner l)) with ht
  obtain ⟨hgen, hbytes⟩ := s.putTile_spec l (b := t) gen (sealTile_length ..)
  obtain ⟨hmem, hreg⟩ := (s.putTile l t gen).supersede_stands hl
  refine ⟨hreg.trans hgen, fun i hi => (State.byte_congr hmem _).trans ((hbytes i (by omega)).trans ?_)⟩
  simp only [ht]
  rw [sealTile_getElem_payload _ _ _ _ _ _ _ i hi, List.getD_eq_getElem?_getD, List.getD_eq_getElem?_getD, List.getElem?_take, if_pos hi]

theorem State.lanyardTile_newer {b : List Byte} {l : Nat} (hl : s.shadowOf r.ident.toNat = some l) (hgood : mirrorGood b r = true)
    (hnew : newer r.gen (s.dirGen l) = true) : (s.lanyardTile r b).dirGen l = r.gen ∧
      ∀ i, i < 4064 → (s.lanyardTile r b).byte (tileAddr l + i) = b.getD i 0 := by
  have hlt : l < 4096 := State.allocated_lt (List.mem_of_find?_eq_some hl)
  have hspec := s.shadowWrite_spec b r.gen hlt
  simp only [State.lanyardTile, hl, hgood, hnew, Bool.not_true, Bool.or_self, Bool.false_eq_true, if_false]
  split
  · split
    · have hne : R.TS_DIR_GEN l ≠ R.TWIN_LANYARD := by simp only [R.TS_DIR_GEN, R.TWIN_LANYARD]; omega
      refine ⟨?_, fun i hi => (State.byte_congr ?_ _).trans (hspec.2 i hi)⟩
      · rw [State.dirGen, State.reg_setTwin, State.incFld, State.reg_setFld_ne _ _ _ _ _ hne]
        exact hspec.1
      · rw [State.setTwin_mem, State.incFld_mem]
    · exact hspec
  · exact hspec

theorem State.lanyardTile_stale {b : List Byte} {l : Nat} (hl : s.shadowOf r.ident.toNat = some l)
    (h : newer r.gen (s.dirGen l) = false ∨ mirrorGood b r = false) : s.lanyardTile r b = s := by
  simp only [State.lanyardTile, hl]
  rcases h with h | h <;> simp [h]

/-- The answer of a partner enters the one buffer that asked for it. -/
theorem State.repairAns_asked {b : List Byte} {k loc asked : Nat} (hbuf : s.tiles.repairBuf = [(k, ⟨loc, .partner, asked, none⟩)])
    (hid : s.dirIdent loc = r.ident.toNat) : ∃ x, (s.repairAns r b).tiles.repairBuf = [(k, ⟨loc, .partner, asked, some x⟩)] ∧
      (s.repairAns r b).mem = s.mem := by
  have hget : s.repBuf k = some ⟨loc, .partner, asked, none⟩ := by rw [State.repBuf, hbuf, tget, if_pos rfl]
  have heq : s.repairAns r b = s.deliver k (sparse 0 0 (s.asSource loc b)) := by
    rw [State.repairAns, hbuf, List.foldl_cons, List.foldl_nil, if_pos ⟨rfl, rfl, hid⟩]
  refine ⟨sparse 0 0 (s.asSource loc b), ?_⟩
  rw [heq, State.deliver, hget]
  refine ⟨?_, rfl⟩
  simp only [hbuf, tput, if_true]
  simp

/-- An answer that no buffer asked for changes nothing. -/
theorem State.repairAns_unasked {b : List Byte}
    (h : ∀ e ∈ s.tiles.repairBuf, e.2.src ≠ .partner ∨ e.2.content.isSome = true ∨ s.dirIdent e.2.loc ≠ r.ident.toNat) : s.repairAns r b = s := by
  have hfold (xs : List (Nat × RepBuf)) (hxs : ∀ e ∈ xs, e ∈ s.tiles.repairBuf) : xs.foldl (fun (s : State) (e : Nat × RepBuf) =>
      if e.2.src = .partner ∧ e.2.content.isNone ∧ s.dirIdent e.2.loc = r.ident.toNat then
        s.deliver e.1 (sparse 0 0 (s.asSource e.2.loc b)) else s) s = s := by
    induction xs with
    | nil => rfl
    | cons e xs ih =>
      rw [List.foldl_cons, if_neg]
      · exact ih fun x hx => hxs x (List.mem_cons_of_mem _ hx)
      · rintro ⟨hsrc, hcont, hid⟩
        rcases h e (hxs e List.mem_cons_self) with h | h | h
        · exact h hsrc
        · rw [← Option.not_isSome, h] at hcont
          exact absurd hcont (by decide)
        · exact h hid
  exact hfold _ fun _ he => he

end

/-! ### Joining (R242, R420, R552) -/

/-- A partition that enters RUNNING leaves the twin's own status. -/
theorem State.reg_toRunning (s : State) {p : Nat} (hp : p < 128) : (s.toRunning p).reg R.TWIN_STAT = s.reg R.TWIN_STAT := by
  have h1 : R.TWIN_STAT ≠ R.ENG_WD p := by simp only [R.TWIN_STAT, R.ENG_WD]; omega
  have h2 : R.TWIN_STAT ≠ R.ENG_PART_STAT p := by simp only [R.TWIN_STAT, R.ENG_PART_STAT]; omega
  exact (State.reg_setFld_ne _ _ _ _ _ h1).trans (State.reg_setFld_ne _ _ _ _ _ h2)

/-- Standing by shows in the twin's state whatever its partitions do. -/
theorem State.standby_state (s : State) : s.standby.twinState = twSTANDBY := by
  have hfold : s.standby.reg R.TWIN_STAT = (s.setTwinState twSTANDBY).reg R.TWIN_STAT := by
    rw [State.standby]
    refine (foldl_stands (fun u : State => u.reg R.TWIN_STAT) (fun u p hp => ite_stands (fun u : State => u.reg R.TWIN_STAT) ?_) _).trans rfl
    exact u.reg_toRunning (List.mem_range.1 (List.mem_filter.1 hp).1)
  exact (State.fld_of_reg hfold _).trans ((State.fld_setFld_same _ _ _ _ (by decide)).trans rfl)

theorem State.partnerSilent_joining {s : State} (hpairs : s.twin.pairs = []) (hon : s.twinOn = true) (hst : s.twinState = twJOINING)
    (hj : s.joined = true) (hsil : ∀ k, s.twin.partnerAt = some k → k + 4800 ≤ s.tick.count) (hcount : 4800 ≤ s.tick.count) :
    s.partnerSilent.twinState = twSTANDBY := by
  simp only [State.partnerSilent, hpairs, List.length_nil, List.range_zero, List.foldl_nil]
  cases hat : s.twin.partnerAt with
  | none =>
    rw [if_pos (by rw [hon, hst, hj, decide_eq_true hcount]; rfl)]
    exact State.standby_state _
  | some k =>
    rw [if_pos (by rw [hon, hst, hj]; exact decide_eq_true (hsil k hat))]
    exact State.standby_state _

theorem State.partnerSilent_off {s : State} (hpairs : s.twin.pairs = []) (hon : s.twinOn = false) : s.partnerSilent = s := by
  simp only [State.partnerSilent, hpairs, List.length_nil, List.range_zero, List.foldl_nil, hon, Bool.false_and, Bool.false_eq_true, if_false]

/-- A single watched pair whose upper twin is silent: the lower one is admitted alone. -/
theorem State.partnerSilent_alone {s : State} {p : WitPair} (hpairs : s.twin.pairs = [p]) (hdec : s.twin.decisions = []) (hon : s.twinOn = false)
    (hH : 4800 ≤ p.missH) (hL : p.missL = 0) (hst : stateOf p.hl = twSTANDBY) (hf : faultOf p.hl = false) :
    s.partnerSilent.twin.decisions = [(s.tick.count, ⟨p.low, p.high, 3, 0, s.tick.abs + 3⟩)] ∧ s.partnerSilent.srf = s.srf := by
  have hon' (f : TwinSt → TwinSt) : (s.setTwin f).twinOn = false := hon
  have hat : ([p] : List WitPair)[0]? = some p := rfl
  have hrange : List.range 1 = [0] := rfl
  simp only [State.partnerSilent, hpairs, hdec, List.length_singleton, hrange, List.foldl_cons, List.foldl_nil, hat, List.any_nil,
    Bool.false_eq_true, if_false, decide_eq_true hH, hst, hf, hL, BEq.rfl, Bool.not_false, Bool.and_self, if_true, State.enterDecision, hon',
    Bool.false_and]
  exact ⟨by simp [State.setTwin, hdec], rfl⟩

/-- The serving twin's answer to a join: step 4, and every mirrored tile is to be sent. -/
theorem State.joinServe_spec (s : State) : s.joinServe.twin.step = 4 ∧ s.joinServe.srf = s.srf ∧ ∀ l ∈ s.allocated,
    s.dirFlag l fMIRROR = true → s.dirAct l = true → s.twinned (s.dirOwner l) = true → l ∈ s.joinServe.twin.changed := by
  set sent := (((List.range 128).filterMap (fun p => s.segOf p)) ++ [CfgSeg.words (s.srf.filter (fun e => bankAddr e.1))]).foldl
    (fun (s : State) g => (s.send (.config s.twin.seq g)).setTwin (fun t => { t with seq := (t.seq + 1) % 2 ^ 32 })) s with hsent
  have hstep (u : State) (g : CfgSeg) :
      ((u.send (.config u.twin.seq g)).setTwin (fun t => { t with seq := (t.seq + 1) % 2 ^ 32 })).srf = u.srf := rfl
  have hsrf : sent.srf = s.srf := by
    rw [hsent]
    exact foldl_stands State.srf (fun u g _ => hstep u g) s
  have hjoin : s.joinServe = sent.setTwin (fun t => { t with
      step := 4, changed := luniq (t.changed ++ sent.allocated.filter (fun l => sent.dirFlag l fMIRROR && sent.dirAct l && sent.twinned (sent.dirOwner l))) }) := by
    rw [State.joinServe, hsent]
  rw [hjoin]
  refine ⟨rfl, hsrf, fun l hl hm ha ht => mem_luniq.2 (List.mem_append_right _ (List.mem_filter.2 ⟨?_, ?_⟩))⟩
  · rw [State.allocated, hsrf]
    exact hl
  · simp only [State.dirFlag, State.dirFlags, State.dirAct, State.dirOwner, State.twinned] at hm ha ht ⊢
    simp only [State.fld_congr hsrf, State.flag_congr hsrf, State.reg_congr hsrf, hm, ha, ht, Bool.and_self]

theorem State.joinRequest_waits {s : State} (asked : Bool) (h : s.exchanging = true) :
    s.joinRequest asked = s.setTwin (fun t => { t with step := 6 }) := by
  rw [State.joinRequest, if_pos h]

theorem State.joinRequest_goes {s : State} (h : s.exchanging = false) : s.joinRequest true = s.joinServe ∧
    s.joinRequest false = (s.manage s.partner mtTWIN [0]).setTwin (fun t => { t with step := 1 }) := by
  rw [State.joinRequest, State.joinRequest, h]
  exact ⟨rfl, rfl⟩

/-! ### Decisions (R420, R431, R553) -/

/-- An admitted twin's partitions are no register and no part of the twin's own state. -/
theorem State.admitParts_stands (s : State) : s.admitParts.srf = s.srf ∧ s.admitParts.twin = s.twin := by
  rw [State.admitParts]
  exact ⟨foldl_stands State.srf (fun u p _ => ite_stands State.srf (State.modPart_srf ..)) s,
    foldl_stands State.twin (fun u p _ => ite_stands State.twin (State.modPart_twin ..)) s⟩

theorem State.twinState_congr {s t : State} (h : t.srf = s.srf) : t.twinState = s.twinState := State.fld_congr h _ _

theorem State.twinState_set (s : State) {v : Nat} (h : v < 8) : (s.setTwinState v).twinState = v :=
  (State.fld_setFld_same _ _ _ _ (by decide)).trans (Nat.mod_eq_of_lt h)

theorem State.setTwin_srf (s : State) (f : TwinSt → TwinSt) : (s.setTwin f).srf = s.srf := rfl

theorem State.seeDecision_silence {s : State} {d : Decision} (ho : s.ourPair d = true) (hn : s.names d = true) (hc : d.cause < 8)
    (hcode : d.code = 1 ∨ d.code = 2) (hst : s.twinState = twSERVING ∨ s.twinState = twSOLO ∨ s.twinState = twSTANDBY) :
    (s.seeDecision d).twinState = twSILENCED ∧ (s.seeDecision d).fld R.TWIN_STAT F.TWIN_STAT_CAUSE = d.cause := by
  simp only [State.seeDecision, ho, Bool.not_true, Bool.false_eq_true, if_false, if_pos (And.intro hcode (And.intro hn hst))]
  constructor
  · rw [State.twinState_congr (State.setTwin_srf _ _), State.twinState, State.fld_setFld_ne _ _ _ _ _ (by decide)]
    exact State.twinState_set _ (by decide)
  · rw [State.fld_congr (State.setTwin_srf _ _), State.fld_setFld_same _ _ _ _ (by decide)]
    exact Nat.mod_eq_of_lt hc

theorem State.seeDecision_waits {s : State} {d : Decision} (ho : s.ourPair d = true) (hn : s.names d = true) (hnone : s.twin.decided = none)
    (hcode : ((d.code = 3 ∨ d.code = 4) ∧ (s.twinState = twSERVING ∨ s.twinState = twSTANDBY)) ∨ (5 ≤ d.code ∧ s.twinState = twSTANDBY)) :
    s.seeDecision d = s.setTwin (fun t => { t with decided := some d }) := by
  have h12 : ¬ (d.code = 1 ∨ d.code = 2) := by
    rcases hcode with ⟨h, -⟩ | ⟨h, -⟩ <;> omega
  have hmem : (d.code ∈ [3, 4] ∧ (s.twinState = twSERVING ∨ s.twinState = twSTANDBY)) ∨ (5 ≤ d.code ∧ s.twinState = twSTANDBY) := by
    simpa only [List.mem_cons, List.not_mem_nil, or_false] using hcode
  simp only [State.seeDecision, ho, Bool.not_true, Bool.false_eq_true, if_false]
  rw [if_neg (fun h => h12 h.1), if_pos (Or.inl ⟨hn, hmem⟩)]
  simp only [State.setTwin, hnone, Option.getD_none]

/-- The states a decision leads to (R420). -/
theorem State.decisionEffect_spec (s : State) (d : Decision) : (s.decisionEffect d).twin.decided = none ∧
    (d.code = 3 ∨ d.code = 4 → s.twinState = twSERVING ∨ s.twinState = twSTANDBY → (s.decisionEffect d).twinState = twSOLO) ∧
    (5 ≤ d.code → s.twinState = twSTANDBY ∨ s.twinState = twSOLO → (s.decisionEffect d).twinState = twSERVING ∧
      (s.decisionEffect d).twin.joined = s.tick.abs) ∧
    (s.twinState ≠ twSERVING → s.twinState ≠ twSTANDBY → s.twinState ≠ twSOLO → (s.decisionEffect d).twinState = s.twinState) := by
  set u := s.setTwin (fun t => { t with decided := none }) with hu
  set v := (u.setTwinState twSERVING).setTwin (fun t => { t with joined := (u.setTwinState twSERVING).tick.abs }) with hv
  have hsolo : (u.setTwinState twSOLO).twin.decided = none := by rw [State.setTwinState, State.setFld_twin]; rfl
  have hserv : v.twinState = twSERVING ∧ v.twin.decided = none ∧ v.twin.joined = s.tick.abs := by
    refine ⟨?_, ?_, ?_⟩
    · rw [hv, State.twinState_congr (State.setTwin_srf _ _)]
      exact State.twinState_set _ (by decide)
    · change (u.setTwinState twSERVING).twin.decided = none
      rw [State.setTwinState, State.setFld_twin]
      rfl
    · change (u.setTwinState twSERVING).tick.abs = s.tick.abs
      rw [State.setTwinState, State.setFld_tick]
      rfl
  have hadmit (w : State) : w.admitParts.twinState = w.twinState ∧ w.admitParts.twin = w.twin :=
    ⟨State.twinState_congr w.admitParts_stands.1, w.admitParts_stands.2⟩
  have hkeep : u.twinState = s.twinState := State.twinState_congr (State.setTwin_srf _ _)
  simp only [State.decisionEffect, ← hu]
  by_cases h34 : d.code = 3 ∨ d.code = 4
  · have h5 : ¬ 5 ≤ d.code := by omega
    simp only [if_pos h34]
    by_cases h1 : s.twinState = twSERVING
    · simp only [if_pos h1]
      exact ⟨hsolo, fun _ _ => State.twinState_set _ (by decide), fun h => absurd h h5, fun h => absurd h1 h⟩
    by_cases h2 : s.twinState = twSTANDBY
    · simp only [if_neg h1, if_pos h2, (hadmit _).1, (hadmit _).2]
      exact ⟨hsolo, fun _ _ => State.twinState_set _ (by decide), fun h => absurd h h5, fun _ h => absurd h2 h⟩
    · simp only [if_neg h1, if_neg h2]
      exact ⟨rfl, fun _ h => absurd h (not_or.2 ⟨h1, h2⟩), fun h => absurd h h5, fun _ _ _ => hkeep⟩
  · simp only [if_neg h34]
    by_cases h2 : s.twinState = twSTANDBY
    · simp only [if_pos h2, (hadmit _).1, (hadmit _).2]
      exact ⟨hserv.2.1, fun h => absurd h h34, fun _ _ => ⟨hserv.1, hserv.2.2⟩, fun _ h => absurd h2 h⟩
    by_cases h4 : s.twinState = twSOLO
    · simp only [if_neg h2, if_pos h4]
      exact ⟨hserv.2.1, fun h => absurd h h34, fun _ _ => ⟨hserv.1, hserv.2.2⟩, fun _ _ h => absurd h4 h⟩
    · simp only [if_neg h2, if_neg h4]
      exact ⟨rfl, fun h => absurd h h34, fun _ h => absurd h (not_or.2 ⟨h2, h4⟩), fun _ _ _ => hkeep⟩

/-! ### The witness (R432, R52, R53) -/

/-- A member whose partner does not serve may not be extracted. -/
theorem State.extractCause_alone {s : State} {p : WitPair} {a : Nat} {other : List Heart} (hlow : a = p.low → other = p.hh)
    (hhigh : a ≠ p.low → other = p.hl) (h3 : stateOf other ≠ twSERVING) (h4 : stateOf other ≠ twSOLO) (both : Bool) :
    s.extractCause p a both = some 1 := by
  have hother : (if a = p.low then p.hh else p.hl) = other := by
    split
    · rename_i h; exact (hlow h).symm
    · rename_i h; exact (hhigh h).symm
  simp only [State.extractCause, hother, beq_false_of_ne h3, beq_false_of_ne h4, Bool.or_self, Bool.false_and, Bool.not_false, Bool.true_or,
    if_true]

/-- Settles O47: a lanyard record is taken by `lanyardTake`, a decision by `seeDecision` and `decisionEffect`; the rest follow the state. -/
theorem twinPairs : Obligations.TwinPairs := by
  unfold Obligations.TwinPairs
  intro s hs took st
  refine ⟨fun r h tile p b i j v es g => ?_, fun r hon hcrc hseen => ?_, fun b hon => ?_, fun hon hex => ⟨fun hsv => ?_, fun hst => ?_⟩,
    fun hon hex hsv => ?_, fun node agrees hon hst => ⟨fun h => ?_, fun h => ?_⟩, fun d => ⟨fun h => ?_, fun ho hn hc hcode hst => ?_,
      fun ho hn hnone hcode => ?_⟩, fun d hd => ⟨fun h => ?_, fun h => ?_⟩, fun hpairs => ⟨fun hon hst hj hsil hcount => ?_, fun hon => ?_⟩,
    fun p hpairs hdec hon hH hL hst hf => ?_, fun src => ⟨fun hno both => ?_, fun hno hw => ?_, fun i p hp => ?_⟩⟩
  · simp only [List.forall_mem_cons, List.not_mem_nil, false_imp_iff, implies_true, and_true]
    have hold (c : Instr) (f : State → State) (hc : exec c s = s.onCore (fun s => s.lanyardTake r f)) : exec c s = .next s :=
      (exec_eq_next_of_onCore hs hc).trans (congrArg _ (State.lanyardTake_old h f))
    exact ⟨hold _ _ rfl, hold _ _ rfl, hold _ _ rfl, hold _ _ rfl, hold _ _ rfl, hold _ _ rfl⟩
  · have hnew (c : Instr) (f : State → State) (hc : exec c s = s.onCore (fun s => s.lanyardTake r f)) : exec c s = .next (f (took r)) :=
      (exec_eq_next_of_onCore hs hc).trans (congrArg _ (State.lanyardTake_new hon hcrc hseen f))
    refine ⟨fun tile l hl => ⟨fun _ hgood hn => ?_, fun h => ?_⟩, fun h => ?_, fun h => ?_, fun tile => ⟨fun b loc k hbuf hid => ?_, fun h => ?_⟩,
      fun p b i j v => ?_, fun es => ⟨fun h => ?_, fun h => ?_⟩, fun a v => ⟨fun h ha => ?_, fun h => ?_⟩⟩
    · exact ⟨_, hnew _ (fun s => s.lanyardTile r (expand 0 4096 0 tile)) rfl, State.lanyardTile_newer (s := took r) hl hgood hn⟩
    · exact (hnew _ (fun s => s.lanyardTile r (expand 0 4096 0 tile)) rfl).trans (congrArg _ (State.lanyardTile_stale (s := took r) hl h))
    · refine ⟨_, (hnew _ (fun s => if s.canAnswer r.ident.toNat then
        s.setTwin (fun t => { t with asked := luniq (t.asked ++ [r.ident.toNat]) }) else s) rfl).trans (congrArg _ (if_pos h)), ?_, rfl, rfl⟩
      exact mem_luniq.2 (List.mem_append_right _ List.mem_cons_self)
    · exact (hnew _ (fun s => if s.canAnswer r.ident.toNat then
        s.setTwin (fun t => { t with asked := luniq (t.asked ++ [r.ident.toNat]) }) else s) rfl).trans
        (congrArg _ (if_neg (ne_true_of_eq_false h)))
    · obtain ⟨x, hx⟩ := State.repairAns_asked (s := took r) (r := r) (b := expand 0 4096 0 tile) hbuf hid
      exact ⟨_, x, hnew _ (fun s => s.repairAns r (expand 0 4096 0 tile)) rfl, hx⟩
    · exact (hnew _ (fun s => s.repairAns r (expand 0 4096 0 tile)) rfl).trans (congrArg _ (State.repairAns_unasked (s := took r) h))
    · intro e
      have hforce := hnew (.lanyardForce r p b i j v) _ rfl
      refine ⟨fun h => hforce.trans (congrArg _ ?_), fun h => hforce.trans (congrArg _ ?_)⟩
      · have hlate : decide ((took r).absNear r.tstamp ≤ (took r).tick.abs) = false := decide_eq_false (Nat.not_le.2 h)
        simp only [hlate, Bool.false_eq_true, if_false]
        rfl
      · have hlate : decide ((took r).absNear r.tstamp ≤ (took r).tick.abs) = true := decide_eq_true h
        simp only [hlate, if_true]
        rfl
    · exact (hnew _ (fun s => if s.twinState = twSTANDBY then
        s.setTwin (fun t => { t with lstate := some (s.absNear r.tstamp, es) }) else s) rfl).trans (congrArg _ (if_pos h))
    · exact (hnew _ (fun s => if s.twinState = twSTANDBY then
        s.setTwin (fun t => { t with lstate := some (s.absNear r.tstamp, es) }) else s) rfl).trans (congrArg _ (if_neg h))
    · have hjoin : (took r).joinConfig (.words [(a, v)]) = (took r).setReg a v := by
        rw [State.joinConfig, if_neg (fun hn => hn h)]
        simp only [List.filter_cons, ha, if_true, List.filter_nil, List.foldl_cons, List.foldl_nil]
      refine ⟨_, (hnew _ (fun s => s.joinConfig (.words [(a, v)])) rfl).trans (congrArg _ hjoin), State.reg_setReg_same .., fun b hb => ?_⟩
      exact (State.reg_setReg_ne _ _ _ _ hb).trans rfl
    · refine (hnew _ (fun s => s.joinConfig (.words [(a, v)])) rfl).trans (congrArg _ ?_)
      rw [State.joinConfig]
      by_cases hj : (took r).twinState = twJOINING
      · rw [if_neg (fun hn => hn hj)]
        have ha : bankAddr a = false := h.resolve_left fun hn => hn hj
        simp only [List.filter_cons, ha, Bool.false_eq_true, if_false, List.filter_nil, List.foldl_nil]
      · rw [if_pos hj]
  · exact (exec_eq_next_of_onCore (f := fun s => if !s.twinOn then s else if b then (if s.serves then s.joinRequest true else s)
      else if s.twinState = twJOINING then s.joinRequest false else s) hs rfl).trans (congrArg _ (if_pos (by rw [hon]; rfl)))
  · have hexec := exec_eq_next_of_onCore (i := .twinJoinRequest true) (f := fun s => if !s.twinOn then s
      else if true then (if s.serves then s.joinRequest true else s)
      else if s.twinState = twJOINING then s.joinRequest false else s) hs rfl
    simp only [hon, hsv, Bool.not_true, Bool.false_eq_true, if_false, if_true, (State.joinRequest_goes hex).1] at hexec
    exact ⟨_, hexec, s.joinServe_spec⟩
  · have hst' : s.twinState = twJOINING := hst
    have hexec := exec_eq_next_of_onCore (i := .twinJoinRequest false) (f := fun s => if !s.twinOn then s
      else if false then (if s.serves then s.joinRequest true else s)
      else if s.twinState = twJOINING then s.joinRequest false else s) hs rfl
    simp only [hon, hst', Bool.not_true, Bool.false_eq_true, if_false, if_true, (State.joinRequest_goes hex).2] at hexec
    exact ⟨_, hexec, rfl, rfl⟩
  · have hexec := exec_eq_next_of_onCore (i := .twinJoinRequest true) (f := fun s => if !s.twinOn then s
      else if true then (if s.serves then s.joinRequest true else s)
      else if s.twinState = twJOINING then s.joinRequest false else s) hs rfl
    simp only [hon, hsv, Bool.not_true, Bool.false_eq_true, if_false, if_true, State.joinRequest_waits true hex] at hexec
    exact hexec
  · have hst' : s.twinState = twJOINING := hst
    obtain ⟨ha, hp⟩ := Bool.and_eq_true_iff.1 h
    have hexec := exec_eq_next_of_onCore (i := .twinStandby agrees node) (f := fun s => if !s.twinOn || s.twinState ≠ twJOINING then s
      else if !agrees || !s.pairingOk then s.event Ev.TWIN_CFG_MISMATCH else (s.setNode node.toNat).standby) hs rfl
    simp only [hon, hst', ha, hp, Bool.not_true, Bool.or_self, ne_eq, not_true_eq_false, decide_false, Bool.false_eq_true, if_false] at hexec
    exact ⟨_, by rw [ha]; exact hexec, State.standby_state _⟩
  · have hst' : s.twinState = twJOINING := hst
    have hno : (!agrees || !s.pairingOk) = true := by rw [← Bool.not_and, h]; rfl
    have hexec := exec_eq_next_of_onCore (i := .twinStandby agrees node) (f := fun s => if !s.twinOn || s.twinState ≠ twJOINING then s
      else if !agrees || !s.pairingOk then s.event Ev.TWIN_CFG_MISMATCH else (s.setNode node.toNat).standby) hs rfl
    simp only [hon, hst', hno, Bool.not_true, Bool.or_self, ne_eq, not_true_eq_false, decide_false, Bool.false_eq_true, if_false, if_true] at hexec
    exact hexec
  · exact (exec_eq_next_of_onCore (f := fun s => s.seeDecision d) hs rfl).trans (congrArg _ (if_pos (by rw [h]; rfl)))
  · exact ⟨_, exec_eq_next_of_onCore (f := fun s => s.seeDecision d) hs rfl,
      State.seeDecision_silence ho hn hc hcode (hst.elim Or.inl fun h => Or.inr (h.elim Or.inl Or.inr))⟩
  · exact (exec_eq_next_of_onCore (f := fun s => s.seeDecision d) hs rfl).trans (congrArg _ (State.seeDecision_waits ho hn hnone hcode))
  · rw [exec_eq_next_of_onCore (i := .twinDecisionEffect) (f := fun s => match s.twin.decided with
      | some d => if s.absNear (w32 d.eff) ≤ s.tick.abs then s.decisionEffect d else s
      | none => s) hs rfl]
    simp only [hd, if_neg (Nat.not_le.2 h)]
  · refine ⟨_, exec_eq_next_of_onCore (i := .twinDecisionEffect) (f := fun s => match s.twin.decided with
      | some d => if s.absNear (w32 d.eff) ≤ s.tick.abs then s.decisionEffect d else s
      | none => s) hs rfl, ?_⟩
    simp only [hd, if_pos h]
    exact s.decisionEffect_spec d
  · exact ⟨_, exec_eq_next_of_onCore (f := fun s => s.partnerSilent) hs rfl, State.partnerSilent_joining hpairs hon hst hj hsil hcount⟩
  · exact (exec_eq_next_of_onCore (f := fun s => s.partnerSilent) hs rfl).trans (congrArg _ (State.partnerSilent_off hpairs hon))
  · exact ⟨_, exec_eq_next_of_onCore (f := fun s => s.partnerSilent) hs rfl, State.partnerSilent_alone hpairs hdec hon hH hL hst hf⟩
  · rw [show exec (.witnessExtractRequest src both) s = execWitnessExtractRequest src both s from rfl, execWitnessExtractRequest, State.onCore,
      if_pos hs, hno]
  · rw [show exec (.witnessFreezeConsentRequest src) s = execWitnessFreezeConsentRequest src s from rfl, execWitnessFreezeConsentRequest,
      State.onCore, if_pos hs, hno]
    simp only [hw, if_true]
  · have hexec (both : Bool) (t : State) (h : (if p.missL ≠ 0 ∨ p.missH ≠ 0 then s
        else match s.extractCause p src.val both with
          | some c => s.answer src.val 1 (some c)
          | none => (s.setTwin (fun t => { t with pairs := lset t.pairs i { p with granted := some src.val } })).answer src.val 1 none) = t) :
        exec (.witnessExtractRequest src both) s = .next t := by
      rw [show exec (.witnessExtractRequest src both) s = execWitnessExtractRequest src both s from rfl, execWitnessExtractRequest, State.onCore,
        if_pos hs, hp]
      exact congrArg _ h
    have hfresh (hl : p.missL = 0) (hh : p.missH = 0) : ¬ (p.missL ≠ 0 ∨ p.missH ≠ 0) := not_or.2 ⟨fun h => h hl, fun h => h hh⟩
    refine ⟨fun both h => hexec both s (if_pos h), fun both hl hh c hc => hexec both _ ?_, fun both hl hh hc => ⟨_, hexec both _ rfl, ?_⟩, ?_,
      fun other hlow hhigh h3 h4 both => State.extractCause_alone hlow hhigh h3 h4 both⟩
    · rw [if_neg (hfresh hl hh), hc]
    · rw [if_neg (hfresh hl hh), hc]
      exact ⟨rfl, rfl⟩
    · rw [show exec (.witnessFreezeConsentRequest src) s = execWitnessFreezeConsentRequest src s from rfl, execWitnessFreezeConsentRequest,
        State.onCore, if_pos hs, hp]

end Sys2Proof.Machine

/-!
SUPPORT. The key vault's requests (R185, R440 to R445, R448).
-/
namespace Sys2Proof.Machine

/-! ### AES-256-GCM decrypts what it encrypted -/

theorem xorB_getElem? (a b : List Byte) (i : Nat) (ha : i < a.length) (hb : i < b.length) : (xorB a b)[i]? = some (a[i] ^^^ b[i]) := by
  rw [xorB, List.getElem?_eq_getElem (by rw [List.length_zipWith]; omega), List.getElem_zipWith]

theorem xorB_length (a b : List Byte) : (xorB a b).length = min a.length b.length := List.length_zipWith

theorem pieces_length (m n : Nat) (b : List Byte) : (pieces m n b).length = n := by
  induction n generalizing b with
  | zero => rfl
  | succ n ih => rw [pieces, List.length_cons, ih]

theorem length_of_mem_pieces (m n : Nat) (b x : List Byte) (h : x ∈ pieces m n b) : x.length = m := by
  induction n generalizing b with
  | zero => nomatch h
  | succ n ih =>
    rcases List.mem_cons.1 h with rfl | h
    · exact sub_length ..
    · exact ih _ h

theorem aesRounds_length {ks : List (List Byte)} (h : ∀ k ∈ ks, k.length = 16) (hne : ks ≠ []) (b : List Byte) :
    (aesRounds ks b).length = 16 := by
  induction ks generalizing b with
  | nil => exact absurd rfl hne
  | cons k ks ih =>
    obtain ⟨hk, hks⟩ := List.forall_mem_cons.1 h
    cases ks with
    | nil => rw [aesRounds, xorB_length, hk, shiftRows, List.length_map, List.length_range, min_self]
    | cons k' ks => exact ih hks (List.cons_ne_nil _ _) _

/-- The cipher of a block is a block. -/
theorem aesBlock_roundKeys_length (key b : List Byte) : (aesBlock (roundKeys key) b).length = 16 := by
  have hall := length_of_mem_pieces 16 15 ((keyWords 52 8 1 (pieces 4 8 key).reverse).reverse.flatten)
  rw [roundKeys]
  generalize (keyWords 52 8 1 (pieces 4 8 key).reverse).reverse.flatten = w at hall ⊢
  exact aesRounds_length (fun k hk => hall k (List.mem_cons_of_mem _ hk)) (List.cons_ne_nil _ _) _

theorem sub_getD (b : List Byte) (o n i : Nat) (h : i < n) : (sub b o n).getD i 0 = b.getD (o + i) 0 := by
  simp only [sub, List.getD_eq_getElem?_getD, List.getElem?_append, List.length_take, List.length_drop, List.getElem?_take, if_pos h, List.getElem?_drop]
  split
  · rfl
  · rw [List.getElem?_eq_none (show b.length ≤ o + i by omega), List.getElem?_replicate]
    split <;> rfl

/-- Byte i of the keystream from counter c. -/
def keystream (ks : List (List Byte)) (iv : List Byte) (c i : Nat) : Byte :=
  (aesBlock ks (sub iv 0 12 ++ beBytes 4 (c + i / 16))).getD (i % 16) 0

theorem ctrBlocks_pieces (key iv : List Byte) (n c : Nat) (b : List Byte) :
    (ctrBlocks (roundKeys key) iv c (pieces 16 n b)).length = 16 * n ∧ ∀ i, i < 16 * n →
      (ctrBlocks (roundKeys key) iv c (pieces 16 n b)).getD i 0 = b.getD i 0 ^^^ keystream (roundKeys key) iv c i := by
  induction n generalizing c b with
  | zero => exact ⟨rfl, fun i h => absurd h (by omega)⟩
  | succ n ih =>
    obtain ⟨hlen, hget⟩ := ih (c + 1) (b.drop 16)
    have hx := sub_length b 0 16
    have hy := aesBlock_roundKeys_length key (sub iv 0 12 ++ beBytes 4 c)
    have hb : (xorB (sub b 0 16) (aesBlock (roundKeys key) (sub iv 0 12 ++ beBytes 4 c))).length = 16 := by rw [xorB_length, hx, hy]; rfl
    refine ⟨by rw [pieces, ctrBlocks, List.length_append, hb, hlen]; omega, fun i hi => ?_⟩
    rw [pieces, ctrBlocks, List.getD_eq_getElem?_getD]
    by_cases h : i < 16
    · rw [List.getElem?_append_left (hb.symm ▸ h), xorB_getElem? _ _ _ (hx.symm ▸ h) (hy.symm ▸ h), Option.getD_some,
        keystream, Nat.div_eq_of_lt h, Nat.mod_eq_of_lt h, Nat.add_zero, ← List.getD_eq_getElem _ 0, ← List.getD_eq_getElem _ 0,
        sub_getD _ _ _ _ h, Nat.zero_add]
    · obtain ⟨j, rfl⟩ := Nat.exists_eq_add_of_le (Nat.le_of_not_lt h)
      rw [List.getElem?_append_right (by omega), hb, Nat.add_sub_cancel_left, ← List.getD_eq_getElem?_getD, hget j (by omega)]
      simp only [keystream, List.getD_eq_getElem?_getD, List.getElem?_drop]
      rw [show c + (16 + j) / 16 = c + 1 + j / 16 by omega, show (16 + j) % 16 = j % 16 by omega]

theorem gcmCrypt_length (key iv b : List Byte) : (gcmCrypt (roundKeys key) iv b).length = b.length := by
  rw [gcmCrypt, List.length_take, blocks16, (ctrBlocks_pieces ..).1]
  omega

theorem gcmCrypt_getD (key iv b : List Byte) {i : Nat} (h : i < b.length) :
    (gcmCrypt (roundKeys key) iv b).getD i 0 = b.getD i 0 ^^^ keystream (roundKeys key) iv 2 i := by
  rw [gcmCrypt, List.getD_eq_getElem?_getD, List.getElem?_take_of_lt h, ← List.getD_eq_getElem?_getD, blocks16, (ctrBlocks_pieces ..).2 i (by omega)]

/-- Counter mode is its own inverse. -/
theorem gcmCrypt_gcmCrypt (key iv b : List Byte) : gcmCrypt (roundKeys key) iv (gcmCrypt (roundKeys key) iv b) = b := by
  have hlen := gcmCrypt_length key iv b
  refine List.ext_getElem (by rw [gcmCrypt_length, hlen]) fun i h1 h2 => ?_
  rw [← List.getD_eq_getElem _ 0 h1, ← List.getD_eq_getElem _ 0 h2, gcmCrypt_getD _ _ _ (hlen.symm ▸ h2), gcmCrypt_getD _ _ _ h2,
    BitVec.xor_assoc, BitVec.xor_self, BitVec.xor_zero]

theorem gcmDec_gcmEnc (key iv aad msg : List Byte) : gcmDec key iv aad (gcmEnc key iv aad msg).1 (gcmEnc key iv aad msg).2 = some msg := by
  simp only [gcmDec, gcmEnc, if_true, gcmCrypt_gcmCrypt]

/-! ### KEYOP -/

section
variable {s : State} {l : Nat} {q : PQ} {fn : Nat} {rd ra rb : Fin 32} {x : TaskCtx}

/-- A KEYOP that its task may use and that takes effect: what it does by where its block stands (R185). -/
theorem State.keyop_eq (ht : (s.lamp l).task = some x) (hsafe : x.safety = false) (hp : (s.lamp l).pend = none) (hq : s.takes l q = true) :
    (winOf (s.g l ra).toNat = none → s.keyop l q fn rd ra rb =
      ((s.raise l cADDR (wordA 0x32 rd.val ra.val rb.val fn q) 0 0 (s.g l ra).toNat).setG l rd 0).advance l 1) ∧
    (∀ w, winOf (s.g l ra).toNat = some w → (s.lamp l).win[w].st ≠ .poison →
      (4096 < (s.g l ra).toNat % 4096 + 32 → s.keyop l q fn rd ra rb = (s.setG l rd (keyResult vsLEN 0)).advance l 1) ∧
      ((s.g l ra).toNat % 4096 + 32 ≤ 4096 → s.keyop l q fn rd ra rb =
        (s.keyRun l x.part fn rd (s.g l rb).toNat (wordA 0x32 rd.val ra.val rb.val fn q) w
          (keyReq (s.winBytes l w ((s.g l ra).toNat % 4096) 32))).advance l 1)) := by
  rw [State.keyop, State.instr_eq _ _ _ _ ht (by rw [hsafe]; rfl), State.settleP_of_idle _ hp, hq, if_pos rfl]
  refine ⟨fun hw => by simp only [hw], fun w hw hnp => ?_⟩
  simp only [hw, State.settleW_of_idle w hp, beq_eq_false_iff_ne.2 hnp, Bool.false_eq_true, if_false]
  exact ⟨fun h => by rw [if_pos h], fun h => by rw [if_neg (Nat.not_lt.2 h)]⟩

end

/-- The ten operations by their codes are one instruction. -/
theorem exec_keyop {s : State} (hs : s.coreOn = true) (l : Fin 64) (q : PQ) (rd ra rb : Fin 32) :
    ∀ e ∈ ([(.keyopEnc l q rd ra rb, koENC), (.keyopDec l q rd ra rb, koDEC), (.keyopSign l q rd ra rb, koSIGN),
      (.keyopVerify l q rd ra rb, koVERIFY), (.keyopDerive l q rd ra rb, koDERIVE), (.keyopWrap l q rd ra rb, koWRAP),
      (.keystage l q rd ra rb, koSTAGE), (.keyverify l q rd ra rb, koCHECK), (.keycommit l q rd ra rb, koCOMMIT),
      (.random l q rd ra rb, koRANDOM)] : List (Instr × Nat)), exec e.1 s = .next (s.keyop l q e.2 rd ra rb) := by
  simp only [List.forall_mem_cons, List.not_mem_nil, false_imp_iff, implies_true, and_true]
  have h (i : Instr) (fn : Nat) (harm : exec i s = s.onCore (fun s => s.keyop l q fn rd ra rb)) := exec_eq_next_of_onCore hs harm
  exact ⟨h _ koENC rfl, h _ koDEC rfl, h _ koSIGN rfl, h _ koVERIFY rfl, h _ koDERIVE rfl, h _ koWRAP rfl, h _ koSTAGE rfl, h _ koCHECK rfl,
    h _ koCOMMIT rfl, h _ koRANDOM rfl⟩

section
variable {s : State} {l p fn : Nat} {rd : Fin 32} {word : Word} {w : Fin 8} {q : KeyReq}

/-- A handle that is not the partition's is refused where the operation uses a key (R185). -/
theorem State.keyRun_of_foreign {h : Nat} (hk : s.keyRef p h = none) (hfn : fn < koSTAGE) : s.keyRun l p fn rd h word w q = s.keyOwn l rd word := by
  have h1 : (fn == koRANDOM) = false := beq_eq_false_iff_ne.2 (by simp only [koRANDOM, koSTAGE] at *; omega)
  have h2 : (fn == koSTAGE) = false := beq_eq_false_iff_ne.2 (by omega)
  have hown : s.ownsKeys p fn q h = false := by
    simp only [State.ownsKeys, h1, h2, hk, Option.isSome_none, Bool.false_and, Bool.or_self]
  rw [State.keyRun, hown]
  rfl

theorem keyUse_of_lt {src : Nat} (hfn : fn < koDERIVE) : keyUse fn src = some fn := by
  match fn, hfn with
  | 0, _ | 1, _ | 2, _ | 3, _ => rfl

/-- What a request on a slot of the partition checks before it runs, in its order. -/
theorem State.keyRun_of_slot {n : Nat} (hn : n < 63) (hk : s.keyRef p n = some (.slot n)) (hfn : fn < koDERIVE) :
    ((s.slot n).act.type = ktEMPTY → s.keyRun l p fn rd n word w q = s.keyEnd l rd w q vsEMPTY []) ∧
    ((s.slot n).act.type ≠ ktEMPTY → bit (s.slot n).act.usage fn = false → s.keyRun l p fn rd n word w q = s.keyOwn l rd word) ∧
    ((s.slot n).act.type ≠ ktEMPTY → bit (s.slot n).act.usage fn = true → q.fits fn (s.slot n).act.type = true → (s.slot n).act.uses = 0 →
      s.keyRun l p fn rd n word w q = s.keyEnd l rd w q vsEXHAUSTED []) := by
  have hd : (fn == koDERIVE || fn == koWRAP || fn == koSTAGE) = false := by
    simp only [Bool.or_eq_false_iff, beq_eq_false_iff_ne, koDERIVE, koWRAP, koSTAGE] at *
    omega
  have hown : s.ownsKeys p fn q n = true := by
    simp only [State.ownsKeys, hk, hd, Option.isSome_some, Bool.or_true, Bool.true_and, Bool.false_eq_true, if_false]
  have huse : mayUse (s.slot n).act fn (.slot n) = bit (s.slot n).act.usage fn := by
    rw [mayUse, bne_iff_ne.2 (by omega : n ≠ 63), Bool.true_and]
  simp only [State.keyRun, hown, hk, Option.getD_some, State.keyAt, keyUse_of_lt hfn, Option.isSome_some, huse, Bool.not_true, Bool.true_and,
    Bool.false_eq_true, if_false]
  refine ⟨fun h => by rw [if_pos (beq_iff_eq.2 h)], fun h hu => ?_, fun h hu hf h0 => ?_⟩
  · rw [if_neg (mt beq_iff_eq.1 h), hu, Bool.not_false, if_pos rfl]
  · rw [if_neg (mt beq_iff_eq.1 h), hu, hf, h0]
    rfl

/-- A failing status leaves zeros in the output area (R443). -/
theorem State.keyEnd_zeroes {st : Nat} {out : List Byte} (hinv : s.Inv) (hst : st ≠ vsOK) (hq : st ≠ vsQUEUED)
    (hfit : q.outOff + q.outCap ≤ 4096) (i : Nat) (hi : i < q.outCap) :
    (s.keyEnd l rd w q st out).byte (winAddr l w + q.outOff + i) = 0 := by
  have hcond : ¬ (st = vsQUEUED ∨ (!inWindow q.outOff q.outCap) = true) := by
    simp only [inWindow, hfit, decide_true, Bool.not_true, Bool.false_eq_true, or_false, hq, not_false_eq_true]
  have hne : (List.replicate q.outCap (0 : Byte)).isEmpty = false := by
    rw [List.isEmpty_eq_false_iff]
    exact mt (List.replicate_eq_nil_iff _).1 (by omega)
  simp only [State.keyEnd, if_neg hst, if_neg hcond, hne, Bool.false_eq_true, if_false]
  rw [State.byte_congr (s := s.winWrite l w q.outOff (List.replicate q.outCap 0)) (State.setG_mem ..)]
  have hv := State.winWrite_line_valid (s := s) (l := l) (w := w) (o := q.outOff) (bs := List.replicate q.outCap 0) (j := (q.outOff + i) / 64)
    (by omega) (by omega) (by rw [List.length_replicate]; omega)
  have hb := State.winByte_winWrite (s := s) (l := l) (w := w) (o := q.outOff) (bs := List.replicate q.outCap 0) hinv.2
    (by rw [List.length_replicate]; exact hfit) (i := q.outOff + i) (by omega) (by rw [List.length_replicate]; omega)
  rw [State.winByte, hv, if_pos rfl, List.getElem_replicate, ← Nat.add_assoc] at hb
  exact hb

end

/-! ### Random operations (R448) -/

theorem State.keySync_random (s : State) (p : Nat) (h : KeyRef) (k : VKey) (q : KeyReq) (rd : Nat → Nat → List Byte) :
    s.keySync p koRANDOM h k q rd = if s.entropyOk then (vsOK, (s.random q.outCap).1, (s.random q.outCap).2) else (vsSTATE, [], s) := rfl

theorem State.keySync_wrap {s : State} {p n : Nat} {h : KeyRef} {k : VKey} {q : KeyReq} {rd : Nat → Nat → List Byte}
    (hn : s.keyRef p q.dest = some (.slot n)) (he : s.entropyOk = false) :
    (s.keySync p koWRAP h k q rd).1 = vsSTATE := by
  delta State.keySync
  simp only [koWRAP, hn, he, Bool.not_false, Bool.true_or, if_true]

theorem State.keySync_generate {s : State} {p n : Nat} {h : KeyRef} {k : VKey} {q : KeyReq} {rd : Nat → Nat → List Byte}
    (hn : s.keyRef p q.dest = some (.slot n)) (hsrc : q.src = 0) :
    s.keySync p koSTAGE h k q rd = ((s.generate n q.param q.uses).1, [], (s.generate n q.param q.uses).2) := by
  delta State.keySync
  simp only [koSTAGE, hn, hsrc, Nat.zero_ne_one, if_false]

/-! ### Slots: what staging, checking and committing do (R445) -/

@[simp] theorem State.showSlot_vault (s : State) (n : Nat) : (s.showSlot n).vault = s.vault := by
  simp only [State.showSlot, State.setFld_vault, State.setFlag_vault]

@[simp] theorem State.showDrv_vault (s : State) (p : Nat) : (s.showDrv p).vault = s.vault := rfl

@[simp] theorem State.showAsym_vault (s : State) : s.showAsym.vault = s.vault := rfl

theorem State.setSlot_vault (s : State) (n : Nat) (x : VSlot) : (s.setSlot n x).vault = { s.vault with slots := tput s.vault.slots n x } :=
  State.showSlot_vault ..

@[simp] theorem State.slot_setSlot_same (s : State) (n : Nat) (x : VSlot) : (s.setSlot n x).slot n = x := by
  rw [State.slot, State.setSlot_vault, tgetD_tput_same]

theorem State.slot_setSlot_ne (s : State) (n m : Nat) (x : VSlot) (h : m ≠ n) : (s.setSlot n x).slot m = s.slot m := by
  rw [State.slot, State.setSlot_vault, tgetD_tput_ne _ _ _ _ _ h, State.slot]

theorem sub_zero_of_le (b : List Byte) (n : Nat) (h : n ≤ b.length) : sub b 0 n = b.take n := by
  simp only [sub, List.drop_zero, List.length_take, Nat.min_eq_left h, Nat.sub_self, List.replicate_zero, List.append_nil]

theorem State.slot_stage (s : State) (n : Nat) (k : VKey) : (s.stage n k).slot n = { s.slot n with pend := k, verified := false } ∧
    ∀ m, m ≠ n → (s.stage n k).slot m = s.slot m := by
  rw [State.stage]
  exact ⟨State.slot_setSlot_same .., fun m hm => State.slot_setSlot_ne _ _ _ _ hm⟩

/-- KEYVERIFY of a symmetric pending half whose expected value matches marks it. -/
theorem State.verifyKey_of_match {s : State} {n : Nat} {input expected : List Byte}
    (ht : (s.slot n).pend.type = ktAES ∨ (s.slot n).pend.type = ktHMAC)
    (hm : (hmac384 (s.slot n).pend.key (input.take 16)).take 16 = expected.take 16) (he : 16 ≤ expected.length) (hi : 16 ≤ input.length) :
    s.verifyKey n input expected = (vsOK, s.setSlot n { s.slot n with verified := true }) := by
  have h0 : (s.slot n).pend.type ≠ ktEMPTY := by simp only [ktAES, ktHMAC, ktEMPTY] at *; omega
  have h2 : (s.slot n).pend.type ≤ ktHMAC := by simp only [ktAES, ktHMAC] at *; omega
  simp only [State.verifyKey, if_neg h0, if_pos h2, sub_zero_of_le _ _ he, sub_zero_of_le _ _ hi, hm, beq_self_eq_true, if_true]

/-! ### The asymmetric engine (R444) -/

/-- The requests and results of the engine. -/
def State.engine (s : State) : List (Nat × AsymReq) × List (Nat × Nat × Nat × List Byte) := (s.vault.asym, s.vault.results)

theorem State.engine_setSlot (s : State) (n : Nat) (x : VSlot) : (s.setSlot n x).engine = s.engine := by
  rw [State.engine, State.setSlot_vault]
  rfl

theorem State.engine_useKey (s : State) (r : KeyRef) : (s.useKey r).engine = s.engine := by
  cases r with
  | slot n => exact ite_stands State.engine (State.engine_setSlot ..).symm |>.trans (State.engine_setSlot ..)
  | drv i => rfl
  | root => rfl

theorem State.engine_deriveTo (s : State) (p dest param uses : Nat) (parent : VKey) (label : List Byte) :
    (s.deriveTo p dest param uses parent label).2.engine = s.engine := by
  unfold State.deriveTo
  extract_lets
  split
  · rfl
  · split
    · rfl
    · split
      · exact State.engine_setSlot ..
      · rfl
    · rfl

theorem State.engine_generate (s : State) (n param uses : Nat) : (s.generate n param uses).2.engine = s.engine := by
  unfold State.generate
  extract_lets
  split
  · rfl
  · exact State.engine_setSlot ..

/-- A request that runs queues nothing and hands over nothing by itself. -/
theorem State.engine_asymRun (s : State) (p : Nat) (q : AsymReq) : (s.asymRun p q).2.2.engine = s.engine := by
  have hu (h : KeyRef) := s.engine_useKey h
  unfold State.asymRun
  extract_lets h k
  split
  · split
    · exact hu h
    · split
      · exact hu h
      · exact hu h
  · split
    · exact hu h
    · exact hu h
  · split
    · split
      · exact (State.engine_deriveTo ..).trans (hu h)
      · exact hu h
    · exact hu h
  · split
    · exact State.engine_generate ..
    · rfl

theorem State.queueAsym_spec {s : State} {p : Nat} {q : AsymReq} (hm : q.moor = none) (hi : s.isInbox q.reply = true)
    (ho : s.dirOwner q.reply = p) :
    (s.hasWindow p = false → s.queueAsym p q = (vsNO_WINDOW, s)) ∧
    (s.hasWindow p = true → (tget s.vault.asym p).isSome = true → s.queueAsym p q = (vsBUSY, s)) ∧
    (s.hasWindow p = true → tget s.vault.asym p = none → (s.queueAsym p q).1 = vsQUEUED ∧
      tget (s.queueAsym p q).2.vault.asym p = some q) := by
  simp only [State.queueAsym, hm, hi, ho, Option.isNone_none, beq_self_eq_true, Bool.and_self, Bool.not_true, Bool.and_false, Bool.false_eq_true, if_false]
  refine ⟨fun h => by simp only [h, Bool.not_false, if_true], fun h ha => by simp only [h, ha, Bool.not_true, Bool.false_eq_true, if_false, if_true],
    fun h ha => ?_⟩
  simp only [h, ha, Bool.not_true, Bool.false_eq_true, if_false, Option.isSome_none]
  refine ⟨trivial, ?_⟩
  rw [State.showAsym_vault, State.setVault, tget_tput, if_pos rfl]

/-- A window of the engine's frame runs the request of its partition that waited before it began. -/
theorem State.asymWindow_runs {s : State} {w : Nat} {q : AsymReq} (hq : tget s.vault.asym (s.fld (R.VAULT_ASYM_WIN w) F.VAULT_ASYM_WIN_PART) = some q)
    (hv : s.flag (R.VAULT_ASYM_WIN w) F.VAULT_ASYM_WIN_VALID = true) (hw : s.tick.abs % 96 / 12 = w)
    (hsince : q.since < s.tick.abs - s.tick.abs % 12) (hm : q.moor = none) :
    tget (s.asymWindow w).vault.asym (s.fld (R.VAULT_ASYM_WIN w) F.VAULT_ASYM_WIN_PART) = none ∧ ∃ st out,
      (s.asymWindow w).vault.results = s.vault.results ++ [(s.tick.abs - s.tick.abs % 12 + 12, q.reply, st, out)] := by
  have hen := State.engine_asymRun ((s.setVault (fun v => { v with asym := tdel v.asym (s.fld (R.VAULT_ASYM_WIN w) F.VAULT_ASYM_WIN_PART) })).showAsym)
    (s.fld (R.VAULT_ASYM_WIN w) F.VAULT_ASYM_WIN_PART) q
  simp only [State.asymWindow, hq]
  rw [if_pos ⟨hv, hw, hsince⟩]
  generalize State.asymRun _ _ _ = r at hen ⊢
  obtain ⟨st, out, u⟩ := r
  obtain ⟨ha, hr⟩ := Prod.mk.inj hen
  simp only [State.asymEnd, hm, State.setVault]
  refine ⟨?_, st, out, ?_⟩
  · rw [show u.vault.asym = _ from ha, State.showAsym_vault, State.setVault, tget_tdel, if_pos rfl]
  · rw [show u.vault.results = _ from hr]
    rfl

theorem State.asymWindow_waits {s : State} {w : Nat} {q : AsymReq} (hq : tget s.vault.asym (s.fld (R.VAULT_ASYM_WIN w) F.VAULT_ASYM_WIN_PART) = some q)
    (hsince : s.tick.abs - s.tick.abs % 12 ≤ q.since) : s.asymWindow w = s := by
  simp only [State.asymWindow, hq]
  exact if_neg fun h => absurd h.2.2 (Nat.not_lt.2 hsince)

/-- Settles O49: GCM's counter mode is its own inverse, and each request is followed through its checks in their order. -/
theorem vaultRequests : Obligations.VaultRequests := by
  unfold Obligations.VaultRequests
  intro s hs
  refine ⟨?_, ?_, ?_, s.slot_stage, ?_, ?_, ?_⟩
  · intro l q rd ra rb x ht hsafe hp hq a e he
    rw [exec_keyop hs l q rd ra rb e he]
    obtain ⟨hnone, hsome⟩ := State.keyop_eq (fn := e.2) (rd := rd) (ra := ra) (rb := rb) ht hsafe hp hq
    refine ⟨_, fun hw => congrArg _ (hnone hw), fun w hw hnp => ?_⟩
    obtain ⟨hlen, hrun⟩ := hsome w hw hnp
    exact ⟨fun h => congrArg _ (hlen h), fun h => congrArg _ (hrun h)⟩
  · intro l p fn rd h word w q
    exact ⟨State.keyRun_of_foreign, fun n hn hk hfn => State.keyRun_of_slot hn hk hfn,
      fun st out hinv h1 h2 hfit i hi => State.keyEnd_zeroes hinv h1 h2 hfit i hi⟩
  · intro p h k q rd
    refine ⟨fun he => ?_, fun he => ?_, fun n hn he => ?_, gcmDec_gcmEnc k.key⟩
    · rw [State.keySync_random, he]
      rfl
    · rw [State.keySync_random, he, if_pos rfl]
      exact ⟨rfl, by rw [State.random, List.length_map, List.length_range]⟩
    · refine ⟨State.keySync_wrap hn he, fun h0 => ?_⟩
      rw [State.keySync_generate hn h0]
      simp only [State.generate, he, Bool.not_false, Bool.true_or, if_true]
  · intro n input expected k
    refine ⟨fun h => if_pos h, fun ht hm he hi => ?_, fun h => ?_, fun h => ?_⟩
    · rw [State.verifyKey_of_match ht hm he hi, State.slot_setSlot_same]
      exact ⟨rfl, rfl⟩
    · simp only [State.commitKey, h, Bool.false_eq_true, if_false]
    · simp only [State.commitKey, h, if_true, State.slot_setSlot_same, k, and_self]
  · intro p q
    exact State.queueAsym_spec
  · intro w p start
    have hrun (h : w.val < 7) : exec (.asymWindowRun w) s = .next (s.asymWindow w) :=
      (exec_eq_next_of_onCore (f := fun s => if w.val = 7 then (if s.tick.abs % 96 / 12 = 7 then s.moorWork else s) else s.asymWindow w.val)
        hs rfl).trans (congrArg _ (if_neg (Nat.ne_of_lt h)))
    refine ⟨fun h hn => ?_, fun q h hq hv ht => ⟨fun hle => ?_, fun hlt hm => ?_⟩⟩
    · rw [hrun h]
      simp only [State.asymWindow, show tget s.vault.asym (s.fld (R.VAULT_ASYM_WIN w) F.VAULT_ASYM_WIN_PART) = none from hn]
    · rw [hrun h, State.asymWindow_waits hq hle]
    · obtain ⟨hnone, st, out, hres⟩ := State.asymWindow_runs hq hv ht hlt hm
      exact ⟨_, st, out, hrun h, hnone, hres⟩

end Sys2Proof.Machine

/-!
SUPPORT. The metrology die (R463 to R476).
-/
namespace Sys2Proof.Machine

@[simp] theorem beBytes_length (n v : Nat) : (beBytes n v).length = n := by rw [beBytes, List.length_reverse, leBytes_length]

theorem beNat_beBytes (n v : Nat) : beNat (beBytes n v) = v % 256 ^ n := by rw [beNat, beBytes, List.reverse_reverse, leNat_leBytes]

theorem length_flatMap_range {n k : Nat} {f : Nat → List Byte} (h : ∀ i, (f i).length = k) : ((List.range n).flatMap f).length = n * k := by
  simp only [List.length_flatMap, h, List.map_const', List.length_range, List.sum_replicate, smul_eq_mul]

/-- A body of MEAS has 1,568 bytes. -/
theorem MetDie.body_length (d : MetDie) (m : MeasIn) : (d.body m).length = 1568 := by
  have hw (x : Word) : (beBytes 4 x.toNat).length = 4 := beBytes_length ..
  have hu : ((List.range 3).flatMap (fun i => beBytes 4 (m.u.getD i 0).toNat)).length = 3 * 4 := length_flatMap_range fun i => hw _
  have he : ((List.range 24).flatMap (fun e =>
      (List.range 4).flatMap (fun k => beBytes 4 (if d.outOfUse e then 0 else (m.elems.getD e []).getD k 0 : Word).toNat) ++
      (List.range 6).flatMap (fun r => beBytes 8 (tgetD d.regs (6 * e + r) 0)))).length = 24 * (4 * 4 + 6 * 8) := by
    refine length_flatMap_range fun e => ?_
    rw [List.length_append, length_flatMap_range fun k => hw _, length_flatMap_range fun r => beBytes_length ..]
  simp only [MetDie.body, List.length_append, beBytes_length, hu, he, List.length_cons, List.length_nil]

/-! ### Energy (R464, R466, R473) -/

/-- Only the registers take the energy. -/
theorem MetDie.accumulate_regs (d : MetDie) (m : MeasIn) : ∃ r, d.accumulate m = { d with regs := r } := by
  rw [MetDie.accumulate]
  split
  · exact ⟨d.regs, rfl⟩
  · exact ⟨_, rfl⟩

theorem MetDie.accumulate_fault {d : MetDie} (m : MeasIn) (h : d.fault = true) : d.accumulate m = d := if_pos h

/-- No energy enters the registers of an element out of use. -/
theorem MetDie.accumulate_outOfUse {d : MetDie} (m : MeasIn) {e r : Nat} (hr : r < 6) (h : d.outOfUse e = true) :
    tgetD (d.accumulate m).regs (6 * e + r) 0 = tgetD d.regs (6 * e + r) 0 := by
  rw [MetDie.accumulate]
  split
  · rfl
  · refine foldl_stands (fun t : List (Nat × Nat) => tgetD t (6 * e + r) 0) (fun t x _ => ?_) _
    split
    · refine tgetD_tput_ne _ _ _ _ _ fun hx => ?_
      rename_i hc
      rw [← hx, show (6 * e + r) / 6 = e by omega, h] at hc
      simp only [Bool.not_true, Bool.and_false, Bool.false_eq_true] at hc
    · rfl

theorem MetDie.accumulate_one {d : MetDie} {m : MeasIn} {k n : Nat} (hf : d.fault = false) (hm : m.energy = [(k, n)]) (hk : k < 144)
    (hu : d.outOfUse (k / 6) = false) : (d.accumulate m).regs = tput d.regs k ((tgetD d.regs k 0 + n) % 2 ^ 64) := by
  simp only [MetDie.accumulate, hf, hm, List.foldl_cons, List.foldl_nil, hk, hu, decide_true, Bool.not_false, Bool.and_self, Bool.false_eq_true,
    if_true, if_false]

/-! ### Legal events (R471, R472) -/

/-- The log entry of a legal event. -/
def MetDie.entry (d : MetDie) (kind param old new : Nat) : MetEntry :=
  ⟨(d.evcnt + 1) % 2 ^ 32, kind, param, d.opsec % 2 ^ 32, d.tai % 2 ^ 32, old, new, d.parChk⟩

/-- The die after a legal event. -/
def MetDie.legal (d : MetDie) (kind param old new : Nat) : MetDie :=
  { d with evcnt := (d.evcnt + 1) % 2 ^ 32, log := if d.log.length < 1024 then d.log ++ [d.entry kind param old new] else d.log,
           seq := if d.log.length < 1024 then (d.seq + 1) % 256 else d.seq }

theorem State.legal_spec (s : State) (kind param old new : Nat) : (s.legal kind param old new).met.die = s.met.die.legal kind param old new ∧
    (s.legal kind param old new).srf = s.srf ∧ (s.legal kind param old new).met.toDie = s.met.toDie := by
  simp only [State.legal]
  split
  · rename_i h
    refine ⟨?_, rfl, rfl⟩
    simp only [MetDie.legal, if_pos h]
    rfl
  · rename_i h
    refine ⟨?_, rfl, rfl⟩
    simp only [MetDie.legal, if_neg h]
    rfl

/-- Two dies with the same registers, parameters, counter and log. -/
def MetDie.SameRecord (d d' : MetDie) : Prop := d'.regs = d.regs ∧ d'.params = d.params ∧ d'.evcnt = d.evcnt ∧ d'.log = d.log

/-- From s to t the die's registers and parameters stand, and a legal event of a kind is counted and logged where there is one. -/
structure LegalStep (s t : State) (event : Bool) (kind : Nat) : Prop where
  regs : t.met.die.regs = s.met.die.regs
  params : t.met.die.params = s.met.die.params
  srf : t.srf = s.srf
  counted : event = true → t.met.die.evcnt = (s.met.die.evcnt + 1) % 2 ^ 32 ∧
    (s.met.die.log.length < 1024 → ∃ x : MetEntry, t.met.die.log = s.met.die.log ++ [x] ∧ x.kind = kind ∧ x.evcnt = (s.met.die.evcnt + 1) % 2 ^ 32) ∧
    (1024 ≤ s.met.die.log.length → t.met.die.log = s.met.die.log)
  still : event = false → t.met.die.evcnt = s.met.die.evcnt ∧ t.met.die.log = s.met.die.log ∧ t.met.toMain = s.met.toMain

theorem LegalStep.of_legal {s : State} {f : MetDie → MetDie} (hf : s.met.die.SameRecord (f s.met.die)) (kind : Nat) :
    LegalStep s ((s.setDie f).legal kind 0 0 0) true kind := by
  obtain ⟨hd, hs, _⟩ := State.legal_spec (s.setDie f) kind 0 0 0
  obtain ⟨hregs, hparams, hcnt, hlog⟩ := hf
  refine ⟨by rw [hd]; exact hregs, by rw [hd]; exact hparams, hs, fun _ => ?_, nofun⟩
  rw [hd]
  refine ⟨by rw [← hcnt]; rfl, fun h => ⟨(f s.met.die).entry kind 0 0 0, ?_, rfl, by rw [← hcnt]; rfl⟩, fun h => ?_⟩
  · rw [← hlog] at h ⊢
    exact if_pos h
  · rw [← hlog] at h ⊢
    exact if_neg (Nat.not_lt.2 h)

theorem LegalStep.of_still {s : State} {f : MetDie → MetDie} (hf : s.met.die.SameRecord (f s.met.die)) (kind : Nat) :
    LegalStep s (s.setDie f) false kind := by
  obtain ⟨hregs, hparams, hcnt, hlog⟩ := hf
  exact ⟨hregs, hparams, rfl, nofun, fun _ => ⟨hcnt, hlog, rfl⟩⟩

theorem State.seal_step {s : State} {moved : MetDie → Bool} {f : MetDie → MetDie} (kind : Nat) (hf : s.met.die.SameRecord (f s.met.die)) :
    LegalStep s (s.seal moved f kind) (s.met.die.on && moved s.met.die) kind := by
  rw [State.seal]
  split
  · rename_i h
    rw [h]
    exact .of_legal hf kind
  · rename_i h
    rw [Bool.eq_false_iff.2 h]
    exact .of_still hf kind

/-- Whether it is a legal event or not, a movement leaves the contact as it moved it. -/
theorem State.seal_die {α : Type} (s : State) (moved : MetDie → Bool) (f : MetDie → MetDie) (kind : Nat) (g : MetDie → α)
    (hg : ∀ d, g (d.legal kind 0 0 0) = g d) : g (s.seal moved f kind).met.die = g (f s.met.die) := by
  rw [State.seal]
  split
  · rw [(State.legal_spec ..).1, hg]
    rfl
  · rfl

theorem State.swFault_step (s : State) : LegalStep s
    (if s.met.die.on && !s.met.die.fault then (s.setDie (fun d => { d with fault := true })).legal 6 0 0 0 else s) (s.met.die.on && !s.met.die.fault) 6 := by
  split
  · rename_i h
    rw [h]
    exact .of_legal ⟨rfl, rfl, rfl, rfl⟩ 6
  · rename_i h
    rw [Bool.eq_false_iff.2 h]
    exact .of_still (f := id) ⟨rfl, rfl, rfl, rfl⟩ 6

/-! ### Parameter changes (R469, R470) -/

theorem MetDie.judge_locked {d : MetDie} {i v : Nat} (h : d.change = false) : d.judge i v = crLOCKED := by
  rw [MetDie.judge, h]
  rfl

theorem MetDie.judge_ok {d : MetDie} {i v : Nat} (h : d.judge i v = crOK) :
    d.change = true ∧ d.rangeOk i v = true ∧ d.log.length < 1008 ∧ d.fault = false := by
  rw [MetDie.judge] at h
  split at h
  · exact absurd h (by decide)
  · split at h
    · exact absurd h (by decide)
    · split at h
      · exact absurd h (by decide)
      · split at h
        · exact absurd h (by decide)
        · rename_i h1 h2 h3 h4
          simp only [Bool.not_eq_true, Bool.not_eq_false', MetDie.logFull, decide_eq_false_iff_not, Nat.not_le] at h1 h2 h3 h4
          exact ⟨h1, h2, h3, h4⟩

theorem MetDie.judge_lt (d : MetDie) (i v : Nat) : d.judge i v < 256 := by
  rw [MetDie.judge]
  repeat' split
  all_goals decide

/-- An executed request changes its parameter and is a legal event. -/
theorem State.changeReq_ok {s : State} {i v : Nat} (h : s.met.die.judge i v = crOK) :
    (s.changeReq i v).met.die = { ({ s.met.die with params := lset s.met.die.params i v } : MetDie).legal 1 i (s.met.die.par i) v with
      seq := (((({ s.met.die with params := lset s.met.die.params i v } : MetDie).legal 1 i (s.met.die.par i) v).seq + 1) % 256) } ∧
    (s.changeReq i v).met.toDie = s.met.toDie := by
  obtain ⟨hd, _, ht⟩ := State.legal_spec (s.setDie (fun d => { d with params := lset d.params i v })) 1 i (s.met.die.par i) v
  simp only [State.changeReq, if_pos h]
  generalize State.legal _ _ _ _ _ = u at hd ht ⊢
  refine ⟨?_, ht⟩
  rw [State.setDie, State.setMet] at hd
  rw [← hd]
  rfl

theorem State.changeReq_refused {s : State} {i v : Nat} (h : s.met.die.judge i v ≠ crOK) :
    s.changeReq i v = (s.setDie (fun d => { d with refused := d.refused + 1 })).dieSend lfCHG_RESULT
      (beBytes 1 i ++ beBytes 1 (s.met.die.judge i v) ++ [0, 0] ++ beBytes 4 s.met.die.evcnt) := by
  simp only [State.changeReq, if_neg h]
  rfl

/-! ### Frames -/

theorem State.dieTake_good {s : State} {f : LinkFrame} {rest : List LinkFrame} (hon : s.met.die.on = true) (hd : s.met.toDie = f :: rest)
    {type : Nat} (hf : f.type = type) : s.dieTake type true = (some f.body, s.setMet (fun m => { m with toDie := rest })) := by
  simp only [State.dieTake, hd, hf, ne_eq, not_true_eq_false, if_false]
  rw [if_neg (by simp only [State.setMet, hon]; exact Bool.false_ne_true)]
  rfl

theorem State.dieTake_bad {s : State} {f : LinkFrame} {rest : List LinkFrame} (hon : s.met.die.on = true) (hd : s.met.toDie = f :: rest)
    {type : Nat} (hf : f.type = type) : s.dieTake type false = (none, (s.setMet (fun m => { m with toDie := rest })).setDie
      (fun d => { d with bad := d.bad + 1 })) := by
  simp only [State.dieTake, hd, hf, ne_eq, not_true_eq_false, if_false]
  rw [if_neg (by simp only [State.setMet, hon]; exact Bool.false_ne_true)]
  rfl

/-- Entries sent one by one. -/
theorem State.dieSend_fold (l : List MetEntry) (s : State) : ∃ fs : List LinkFrame,
    (l.foldl (fun s e => s.dieSend lfLOG e.bytes) s).met.toMain = s.met.toMain ++ fs ∧ fs.map (fun y => y.body) = l.map (fun y => y.bytes) ∧
    (l.foldl (fun s e => s.dieSend lfLOG e.bytes) s).met.toDie = s.met.toDie := by
  induction l generalizing s with
  | nil => exact ⟨[], (List.append_nil _).symm, rfl, rfl⟩
  | cons e l ih =>
    obtain ⟨fs, h1, h2, h3⟩ := ih (s.dieSend lfLOG e.bytes)
    refine ⟨⟨lfLOG, s.met.die.seq, e.bytes⟩ :: fs, ?_, ?_, h3⟩
    · rw [List.foldl_cons, h1]
      exact List.append_assoc ..
    · rw [List.map_cons, List.map_cons, h2]

/-! ### The obligation -/

theorem State.intervalEnd_spec {s : State} (m : MeasIn) (hon : s.met.die.on = true) :
    (s.intervalEnd m).met.toMain = s.met.toMain ++ [⟨lfMEAS, s.met.die.seq, ({ s.met.die.accumulate m with nov := m.nov } : MetDie).body m⟩] ∧
    (s.intervalEnd m).met.die = { s.met.die with
      regs := (s.met.die.accumulate m).regs, nov := m.nov, seq := (s.met.die.seq + 1) % 256, interval := (s.met.die.interval + 1) % 2 ^ 32,
      ops := s.met.die.ops + 1, force := s.met.die.params, test := s.met.die.sel } := by
  simp only [State.intervalEnd, hon, Bool.not_true, Bool.false_eq_true, if_false]
  simp only [State.setDie, State.setMet, State.dieSend]
  obtain ⟨r, hr⟩ := s.met.die.accumulate_regs m
  rw [hr]
  exact ⟨rfl, by congr 1⟩

/-- Settles O51: each command of the die is one update of its record and the frame it sends. -/
theorem metrologyDie : Obligations.MetrologyDie := by
  unfold Obligations.MetrologyDie
  intro s d
  have hseal {i : Instr} (moved : MetDie → Bool) (f : MetDie → MetDie) (kind : Nat) (harm : exec i s = .next (s.seal moved f kind))
      (hf : d.SameRecord (f d)) : ∃ t : State, exec i s = .next t ∧ LegalStep s t (d.on && moved d) kind := ⟨_, harm, State.seal_step kind hf⟩
  refine ⟨fun m => ⟨fun h => ?_, fun h => ?_⟩, ?_, ?_, ?_, ?_, ?_, fun h => ?_, fun h => ?_, fun h => ⟨fun sec => ?_, fun f rest hd => ⟨?_, ?_, ?_, ?_⟩⟩⟩
  · exact congrArg Host.Outcome.next (if_pos (by rw [show s.met.die.on = false from h]; rfl))
  · obtain ⟨hmain, hdie⟩ := State.intervalEnd_spec m h
    refine ⟨_, _, rfl, hmain, rfl, MetDie.body_length .., ?_⟩
    rw [hdie]
    refine ⟨rfl, rfl, rfl, rfl, fun hf => by rw [MetDie.accumulate_fault m hf], fun e r _ hr hu => MetDie.accumulate_outOfUse m hr hu,
      fun k n hf hm hk hu => ?_⟩
    rw [MetDie.accumulate_one hf hm hk hu]
    exact ⟨tgetD_tput_same .., fun j hj => tgetD_tput_ne _ _ _ _ _ hj⟩
  · have hstep {i : Instr} {b : Bool} {kind : Nat} (h : ∃ t : State, exec i s = .next t ∧ LegalStep s t (d.on && b) kind) :
        ∃ t : State, exec i s = .next t ∧ t.met.die.regs = d.regs ∧ t.met.die.params = d.params ∧ t.srf = s.srf ∧
          ((d.on && b) = true → t.met.die.evcnt = (d.evcnt + 1) % 2 ^ 32 ∧
            (d.log.length < 1024 → ∃ x : MetEntry, t.met.die.log = d.log ++ [x] ∧ x.kind = kind ∧ x.evcnt = (d.evcnt + 1) % 2 ^ 32) ∧
            (1024 ≤ d.log.length → t.met.die.log = d.log)) ∧
          ((d.on && b) = false → t.met.die.evcnt = d.evcnt ∧ t.met.die.log = d.log ∧ t.met.toMain = s.met.toMain) := by
      obtain ⟨t, ht, h⟩ := h
      exact ⟨t, ht, h.regs, h.params, h.srf, h.counted, h.still⟩
    simp only [List.forall_mem_cons, List.not_mem_nil, false_imp_iff, implies_true, and_true]
    exact ⟨hstep (hseal (fun d => !d.cover) (fun d => { d with cover := true }) 2 rfl ⟨rfl, rfl, rfl, rfl⟩),
      hstep (hseal (fun d => d.cover) (fun d => { d with cover := false }) 3 rfl ⟨rfl, rfl, rfl, rfl⟩),
      hstep (hseal (fun d => !d.change) (fun d => { d with change := true }) 4 rfl ⟨rfl, rfl, rfl, rfl⟩),
      hstep (hseal (fun d => d.change) (fun d => { d with change := false }) 5 rfl ⟨rfl, rfl, rfl, rfl⟩),
      hstep ⟨_, rfl, s.swFault_step⟩⟩
  · exact ⟨_, rfl, State.seal_die s _ _ 2 MetDie.cover fun _ => rfl⟩
  · exact ⟨_, rfl, State.seal_die s _ _ 3 MetDie.cover fun _ => rfl⟩
  · exact ⟨_, rfl, State.seal_die s _ _ 4 MetDie.change fun _ => rfl⟩
  · exact ⟨_, rfl, State.seal_die s _ _ 5 MetDie.change fun _ => rfl⟩
  · have hon : s.met.die.on = true := h
    refine ⟨⟨_, congrArg Host.Outcome.next (if_pos hon), rfl, rfl, rfl, rfl⟩, ⟨_, congrArg Host.Outcome.next (if_pos hon), rfl⟩,
      congrArg Host.Outcome.next (if_pos hon), _, rfl, ?_⟩
    split
    · rw [(State.legal_spec ..).1]
      rfl
    · rename_i hc
      simpa only [hon, Bool.true_and, Bool.not_eq_true, Bool.not_eq_false'] using hc
  · have hon : s.met.die.on = false := h
    exact ⟨_, _, congrArg Host.Outcome.next (if_neg (by rw [hon]; exact Bool.false_ne_true)), rfl, rfl, rfl, rfl, rfl, rfl, rfl⟩
  · have hon : s.met.die.on = true := h
    have hrun (b : Bool) : exec (.metTime sec b) s = .next (s.setDie (fun d => if b then { d with tai := sec.toNat } else { d with bad := d.bad + 1 })) :=
      congrArg Host.Outcome.next (if_neg (by rw [hon]; exact Bool.false_ne_true))
    exact ⟨hrun true, hrun false⟩
  · simp only [List.forall_mem_cons, List.not_mem_nil, false_imp_iff, implies_true, and_true]
    have hbad {i : Instr} (harm : exec i s = .next ((s.setMet (fun m => { m with toDie := rest })).setDie (fun d => { d with bad := d.bad + 1 }))) :
        ∃ t : State, exec i s = .next t ∧ t.met.toDie = rest ∧ t.met.die = { d with bad := d.bad + 1 } := ⟨_, harm, rfl, rfl⟩
    refine ⟨fun hf => hbad ?_, fun hf => hbad ?_, fun hf => hbad ?_⟩
    · exact congrArg Host.Outcome.next (by rw [State.dieTake_bad h hd hf])
    · exact congrArg Host.Outcome.next (by rw [State.dieTake_bad h hd hf])
    · exact congrArg Host.Outcome.next (by rw [State.dieTake_bad h hd hf])
  · intro hf i v
    have hrun : exec (.chgReq true) s = .next ((s.setMet (fun m => { m with toDie := rest })).changeReq i v) :=
      congrArg Host.Outcome.next (by rw [State.dieTake_good h hd hf])
    refine ⟨MetDie.judge_locked, MetDie.judge_ok, _, hrun, ?_⟩
    by_cases hok : d.judge i v = crOK
    · obtain ⟨hdie, hto⟩ := State.changeReq_ok (s := s.setMet (fun m => { m with toDie := rest })) hok
      rw [hdie]
      obtain ⟨_, _, hlog, _⟩ := MetDie.judge_ok hok
      exact ⟨hto, rfl, fun _ => ⟨rfl, rfl, _, if_pos (Nat.lt_trans hlog (by decide)), rfl, rfl, rfl, rfl⟩, fun hne => absurd hok hne⟩
    · rw [State.changeReq_refused (s := s.setMet (fun m => { m with toDie := rest })) hok]
      refine ⟨rfl, rfl, fun h' => absurd h' hok, fun _ => ⟨rfl, rfl, rfl, rfl, _, rfl, rfl, ?_⟩⟩
      exact (beNat_beBytes 1 _).trans (Nat.mod_eq_of_lt (MetDie.judge_lt ..))
  · intro hf
    have hrun : exec (.testSel true) s = .next ((s.setMet (fun m => { m with toDie := rest })).setDie
        (fun d => { d with sel := (beNat (sub f.body 0 1), beNat (sub f.body 1 1) == 1) })) :=
      congrArg Host.Outcome.next (by rw [State.dieTake_good h hd hf])
    exact ⟨_, hrun, rfl, rfl⟩
  · intro hf
    obtain ⟨fs, h1, h2, h3⟩ := State.dieSend_fold (d.log.drop (beNat (sub f.body 0 2))) ((s.setMet (fun m => { m with toDie := rest })).sendIdent)
    refine ⟨_, _, fs, congrArg Host.Outcome.next ?_, h3, h1.trans (List.append_assoc ..), rfl, h2⟩
    rw [State.dieTake_good h hd hf]
    rfl

end Sys2Proof.Machine

/-!
SUPPORT. The main die's side of the metrology link (R468, R470, R474, R477, R478, R481).
-/
namespace Sys2Proof.Machine

section
variable {s : State} {f : LinkFrame} {rest : List LinkFrame} {type : Nat}

/-- The frame at the head of the link is taken, and what it does depends on CORE and on its CRC. -/
theorem State.mainTake_eq (hm : s.met.toMain = f :: rest) (hf : f.type = type) (ok : Bool) :
    s.mainTake type ok = if s.coreOn then
        (if ok then s.setMet (fun m => { m with toMain := rest, arrived := m.arrived ++ [f] })
         else (s.setMet (fun m => { m with toMain := rest })).incFld R.METL_STAT F.METL_STAT_FRAMES_BAD 255)
      else s.setMet (fun m => { m with toMain := rest }) := by
  simp only [State.mainTake, hm, hf, ne_eq, not_true_eq_false, if_false]
  rw [show State.coreOn (s.setMet _) = s.coreOn from rfl]
  cases s.coreOn <;> cases ok <;> rfl

end

/-- What a frame of the die leaves on the main die. -/
theorem State.mainTake_spec {s : State} {f : LinkFrame} {rest : List LinkFrame} {type : Nat} {i : Bool → Instr}
    (harm : ∀ ok, exec (i ok) s = .next (s.mainTake type ok)) (hm : s.met.toMain = f :: rest) (hf : f.type = type) :
    (s.coreOn = true → (∃ t : State, exec (i true) s = .next t ∧ t.met.toMain = rest ∧ t.met.arrived = s.met.arrived ++ [f] ∧ t.srf = s.srf) ∧
      (∃ t : State, exec (i false) s = .next t ∧ t.met.toMain = rest ∧ t.met.arrived = s.met.arrived ∧
        t.fld R.METL_STAT F.METL_STAT_FRAMES_BAD = min (s.fld R.METL_STAT F.METL_STAT_FRAMES_BAD + 1) 255)) ∧
    (s.coreOn = false → ∀ ok : Bool, ∃ t : State, exec (i ok) s = .next t ∧ t.met.toMain = rest ∧ t.met.arrived = s.met.arrived ∧ t.srf = s.srf) := by
  simp only [harm, State.mainTake_eq hm hf]
  refine ⟨fun h => ?_, fun h ok => ?_⟩
  · simp only [h, Bool.false_eq_true, if_true, if_false]
    refine ⟨⟨_, rfl, rfl, rfl, rfl⟩, _, rfl, rfl, rfl, ?_⟩
    rw [State.fld_incFld_same _ _ _ _ (by decide) (by decide)]
    rfl
  · simp only [h, Bool.false_eq_true, if_false]
    exact ⟨_, rfl, rfl, rfl, rfl⟩

section
variable {s : State} {w : Word}

theorem chgGo_cond (hg : F.METL_CHG_CMD_GO.get w = 1) : (!F.METL_CHG_CMD_GO.get w == 1) = false := by
  rw [hg]
  rfl

theorem State.chgGo_pending (hr : s.fld R.METL_CHG_STAT F.METL_CHG_STAT_RESULT = crPENDING) : s.chgGo w = s := by
  simp only [State.chgGo, hr, beq_self_eq_true, Bool.or_true, if_true]

theorem State.chgGo_noLink (hg : F.METL_CHG_CMD_GO.get w = 1) (hr : s.fld R.METL_CHG_STAT F.METL_CHG_STAT_RESULT ≠ crPENDING)
    (hl : s.flag R.METL_STAT F.METL_STAT_LINK = false) : s.chgGo w = s.setFld R.METL_CHG_STAT F.METL_CHG_STAT_RESULT crNO_LINK := by
  simp only [State.chgGo, chgGo_cond hg, beq_eq_false_iff_ne.2 hr, hl, Bool.or_self, Bool.false_eq_true, if_false, Bool.not_false, if_true]

theorem State.chgGo_sent (hg : F.METL_CHG_CMD_GO.get w = 1) (hr : s.fld R.METL_CHG_STAT F.METL_CHG_STAT_RESULT ≠ crPENDING)
    (hl : s.flag R.METL_STAT F.METL_STAT_LINK = true) : s.chgGo w =
      (s.mainSend lfCHG_REQ (beBytes 1 (F.METL_CHG_CMD_PARAM.get w) ++ [0, 0, 0] ++ beBytes 4 (s.reg R.METL_CHG_VAL).toNat)).setFld
        R.METL_CHG_STAT F.METL_CHG_STAT_RESULT crPENDING := by
  simp only [State.chgGo, chgGo_cond hg, beq_eq_false_iff_ne.2 hr, hl, Bool.or_self, Bool.false_eq_true, if_false, Bool.not_true]

end

/-! ### The obligation -/

theorem State.metlLinkDown_spec {s : State} (hs : s.coreOn = true) (hl : s.flag R.METL_STAT F.METL_STAT_LINK = true)
    (hold : ∀ b k, s.met.meas = some (b, k) → k + 1440 ≤ s.tick.count) : ∃ t : State, exec .metlLinkDown s = .next t ∧
      t.flag R.METL_STAT F.METL_STAT_LINK = false ∧ t.fld R.METL_CHG_STAT F.METL_CHG_STAT_RESULT =
        (if s.fld R.METL_CHG_STAT F.METL_CHG_STAT_RESULT = crPENDING then crNO_LINK else s.fld R.METL_CHG_STAT F.METL_CHG_STAT_RESULT) ∧
      t.met = s.met := by
  rw [show exec .metlLinkDown s = execMetlLinkDown s from rfl, execMetlLinkDown, State.onCore, if_pos hs]
  refine ⟨_, rfl, ?_⟩
  extract_lets old u
  have hold' : old = true := by
    simp only [old]
    split
    · rename_i h
      exact decide_eq_true (hold _ _ h)
    · rfl
  have hstat : u.reg R.METL_STAT = (s.setFlag R.METL_STAT F.METL_STAT_LINK false).reg R.METL_STAT := State.reg_event _ _ _ _ _ _ _ (by decide)
  have hflag : u.flag R.METL_STAT F.METL_STAT_LINK = false := (State.flag_of_reg hstat _).trans (State.flag_setFlag_same _ _ _ _ (by decide) (by decide))
  have hres : u.fld R.METL_CHG_STAT F.METL_CHG_STAT_RESULT = s.fld R.METL_CHG_STAT F.METL_CHG_STAT_RESULT :=
    State.fld_of_reg ((State.reg_event _ _ _ _ _ _ _ (by decide)).trans (State.reg_setFlag_ne _ _ _ _ _ (by decide))) _
  have hmet : u.met = s.met := by simp only [u, State.event_met, State.setFlag_met]
  rw [hl, hold', Bool.and_self, if_pos rfl, hres]
  split
  · refine ⟨?_, State.fld_setFld_same _ _ _ _ (by decide), hmet⟩
    rw [← hflag]
    exact State.flag_of_reg (State.reg_setFld_ne _ _ _ _ _ (by decide)) _
  · exact ⟨hflag, hres, hmet⟩

theorem State.metlLinkDown_fresh {s : State} {b : List Byte} {k : Nat} (hs : s.coreOn = true) (hm : s.met.meas = some (b, k))
    (h : s.tick.count < k + 1440) : exec .metlLinkDown s = .next s := by
  rw [show exec .metlLinkDown s = execMetlLinkDown s from rfl, execMetlLinkDown, State.onCore, if_pos hs]
  simp only [hm, decide_eq_false (Nat.not_le.2 h), Bool.and_false, Bool.false_eq_true, if_false]

section
variable {s : State} {e : Nat} {w : Word}

theorem State.assignWrite_bad (hv : (w &&& 0xFF0FFFFF).getLsbD 31 = true) (hok : s.assignOk (w &&& 0xFF0FFFFF) = false) :
    s.assignWrite e w = s.event Ev.METL_MAP_REFUSED (F.METL_ASSIGN_PART.get (w &&& 0xFF0FFFFF)) := by
  simp only [State.assignWrite]
  rw [hv, hok]
  rfl

theorem State.assignWrite_taken (hv : (w &&& 0xFF0FFFFF).getLsbD 31 = false) (hold : (s.reg (R.METL_ASSIGN e)).getLsbD 31 = true)
    (hp : F.METL_ASSIGN_PART.get (s.reg (R.METL_ASSIGN e)) ≠ 0) (hfree : s.pstate (F.METL_ASSIGN_PART.get (s.reg (R.METL_ASSIGN e))) ≠ psFree) :
    s.assignWrite e w = s.event Ev.METL_MAP_REFUSED (F.METL_ASSIGN_PART.get (s.reg (R.METL_ASSIGN e))) := by
  simp only [State.assignWrite]
  rw [hv, hold, bne_iff_ne.2 hp, bne_iff_ne.2 hfree]
  rfl

theorem State.assignWrite_good (hv : (w &&& 0xFF0FFFFF).getLsbD 31 = true) (hok : s.assignOk (w &&& 0xFF0FFFFF) = true)
    (hold : (s.reg (R.METL_ASSIGN e)).getLsbD 31 = false) : s.assignWrite e w = s.bindWrite (R.METL_ASSIGN e) (w &&& 0xFF0FFFFF) := by
  simp only [State.assignWrite]
  rw [hv, hok, hold]
  rfl

end

theorem Fld.get_lt_of_len (f : Fld) (w : Word) {n : Nat} (h : f.len ≤ n) : f.get w < 2 ^ n :=
  Nat.lt_of_lt_of_le (f.get_lt w) (Nat.pow_le_pow_right (by decide) h)

/-- Settles O52: each command of the main die's side is one update of the link and of the METL registers. -/
theorem metrologyLink : Obligations.MetrologyLink := by
  unfold Obligations.MetrologyLink
  intro s
  refine ⟨?_, fun hs => ?_⟩
  · simp only [List.forall_mem_cons, List.not_mem_nil, false_imp_iff, implies_true, and_true]
    exact ⟨fun f rest hm hf => State.mainTake_spec (i := .meas) (fun _ => rfl) hm hf, fun f rest hm hf => State.mainTake_spec (i := .metLog) (fun _ => rfl) hm hf,
      fun f rest hm hf => State.mainTake_spec (i := .metIdent) (fun _ => rfl) hm hf, fun f rest hm hf => State.mainTake_spec (i := .chgResult) (fun _ => rfl) hm hf⟩
  intro result
  refine ⟨fun w hg => ?_, fun w => ?_, State.metlLinkDown_spec hs, fun b k => State.metlLinkDown_fresh hs, fun e w => ?_⟩
  · have hexec := exec_eq_next_of_onCore (i := .metlChgGo w) (f := fun s => s.chgGo w) hs rfl
    refine ⟨fun hr => hexec.trans (congrArg _ (State.chgGo_pending hr)), fun hr hl => hexec.trans (congrArg _ (State.chgGo_noLink hg hr hl)),
      fun hr hl => ⟨_, ⟨lfCHG_REQ, s.met.seq, _⟩, hexec.trans (congrArg _ (State.chgGo_sent hg hr hl)), State.fld_setFld_same _ _ _ _ (by decide), rfl, rfl, ?_, ?_⟩⟩
    · exact (beNat_beBytes 1 _).trans (Nat.mod_eq_of_lt (Fld.get_lt_of_len (n := 8) _ w (by decide)))
    · exact (beNat_beBytes 4 _).trans (Nat.mod_eq_of_lt (s.reg R.METL_CHG_VAL).isLt)
  · refine ⟨_, ⟨lfTEST_SEL, s.met.seq, _⟩, exec_eq_next_of_onCore (i := .metlTestWrite w) (f := fun s => s.testWrite w) hs rfl,
      State.reg_setReg_same .., rfl, rfl, ?_, ?_⟩
    · exact (beNat_beBytes 1 _).trans (Nat.mod_eq_of_lt (Fld.get_lt_of_len (n := 8) _ w (by decide)))
    · exact (beNat_beBytes 1 _).trans (Nat.mod_eq_of_lt (Fld.get_lt_of_len (n := 8) _ w (by decide)))
  · intro v old p
    have hexec := exec_eq_next_of_onCore (i := .metlAssignWrite e w) (f := fun s => s.assignWrite e.val w) hs rfl
    refine ⟨fun hv hok => hexec.trans (congrArg _ (State.assignWrite_bad hv hok)),
      fun hv hold hp hfree => hexec.trans (congrArg _ (State.assignWrite_taken hv hold hp hfree)),
      fun hv hok hold => ⟨_, hexec.trans (congrArg _ (State.assignWrite_good hv hok hold)), State.reg_setReg_same ..,
        fun a ha => State.reg_setReg_ne _ _ _ _ ha, rfl⟩⟩

end Sys2Proof.Machine

/-!
SUPPORT. Retained storage: bindings, requests, captures and page writes (R483 to R494).
-/
namespace Sys2Proof.Machine

/-! ### A register outside the directory leaves the allocation -/

theorem filter_tput_of_not {α : Type} {p : Nat × α → Bool} {x : Nat} (h : ∀ v, p (x, v) = false) (t : List (Nat × α)) (a : α) :
    (tput t x a).filter p = t.filter p := by
  induction t with
  | nil => exact List.filter_cons_of_neg (by rw [h]; exact Bool.false_ne_true)
  | cons e t ih =>
    rw [tput]
    split
    · exact List.filter_cons_of_neg (by rw [h]; exact Bool.false_ne_true)
    · split
      · rename_i hx
        subst hx
        rw [List.filter_cons_of_neg (by rw [h]; exact Bool.false_ne_true), List.filter_cons_of_neg (by rw [h e.2]; exact Bool.false_ne_true)]
      · rw [List.filter_cons, List.filter_cons, ih]

theorem filter_dput_of_not {α : Type} [DecidableEq α] {p : Nat × α → Bool} {x : Nat} (h : ∀ v, p (x, v) = false) (d : Nat → α)
    (t : List (Nat × α)) (a : α) : (dput d t x a).filter p = t.filter p := by
  rw [dput]
  split
  · rw [tdel, List.filter_filter]
    refine List.filter_congr fun e _ => ?_
    by_cases hx : e.1 = x
    · rw [← hx] at h
      rw [h e.2, Bool.false_and]
    · rw [bne_iff_ne.2 hx, Bool.and_true]
  · exact filter_tput_of_not h t a

theorem State.allocated_setReg (s : State) {a : Nat} (w : Word) (h : a < 0x14000 ∨ 0x18000 ≤ a) : (s.setReg a w).allocated = s.allocated := by
  refine congrArg (List.map _) (filter_dput_of_not (fun v => ?_) _ _ _)
  rcases h with h | h
  · simp only [decide_eq_false (Nat.not_le.2 h), Bool.false_and]
  · simp only [decide_eq_false (Nat.not_lt.2 h), Bool.false_and, Bool.and_false]

/-- The tile a ring names follows its identifier, its partition and the directory. -/
theorem State.ringTile_congr {s t : State} {r : Nat} (hid : t.reg (R.KEEP_RING_ID r) = s.reg (R.KEEP_RING_ID r))
    (hcfg : t.reg (R.KEEP_RING_CFG r) = s.reg (R.KEEP_RING_CFG r)) (hdir : ∀ a, a < 0xE1000 → t.reg a = s.reg a) (hal : t.allocated = s.allocated) :
    t.ringTile r = s.ringTile r := by
  have hfind : t.findIdent (t.reg (R.KEEP_RING_ID r)).toNat = s.findIdent (s.reg (R.KEEP_RING_ID r)).toNat := by
    rw [State.findIdent, State.findIdent, hal, hid]
    refine List.find?_congr fun l hl => ?_
    have hl := State.allocated_lt hl
    rw [State.dirIdent, State.dirIdent, State.dirAct, State.dirAct, hdir _ (by simp only [R.TS_DIR_ID]; omega),
      State.flag_of_reg (hdir _ (by simp only [R.TS_DIR_CTL]; omega))]
  simp only [State.ringTile, hfind]
  cases hf : s.findIdent (s.reg (R.KEEP_RING_ID r)).toNat with
  | none => rfl
  | some l =>
    have hl := State.allocated_lt (List.mem_of_find?_eq_some hf)
    have hctl : t.reg (R.TS_DIR_CTL l) = s.reg (R.TS_DIR_CTL l) := hdir _ (by simp only [R.TS_DIR_CTL]; omega)
    simp only [State.dirOwner, State.dirKind, State.ringPart, State.fld_of_reg hctl, State.fld_of_reg hcfg]
    rfl

@[simp] theorem State.ring_setRing_same (s : State) (r : Nat) (x : RingSt) : (s.setRing r x).ring r = x := tgetD_tput_same ..

/-! ### Bindings (R483) -/

theorem State.ringIndex_reg (s : State) (r : Nat) {a : Nat} (h : a < 0x100000 ∨ 0x110000 ≤ a) : (s.ringIndex r).reg a = s.reg a := by
  unfold State.ringIndex
  split
  · rfl
  · extract_lets
    split
    · rw [State.reg_event _ _ _ _ _ _ _ h]
      rfl
    · rfl

section
variable {s : State} {r : Nat} {w : Word}

theorem valid_of_flag {c : Word} (h : (F.KEEP_RING_CFG_VALID.get c != 0) = false) : (F.KEEP_RING_CFG_VALID.get c == 1) = false := by
  rw [beq_eq_false_iff_ne]
  rw [bne_eq_false_iff_eq] at h
  omega

theorem State.keepRingWrite_refused (hv : F.KEEP_RING_CFG_VALID.get (w &&& 0xFFC1FFFF) = 1)
    (hf : s.flag (R.KEEP_RING_CFG r) F.KEEP_RING_CFG_VALID = false)
    (h : s.ringRefused r (w &&& 0xFFC1FFFF) (s.reg (R.KEEP_RING_GAP r)) = true) :
    s.keepRingWrite r 0 w = s.event Ev.KEEP_RING_REFUSED 0xFF (R.KEEP_RING_CFG r) := by
  have hne : w &&& 0xFFC1FFFF ≠ s.reg (R.KEEP_RING_CFG r) := fun he => by
    have h0 := valid_of_flag hf
    rw [← he, hv] at h0
    exact absurd h0 (by decide)
  simp only [State.keepRingWrite, if_true, Nat.zero_ne_one, if_false, OfNat.zero_ne_ofNat, hne, false_and, hv, h, beq_self_eq_true, Bool.and_self]

theorem State.keepRingWrite_stands (hv : F.KEEP_RING_CFG_VALID.get (w &&& 0xFFC1FFFF) = 1) (hr : r < 256)
    (hf : s.flag (R.KEEP_RING_CFG r) F.KEEP_RING_CFG_VALID = false)
    (h : s.ringRefused r (w &&& 0xFFC1FFFF) (s.reg (R.KEEP_RING_GAP r)) = false) (hsof : F.KEEP_RING_CFG_SOF.get (w &&& 0xFFC1FFFF) = 0) :
    (s.keepRingWrite r 0 w).reg (R.KEEP_RING_CFG r) = w &&& 0xFFC1FFFF := by
  have hne : w &&& 0xFFC1FFFF ≠ s.reg (R.KEEP_RING_CFG r) := fun he => by
    have h0 := valid_of_flag hf
    rw [← he, hv] at h0
    exact absurd h0 (by decide)
  have h0 : (F.KEEP_RING_CFG_VALID.get (s.reg (R.KEEP_RING_CFG r)) == 1) = false := valid_of_flag hf
  unfold State.keepRingWrite
  extract_lets ac ai ag c0 cfg ident gap a valid sofs moved u1 u2 u3 u4 u5 u6
  have hcfg : cfg = w &&& 0xFFC1FFFF := rfl
  have hc : valid cfg = true := beq_iff_eq.2 hv
  have hc0 : valid c0 = false := h0
  have href : s.ringRefused r cfg gap = false := h
  have hs0 : (F.KEEP_RING_CFG_SOF.get cfg == 1) = false := by
    rw [hcfg, hsof]
    rfl
  rw [if_neg fun hx => hne hx.1, hc, href, hs0, hc0]
  simp only [Bool.true_and, Bool.false_and, Bool.false_eq_true, if_false, if_true]
  rw [State.ringIndex_reg _ _ (by simp only [R.KEEP_RING_CFG]; omega)]
  have h6 : u6 = u5.bindWrite ac cfg := by simp only [u6, hc, hc0, Bool.not_false, Bool.and_self, if_true]
  rw [h6]
  exact State.reg_setReg_same ..

/-- A ring whose pages would wear out within the service life is refused (R493). -/
theorem State.ringRefused_of_gap {cfg gap : Word} (h : F.KEEP_RING_GAP_MIN_GAP.get gap * F.KEEP_RING_CFG_SIZE.get cfg < 3029530) :
    s.ringRefused r cfg gap = true := by
  simp only [State.ringRefused, decide_eq_true h, Bool.or_true, Bool.true_or]

end

/-! ### Requests (R487) -/

theorem State.keepCmd_zero {s : State} {w : Word} (h : F.KEEP_CMD_STORE.get w = 0) : s.keepCmd w = s := by
  simp only [State.keepCmd, if_pos h]

theorem State.keepCmd_asks {s : State} {w : Word} (h : F.KEEP_CMD_STORE.get w ≠ 0)
    (hv : s.flag (R.KEEP_RING_CFG (F.KEEP_CMD_RING.get w)) F.KEEP_RING_CFG_VALID = true) (hp : s.ringPart (F.KEEP_CMD_RING.get w) = 0) :
    s.keepCmd w = s.askStore (F.KEEP_CMD_RING.get w) := by
  simp only [State.keepCmd, if_neg h, hv, hp, beq_self_eq_true, Bool.and_self, if_true]

theorem State.askStore_spec (s : State) (r : Nat) :
    (s.ringState r = rgWORN → s.askStore r = s.setFld (R.KEEP_RING_STAT r) F.KEEP_RING_STAT_LAST_ERR 2) ∧
    (s.ringState r ≠ rgWORN → s.ringBound r = true → s.ringDirty r = true → s.askStore r = s.setRing r { s.ring r with asked := true }) ∧
    (s.ringState r ≠ rgWORN → s.ringDirty r = false → s.askStore r = s) := by
  rw [State.askStore]
  refine ⟨fun h => if_pos (beq_iff_eq.2 h), fun h hb hd => ?_, fun h hd => ?_⟩
  · rw [if_neg (mt beq_iff_eq.1 h), hb, hd]
    rfl
  · rw [if_neg (mt beq_iff_eq.1 h), hd, Bool.and_false, if_neg Bool.false_ne_true]

/-! ### Captures (R487, R488) -/

section
variable {s : State} {r loc : Nat}

theorem State.capture_idle (hl : s.ringTile r = some loc)
    (h : s.ringAsked r = false ∨ s.ringStores r = false ∨ s.stepTick (loc / 64) = false ∨ s.ringWriting r = true) : s.capture r = s := by
  simp only [State.capture, hl]
  refine if_pos ?_
  rcases h with h | h | h | h
  · simp only [h, Bool.not_false, Bool.or_true, Bool.true_or]
  · simp only [h, Bool.not_false, Bool.true_or]
  · simp only [h, Bool.not_false, Bool.or_true]
  · simp only [h, Bool.or_true, Bool.true_or]

theorem State.capture_takes {n : Nat} (hl : s.ringTile r = some loc) (ha : s.ringAsked r = true) (hst : s.ringStores r = true)
    (hstep : s.stepTick (loc / 64) = true) (hw : s.ringWriting r = false) (hq : s.bankQ (loc / 64) = []) (hb : s.repBuf (loc / 64) = none)
    (hgap : ∀ c, (s.ring r).capAt = some c → c + s.fld (R.KEEP_RING_GAP r) F.KEEP_RING_GAP_MIN_GAP ≤ s.tick.count)
    (hseal : s.sealFail loc = none) (hn : s.nextSlot r = some n) :
    s.capture r = (s.setKeep (fun k => { k with writes := k.writes ++
      [⟨r, n, s.slotPage r n, s.keepRec r loc (b2n (s.flag (R.KEEP_RING_CFG r) F.KEEP_RING_CFG_MODE)), false⟩] })).setRing r
        { s.ring r with asked := false, capAt := some s.tick.count } := by
  cases hc : (s.ring r).capAt with
  | none =>
    simp only [State.capture, hl, hc, hst, ha, hw, hq, hb, hstep, hseal, List.isEmpty_nil, Bool.not_true, Bool.or_self, Bool.false_eq_true, if_false,
      Option.isSome_none, State.beginWrite, hn]
  | some c =>
    simp only [State.capture, hl, hc, decide_eq_false (Nat.not_lt.2 (hgap c hc)), hst, ha, hw, hq, hb, hstep, hseal, List.isEmpty_nil, Bool.not_true,
      Bool.or_self, Bool.false_eq_true, if_false, Option.isSome_none, State.beginWrite, hn]

end

/-! ### Page writes (R488, R494) -/

theorem State.pageWriteDone_eq {s : State} (hs : s.coreOn = true) (r : Fin 256) (ok : Bool) {x : KeepWrite}
    (hx : (s.keep.writes.take 4).find? (fun w => w.ring == r.val) = some x) (hc : x.rcd.cause ≠ 2 ∨ ok = true) :
    exec (.keepPageWriteDone r ok) s = .next (if ok then s.writeDone x else s.writeFailed x) := by
  rw [show exec (.keepPageWriteDone r ok) s = execKeepPageWriteDone r ok s from rfl, execKeepPageWriteDone, State.onCore, if_pos hs]
  simp only [hx]
  cases ok with
  | true => rfl
  | false => simp only [Bool.false_eq_true, if_false, if_neg (hc.resolve_right Bool.false_ne_true)]

/-- The state of a page write that ended well, before its tile is clean. -/
def State.recorded (s : State) (x : KeepWrite) : State :=
  ((s.setKeep (fun k => { k with pages := tput k.pages x.page x.rcd, writes := k.writes.filter (fun y => y.ring != x.ring) })).setRing x.ring
    { s.ring x.ring with newest := some x.slot, seq := x.rcd.seq, high := x.slot, conflict := false }).incFld
      (R.KEEP_RING_STAT x.ring) F.KEEP_RING_STAT_STORES 65535

theorem State.recorded_keep (s : State) (x : KeepWrite) : (s.recorded x).keep = { s.keep with
    pages := tput s.keep.pages x.page x.rcd, writes := s.keep.writes.filter (fun y => y.ring != x.ring),
    rings := tput s.keep.rings x.ring { s.ring x.ring with newest := some x.slot, seq := x.rcd.seq, high := x.slot, conflict := false } } := rfl

theorem State.recorded_stores (s : State) (x : KeepWrite) : (s.recorded x).fld (R.KEEP_RING_STAT x.ring) F.KEEP_RING_STAT_STORES =
    min (s.fld (R.KEEP_RING_STAT x.ring) F.KEEP_RING_STAT_STORES + 1) 65535 := by
  rw [State.recorded, State.fld_incFld_same _ _ _ _ (by decide) (by decide)]
  rfl

theorem State.recorded_ring (s : State) (x : KeepWrite) (d : List Nat) :
    ((s.recorded x).setKeep (fun k => { k with dirty := d })).ring x.ring =
      { s.ring x.ring with newest := some x.slot, seq := x.rcd.seq, high := x.slot, conflict := false } := tgetD_tput_same ..

theorem State.recorded_reg (s : State) (x : KeepWrite) {a : Nat} (h : a ≠ R.KEEP_RING_STAT x.ring) : (s.recorded x).reg a = s.reg a :=
  State.reg_setFld_ne _ _ _ _ _ h

theorem State.ringTile_recorded (s : State) (x : KeepWrite) : (s.recorded x).ringTile x.ring = s.ringTile x.ring := by
  refine State.ringTile_congr (s.recorded_reg x ?_) (s.recorded_reg x ?_) (fun a ha => s.recorded_reg x ?_) ?_
  · simp only [R.KEEP_RING_ID, R.KEEP_RING_STAT]
    omega
  · simp only [R.KEEP_RING_CFG, R.KEEP_RING_STAT]
    omega
  · simp only [R.KEEP_RING_STAT]
    omega
  · exact State.allocated_setReg _ _ (by simp only [R.KEEP_RING_STAT]; omega)

theorem State.writeDone_eq (s : State) (x : KeepWrite) : s.writeDone x = match (s.recorded x).ringTile x.ring with
    | some l => if (s.recorded x).dirGen l = x.rcd.gen then (s.recorded x).setKeep (fun k => { k with dirty := k.dirty.filter (fun y => y != l) })
      else s.recorded x
    | none => s.recorded x := rfl

/-- A record that stands leaves everything as recorded but the dirty tiles. -/
theorem State.writeDone_spec (s : State) (x : KeepWrite) : ∃ d, s.writeDone x = (s.recorded x).setKeep (fun k => { k with dirty := d }) ∧
    ∀ l, s.ringTile x.ring = some l → (s.dirGen l = x.rcd.gen → l ∉ d) ∧ (s.dirGen l ≠ x.rcd.gen → d = s.keep.dirty) := by
  rw [State.writeDone_eq, s.ringTile_recorded x]
  cases hl : s.ringTile x.ring with
  | none => exact ⟨s.keep.dirty, rfl, nofun⟩
  | some l =>
    have hgen : (s.recorded x).dirGen l = s.dirGen l := by
      refine s.recorded_reg x ?_
      have hlt : l < 4096 := by
        rw [State.ringTile] at hl
        split at hl
        · rename_i m hm
          split at hl
          · exact Option.some.inj hl ▸ State.allocated_lt (List.mem_of_find?_eq_some hm)
          · nomatch hl
        · nomatch hl
      simp only [R.TS_DIR_GEN, R.KEEP_RING_STAT]
      omega
    simp only [hgen]
    by_cases hg : s.dirGen l = x.rcd.gen
    · rw [if_pos hg]
      refine ⟨_, rfl, fun m hm => ?_⟩
      obtain rfl := Option.some.inj hm
      refine ⟨fun _ hmem => ?_, fun h => absurd hg h⟩
      simpa only [bne_self_eq_false, Bool.false_eq_true] using (List.mem_filter.1 hmem).2
    · rw [if_neg hg]
      refine ⟨s.keep.dirty, rfl, fun m hm => ?_⟩
      obtain rfl := Option.some.inj hm
      exact ⟨fun h => absurd h hg, fun _ => rfl⟩

/-- A failed page of a ring with every spare free: the lowest spare takes its place (R494). -/
theorem State.writeFailed_spare {s : State} {x : KeepWrite} (hw : s.keep.writes = [x]) (hr : x.retried = false) (hp : 64 ≤ x.page)
    (hsub : s.keep.subst = []) (hsp : s.keep.spent = []) :
    (s.writeFailed x).keep.pages = tput s.keep.pages x.page { x.rcd with torn := true } ∧
    (s.writeFailed x).keep.subst = [(s.ringBase x.ring + x.slot, 32)] ∧
    (s.writeFailed x).keep.writes = [{ x with page := 32, retried := true }] := by
  have hfind : ((List.range 32).map (fun i => 32 + i)).find? (fun p => !([] : List Nat).contains p) = some 32 := by decide
  simp only [State.writeFailed, State.setKeep, if_neg (Nat.not_lt.2 hp), hsub, hsp, List.map_nil, List.append_nil, hfind, hr, Bool.false_eq_true,
    if_false, State.event_keep, hw, List.map_cons, if_true]
  exact ⟨trivial, rfl, trivial⟩

/-- Settles O53: bindings, requests, captures and page writes are followed through their conditions in order. -/
theorem retainedStorage : Obligations.RetainedStorage := by
  unfold Obligations.RetainedStorage
  intro s hs
  refine ⟨fun r w => ?_, fun w => ?_, fun r loc n hl => ?_, fun r ok hno => ?_, fun r x hw hr => ?_⟩
  · intro cfg gap hv hf
    have hexec := exec_eq_next_of_onCore (i := .keepRingWrite r 0 w) (f := fun s => s.keepRingWrite r.val 0 w) hs rfl
    exact ⟨fun h => hexec.trans (congrArg _ (State.keepRingWrite_refused hv hf h)),
      fun h hsof => ⟨_, hexec, State.keepRingWrite_stands hv r.isLt hf h hsof⟩, State.ringRefused_of_gap⟩
  · intro r
    have hexec := exec_eq_next_of_onCore (i := .keepStoreRequest w) (f := fun s => s.keepCmd w) hs rfl
    refine ⟨fun h => hexec.trans (congrArg _ (State.keepCmd_zero h)), fun h hv hp => ?_⟩
    obtain ⟨hworn, hasks, hclean⟩ := s.askStore_spec r
    have hexec := hexec.trans (congrArg Host.Outcome.next (State.keepCmd_asks h hv hp))
    exact ⟨fun hx => hexec.trans (congrArg _ (hworn hx)), fun hx hb hd => hexec.trans (congrArg _ (hasks hx hb hd)),
      fun hx hd => hexec.trans (congrArg _ (hclean hx hd))⟩
  · have hexec := exec_eq_next_of_onCore (i := .keepCapture r) (f := fun s => s.capture r.val) hs rfl
    refine ⟨fun h => hexec.trans (congrArg _ (State.capture_idle hl h)), fun ha hst hstep hwr hq hb hgap hseal hn => ?_⟩
    refine ⟨_, _, hexec.trans (congrArg _ (State.capture_takes hl ha hst hstep hwr hq hb hgap hseal hn)), rfl, rfl, rfl, rfl, rfl, rfl, ?_⟩
    rw [State.ring_setRing_same]
    exact ⟨rfl, rfl, rfl⟩
  · have hnone : (s.keep.writes.take 4).find? (fun w => w.ring == r.val) = none :=
      List.find?_eq_none.2 fun x hx => by simpa only [beq_iff_eq] using hno x (List.mem_of_mem_take hx)
    rw [show exec (.keepPageWriteDone r ok) s = execKeepPageWriteDone r ok s from rfl, execKeepPageWriteDone, State.onCore, if_pos hs]
    simp only [hnone]
  · have hx : (s.keep.writes.take 4).find? (fun w => w.ring == r.val) = some x := by
      rw [hw]
      exact List.find?_cons_of_pos (p := fun w : KeepWrite => w.ring == r.val) (beq_iff_eq.2 hr)
    refine ⟨?_, fun hc hret hp hsub hsp => ⟨_, State.pageWriteDone_eq hs r false hx (.inl hc), ?_⟩⟩
    · obtain ⟨d, hd, hclean⟩ := s.writeDone_spec x
      refine ⟨_, State.pageWriteDone_eq hs r true hx (.inr rfl), ?_⟩
      rw [if_pos rfl, hd, ← hr, State.recorded_ring]
      refine ⟨(congrArg (fun p => tget p x.page) (congrArg KeepSt.pages (s.recorded_keep x))).trans (by rw [tget_tput, if_pos rfl]),
        (congrArg KeepSt.writes (s.recorded_keep x)).trans ?_, rfl, rfl, s.recorded_stores x, hclean⟩
      rw [hw, List.filter_cons_of_neg (by rw [bne_self_eq_false]; exact Bool.false_ne_true), List.filter_nil]
    · obtain ⟨hpages, hsubst, hwrites⟩ := State.writeFailed_spare hw hret hp hsub hsp
      rw [if_neg Bool.false_ne_true, hpages, hsubst, hwrites, hr, tget_tput, if_pos rfl]
      exact ⟨rfl, rfl, rfl⟩

end Sys2Proof.Machine

/-!
SUPPORT. Mooring: datagrams, set-up, records, relay and the ends of sessions (R527 to R538).
-/
namespace Sys2Proof.Machine

@[simp] theorem State.session_setSession_same (s : State) (n : Nat) (x : Session) : (s.setSession n x).session n = some x :=
  (tget_tput ..).trans (if_pos rfl)

theorem State.session_setSession_ne (s : State) {n m : Nat} (x : Session) (h : m ≠ n) : (s.setSession n x).session m = s.session m :=
  (tget_tput ..).trans (if_neg h)

theorem State.session_congr {s t : State} (h : t.moor = s.moor) (n : Nat) : t.session n = s.session n := by
  rw [State.session, State.session, h]

/-- A session taken out of the table is gone. -/
theorem State.session_dropped (s : State) (n : Nat) : (s.setMoor (fun m => { m with sessions := tdel m.sessions n })).session n = none :=
  (tget_tdel ..).trans (if_pos rfl)

/-! ### What leaves the module -/

theorem foldl_send {α : Type} (f : α → Msg) (l : List α) (s : State) :
    l.foldl (fun (s : State) k => s.send (f k)) s = { s with out := s.out ++ l.map f } := by
  induction l generalizing s with
  | nil => rw [List.foldl_nil, List.map_nil, List.append_nil]
  | cons a l ih =>
    rw [List.foldl_cons, ih, State.send, List.map_cons, List.append_assoc]
    rfl

/-- A message in the clear adds its datagrams to what leaves. -/
theorem State.moorPlain_only (s : State) (dest : MoorPath) (type sess : Nat) (body : List Byte) :
    ∃ l : List Msg, s.moorPlain dest type sess body = { s with out := s.out ++ l } ∧ (body.length ≤ 1376 → ∃ m, l = [m]) := by
  rw [State.moorPlain, foldl_send]
  refine ⟨_, rfl, fun h => ?_⟩
  rw [Nat.max_eq_left (by omega), List.range_one, List.map_cons, List.map_nil]
  exact ⟨_, rfl⟩

/-- A REJECT is one datagram and a log entry. -/
theorem State.reject_spec (s : State) (dest : MoorPath) (cause : Nat) : (s.reject dest cause).moor = s.moor ∧
    ∃ m, (s.reject dest cause).out = s.out ++ [m] := by
  obtain ⟨l, heq, hone⟩ := s.moorPlain_only dest dtREJECT 0 [BitVec.ofNat 8 cause]
  obtain ⟨m, rfl⟩ := hone (by rw [List.length_singleton]; decide)
  rw [State.reject, heq, State.event_moor, State.event_out]
  exact ⟨rfl, m, rfl⟩

theorem State.sealRecord_short {s : State} {n : Nat} {x : Session} {pt : List Byte} (hx : s.session n = some x) (hlen : pt.length ≤ 1360) :
    ∃ m, s.sealRecord n pt = ({ s with out := s.out ++ [m] } : State).setSession n { x with seqOut := x.seqOut + 1 } := by
  simp only [State.sealRecord, hx, foldl_send, Nat.max_eq_left (show (pt.length + 1359) / 1360 ≤ 1 by omega), List.range_one, List.map_cons,
    List.map_nil]
  exact ⟨_, rfl⟩

/-- A session that ends is gone with its waiting commands; nothing leaves the module. -/
theorem State.endSession_spec {s : State} {n : Nat} {x : Session} (cause : Nat) (hx : s.session n = some x) :
    (∀ m, (s.endSession n cause).session m = if m = n then none else s.session m) ∧ (s.endSession n cause).out = s.out ∧
    (s.endSession n cause).tick = s.tick ∧ (s.endSession n cause).moor.sessions = tdel s.moor.sessions n := by
  have hx : tget s.moor.sessions n = some x := hx
  simp only [State.endSession, hx]
  set u : State := { s with moor := { s.moor with sessions := tdel s.moor.sessions n, cmds := s.moor.cmds.filter (fun c => c.sess != n) } } with hu
  have hv (v : State) (hm : v.moor = u.moor) (ho : v.out = s.out) (ht : v.tick = s.tick) :
      (∀ m, v.session m = if m = n then none else s.session m) ∧ v.out = s.out ∧ v.tick = s.tick ∧ v.moor.sessions = tdel s.moor.sessions n := by
    refine ⟨fun m => ?_, ho, ht, by rw [hm]⟩
    rw [State.session, hm]
    exact tget_tdel ..
  split
  · split
    · split
      · exact hv _ (State.event_moor ..) (State.event_out ..) (State.event_tick ..)
      · exact hv _ (State.event_moor ..) (State.event_out ..) (State.event_tick ..)
    · exact hv _ (State.event_moor ..) (State.event_out ..) (State.event_tick ..)
  · split
    · split
      · exact hv _ rfl rfl rfl
      · exact hv _ rfl rfl rfl
    · exact hv _ rfl rfl rfl

/-! ### Datagrams of a message (R530) -/

theorem joinFrag_whole {h : MoorHd} (hl : h.last = 0) (b : List Byte) (now : Nat) :
    joinFrag none h b now = (some b, ([(h.idx, b)], (h.last, now))) := by
  simp only [joinFrag, tput, List.length_singleton, hl, if_true, List.flatMap_cons, List.flatMap_nil, List.append_nil]

theorem joinFrag_part {h : MoorHd} (hl : h.last ≠ 0) (b : List Byte) (now : Nat) :
    joinFrag none h b now = (none, ([(h.idx, b)], (h.last, now))) := by
  have h1 : ¬ 1 = h.last + 1 := by omega
  simp only [joinFrag, tput, List.length_singleton, h1, if_false]

/-! ### Datagrams that have no effect (R527 to R529) -/

section
variable {s : State} (path : MoorPath) {d : List Byte}

theorem exec_moor_none (hs : s.coreOn = true) (hd : moorParse d = none) : exec (.moorOpen path d) s = .next s ∧ exec (.moorConfirm path d) s = .next s ∧
    exec (.moorRecord path d) s = .next s ∧ exec (.moorRelay path d) s = .next s := by
  refine ⟨?_, ?_, ?_, ?_⟩
  · rw [show exec (.moorOpen path d) s = execMoorOpen path d s from rfl, execMoorOpen, State.onCore, if_pos hs]
    simp only [hd]
  · rw [show exec (.moorConfirm path d) s = execMoorConfirm path d s from rfl, execMoorConfirm, State.onCore, if_pos hs]
    simp only [hd]
  · rw [show exec (.moorRecord path d) s = execMoorRecord path d s from rfl, execMoorRecord, State.onCore, if_pos hs]
    simp only [hd]
  · rw [show exec (.moorRelay path d) s = execMoorRelay path d s from rfl, execMoorRelay, State.onCore, if_pos hs]
    simp only [State.moorRelay, hd]

variable {h : MoorHd}

theorem exec_moorOpen_discard (hs : s.coreOn = true) (hd : moorParse d = some h) (hc : h.type ≠ dtOPEN ∨ s.forUs h.target = false) :
    exec (.moorOpen path d) s = .next s := by
  rw [show exec (.moorOpen path d) s = execMoorOpen path d s from rfl, execMoorOpen, State.onCore, if_pos hs]
  simp only [hd, Bool.not_eq_true', if_pos hc]

theorem exec_moorConfirm_discard (hs : s.coreOn = true) (hd : moorParse d = some h)
    (hc : h.type ≠ dtCONFIRM ∨ s.forUs h.target = false ∨ s.session h.sess = none) : exec (.moorConfirm path d) s = .next s := by
  rw [show exec (.moorConfirm path d) s = execMoorConfirm path d s from rfl, execMoorConfirm, State.onCore, if_pos hs]
  cases hx : s.session h.sess with
  | none => simp only [hd, hx]
  | some x =>
    simp only [hx, reduceCtorEq, or_false] at hc
    simp only [hd, hx, Bool.not_eq_true']
    rw [if_pos (hc.imp_right .inl)]

theorem exec_moorRecord_discard (hs : s.coreOn = true) (hd : moorParse d = some h)
    (hc : h.type ≠ dtRECORD ∨ s.forUs h.target = false ∨ s.session h.sess = none) : exec (.moorRecord path d) s = .next s := by
  rw [show exec (.moorRecord path d) s = execMoorRecord path d s from rfl, execMoorRecord, State.onCore, if_pos hs]
  cases hx : s.session h.sess with
  | none => simp only [hd, hx]
  | some x =>
    simp only [hx, reduceCtorEq, or_false] at hc
    simp only [hd, hx, Bool.not_eq_true']
    rw [if_pos (hc.imp_right .inl)]

/-! ### OPEN -/

theorem exec_moorOpen_first (hs : s.coreOn = true) (hd : moorParse d = some h) (ht : h.type = dtOPEN) (hu : s.forUs h.target = true)
    (hno : ∀ e ∈ s.moor.opens, e.1 ≠ path) :
    (h.last = 0 → exec (.moorOpen path d) s = .next (s.openMsg path (d.drop 24))) ∧
    (h.last ≠ 0 → exec (.moorOpen path d) s =
      .next (s.setMoor (fun m => { m with opens := m.opens ++ [(path, ([(h.idx, d.drop 24)], (h.last, s.tick.count)))] }))) := by
  have hfind : s.moor.opens.find? (fun e => e.1 == path) = none := List.find?_eq_none.2 fun e he => mt beq_iff_eq.1 (hno e he)
  have hrest : s.moor.opens.filter (fun e => !(e.1 == path)) = s.moor.opens := List.filter_eq_self.2 fun e he => by
    rw [beq_eq_false_iff_ne.2 (hno e he)]
    rfl
  rw [show exec (.moorOpen path d) s = execMoorOpen path d s from rfl, execMoorOpen, State.onCore, if_pos hs]
  simp only [hd, ht, hu, Bool.not_true, Bool.false_eq_true, ne_eq, not_true_eq_false, or_self, if_false, hfind, hrest, Option.map_none]
  exact ⟨fun hl => by simp only [joinFrag_whole hl]; rfl, fun hl => by simp only [joinFrag_part hl]; rfl⟩

/-! ### CONFIRM -/

section
variable {x : Session}

/-- What a CONFIRM of one datagram does to a set-up. -/
def State.confirmed (s : State) (path : MoorPath) (n : Nat) (x : Session) (b : List Byte) : State :=
  if !(b.length == 3405 && pairVerify x.leaf x.th2 (sub b 0 96) (sub b 96 3309)) then
    (s.setMoor (fun m => { m with sessions := tdel m.sessions n })).reject path rjSIG
  else if s.moorFull x.role x.part then (s.setMoor (fun m => { m with sessions := tdel m.sessions n })).reject path rjLIMIT
  else s.sessionReady n { x with path := path }

theorem exec_moorConfirm_whole (hs : s.coreOn = true) (hd : moorParse d = some h) (ht : h.type = dtCONFIRM) (hu : s.forUs h.target = true)
    (hx : s.session h.sess = some x) (hr : x.ready = false) (hf : x.frags = []) (hl : h.last = 0) :
    exec (.moorConfirm path d) s = .next (s.confirmed path h.sess x (d.drop 24)) := by
  rw [show exec (.moorConfirm path d) s = execMoorConfirm path d s from rfl, execMoorConfirm, State.onCore, if_pos hs]
  simp only [hd, hx, ht, hu, hr, hf, Bool.not_true, Bool.false_eq_true, ne_eq, not_true_eq_false, or_self, if_false, List.isEmpty_nil, if_true,
    joinFrag_whole hl]
  rfl

theorem State.session_reject (s : State) (n cause : Nat) :
    ((s.setMoor (fun m => { m with sessions := tdel m.sessions n })).reject path cause).session n = none :=
  (State.session_congr (State.reject_spec ..).1 n).trans (s.session_dropped n)

theorem State.sameInstance_session {role part o : Nat} (h : s.sameInstance role part = some o) : ∃ y, s.session o = some y := by
  obtain ⟨e, he, rfl⟩ := Option.map_eq_some_iff.1 h
  have hmem := List.mem_of_mem_filter (List.mem_of_find?_eq_some he)
  rw [State.session]
  generalize s.moor.sessions = l at hmem
  induction l with
  | nil => nomatch hmem
  | cons a l ih =>
    rw [tget]
    split
    · exact ⟨_, rfl⟩
    · rename_i hne
      rcases List.mem_cons.1 hmem with rfl | hmem
      · exact absurd rfl hne
      · exact ih hmem

/-- The session of a verified set-up. -/
def Session.opened (x : Session) (now : Nat) : Session := { x with ready := true, began := now, heard := now, frags := [] }

theorem State.readySent {s : State} {n part : Nat} {x : Session} {data : List Byte} (hlen : data.length = 8) :
    (((s.setSession n x).event Ev.MOOR_SESSION_OPEN part).sealRecord n (responseRecord 0 0 0 true data)).session n =
      some { x with seqOut := x.seqOut + 1 } ∧
    ∀ o, o ≠ n → (((s.setSession n x).event Ev.MOOR_SESSION_OPEN part).sealRecord n (responseRecord 0 0 0 true data)).session o = s.session o := by
  have hv (o : Nat) : ((s.setSession n x).event Ev.MOOR_SESSION_OPEN part).session o = (s.setSession n x).session o :=
    State.session_congr (State.event_moor ..) o
  obtain ⟨m, heq⟩ := State.sealRecord_short (pt := responseRecord 0 0 0 true data) ((hv n).trans (State.session_setSession_same ..))
    (by simp only [responseRecord, List.length_append, beBytes_length, hlen]; decide)
  rw [heq]
  refine ⟨State.session_setSession_same .., fun o ho => ?_⟩
  rw [State.session_setSession_ne _ _ ho, ← State.session_setSession_ne s x ho]
  exact hv o

theorem State.sessionReady_new {n : Nat} {x : Session} (h : s.sameInstance x.role x.part = none) :
    (s.sessionReady n x).session n = some { x.opened s.tick.count with seqOut := x.seqOut + 1 } := by
  unfold State.sessionReady
  rw [h]
  exact (State.readySent rfl).1

theorem State.sessionReady_takeover {n o : Nat} {x : Session} (h : s.sameInstance x.role x.part = some o) :
    (s.sessionReady n x).session n = some { x.opened s.tick.count with seqOut := x.seqOut + 1 } ∧
    (o ≠ n → (s.sessionReady n x).session o = none) := by
  obtain ⟨y, hy⟩ := State.sameInstance_session h
  obtain ⟨hsess, _, htick, _⟩ := State.endSession_spec seTAKEOVER hy
  unfold State.sessionReady
  rw [h]
  refine ⟨?_, fun hne => ?_⟩
  · rw [← htick]
    exact (State.readySent rfl).1
  · exact ((State.readySent rfl).2 o hne).trans ((hsess o).trans (if_pos rfl))

/-- A verified set-up is READY; an older session of the same role and partition is gone (R532, R535). -/
theorem State.sessionReady_spec (s : State) (n : Nat) (x : Session) :
    (s.sessionReady n x).session n = some { x.opened s.tick.count with seqOut := x.seqOut + 1 } ∧
    ∀ o, s.sameInstance x.role x.part = some o → o ≠ n → (s.sessionReady n x).session o = none := by
  cases ho : s.sameInstance x.role x.part with
  | none => exact ⟨State.sessionReady_new ho, nofun⟩
  | some o =>
    obtain ⟨h1, h2⟩ := State.sessionReady_takeover (n := n) ho
    exact ⟨h1, fun o' ho' => Option.some.inj ho' ▸ h2⟩

theorem State.confirmed_spec (s : State) (n : Nat) (x : Session) (b : List Byte) :
    ((b.length == 3405 && pairVerify x.leaf x.th2 (sub b 0 96) (sub b 96 3309)) = false → (s.confirmed path n x b).session n = none ∧
      ∃ m, (s.confirmed path n x b).out = s.out ++ [m]) ∧
    ((b.length == 3405 && pairVerify x.leaf x.th2 (sub b 0 96) (sub b 96 3309)) = true → s.moorFull x.role x.part = true →
      (s.confirmed path n x b).session n = none) ∧
    ((b.length == 3405 && pairVerify x.leaf x.th2 (sub b 0 96) (sub b 96 3309)) = true → s.moorFull x.role x.part = false →
      s.confirmed path n x b = s.sessionReady n { x with path := path }) := by
  rw [State.confirmed]
  refine ⟨fun h => ?_, fun h hf => ?_, fun h hf => ?_⟩
  · rw [h, Bool.not_false, if_pos rfl]
    exact ⟨State.session_reject .., (State.reject_spec ..).2⟩
  · rw [h, hf, Bool.not_true, if_neg Bool.false_ne_true, if_pos rfl]
    exact State.session_reject ..
  · rw [h, hf, Bool.not_true, if_neg Bool.false_ne_true, if_neg Bool.false_ne_true]

/-! ### RECORD -/

theorem foldl_max_lt {l : List Nat} {a b : Nat} (ha : a < b) (h : ∀ k ∈ l, k < b) : l.foldl max a < b := by
  induction l generalizing a with
  | nil => exact ha
  | cons k l ih =>
    obtain ⟨hk, hl⟩ := List.forall_mem_cons.1 h
    exact ih (Nat.max_lt.2 ⟨ha, hk⟩) hl

theorem le_foldl_max {l : List Nat} {a k : Nat} (h : k ≤ a ∨ k ∈ l) : k ≤ l.foldl max a := by
  induction l generalizing a with
  | nil => exact h.resolve_right List.not_mem_nil
  | cons m l ih =>
    rw [List.foldl_cons]
    rcases h with h | h
    · exact ih (.inl (Nat.le_trans h (Nat.le_max_left ..)))
    · rcases List.mem_cons.1 h with rfl | h
      · exact ih (.inl (Nat.le_max_right ..))
      · exact ih (.inr h)

theorem seqStale_of {acc : List Nat} {n : Nat} (h : n ∈ acc ∨ ∃ k ∈ acc, n + 63 ≤ k) : seqStale acc n = true := by
  rw [seqStale]
  rcases h with h | ⟨k, hk, hle⟩
  · rw [List.contains_iff_mem.2 h, Bool.or_true, Bool.true_or]
  · rw [decide_eq_true (Nat.le_trans hle (le_foldl_max (.inr hk))), Bool.true_or, Bool.true_or]

theorem seqStale_fresh {acc : List Nat} {n : Nat} (h0 : n ≠ 0) (h : ∀ k ∈ acc, k < n + 63 ∧ k ≠ n) : seqStale acc n = false := by
  have hlt : acc.foldl max 0 < n + 63 := foldl_max_lt (by omega) fun k hk => (h k hk).1
  have hmem : acc.contains n = false := by
    rw [Bool.eq_false_iff]
    exact fun hc => (h n (List.contains_iff_mem.1 hc)).2 rfl
  rw [seqStale, decide_eq_false (Nat.not_le.2 hlt), hmem, beq_eq_false_iff_ne.2 h0]
  rfl

/-- The window holds the newest accepted value. -/
theorem mem_window {acc : List Nat} {n : Nat} (h : ∀ k ∈ acc, k < n + 63 ∧ k ≠ n) :
    n ∈ (n :: acc).filter (fun k => decide ((n :: acc).foldl max 0 < k + 64)) := by
  refine List.mem_filter.2 ⟨List.mem_cons_self, decide_eq_true ?_⟩
  exact foldl_max_lt (by omega) (List.forall_mem_cons.2 ⟨by omega, fun k hk => Nat.lt_succ_of_lt (h k hk).1⟩)

/-- The session after a record of it has been accepted. -/
def Session.accept (x : Session) (path : MoorPath) (now seq : Nat) : Session :=
  { x with seqIn := (seq :: x.seqIn).filter (fun k => decide ((seq :: x.seqIn).foldl max 0 < k + 64)), heard := now, path := path, frags := [] }

variable (hs : s.coreOn = true) (hd : moorParse d = some h) (ht : h.type = dtRECORD) (hu : s.forUs h.target = true) (hx : s.session h.sess = some x)
include hs hd ht hu hx

theorem exec_moorRecord_refused (hc : x.ready = false ∨ (d.drop 24).length < 16 ∨ h.seq ∈ x.seqIn ∨ (∃ k ∈ x.seqIn, h.seq + 63 ≤ k) ∨
      gcmDec x.kcm (beBytes 4 1 ++ beBytes 8 h.seq) (d.take 24) ((d.drop 24).take ((d.drop 24).length - 16))
        ((d.drop 24).drop ((d.drop 24).length - 16)) = none) : exec (.moorRecord path d) s = .next s := by
  rw [show exec (.moorRecord path d) s = execMoorRecord path d s from rfl, execMoorRecord, State.onCore, if_pos hs]
  simp only [hd, hx, ht, hu, ne_eq, not_true_eq_false, Bool.not_true, Bool.false_eq_true, false_or, Bool.not_eq_true']
  by_cases hb : x.ready = false ∨ (d.drop 24).length < 16 ∨ seqStale x.seqIn h.seq = true
  · rw [if_pos hb]
  · rw [if_neg hb]
    have hdec := hc.resolve_left fun h => hb (.inl h)
    have hdec := hdec.resolve_left fun h => hb (.inr (.inl h))
    rcases hdec with h | h | h
    · exact absurd (.inr (.inr (seqStale_of (.inl h)))) hb
    · exact absurd (.inr (.inr (seqStale_of (.inr h)))) hb
    · rw [h]

theorem exec_moorRecord_accepted {pt : List Byte} (hr : x.ready = true) (hlen : 16 ≤ (d.drop 24).length) (h0 : h.seq ≠ 0)
    (hw : ∀ k ∈ x.seqIn, k < h.seq + 63 ∧ k ≠ h.seq)
    (hdec : gcmDec x.kcm (beBytes 4 1 ++ beBytes 8 h.seq) (d.take 24) ((d.drop 24).take ((d.drop 24).length - 16))
      ((d.drop 24).drop ((d.drop 24).length - 16)) = some pt) (hf : x.frags = []) (hl : h.last = 0) :
    exec (.moorRecord path d) s = .next ((s.setSession h.sess (x.accept path s.tick.count h.seq)).recordMsg h.sess
      (x.accept path s.tick.count h.seq) pt) := by
  rw [show exec (.moorRecord path d) s = execMoorRecord path d s from rfl, execMoorRecord, State.onCore, if_pos hs]
  simp only [hd, hx, ht, hu, hr, seqStale_fresh h0 hw, ne_eq, not_true_eq_false, Bool.not_true, Bool.false_eq_true, or_false, false_or,
    if_neg (Nat.not_lt.2 hlen), hdec, hf, List.isEmpty_nil, if_true, joinFrag_whole hl, Session.accept]

omit hs hd ht hu hx in
/-- A complete command record is registered: the fifth open request gets BUSY, a good one waits for the landing (R536, R537). -/
theorem State.recordMsg_spec (s : State) (n : Nat) (x : Session) {pt : List Byte} (hlen : 8 ≤ pt.length) (hb : bit (beNat (sub pt 6 1)) 0 = false) :
    (s.recordMsg n x pt).session n = some { x with openReqs := x.openReqs ++ [(beNat (sub pt 2 2), beNat (sub pt 0 2))] } ∧
    (4 ≤ x.openReqs.length → (s.recordMsg n x pt).out = s.out ++ [Msg.reply n (beNat (sub pt 2 2)) 5 true []] ∧
      (s.recordMsg n x pt).moor.cmds = s.moor.cmds) ∧
    (x.openReqs.length < 4 → beNat (sub pt 4 2) + 8 = pt.length → beNat (sub pt 6 2) = 0 →
      (s.recordMsg n x pt).moor.cmds = s.moor.cmds ++ [⟨n, beNat (sub pt 2 2), beNat (sub pt 0 2), pt.drop 8⟩] ∧ (s.recordMsg n x pt).out = s.out) := by
  simp only [State.recordMsg, State.moorRegister, hb, Bool.false_eq_true, or_false, if_neg (Nat.not_lt.2 hlen)]
  by_cases h4 : 4 ≤ x.openReqs.length
  · simp only [if_pos h4, Bool.not_false, if_true]
    exact ⟨State.session_setSession_same .., fun _ => ⟨rfl, rfl⟩, fun h => absurd h4 (Nat.not_le.2 h)⟩
  · simp only [if_neg h4, Bool.not_true, Bool.false_eq_true, if_false]
    refine ⟨?_, fun h => absurd h h4, fun _ h1 h2 => ?_⟩
    · split
      · exact State.session_setSession_same ..
      · exact State.session_setSession_same ..
    · rw [if_neg (by rw [not_or, not_not, not_not]; exact ⟨h1, h2⟩)]
      exact ⟨rfl, rfl⟩

end

end

/-! ### Relay (R528) -/

section
variable {s : State} (path : MoorPath) {d : List Byte} {h : MoorHd}

theorem State.relayEntry_room {n unit : Nat} (hlen : s.moor.relays.length < 32) : ∃ l : List (MoorPath × Nat × Nat × Nat),
    s.relayEntry path n unit = some (s.setMoor (fun m => { m with relays := l })) ∧ (path, n, unit, s.tick.count) ∈ l ∧ l.length ≤ 32 := by
  simp only [State.relayEntry]
  split
  · rename_i hany
    obtain ⟨e, he, hit⟩ := List.any_eq_true.1 hany
    refine ⟨_, rfl, List.mem_map.2 ⟨e, he, if_pos hit⟩, ?_⟩
    rw [List.length_map]
    omega
  · rw [if_neg (Nat.not_le.2 hlen)]
    refine ⟨_, rfl, List.mem_append_right _ List.mem_cons_self, ?_⟩
    rw [List.length_append, List.length_singleton]
    omega

theorem State.relayEntry_full {n unit : Nat} (hlen : 32 ≤ s.moor.relays.length) (hno : ∀ e ∈ s.moor.relays, e.1 ≠ path ∨ e.2.1 ≠ n) :
    s.relayEntry path n unit = none := by
  have hany : s.moor.relays.any (fun e => e.1 == path && e.2.1 == n) = false := List.any_eq_false.2 fun e he => by
    simp only [Bool.and_eq_true, beq_iff_eq, not_and_or]
    exact hno e he
  simp only [State.relayEntry, hany, Bool.false_eq_true, if_false, if_pos hlen]

theorem exec_moorRelay_alone (hs : s.coreOn = true) (hj : s.joined = false) : exec (.moorRelay path d) s = .next s := by
  rw [exec_eq_next_of_onCore (i := .moorRelay path d) (f := fun s => s.moorRelay path d) hs rfl, State.moorRelay]
  split
  · rfl
  · rw [hj, Bool.not_false, if_pos rfl]

theorem State.moorRelay_client (hd : moorParse d = some h) (hj : s.joined = true) (hp : path.hawser = false) :
    (h.target = s.hawAddr ∨ 64 ≤ h.target → s.moorRelay path d = s) ∧
    (∀ t, h.target ≠ s.hawAddr → h.target < 64 → s.relayEntry path h.sess h.target = some t →
      s.moorRelay path d = t.manage h.target 0 (d.map (fun b => b.toNat))) ∧
    (h.target ≠ s.hawAddr → h.target < 64 → s.relayEntry path h.sess h.target = none → s.moorRelay path d = s.event Ev.MOOR_RELAY_FULL) := by
  simp only [State.moorRelay, hd, hj, hp, Bool.not_true, Bool.false_eq_true, if_false]
  refine ⟨fun hc => if_pos hc, fun t h1 h2 ht => ?_, fun h1 h2 ht => ?_⟩
  · rw [if_neg (not_or.2 ⟨h1, Nat.not_le.2 h2⟩), ht]
  · rw [if_neg (not_or.2 ⟨h1, Nat.not_le.2 h2⟩), ht]

end

/-! ### A complete OPEN (R531 to R533) -/

section
variable {s : State} {path : MoorPath} {b : List Byte}

theorem State.openRefused_format {c : CertChain} (h : b.length < 136) : s.openRefused b c = some rjFORMAT := if_pos (.inl h)

theorem State.openRefused_checks {c : CertChain} (h1 : 136 ≤ b.length) (h2 : beNat (sub b 2 2) + 136 = b.length) (h3 : beNat (sub b 36 1) = 4)
    (h4 : beNat (sub b 133 3) = 0) :
    (2 ≤ s.setUps.length → s.openRefused b c = some rjBUSY) ∧
    (s.setUps.length < 2 → s.lcState = 0 ∨ s.lcState = 4 → s.openRefused b c = some rjSTATE) ∧
    (s.setUps.length < 2 → 0 < s.lcState → s.lcState < 4 → roleFits (beNat (sub b 0 1)) (beNat (sub b 1 1)) c.attr = false →
      s.openRefused b c = some rjROLE) := by
  simp only [State.openRefused, h2, h3, h4, ne_eq, not_true_eq_false, or_self, Nat.not_lt.2 h1, if_false]
  refine ⟨fun h => if_pos h, fun h hl => ?_, fun h h0 h4 hr => ?_⟩
  · rw [if_neg (Nat.not_le.2 h), if_pos hl]
  · rw [if_neg (Nat.not_le.2 h), if_neg (by omega), hr]
    rfl

theorem State.openMsg_refused {n : Nat} (h : s.openRefused b (Config.certChain (b.drop 136)) = some n) : s.openMsg path b = s.reject path n := by
  simp only [State.openMsg, h]

theorem State.random_srf (s : State) (n : Nat) : (s.random n).2.srf = s.srf := State.draw_srf s

/-- An OPEN that is accepted leaves a set-up under the keys of the exchange. -/
theorem State.openMsg_accepted {z : List Byte} (h : s.openRefused b (Config.certChain (b.drop 136)) = none)
    (hz : Config.ecdh ((s.newSession.2.random 32).2.random 48).1 (sub b 36 97) = some z) :
    ∃ n x, (s.openMsg path b).session n = some x ∧ x.ready = false ∧ x.role = beNat (sub b 0 1) ∧ x.part = beNat (sub b 1 1) ∧
      x.began = s.tick.count ∧ x.path = path ∧ x.leaf = (Config.certChain (b.drop 136)).leaf ∧
      x.kcm ++ x.kmc = kdf (sub z 0 48) (ascii "MOORING") x.th2 64 ∧ (s.openMsg path b).srf = s.srf := by
  simp only [State.openMsg, h, hz]
  generalize hsig : State.identitySign _ _ = sig
  have hsrf : sig.2.srf = s.srf := by
    rw [← hsig]
    rfl
  obtain ⟨l, heq, _⟩ := State.moorPlain_only (sig.2.setSession s.newSession.1 _) path dtACCEPT s.newSession.1 _
  rw [heq]
  exact ⟨_, _, State.session_setSession_same .., rfl, rfl, rfl, rfl, rfl, rfl, List.take_append_drop .., hsrf⟩

end

/-! ### Ends of sessions (R530, R533, R535) -/

section
variable {s : State} {n : BitVec 32} {x : Session}

theorem exec_setupAbandoned (hs : s.coreOn = true) (hx : s.session n.toNat = some x) : exec (.setupAbandoned n) s =
    .next (if !x.ready ∧ x.began + 4800 ≤ s.tick.count then s.setMoor (fun m => { m with sessions := tdel m.sessions n.toNat }) else s) := by
  rw [show exec (.setupAbandoned n) s = execSetupAbandoned n s from rfl, execSetupAbandoned, State.onCore, if_pos hs]
  simp only [hx]

theorem exec_sessionIdleEnd (hs : s.coreOn = true) (hx : s.session n.toNat = some x) : exec (.sessionIdleEnd n) s =
    .next (if x.ready ∧ x.heard + 288000 ≤ s.tick.count then s.endSession n.toNat seIDLE else s) := by
  rw [show exec (.sessionIdleEnd n) s = execSessionIdleEnd n s from rfl, execSessionIdleEnd, State.onCore, if_pos hs]
  simp only [hx]

theorem exec_sessionLifetimeEnd (hs : s.coreOn = true) (hx : s.session n.toNat = some x) : exec (.sessionLifetimeEnd n) s =
    .next (if x.ready ∧ x.began + 17280000 ≤ s.tick.count then s.endSession n.toNat seLIFETIME else s) := by
  rw [show exec (.sessionLifetimeEnd n) s = execSessionLifetimeEnd n s from rfl, execSessionLifetimeEnd, State.onCore, if_pos hs]
  simp only [hx]

theorem exec_reassemblyTimeout (path : MoorPath) (hs : s.coreOn = true) (hx : s.session n.toNat = some x) (h0 : n ≠ 0) :
    exec (.reassemblyTimeout path n) s =
      .next (if x.fragAt + 48 ≤ s.tick.count then s.setSession n.toNat { x with frags := [] } else s) := by
  rw [show exec (.reassemblyTimeout path n) s = execReassemblyTimeout path n s from rfl, execReassemblyTimeout, State.onCore, if_pos hs]
  simp only [if_neg h0, hx]

theorem session_ends (hs : s.coreOn = true) (hx : s.session n.toNat = some x) :
    (x.ready = false → x.began + 4800 ≤ s.tick.count → ∃ t : State, exec (.setupAbandoned n) s = .next t ∧ t.session n.toNat = none ∧ t.out = s.out) ∧
    (x.ready = true ∨ s.tick.count < x.began + 4800 → exec (.setupAbandoned n) s = .next s) ∧
    (x.ready = true → x.heard + 288000 ≤ s.tick.count → ∃ t : State, exec (.sessionIdleEnd n) s = .next t ∧ t.session n.toNat = none ∧ t.out = s.out) ∧
    (x.ready = false ∨ s.tick.count < x.heard + 288000 → exec (.sessionIdleEnd n) s = .next s) ∧
    (x.ready = true → x.began + 17280000 ≤ s.tick.count → ∃ t : State, exec (.sessionLifetimeEnd n) s = .next t ∧ t.session n.toNat = none) ∧
    (x.ready = false ∨ s.tick.count < x.began + 17280000 → exec (.sessionLifetimeEnd n) s = .next s) := by
  rw [exec_setupAbandoned hs hx, exec_sessionIdleEnd hs hx, exec_sessionLifetimeEnd hs hx]
  have hend (cause : Nat) : (s.endSession n.toNat cause).session n.toNat = none ∧ (s.endSession n.toNat cause).out = s.out := by
    obtain ⟨hsess, hout, _, _⟩ := State.endSession_spec cause hx
    exact ⟨(hsess _).trans (if_pos rfl), hout⟩
  have hlate {a c k : Nat} (h : x.ready = false ∨ c < a + k) : ¬ (x.ready = true ∧ a + k ≤ c) := fun hc =>
    h.elim (fun h => Bool.false_ne_true (h.symm.trans hc.1)) fun h => Nat.not_le.2 h hc.2
  refine ⟨fun hr h => ⟨_, rfl, ?_⟩, fun h => ?_, fun hr h => ⟨_, rfl, ?_⟩, fun h => ?_, fun hr h => ⟨_, rfl, ?_⟩, fun h => ?_⟩
  · rw [if_pos ⟨by rw [hr]; rfl, h⟩]
    exact ⟨s.session_dropped _, rfl⟩
  · rw [if_neg fun hc => h.elim (fun h => absurd hc.1 (by rw [h]; decide)) fun h => Nat.not_le.2 h hc.2]
  · rw [if_pos ⟨hr, h⟩]
    exact hend _
  · rw [if_neg (hlate h)]
  · rw [if_pos ⟨hr, h⟩]
    exact (hend _).1
  · rw [if_neg (hlate h)]

end

/-- Settles O56: a datagram is followed through its checks in order, a session through its set-up, records and end. -/
theorem mooringSessions : Obligations.MooringSessions := by
  unfold Obligations.MooringSessions
  intro s hs
  refine ⟨?_, ?_, ?_, ?_, ?_⟩
  · intro path d
    refine ⟨exec_moor_none path hs, fun h hd => ⟨fun hu => ?_, fun ht => ?_, fun hc => ?_, fun hc => ?_, fun ht hu hno => ?_, ?_, ?_, ?_, ?_⟩⟩
    · exact ⟨exec_moorOpen_discard path hs hd (.inr hu), exec_moorConfirm_discard path hs hd (.inr (.inl hu)),
        exec_moorRecord_discard path hs hd (.inr (.inl hu))⟩
    · exact exec_moorOpen_discard path hs hd (.inl ht)
    · exact exec_moorConfirm_discard path hs hd (hc.imp_right .inr)
    · exact exec_moorRecord_discard path hs hd (hc.imp_right .inr)
    · exact exec_moorOpen_first path hs hd ht hu hno
    · intro x ht hu hx hr hf hl b ok
      have hexec := exec_moorConfirm_whole path hs hd ht hu hx hr hf hl
      obtain ⟨hbad, hfull, hgood⟩ := s.confirmed_spec path h.sess x b
      refine ⟨fun hok => ⟨_, hexec, hbad hok⟩, fun hok hm => ⟨_, hexec, hfull hok hm⟩, fun hok hm => ?_⟩
      obtain ⟨hsess, hold⟩ := s.sessionReady_spec h.sess { x with path := path }
      exact ⟨_, _, hexec.trans (congrArg _ (hgood hok hm)), hsess, rfl, rfl, rfl, rfl, rfl, rfl, rfl, rfl, hold⟩
    · intro x ht hu hx body n opened
      refine ⟨exec_moorRecord_refused path hs hd ht hu hx, fun pt hr hlen h0 hw hdec hf hl hpt hb => ?_⟩
      intro code req
      obtain ⟨hsess, hbusy, hgood⟩ := (s.setSession h.sess (x.accept path s.tick.count h.seq)).recordMsg_spec h.sess
        (x.accept path s.tick.count h.seq) hpt hb
      exact ⟨_, _, exec_moorRecord_accepted path hs hd ht hu hx hr hlen h0 hw hdec hf hl, hsess, mem_window hw, rfl, rfl, rfl, hbusy, hgood⟩
    · intro hj hp
      have hexec := exec_eq_next_of_onCore (i := .moorRelay path d) (f := fun s => s.moorRelay path d) hs rfl
      obtain ⟨hself, hgo, hfull⟩ := State.moorRelay_client path hd hj hp
      refine ⟨fun hc => hexec.trans (congrArg _ (hself hc)), fun h1 h2 hlen => ?_,
        fun h1 h2 hlen hno => hexec.trans (congrArg _ (hfull h1 h2 (State.relayEntry_full path hlen hno)))⟩
      obtain ⟨l, hl, hmem, hle⟩ := State.relayEntry_room (s := s) path (n := h.sess) (unit := h.target) hlen
      exact ⟨_, _, hexec.trans (congrArg _ (hgo _ h1 h2 hl)), rfl, hmem, hle⟩
    · exact exec_moorRelay_alone path hs
  · intro path b c
    exact ⟨fun n => State.openMsg_refused, State.openRefused_format, State.openRefused_checks, fun z => State.openMsg_accepted⟩
  · intro n x hx
    obtain ⟨h1, h2, h3, h4, h5, h6⟩ := session_ends hs hx
    refine ⟨h1, h2, h3, h4, h5, h6, fun path h0 => ?_⟩
    rw [exec_reassemblyTimeout path hs hx h0]
    exact ⟨fun h => ⟨_, congrArg _ (if_pos h), State.session_setSession_same ..⟩, fun h => congrArg _ (if_neg (Nat.not_le.2 h))⟩
  · intro path
    refine ⟨_, (exec_eq_next_of_onCore (i := .reassemblyTimeout path 0) (f := fun s => _) hs rfl).trans (congrArg _ (if_pos rfl)), rfl, fun e => ?_⟩
    refine List.mem_filter.trans (and_congr_right fun _ => ?_)
    simp only [Bool.not_eq_true', Bool.and_eq_false_iff, beq_eq_false_iff_ne, decide_eq_false_iff_not, not_and_or]
  · intro path n
    rw [show exec (.relayEntryExpiry path n) s = execRelayEntryExpiry path n s from rfl, execRelayEntryExpiry, State.onCore, if_pos hs]
    refine ⟨_, rfl, rfl, fun e => ?_⟩
    refine List.mem_filter.trans (and_congr_right fun _ => ?_)
    simp only [Bool.not_eq_true', Bool.and_eq_false_iff, beq_eq_false_iff_ne, decide_eq_false_iff_not, not_and_or, or_assoc]

end Sys2Proof.Machine

/-!
SUPPORT. Mooring commands: how a command given as a whole is carried out, and the commands on registers, programs, exchanges,
forces, tiles and the error queue (R536 to R540).
-/
namespace Sys2Proof.Machine

/-! ### Arguments -/

theorem argAt_append {a c : List Byte} {o n v : Nat} (ha : a.length = o) (hv : v < 256 ^ n) : argAt (a ++ (beBytes n v ++ c)) o n = v := by
  have h := sub_eq_of_append a (beBytes n v) c
  rw [beBytes_length, ha] at h
  rw [argAt, h, beNat_beBytes, Nat.mod_eq_of_lt hv]

theorem argAt_byte (r : Byte) : argAt [r] 0 1 = r.toNat := Nat.add_zero _

theorem w32_toNat (w : Word) : w32 w.toNat = w := by
  rw [w32, BitVec.ofNat_toNat, BitVec.setWidth_eq]

/-! ### A command given as a whole (R531, R537) -/

/-- The state with a request registered in its session. -/
def State.registered (s : State) (sess req : Nat) (x : Session) (code : Nat) : State :=
  s.setSession sess { x with heard := s.tick.count, openReqs := x.openReqs ++ [(req, code)] }

section
variable {s : State} {sess : BitVec 32} {req : BitVec 16} {x : Session} {f : State → MoorBy → List Byte → State} {code : Nat} {args : List Byte}

theorem State.moorRow_eq (hx : s.session sess.toNat = some x) (hr : x.ready = true) (h4 : x.openReqs.length < 4) :
    s.moorRow sess.toNat req.toNat code args f =
      if x.claim && !claimCode code then (s.registered sess.toNat req.toNat x code).mAns ⟨sess.toNat, req.toNat, x.role, x.part⟩ msROLE
      else f (s.registered sess.toNat req.toNat x code) ⟨sess.toNat, req.toNat, x.role, x.part⟩ args := by
  have hreg : s.moorRegister sess.toNat { x with heard := s.tick.count } req.toNat code = (true, s.registered sess.toNat req.toNat x code) :=
    if_neg (Nat.not_le.2 h4)
  have hsess : (s.registered sess.toNat req.toNat x code).session sess.toNat = _ := State.session_setSession_same ..
  have hnr : ¬ (!x.ready) = true := by rw [hr]; exact Bool.false_ne_true
  simp only [State.moorRow, hx]
  rw [if_neg hnr, hreg]
  simp only [if_true, State.moorEffect, hsess]
  rw [if_neg hnr]

variable {i : Instr} (hs : s.coreOn = true) (hx : s.session sess.toNat = some x) (hr : x.ready = true) (h4 : x.openReqs.length < 4)
include hs hx hr h4

/-- A command that its session accepts is carried out on the state with it registered. -/
theorem exec_of_row (hrow : exec i s = s.onCore (fun s => s.moorRow sess.toNat req.toNat code args f))
    (hc : x.claim = false ∨ claimCode code = true) :
    exec i s = .next (f (s.registered sess.toNat req.toNat x code) ⟨sess.toNat, req.toNat, x.role, x.part⟩ args) := by
  have hcond : (x.claim && !claimCode code) = false := by
    rcases hc with h | h
    · rw [h, Bool.false_and]
    · rw [h, Bool.not_true, Bool.and_false]
  rw [exec_eq_next_of_onCore hs hrow, State.moorRow_eq hx hr h4, hcond, if_neg Bool.false_ne_true]

/-- A session in claim mode gets ROLE for every command but four. -/
theorem exec_of_row_claim (hrow : exec i s = s.onCore (fun s => s.moorRow sess.toNat req.toNat code args f)) (hcl : x.claim = true)
    (hc : claimCode code = false) :
    exec i s = .next ((s.registered sess.toNat req.toNat x code).mAns ⟨sess.toNat, req.toNat, x.role, x.part⟩ msROLE) := by
  rw [exec_eq_next_of_onCore hs hrow, State.moorRow_eq hx hr h4, hcl, hc]
  rfl

end

theorem State.mLen_of {s : State} {b : MoorBy} {args : List Byte} {n : Nat} (f : State → State) (h : args.length = n) :
    s.mLen b args n f = f s := if_pos h

theorem State.mLen_ne {s : State} {b : MoorBy} {args : List Byte} {n : Nat} (f : State → State) (h : args.length ≠ n) :
    s.mLen b args n f = s.mAns b msLEN := if_neg h

theorem State.mTenant_some {s : State} {b : MoorBy} {p : Nat} (f : Nat → State → State) (h : s.mPart b = some p) : s.mTenant b f = f p s := by
  rw [State.mTenant, h]

theorem State.mTenant_none {s : State} {b : MoorBy} (f : Nat → State → State) (h : s.mPart b = none) : s.mTenant b f = s.mAns b msROLE := by
  rw [State.mTenant, h]

/-- A session that is ended is gone, whether it stood or not. -/
theorem State.endSession_gone (s : State) (n cause : Nat) : (s.endSession n cause).session n = none := by
  cases hx : s.session n with
  | none => rw [show s.endSession n cause = s by rw [State.endSession, show tget s.moor.sessions n = none from hx], hx]
  | some x => exact ((State.endSession_spec cause hx).1 n).trans (if_pos rfl)

/-! ### Registers -/

theorem mask_of_ok (b : Bool) : setBit 0 0 (!b) = if b then 0 else 1 := by
  cases b with
  | true => rfl
  | false => rfl

theorem status_of_ok (b : Bool) : (if (if b then 0 else 1) = 0 then msOK else msERR) = if b then msOK else msERR := by
  cases b with
  | true => rfl
  | false => rfl

section
variable {s : State} {b : MoorBy}

/-- REG-READ of one word. -/
theorem State.doRegRead_one (h : b.role ≠ roTENANT) (a : Word) : s.doRegRead b (beBytes 4 a.toNat ++ [1]) =
    (s.srfRead (.moor b.sess b.role) a.toNat 0xFF false).2.2.reply b.sess b.req
      (if (s.srfRead (.moor b.sess b.role) a.toNat 0xFF false).1 then msOK else msERR) true
      (beBytes 8 (if (s.srfRead (.moor b.sess b.role) a.toNat 0xFF false).1 then 0 else 1) ++
        beBytes 4 (s.srfRead (.moor b.sess b.role) a.toNat 0xFF false).2.1.toNat) := by
  have ha : argAt (beBytes 4 a.toNat ++ [1]) 0 4 = a.toNat := argAt_append (a := []) rfl a.isLt
  have hn : argAt (beBytes 4 a.toNat ++ [1]) 4 1 = 1 := argAt_append (a := beBytes 4 a.toNat) (c := []) (n := 1) (v := 1) (beBytes_length ..) (by decide)
  rw [State.doRegRead, State.mSrf, if_neg h, State.mLen_of _ (by rw [List.length_append, beBytes_length]; rfl)]
  simp only [ha, hn]
  rw [if_neg (by decide)]
  simp only [List.range_one, List.foldl_cons, List.foldl_nil, Nat.mul_zero, Nat.add_zero, List.nil_append, mask_of_ok, status_of_ok]

/-- REG-WRITE of one word. -/
theorem State.doRegWrite_one (h : b.role ≠ roTENANT) (a w : Word) : s.doRegWrite b (beBytes 4 a.toNat ++ [1, 0, 0, 0] ++ beBytes 4 w.toNat) =
    (s.srfWrite (.moor b.sess b.role) a.toNat w 0xFF false).2.reply b.sess b.req
      (if (s.srfWrite (.moor b.sess b.role) a.toNat w 0xFF false).1 then msOK else msERR) true
      (beBytes 8 (if (s.srfWrite (.moor b.sess b.role) a.toNat w 0xFF false).1 then 0 else 1)) := by
  have hargs : beBytes 4 a.toNat ++ [1, 0, 0, 0] ++ beBytes 4 w.toNat = beBytes 4 a.toNat ++ ([1, 0, 0, 0] ++ beBytes 4 w.toNat) := List.append_assoc ..
  have ha : argAt (beBytes 4 a.toNat ++ ([1, 0, 0, 0] ++ beBytes 4 w.toNat)) 0 4 = a.toNat := argAt_append (a := []) rfl a.isLt
  have hn : argAt (beBytes 4 a.toNat ++ ([1, 0, 0, 0] ++ beBytes 4 w.toNat)) 4 1 = 1 :=
    argAt_append (a := beBytes 4 a.toNat) (c := [0, 0, 0] ++ beBytes 4 w.toNat) (n := 1) (v := 1) (beBytes_length ..) (by decide)
  have hz : argAt (beBytes 4 a.toNat ++ ([1, 0, 0, 0] ++ beBytes 4 w.toNat)) 5 3 = 0 := by
    have h := argAt_append (a := beBytes 4 a.toNat ++ [1]) (c := beBytes 4 w.toNat) (o := 5) (n := 3) (v := 0)
      (by rw [List.length_append, beBytes_length]; rfl) (by decide)
    rwa [List.append_assoc] at h
  have hw : argAt (beBytes 4 a.toNat ++ ([1, 0, 0, 0] ++ beBytes 4 w.toNat)) 8 4 = w.toNat := by
    have h := argAt_append (a := beBytes 4 a.toNat ++ [1, 0, 0, 0]) (c := []) (o := 8) (n := 4) (v := w.toNat)
      (by rw [List.length_append, beBytes_length]; rfl) w.isLt
    rwa [List.append_nil, List.append_assoc] at h
  have hlen : (beBytes 4 a.toNat ++ ([1, 0, 0, 0] ++ beBytes 4 w.toNat)).length = 12 := by
    rw [List.length_append, List.length_append, beBytes_length, beBytes_length]
    rfl
  have hword : w32 w.toNat = w := w32_toNat w
  rw [hargs, State.doRegWrite, State.mSrf, if_neg h]
  simp only [ha, hn, hz, hlen]
  rw [if_neg (by decide), if_neg (by decide)]
  simp only [List.range_one, List.foldl_cons, List.foldl_nil, Nat.mul_zero, Nat.add_zero, hw, hword, mask_of_ok, status_of_ok]

end

end Sys2Proof.Machine

/-!
SUPPORT. Mooring's TENANT commands: program images, exchanges, forces, tiles, KEEP and the error queue (R538 to R540).
-/
namespace Sys2Proof.Machine

/-- The partition a command reaches is read off registers. -/
theorem State.mPart_registered (s : State) (sess req code : Nat) (x : Session) (b : MoorBy) : (s.registered sess req x code).mPart b = s.mPart b := rfl

section
variable {s : State} {sess : BitVec 32} {req : BitVec 16} {x : Session} {f : State → MoorBy → List Byte → State} {code : Nat} {args : List Byte}
variable {i : Instr} (hs : s.coreOn = true) (hx : s.session sess.toNat = some x) (hr : x.ready = true) (h4 : x.openReqs.length < 4)
  (hcl : x.claim = false)
include hs hx hr h4 hcl

/-- A TENANT command that its session accepts. -/
theorem exec_tenant {p : Nat} (g : Nat → State → State) (hrow : exec i s = s.onCore (fun s => s.moorRow sess.toNat req.toNat code args f))
    (hp : s.mPart ⟨sess.toNat, req.toNat, x.role, x.part⟩ = some p)
    (hf : ∀ u, f u ⟨sess.toNat, req.toNat, x.role, x.part⟩ args = u.mTenant ⟨sess.toNat, req.toNat, x.role, x.part⟩ g) :
    exec i s = .next (g p (s.registered sess.toNat req.toNat x code)) := by
  rw [exec_of_row hs hx hr h4 hrow (.inl hcl), hf, State.mTenant_some _ ((s.mPart_registered ..).trans hp)]

/-- A TENANT command of any other role. -/
theorem exec_tenant_none (g : Nat → State → State) (hrow : exec i s = s.onCore (fun s => s.moorRow sess.toNat req.toNat code args f))
    (hp : s.mPart ⟨sess.toNat, req.toNat, x.role, x.part⟩ = none)
    (hf : ∀ u, f u ⟨sess.toNat, req.toNat, x.role, x.part⟩ args = u.mTenant ⟨sess.toNat, req.toNat, x.role, x.part⟩ g) :
    exec i s = .next ((s.registered sess.toNat req.toNat x code).mAns ⟨sess.toNat, req.toNat, x.role, x.part⟩ msROLE) := by
  rw [exec_of_row hs hx hr h4 hrow (.inl hcl), hf, State.mTenant_none _ ((s.mPart_registered ..).trans hp)]

end

/-! ### Transfers (R539) -/

/-- Transfer tiles change what the partition has under transfer tiles, and nothing that leaves. -/
theorem State.xferTile_stands {α : Type} (s : State) (p k q : Nat) (payload : List Byte) (g : PartSt → α)
    (hg : ∀ x l, g { x with xferTiles := l } = g x) : g ((s.xferTile p k payload).part q) = g (s.part q) ∧
    (s.xferTile p k payload).out = s.out := by
  have hadd (u : State) (l : Nat) : g ((u.modPart p (fun x => { x with xferTiles := x.xferTiles ++ [l] })).part q) = g (u.part q) := by
    by_cases h : q = p
    · subst h
      rw [State.part_modPart_same, hg]
    · rw [State.part_modPart_ne _ _ _ _ h]
  unfold State.xferTile
  generalize s.pickLoc [] s.free false = r
  cases r with
  | none => exact ⟨rfl, rfl⟩
  | some e => exact ⟨hadd _ _, rfl⟩

theorem State.xferTiles_stands {α : Type} (s : State) (p k m q : Nat) (body : List Byte) (g : PartSt → α)
    (hg : ∀ x l, g { x with xferTiles := l } = g x) : g ((s.xferTiles p k m body).part q) = g (s.part q) :=
  foldl_stands (fun u : State => g (u.part q)) (fun _ _ _ => (State.xferTile_stands _ _ _ _ _ g hg).1) s

theorem State.xferTiles_out (s : State) (p k m : Nat) (body : List Byte) : (s.xferTiles p k m body).out = s.out :=
  foldl_stands State.out (fun u i _ => (u.xferTile_stands p i 0 _ (fun _ => ()) fun _ _ => rfl).2) s

theorem State.dropXfer_spec (s : State) (p : Nat) : (s.dropXfer p).part p = { s.part p with xferTiles := [] } ∧ (s.dropXfer p).srf = s.srf ∧
    (s.dropXfer p).out = s.out := by
  simp only [State.dropXfer]
  refine ⟨?_, ?_, ?_⟩
  · exact (foldl_stands (fun u : State => u.part p) (fun _ _ _ => by rfl) _).trans (State.part_modPart_same ..)
  · exact foldl_stands State.srf (fun _ _ _ => by rfl) _
  · exact foldl_stands State.out (fun _ _ _ => by rfl) _

theorem State.imgDrop_part (s : State) (p : Nat) : ((s.imgDrop p).part p).xfer = none ∧ ((s.imgDrop p).part p).received = none ∧
    ((s.imgDrop p).part p).xferTiles = [] := by
  rw [State.imgDrop, (State.dropXfer_spec ..).1, State.part_modPart_same]
  exact ⟨rfl, rfl, rfl⟩

section
variable {u : State} {b : MoorBy} {p : Nat} {args : List Byte}

/-- IMG-BEGIN for a partition that can take one. -/
theorem State.imgBegin_spec (hb : u.mPart b = some p) (hlen : 3561 ≤ args.length) (h0 : argAt args 0 1 = p) (h1 : argAt args 1 3 = 0)
    (hf : u.pstate p ≠ psFree) (hz : u.pstate p ≠ psZeroising) (hx : (u.part p).xfer = none) (hr : (u.part p).received = none) :
    ((imgHead (sub args 4 96)).isNone = true → u.doImgBegin b args = u.mRefuse b xrIMAGE) ∧
    ((imgHead (sub args 4 96)).isNone = false → u.doImgBegin b args =
      ((u.modPart p (fun x => { x with xfer := some ⟨sub args 4 96, args.drop 100, [], false, some (b.sess, b.req)⟩ })).setMoor
        (fun m => { m with work := m.work ++ [.image p b.sess b.req] })).mPend b) := by
  rw [State.doImgBegin, State.mTenant_some _ hb, if_neg (Nat.not_lt.2 hlen), if_neg (not_not.2 h0), if_neg (not_not.2 h1),
    if_neg (not_or.2 ⟨hf, hz⟩), if_neg (by rw [hx, hr]; decide)]
  exact ⟨fun h => if_pos h, fun h => if_neg (by rw [h]; exact Bool.false_ne_true)⟩

/-- IMG-DATA in order. -/
theorem State.imgData_spec {v : Transfer} (hb : u.mPart b = some p) (hx : (u.part p).xfer = some v) (hv : v.verified = true) (hlen : 4 ≤ args.length)
    (ho : argAt args 0 4 = v.body.length) (hfit : v.body.length + (args.length - 4) ≤ v.bodyLen) :
    ((u.doImgData b args).part p).xfer = some { v with body := v.body ++ args.drop 4 } ∧
    (u.doImgData b args).out = u.out ++ [Msg.reply b.sess b.req msOK true []] := by
  have hrange : ¬ (argAt args 0 4 ≠ v.body.length ∨ v.bodyLen < v.body.length + (args.drop 4).length) := by
    rw [List.length_drop]
    exact not_or.2 ⟨not_not.2 ho, Nat.not_lt.2 hfit⟩
  have hnv : ¬ (!v.verified) = true := by rw [hv]; exact Bool.false_ne_true
  rw [State.doImgData, State.mTenant_some _ hb, if_neg (Nat.not_lt.2 hlen)]
  simp only [hx]
  rw [if_neg hnv, if_neg hrange]
  refine ⟨(State.xferTiles_stands _ _ _ _ p _ PartSt.xfer fun _ _ => rfl).trans ?_, congrArg (· ++ _) (State.xferTiles_out ..)⟩
  rw [State.part_modPart_same]

/-- IMG-END of a good image. -/
theorem State.imgEnd_spec {v : Transfer} {i : Image} (hb : u.mPart b = some p) (hx : (u.part p).xfer = some v) (hv : v.verified = true)
    (hi : (imgHead v.head).bind (fun h => parseImage sha384 h v.body) = some i) (ht : ∀ y ∈ i.tiles, y.ident < 0xFFFE0000 ∨ 0xFFFE0FFF < y.ident) :
    ((u.doImgEnd b []).part p).xfer = none ∧ ((u.doImgEnd b []).part p).received = some { i with head := v.head, block := v.sigs } ∧
    (u.doImgEnd b []).out = u.out ++ [Msg.reply b.sess b.req msPENDING false [], Msg.reply b.sess b.req msOK true []] := by
  have hnv : ¬ (!v.verified) = true := by rw [hv]; exact Bool.false_ne_true
  have hany : ¬ (i.tiles.any (fun t => 0xFFFE0000 ≤ t.ident && t.ident ≤ 0xFFFE0FFF)) = true := fun hc => by
    obtain ⟨y, hy, hyc⟩ := List.any_eq_true.1 hc
    simp only [Bool.and_eq_true, decide_eq_true_eq] at hyc
    rcases ht y hy with h | h <;> omega
  rw [State.doImgEnd, State.mTenant_some _ hb, State.mLen_of (args := []) (n := 0) _ rfl]
  simp only [hx]
  rw [if_neg hnv]
  simp only [hi]
  rw [if_neg hany]
  have hpart (w : State) (m : Msg) (fn : PartSt → PartSt) : ((w.modPart p fn).send m).part p = fn (w.part p) := State.part_modPart_same ..
  refine ⟨congrArg PartSt.xfer (hpart _ _ _), congrArg PartSt.received (hpart _ _ _), ?_⟩
  exact (congrArg (· ++ _) (State.xferTiles_out ..)).trans (List.append_assoc ..)

theorem State.imgAbort_spec (hb : u.mPart b = some p) : ((u.doImgAbort b []).part p).xfer = none ∧ ((u.doImgAbort b []).part p).received = none ∧
    ((u.doImgAbort b []).part p).xferTiles = [] := by
  rw [State.doImgAbort, State.mTenant_some _ hb, State.mLen_of (args := []) (n := 0) _ rfl]
  exact u.imgDrop_part p

/-! ### COLD-LOAD (R540) -/

/-- The tiles of the old program. -/
def State.oldMap (s : State) (p : Nat) : List Nat := match (s.part p).prog with
  | some g => g.map
  | none => []

/-- The state COLD-LOAD judges an image over: the old program's tiles are free. -/
def State.freed (s : State) (p : Nat) : State := (s.oldMap p).foldl (fun (t : State) l => t.freeTileAt l) s

theorem State.coldLoad_none (hb : u.mPart b = some p) (h : (u.part p).received = none) : u.doColdLoad b [] = u.mAns b msSTATE := by
  rw [State.doColdLoad, State.mTenant_some _ hb, State.mLen_of (args := []) (n := 0) _ rfl]
  simp only [h]

theorem State.coldLoad_refused {i : Image} (hb : u.mPart b = some p) (hi : (u.part p).received = some i) (hf : u.pstate p ≠ psFree)
    (hz : u.pstate p ≠ psZeroising) (hc : (u.part p).coldLoad = none) (hr : (u.freed p).coldRefused p i ≠ 0) :
    u.doColdLoad b [] = u.mRefuse b ((u.freed p).coldRefused p i) := by
  have hcond : ¬ (u.pstate p = psFree ∨ u.pstate p = psZeroising ∨ (u.part p).coldLoad.isSome) := by
    rw [hc]
    exact not_or.2 ⟨hf, not_or.2 ⟨hz, Bool.false_ne_true⟩⟩
  rw [State.doColdLoad, State.mTenant_some _ hb, State.mLen_of (args := []) (n := 0) _ rfl]
  simp only [hi]
  rw [if_neg hcond]
  exact if_pos hr

theorem State.coldLoad_starts {i : Image} (hb : u.mPart b = some p) (hi : (u.part p).received = some i) (hf : u.pstate p ≠ psFree)
    (hz : u.pstate p ≠ psZeroising) (hc : (u.part p).coldLoad = none) (hr : (u.freed p).coldRefused p i = 0)
    (ha : ((u.freed p).allotTiles (fun _ => none) i.tiles [] u).1.any (fun y => y.isNone) = false) :
    ∃ map : List Nat, ((u.doColdLoad b []).part p).received = none ∧ ((u.doColdLoad b []).part p).coldLoad = some (⟨i, map⟩, b.sess, b.req, false) ∧
      map.length = ((u.freed p).allotTiles (fun _ => none) i.tiles [] u).1.length ∧ Msg.reply b.sess b.req msPENDING false [] ∈ (u.doColdLoad b []).out := by
  have hcond : ¬ (u.pstate p = psFree ∨ u.pstate p = psZeroising ∨ (u.part p).coldLoad.isSome) := by
    rw [hc]
    exact not_or.2 ⟨hf, not_or.2 ⟨hz, Bool.false_ne_true⟩⟩
  have hna : ¬ ((u.freed p).allotTiles (fun _ => none) i.tiles [] u).1.any (fun y => y.isNone) = true := by
    rw [ha]
    exact Bool.false_ne_true
  rw [State.doColdLoad, State.mTenant_some _ hb, State.mLen_of (args := []) (n := 0) _ rfl]
  simp only [hi]
  rw [if_neg hcond]
  have hpart (w : State) (m : Msg) (fn : PartSt → PartSt) : ((w.modPart p fn).send m).part p = fn (w.part p) := State.part_modPart_same ..
  have hgo {α : Type} (c d : Prop) [Decidable c] [Decidable d] (h1 : ¬ c) (h2 : ¬ d) (x y z : α) : (if c then x else if d then y else z) = z := by
    rw [if_neg h1, if_neg h2]
  refine ⟨((u.freed p).allotTiles (fun _ => none) i.tiles [] u).1.map (fun x => match x with | some e => e.1 | none => 0), ?_⟩
  erw [hgo _ _ (not_not.2 hr) hna]
  exact ⟨congrArg PartSt.received (hpart _ _ _), congrArg PartSt.coldLoad (hpart _ _ _), List.length_map .., List.mem_append_right _ List.mem_cons_self⟩

end

/-- A placed program is the partition's program; a cold load under way stays so. -/
theorem State.installProgram_part (s : State) (p : Nat) (g : Program) : ((s.installProgram p g).part p).prog = some g ∧
    ((s.installProgram p g).part p).coldLoad = (s.part p).coldLoad := by
  have hkeep (u : State) (loc : Nat) (t : ImgTile) : ((u.keepImage p loc t).part p).prog = (u.part p).prog ∧
      ((u.keepImage p loc t).part p).coldLoad = (u.part p).coldLoad := by
    rw [State.keepImage]
    split
    · exact ⟨rfl, rfl⟩
    · extract_lets b
      split
      · exact ⟨rfl, rfl⟩
      · rw [State.part_modPart_same]
        exact ⟨rfl, rfl⟩
  have hpages (u : State) (ns : List Nat) (loc : Nat) :
      (ns.foldl (fun s n => (s.setFld (R.ENG_CODE_PAGE n) F.ENG_CODE_PAGE_LOC loc).setPage n 0) u).part p = u.part p :=
    foldl_stands (fun u : State => u.part p) (fun _ _ _ => by rfl) u
  have hstore (u : State) : (u.storeImage p).part p = u.part p := by
    rw [State.storeImage]
    split
    · rfl
    · rfl
  have hold (ns : List Nat) :
      (ns.foldl (fun s n => (s.setPage n 0).setFld (R.ENG_CODE_PAGE n) F.ENG_CODE_PAGE_LOC 0) s).part p = s.part p :=
    foldl_stands (fun u : State => u.part p) (fun _ _ _ => by rfl) s
  refine Prod.mk.inj (fst := ((s.installProgram p g).part p).prog) ?_
  unfold State.installProgram
  extract_lets
  rw [hstore]
  refine (foldl_stands (fun u : State => ((u.part p).prog, (u.part p).coldLoad)) (fun u k _ => ?_) _).trans ?_
  · split
    · rfl
    · rename_i t _
      obtain ⟨h1, h2⟩ := hkeep u (g.map.getD k 0) t
      extract_lets
      split
      · rw [hpages]
        exact Prod.ext h1 h2
      · exact Prod.ext h1 h2
  · rw [State.part_modPart_same]
    exact Prod.ext rfl (congrArg PartSt.coldLoad (hold _))

theorem State.bindTrip_parts (s : State) (j loc : Nat) (template : List Byte) : (s.bindTrip j loc template).parts = s.parts := by
  simp only [State.bindTrip, State.setTrip, State.setTripState, State.setReg_parts, State.setFld_parts]

theorem State.unbindTrip_parts (s : State) (j : Nat) : (s.unbindTrip j).parts = s.parts := by
  simp only [State.unbindTrip, State.setTripState, State.setReg_parts, State.setFld_parts]

theorem State.bindLoops_parts (s : State) (p : Nat) : (s.bindLoops p).parts = s.parts := by
  unfold State.bindLoops
  extract_lets recs mine v
  refine (foldl_stands State.parts (fun w e _ => ?_) _).trans (foldl_stands State.parts (fun w j _ => ?_) _)
  · split
    · rfl
    · split
      · rfl
      · simp only [State.setClu, State.setFld_parts]
  · split
    · rfl
    · rfl

theorem State.bindStreams_parts (s : State) (p : Nat) : (s.bindStreams p).parts = s.parts := by
  unfold State.bindStreams
  split
  · rfl
  · extract_lets imgs mine v
    refine (foldl_stands State.parts (fun w e _ => ?_) _).trans (foldl_stands State.parts (fun w j _ => ?_) _)
    · split
      · rfl
      · split
        · rfl
        · simp only [State.setStream, State.setReg_parts, State.setFld_parts]
    · split
      · rfl
      · rfl

theorem State.bindTrips_parts (s : State) (p : Nat) : (s.bindTrips p).parts = s.parts := by
  unfold State.bindTrips
  extract_lets tiles mine bound v
  refine (foldl_stands State.parts (fun w e _ => ?_) _).trans (foldl_stands State.parts (fun w j _ => ?_) _)
  · extract_lets template
    split
    · split
      · rfl
      · exact State.bindTrip_parts ..
    · split
      · exact State.bindTrip_parts ..
      · rfl
  · split
    · exact State.unbindTrip_parts ..
    · rfl

theorem State.bindAll_parts (s : State) (p : Nat) : (s.bindAll p).parts = s.parts := by
  rw [State.bindAll, State.bindTrips_parts, State.bindStreams_parts, State.bindLoops_parts]

/-- COLD_LOAD_PLACED: the placement takes effect (R540). -/
theorem exec_coldLoadPlaced {s : State} (hs : s.coreOn = true) {p : Fin 128} {g : Program} {se rq : Nat}
    (hc : (s.part p).coldLoad = some (g, se, rq, false)) :
    (s.stepsWait p = true → exec (.coldLoadPlaced p) s = .next s) ∧
    (s.stepsWait p = false → ∃ t : State, exec (.coldLoadPlaced p) s = .next t ∧ (t.part p).coldLoad = some (g, se, rq, true) ∧
      (t.part p).prog = some g) := by
  rw [show exec (.coldLoadPlaced p) s = execColdLoadPlaced p s from rfl, execColdLoadPlaced, State.onCore, if_pos hs]
  simp only [hc]
  refine ⟨fun h => by rw [if_pos h], fun h => ⟨_, rfl, ?_⟩⟩
  rw [h, if_neg Bool.false_ne_true, State.part_modPart_same, (State.dropXfer_spec ..).1, State.part_congr (State.bindAll_parts ..)]
  exact ⟨rfl, (s.installProgram_part p g).1⟩

end Sys2Proof.Machine

/-!
SUPPORT. Mooring's TENANT commands on exchanges, forces, tiles, KEEP and the error queue (R213 to R217, R487, R512 to R514, R538).
-/
namespace Sys2Proof.Machine

section
variable {u : State} {b : MoorBy} {p : Nat}

/-! ### Exchange (R224 to R227) -/

theorem State.doXchgStage_eq (hb : u.mPart b = some p) : u.doXchgStage b [] =
    if (u.xchgStage p (some (b.sess, b.req))).1 = 0 then (u.xchgStage p (some (b.sess, b.req))).2.mPend b
    else (u.xchgStage p (some (b.sess, b.req))).2.mRefuse b (u.xchgStage p (some (b.sess, b.req))).1 := by
  rw [State.doXchgStage, State.mTenant_some _ hb, State.mLen_of (args := []) (n := 0) _ rfl]

theorem State.setXstate_spec (u : State) (p v : Nat) (hv : v < 2 ^ F.ENG_XCHG_STAT_STATE.len) : (u.setXstate p v).xstate p = v ∧
    ∀ a, a ≠ R.ENG_XCHG_STAT p → (u.setXstate p v).reg a = u.reg a :=
  ⟨(State.fld_setFld_same _ _ _ _ (by decide)).trans (Nat.mod_eq_of_lt hv), fun a ha => State.reg_setFld_ne _ _ _ _ _ ha⟩

theorem State.doXchgArm_eq (hb : u.mPart b = some p) : u.doXchgArm b [] =
    if u.xstate p = xsSTAGED then (u.setXstate p xsARMED).mAns b msOK else u.mAns b msSTATE := by
  rw [State.doXchgArm, State.mTenant_some _ hb, State.mLen_of (args := []) (n := 0) _ rfl]

theorem State.doXchgDisarm_eq (hb : u.mPart b = some p) : u.doXchgDisarm b [] =
    if u.xstate p = xsARMED then (u.setXstate p xsSTAGED).mAns b msOK else u.mAns b msSTATE := by
  rw [State.doXchgDisarm, State.mTenant_some _ hb, State.mLen_of (args := []) (n := 0) _ rfl]

theorem State.doXchgDiscard_eq (hb : u.mPart b = some p) (h1 : xsSTAGING ≤ u.xstate p) (h2 : u.xstate p ≤ xsARMED) :
    u.doXchgDiscard b [] = (u.xchgDrop p xrDISCARDED).mAns b msOK := by
  rw [State.doXchgDiscard, State.mTenant_some _ hb, State.mLen_of (args := []) (n := 0) _ rfl, if_pos ⟨h1, h2⟩]

/-! ### Forces (R213 to R217) -/

theorem State.part_eventQ_forces (s : State) (c p v v2 h q : Nat) : ((s.eventQ c p v v2 h).part q).forces = (s.part q).forces := by
  obtain ⟨e, he⟩ := s.part_log ⟨17, p, 0xFF, none, h, false, w32 v2, evDetail c v⟩ (some p) false q
  rw [State.eventQ, he]

theorem State.mem_forceSet (s : State) (p ident idx : Nat) (v : Word) : (⟨ident, idx, v⟩ : Force) ∈ ((s.forceSet p ident idx v).part p).forces := by
  rw [State.forceSet, State.part_eventQ_forces, State.part_modPart_same]
  simp only
  split
  · rename_i hany
    obtain ⟨f, hf, hc⟩ := List.any_eq_true.1 hany
    simp only [Bool.and_eq_true, beq_iff_eq] at hc
    exact List.mem_map.2 ⟨f, hf, by rw [if_pos hc, hc.1, hc.2]⟩
  · exact List.mem_append_right _ List.mem_cons_self

theorem State.forceSet_out (s : State) (p ident idx : Nat) (v : Word) : (s.forceSet p ident idx v).out = s.out := by
  rw [State.forceSet, State.eventQ_out]
  rfl

theorem State.mem_forceClear (s : State) (p ident idx : Nat) (f : Force) : f ∈ ((s.forceClear p ident idx).part p).forces ↔
    f ∈ (s.part p).forces ∧ ¬ (ident = 0 ∨ (f.ident = ident ∧ f.index = idx)) := by
  have hfold : ((s.forceClear p ident idx).part p).forces =
      (s.part p).forces.filter (fun f => !(ident == 0 || (f.ident == ident && f.index == idx))) := by
    refine (foldl_stands (fun u : State => (u.part p).forces) (fun w f _ => w.part_eventQ_forces ..) _).trans ?_
    rw [State.part_modPart_same]
  rw [hfold, List.mem_filter]
  simp only [Bool.not_eq_true', Bool.or_eq_false_iff, Bool.and_eq_false_iff, beq_eq_false_iff_ne, not_or, not_and_or]

/-- The arguments of FORCE-SET. -/
theorem forceSet_args (ident : Word) (i : BitVec 16) (v : Word) :
    argAt (beBytes 4 ident.toNat ++ beBytes 2 i.toNat ++ [0, 0] ++ beBytes 4 v.toNat) 0 4 = ident.toNat ∧
    argAt (beBytes 4 ident.toNat ++ beBytes 2 i.toNat ++ [0, 0] ++ beBytes 4 v.toNat) 4 2 = i.toNat ∧
    argAt (beBytes 4 ident.toNat ++ beBytes 2 i.toNat ++ [0, 0] ++ beBytes 4 v.toNat) 6 2 = 0 ∧
    argAt (beBytes 4 ident.toNat ++ beBytes 2 i.toNat ++ [0, 0] ++ beBytes 4 v.toNat) 8 4 = v.toNat ∧
    (beBytes 4 ident.toNat ++ beBytes 2 i.toNat ++ [0, 0] ++ beBytes 4 v.toNat).length = 12 := by
  have h1 := argAt_append (a := []) (c := beBytes 2 i.toNat ++ ([0, 0] ++ beBytes 4 v.toNat)) (o := 0) (n := 4) rfl ident.isLt
  have h2 := argAt_append (a := beBytes 4 ident.toNat) (c := [0, 0] ++ beBytes 4 v.toNat) (o := 4) (n := 2) (beBytes_length ..) i.isLt
  have h3 := argAt_append (a := beBytes 4 ident.toNat ++ beBytes 2 i.toNat) (c := beBytes 4 v.toNat) (o := 6) (n := 2) (v := 0)
    (by rw [List.length_append, beBytes_length, beBytes_length]) (by decide)
  have h4 := argAt_append (a := beBytes 4 ident.toNat ++ beBytes 2 i.toNat ++ [0, 0]) (c := []) (o := 8) (n := 4)
    (by rw [List.length_append, List.length_append, beBytes_length, beBytes_length]; rfl) v.isLt
  simp only [List.append_assoc, List.append_nil, List.nil_append] at h1 h2 h3 h4 ⊢
  refine ⟨h1, h2, h3, h4, ?_⟩
  simp only [List.length_append, beBytes_length, List.length_cons, List.length_nil]

theorem State.doForceSet_eq (hb : u.mPart b = some p) (ident : Word) (i : BitVec 16) (v : Word) :
    (∀ c, u.forceRefused p ident.toNat i.toNat = some c →
      u.doForceSet b (beBytes 4 ident.toNat ++ beBytes 2 i.toNat ++ [0, 0] ++ beBytes 4 v.toNat) = u.mRefuse b c) ∧
    (u.forceRefused p ident.toNat i.toNat = none → u.forceShared p = false →
      u.doForceSet b (beBytes 4 ident.toNat ++ beBytes 2 i.toNat ++ [0, 0] ++ beBytes 4 v.toNat) =
        (u.forceSet p ident.toNat i.toNat v).mAns b msOK) := by
  obtain ⟨h1, h2, h3, h4, hlen⟩ := forceSet_args ident i v
  generalize beBytes 4 ident.toNat ++ beBytes 2 i.toNat ++ [0, 0] ++ beBytes 4 v.toNat = args at h1 h2 h3 h4 hlen ⊢
  rw [State.doForceSet, State.mTenant_some _ hb, State.mLen_of _ hlen]
  simp only [h1, h2, h3, h4, w32_toNat]
  rw [if_neg (not_not.2 rfl)]
  exact ⟨fun c h => by rw [h], fun h hsh => by rw [h, hsh, if_neg Bool.false_ne_true]⟩

theorem State.doForceClear_eq (hb : u.mPart b = some p) (ident : Word) (i : BitVec 16) (hsh : u.forceShared p = false) :
    u.doForceClear b (beBytes 4 ident.toNat ++ beBytes 2 i.toNat) = (u.forceClear p ident.toNat i.toNat).mAns b msOK := by
  have h1 : argAt (beBytes 4 ident.toNat ++ beBytes 2 i.toNat) 0 4 = ident.toNat := argAt_append (a := []) rfl ident.isLt
  have h2 := argAt_append (a := beBytes 4 ident.toNat) (c := []) (o := 4) (n := 2) (beBytes_length ..) i.isLt
  rw [List.append_nil] at h2
  rw [State.doForceClear, State.mTenant_some _ hb, State.mLen_of _ (by rw [List.length_append, beBytes_length, beBytes_length])]
  simp only [h1, h2, hsh, Bool.false_eq_true, if_false]

/-! ### Status, tiles, KEEP and errors -/

/-- The five registers PART-STATUS begins with. -/
def statusRegs (p : Nat) : List Nat := [R.ENG_PART_STAT p, R.ENG_XCHG_STAT p, R.ENG_XCHG_TICK p, R.ERR_PQ_STAT p, R.TS_QUOTA p]

theorem State.readEffect_out (s : State) (a : Nat) : (s.readEffect a).out = s.out := by
  have hmark (t : State) (i : Nat) : (t.markRead i).out = t.out := by
    rw [State.markRead]
    split
    · rfl
    · rfl
  unfold State.readEffect
  extract_lets t
  have ht : t.out = s.out := by
    simp only [t]
    split
    · split
      · rfl
      · rfl
    · rfl
  split
  · exact ht
  · split
    · exact (hmark _ _).trans ht
    · split
      · exact ht
      · exact ht

theorem State.doPartStatus_spec (hb : u.mPart b = some p) : ∃ data, (u.doPartStatus b []).out = u.out ++ [Msg.reply b.sess b.req msOK true data] ∧
    data.take 20 = (statusRegs p).flatMap (fun a => beBytes 4 (u.srfValue a).toNat) := by
  rw [State.doPartStatus, State.mTenant_some _ hb, State.mLen_of (args := []) (n := 0) _ rfl]
  refine ⟨_, congrArg (· ++ _) (foldl_stands State.out (fun w a _ => w.readEffect_out a) u), ?_⟩
  have hlen : ((statusRegs p).flatMap (fun a => beBytes 4 (u.srfValue a).toNat)).length = 20 := by
    simp only [statusRegs, List.flatMap_cons, List.flatMap_nil, List.length_append, beBytes_length, List.length_nil]
  exact (List.take_append_of_le_length (Nat.le_of_eq hlen.symm)).trans (List.take_of_length_le (Nat.le_of_eq hlen))

theorem State.doTileRead_eq (hb : u.mPart b = some p) (loc : Fin 4096) : u.doTileRead b (beBytes 2 loc.val) =
    if u.dirValid loc && u.dirOwner loc == p then
      u.setSteps (loc / 64) (u.steps (loc / 64) ++ [StepCmd.readOut b.sess b.req p loc])
    else u.mRefuse b 1 := by
  have h := argAt_append (a := []) (c := []) (o := 0) (n := 2) rfl (Nat.lt_trans loc.isLt (by decide : 4096 < 256 ^ 2))
  rw [List.append_nil, List.nil_append] at h
  rw [State.doTileRead, State.mTenant_some _ hb, State.mLen_of _ (beBytes_length ..)]
  simp only [h]
  rw [if_neg (Nat.not_le.2 loc.isLt)]
  cases u.dirValid loc && u.dirOwner loc == p with
  | true => rfl
  | false => rfl

theorem State.doRstore_eq (hb : u.mPart b = some p) (r : Byte) : u.doRstore b [r] =
    if u.flag (R.KEEP_RING_CFG r.toNat) F.KEEP_RING_CFG_VALID && u.ringPart r.toNat == p then (u.askStore r.toNat).mAns b msOK
    else u.mAns b msROLE := by
  rw [State.doRstore, State.mTenant_some _ hb, State.mLen_of (args := [r]) (n := 1) _ rfl, argAt_byte]

theorem State.doErrRead_spec (hb : u.mPart b = some p) (n : Byte) (h0 : 0 < n.toNat) (h16 : n.toNat ≤ 16) :
    ((u.doErrRead b [n]).part p).errq.recs = (u.part p).errq.recs.drop n.toNat ∧
    (u.doErrRead b [n]).out = u.out ++ [Msg.reply b.sess b.req msOK true (((u.part p).errq.recs.take n.toNat).flatMap (fun r => r.bytes))] := by
  rw [State.doErrRead, State.mTenant_some _ hb, State.mLen_of (args := [n]) (n := 1) _ rfl, argAt_byte]
  rw [if_neg (by omega)]
  have hpart (w : State) (m : Msg) (fn : PartSt → PartSt) : ((w.modPart p fn).send m).part p = fn (w.part p) := State.part_modPart_same ..
  exact ⟨congrArg (fun x : PartSt => x.errq.recs) (hpart _ _ _), rfl⟩

theorem State.doErrClear_spec (hb : u.mPart b = some p) : (u.doErrClear b []).flag (R.ERR_PQ_STAT p) F.ERR_PQ_STAT_OVF = false ∧
    (u.doErrClear b []).fld (R.ERR_PQ_STAT p) F.ERR_PQ_STAT_LOST = 0 ∧ ∀ a, a ≠ R.ERR_PQ_STAT p → (u.doErrClear b []).reg a = u.reg a := by
  rw [State.doErrClear, State.mTenant_some _ hb, State.mLen_of (args := []) (n := 0) _ rfl]
  have hcongr (w : State) : (w.mAns b msOK).srf = w.srf := rfl
  refine ⟨(State.flag_congr (hcongr _) _ _).trans ?_, (State.fld_congr (hcongr _) _ _).trans (State.fld_setFld_same _ _ _ _ (by decide)),
    fun a ha => (State.reg_congr (hcongr _) _).trans ?_⟩
  · have h := State.flag_setFlag_same u (R.ERR_PQ_STAT p) F.ERR_PQ_STAT_OVF false (by decide) (by decide)
    rw [State.flag] at h ⊢
    rw [State.fld_setFld_ne _ _ _ _ _ (by decide)]
    exact h
  · exact (State.reg_setFld_ne _ _ _ _ _ ha).trans (State.reg_setFlag_ne _ _ _ _ _ ha)

theorem State.doErrCfg_spec (hb : u.mPart b = some p) (w : Word) :
    (w.getLsbD 31 = false ∨ (u.dirValid (F.ERR_PQ_CFG_LOC.get w) && u.isInbox (F.ERR_PQ_CFG_LOC.get w) &&
        u.dirOwner (F.ERR_PQ_CFG_LOC.get w) == p) = true →
      (u.doErrCfg b (beBytes 4 w.toNat)).reg (R.ERR_PQ_CFG p) = w &&& 0xCFFFFFFF ∧
      ∀ a, a ≠ R.ERR_PQ_CFG p → (u.doErrCfg b (beBytes 4 w.toNat)).reg a = u.reg a) ∧
    (w.getLsbD 31 = true → (u.dirValid (F.ERR_PQ_CFG_LOC.get w) && u.isInbox (F.ERR_PQ_CFG_LOC.get w) &&
        u.dirOwner (F.ERR_PQ_CFG_LOC.get w) == p) = false → u.doErrCfg b (beBytes 4 w.toNat) = u.mRefuse b 1) := by
  have h := argAt_append (a := []) (c := []) (o := 0) (n := 4) rfl w.isLt
  rw [List.append_nil, List.nil_append] at h
  rw [State.doErrCfg, State.mTenant_some _ hb, State.mLen_of _ (beBytes_length ..), h, w32_toNat]
  refine ⟨fun hc => ?_, fun h1 h2 => ?_⟩
  · have hcond : ¬ (w.getLsbD 31 && !(u.dirValid (F.ERR_PQ_CFG_LOC.get w) && u.isInbox (F.ERR_PQ_CFG_LOC.get w) &&
        u.dirOwner (F.ERR_PQ_CFG_LOC.get w) == p)) = true := by
      rcases hc with hc | hc
      · rw [hc, Bool.false_and]
        exact Bool.false_ne_true
      · rw [hc, Bool.not_true, Bool.and_false]
        exact Bool.false_ne_true
    rw [if_neg hcond]
    exact ⟨State.reg_setReg_same .., fun a ha => State.reg_setReg_ne _ _ _ _ ha⟩
  · exact if_pos (by rw [h1, h2]; rfl)

end

/-! ### The obligation -/

section
variable {s : State} {sess : BitVec 32} {req : BitVec 16} {x : Session}
variable (hs : s.coreOn = true) (hx : s.session sess.toNat = some x) (hr : x.ready = true) (h4 : x.openReqs.length < 4)
include hs hx hr h4

theorem exec_sessionCommands : ∀ e ∈ ([(.moorNop sess req, 0x0001, State.doNop), (.moorClose sess req, 0x0002, State.doClose)] :
      List ((List Byte → Instr) × Nat × (State → MoorBy → List Byte → State))), ∀ args : List Byte,
    exec (e.1 args) s = .next (e.2.2 (s.registered sess.toNat req.toNat x e.2.1) ⟨sess.toNat, req.toNat, x.role, x.part⟩ args) ∧
    (args ≠ [] → exec (e.1 args) s =
      .next ((s.registered sess.toNat req.toNat x e.2.1).mAns ⟨sess.toNat, req.toNat, x.role, x.part⟩ msLEN)) := by
  simp only [List.forall_mem_cons, List.not_mem_nil, false_imp_iff, implies_true, and_true]
  have hlen {args : List Byte} (h : args ≠ []) : args.length ≠ 0 := fun h0 => h (List.length_eq_zero_iff.1 h0)
  refine ⟨fun args => ⟨exec_of_row hs hx hr h4 rfl (.inr rfl), fun h => ?_⟩, fun args => ⟨exec_of_row hs hx hr h4 rfl (.inr rfl), fun h => ?_⟩⟩
  · rw [exec_of_row (code := 0x0001) (f := State.doNop) hs hx hr h4 rfl (.inr rfl), State.doNop, State.mLen_ne _ (hlen h)]
  · rw [exec_of_row (code := 0x0002) (f := State.doClose) hs hx hr h4 rfl (.inr rfl), State.doClose, State.mLen_ne _ (hlen h)]

theorem exec_program_claim (hcl : x.claim = true) (args : List Byte) : ∀ e ∈ ([(.regRead sess req args, 0x0010), (.regWrite sess req args, 0x0011),
      (.imgBegin sess req args, 0x0020), (.imgData sess req args, 0x0021), (.imgEnd sess req args, 0x0022), (.imgAbort sess req args, 0x0023),
      (.coldLoad sess req args, 0x0024), (.xchgStage sess req args, 0x0030), (.xchgArm sess req args, 0x0031), (.xchgDisarm sess req args, 0x0032),
      (.xchgDiscard sess req args, 0x0033), (.forceSet sess req args, 0x0040), (.forceClear sess req args, 0x0041),
      (.forceList sess req args, 0x0042), (.partStatus sess req args, 0x0050), (.tileRead sess req args, 0x0051),
      (.rstore sess req args, 0x0052), (.errRead sess req args, 0x0053), (.errClear sess req args, 0x0054),
      (.errCfg sess req args, 0x0055)] : List (Instr × Nat)),
    exec e.1 s = .next ((s.registered sess.toNat req.toNat x e.2).mAns ⟨sess.toNat, req.toNat, x.role, x.part⟩ msROLE) := by
  have h {i : Instr} {code : Nat} (f : State → MoorBy → List Byte → State)
      (hrow : exec i s = s.onCore (fun s => s.moorRow sess.toNat req.toNat code args f)) (hc : claimCode code = false) :=
    exec_of_row_claim hs hx hr h4 hrow hcl hc
  simp only [List.forall_mem_cons, List.not_mem_nil, false_imp_iff, implies_true, and_true]
  exact ⟨h State.doRegRead rfl rfl, h State.doRegWrite rfl rfl, h State.doImgBegin rfl rfl, h State.doImgData rfl rfl, h State.doImgEnd rfl rfl,
    h State.doImgAbort rfl rfl, h State.doColdLoad rfl rfl, h State.doXchgStage rfl rfl, h State.doXchgArm rfl rfl, h State.doXchgDisarm rfl rfl,
    h State.doXchgDiscard rfl rfl, h State.doForceSet rfl rfl, h State.doForceClear rfl rfl, h State.doForceList rfl rfl, h State.doPartStatus rfl rfl,
    h State.doTileRead rfl rfl, h State.doRstore rfl rfl, h State.doErrRead rfl rfl, h State.doErrClear rfl rfl, h State.doErrCfg rfl rfl⟩

variable (hcl : x.claim = false)
include hcl

theorem exec_tenant_refused (hp : s.mPart ⟨sess.toNat, req.toNat, x.role, x.part⟩ = none) (args : List Byte) :
    ∀ e ∈ ([(.imgBegin sess req args, 0x0020), (.coldLoad sess req args, 0x0024), (.xchgStage sess req args, 0x0030),
      (.forceSet sess req args, 0x0040), (.tileRead sess req args, 0x0051), (.errRead sess req args, 0x0053)] : List (Instr × Nat)),
    exec e.1 s = .next ((s.registered sess.toNat req.toNat x e.2).mAns ⟨sess.toNat, req.toNat, x.role, x.part⟩ msROLE) := by
  have h {i : Instr} {code : Nat} (f : State → MoorBy → List Byte → State)
      (hrow : exec i s = s.onCore (fun s => s.moorRow sess.toNat req.toNat code args f)) (g : Nat → State → State)
      (hf : ∀ u, f u ⟨sess.toNat, req.toNat, x.role, x.part⟩ args = u.mTenant ⟨sess.toNat, req.toNat, x.role, x.part⟩ g) :=
    exec_tenant_none hs hx hr h4 hcl g hrow hp hf
  simp only [List.forall_mem_cons, List.not_mem_nil, false_imp_iff, implies_true, and_true]
  exact ⟨h State.doImgBegin rfl _ fun _ => rfl, h State.doColdLoad rfl _ fun _ => rfl, h State.doXchgStage rfl _ fun _ => rfl,
    h State.doForceSet rfl _ fun _ => rfl, h State.doTileRead rfl _ fun _ => rfl, h State.doErrRead rfl _ fun _ => rfl⟩

/-- XCHG-ARM and XCHG-DISARM. -/
theorem exec_arming {p : Nat} (hp : s.mPart ⟨sess.toNat, req.toNat, x.role, x.part⟩ = some p) :
    ∀ e ∈ ([(.xchgArm sess req [], xsSTAGED, xsARMED), (.xchgDisarm sess req [], xsARMED, xsSTAGED)] : List (Instr × Nat × Nat)),
    (s.xstate p = e.2.1 → ∃ t : State, exec e.1 s = .next t ∧ t.xstate p = e.2.2 ∧ t.out = s.out ++ [Msg.reply sess.toNat req.toNat msOK true []] ∧
      (∀ a, a ≠ R.ENG_XCHG_STAT p → t.reg a = s.reg a)) ∧
    (s.xstate p ≠ e.2.1 → ∃ t : State, exec e.1 s = .next t ∧ t.srf = s.srf ∧
      t.out = s.out ++ [Msg.reply sess.toNat req.toNat msSTATE true []]) := by
  have h {i : Instr} {v w code : Nat} (f : State → MoorBy → List Byte → State) (hw : w < 2 ^ F.ENG_XCHG_STAT_STATE.len)
      (hrow : exec i s = s.onCore (fun s => s.moorRow sess.toNat req.toNat code [] f))
      (hf : f (s.registered sess.toNat req.toNat x code) ⟨sess.toNat, req.toNat, x.role, x.part⟩ [] =
        if (s.registered sess.toNat req.toNat x code).xstate p = v then
          ((s.registered sess.toNat req.toNat x code).setXstate p w).mAns ⟨sess.toNat, req.toNat, x.role, x.part⟩ msOK
        else (s.registered sess.toNat req.toNat x code).mAns ⟨sess.toNat, req.toNat, x.role, x.part⟩ msSTATE) :
      (s.xstate p = v → ∃ t : State, exec i s = .next t ∧ t.xstate p = w ∧ t.out = s.out ++ [Msg.reply sess.toNat req.toNat msOK true []] ∧
        (∀ a, a ≠ R.ENG_XCHG_STAT p → t.reg a = s.reg a)) ∧
      (s.xstate p ≠ v → ∃ t : State, exec i s = .next t ∧ t.srf = s.srf ∧
        t.out = s.out ++ [Msg.reply sess.toNat req.toNat msSTATE true []]) := by
    rw [exec_of_row hs hx hr h4 hrow (.inl hcl), hf]
    obtain ⟨h1, h2⟩ := (s.registered sess.toNat req.toNat x code).setXstate_spec p w hw
    exact ⟨fun hv => ⟨_, congrArg _ (if_pos hv), h1, rfl, h2⟩, fun hv => ⟨_, congrArg _ (if_neg hv), rfl, rfl⟩⟩
  simp only [List.forall_mem_cons, List.not_mem_nil, false_imp_iff, implies_true, and_true]
  exact ⟨h State.doXchgArm (by decide) rfl (State.doXchgArm_eq hp), h State.doXchgDisarm (by decide) rfl (State.doXchgDisarm_eq hp)⟩

end

/-- Settles O57: a command is carried out on the state with its request registered, and each is followed through its checks. -/
theorem mooringProgramCommands : Obligations.MooringProgramCommands := by
  unfold Obligations.MooringProgramCommands
  intro s sess req x hs hx hr h4 b reg
  have run {i : Instr} {code : Nat} {args : List Byte} (f : State → MoorBy → List Byte → State) (hcl : x.claim = false)
      (hrow : exec i s = s.onCore (fun s => s.moorRow sess.toNat req.toNat code args f)) : exec i s = .next (f (reg code) b args) :=
    exec_of_row hs hx hr h4 hrow (.inl hcl)
  refine ⟨exec_sessionCommands hs hx hr h4, ?_, ?_, fun hcl => exec_program_claim hs hx hr h4 hcl, fun hcl => ⟨fun hro => ⟨fun a => ?_, fun a w => ?_⟩,
    fun hro args => ⟨?_, ?_⟩, fun p hp hlt => ?_, fun hp => exec_tenant_refused hs hx hr h4 hcl hp⟩, fun p g se rq => exec_coldLoadPlaced hs⟩
  · exact exec_of_row (code := 0x0001) (f := State.doNop) (args := []) hs hx hr h4 rfl (.inr rfl)
  · refine ⟨_, exec_of_row (code := 0x0002) (f := State.doClose) (args := []) hs hx hr h4 rfl (.inr rfl), ?_⟩
    exact State.endSession_gone ..
  · exact (run State.doRegRead hcl rfl).trans (congrArg _ (State.doRegRead_one hro a))
  · exact (run State.doRegWrite hcl rfl).trans (congrArg _ (State.doRegWrite_one hro a w))
  · exact (run State.doRegRead hcl rfl).trans (congrArg _ (if_pos hro))
  · exact (run State.doRegWrite hcl rfl).trans (congrArg _ (if_pos hro))
  refine ⟨fun args hlen ha0 ha1 hf hz hxf hrc => ⟨?_, ?_⟩, fun v args hv hver hlen ho hfit => ?_, fun v i hv hver hi ht => ?_, ?_, fun hrc => ?_,
    fun i hi hf hz hc => ?_, ?_, exec_arming hs hx hr h4 hcl hp, fun h1 h2 => ?_, fun ident i v => ⟨fun c hc => ?_, fun hc hsh => ?_, fun hsh => ?_⟩, ?_, ?_,
    fun loc => ?_, fun r => ?_, fun n h0 h16 => ?_, ?_, fun w => ?_⟩
  · intro hh
    exact (run State.doImgBegin hcl rfl).trans (congrArg _ ((State.imgBegin_spec (u := reg 0x0020) hp hlen ha0 ha1 hf hz hxf hrc).1 hh))
  · intro hh
    refine ⟨_, (run State.doImgBegin hcl rfl).trans (congrArg _ ((State.imgBegin_spec (u := reg 0x0020) hp hlen ha0 ha1 hf hz hxf hrc).2 hh)), ?_, rfl, rfl⟩
    have hpart (w : State) (g : MoorSt → MoorSt) (m : Msg) (fn : PartSt → PartSt) : (((w.modPart p fn).setMoor g).send m).part p = fn (w.part p) :=
      State.part_modPart_same ..
    exact congrArg PartSt.xfer (hpart _ _ _ _)
  · exact ⟨_, run State.doImgData hcl rfl, State.imgData_spec (u := reg 0x0021) hp hv hver hlen ho hfit⟩
  · exact ⟨_, run State.doImgEnd hcl rfl, State.imgEnd_spec (u := reg 0x0022) hp hv hver hi ht⟩
  · exact ⟨_, run State.doImgAbort hcl rfl, State.imgAbort_spec (u := reg 0x0023) hp⟩
  · exact (run State.doColdLoad hcl rfl).trans (congrArg _ (State.coldLoad_none (u := reg 0x0024) hp hrc))
  · intro old hyp
    refine ⟨fun h => (run State.doColdLoad hcl rfl).trans (congrArg _ (State.coldLoad_refused (u := reg 0x0024) hp hi hf hz hc h)), fun h ha => ?_⟩
    obtain ⟨map, h1, h2, h3, h5⟩ := State.coldLoad_starts (u := reg 0x0024) hp hi hf hz hc h ha
    exact ⟨_, map, run State.doColdLoad hcl rfl, h1, h2, h3, h5⟩
  · exact (run State.doXchgStage hcl rfl).trans (congrArg _ (State.doXchgStage_eq (u := reg 0x0030) hp))
  · exact (run State.doXchgDiscard hcl rfl).trans (congrArg _ (State.doXchgDiscard_eq (u := reg 0x0033) hp h1 h2))
  · exact (run State.doForceSet hcl rfl).trans (congrArg _ ((State.doForceSet_eq (u := reg 0x0040) hp ident i v).1 c hc))
  · exact ⟨_, (run State.doForceSet hcl rfl).trans (congrArg _ ((State.doForceSet_eq (u := reg 0x0040) hp ident i v).2 hc hsh)),
      State.mem_forceSet .., congrArg (· ++ _) (State.forceSet_out ..)⟩
  · exact ⟨_, (run State.doForceClear hcl rfl).trans (congrArg _ (State.doForceClear_eq (u := reg 0x0041) hp ident i hsh)),
      (reg 0x0041).mem_forceClear p ident.toNat i.toNat⟩
  · refine (run State.doForceList hcl rfl).trans (congrArg _ ?_)
    rw [State.doForceList, State.mTenant_some _ (show (reg 0x0042).mPart b = some p from hp), State.mLen_of (args := []) (n := 0) _ rfl]
    rfl
  · obtain ⟨data, h1, h2⟩ := State.doPartStatus_spec (u := reg 0x0050) hp
    exact ⟨_, data, run State.doPartStatus hcl rfl, h1, h2⟩
  · exact (run State.doTileRead hcl rfl).trans (congrArg _ (State.doTileRead_eq (u := reg 0x0051) hp loc))
  · exact (run State.doRstore hcl rfl).trans (congrArg _ (State.doRstore_eq (u := reg 0x0052) hp r))
  · exact ⟨_, run State.doErrRead hcl rfl, State.doErrRead_spec (u := reg 0x0053) hp n h0 h16⟩
  · exact ⟨_, run State.doErrClear hcl rfl, State.doErrClear_spec (u := reg 0x0054) hp⟩
  · obtain ⟨h1, h2⟩ := State.doErrCfg_spec (u := reg 0x0055) hp w
    exact ⟨fun hc => ⟨_, run State.doErrCfg hcl rfl, h1 hc⟩, fun h hc => (run State.doErrCfg hcl rfl).trans (congrArg _ (h2 h hc))⟩

end Sys2Proof.Machine

/-!
SUPPORT. ATTEST at its landing (R455, R538): the report waits for window 7, and the client is answered PENDING at once.
-/
namespace Sys2Proof.Machine

section
variable {s : State} {sess : BitVec 32} {req : BitVec 16} {x : Session}
variable (hs : s.coreOn = true) (hx : s.session sess.toNat = some x) (hr : x.ready = true) (h4 : x.openReqs.length < 4) (hcl : x.claim = false)
include hs hx hr h4 hcl

/-- The effect of ATTEST in a READY session of a tenant, or of an owner for partition 0. -/
theorem exec_attest {p : Nat} {args : List Byte} (hp : s.mPart ⟨sess.toNat, req.toNat, x.role, x.part⟩ = some p) (hargs : args.length = 48) :
    exec (.attest sess req args) s = .next (((s.registered sess.toNat req.toNat x 0x0078).setMoor (fun m =>
      { m with work := m.work ++ [.attest sess.toNat req.toNat ((s.registered sess.toNat req.toNat x 0x0078).report p args)] })).mPend
        ⟨sess.toNat, req.toNat, x.role, x.part⟩) :=
  (exec_tenant hs hx hr h4 hcl _ rfl hp (fun _ => rfl)).trans (congrArg Host.Outcome.next (State.mLen_of _ hargs))

/-- ATTEST sends PENDING at its landing: R538's table marks it "P". -/
theorem attest_sends_pending {p : Nat} {args : List Byte} (hp : s.mPart ⟨sess.toNat, req.toNat, x.role, x.part⟩ = some p)
    (hargs : args.length = 48) {t : State} (ht : exec (.attest sess req args) s = .next t) :
    t.out = s.out ++ [Msg.reply sess.toNat req.toNat msPENDING false []] := by
  rw [exec_attest hs hx hr h4 hcl hp hargs] at ht
  cases ht
  rfl

end

/-- A READY session of the tenant of partition 1, with no request open. -/
def tenantSession : Session where
  role := roTENANT
  part := 1
  ready := true
  cert := 0
  claim := false
  root := []
  leaf := []
  th2 := []
  kcm := []
  kmc := []
  seqOut := 0
  seqIn := []
  began := 0
  heard := 0
  openReqs := []
  frags := []
  fragLast := 0
  fragAt := 0
  path := ⟨false, 0, 0, 0⟩

/-- The state after reset in which that session stands as session 1. -/
def tenantConnected : State := State.reset.setSession 1 tenantSession

/-- Refutes O60: it says that ATTEST sends nothing at its landing, where the client is answered PENDING (R455, R538's "P"). The state
is the one after reset with a READY session of the tenant of partition 1, which sends an ATTEST with a nonce of 48 zero bytes. -/
theorem not_mooringModuleCommands : ¬ Obligations.MooringModuleCommands := by
  unfold Obligations.MooringModuleCommands
  intro h
  have hs : tenantConnected.coreOn = true := rfl
  have hx : tenantConnected.session (1 : BitVec 32).toNat = some tenantSession := tget_tput ..
  have hp : tenantConnected.mPart ⟨(1 : BitVec 32).toNat, (0 : BitVec 16).toNat, tenantSession.role, tenantSession.part⟩ = some 1 := rfl
  have hargs : (List.replicate 48 (0 : Byte)).length = 48 := List.length_replicate
  obtain ⟨-, hcommands, -⟩ := h tenantConnected 1 0 tenantSession hs hx rfl (by decide)
  obtain ⟨-, -, -, -, -, -, -, htenant⟩ := hcommands rfl
  obtain ⟨-, -, -, hattest, -⟩ := htenant 1 hp (by decide)
  obtain ⟨t, ht, hout, -⟩ := hattest _ hargs
  have hsent := attest_sends_pending hs hx rfl (by decide) rfl hp hargs ht
  exact List.cons_ne_nil _ _ (List.self_eq_append_right.mp (hout.symm.trans hsent))

end Sys2Proof.Machine
